-- ==== Sys2Proof/Word.lean ====
section
/-! DEFINITION. The word types of the block and its sparse stores: a line, a codeword, and a list of
(key, value) pairs in one canonical form (keys strictly rising). -/
namespace Sys2Proof

/-- The 64 bytes of a line (glossary of 00_scope.md), or the DATA field of a codeword (R69). -/
abbrev Line := BitVec 512

/-- The 576 bits of one line slot (R13, R69). -/
abbrev Codeword := BitVec 576

/-- One bit for each byte of a line: a byte mask or byte enables (R132, R136). -/
abbrev ByteMask := BitVec 64

/-- A 256-bit AES key (R287). -/
abbrev Key256 := BitVec 256

/-- A sparse store: pairs of a key and a value, keys strictly rising. -/
abbrev Sparse (α : Type) := List (Nat × α)

namespace Sparse

variable {α : Type}

/-- The value listed for a key, if any. -/
def find : Sparse α → Nat → Option α
  | [], _ => none
  | (k, v) :: rest, key => if k = key then some v else find rest key

/-- The value of a key, an unlisted key having the value `d`. -/
def getD (m : Sparse α) (key : Nat) (d : α) : α := (find m key).getD d

/-- Lists a value for a key, in place of the value listed before. -/
def insert : Sparse α → Nat → α → Sparse α
  | [], key, v => [(key, v)]
  | (k, w) :: rest, key, v =>
    if key < k then (key, v) :: (k, w) :: rest
    else if k = key then (key, v) :: rest
    else (k, w) :: insert rest key v

/-- Lists no value for a key any more. -/
def erase : Sparse α → Nat → Sparse α
  | [], _ => []
  | (k, w) :: rest, key => if k = key then rest else (k, w) :: erase rest key

/-- Writes a value; the value `d` of an unlisted key is never listed. -/
def put [DecidableEq α] (m : Sparse α) (d : α) (key : Nat) (v : α) : Sparse α :=
  if v = d then erase m key else insert m key v

/-- Every key listed lies above `lo`, and the keys rise strictly. -/
def risingFrom : Nat → Sparse α → Bool
  | _, [] => true
  | lo, (k, _) :: rest => decide (lo ≤ k) && risingFrom (k + 1) rest

/-- The canonical form: keys strictly rising. -/
def wf (m : Sparse α) : Bool := risingFrom 0 m

end Sparse

/-- `n` divided by `d`, rounded up. -/
def ceilDiv (n d : Nat) : Nat := (n + d - 1) / d

/-- Bits `[lo + width - 1 : lo]` of a number. -/
def bitsOf (v lo width : Nat) : Nat := (v >>> lo) % 2 ^ width

/-- `v` with bit `b` set. -/
def setBit (v b : Nat) : Nat := v ||| 2 ^ b

/-- `v` with bit `b` clear. -/
def clearBit (v b : Nat) : Nat := if v.testBit b then v - 2 ^ b else v

/-- `v` with bit `b` made equal to `x`. -/
def putBit (v b : Nat) (x : Bool) : Nat := if x then setBit v b else clearBit v b

/-- 1 or 0. -/
def bitNat (b : Bool) : Nat := if b then 1 else 0

/-- A count that rises to `max` and stays there. -/
def satAdd (max v k : Nat) : Nat := min max (v + k)

/-- `n` bytes of a number, least significant first. -/
def bytesLE : Nat → Nat → List Nat
  | 0, _ => []
  | n + 1, v => v % 256 :: bytesLE n (v / 256)

/-- The number whose bytes, least significant first, are given. -/
def ofBytesLE : List Nat → Nat
  | [] => 0
  | b :: rest => b % 256 + 256 * ofBytesLE rest

/-- A list with `f` applied at position `i`. -/
def modAt {α : Type} : List α → Nat → (α → α) → List α
  | [], _, _ => []
  | a :: rest, 0, f => f a :: rest
  | a :: rest, i + 1, f => a :: modAt rest i f

/-- The numbers below `n` that satisfy `p`, in rising order. -/
def below (n : Nat) (p : Nat → Bool) : List Nat := (List.range n).filter p

/-- The least element of a list under a measure, the first of several equals. -/
def minBy {α : Type} (f : α → Nat) : List α → Option α
  | [] => none
  | a :: rest =>
    match minBy f rest with
    | none => some a
    | some b => if f b < f a then some b else some a

/-- The greatest element of a list under a measure, the first of several equals. -/
def maxBy {α : Type} (f : α → Nat) : List α → Option α
  | [] => none
  | a :: rest =>
    match maxBy f rest with
    | none => some a
    | some b => if f a < f b then some b else some a

/-- The bits of `m`'s set bytes select bytes of `new`, the others bytes of `old` (R135). -/
def mergeBytes (m : ByteMask) (new old : Line) : Line :=
  let bits : Line := (List.range 64).foldl
    (fun acc i => if m.getLsbD i then acc ||| (255#512 <<< (8 * i)) else acc) 0#512
  (new &&& bits) ||| (old &&& ~~~ bits)

/-- Every byte of a line selected. -/
def fullMask : ByteMask := BitVec.allOnes 64

/-- Eight steps of the reflected CRC-32C register (RFC 3720). -/
def crc32Bits : Nat → Nat → Nat
  | 0, c => c
  | n + 1, c => crc32Bits n (if c.testBit 0 then (c >>> 1) ^^^ 0x82F63B78 else c >>> 1)
/-- The CRC-32C of bytes, continued from the CRC of the bytes before; 0 starts a new one. -/
def crc32c (seed : Nat) (bytes : List Nat) : Nat :=
  (bytes.foldl (fun c b => crc32Bits 8 (c ^^^ b)) (seed ^^^ 0xFFFFFFFF)) ^^^ 0xFFFFFFFF

end Sys2Proof
end

