-- ==== Sys2Proof/Machine/StateBase.lean ====
section
/-! DEFINITION. The kinds of data State is made of: parts, device and tile states, reservoir entries, reads,
strokes, segments, occurrences, recorders, parameter stores. Plain data only. -/
namespace Sys2Proof.Machine

/-- The three parts (R1). -/
inductive Part where
  | a2 | a4 | a8
  deriving DecidableEq, Repr

/-- Tiles of a part (R14). -/
def Part.tiles : Part → Nat
  | .a2 => 2
  | .a4 => 4
  | .a8 => 8

/-- Tile pairs of a part (R17). -/
def Part.pairs (p : Part) : Nat := p.tiles / 2

/-- Bytes of the package's DPA space (R59). -/
def Part.capacity : Part → Nat
  | .a2 => 3000034656256
  | .a4 => 6000069312512
  | .a8 => 12000138625024

/-- Device states (R431, R475); `unpowered` is the state without VAUX. -/
inductive DevState where
  | unpowered | aux | seq | test | rebuild | ready | degraded | drain | safe | halted
  deriving DecidableEq, Repr

/-- Device state codes (R431). `unpowered` is never reported. -/
def DevState.code : DevState → Nat
  | .unpowered => 0
  | .aux => 1
  | .seq => 2
  | .test => 3
  | .rebuild => 4
  | .ready => 5
  | .degraded => 6
  | .drain => 7
  | .safe => 8
  | .halted => 9

/-- Tile states (R254). -/
inductive TileState where
  | active | fencing | fenced | rejoining
  deriving DecidableEq, Repr

/-- Tile state codes (`TILE_STATE`, R43). -/
def TileState.code : TileState → Nat
  | .active => 0
  | .fencing => 1
  | .fenced => 2
  | .rejoining => 3

/-- Health states (R492). -/
inductive Health where
  | good | worn | critical
  deriving DecidableEq, Repr

/-- `HEALTH_STATE` codes (R442). -/
def Health.code : Health → Nat
  | .good => 0
  | .worn => 1
  | .critical => 2

/-- One occurrence of an event, staged for the next publish (R456). -/
structure Occ where
  code : Nat
  tile : Nat
  ts : Nat
  cls : Nat
  value : Nat
  payload : Nat
  holdover : Bool
  /-- Not to be posted to the CXL event logs (R382). -/
  quiet : Bool
  /-- The logical device of a dynamic capacity event, as 16 × port + LD (R381). -/
  home : Option Nat
  deriving DecidableEq, Repr

/-- One entry of a recorder ring (17, table "entry"). -/
structure RecEntry where
  seq : Nat
  code : Nat
  tile : Nat
  ts : Nat
  cls : Nat
  value : Nat
  payload : Nat
  holdover : Bool
  suppr : Bool
  released : Bool
  deriving DecidableEq, Repr

/-- One summary record (R457). -/
structure Summary where
  count : Nat
  hist : List Nat
  max : Nat
  min : Nat
  firstTs : Nat
  lastTs : Nat
  dropped : Nat
  suppressed : Nat
  clearTs : Nat
  tile : Nat
  deriving DecidableEq, Repr

/-- A summary as it stands after a clear at `clearTs`, or at first power-up with 0 (R457, R460). -/
def Summary.empty (clearTs : Nat) : Summary :=
  { count := 0, hist := List.replicate 16 0, max := 0, min := 2 ^ 64 - 1, firstTs := 0, lastTs := 0,
    dropped := 0, suppressed := 0, clearTs := clearTs, tile := 0 }

/-- The level of a rate bucket in 10^-9 tokens, and the time it had it (R461). -/
structure RateBucket where
  level : Nat
  at_ : Nat
  deriving DecidableEq, Repr

/-- One recorder: a tile's, or the package's (R455 to R466). -/
structure Recorder where
  staged : List Occ
  clears : List Nat
  releaseTo : List Nat
  seq : Nat
  head : Nat
  ring : List RecEntry
  sums : Sparse Summary
  buckets : Sparse RateBucket
  supprSince : List Nat
  changed : Bool
  saveWanted : Bool
  lastSave : Option Nat
  /-- Start of the last save under row 1 or row 2 of R465. -/
  fwSave : Option Nat
  nextPublish : Nat
  loaded : Bool
  deriving DecidableEq, Repr

/-- A recorder with nothing in it. -/
def Recorder.empty : Recorder :=
  { staged := [], clears := [], releaseTo := [], seq := 0, head := 0, ring := [], sums := [], buckets := [],
    supprSince := [], changed := false, saveWanted := false, lastSave := none, fwSave := none, nextPublish := 0, loaded := false }

/-- A saved recorder image (R465, R466), with its stamp (R467). -/
structure RecImage where
  sums : Sparse Summary
  ring : List RecEntry
  head : Nat
  generation : Nat
  stamp : Nat
  torn : Nat
  deriving DecidableEq, Repr

/-- What a reservoir entry holds (R132): a data line, a MAC or counter line, or a span-parity line (R249). -/
inductive EKind where
  | data | metaLine | span
  deriving DecidableEq, Repr

/-- Reservoir line states (R132); `incomplete` is PARTIAL. -/
inductive LineState where
  | clean | dirty | incomplete | inflight | mirror | pinned
  deriving DecidableEq, Repr

/-- Whether a state is in the dirty count (R132). -/
def LineState.counted : LineState → Bool
  | .clean => false
  | _ => true

/-- A reservoir entry (R132, R290, R302, R323). -/
structure Entry where
  id : Nat
  kind : EKind
  addr : Nat
  part : Nat
  dpa : Nat
  kx : Nat
  st : LineState
  mask : ByteMask
  redirty : Bool
  data : Line
  /-- The stored form of an entry that holds a stored form only (R301, R302, R249). -/
  storedOnly : Option Line
  /-- An uncorrectable error has poisoned the line (R155). -/
  poisoned : Bool
  /-- ZERO marked the line BLANK (R323). -/
  blank : Bool
  overflow : Bool
  /-- The tile that owns the line: another tile for MIRROR and stand-in entries (R132, R257). -/
  owner : Nat
  /-- Order in which lines became DIRTY (R138) and were last used (R134). -/
  stamp : Nat
  used : Nat
  deriving DecidableEq, Repr

/-- A stored-form buffer: an image of a data line (by LLA) or of a parity line (by stripe address), with its
version (R113, R141). -/
structure Buf where
  parity : Bool
  addr : Nat
  slice : Nat
  image : Line
  ver : Nat
  inflight : Bool
  deriving DecidableEq, Repr

/-- Why a stroke is made (R140, R95, R88, R86, R200, R229). -/
inductive StrokeKind where
  | evictData | evictParity | repair | poison | parityFix | refresh
  deriving DecidableEq, Repr

/-- A queued or running stroke (R140). -/
structure Stroke where
  id : Nat
  kind : StrokeKind
  parity : Bool
  /-- LLA of a data stroke, stripe address of a parity stroke. -/
  addr : Nat
  slot : Nat
  word : Codeword
  ver : Nat
  evict : Nat
  /-- The stroke goes into the target copy of a migration (R201). -/
  target : Bool
  flush : Bool
  priority : Nat
  running : Bool
  /-- Lifted and not yet through a further pulse or verify (R108). -/
  lifted : Bool
  /-- Held back by a slot hold once, counted in STROKES_HELD. -/
  held : Bool
  masked : Bool
  startedAt : Nat
  /-- Remap entry this stroke completes (nib × 32 + entry). -/
  remap : Option Nat
  deriving DecidableEq, Repr

/-- An eviction under way (R139, R140). -/
structure Evict where
  id : Nat
  addr : Nat
  kind : EKind
  part : Nat
  stripe : Nat
  dslot : Nat
  pslot : Nat
  oldD : Option Line
  oldP : Option Line
  /-- The stripe was found broken, or its parity unusable: new parity from the members (R139). -/
  fromMembers : Bool
  formed : Bool
  /-- A poison codeword is stroked (R77, R86, R155). -/
  lost : Bool
  /-- The delta of a spanned line has not been merged yet (R250). -/
  deltaWait : Bool
  delta : Line
  /-- Owner of the line: another tile for a line that its stand-in evicts (R258). -/
  owner : Nat
  /-- The flip mask corrupted the data stroke: the line leaves the reservoir (R99). -/
  masked : Bool
  ver : Nat
  dataDone : Bool
  parityDone : Bool
  /-- Strokes of the target copy still to verify (R201). -/
  copyData : Bool
  copyParity : Bool
  flush : Bool
  deriving DecidableEq, Repr

/-- A delta on its way to the parity tile: owner and LLA of the line, partition, eviction, delta (R250). -/
structure DeltaMsg where
  owner : Nat
  lla : Nat
  part : Nat
  evict : Nat
  delta : Line
  deriving DecidableEq, Repr

/-- What a medium read is for. -/
inductive RdFor where
  | host | fetch | oldData | oldParity | metaLine
  deriving DecidableEq, Repr

/-- Where a sense stands in its nib (R110, R112). -/
inductive SensePos where
  | entry | internal | direct | member | service | lifted
  deriving DecidableEq, Repr

/-- One codeword on its way from the medium to the decoder. -/
structure Sense where
  rd : Nat
  /-- Member position of the codeword in its stripe (R80). -/
  pos : Nat
  slot : Nat
  at_ : SensePos
  asMember : Bool
  order : Nat
  deriving DecidableEq, Repr

/-- Where an access comes from (R273, R333). -/
inductive Iface where
  | cxl | scribe | debug | maint
  deriving DecidableEq, Repr

/-- A line access as it was decoded: a CXL.mem request, a Scribe line access, a debug access or a line of a scrub pass
(R45 to R56, R104, R126). -/
structure Req where
  iface : Iface
  port : Nat
  ld : Nat
  tag : Nat
  cls : Nat
  /-- Token source: ports 0 to 7, Scribe engines 8 to 15 (R337). -/
  src : Nat
  kx : Nat
  dpa : Nat
  part : Nat
  tile : Nat
  lla : Nat
  write : Bool
  mask : ByteMask
  data : Line
  poison : Bool
  /-- ZERO marks the line BLANK (R323). -/
  zero : Bool
  /-- The class the Feed charges: another one for debug and maintenance accesses (R333). -/
  feedCls : Nat
  /-- 0 no atomic, 1 CAS64, 2 FADD64; the comparison value of a CAS64 (R177). -/
  atom : Nat
  cmp : Nat
  /-- Timebase of the port's tile when the access was decoded and when it was admitted (R8, R9, R122). -/
  decodedAt : Nat
  admittedAt : Nat
  /-- Held behind a key purge at its decode: its rights are checked at its release (R281, R283). -/
  keyWait : Bool
  order : Nat
  /-- Descriptor a Scribe access belongs to: queue (64 × tile + queue), descriptor index, step. -/
  queue : Nat
  desc : Nat
  step : Nat
  deriving DecidableEq, Repr

/-- The phases of a medium read: members or the line still to come; every member of a read-around there; an ERASED
codeword waiting for its rebuild (R84); a double erasure waiting for its re-reads (R85); DATA known; a sealed line
waiting for its metadata (R118, R300); a line of a fenced tile waiting for its group members (R257); a re-keying waiting for the merge of the other entry (R291). -/
inductive RdPhase where
  | sensing | gathered | erased | retry | decoded | awaitMeta | recon | rekey
  deriving DecidableEq, Repr

/-- A read of the medium under way at its owning tile (R107, R110, R114, R84, R85). -/
structure Rd where
  id : Nat
  why : RdFor
  req : Req
  kind : EKind
  part : Nat
  lla : Nat
  /-- Stripe address, member position and slot of the codeword read. -/
  stripe : Nat
  pos : Nat
  slot : Nat
  /-- Path code of R122. -/
  path : Nat
  around : Bool
  /-- A speculative read-around runs beside the direct read (R111). -/
  spec : Bool
  /-- Die and slot class of the member transfers whose class the speculation's outcome still decides (R447). -/
  specSlots : List (Nat × Nat)
  /-- The response has been given; what still comes is discarded (R111). -/
  answered : Bool
  phase : RdPhase
  /-- Member positions of the read-around still to come, the XOR so far. -/
  left : List Nat
  acc : Line
  /-- Members known through a retry, and the positions that decoded ERASED (R85). -/
  kept : List (Nat × Line)
  erased : List Nat
  lost : Bool
  /-- Integrity failures met so far (R307). -/
  tries : Nat
  /-- The eviction, queue or record the read serves. -/
  link : Nat
  /-- Nib token still held, by die (R120). -/
  nib : Option Nat
  hops : Nat
  deriving DecidableEq, Repr

/-- A slot hold: slot, read that placed it (R107). -/
structure Hold where
  slot : Nat
  rd : Nat
  deriving DecidableEq, Repr

/-- A read that waits for the fetch of a PARTIAL line (the entry's number), with its copied bytes and mask (R106). -/
structure PartialWait where
  entry : Nat
  req : Req
  mask : ByteMask
  data : Line
  hops : Nat
  deriving DecidableEq, Repr

/-- A shadow entry: the tile whose list it stands in, KIND and ADDR (R148). -/
structure ShadowEntry where
  owner : Nat
  kind : Nat
  addr : Nat
  deriving DecidableEq, Repr

/-- An acceptance-log entry: port and ingress tag of the last write accepted under a token (R266). -/
structure LogEntry where
  port : Nat
  ld : Nat
  tag : Nat
  deriving DecidableEq, Repr

/-- The conditions of a physical segment (R181). -/
inductive SegCond where
  | bound | target | free | quarantined | retired | donor
  deriving DecidableEq, Repr

/-- What the tile knows of a physical segment beside its headers (R182, R185, R195). -/
structure Seg where
  cond : SegCond
  moves : Nat
  blanked : Bool
  /-- MOVES at the last blanking: where the gap form lies (R192, R195). -/
  blankMoves : Nat
  omega : Nat
  lseg : Nat
  reason : Nat
  /-- Age table entry: time of the last refresh, 16-bit units (08). -/
  age : Nat
  class11 : Bool
  /-- Timebase count of the end of its last patrol visit (R227). -/
  visitedAt : Nat
  deriving DecidableEq, Repr

/-- A physical segment as shipped (R188). [DEDUCED, assumption 6] -/
def Seg.shipped : Seg :=
  { cond := .free, moves := 0, blanked := true, blankMoves := 0, omega := 0, lseg := 0xFFFFFF, reason := 0,
    age := 0, class11 := false, visitedAt := 0 }

/-- STATE of a map entry (R182). -/
inductive MapState where
  | fresh | bound | migrating | lost
  deriving DecidableEq, Repr

/-- STATE codes of a map entry (R182). -/
def MapState.code : MapState → Nat
  | .fresh => 0
  | .bound => 1
  | .migrating => 2
  | .lost => 3

/-- A segment map entry with its placement-table ω (R182, R187). -/
structure MapEntry where
  st : MapState
  pseg : Nat
  writes : Nat
  omega : Nat
  deriving DecidableEq, Repr

/-- A FRESH map entry (R183). -/
def MapEntry.fresh : MapEntry := { st := .fresh, pseg := 0, writes := 0, omega := 0 }

/-- Where a reservoir SRAM error lies (R155): corrected in a slice and set; uncorrectable in an entry's data, in the
stored-form buffer of a data image or of a parity image, in a tag. -/
inductive ResFault where
  | corrected (slice set : Nat)
  | entry (id : Nat)
  | dataBuf (addr : Nat)
  | parityBuf (stripe : Nat)
  | tag (id : Nat)
  deriving DecidableEq, Repr

/-- A segment header (R188). -/
structure Header where
  seq : Nat
  state : Nat
  blanked : Bool
  retired : Bool
  partition : Nat
  lseg : Nat
  moves : Nat
  lastRefresh : Nat
  deriving DecidableEq, Repr

/-- The header as shipped (R188). [DEDUCED, assumption 6] -/
def Header.shipped : Header :=
  { seq := 0, state := 2, blanked := true, retired := false, partition := 0, lseg := 0xFFFFFF, moves := 0,
    lastRefresh := 0 }

/-- A migration-table entry (R199). -/
structure Migration where
  step : Nat
  reason : Nat
  ptr : Nat
  target : Nat
  source : Nat
  lseg : Nat
  tomega : Nat
  part : Nat
  deriving DecidableEq, Repr

/-- A migration trigger that waits to start (R198). -/
structure MigTrigger where
  lseg : Nat
  reason : Nat
  order : Nat
  deriving DecidableEq, Repr

/-- An evacuated failed bank (R209): die × 32 + bank, its donors in order, the pointer x. -/
structure Evac where
  bank : Nat
  donors : List Nat
  ptr : Nat
  deriving DecidableEq, Repr

/-- A partition as a COMMIT enabled it (R61, R62, R247). -/
structure PartInfo where
  /-- 0 FREE, 1 ACTIVE, 2 RELEASING (R68). -/
  st : Nat
  base : Nat
  size : Nat
  spanned : Bool
  isSealed : Bool
  forerunner : Bool
  tileSet : Nat
  gran : Nat
  sealKx : Nat
  data : Nat
  meta_ : Nat
  total : Nat
  segBase : List Nat
  spanBase : List Nat
  deriving DecidableEq, Repr

/-- A partition number no COMMIT has enabled. -/
def PartInfo.free : PartInfo :=
  { st := 0, base := 0, size := 0, spanned := false, isSealed := false, forerunner := false, tileSet := 0, gran := 1,
    sealKx := 0, data := 0, meta_ := 0, total := 0, segBase := List.replicate 8 0xFFFFFFFF,
    spanBase := List.replicate 8 0xFFFFFFFF }

/-- A remap entry (R93). -/
structure Remap where
  valid : Bool
  pending : Bool
  hits : Nat
  bank : Nat
  slot : Nat
  spare : Nat
  deriving DecidableEq, Repr

/-- A quarantined segment, oldest first (R207). -/
structure Quarantine where
  reason : Nat
  pseg : Nat
  lseg : Nat
  deriving DecidableEq, Repr

/-- A lost line and what lost it, as the poison list reports it (R86, R382). -/
structure Poison where
  lla : Nat
  source : Nat
  deriving DecidableEq, Repr

/-- A slot ring: 32 slots of SEQ, VALUE and validity (R471, R472). -/
structure RingSlot where
  seq : Nat
  value : Nat
  valid : Bool
  deriving DecidableEq, Repr

end Sys2Proof.Machine
end

