-- ==== Sys2Proof/Machine/StateTile.lean ====
section
/-! DEFINITION. The state of one tile: timebase, supply, medium, reservoir, reads, translation, patrol, fencing,
parameter store. Plain data only. -/
namespace Sys2Proof.Machine

/-- Timebase and ring links of a tile (R31 to R34, R22, R24). -/
structure TileTime where
  tb : Nat
  /-- Timebase count at which a reference or a marker was last had. -/
  lastSync : Nat
  locked : Bool
  holdover : Bool
  linkE : Bool
  linkW : Bool
  /-- Powered-on time of the tile, ns (R471 ring 5). -/
  onNs : Nat
  deriving DecidableEq, Repr

/-- The bound-tracking supply and the temperatures of a tile (R392, R393, R395, R512). -/
structure TileSup where
  railsUp : Bool
  vddk : Nat
  vddkFloor : Nat
  need : Nat
  margin : Int
  /-- Timebase count since which the margin has been above 6 percent. -/
  above6 : Option Nat
  btLimit : Bool
  /-- Timebase count since which the margin has been at or above 2 percent. -/
  okSince : Option Nat
  /-- Hottest reading of the tile's dies, °C (R512). -/
  temp : Int
  dieTemps : List Int
  deriving DecidableEq, Repr

/-- The medium of a tile: codewords at slot addresses, headers, remap tables, failures, flip mask (03, 07). -/
structure TileMed where
  /-- Codewords of slots that a stroke has written since their last blanking, by slot address. -/
  slots : Sparse Codeword
  /-- Headers written since shipping, by segment × 2 + copy (R188). -/
  hdr : Sparse Header
  /-- Remap entries in use, by nib × 32 + entry (R93). -/
  remap : Sparse Remap
  /-- Spare lines used or retired, as slot addresses (R95). -/
  spares : List Nat
  /-- Failed banks as die × 32 + bank, and failed dies (R91). -/
  failedBanks : List Nat
  failedDies : List Nat
  /-- Per bank, the last distinct slots read and whether each was ERASED after its retry, newest first (R91). -/
  readHist : Sparse (List (Nat × Bool))
  /-- Per bank, the slots that failed verify with their times, newest first (R91). -/
  failHist : Sparse (List (Nat × Nat))
  /-- Per die, commands in a row that the stack interface reported unanswered (R91). -/
  silent : Sparse Nat
  /-- Flip mask armed (R98). -/
  flipArmed : Bool
  /-- Lifetime strokes of the tile (R471 ring 4). -/
  strokes : Nat
  deriving DecidableEq, Repr

/-- The reservoir, the evictions and strokes of a tile, and the address shadow it holds (05, 09). -/
structure TileRes where
  /-- The key of the line hash drawn at power-up (R132). -/
  hashKey : Nat
  entries : List Entry
  bufs : List Buf
  evicts : List Evict
  strokes : List Stroke
  pwaits : List PartialWait
  /-- Requests of spanned writes merged here and waiting for the mirror acknowledgement (R129). -/
  cmpWait : List Req
  /-- Accepted writes whose Cmp waits for the link toward the mirror tile (R128). -/
  cmpHeld : List Req
  /-- Mirror messages and, as requests that do not write, release messages on their way to the mirror tile, oldest
  first (R133). -/
  mirrorOut : List Req
  /-- Deltas on their way to the parity tiles, oldest first (R250). -/
  deltaOut : List DeltaMsg
  /-- Stripes whose evictions passed their point and are not complete (R148 KIND 2). -/
  opens : List Nat
  /-- The address shadow this tile holds for another tile (R148). -/
  shadow : List ShadowEntry
  /-- Additions (`true`) and removals that wait in the transmitter while the mirror tile is FENCING (R128). -/
  shadowQ : List (Bool × ShadowEntry)
  accLog : List LogEntry
  /-- Lines that the fence's resend still has to mirror (R261). -/
  backlog : List Nat
  seqCtr : Nat
  verCtr : Nat
  /-- Effective dirty limit L (R143). -/
  limit : Nat
  gateWas : Nat
  /-- Entries, by number, whose evictions a Global Persistent Flush waits for, once for each eviction (R153). -/
  gpf : List Nat
  /-- DRAIN flush: running, done, stopped (R149, R151); the count flushed. -/
  flush : Nat
  flushed : Nat
  deriving DecidableEq, Repr

/-- Reads of the medium, tokens and read service of a tile (04, 12). -/
structure TileRead where
  /-- Line accesses of the tile's Scribe engine and of its debug and maintenance work that wait for admission (R338). -/
  waiting : List Req
  /-- The queue from which the engine started a descriptor last (R325). -/
  lastQueue : Nat
  rds : List Rd
  senses : List Sense
  holds : List Hold
  nextId : Nat
  order : Nat
  hist : List Nat
  max : Nat
  histSeq : Nat
  freeMin : Nat
  /-- Read and write tokens in use, and allotted, by source: ports 0 to 7, Scribes 8 to 15 (R119, R130, R337). -/
  rdUse : List Nat
  wrUse : List Nat
  rdAllot : List Nat
  wrAllot : List Nat
  /-- Nib tokens in use and allotted, by nib × 16 + source (R120, R337). -/
  nibUse : List Nat
  nibAllot : List Nat
  /-- Sums of the samples of the epoch for the next allotment (R337), by 2 × kind + (0 reserved, 1 all), then source; kinds are
  read tokens, write tokens and the nib tokens of dies 0 to 15. -/
  demand : List (List Nat)
  deriving DecidableEq, Repr

/-- Translation and wear state of a tile (07). -/
structure TileMap where
  map : Sparse MapEntry
  segs : Sparse Seg
  migs : List Migration
  triggers : List MigTrigger
  seqCtr : Nat
  seqCeil : Nat
  quars : List Quarantine
  /-- Failed banks evacuated or under evacuation, oldest first (R209). -/
  evacs : List Evac
  evacBlocked : List Nat
  /-- Moves waiting for their copy (R191). -/
  movesDue : List Nat
  poison : List Poison
  /-- Time at which a LOST line was first left out of the list (R382). -/
  poisonFullAt : Option Nat
  wearThreshold : Nat
  deriving DecidableEq, Repr

/-- Drift clock and patrol of a tile (08). -/
structure TilePat where
  drift : Nat
  /-- Part of a drift unit, in 1/(256 × 7,800 × 10^9) unit. -/
  driftFrac : Nat
  /-- 7,800 times the drift rate F, which is in 1/256 drift unit per second (R219): every interpolated F is a whole number of 1/7,800. -/
  rate : Nat
  /-- The physical segment under visit, D at its start, the next stripe and member position, the counts so far (R229). -/
  visit : Option Nat
  d0 : Nat
  nextStripe : Nat
  nextMember : Nat
  weak : Nat
  erased : Nat
  /-- A segment has reached the patrol interval (R231). -/
  overdue : Bool
  /-- Segments to visit in a second (R228). -/
  pace : Nat
  /-- Segments still to visit in the accelerated patrol, and when it began (R235). -/
  accel : List Nat
  accelOn : Bool
  accelSince : Nat
  /-- Units added for the absence at the last power-up (R234). -/
  absence : Nat
  /-- Segments scheduled first after an age table error (R246). -/
  first : List Nat
  /-- Visits completed (`PATROL_ROUND_DONE`), by the drift clock at their end, newest first. -/
  roundDone : List Nat
  deriving DecidableEq, Repr

/-- Fencing state of a tile (09). -/
structure TileFence where
  st : TileState
  cause : Nat
  firstCause : Nat
  fenceTime : Nat
  isoFlush : Nat
  plainLost : Nat
  standin : Nat
  mirror : Nat
  /-- Re-mirroring of this tile's lines and shadow to a new mirror tile is under way (R260). -/
  remirror : Bool
  /-- Change list that the stand-in keeps for this tile (R258). -/
  changed : List Nat
  resyncDone : Nat
  /-- The step of R270 in progress; 0 when the tile is not REJOINING. -/
  rejoinStep : Nat
  /-- Timebase counts at which automatic rejoins started (R269). -/
  autoTimes : List Nat
  doubleFault : Bool
  deriving DecidableEq, Repr

/-- A shadow record as the mirror tile writes it (R150, R151, R305). -/
structure ShadowRec where
  generation : Nat
  tile : Nat
  entries : List ShadowEntry
  /-- Sealed roots that the record carries: partition, root (R305). -/
  roots : List (Nat × Nat)
  /-- Images of the PINNED-FAILED lines (R150). -/
  pins : List Entry
  /-- MIRROR entries dumped with it (R151). -/
  dump : List Entry
  /-- It decodes whole in copy 0 or copy 1 (R152). -/
  whole : Bool
  deriving DecidableEq, Repr

/-- A page-commit slot of a parameter store (R469): target page, whether the header is whole, the image sound, DONE. -/
structure CommitSlot where
  page : Nat
  seq : Nat
  headerWhole : Bool
  imageGood : Bool
  done : Bool
  deriving DecidableEq, Repr

/-- A sealed root saved by a tile (R305). -/
structure SavedRoot where
  part : Nat
  generation : Nat
  root : Nat
  deriving DecidableEq, Repr

/-- The parameter store of a tile (R468 to R473). -/
structure PStore where
  rings : List (List RingSlot)
  commits : List CommitSlot
  commitSeq : Nat
  flushDone : Option Nat
  /-- The shadow records this tile has written for other tiles (R150). -/
  shadowRecs : List ShadowRec
  /-- Where the bound bitmap, the remap tables and the donor list stand as saved (R93, R197, R209). -/
  bound : List Nat
  config : Sparse Nat
  recImage : Option RecImage
  pkgImage : Option RecImage
  lsa : Sparse (List Nat)
  roots : List SavedRoot
  pinLatch : Bool
  eraseKind : Nat
  drainCause : Nat
  deriving DecidableEq, Repr

/-- One sealed partition's share in a tile: root, losses, majors and MACs are in the lines (10). -/
structure Sealed where
  part : Nat
  root : Nat
  rootLost : Bool
  deriving DecidableEq, Repr

/-- One tile. -/
structure Tile where
  time : TileTime
  sup : TileSup
  med : TileMed
  res : TileRes
  rd : TileRead
  map : TileMap
  pat : TilePat
  fence : TileFence
  sealing : List Sealed
  ps : PStore
  deriving DecidableEq, Repr

end Sys2Proof.Machine
end

