-- ==== Sys2Proof/Machine/StatePkg.lean ====
section
/-! DEFINITION. The state of the package beside its tiles: device state, supply, management, dictionary, counters,
ports, logical devices, Feed, keys, Scribe queues, service. Plain data only. -/
namespace Sys2Proof.Machine

/-- A requester: transport code of R429 (1 I3C, 2 PCIe VDM, 3 mailbox, 4 SPDM session) and source (R425). -/
structure Requester where
  transport : Nat
  src : Nat
  deriving DecidableEq, Repr

/-- An SPDM session (R425, R286): its number, whether its mutual authentication chains to the owner certificate,
whether the debug unlock was made in it, and the port it runs over, if one. -/
structure Session where
  id : Nat
  owner : Bool
  port : Option Nat
  deriving DecidableEq, Repr

/-- A staged set (R433): object keys and values, the timebase count of the last write or READ_STAGED. -/
structure StagedSet where
  req : Requester
  items : List (Nat × Nat)
  touched : Nat
  deriving DecidableEq, Repr

/-- What a Staeb operation whose response is not out yet waits for (R427): a key change (R280), a publish of a
recorder (R460, R463), the latch of a snapshot (R450), the message before it (R426). -/
inductive Wait where
  | key | publish (recs : List Nat) | snapshot | turn
  deriving DecidableEq, Repr

/-- One operation of a Staeb message as its record spells it (R425). -/
structure StaebOp where
  op : Nat
  sub : Nat
  index : Nat
  value : List Nat
  deriving DecidableEq, Repr

/-- A message in progress: an operation of it waits (R426, R427). -/
structure Message where
  req : Requester
  tag : Nat
  stop : Bool
  failed : Bool
  /-- Response records so far, in bytes. -/
  done : List (List Nat)
  waiting : Wait
  cur : StaebOp
  rest : List StaebOp
  deriving DecidableEq, Repr

/-- A commit journal that is not marked done (R436): requester, set, and whether it is whole in tiles 0 and 1. -/
structure Journal where
  req : Requester
  items : List (Nat × Nat)
  whole : Bool
  deriving DecidableEq, Repr

/-- Management cores and the dictionary server (R36 to R40, R425, R426, R433, R477, R489). -/
structure Mgmt where
  /-- Tile of the active core; `none` when no core is active (R518). -/
  active : Option Nat
  standbySync : Bool
  standbyLost : Bool
  coreFailed : List Nat
  takeover : Bool
  takeoverCount : Nat
  /-- Firmware boot complete (R477). -/
  booted : Bool
  sessions : List Session
  sets : List StagedSet
  messages : List Message
  /-- Step of a live update under way, 0 for none (R489). -/
  update : Nat
  journal : Option Journal
  deriving DecidableEq, Repr

/-- Firmware slots: state code of R499, SVN, compatibility of the policy state format, signature (R488 to R491). -/
structure FwSlot where
  st : Nat
  svn : Nat
  compat : Bool
  version : Nat
  received : Nat
  deriving DecidableEq, Repr

/-- Firmware images and activation (R488 to R491, R499). -/
structure Firmware where
  slots : List FwSlot
  running : Nat
  nextBoot : Nat
  activation : Nat
  svnMin : Nat
  deriving DecidableEq, Repr

/-- Owner, erase and the debug unlock (R286, R494 to R498). -/
structure Service where
  owner : Option Nat
  eraseKind : Nat
  eraseState : Nat
  erasePercent : Nat
  eraseStart : Nat
  /-- The last background command: its mailbox opcode, 0 for none (R377). -/
  bgOp : Nat
  /-- GiB numbers in DPA space of the blocks that are being zeroed (R373). -/
  sanitizing : List Nat
  unlock : Option Requester
  testPermitted : Bool
  scrubOn : Bool
  scrubSource : Nat
  scrubDpa : Nat
  scrubLen : Nat
  scrubCounts : List Nat
  scrubStart : Nat
  scrubBy : Nat
  /-- The No Event Log flag of the pass (R382). -/
  scrubQuiet : Bool
  deriving DecidableEq, Repr

/-- Supplies, pins and sequencing of the package (14, 19). -/
structure Supply where
  /-- Latest sample of every sense point, mV (R401). -/
  sense : List Nat
  /-- The samples as they stood when the present scan began (R403). -/
  sensePrev : List Nat
  nextPoint : Nat
  scanStart : Nat
  /-- Tiles with a persistence rail out of window in the present scan (R404). -/
  scanTiles : List Nat
  converter : Nat
  convFault : Bool
  avsLost : Bool
  /-- VDDC command, the voltage it ramps from, mV, and the time it was sent (R393). -/
  vddcCmd : Nat
  vddcFrom : Nat
  vddcAt : Nat
  /-- The OR-ing switch is on VHOLD (R390). -/
  onHold : Bool
  /-- Measured capacitance in 10^-13 F, ESR in mΩ (R406). -/
  cap : Nat
  esr : Nat
  measured : Bool
  charged : Bool
  capLow : Bool
  esrHigh : Bool
  seqIn : Bool
  seqOut : Bool
  /-- VAUX is gone; the auxiliary domain runs from VHOLD until SAFE (R390). -/
  vauxGone : Bool
  pwrfailN : Bool
  resetN : Bool
  thermtrip : Bool
  /-- Timebase count since which VIN has been in window (R413). -/
  vinSince : Option Nat
  /-- Present step P0 to P9 (R396), whether the sequence waits out the 100 ms of R399, attempts made. -/
  step : Option Nat
  retryAt : Option Nat
  attempts : Nat
  t0 : Nat
  p4At : Nat
  deriving DecidableEq, Repr

/-- Device state and bring-up (R475 to R484), DRAIN (R409, R411). -/
structure Device where
  st : DevState
  mainUp : Bool
  memActive : Bool
  /-- Last bring-up step done, 0 to 8 (R478). -/
  bringup : Nat
  drainCause : Nat
  drainSeen : Nat
  drainAt : Nat
  inputReturned : Bool
  /-- `POWER_UP` has been written in SAFE (R484). -/
  upReq : Bool
  /-- Time since which a junction has been at or above 152 °C (R409 trigger 8). -/
  hotSince : Option Nat
  /-- Tiles whose flush reported done, and tiles stopped (R149, R151). -/
  flushDone : List Nat
  flushStop : List Nat
  recordsDue : List Nat
  health : Health
  causes : Nat
  portsMode : Nat
  deriving DecidableEq, Repr

/-- Performance counters (16). -/
structure Counters where
  live : Sparse Nat
  /-- Ticks of transfers of nib channels that a slot counter, by its number, has still to count (R447). -/
  owed : Sparse Nat
  snap : Sparse Nat
  snapSeq : Nat
  snapTime : Nat
  /-- Argument of a snapshot between steps 1 and 3 of R450. -/
  snapArg : Option Nat
  /-- T of that snapshot; the tiles that have latched, 8 standing for the package counters. -/
  snapAt : Nat
  snapDone : List Nat
  start : List Nat
  /-- Reservoir words corrected, and lines decoded CORRECTED or rebuilt, since power-up (R383). -/
  resCorrected : Nat
  corrected : Nat
  deriving DecidableEq, Repr

/-- One port (13, 12). -/
structure Port where
  up : Bool
  rate : Nat
  width : Nat
  flit : Nat
  cxlMem : Bool
  /-- Link mode taken at training: 0 SLD, 1 MLD, 2 PBR, and the LD count (R366). -/
  ldMode : Nat
  ldCount : Nat
  maxRate : Nat
  ideMem : Bool
  ideIo : Bool
  ideMode : Nat
  /-- Keys of the CXL.cachemem stream and of the PCIe IDE link stream (R374). -/
  ideMemKey : Key256
  ideIoKey : Key256
  pbrId : Nat
  /-- Held requests, oldest first (R339); the ingress buffer (R340). -/
  held : List Req
  ingress : List Req
  withheld : Bool
  /-- Urgency level in force and the last sample (R341). -/
  urg : Nat
  urgSample : Nat
  order : Nat
  deriving DecidableEq, Repr

/-- One HDM decoder (R368, R45 to R49). -/
structure Decoder where
  committed : Bool
  /-- Locked at its commit (R368). -/
  locked : Bool
  err : Bool
  base : Nat
  size : Nat
  ways : Nat
  gran : Nat
  skip : Nat
  kxCfg : Nat
  deriving DecidableEq, Repr

/-- One record of a CXL event log (R381). -/
structure LogRecord where
  handle : Nat
  kind : Nat
  code : Nat
  ts : Nat
  bytes : Nat
  deriving DecidableEq, Repr

/-- One CXL event log (R381). -/
structure EventLog where
  records : List LogRecord
  overflow : Nat
  firstLost : Nat
  lastLost : Nat
  nextHandle : Nat
  deriving DecidableEq, Repr

/-- A dynamic capacity block of an LD: number, tag (R371). -/
structure DcBlock where
  region : Nat
  block : Nat
  tag : Nat
  deriving DecidableEq, Repr

/-- One logical device (13). -/
structure LD where
  decoders : List Decoder
  blocks : List DcBlock
  pendingAdd : List DcBlock
  pendingRel : List DcBlock
  logs : List EventLog
  intPolicy : List Nat
  alertCfg : List Nat
  mailboxBusy : Bool
  deriving DecidableEq, Repr

/-- What has been taken from the four token buckets of a class and not filled back, in 10^-11 bytes (R334). -/
structure Buckets where
  rdCeil : Nat
  rdRes : Nat
  wrCeil : Nat
  wrRes : Nat
  deriving DecidableEq, Repr

/-- Token buckets and statistics of a class (R334, R338, R343). -/
structure FeedClass where
  host : Buckets
  scribe : Buckets
  bytesRd : Nat
  bytesWr : Nat
  hist : List Nat
  max : Nat
  seq : Nat
  devload : List Nat
  deriving DecidableEq, Repr

/-- The Feed's package state and the budget arbiter (12). -/
structure Feed where
  classes : Sparse FeedClass
  /-- Reservation factors as fractions, by 2 × class + direction (0 read, 1 write), where not 1 (R354). -/
  scale : Sparse (Nat × Nat)
  scaled : Bool
  /-- VIN power of the latest rail scan, mW (R345). -/
  powerNow : Nat
  overCap : Bool
  throttle : Bool
  emergency : Bool
  /-- Per tile: credits granted for the epoch and the part of them that was reserve, credits left for any priority,
  credits left of the reserve for priorities 2 and 3, epochs without a grant (R345, R346, R349). -/
  grant : List Nat
  grantReserve : List Nat
  left : List Nat
  reserveLeft : List Nat
  noGrant : List Nat
  deriving DecidableEq, Repr

/-- State of a key slot (R278, R280). -/
inductive KeyState where
  | empty | loaded | purging
  deriving DecidableEq, Repr

/-- One key slot: K1 and K2. -/
structure KeySlot where
  st : KeyState
  k1 : Key256
  k2 : Key256
  deriving DecidableEq, Repr

/-- A key change under way (R280). -/
structure KeyChange where
  slot : Nat
  load : Option (Key256 × Key256)
  req : Requester
  deriving DecidableEq, Repr

/-- The key table (10). -/
structure Keys where
  slots : Sparse KeySlot
  change : Option KeyChange
  deriving DecidableEq, Repr

/-- Complete or torn words of a descriptor in a queue (R315, R317). -/
structure Group where
  words : List Nat
  torn : Bool
  deriving DecidableEq, Repr

/-- What has come back to a Scribe engine for a line access: step, data, poison, the cause of a violation (0 none), DPA. -/
structure Arrival where
  step : Nat
  data : Line
  poison : Bool
  cause : Nat
  dpa : Nat
  deriving DecidableEq, Repr

/-- A line access that failed: line, status, DPA (R330). -/
structure LineFail where
  line : Nat
  status : Nat
  dpa : Nat
  deriving DecidableEq, Repr

/-- A descriptor the engine has taken (R325, R330). -/
structure Desc where
  /-- Its number in the queue. -/
  index : Nat
  words : List Nat
  /-- Number of lines; 0 for a barrier. -/
  total : Nat
  /-- The part of a LOG-APPEND in progress (R324): 0 pointers, 1 lines, 2 tail. -/
  phase : Nat
  /-- Next read step and next write step to issue; accesses issued and not come back. -/
  nextRead : Nat
  nextWrite : Nat
  outstanding : Nat
  /-- First line not done, and the lines done above it. -/
  progress : Nat
  doneAbove : List Nat
  /-- Read data waiting for its use, by step. -/
  ready : List Arrival
  fails : List LineFail
  /-- CRC so far, tail or head value read. -/
  acc : Nat
  /-- Outcome decided, with its RESULT: the descriptor issues nothing more. -/
  outcome : Option (Nat × Nat)
  /-- The barrier is in force (R170). -/
  armed : Bool
  /-- Ended, its completion record still to be accepted; the record has been issued. -/
  ended : Bool
  recording : Bool
  arrived : List Arrival
  deriving DecidableEq, Repr

/-- One descriptor queue (11). -/
structure Queue where
  /-- 0 OFF, 1 RUN (HOLD is read from its conditions), 3 STOPPED. -/
  st : Nat
  groups : List Group
  frame : List Nat
  overrun : Bool
  sizeErr : Bool
  overrunCount : Nat
  corrCount : Nat
  received : Nat
  taken : Nat
  head : Nat
  tail : Nat
  nextIndex : Nat
  descs : List Desc
  /-- Number and TAG of the first failed descriptor since the last barrier (R171). -/
  failed : Option (Nat × Nat)
  descsDone : Nat
  deriving DecidableEq, Repr

/-- A part of an image: slot, whether it is the first and the last one, offset, bytes; for the last one what the image is: whether its
signature verifies, its SVN, its policy state format, its version. -/
structure FwPart where
  slot : Nat
  first : Bool
  last : Bool
  offset : Nat
  bytes : Nat
  signed : Bool
  svn : Nat
  compat : Bool
  version : Nat
  deriving DecidableEq, Repr

/-- A dynamic capacity region of an LD: enabled, shareable, sanitize, offset and size in GiB (R369, `DCR_CFG`). -/
structure Region where
  on : Bool
  shareable : Bool
  sanitize : Bool
  off : Nat
  size : Nat
  deriving DecidableEq, Repr

end Sys2Proof.Machine
end

