-- ==== Sys2Proof/Syntax.lean ====
section
/-! DEFINITION. The commands: one constructor for each row of the opcode table, with the operands the row needs. -/
namespace Sys2Proof
open Sys2Proof.Machine

/-- A command of the block, named after its row of the table. -/
inductive Instr where
  /-- RING_LINK_RETRAIN (R24). -/
  | ringLinkRetrain (link : Nat) (replaysE : Nat) (replaysW : Nat)
  /-- RING_LINK_DOWN (R24). -/
  | ringLinkDown (link : Nat)
  /-- ALIGNMENT_MARKER (R32). -/
  | alignmentMarker
  /-- TIMEBASE_HOLDOVER (R34). -/
  | timebaseHoldover (t : Nat)
  /-- TIMEBASE_REALIGNED (R34). -/
  | timebaseRealigned (t : Nat)
  /-- REFCLK_LOST (R33). -/
  | refclkLost (k : Nat)
  /-- REFCLK_LOCKED (R33). -/
  | refclkLocked (t : Nat)
  /-- CORE_TAKEOVER (R38). -/
  | coreTakeover
  /-- STANDBY_LOST (R40). -/
  | standbyLost (fails : Bool)
  /-- MEM_RD (R104). -/
  | memRd (port : Nat) (id : Nat) (tag : Nat) (hpa : Nat) (pred : Nat)
  /-- MEM_SPEC_RD (R362). -/
  | memSpecRd (port : Nat) (id : Nat) (tag : Nat) (hpa : Nat)
  /-- MEM_INV (R362). -/
  | memInv (port : Nat) (id : Nat) (tag : Nat)
  /-- MEM_WR (R126). -/
  | memWr (port : Nat) (id : Nat) (tag : Nat) (hpa : Nat) (data : Line) (poison : Bool)
  /-- MEM_WR_PTL (R136). -/
  | memWrPtl (port : Nat) (id : Nat) (tag : Nat) (hpa : Nat) (mask : ByteMask) (data : Line) (poison : Bool) (pred : Nat)
  /-- MEM_UNDEFINED_OPCODE (R362). -/
  | memUndefinedOpcode (port : Nat) (id : Nat) (tag : Nat) (hpa : Nat) (expectsData : Bool)
  /-- MEDIUM_READ_DONE (R75). -/
  | mediumReadDone (t : Nat) (rd : Nat) (pos : Nat) (err : Codeword) (mute : Bool)
  /-- STROKE_LIFT (R108). -/
  | strokeLift (t : Nat) (stroke : Nat)
  /-- NIB_POSITION_FREED (R112). -/
  | nibPositionFreed (t : Nat) (pred : Nat)
  /-- READ_AROUND_DONE (R114). -/
  | readAroundDone (t : Nat) (rd : Nat)
  /-- LINE_REBUILT (R84). -/
  | lineRebuilt (t : Nat) (rd : Nat) (errs : List Codeword)
  /-- ERASURE_RETRY (R85). -/
  | erasureRetry (t : Nat) (rd : Nat) (errs : List Codeword)
  /-- FETCH_DONE (R136). -/
  | fetchDone (t : Nat) (rd : Nat)
  /-- HOT_BANK (R125). -/
  | hotBank (t : Nat) (die : Nat) (bank : Nat)
  /-- READ_SVC_CLEAR (R124). -/
  | readSvcClear (q : Requester) (t : Nat) (v : Nat)
  /-- MIRROR_MESSAGE (R133). -/
  | mirrorMessage (t : Nat)
  /-- MIRROR_ACK (R129). -/
  | mirrorAck (t : Nat)
  /-- MIRROR_RELEASE (R133). -/
  | mirrorRelease (t : Nat)
  /-- EVICTION_START (R138). -/
  | evictionStart (t : Nat) (slice : Nat) (pred : Nat)
  /-- EVICTION_POINT (R139). -/
  | evictionPoint (t : Nat) (id : Nat)
  /-- STROKE_START (R140). -/
  | strokeStart (t : Nat) (id : Nat)
  /-- STROKE_VERIFIED (R140). -/
  | strokeVerified (t : Nat) (id : Nat)
  /-- STROKE_VERIFY_FAIL (R95). -/
  | strokeVerifyFail (t : Nat) (id : Nat) (mute : Bool)
  /-- BINDING (R197). -/
  | binding (t : Nat) (lseg : Nat)
  /-- GPF_PHASE2 (R153). -/
  | gpfPhase2
  /-- DRAIN_FLUSH_DONE (R149). -/
  | drainFlushDone (t : Nat)
  /-- SHADOW_RECORD_WRITE (R150). -/
  | shadowRecordWrite (t : Nat)
  /-- TILE_FLUSH_SILENCE (R150). -/
  | tileFlushSilence (t : Nat)
  /-- RES_ECC_ERROR (R155). -/
  | resEccError (t : Nat) (f : ResFault)
  /-- SHADOW_RESENT (R245). -/
  | shadowResent (t : Nat)
  /-- AGE_ENTRY_RESET (R246). -/
  | ageEntryReset (t : Nat) (p : Nat)
  /-- ROOT_REPAIRED (R304). -/
  | rootRepaired (t : Nat) (part : Nat)
  /-- ROTATION_MOVE (R193). -/
  | rotationMove (t : Nat) (lseg : Nat) (fails : Nat)
  /-- BLANKING (R195). -/
  | blanking (t : Nat)
  /-- WEAR_THRESHOLD_UPDATE (R198). -/
  | wearThresholdUpdate
  /-- MIGRATION_STARTED (R199). -/
  | migrationStarted (t : Nat)
  /-- MIGRATION_STRIPE_COPY (R200). -/
  | migrationStripeCopy (t : Nat) (lseg : Nat) (fails : Nat)
  /-- MIGRATION_DONE (R199). -/
  | migrationDone (t : Nat) (lseg : Nat)
  /-- MIGRATE_REQUEST (R218). -/
  | migrateRequest (q : Requester) (v : Nat)
  /-- QUARANTINE_ACK (R207). -/
  | quarantineAck (q : Requester) (v : Nat)
  /-- MAP_QUERY (R218). -/
  | mapQuery (q : Requester) (v : Nat)
  /-- EVACUATION_SLOT (R209). -/
  | evacuationSlot (t : Nat) (fails : Nat)
  /-- TEMPERATURE_SAMPLE (R219). -/
  | temperatureSample (temps : List (List Int))
  /-- DRIFT_CLOCK_SAVE (R220). -/
  | driftClockSave (t : Nat)
  /-- PATROL_PACE (R228). -/
  | patrolPace
  /-- PATROL_VISIT_MEMBER (R229). -/
  | patrolVisitMember (t : Nat) (weakCells : Nat) (err : Codeword)
  /-- PATROL_VISIT_END (R229). -/
  | patrolVisitEnd (t : Nat) (bad0 : Bool) (bad1 : Bool)
  /-- REFRESH_ESCALATED (R231). -/
  | refreshEscalated (t : Nat)
  /-- PATROL_OVERDUE (R231). -/
  | patrolOverdue (t : Nat) (p : Nat)
  /-- ACCEL_PATROL_DONE (R235). -/
  | accelPatrolDone (t : Nat)
  /-- SCRUB_START (R236). -/
  | scrubStart (q : Requester) (v : Nat)
  /-- SCRUB_ABORT (R238). -/
  | scrubAbort (q : Requester) (v : Nat)
  /-- SCRUB_DONE (R237). -/
  | scrubDone (worst : Nat) (fails : Nat)
  /-- WATCHDOG_TRIP (R253). -/
  | watchdogTrip (issuer : Nat) (suspect : Nat) (block : Nat) (request : Nat)
  /-- RING_SILENCE (R253). -/
  | ringSilence (t : Nat)
  /-- TILE_SELF_REPORT (R253). -/
  | tileSelfReport (t : Nat)
  /-- TILE_FENCE (R253). -/
  | tileFence (q : Requester) (v : Nat)
  /-- FENCE_DECISION (R254). -/
  | fenceDecision (t : Nat)
  /-- MIRROR_MOVED (R260). -/
  | mirrorMoved (w : Nat)
  /-- ISOLATION_FLUSH_END (R262). -/
  | isolationFlushEnd (t : Nat)
  /-- SPAN_DELTA (R250). -/
  | spanDelta (t : Nat)
  /-- RECONSTRUCTION_DONE (R257). -/
  | reconstructionDone (t : Nat) (rd : Nat)
  /-- TILE_REJOIN (R269). -/
  | tileRejoin (q : Requester) (v : Nat)
  /-- AUTO_REJOIN (R269). -/
  | autoRejoin (t : Nat)
  /-- REJOIN_STEP_DONE (R270). -/
  | rejoinStepDone (t : Nat) (ok : Bool) (bad : List Nat)
  /-- RESYNC_SEGMENT (R270). -/
  | resyncSegment (t : Nat) (lseg : Nat)
  /-- KEY_LOAD (R279). -/
  | keyLoad (q : Requester) (slot : Nat) (k1 : Key256) (k2 : Key256)
  /-- KEY_ERASE (R280). -/
  | keyErase (q : Requester) (slot : Nat)
  /-- KEY_PURGE_DONE (R280). -/
  | keyPurgeDone
  /-- KEY_QUERY (R311). -/
  | keyQuery (q : Requester) (v : Nat)
  /-- DEBUG_UNLOCK (R286). -/
  | debugUnlock (q : Requester) (token : Nat)
  /-- DEBUG_LOCK (R286). -/
  | debugLock (q : Requester) (v : Nat)
  /-- SPDM_SESSION_END (R286). -/
  | spdmSessionEnd (id : Nat)
  /-- SEAL_ROOT_ADOPT (R306). -/
  | sealRootAdopt (q : Requester) (part : Nat) (t : Nat)
  /-- META_FETCH_DONE (R297). -/
  | metaFetchDone (t : Nat) (rd : Nat)
  /-- DESC_IN (R315). -/
  | descIn (port : Nat) (ld : Nat) (window : Nat) (word : Nat) (aligned : Bool)
  /-- Q_FLUSH (R318). -/
  | qFlush (port : Nat) (ld : Nat) (window : Nat)
  /-- Q_RESYNC (R317). -/
  | qResync (port : Nat) (ld : Nat) (window : Nat)
  /-- CQ_HEAD_WRITE (R327). -/
  | cqHeadWrite (port : Nat) (ld : Nat) (window : Nat) (head : Nat)
  /-- DESCRIPTOR_START (R325). -/
  | descriptorStart (t : Nat) (ecc : List Nat)
  /-- COPY (R322). -/
  | copy (t : Nat) (q : Nat) (desc : Nat)
  /-- FILL (R322). -/
  | fill (t : Nat) (q : Nat) (desc : Nat)
  /-- ZERO (R323). -/
  | zero (t : Nat) (q : Nat) (desc : Nat)
  /-- CRC32C (R322). -/
  | crc32c (t : Nat) (q : Nat) (desc : Nat)
  /-- COMPARE (R322). -/
  | compare (t : Nat) (q : Nat) (desc : Nat)
  /-- CAS64 (R177). -/
  | cas64 (t : Nat) (q : Nat) (desc : Nat)
  /-- FADD64 (R177). -/
  | fadd64 (t : Nat) (q : Nat) (desc : Nat)
  /-- LOG_APPEND (R324). -/
  | logAppend (t : Nat) (q : Nat) (desc : Nat)
  /-- BAR_LD (R170). -/
  | barLd (t : Nat) (q : Nat) (desc : Nat)
  /-- BAR_ST (R170). -/
  | barSt (t : Nat) (q : Nat) (desc : Nat)
  /-- BAR_ALL (R170). -/
  | barAll (t : Nat) (q : Nat) (desc : Nat)
  /-- NOTIFY (R322). -/
  | notify (t : Nat) (q : Nat) (desc : Nat)
  /-- SCRIBE_LINE_DONE (R330). -/
  | scribeLineDone (t : Nat) (q : Nat) (desc : Nat)
  /-- BARRIER_COMPLETE (R171). -/
  | barrierComplete (t : Nat) (q : Nat)
  /-- SQ_RESTART (R329). -/
  | sqRestart (q : Requester) (t : Nat) (queue : Nat) (v : Nat)
  /-- FEED_ADMIT (R336). -/
  | feedAdmit (slice : Nat) (engine : Bool) (pred : Nat)
  /-- EPOCH_END (R345). -/
  | epochEnd (lost : Nat)
  /-- URGENCY_SAMPLE (R341). -/
  | urgencySample (port : Nat) (level : Nat)
  /-- RESERVATIONS_SCALED (R354). -/
  | reservationsScaled (cause : Nat)
  /-- CLASS_HELD_CLEAR (R343). -/
  | classHeldClear (q : Requester) (c : Nat) (v : Nat)
  /-- LINK_TRAINED (R358). -/
  | linkTrained (port : Nat) (rate : Nat) (width : Nat) (flit : Nat) (cxl : Bool)
  /-- LINK_RETRAINED (R360). -/
  | linkRetrained (port : Nat) (rate : Nat) (width : Nat)
  /-- LINK_DOWN (R387). -/
  | linkDown (port : Nat) (cause : Nat)
  /-- CXL_LD_RESET (R154). -/
  | cxlLdReset (port : Nat) (ld : Nat)
  /-- FUNCTION_LEVEL_RESET (R482). -/
  | functionLevelReset (port : Nat) (ld : Nat)
  /-- IDE_FAILURE (R376). -/
  | ideFailure (port : Nat) (stream : Nat) (dpas : List Nat)
  /-- IDE_KEY_REFRESH (R374). -/
  | ideKeyRefresh (port : Nat) (stream : Nat) (mode : Nat) (session : Nat) (key : Key256)
  /-- HDM_DECODER_COMMIT (R368). -/
  | hdmDecoderCommit (port : Nat) (ld : Nat) (dec : Nat) (base : Nat) (size : Nat) (ways : Nat) (gran : Nat) (skip : Nat) (lock : Bool)
  /-- IDENTIFY (R379). -/
  | identify (port : Nat) (ld : Nat)
  /-- BACKGROUND_OPERATION_STATUS (R379). -/
  | backgroundOperationStatus (port : Nat) (ld : Nat)
  /-- GET_EVENT_RECORDS (R381). -/
  | getEventRecords (port : Nat) (ld : Nat) (log : Nat)
  /-- CLEAR_EVENT_RECORDS (R381). -/
  | clearEventRecords (port : Nat) (ld : Nat) (log : Nat) (all : Bool) (handles : List Nat)
  /-- GET_EVENT_INTERRUPT_POLICY (R379). -/
  | getEventInterruptPolicy (port : Nat) (ld : Nat)
  /-- SET_EVENT_INTERRUPT_POLICY (R379). -/
  | setEventInterruptPolicy (port : Nat) (ld : Nat) (policy : List Nat)
  /-- GET_FW_INFO (R488). -/
  | getFwInfo (port : Nat) (ld : Nat)
  /-- TRANSFER_FW (R488). -/
  | transferFw (port : Nat) (ld : Nat) (x : FwPart)
  /-- ACTIVATE_FW (R489). -/
  | activateFw (port : Nat) (ld : Nat) (slot : Nat) (online : Bool)
  /-- GET_TIMESTAMP (R384). -/
  | getTimestamp (port : Nat) (ld : Nat)
  /-- SET_TIMESTAMP (R384). -/
  | setTimestamp (port : Nat) (ld : Nat) (time : Nat)
  /-- GET_SUPPORTED_LOGS (R379). -/
  | getSupportedLogs (port : Nat) (ld : Nat)
  /-- GET_LOG (R379). -/
  | getLog (port : Nat) (ld : Nat) (log : Nat)
  /-- GET_SUPPORTED_FEATURES (R385). -/
  | getSupportedFeatures (port : Nat) (ld : Nat)
  /-- GET_FEATURE (R385). -/
  | getFeature (port : Nat) (ld : Nat) (feature : Nat)
  /-- SET_FEATURE (R385). -/
  | setFeature (port : Nat) (ld : Nat) (feature : Nat) (cycle : Nat) (enable : Bool)
  /-- IDENTIFY_MEMORY_DEVICE (R379). -/
  | identifyMemoryDevice (port : Nat) (ld : Nat)
  /-- GET_PARTITION_INFO (R379). -/
  | getPartitionInfo (port : Nat) (ld : Nat)
  /-- GET_LSA (R379). -/
  | getLsa (port : Nat) (ld : Nat) (offset : Nat) (len : Nat)
  /-- SET_LSA (R379). -/
  | setLsa (port : Nat) (ld : Nat) (offset : Nat) (data : List Nat)
  /-- GET_HEALTH_INFO (R383). -/
  | getHealthInfo (port : Nat) (ld : Nat)
  /-- GET_ALERT_CONFIGURATION (R383). -/
  | getAlertConfiguration (port : Nat) (ld : Nat)
  /-- SET_ALERT_CONFIGURATION (R383). -/
  | setAlertConfiguration (port : Nat) (ld : Nat) (life : Nat) (beyond : Nat) (under : Nat) (volatileErrs : Nat) (persistentErrs : Nat)
  /-- GET_SHUTDOWN_STATE (R384). -/
  | getShutdownState (port : Nat) (ld : Nat)
  /-- SET_SHUTDOWN_STATE (R384). -/
  | setShutdownState (port : Nat) (ld : Nat) (v : Nat)
  /-- GET_POISON_LIST (R382). -/
  | getPoisonList (port : Nat) (ld : Nat) (dpa : Nat) (len : Nat)
  /-- INJECT_POISON (R382). -/
  | injectPoison (port : Nat) (ld : Nat) (dpa : Nat)
  /-- CLEAR_POISON (R87). -/
  | clearPoison (port : Nat) (ld : Nat) (dpa : Nat) (data : Line)
  /-- GET_SCAN_MEDIA_CAPABILITIES (R239). -/
  | getScanMediaCapabilities (port : Nat) (ld : Nat) (dpa : Nat) (len : Nat)
  /-- SCAN_MEDIA (R239). -/
  | scanMedia (port : Nat) (ld : Nat) (dpa : Nat) (len : Nat) (noLog : Bool)
  /-- GET_SCAN_MEDIA_RESULTS (R239). -/
  | getScanMediaResults (port : Nat) (ld : Nat)
  /-- SANITIZE (R496). -/
  | sanitize (port : Nat) (ld : Nat)
  /-- SECURE_ERASE (R495). -/
  | secureErase (port : Nat) (ld : Nat)
  /-- ERASE_DONE (R497). -/
  | eraseDone
  /-- GET_DYNAMIC_CAPACITY_CONFIGURATION (R369). -/
  | getDynamicCapacityConfiguration (port : Nat) (ld : Nat)
  /-- GET_DYNAMIC_CAPACITY_EXTENT_LIST (R372). -/
  | getDynamicCapacityExtentList (port : Nat) (ld : Nat)
  /-- ADD_DYNAMIC_CAPACITY_RESPONSE (R371). -/
  | addDynamicCapacityResponse (port : Nat) (ld : Nat) (extents : List (Nat × Nat))
  /-- RELEASE_DYNAMIC_CAPACITY (R372). -/
  | releaseDynamicCapacity (port : Nat) (ld : Nat) (extents : List (Nat × Nat))
  /-- STAEB_EXCHANGE (R380). -/
  | staebExchange (port : Nat) (ld : Nat) (bytes : List Nat)
  /-- STAEB_LIMITS (R380). -/
  | staebLimits (port : Nat) (ld : Nat)
  /-- MAILBOX_UNSUPPORTED (R379). -/
  | mailboxUnsupported (fm : Bool) (q : Requester) (port : Nat) (ld : Nat) (op : Nat)
  /-- GET_LD_INFO (R379). -/
  | getLdInfo (q : Requester) (port : Nat)
  /-- GET_LD_ALLOCATIONS (R367). -/
  | getLdAllocations (q : Requester) (port : Nat)
  /-- SET_LD_ALLOCATIONS (R367). -/
  | setLdAllocations (q : Requester) (port : Nat) (first : Nat) (allocs : List (Nat × Nat))
  /-- GET_DCD_INFO (R379). -/
  | getDcdInfo (q : Requester) (port : Nat)
  /-- GET_HOST_DC_REGION_CONFIGURATION (R379). -/
  | getHostDcRegionConfiguration (q : Requester) (port : Nat) (ld : Nat)
  /-- SET_DC_REGION_CONFIGURATION (R369). -/
  | setDcRegionConfiguration (q : Requester) (port : Nat) (ld : Nat) (region : Nat) (cfg : Region)
  /-- GET_DC_REGION_EXTENT_LISTS (R379). -/
  | getDcRegionExtentLists (q : Requester) (port : Nat) (ld : Nat)
  /-- INITIATE_DYNAMIC_CAPACITY_ADD (R371). -/
  | initiateDynamicCapacityAdd (q : Requester) (port : Nat) (ld : Nat) (tag : Nat) (extents : List (Nat × Nat))
  /-- INITIATE_DYNAMIC_CAPACITY_RELEASE (R372). -/
  | initiateDynamicCapacityRelease (q : Requester) (port : Nat) (ld : Nat) (extents : List (Nat × Nat)) (forced : Bool)
  /-- DC_SANITIZE_DONE (R373). -/
  | dcSanitizeDone (gib : Nat)
  /-- SEQ_IN_ACCEPTED (R396). -/
  | seqInAccepted
  /-- SEQ_STEP_DONE (R396). -/
  | seqStepDone
  /-- SEQUENCE_FAILURE (R399). -/
  | sequenceFailure (point : Nat)
  /-- SEQ_RETRY (R399). -/
  | seqRetry
  /-- HALTED_EXIT (R399). -/
  | haltedExit
  /-- SEQ_IN_FALL_IN_SEQ (R400). -/
  | seqInFallInSeq
  /-- RAIL_SAMPLE (R402). -/
  | railSample (mv : Nat) (mw : Nat)
  /-- VIN_COMPARATOR_TRIP (R390). -/
  | vinComparatorTrip
  /-- REPLICA_MEASURE (R392). -/
  | replicaMeasure (t : Nat) (margin : Int) (need : Nat)
  /-- AVS_COMMAND (R393). -/
  | avsCommand
  /-- AVS_LINK_LOST (R394). -/
  | avsLinkLost
  /-- HOLDUP_MEASURED (R406). -/
  | holdupMeasured (dt : Nat) (stepUv : Nat)
  /-- HOLDUP_FAULT (R407). -/
  | holdupFault (reason : Nat) (esr : Nat)
  /-- RESET_N_LOW (R409). -/
  | resetNLow
  /-- PWRFAIL_N_LOW (R414). -/
  | pwrfailNLow
  /-- SEQ_IN_LOW (R409). -/
  | seqInLow
  /-- SAFE_RESTART (R484). -/
  | safeRestart (cycled : Bool)
  /-- POWER_DOWN (R484). -/
  | powerDown (q : Requester) (v : Nat)
  /-- POWER_UP (R484). -/
  | powerUp (q : Requester) (v : Nat)
  /-- STAEB_MESSAGE (R426). -/
  | staebMessage (q : Requester) (bytes : List Nat)
  /-- OBJECT_WRITE (R433). -/
  | objectWrite (q : Requester) (index : Nat) (sub : Nat) (value : List Nat)
  /-- READ_STAGED (R422). -/
  | readStaged (q : Requester) (index : Nat) (sub : Nat)
  /-- COMMIT (R434). -/
  | commit (q : Requester) (expected : Nat) (cut : Nat)
  /-- PARTITION_RELEASED (R65). -/
  | partitionReleased (p : Nat)
  /-- STAGE_DISCARD (R433). -/
  | stageDiscard (q : Requester) (v : Nat)
  /-- STAGE_EXPIRED (R433). -/
  | stageExpired (q : Requester)
  /-- W1C_WRITE (R437). -/
  | w1cWrite (q : Requester) (index : Nat) (sub : Nat) (v : Nat)
  /-- CNT_SNAPSHOT (R450). -/
  | cntSnapshot (q : Requester) (v : Nat)
  /-- CNT_SNAPSHOT_LATCH (R450). -/
  | cntSnapshotLatch
  /-- REC_PUBLISH (R458). -/
  | recPublish (r : Nat)
  /-- REC_CLEAR (R460). -/
  | recClear (q : Requester) (v : Nat)
  /-- REC_NEXT (R464). -/
  | recNext (q : Requester) (t : Nat) (seq : Nat)
  /-- REC_RELEASE (R463). -/
  | recRelease (q : Requester) (t : Nat) (seq : Nat)
  /-- REC_PKG_NEXT (R464). -/
  | recPkgNext (q : Requester) (seq : Nat)
  /-- REC_PKG_RELEASE (R463). -/
  | recPkgRelease (q : Requester) (seq : Nat)
  /-- REC_SAVE (R465). -/
  | recSave (t : Nat)
  /-- PSTORE_RING_SAVE (R471). -/
  | pstoreRingSave (t : Nat) (ring : Nat)
  /-- VAUX_ON (R475). -/
  | vauxOn
  /-- FIRMWARE_BOOT_DONE (R477). -/
  | firmwareBootDone (a : Bool) (b : Bool)
  /-- VAUX_REMOVED (R475). -/
  | vauxRemoved
  /-- BRINGUP_STEP_DONE (R478). -/
  | bringupStepDone (found : List Nat)
  /-- DEGRADED_EXIT (R476). -/
  | degradedExit
  /-- FW_ACTIVATE_LIVE (R489). -/
  | fwActivateLive (q : Requester)
  /-- FW_ACTIVATE_AT_RESET (R491). -/
  | fwActivateAtReset (q : Requester)
  /-- LIVE_UPDATE_STEP_DONE (R489). -/
  | liveUpdateStepDone (ok : Bool)
  /-- FW_SVN_COMMIT (R491). -/
  | fwSvnCommit (q : Requester) (v : Nat)
  /-- OWNER_INSTALL (R494). -/
  | ownerInstall (q : Requester) (cert : Nat)
  /-- DECOMMISSION (R498). -/
  | decommission (q : Requester) (v : Nat)
  /-- TIMEBASE_TICK (R444). -/
  | timebaseTick (k : Nat)
  /-- DEBUG_ACCESS (R273). -/
  | debugAccess (session : Nat) (dpa : Nat) (kx : Nat) (write : Bool) (mask : ByteMask) (data : Line) (pred : Nat)
  /-- HDM_DECODER_UNCOMMIT (R49). -/
  | hdmDecoderUncommit (port : Nat) (ld : Nat) (dec : Nat)
  /-- SPDM_SESSION_ESTABLISHED (R425). -/
  | spdmSessionEstablished (id : Nat) (owner : Bool) (port : Option Nat)
  /-- STANDBY_RESYNCHRONISED (R40). -/
  | standbyResynchronised
  /-- PBR_ID_ASSIGNED (R366). -/
  | pbrIdAssigned (port : Nat) (id : Nat)
  /-- LINK_REPLAY (R360). -/
  | linkReplay (port : Nat) (flits : Nat)
  deriving DecidableEq, Repr

end Sys2Proof
end

