-- ==== Sys2Proof/Decode.lean ====
section
/-! DEFINITION. Commands from words of the opcode table. The table gives no row any bits: a command reaches the block from outside, never as
a word. -/
namespace Sys2Proof

/-- The command that a word spells: none, since no row of the table has bits. [DESIGN CHOICE, assumption 2] -/
def decodeTableWord (_nbits _w : Nat) : Option Instr := none

end Sys2Proof
end

