-- ==== Sys2Proof/Machine/Names.lean ====
section
/-! DEFINITION. The names the spec gives events, counters and objects (the tables of chapters 01 to 19), with the numbers,
severities and counting modes of those tables. An event or counter below the tile limit is tile-local (R41, R42); an
object key is index * 256 + subindex (R417), its first instance. -/
namespace Sys2Proof.Machine

namespace Ev
/-- INFO (01). -/
abbrev RING_LINK_RETRAIN : Nat := 0x1
/-- DEGRADED (01). -/
abbrev RING_LINK_DOWN : Nat := 0x2
/-- NOTICE (01). -/
abbrev TIMEBASE_HOLDOVER : Nat := 0x3
/-- INFO (01). -/
abbrev TIMEBASE_REALIGNED : Nat := 0x4
/-- DEGRADED (01). -/
abbrev CORE_TAKEOVER : Nat := 0x600
/-- DEGRADED (01). -/
abbrev STANDBY_LOST : Nat := 0x601
/-- DEGRADED (01). -/
abbrev FW_IMAGE_FALLBACK : Nat := 0x602
/-- NOTICE (01). -/
abbrev TIMEBASE_MASTER_MOVED : Nat := 0x603
/-- NOTICE (02). -/
abbrev DECODE_NO_PARTITION : Nat := 0x10
/-- NOTICE (02). -/
abbrev DECODE_OUTSIDE_LD : Nat := 0x11
/-- INFO (02). -/
abbrev PARTITION_ENABLED : Nat := 0x604
/-- NOTICE (02). -/
abbrev PARTITION_RELEASED : Nat := 0x605
/-- INFO (03). -/
abbrev LINE_CORRECTED : Nat := 0x20
/-- NOTICE (03). -/
abbrev LINE_REBUILT : Nat := 0x21
/-- NOTICE (03). -/
abbrev ERASURE_RETRY : Nat := 0x22
/-- CRITICAL (03). -/
abbrev LINE_LOST : Nat := 0x23
/-- NOTICE (03). -/
abbrev MISCORRECTION_CAUGHT : Nat := 0x24
/-- NOTICE (03). -/
abbrev REMAP_ALLOCATED : Nat := 0x25
/-- NOTICE (03). -/
abbrev SPARE_RETIRED : Nat := 0x26
/-- DEGRADED (03). -/
abbrev REMAP_TABLE_FULL : Nat := 0x27
/-- DEGRADED (03). -/
abbrev BANK_FAILED : Nat := 0x28
/-- DEGRADED (03). -/
abbrev DIE_FAILED : Nat := 0x29
/-- INFO (03). -/
abbrev FLIP_MASK_APPLIED : Nat := 0x2A
/-- INFO (03). -/
abbrev FLIP_MASK_DISCARDED : Nat := 0x2B
/-- DEGRADED (04). -/
abbrev READ_BOUND_EXCEEDED : Nat := 0x30
/-- NOTICE (04). -/
abbrev HOT_BANK : Nat := 0x31
/-- NOTICE (04). -/
abbrev ENTRY_STAGE_FULL : Nat := 0x32
/-- NOTICE (05). -/
abbrev WRITE_GATE_CLOSED : Nat := 0x40
/-- INFO (05). -/
abbrev RES_ECC_CORRECTED : Nat := 0x41
/-- CRITICAL (05). -/
abbrev RES_LINE_POISONED : Nat := 0x42
/-- CRITICAL (05). -/
abbrev RES_TAG_LOST : Nat := 0x43
/-- CRITICAL (05). -/
abbrev PARTIAL_MERGE_LOST : Nat := 0x44
/-- NOTICE (05). -/
abbrev DIRTY_LIMIT_CLAMPED : Nat := 0x45
/-- INFO (05). -/
abbrev FLUSH_DONE_RECORDED : Nat := 0x46
/-- CRITICAL (05). -/
abbrev FLUSH_STOPPED : Nat := 0x47
/-- NOTICE (05). -/
abbrev SHADOW_RECONCILE : Nat := 0x48
/-- CRITICAL (05). -/
abbrev SHADOW_RECORD_LOST : Nat := 0x49
/-- NOTICE (05). -/
abbrev WRITES_DISCARDED_RESET : Nat := 0x4A
/-- NOTICE (06). -/
abbrev ATOMIC_MISALIGNED : Nat := 0x50
/-- NOTICE (06). -/
abbrev BARRIER_ERROR : Nat := 0x51
/-- INFO (07). -/
abbrev MIGRATION_STARTED : Nat := 0x60
/-- INFO (07). -/
abbrev MIGRATION_DONE : Nat := 0x61
/-- NOTICE (07). -/
abbrev MIGRATION_ABANDONED : Nat := 0x62
/-- NOTICE (07). -/
abbrev SEGMENT_RETIRED : Nat := 0x63
/-- DEGRADED (07). -/
abbrev SPARES_LOW : Nat := 0x64
/-- DEGRADED (07). -/
abbrev SPARES_EXHAUSTED : Nat := 0x65
/-- DEGRADED (07). -/
abbrev LINE_PINNED : Nat := 0x66
/-- CRITICAL (07). -/
abbrev PIN_QUOTA_EXCEEDED : Nat := 0x67
/-- CRITICAL (07). -/
abbrev TWIN_HEADERS : Nat := 0x68
/-- CRITICAL (07). -/
abbrev HEADER_LOST : Nat := 0x69
/-- CRITICAL (07). -/
abbrev SEGMENT_LOST : Nat := 0x6A
/-- NOTICE (07). -/
abbrev ROTATION_UNDECIDED : Nat := 0x6B
/-- NOTICE (07). -/
abbrev BANK_EVACUATED : Nat := 0x6C
/-- DEGRADED (07). -/
abbrev EVACUATION_BLOCKED : Nat := 0x6D
/-- INFO (07). -/
abbrev MAP_REBUILT : Nat := 0x6E
/-- NOTICE (07). -/
abbrev QUARANTINE_RELEASED : Nat := 0x6F
/-- NOTICE (08). -/
abbrev SEGMENT_WEAK : Nat := 0x70
/-- NOTICE (08). -/
abbrev REFRESH_ESCALATED : Nat := 0x71
/-- DEGRADED (08). -/
abbrev PATROL_OVERDUE : Nat := 0x72
/-- NOTICE (08). -/
abbrev HEADER_REWRITTEN : Nat := 0x73
/-- NOTICE (08). -/
abbrev ACCEL_PATROL_START : Nat := 0x74
/-- INFO (08). -/
abbrev ACCEL_PATROL_DONE : Nat := 0x75
/-- CRITICAL (08). -/
abbrev RETENTION_EXCEEDED : Nat := 0x76
/-- INFO (08). -/
abbrev SCRUB_DONE : Nat := 0x606
/-- NOTICE (08). -/
abbrev SCRUB_ABORTED : Nat := 0x607
/-- DEGRADED (09). -/
abbrev WATCHDOG_TRIP : Nat := 0x80
/-- NOTICE (09). -/
abbrev SHADOW_RESENT : Nat := 0x81
/-- NOTICE (09). -/
abbrev AGE_ENTRY_RESET : Nat := 0x82
/-- NOTICE (09). -/
abbrev SPAN_PARITY_RECOMPUTED : Nat := 0x83
/-- NOTICE (09). -/
abbrev ACCESS_VIOLATION : Nat := 0x84
/-- DEGRADED (09). -/
abbrev TILE_FENCING : Nat := 0x608
/-- CRITICAL (09). -/
abbrev TILE_FENCED : Nat := 0x609
/-- NOTICE (09). -/
abbrev MIRROR_MOVED : Nat := 0x60A
/-- CRITICAL (09). -/
abbrev PLAIN_SHARE_LOST : Nat := 0x60B
/-- NOTICE (09). -/
abbrev TILE_REJOINED : Nat := 0x60C
/-- DEGRADED (09). -/
abbrev REJOIN_FAILED : Nat := 0x60D
/-- CRITICAL (09). -/
abbrev DOUBLE_FAULT : Nat := 0x60E
/-- CRITICAL (10). -/
abbrev INTEGRITY_FAIL : Nat := 0x90
/-- NOTICE (10). -/
abbrev INTEGRITY_REPAIRED : Nat := 0x91
/-- CRITICAL (10). -/
abbrev COUNTER_RANGE_POISONED : Nat := 0x92
/-- CRITICAL (10). -/
abbrev MAC_LINE_LOST : Nat := 0x93
/-- INFO (10). -/
abbrev MINOR_OVERFLOW : Nat := 0x94
/-- CRITICAL (10). -/
abbrev ROOT_LOST : Nat := 0x95
/-- NOTICE (10). -/
abbrev ROOT_REPAIRED : Nat := 0x96
/-- NOTICE (10). -/
abbrev KEY_LOADED : Nat := 0x60F
/-- NOTICE (10). -/
abbrev KEY_ERASED : Nat := 0x610
/-- NOTICE (10). -/
abbrev DEBUG_UNLOCKED : Nat := 0x611
/-- INFO (10). -/
abbrev DEBUG_RELOCKED : Nat := 0x612
/-- CRITICAL (10). -/
abbrev ROOT_ADOPTED : Nat := 0x613
/-- NOTICE (11). -/
abbrev SQ_OVERRUN : Nat := 0xA0
/-- INFO (11). -/
abbrev SQ_WORD_CORRECTED : Nat := 0xA1
/-- NOTICE (11). -/
abbrev SQ_WORD_UNCORRECTABLE : Nat := 0xA2
/-- NOTICE (11). -/
abbrev SQ_DESC_TORN : Nat := 0xA3
/-- NOTICE (11). -/
abbrev SQ_CQ_WRITE_FAILED : Nat := 0xA4
/-- NOTICE (11). -/
abbrev SQ_FENCE_ABANDONED : Nat := 0xA5
/-- NOTICE (11). -/
abbrev SQ_DESC_FAILED : Nat := 0xA6
/-- NOTICE (12). -/
abbrev CREDIT_WITHHELD : Nat := 0xB0
/-- NOTICE (12). -/
abbrev GRANT_FALLBACK : Nat := 0xB1
/-- NOTICE (12). -/
abbrev THERMAL_THROTTLE : Nat := 0xB2
/-- DEGRADED (12). -/
abbrev RESERVATIONS_SCALED : Nat := 0x614
/-- INFO (12). -/
abbrev RESERVATIONS_RESTORED : Nat := 0x615
/-- NOTICE (12). -/
abbrev POWER_OVER_CAP : Nat := 0x616
/-- CRITICAL (12). -/
abbrev THERMAL_EMERGENCY : Nat := 0x617
/-- NOTICE (12). -/
abbrev BUDGET_REFUSED : Nat := 0x618
/-- NOTICE (13). -/
abbrev LINK_DOWN : Nat := 0xB8
/-- NOTICE (13). -/
abbrev LINK_RETRAINED : Nat := 0xB9
/-- DEGRADED (13). -/
abbrev CXL_MEM_UNAVAILABLE : Nat := 0xBA
/-- CRITICAL (13). -/
abbrev IDE_FAILURE : Nat := 0xBB
/-- NOTICE (13). -/
abbrev POISON_WRITTEN : Nat := 0xBC
/-- INFO (13). -/
abbrev DC_EXTENT_ADDED : Nat := 0x619
/-- INFO (13). -/
abbrev DC_EXTENT_RELEASED : Nat := 0x61A
/-- NOTICE (13). -/
abbrev DC_SANITIZE_DONE : Nat := 0x61B
/-- CRITICAL (14). -/
abbrev BOUND_TRACK_LIMIT : Nat := 0xBD
/-- DEGRADED (14). -/
abbrev TILE_RAIL_FAULT : Nat := 0xBE
/-- NOTICE (14). -/
abbrev SEQ_RETRY : Nat := 0x61C
/-- CRITICAL (14). -/
abbrev SEQ_HALTED : Nat := 0x61D
/-- CRITICAL (14). -/
abbrev RAIL_FAULT : Nat := 0x61E
/-- NOTICE (14). -/
abbrev DRAIN_ENTERED : Nat := 0x61F
/-- INFO (14). -/
abbrev HOLDUP_MEASURED : Nat := 0x620
/-- DEGRADED (14). -/
abbrev HOLDUP_FAULT : Nat := 0x621
/-- DEGRADED (14). -/
abbrev AVS_LINK_LOST : Nat := 0x622
/-- DEGRADED (14). -/
abbrev CONVERTER_FAULT : Nat := 0x623
/-- NOTICE (14). -/
abbrev INPUT_RETURNED : Nat := 0x624
/-- CRITICAL (14). -/
abbrev THERMTRIP : Nat := 0x625
/-- NOTICE (15). -/
abbrev DICT_ERROR : Nat := 0x626
/-- INFO (15). -/
abbrev COMMIT_APPLIED : Nat := 0x627
/-- NOTICE (15). -/
abbrev COMMIT_TORN : Nat := 0x628
/-- INFO (15). -/
abbrev STAGE_EXPIRED : Nat := 0x629
/-- INFO (16). -/
abbrev COUNTERS_RESTARTED : Nat := 0xBF
/-- INFO (17). -/
abbrev REC_RESTORED : Nat := 0xB3
/-- NOTICE (17). -/
abbrev REC_RECORDS_TORN : Nat := 0xB4
/-- NOTICE (17). -/
abbrev PSTORE_COMMIT_COMPLETED : Nat := 0xB5
/-- NOTICE (17). -/
abbrev PSTORE_COMMIT_ROLLED_BACK : Nat := 0xB6
/-- NOTICE (17). -/
abbrev PSTORE_RING_TORN : Nat := 0xB7
/-- INFO (17). -/
abbrev REC_CLEARED : Nat := 0x62A
/-- INFO (18). -/
abbrev DEVICE_STATE_CHANGED : Nat := 0x62B
/-- CRITICAL (18). -/
abbrev HEALTH_CHANGED : Nat := 0x62C
/-- INFO (18). -/
abbrev BRINGUP_DONE : Nat := 0x62D
/-- NOTICE (18). -/
abbrev FW_ACTIVATED : Nat := 0x62E
/-- DEGRADED (18). -/
abbrev FW_ACTIVATION_FAILED : Nat := 0x62F
/-- NOTICE (18). -/
abbrev FW_SVN_COMMITTED : Nat := 0x630
/-- NOTICE (18). -/
abbrev ERASE_DONE : Nat := 0x631
/-- NOTICE (18). -/
abbrev OWNER_INSTALLED : Nat := 0x632
/-- NOTICE (18). -/
abbrev DECOMMISSIONED : Nat := 0x633
/-- INFO (18). -/
abbrev POWER_DOWN_REQUESTED : Nat := 0x634
/-- INFO (19). -/
abbrev ALERT_ASSERTED : Nat := 0x635
end Ev

namespace Cn
/-- Edge (01). -/
abbrev RING_FLITS_E : Nat := 0x0
/-- Edge (01). -/
abbrev RING_FLITS_W : Nat := 0x1
/-- Edge (01). -/
abbrev RING_REPLAYS : Nat := 0x2
/-- Level (01). -/
abbrev TIMEBASE_HOLDOVER_TICKS : Nat := 0x3
/-- Edge (01). -/
abbrev CORE_TAKEOVERS : Nat := 0x2000
/-- Edge (02). -/
abbrev DECODES : Nat := 0x10
/-- Edge (02). -/
abbrev DECODE_VIOLATIONS : Nat := 0x11
/-- Edge (02). -/
abbrev ZERO_LINE_READS : Nat := 0x12
/-- Edge (03). -/
abbrev DECODE_CLEAN : Nat := 0x20
/-- Edge (03). -/
abbrev DECODE_CORRECTED : Nat := 0x21
/-- Edge (03). -/
abbrev DECODE_ERASED : Nat := 0x22
/-- Edge (03). -/
abbrev LINES_REBUILT : Nat := 0x23
/-- Edge (03). -/
abbrev LINES_LOST : Nat := 0x24
/-- Edge (03). -/
abbrev ERASURE_RETRIES : Nat := 0x25
/-- Edge (03). -/
abbrev MISCORRECTIONS_CAUGHT : Nat := 0x26
/-- Edge (03). -/
abbrev REPAIR_STROKES : Nat := 0x27
/-- Edge (03). -/
abbrev REMAP_ALLOCATIONS : Nat := 0x28
/-- Edge (03). -/
abbrev REMAP_REDIRECTS : Nat := 0x29
/-- Edge (03). -/
abbrev FAILED_BANK_REBUILDS : Nat := 0x2A
/-- Edge (03). -/
abbrev FLIP_STROKES : Nat := 0x2B
/-- Edge (04). -/
abbrev RES_READ_HITS : Nat := 0x30
/-- Edge (04). -/
abbrev READS_DIRECT : Nat := 0x31
/-- Edge (04). -/
abbrev READS_AROUND : Nat := 0x32
/-- Edge (04). -/
abbrev READS_LIFTED : Nat := 0x33
/-- Edge (04). -/
abbrev READS_MEMBER_LIFTED : Nat := 0x34
/-- Edge (04). -/
abbrev STROKE_LIFTS : Nat := 0x35
/-- Edge (04). -/
abbrev SPEC_LAUNCHED : Nat := 0x36
/-- Edge (04). -/
abbrev SPEC_WASTED : Nat := 0x37
/-- Edge (04). -/
abbrev STROKES_HELD : Nat := 0x38
/-- Edge (04). -/
abbrev READS_PARTIAL_WAIT : Nat := 0x39
/-- Edge (04). -/
abbrev READS_ENTRY_WAIT : Nat := 0x3A
/-- Edge (04). -/
abbrev READS_FORWARDED : Nat := 0x3B
/-- Edge (04). -/
abbrev READS_FOR_OTHER_PORTS : Nat := 0x3C
/-- Level (04). -/
abbrev READ_TOKENS_EXHAUSTED : Nat := 0x3D
/-- Level (04). -/
abbrev NIB_TOKEN_WAIT_TICKS : Nat := 0x3E
/-- Edge (05). -/
abbrev WRITES_ACCEPTED : Nat := 0x40
/-- Edge (05). -/
abbrev WRITES_MERGED : Nat := 0x41
/-- Edge (05). -/
abbrev PARTIAL_WRITES : Nat := 0x42
/-- Edge (05). -/
abbrev PARTIAL_FETCHES : Nat := 0x43
/-- Edge (05). -/
abbrev EVICTIONS : Nat := 0x44
/-- Edge (05). -/
abbrev STROKES_DATA : Nat := 0x45
/-- Edge (05). -/
abbrev STROKES_PARITY : Nat := 0x46
/-- Edge (05). -/
abbrev PARITY_SUPERSEDED : Nat := 0x47
/-- Edge (05). -/
abbrev STROKE_VERIFY_FAILS : Nat := 0x48
/-- Edge (05). -/
abbrev OLD_LINE_READS : Nat := 0x49
/-- Edge (05). -/
abbrev REDIRTY_WRITES : Nat := 0x4A
/-- Edge (05). -/
abbrev OVERFLOW_ENTRIES : Nat := 0x4B
/-- Level (05). -/
abbrev WRITE_GATE_TICKS : Nat := 0x4C
/-- Edge (05). -/
abbrev FLUSH_STROKES : Nat := 0x4D
/-- Edge (06). -/
abbrev SAME_LINE_HOLDS : Nat := 0x50
/-- Edge (06). -/
abbrev ATOMICS_DONE : Nat := 0x51
/-- Edge (06). -/
abbrev ATOMIC_LINE_WAITS : Nat := 0x52
/-- Edge (06). -/
abbrev BARRIERS_DONE : Nat := 0x53
/-- Level (06). -/
abbrev BARRIER_WAIT_TICKS : Nat := 0x54
/-- Edge (06). -/
abbrev LINE_ORDER_REPLAYS : Nat := 0x55
/-- Edge (07). -/
abbrev ROTATION_MOVES : Nat := 0x60
/-- Edge (07). -/
abbrev HEADER_CHECKPOINTS : Nat := 0x61
/-- Edge (07). -/
abbrev BINDINGS : Nat := 0x62
/-- Edge (07). -/
abbrev BLANKING_STROKES : Nat := 0x63
/-- Edge (07). -/
abbrev BLANK_LINE_READS : Nat := 0x64
/-- Edge (07). -/
abbrev MIGRATIONS_DONE : Nat := 0x65
/-- Edge (07). -/
abbrev MIGRATION_STROKES : Nat := 0x66
/-- Edge (07). -/
abbrev DOUBLE_EVICTIONS : Nat := 0x67
/-- Edge (07). -/
abbrev ROTATION_PROBES : Nat := 0x68
/-- Edge (07). -/
abbrev EVACUATION_STROKES : Nat := 0x69
/-- Edge (07). -/
abbrev PINNED_READS : Nat := 0x6A
/-- Level (07). -/
abbrev MIGRATION_TICKS : Nat := 0x6B
/-- Edge (08). -/
abbrev PATROL_READS : Nat := 0x70
/-- Edge (08). -/
abbrev PATROL_WEAK_LINES : Nat := 0x71
/-- Edge (08). -/
abbrev PATROL_STROKES : Nat := 0x72
/-- Edge (08). -/
abbrev PATROL_SKIPPED : Nat := 0x73
/-- Edge (08). -/
abbrev PATROL_VISITS : Nat := 0x74
/-- Edge (08). -/
abbrev REFRESH_ESCALATIONS : Nat := 0x75
/-- Edge (08). -/
abbrev SCRUB_READS : Nat := 0x76
/-- Edge (08). -/
abbrev SCRUB_STROKES : Nat := 0x77
/-- Level (08). -/
abbrev ACCEL_PATROL_TICKS : Nat := 0x78
/-- Edge (09). -/
abbrev WATCHDOG_TRIPS : Nat := 0x80
/-- Edge (09). -/
abbrev STANDIN_READS : Nat := 0x81
/-- Edge (09). -/
abbrev STANDIN_WRITES : Nat := 0x82
/-- Edge (09). -/
abbrev SPAN_RECONSTRUCTIONS : Nat := 0x83
/-- Edge (09). -/
abbrev SPAN_DELTAS : Nat := 0x84
/-- Edge (09). -/
abbrev REPLAYED_REQUESTS : Nat := 0x85
/-- Edge (09). -/
abbrev REPLAY_LOG_MATCHES : Nat := 0x86
/-- Edge (09). -/
abbrev VIOLATION_READS : Nat := 0x87
/-- Edge (09). -/
abbrev VIOLATION_WRITES : Nat := 0x88
/-- Edge (09). -/
abbrev RESYNC_LINES : Nat := 0x89
/-- Edge (09). -/
abbrev TILE_FENCES : Nat := 0x2001
/-- Level (09). -/
abbrev FENCED_TICKS : Nat := 0x2002
/-- Edge (10). -/
abbrev SEALED_VERIFIES : Nat := 0x90
/-- Edge (10). -/
abbrev MAC_MISMATCHES : Nat := 0x91
/-- Edge (10). -/
abbrev META_READS : Nat := 0x92
/-- Edge (10). -/
abbrev OVERFLOWS : Nat := 0x93
/-- Edge (10). -/
abbrev REPAD_STROKES : Nat := 0x94
/-- Edge (10). -/
abbrev REKEYED_READS : Nat := 0x95
/-- Edge (10). -/
abbrev REKEYED_WRITES : Nat := 0x96
/-- Edge (10). -/
abbrev KEY_PURGE_EVICTIONS : Nat := 0x97
/-- Level (10). -/
abbrev META_FETCH_TICKS : Nat := 0x98
/-- Edge (10). -/
abbrev KEY_CHANGES : Nat := 0x2003
/-- Edge (11). -/
abbrev SQ_DESCS_TAKEN : Nat := 0xA0
/-- Edge (11). -/
abbrev SQ_DESCS_DONE : Nat := 0xA1
/-- Edge (11). -/
abbrev SQ_DESCS_FAILED : Nat := 0xA2
/-- Edge (11). -/
abbrev SCRIBE_LINE_READS : Nat := 0xA3
/-- Edge (11). -/
abbrev SCRIBE_LINE_WRITES : Nat := 0xA4
/-- Edge (11). -/
abbrev SQ_FLUSHES : Nat := 0xA5
/-- Edge (11). -/
abbrev SQ_DROP_REMAINDERS : Nat := 0xA6
/-- Edge (11). -/
abbrev SQ_RECORDS : Nat := 0xA7
/-- Edge (11). -/
abbrev SQ_MSIX_SENT : Nat := 0xA8
/-- Edge (11). -/
abbrev SQ_WORDS_IGNORED : Nat := 0xA9
/-- Level (11). -/
abbrev SCRIBE_BUSY_TICKS : Nat := 0xAA
/-- Level (11). -/
abbrev SQ_HOLD_TICKS : Nat := 0xAB
/-- Edge (12). -/
abbrev FEED_ADMITTED_RD : Nat := 0xB0
/-- Edge (12). -/
abbrev FEED_ADMITTED_WR : Nat := 0xB1
/-- Edge (12). -/
abbrev FEED_EXCESS_ADMITTED : Nat := 0xB2
/-- Level (12). -/
abbrev FEED_HELD_TICKS : Nat := 0xB3
/-- Level (12). -/
abbrev CREDIT_WITHHELD_TICKS : Nat := 0xB4
/-- Level (12). -/
abbrev SOFT_GATE_TICKS : Nat := 0xB5
/-- Edge (12). -/
abbrev STROKE_CREDITS_GRANTED : Nat := 0xB6
/-- Edge (12). -/
abbrev STROKE_CREDITS_LAPSED : Nat := 0xB7
/-- Level (12). -/
abbrev CREDIT_DENIED_TICKS : Nat := 0xB8
/-- Level (12). -/
abbrev PEAK_LIMIT_TICKS : Nat := 0xB9
/-- Level (12). -/
abbrev URGENT_TICKS : Nat := 0xBA
/-- Level (12). -/
abbrev POWER_OVER_CAP_TICKS : Nat := 0x2004
/-- Level (12). -/
abbrev THERMAL_THROTTLE_TICKS : Nat := 0x2005
/-- Level (12). -/
abbrev RESERVATION_SCALED_TICKS : Nat := 0x2006
/-- Edge (13). -/
abbrev LINK_REPLAYS : Nat := 0xC0
/-- Edge (13). -/
abbrev LINK_RETRAINS : Nat := 0xC1
/-- Edge (13). -/
abbrev POISON_RESPONSES : Nat := 0xC2
/-- Edge (13). -/
abbrev POISONED_WRITES : Nat := 0xC3
/-- Edge (13). -/
abbrev MAILBOX_COMMANDS : Nat := 0xC4
/-- Level (13). -/
abbrev LINK_DOWN_TICKS : Nat := 0xC5
/-- Edge (13). -/
abbrev DC_BLOCKS_ADDED : Nat := 0x2007
/-- Edge (13). -/
abbrev DC_BLOCKS_RELEASED : Nat := 0x2008
/-- Edge (14). -/
abbrev VDDK_STEPS_UP : Nat := 0xD0
/-- Edge (14). -/
abbrev VDDK_STEPS_DOWN : Nat := 0xD1
/-- Level (14). -/
abbrev BT_LIMIT_TICKS : Nat := 0xD2
/-- Edge (14). -/
abbrev RAIL_SCANS : Nat := 0x2009
/-- Edge (14). -/
abbrev AVS_COMMANDS : Nat := 0x200A
/-- Edge (14). -/
abbrev DRAIN_ENTRIES : Nat := 0x200B
/-- Level (14). -/
abbrev HOLDUP_ON_TICKS : Nat := 0x200C
/-- Edge (15). -/
abbrev STAEB_MESSAGES : Nat := 0x200D
/-- Edge (15). -/
abbrev DICT_ERRORS : Nat := 0x200E
/-- Edge (15). -/
abbrev COMMITS_APPLIED : Nat := 0x200F
/-- Edge (15). -/
abbrev COMMITS_REFUSED : Nat := 0x2010
/-- Edge (15). -/
abbrev STAEB_BUSY_MESSAGES : Nat := 0x2011
/-- Edge (16). -/
abbrev CNT_WINDOW_READS : Nat := 0xE0
/-- Edge (16). -/
abbrev CNT_SNAPSHOTS : Nat := 0x2012
/-- Edge (17). -/
abbrev REC_OCCURRENCES : Nat := 0x2013
/-- Edge (17). -/
abbrev REC_SUPPRESSED : Nat := 0x2014
/-- Edge (17). -/
abbrev REC_ENTRIES_DROPPED : Nat := 0x2015
/-- Edge (17). -/
abbrev REC_SAVES : Nat := 0x2016
/-- Edge (17). -/
abbrev PSTORE_PAGE_COMMITS : Nat := 0x2017
/-- Edge (18). -/
abbrev STATE_CHANGES : Nat := 0x2018
/-- Level (18). -/
abbrev DEGRADED_TICKS : Nat := 0x2019
/-- Edge (18). -/
abbrev ERASE_STROKES : Nat := 0x201A
/-- Level (19). -/
abbrev ALERT_LOW_TICKS : Nat := 0x201B
/-- Level (19). -/
abbrev TEMP_ABOVE_110_TICKS : Nat := 0x201C
end Cn

namespace Ob
/-- U8 RO (01). -/
abbrev TILE_COUNT : Nat := 0x110001
/-- STR RO (01). -/
abbrev PART_CODE : Nat := 0x110002
/-- U8 RO (01). -/
abbrev RING_LINK_COUNT : Nat := 0x110003
/-- U8 RO (01). -/
abbrev ACTIVE_CORE_TILE : Nat := 0x201001
/-- U8 RO (01). -/
abbrev STANDBY_SYNC : Nat := 0x201002
/-- U8 RO (01). -/
abbrev FW_IMAGE : Nat := 0x201003
/-- U16 RO (01). -/
abbrev TAKEOVER_COUNT : Nat := 0x201004
/-- BITS32 RO (01). -/
abbrev MGMT_STATUS : Nat := 0x201005
/-- U64 RO (01). -/
abbrev TIMEBASE_NOW : Nat := 0x202001
/-- U8 RO (01). -/
abbrev TILE_STATE : Nat := 0x210001
/-- U16 RO (01). -/
abbrev VDDK_MV : Nat := 0x210002
/-- U8 RO (01). -/
abbrev CORE_ROLE : Nat := 0x210003
/-- BITS32 RO (01). -/
abbrev TB_STATUS : Nat := 0x210004
/-- BITS32 RO (01). -/
abbrev RING_LINK_STATUS : Nat := 0x210005
/-- BITS32 RWS (01). -/
abbrev PAIR_PORT_MODE : Nat := 0xC01001
/-- U64 RO (02). -/
abbrev DPA_CAPACITY : Nat := 0x300001
/-- U8 RO (02). -/
abbrev PARTITIONS_ENABLED : Nat := 0x300002
/-- U32 RO (02). -/
abbrev POOL_TOTAL_SEGS : Nat := 0x301001
/-- U32 RO (02). -/
abbrev POOL_FREE_SEGS : Nat := 0x301002
/-- U32 RO (02). -/
abbrev POOL_RELEASING_SEGS : Nat := 0x301003
/-- U8 RWS (02). -/
abbrev PART_ENABLE : Nat := 0x310001
/-- U64 RWS (02). -/
abbrev PART_DPA_BASE : Nat := 0x310002
/-- U64 RWS (02). -/
abbrev PART_SIZE : Nat := 0x310003
/-- U8 RWS (02). -/
abbrev PART_PROTECT : Nat := 0x310004
/-- U8 RWS (02). -/
abbrev PART_SEALED : Nat := 0x310005
/-- U8 RWS (02). -/
abbrev PART_CIPHER : Nat := 0x310006
/-- BITS32 RWS (02). -/
abbrev PART_TILE_SET : Nat := 0x310007
/-- U8 RWS (02). -/
abbrev PART_TILE_GRAN : Nat := 0x310008
/-- U8 RWS (02). -/
abbrev PART_FEED_CLASS : Nat := 0x310009
/-- U8 RO (02). -/
abbrev PART_STATE : Nat := 0x31000A
/-- U32 RO (02). -/
abbrev PART_DATA_SEGS : Nat := 0x31000B
/-- U32 RO (02). -/
abbrev PART_TOTAL_SEGS : Nat := 0x31000C
/-- U32 RO (02). -/
abbrev PART_SEG_BASE : Nat := 0x310010
/-- BITS32 RWS (02). -/
abbrev HDM_KX_CFG : Nat := 0x320001
/-- U16 RO (03). -/
abbrev LINE_CODE_ID : Nat := 0x400001
/-- U8 RO (03). -/
abbrev REMAP_FREE_MIN : Nat := 0x402001
/-- BITS32 RO (03). -/
abbrev REMAP_FULL_NIBS : Nat := 0x402002
/-- U32 RO (03). -/
abbrev SPARE_LINES_USED : Nat := 0x402003
/-- U16 RO (03). -/
abbrev FAILED_BANKS : Nat := 0x402004
/-- BITS32 RO (03). -/
abbrev FAILED_DIES : Nat := 0x402005
/-- BLOB RO (03). -/
abbrev REMAP_TABLE : Nat := 0x403001
/-- BITS32 RO (03). -/
abbrev BANK_FAILED_MAP : Nat := 0x404001
/-- U8 RO (03). -/
abbrev TEST_PERMITTED : Nat := 0xF00001
/-- BLOB RW (03). -/
abbrev FLIP_MASK : Nat := 0xF01001
/-- U8 RW (03). -/
abbrev FLIP_PARTITION : Nat := 0xF01002
/-- CMD CMD (03). -/
abbrev FLIP_ARM : Nat := 0xF01003
/-- BITS32 W1C (03). -/
abbrev FLIP_STATUS : Nat := 0xF01004
/-- U64 RO (03). -/
abbrev FLIP_LAST_LLA : Nat := 0xF01005
/-- U64 RO (03). -/
abbrev FLIP_LAST_SLOT : Nat := 0xF01006
/-- U16 RO (03). -/
abbrev FLIP_APPLIED_COUNT : Nat := 0xF01007
/-- U16 RO (03). -/
abbrev FLIP_DISCARDED_COUNT : Nat := 0xF01008
/-- BLOB RO (04). -/
abbrev READ_SVC_HIST : Nat := 0x405001
/-- U32 RO (04). -/
abbrev READ_SVC_MAX : Nat := 0x405002
/-- U32 RO (04). -/
abbrev READ_SVC_SEQ : Nat := 0x405003
/-- CMD CMD (04). -/
abbrev READ_SVC_CLEAR : Nat := 0x405004
/-- U16 RO (04). -/
abbrev TILE_READ_TOKENS : Nat := 0x405005
/-- U16 RO (04). -/
abbrev READ_TOKENS_FREE_MIN : Nat := 0x405006
/-- BITS32 W1C (04). -/
abbrev READ_STATUS : Nat := 0x405007
/-- U16 RO (04). -/
abbrev READ_STATUS_OCC : Nat := 0x405008
/-- U8 RWS (04). -/
abbrev SPEC_WINDOW : Nat := 0x406001
/-- U8 RWS (04). -/
abbrev READ_AROUND_ENABLE : Nat := 0x406002
/-- U8 RWS (05). -/
abbrev DIRTY_LIMIT : Nat := 0x407001
/-- U8 RWS (05). -/
abbrev WB_LOW : Nat := 0x407002
/-- U32 RO (05). -/
abbrev DIRTY_LIMIT_EFFECTIVE : Nat := 0x408001
/-- U32 RO (05). -/
abbrev DIRTY_LINES : Nat := 0x408002
/-- U32 RO (05). -/
abbrev PARTIAL_LINES : Nat := 0x408003
/-- U32 RO (05). -/
abbrev MIRROR_LINES : Nat := 0x408004
/-- U16 RO (05). -/
abbrev INFLIGHT_IMAGES : Nat := 0x408005
/-- U16 RO (05). -/
abbrev PINNED_LINES : Nat := 0x408006
/-- U16 RO (05). -/
abbrev BANK_CAP : Nat := 0x408007
/-- U16 RO (05). -/
abbrev BANK_CHARGE_MAX : Nat := 0x408008
/-- BITS32 RO (05). -/
abbrev WRITE_GATE_STATUS : Nat := 0x408009
/-- BITS32 W1C (05). -/
abbrev RES_ECC_STATUS : Nat := 0x40800A
/-- U16 RO (05). -/
abbrev RES_ECC_CORR_COUNT : Nat := 0x40800B
/-- U16 RO (05). -/
abbrev RES_ECC_POISON_COUNT : Nat := 0x40800C
/-- BITS32 RO (05). -/
abbrev FLUSH_LAST_RESULT : Nat := 0x409001
/-- U32 RO (05). -/
abbrev FLUSH_LAST_TIME_US : Nat := 0x409002
/-- U8 RO (05). -/
abbrev GPF_PHASE2_MS : Nat := 0x409003
/-- U32 RO (05). -/
abbrev SHADOW_LOST_LINES : Nat := 0x409004
/-- BITS32 W1C (06). -/
abbrev ORDER_STATUS : Nat := 0x213001
/-- U16 RO (06). -/
abbrev ATOMIC_MISALIGNED_COUNT : Nat := 0x213002
/-- U16 RO (06). -/
abbrev BARRIER_ERROR_COUNT : Nat := 0x213003
/-- U16 RWS (07). -/
abbrev WEAR_MIGRATE_PCT : Nat := 0x410001
/-- U8 RWS (07). -/
abbrev MIGRATE_MAX : Nat := 0x410002
/-- U16 RO (07). -/
abbrev PIN_QUOTA : Nat := 0x410003
/-- CMD CMD (07). -/
abbrev MIGRATE_REQUEST : Nat := 0x410005
/-- CMD CMD (07). -/
abbrev QUARANTINE_ACK : Nat := 0x410006
/-- CMD CMD (07). -/
abbrev MAP_QUERY : Nat := 0x410007
/-- U64 RO (07). -/
abbrev MAP_QUERY_RESULT : Nat := 0x410008
/-- U32 RO (07). -/
abbrev SEGS_BOUND : Nat := 0x411001
/-- U32 RO (07). -/
abbrev SEGS_FRESH : Nat := 0x411002
/-- U32 RO (07). -/
abbrev SEGS_FREE : Nat := 0x411003
/-- U32 RO (07). -/
abbrev SEGS_BLANKED : Nat := 0x411004
/-- U32 RO (07). -/
abbrev USABLE_SPARES : Nat := 0x411005
/-- U32 RO (07). -/
abbrev SEGS_RETIRED : Nat := 0x411006
/-- U16 RO (07). -/
abbrev SEGS_QUARANTINED : Nat := 0x411007
/-- U8 RO (07). -/
abbrev MIGRATIONS_ACTIVE : Nat := 0x411008
/-- U64 RO (07). -/
abbrev MOVES_MEAN : Nat := 0x411009
/-- U64 RO (07). -/
abbrev MOVES_MAX : Nat := 0x41100A
/-- U64 RO (07). -/
abbrev WEAR_THRESHOLD : Nat := 0x41100B
/-- U8 RO (07). -/
abbrev LIFE_USED_PCT : Nat := 0x41100C
/-- BITS32 W1C (07). -/
abbrev XLATE_STATUS : Nat := 0x41100D
/-- U16 RO (07). -/
abbrev XLATE_OCC : Nat := 0x41100E
/-- U32 RO (07). -/
abbrev EVAC_PROGRESS : Nat := 0x411014
/-- U16 RO (07). -/
abbrev EVAC_BANK : Nat := 0x411015
/-- BLOB RO (07). -/
abbrev QUARANTINE_LIST : Nat := 0x412001
/-- BLOB RO (07). -/
abbrev MIGRATION_TABLE : Nat := 0x413001
/-- U8 RWS (08). -/
abbrev REFRESH_WEAK_CELLS : Nat := 0x431001
/-- U8 RWS (08). -/
abbrev PATROL_INTERVAL : Nat := 0x431002
/-- U8 RWS (08). -/
abbrev MARGIN_STEPS : Nat := 0x431003
/-- U16 RWS (08). -/
abbrev WEAK_SEG_LINES : Nat := 0x431004
/-- U8 RWS (08). -/
abbrev WEAK_SEG_ERASED : Nat := 0x431005
/-- U32 RO (08). -/
abbrev DRIFT_CLOCK : Nat := 0x432001
/-- U16 RO (08). -/
abbrev DRIFT_RATE : Nat := 0x432002
/-- U32 RO (08). -/
abbrev PATROL_OLDEST_AGE : Nat := 0x432003
/-- U32 RO (08). -/
abbrev PATROL_ROUND_DONE : Nat := 0x432004
/-- U16 RO (08). -/
abbrev REFRESH_QUEUED : Nat := 0x432005
/-- U32 RO (08). -/
abbrev ABSENCE_ESTIMATE : Nat := 0x432006
/-- U32 RO (08). -/
abbrev ACCEL_REMAINING : Nat := 0x432007
/-- BITS32 W1C (08). -/
abbrev PATROL_STATUS : Nat := 0x432008
/-- U16 RO (08). -/
abbrev PATROL_OCC : Nat := 0x432009
/-- BLOB RO (08). -/
abbrev DRIFT_TABLE : Nat := 0x433001
/-- U64 RW (08). -/
abbrev SCRUB_DPA : Nat := 0x434001
/-- U64 RW (08). -/
abbrev SCRUB_LENGTH : Nat := 0x434002
/-- CMD CMD (08). -/
abbrev SCRUB_START : Nat := 0x434003
/-- CMD CMD (08). -/
abbrev SCRUB_ABORT : Nat := 0x434004
/-- U16 RWS (08). -/
abbrev SCRUB_RATE_MBS : Nat := 0x434005
/-- BLOB RO (08). -/
abbrev SCRUB_SUMMARY : Nat := 0x434006
/-- BITS32 RO (09). -/
abbrev FENCE_STATUS : Nat := 0xB00001
/-- U16 RO (09). -/
abbrev FENCE_COUNT : Nat := 0xB00002
/-- U8 RWS (09). -/
abbrev AUTO_REJOIN : Nat := 0xB00003
/-- U8 RWS (09). -/
abbrev AUTO_REJOIN_MAX : Nat := 0xB00004
/-- CMD CMD (09). -/
abbrev TILE_FENCE : Nat := 0xB00005
/-- CMD CMD (09). -/
abbrev TILE_REJOIN : Nat := 0xB00006
/-- U8 RO (09). -/
abbrev FENCE_CAUSE : Nat := 0xB01001
/-- U64 RO (09). -/
abbrev FENCE_TIME : Nat := 0xB01002
/-- U8 RO (09). -/
abbrev ISOLATION_FLUSH : Nat := 0xB01003
/-- U32 RO (09). -/
abbrev PLAIN_LINES_LOST : Nat := 0xB01004
/-- U32 RO (09). -/
abbrev RESYNC_SEGS_TOTAL : Nat := 0xB01005
/-- U32 RO (09). -/
abbrev RESYNC_SEGS_DONE : Nat := 0xB01006
/-- U8 RO (09). -/
abbrev STANDIN_TILE : Nat := 0xB01007
/-- U8 RO (09). -/
abbrev MIRROR_TILE_NOW : Nat := 0xB01008
/-- U8 RO (09). -/
abbrev FENCE_FIRST_CAUSE : Nat := 0xB01009
/-- BITS32 W1C (09). -/
abbrev VIOLATION_STATUS : Nat := 0xB02001
/-- U16 RO (09). -/
abbrev VIOLATION_OCC : Nat := 0xB02002
/-- BLOB RO (09). -/
abbrev LAST_VIOLATION : Nat := 0xB02008
/-- U32 RO (09). -/
abbrev SPAN_PARITY_BASE : Nat := 0xB10001
/-- U16 RO (10). -/
abbrev KEY_SLOTS : Nat := 0x500001
/-- U16 RO (10). -/
abbrev KEYS_LOADED : Nat := 0x500002
/-- U16 RO (10). -/
abbrev KEY_PURGING : Nat := 0x500003
/-- U16 RWS (10). -/
abbrev MAINT_KX : Nat := 0x500004
/-- BLOB WO (10). -/
abbrev KEY_LOAD : Nat := 0x501001
/-- CMD CMD (10). -/
abbrev KEY_ERASE : Nat := 0x501002
/-- CMD CMD (10). -/
abbrev KEY_QUERY : Nat := 0x501003
/-- BITS32 RO (10). -/
abbrev KEY_INFO : Nat := 0x501004
/-- BLOB RWS (10). -/
abbrev RIGHTS_MAP : Nat := 0x510001
/-- U16 RWS (10). -/
abbrev SEAL_KX : Nat := 0x520001
/-- BITS32 W1C (10). -/
abbrev SEAL_STATUS : Nat := 0x520002
/-- CMD CMD (10). -/
abbrev SEAL_ROOT_ADOPT : Nat := 0x520003
/-- U16 RO (10). -/
abbrev SEAL_OCC : Nat := 0x520004
/-- U64 RO (10). -/
abbrev ROOT_LOST_MAP : Nat := 0x530001
/-- U8 RO (10). -/
abbrev OVERFLOWS_ACTIVE : Nat := 0x530002
/-- BLOB WO (10). -/
abbrev DEBUG_UNLOCK : Nat := 0x540001
/-- CMD CMD (10). -/
abbrev DEBUG_LOCK : Nat := 0x540002
/-- U8 RO (10). -/
abbrev DEBUG_STATE : Nat := 0x540003
/-- U16 RO (11). -/
abbrev SCRIBE_QUEUES : Nat := 0x600001
/-- BITS32 RO (11). -/
abbrev SCRIBE_OPSETS : Nat := 0x600002
/-- BITS32 W1C (11). -/
abbrev SCRIBE_STATUS : Nat := 0x601001
/-- U16 RO (11). -/
abbrev SCRIBE_OCC : Nat := 0x601002
/-- U8 RO (11). -/
abbrev SCRIBE_ACTIVE : Nat := 0x601007
/-- U8 RWS (11). -/
abbrev SQ_ENABLE : Nat := 0x610001
/-- U8 RWS (11). -/
abbrev SQ_OWNER : Nat := 0x610002
/-- U16 RWS (11). -/
abbrev SQ_KX : Nat := 0x610003
/-- U8 RWS (11). -/
abbrev SQ_WINDOW : Nat := 0x610004
/-- U64 RWS (11). -/
abbrev SQ_CQ_BASE : Nat := 0x610005
/-- U32 RWS (11). -/
abbrev SQ_CQ_SIZE : Nat := 0x610006
/-- U16 RWS (11). -/
abbrev SQ_MSIX : Nat := 0x610007
/-- U8 RO (11). -/
abbrev SQ_STATE : Nat := 0x610008
/-- CMD CMD (11). -/
abbrev SQ_RESTART : Nat := 0x610009
/-- U32 RO (11). -/
abbrev SQ_DESCS_DONE : Nat := 0x61000A
/-- U16 RWS (12). -/
abbrev POWER_CAP_W : Nat := 0x700001
/-- U16 RWS (12). -/
abbrev PEAK_STROKES : Nat := 0x700002
/-- U8 RWS (12). -/
abbrev THERMAL_LIMIT_C : Nat := 0x700003
/-- U16 RWS (12). -/
abbrev DEVLOAD_T1_NS : Nat := 0x700004
/-- U16 RWS (12). -/
abbrev DEVLOAD_T2_NS : Nat := 0x700005
/-- U16 RO (12). -/
abbrev POWER_NOW_W : Nat := 0x700006
/-- U16 RO (12). -/
abbrev POWER_EFF_W : Nat := 0x700007
/-- BITS32 W1C (12). -/
abbrev BUDGET_STATUS : Nat := 0x700008
/-- U16 RO (12). -/
abbrev BUDGET_OCC : Nat := 0x700009
/-- U32 RO (12). -/
abbrev GUAR_WR_MBS : Nat := 0x70000E
/-- U32 RO (12). -/
abbrev GUAR_RD_MBS : Nat := 0x70000F
/-- U16 RO (12). -/
abbrev GRANT_LAST : Nat := 0x701001
/-- U16 RO (12). -/
abbrev STROKES_IN_FLIGHT : Nat := 0x701002
/-- U32 RO (12). -/
abbrev TILE_GUAR_WR_MBS : Nat := 0x701003
/-- U32 RO (12). -/
abbrev TILE_GUAR_RD_MBS : Nat := 0x701004
/-- U8 RWS (12). -/
abbrev CLASS_PRIORITY : Nat := 0x710001
/-- U8 RWS (12). -/
abbrev CLASS_URGENCY : Nat := 0x710002
/-- U32 RWS (12). -/
abbrev CLASS_RD_RATE : Nat := 0x710003
/-- U32 RWS (12). -/
abbrev CLASS_RD_RESERVE : Nat := 0x710004
/-- U32 RWS (12). -/
abbrev CLASS_WR_RATE : Nat := 0x710005
/-- U32 RWS (12). -/
abbrev CLASS_WR_RESERVE : Nat := 0x710006
/-- U16 RWS (12). -/
abbrev CLASS_BURST : Nat := 0x710007
/-- BITS32 RWS (12). -/
abbrev CLASS_TILES : Nat := 0x710008
/-- U8 RWS (12). -/
abbrev CLASS_SCRIBE_PCT : Nat := 0x710009
/-- U8 RO (12). -/
abbrev CLASS_RD_EFF_PCT : Nat := 0x71000A
/-- U8 RO (12). -/
abbrev CLASS_WR_EFF_PCT : Nat := 0x71000B
/-- U64 RO (12). -/
abbrev CLASS_BYTES_RD : Nat := 0x720001
/-- U64 RO (12). -/
abbrev CLASS_BYTES_WR : Nat := 0x720002
/-- BLOB RO (12). -/
abbrev CLASS_HELD_HIST : Nat := 0x720003
/-- U32 RO (12). -/
abbrev CLASS_HELD_SEQ : Nat := 0x720004
/-- CMD CMD (12). -/
abbrev CLASS_HELD_CLEAR : Nat := 0x720005
/-- U32 RO (12). -/
abbrev CLASS_HELD_MAX : Nat := 0x720006
/-- BLOB RO (12). -/
abbrev CLASS_DEVLOAD_COUNTS : Nat := 0x720007
/-- U8 RO (12). -/
abbrev CLASS_HOLD_DEPTH : Nat := 0x720008
/-- U8 RO (13). -/
abbrev PORTS_IN_USE : Nat := 0xC00001
/-- U8 RWS (13). -/
abbrev SHUTDOWN_STATE : Nat := 0xC00002
/-- U32 RO (13). -/
abbrev DIRTY_SHUTDOWN_COUNT : Nat := 0xC00003
/-- U64 RW (13). -/
abbrev HOST_TIME_OFFSET : Nat := 0xC00004
/-- U32 RO (13). -/
abbrev CDAT_SEQ : Nat := 0xC00005
/-- U32 RO (13). -/
abbrev DC_GENERATION : Nat := 0xC00006
/-- BITS32 RO (13). -/
abbrev PORT_LINK_STATUS : Nat := 0xC02001
/-- U8 RWS (13). -/
abbrev PORT_LD_MODE : Nat := 0xC02002
/-- U8 RWS (13). -/
abbrev PORT_LD_COUNT : Nat := 0xC02003
/-- U8 RWS (13). -/
abbrev PORT_MAX_RATE : Nat := 0xC02004
/-- U16 RO (13). -/
abbrev PORT_PBR_ID : Nat := 0xC02005
/-- U8 RO (13). -/
abbrev PORT_IDE_MODE : Nat := 0xC02006
/-- BITS32 W1C (13). -/
abbrev PORT_ERR_STATUS : Nat := 0xC02007
/-- U16 RO (13). -/
abbrev PORT_ERR_OCC : Nat := 0xC02008
/-- U64 RWS (13). -/
abbrev LD_ALLOC_BASE : Nat := 0xC10001
/-- U64 RWS (13). -/
abbrev LD_ALLOC_SIZE : Nat := 0xC10002
/-- U16 RWS (13). -/
abbrev LD_SPID : Nat := 0xC10003
/-- U8 RWS (13). -/
abbrev LD_MGMT : Nat := 0xC10004
/-- U16 RWS (13). -/
abbrev LD_CLEAR_KX : Nat := 0xC10005
/-- U16 RO (13). -/
abbrev LD_DC_EXTENTS : Nat := 0xC10006
/-- BITS32 RWS (13). -/
abbrev DCR_CFG : Nat := 0xC20001
/-- U8 RWS (14). -/
abbrev SEQ_RETRIES : Nat := 0x800001
/-- U8 RO (14). -/
abbrev SEQ_STEP : Nat := 0x800002
/-- U8 RO (14). -/
abbrev SEQ_ATTEMPTS_LAST : Nat := 0x800003
/-- U8 RO (14). -/
abbrev SEQ_FAIL_STEP : Nat := 0x800004
/-- U8 RO (14). -/
abbrev SEQ_FAIL_POINT : Nat := 0x800005
/-- U32 RO (14). -/
abbrev POWERUP_TIME_US : Nat := 0x800006
/-- BITS32 W1C (14). -/
abbrev SUPPLY_STATUS : Nat := 0x800007
/-- U16 RO (14). -/
abbrev SUPPLY_OCC : Nat := 0x800008
/-- BITS32 RO (14). -/
abbrev DRAIN_CAUSE : Nat := 0x800011
/-- BLOB RO (14). -/
abbrev SENSE_VALUES : Nat := 0x800012
/-- U32 RO (14). -/
abbrev SCAN_TIME_NS : Nat := 0x800013
/-- U32 RO (14). -/
abbrev HOLDUP_CAP_UF : Nat := 0x801001
/-- U16 RO (14). -/
abbrev HOLDUP_ESR_MOHM : Nat := 0x801002
/-- U32 RO (14). -/
abbrev HOLDUP_EHOLD_MJ : Nat := 0x801003
/-- BITS32 RO (14). -/
abbrev HOLDUP_STATUS : Nat := 0x801004
/-- U16 RO (14). -/
abbrev VDDC_CMD_MV : Nat := 0x802001
/-- U16 RO (14). -/
abbrev VDDC_NEED_MV : Nat := 0x810001
/-- S32 RO (14). -/
abbrev REPLICA_MARGIN : Nat := 0x810002
/-- U16 RO (14). -/
abbrev VDDK_FLOOR_MV : Nat := 0x810003
/-- U64 RO (15). -/
abbrev CAP_BASE : Nat := 0x100000
/-- STR RO (15). -/
abbrev VENDOR_NAME : Nat := 0x100001
/-- U16 RO (15). -/
abbrev VENDOR_ID : Nat := 0x100002
/-- STR RO (15). -/
abbrev SERIAL_NUMBER : Nat := 0x100003
/-- U16 RO (15). -/
abbrev STAEB_VERSION : Nat := 0x100004
/-- STR RO (15). -/
abbrev FW_VERSION : Nat := 0x100005
/-- CMD CMD (15). -/
abbrev COMMIT : Nat := 0x1F0001
/-- U64 RO (15). -/
abbrev COMMIT_STATUS : Nat := 0x1F0002
/-- U32 RO (15). -/
abbrev CONFIG_GENERATION : Nat := 0x1F0003
/-- CMD CMD (15). -/
abbrev STAGE_DISCARD : Nat := 0x1F0004
/-- U16 RO (15). -/
abbrev STAGED_COUNT : Nat := 0x1F0005
/-- U8 RO (15). -/
abbrev STAGED_SETS : Nat := 0x1F0006
/-- U8 RO (15). -/
abbrev DEVICE_STATE : Nat := 0x200001
/-- U8 RO (15). -/
abbrev HEALTH_STATE : Nat := 0x200002
/-- BITS32 W1C (15). -/
abbrev DICT_STATUS : Nat := 0x200003
/-- BLOB RO (15). -/
abbrev DICT_LAST_ERROR : Nat := 0x200004
/-- U16 RO (15). -/
abbrev DICT_OCC : Nat := 0x200005
/-- BLOB RO (16). -/
abbrev CNT_MODE_TILE : Nat := 0x900001
/-- BLOB RO (16). -/
abbrev CNT_MODE_PKG : Nat := 0x900002
/-- CMD CMD (16). -/
abbrev CNT_SNAPSHOT : Nat := 0x900003
/-- U64 RO (16). -/
abbrev CNT_SNAPSHOT_TIME : Nat := 0x900004
/-- U32 RO (16). -/
abbrev CNT_SNAPSHOT_SEQ : Nat := 0x900005
/-- BLOB RO (16). -/
abbrev CNT_PRESENT_TILE : Nat := 0x900006
/-- BLOB RO (16). -/
abbrev CNT_PRESENT_PKG : Nat := 0x900007
/-- U64 RO (16). -/
abbrev CNT_START_TIME : Nat := 0x901001
/-- BITS32 RWS (16). -/
abbrev CNT_WINDOW_GRANT : Nat := 0x910001
/-- U16 RWS (17). -/
abbrev REC_PUBLISH_MS : Nat := 0xA00001
/-- U16 RWS (17). -/
abbrev REC_RATE_DEFAULT : Nat := 0xA00002
/-- CMD CMD (17). -/
abbrev REC_CLEAR : Nat := 0xA00003
/-- U16 RO (17). -/
abbrev REC_SAVE_INTERVAL_S : Nat := 0xA00004
/-- U32 RO (17). -/
abbrev REC_SEQ : Nat := 0xA01001
/-- U32 RO (17). -/
abbrev REC_HEAD : Nat := 0xA01002
/-- U16 RO (17). -/
abbrev REC_ENTRIES : Nat := 0xA01003
/-- CMD CMD (17). -/
abbrev REC_NEXT : Nat := 0xA01004
/-- CMD CMD (17). -/
abbrev REC_RELEASE : Nat := 0xA01005
/-- BITS32 W1C (17). -/
abbrev REC_STATUS : Nat := 0xA01006
/-- U16 RO (17). -/
abbrev REC_OCC : Nat := 0xA01007
/-- U64 RO (17). -/
abbrev REC_LAST_SAVE : Nat := 0xA0100B
/-- U32 RO (17). -/
abbrev REC_PKG_SEQ : Nat := 0xA02001
/-- U32 RO (17). -/
abbrev REC_PKG_HEAD : Nat := 0xA02002
/-- U16 RO (17). -/
abbrev REC_PKG_ENTRIES : Nat := 0xA02003
/-- CMD CMD (17). -/
abbrev REC_PKG_NEXT : Nat := 0xA02004
/-- CMD CMD (17). -/
abbrev REC_PKG_RELEASE : Nat := 0xA02005
/-- BITS32 RO (17). -/
abbrev PSTORE_RECOVERY : Nat := 0xA80001
/-- U64 RO (17). -/
abbrev PSTORE_TORN_RINGS : Nat := 0xA80002
/-- BITS32 RO (18). -/
abbrev FW_STATUS : Nat := 0x1E0001
/-- CMD CMD (18). -/
abbrev FW_ACTIVATE : Nat := 0x1E0002
/-- U16 RO (18). -/
abbrev FW_SVN : Nat := 0x1E0003
/-- U16 RO (18). -/
abbrev FW_SVN_MIN : Nat := 0x1E0004
/-- CMD CMD (18). -/
abbrev FW_SVN_COMMIT : Nat := 0x1E0005
/-- STR RO (18). -/
abbrev FW_VERSION_OTHER : Nat := 0x1E0006
/-- U8 RO (18). -/
abbrev OWNER_STATE : Nat := 0x1E1001
/-- BLOB WO (18). -/
abbrev OWNER_INSTALL : Nat := 0x1E1002
/-- CMD CMD (18). -/
abbrev DECOMMISSION : Nat := 0x1E1003
/-- CMD CMD (18). -/
abbrev POWER_DOWN : Nat := 0x203001
/-- CMD CMD (18). -/
abbrev POWER_UP : Nat := 0x203002
/-- U32 RO (18). -/
abbrev POWERUP_COUNT : Nat := 0x203003
/-- U32 RO (18). -/
abbrev LAST_BRINGUP_MS : Nat := 0x203004
/-- BITS32 RO (18). -/
abbrev HEALTH_CAUSE : Nat := 0x203005
/-- BITS32 RO (18). -/
abbrev ERASE_STATUS : Nat := 0x203006
/-- BITS32 W1C (19). -/
abbrev ALERT_STATUS : Nat := 0x204001
/-- BITS32 RWS (19). -/
abbrev ALERT_MASK : Nat := 0x204002
/-- U16 RO (19). -/
abbrev ALERT_OCC : Nat := 0x204003
/-- S32 RO (19). -/
abbrev TEMP_MAX_C : Nat := 0x204008
/-- S32 RO (19). -/
abbrev TEMP_MAX_LIFE_C : Nat := 0x204009
/-- U16 RO (19). -/
abbrev PART_BALLS : Nat := 0x20400A
/-- U64 RO (16). -/
abbrev CNT_LIVE : Nat := 0x920000
/-- U64 RO (16). -/
abbrev CNT_SNAP : Nat := 0x930000
/-- BLOB RO (17). -/
abbrev REC_SUMMARY : Nat := 0xA10000
/-- U16 RWS (17). -/
abbrev REC_RATE : Nat := 0xA20000
end Ob

/-- Event numbers of severity NOTICE: tile-local below 0xC0, package codes from 0x600 (R455). -/
def sevNotice : List Nat :=
  [0x3, 0x10, 0x11, 0x21, 0x22, 0x24, 0x25, 0x26, 0x31, 0x32, 0x40, 0x45, 0x48, 0x4A, 0x50, 0x51,
   0x62, 0x63, 0x6B, 0x6C, 0x6F, 0x70, 0x71, 0x73, 0x74, 0x81, 0x82, 0x83, 0x84, 0x91, 0x96, 0xA0,
   0xA2, 0xA3, 0xA4, 0xA5, 0xA6, 0xB0, 0xB1, 0xB2, 0xB4, 0xB5, 0xB6, 0xB7, 0xB8, 0xB9, 0xBC, 0x603,
   0x605, 0x607, 0x60A, 0x60C, 0x60F, 0x610, 0x611, 0x616, 0x618, 0x61B, 0x61C, 0x61F, 0x624, 0x626, 0x628, 0x62E,
   0x630, 0x631, 0x632, 0x633]

/-- Event numbers of severity DEGRADED: tile-local below 0xC0, package codes from 0x600 (R455). -/
def sevDegraded : List Nat :=
  [0x2, 0x27, 0x28, 0x29, 0x30, 0x64, 0x65, 0x66, 0x6D, 0x72, 0x80, 0xBA, 0xBE, 0x600, 0x601, 0x602,
   0x608, 0x60D, 0x614, 0x621, 0x622, 0x623, 0x62F]

/-- Event numbers of severity CRITICAL: tile-local below 0xC0, package codes from 0x600 (R455). -/
def sevCritical : List Nat :=
  [0x23, 0x42, 0x43, 0x44, 0x47, 0x49, 0x67, 0x68, 0x69, 0x6A, 0x76, 0x90, 0x92, 0x93, 0x95, 0xBB,
   0xBD, 0x609, 0x60B, 0x60E, 0x613, 0x617, 0x61D, 0x61E, 0x625, 0x62C]

/-- Every event number a chapter defines. -/
def eventNumbers : List Nat :=
  [0x1, 0x2, 0x3, 0x4, 0x10, 0x11, 0x20, 0x21, 0x22, 0x23, 0x24, 0x25, 0x26, 0x27, 0x28, 0x29,
   0x2A, 0x2B, 0x30, 0x31, 0x32, 0x40, 0x41, 0x42, 0x43, 0x44, 0x45, 0x46, 0x47, 0x48, 0x49, 0x4A,
   0x50, 0x51, 0x60, 0x61, 0x62, 0x63, 0x64, 0x65, 0x66, 0x67, 0x68, 0x69, 0x6A, 0x6B, 0x6C, 0x6D,
   0x6E, 0x6F, 0x70, 0x71, 0x72, 0x73, 0x74, 0x75, 0x76, 0x80, 0x81, 0x82, 0x83, 0x84, 0x90, 0x91,
   0x92, 0x93, 0x94, 0x95, 0x96, 0xA0, 0xA1, 0xA2, 0xA3, 0xA4, 0xA5, 0xA6, 0xB0, 0xB1, 0xB2, 0xB3,
   0xB4, 0xB5, 0xB6, 0xB7, 0xB8, 0xB9, 0xBA, 0xBB, 0xBC, 0xBD, 0xBE, 0xBF, 0x600, 0x601, 0x602, 0x603,
   0x604, 0x605, 0x606, 0x607, 0x608, 0x609, 0x60A, 0x60B, 0x60C, 0x60D, 0x60E, 0x60F, 0x610, 0x611, 0x612, 0x613,
   0x614, 0x615, 0x616, 0x617, 0x618, 0x619, 0x61A, 0x61B, 0x61C, 0x61D, 0x61E, 0x61F, 0x620, 0x621, 0x622, 0x623,
   0x624, 0x625, 0x626, 0x627, 0x628, 0x629, 0x62A, 0x62B, 0x62C, 0x62D, 0x62E, 0x62F, 0x630, 0x631, 0x632, 0x633,
   0x634, 0x635]

/-- Counter numbers of level mode (R444), beside slot counters with k = 0. -/
def cntLevel : List Nat :=
  [0x3, 0x3D, 0x3E, 0x4C, 0x54, 0x6B, 0x78, 0x98, 0xAA, 0xAB, 0xB3, 0xB4, 0xB5, 0xB8, 0xB9, 0xBA,
   0xC5, 0xD2, 0x2002, 0x2004, 0x2005, 0x2006, 0x200C, 0x2019, 0x201B, 0x201C]

/-- Counter numbers a chapter defines (R446), beside the slot counters. -/
def cntNumbers : List Nat :=
  [0x0, 0x1, 0x2, 0x3, 0x10, 0x11, 0x12, 0x20, 0x21, 0x22, 0x23, 0x24, 0x25, 0x26, 0x27, 0x28,
   0x29, 0x2A, 0x2B, 0x30, 0x31, 0x32, 0x33, 0x34, 0x35, 0x36, 0x37, 0x38, 0x39, 0x3A, 0x3B, 0x3C,
   0x3D, 0x3E, 0x40, 0x41, 0x42, 0x43, 0x44, 0x45, 0x46, 0x47, 0x48, 0x49, 0x4A, 0x4B, 0x4C, 0x4D,
   0x50, 0x51, 0x52, 0x53, 0x54, 0x55, 0x60, 0x61, 0x62, 0x63, 0x64, 0x65, 0x66, 0x67, 0x68, 0x69,
   0x6A, 0x6B, 0x70, 0x71, 0x72, 0x73, 0x74, 0x75, 0x76, 0x77, 0x78, 0x80, 0x81, 0x82, 0x83, 0x84,
   0x85, 0x86, 0x87, 0x88, 0x89, 0x90, 0x91, 0x92, 0x93, 0x94, 0x95, 0x96, 0x97, 0x98, 0xA0, 0xA1,
   0xA2, 0xA3, 0xA4, 0xA5, 0xA6, 0xA7, 0xA8, 0xA9, 0xAA, 0xAB, 0xB0, 0xB1, 0xB2, 0xB3, 0xB4, 0xB5,
   0xB6, 0xB7, 0xB8, 0xB9, 0xBA, 0xC0, 0xC1, 0xC2, 0xC3, 0xC4, 0xC5, 0xD0, 0xD1, 0xD2, 0xE0, 0x2000,
   0x2001, 0x2002, 0x2003, 0x2004, 0x2005, 0x2006, 0x2007, 0x2008, 0x2009, 0x200A, 0x200B, 0x200C, 0x200D, 0x200E, 0x200F, 0x2010,
   0x2011, 0x2012, 0x2013, 0x2014, 0x2015, 0x2016, 0x2017, 0x2018, 0x2019, 0x201A, 0x201B, 0x201C]

end Sys2Proof.Machine
end

