-- ==== Sys2Proof/Config.lean ====
section
/-! DEFINITION. What the spec leaves to the silicon, the entropy source or the outside: the free values. Nothing in
Lean can evaluate them, so a claim holds whatever they are. Each has its entry in the assumption log. -/
namespace Sys2Proof

/-- The hash that picks slice and set of a reservoir line, keyed with the value drawn at power-up (R132). The
arguments: the drawn key, the kind of the entry, its address. [DESIGN CHOICE, assumption 5] -/
opaque Config.lineHash : Nat → Nat → Nat → BitVec 16

/-- The value drawn at power-up to key the line hash (R132), fresh for each value of the state's free counter. [DESIGN CHOICE, assumption 5] -/
opaque Config.freeNat : Nat → Nat

/-- A codeword that the spec leaves open: what a slot holds after a stroke was cut off. [DESIGN CHOICE, assumption 5] -/
opaque Config.freeCodeword : Nat → BitVec 576

/-- The value drawn from the internal entropy source for the device key (R278): K1 and K2. [DESIGN CHOICE, assumption 5] -/
opaque Config.entropyKey : Nat → BitVec 256

/-- The counter-mode KDF of R292: how K1 and K2 enter it is not stated. Arguments: K1, K2, label (0 = "MAC",
1 = "PAD", 2 = "ROOT"), context. [DESIGN CHOICE, assumption 5] -/
opaque Config.sealKdf : BitVec 256 → BitVec 256 → Nat → Nat → BitVec 256

/-- Whether an unlock token verifies against the owner certificate installed (R286): how it is signed is not stated.
Arguments: the certificate, the token. [DESIGN CHOICE, assumption 5] -/
opaque Config.tokenOk : Nat → Nat → Bool

/-- Whether a DER certificate parses and holds a P-384 or P-256 key (R494): the encoding of certificates lies outside the spec.
[DESIGN CHOICE, assumption 5] -/
opaque Config.certOk : Nat → Bool

/-- The key-index ranges of an unlock token with their rights (R286): first, last, rights (bit 0 read, bit 1 write). The
token's layout is not stated. [DESIGN CHOICE, assumption 5] -/
opaque Config.tokenRanges : Nat → List (Nat × Nat × Nat)

/-- The TEST bit of an unlock token (R286). [DESIGN CHOICE, assumption 5] -/
opaque Config.tokenTest : Nat → Bool

/-- 7,800 times the drift rate F at a temperature of so many °C below zero, where that is below −40 °C: the points of R219 begin at −40 °C.
[DESIGN CHOICE, assumption 5] -/
opaque Config.rateBelow : Nat → Nat

/-- Identity values fused per silicon, package or image (R442): vendor ID, serial number, firmware version. [DESIGN CHOICE, assumption 5] -/
opaque Config.identity : Nat → Nat

/-- The code that stands for a trigger of a device state transition (R475) in DEVICE_STATE_CHANGED, by the row of
the table of R475: the spec gives the triggers no codes. [DESIGN CHOICE, assumptions 5, 29] -/
opaque Config.triggerCode : Nat → Nat

/-- The code that an event records for a thing to which the spec gives no code: the source of a DRAIN (0 from VIN, 1 from VHOLD; R409),
the reaction to a rail fault (2 fence, 3 DRAIN, 4 recorded only; R404). [DESIGN CHOICE, assumptions 5, 29] -/
opaque Config.eventCode : Nat → Nat

/-- Flits that one ring message takes, by kind of message: the spec gives no count. [DESIGN CHOICE, assumption 5] -/
opaque Config.ringFlits : Nat → Nat

end Sys2Proof
end

