-- ==== Sys2Proof/Machine/State.lean ====
section
/-! DEFINITION. The state of the block, the reasons a step can stop, and the state after reset. -/
namespace Sys2Proof.Machine

/-- Reasons a step can fault. The model has none: every command has an effect or leaves the state as it is. The one
constructor is raised by nothing (safe). [DESIGN CHOICE, assumption 3] -/
inductive Fault where
  /-- Raised by no command (safe). -/
  | none
  deriving DecidableEq, Repr

/-- Reasons a command can be refused. [DESIGN CHOICE, assumption 3] -/
inductive Refusal where
  /-- The command has no meaning yet: raised by an arm of exec that names its mnemonic (safe). -/
  | notModelled (mnemonic : String)
  deriving DecidableEq, Repr

/-- What the block hands over to a port, a transport or a host, in order of hand-over. -/
inductive Response where
  /-- A CXL.mem response: port, LD, tag, whether it carries data (MemData) or not (Cmp), the data, the poison bit,
  DevLoad (R362, R344). -/
  | mem (port ld tag : Nat) (isData : Bool) (data : Line) (poison : Bool) (devLoad : Nat)
  /-- A mailbox completion: port, LD, opcode, return code, payload quantities (R377). -/
  | mailbox (port ld op rc : Nat) (payload : List Nat)
  /-- A Staeb response message, in bytes (R425). -/
  | staeb (req : Requester) (bytes : List Nat)
  /-- An MSI-X message: port, LD, vector (R328, R381). -/
  | msix (port ld vector : Nat)
  /-- Answer of a debug access: data, violation (R273, R286). -/
  | debug (data : Line) (violation : Bool)
  deriving DecidableEq, Repr

/-- The state of the block. -/
structure State where
  /-- Commands that wait, first in, first out. -/
  pending : List Instr
  part : Part
  dev : Device
  sup : Supply
  mgmt : Mgmt
  fw : Firmware
  svc : Service
  /-- Cells of dictionary objects, by index × 256 + subindex (R417); an object not listed has its default. -/
  obj : Sparse Nat
  cnt : Counters
  /-- The recorders of tiles 0 to 7 and, at 8, the package recorder (R456). -/
  recs : List Recorder
  tiles : List Tile
  ports : List Port
  /-- Logical devices, by 16 × port + LD. -/
  lds : Sparse LD
  feed : Feed
  keys : Keys
  /-- Partitions as enabled, by number (02). -/
  parts : Sparse PartInfo
  /-- Descriptor queues, by 64 × tile + queue. -/
  queues : Sparse Queue
  refK0 : Bool
  refK1 : Bool
  /-- The timebase master (R32, R33). -/
  master : Option Nat
  out : List Response
  /-- The model's own counter of free values drawn. -/
  freeCtr : Nat
  deriving DecidableEq, Repr

/-- A tile's timebase at reset. [DESIGN CHOICE, assumption 1] -/
def TileTime.reset (t : Nat) : TileTime :=
  { tb := 0, lastSync := 0, locked := false, holdover := false, linkE := decide (t < 8), linkW := true, onNs := 0 }
/-- A tile's supply at reset: 0.80 V commands (R396 P1, P5). [DESIGN CHOICE, assumption 1] -/
def TileSup.reset : TileSup :=
  { railsUp := false, vddk := 800, vddkFloor := 800, need := 800, margin := 0, above6 := none, btLimit := false,
    okSince := none, temp := 0, dieTemps := [] }
/-- A tile's medium as shipped (R188, R93). -/
def TileMed.reset : TileMed :=
  { slots := [], hdr := [], remap := [], spares := [], failedBanks := [], failedDies := [], readHist := [],
    failHist := [], silent := [], flipArmed := false, strokes := 0 }
/-- An empty reservoir (R132). -/
def TileRes.reset : TileRes :=
  { hashKey := 0, entries := [], bufs := [], evicts := [], strokes := [], pwaits := [], cmpWait := [], cmpHeld := [],
    mirrorOut := [], deltaOut := [], opens := [], shadow := [], shadowQ := [],
    accLog := [], backlog := [], seqCtr := 0, verCtr := 0, limit := 0, gateWas := 0, gpf := [], flush := 0, flushed := 0 }
/-- No reads under way; 256 tokens each way (R119, R130). [DESIGN CHOICE, assumption 14] -/
def TileRead.reset : TileRead :=
  { waiting := [], lastQueue := 63, rds := [], senses := [], holds := [], nextId := 0, order := 0, hist := List.replicate 16 0, max := 0,
    histSeq := 0, freeMin := 256, rdUse := List.replicate 16 0, wrUse := List.replicate 16 0,
    rdAllot := List.replicate 16 0, wrAllot := List.replicate 16 0, nibUse := List.replicate 256 0,
    nibAllot := List.replicate 256 0, demand := List.replicate 36 (List.replicate 16 0) }
/-- Every segment free and blanked, every logical segment FRESH (R183, R188). [DESIGN CHOICE, assumption 1] -/
def TileMap.reset : TileMap :=
  { map := [], segs := [], migs := [], triggers := [], seqCtr := 0, seqCeil := 0, quars := [], evacs := [], evacBlocked := [], movesDue := [], poison := [], poisonFullAt := none,
    wearThreshold := 1048576 }
/-- Patrol at reset. [DESIGN CHOICE, assumption 1] -/
def TilePat.reset : TilePat :=
  { drift := 0, driftFrac := 0, rate := 256 * 7800, visit := none, d0 := 0, nextStripe := 0, nextMember := 0, weak := 0,
    erased := 0, overdue := false, pace := 0, accel := [], accelOn := false, accelSince := 0, absence := 0, first := [],
    roundDone := [] }
/-- An ACTIVE tile with no fence behind it (R43, R275). -/
def TileFence.reset (n t : Nat) : TileFence :=
  { st := .active, cause := 0, firstCause := 0, fenceTime := 0, isoFlush := 0, plainLost := 0, standin := 0xFF,
    mirror := (t + 1) % n, remirror := false, changed := [], resyncDone := 0, rejoinStep := 0,
    autoTimes := [], doubleFault := false }
/-- A parameter store as shipped: the rings in use hold 0, FLUSH_DONE of generation 0 is committed (R152, R471, R472).
[DESIGN CHOICE, assumption 1; DEDUCED, assumption 10] -/
def PStore.reset : PStore :=
  { rings := List.replicate 7 [{ seq := 0, value := 0, valid := true }] ++ List.replicate 57 [], commits := [], commitSeq := 0,
    flushDone := some 0, shadowRecs := [], bound := [],
    config := [], recImage := none, pkgImage := none, lsa := [], roots := [], pinLatch := false, eraseKind := 0,
    drainCause := 0 }
/-- A tile at reset. -/
def Tile.reset (n t : Nat) : Tile :=
  { time := TileTime.reset t, sup := TileSup.reset, med := TileMed.reset, res := TileRes.reset, rd := TileRead.reset,
    map := TileMap.reset, pat := TilePat.reset, fence := TileFence.reset n t, sealing := [], ps := PStore.reset }

/-- A port with its link down (PORT_LINK_STATUS 0). [DESIGN CHOICE, assumption 1] -/
def Port.reset : Port :=
  { up := false, rate := 0, width := 0, flit := 0, cxlMem := false, ldMode := 0, ldCount := 1, maxRate := 5,
    ideMem := false, ideIo := false, ideMode := 0, ideMemKey := 0, ideIoKey := 0, pbrId := 0xFFFF, held := [], ingress := [], withheld := false,
    urg := 0, urgSample := 0, order := 0 }

/-- An HDM decoder that is not committed (R368). -/
def Decoder.reset : Decoder :=
  { committed := false, locked := false, err := false, base := 0, size := 0, ways := 1, gran := 256, skip := 0, kxCfg := 0 }
/-- An empty event log. -/
def EventLog.reset : EventLog := { records := [], overflow := 0, firstLost := 0, lastLost := 0, nextHandle := 1 }
/-- A logical device with nothing committed or logged. [DESIGN CHOICE, assumption 1] -/
def LD.reset : LD :=
  { decoders := List.replicate 4 Decoder.reset, blocks := [], pendingAdd := [], pendingRel := [],
    logs := List.replicate 5 EventLog.reset, intPolicy := List.replicate 5 0, alertCfg := [], mailboxBusy := false }
/-- A class with empty statistics and full buckets. -/
def FeedClass.reset : FeedClass :=
  { host := { rdCeil := 0, rdRes := 0, wrCeil := 0, wrRes := 0 },
    scribe := { rdCeil := 0, rdRes := 0, wrCeil := 0, wrRes := 0 }, bytesRd := 0, bytesWr := 0,
    hist := List.replicate 16 0, max := 0, seq := 0, devload := List.replicate 4 0 }
/-- A descriptor queue that is OFF (R314). -/
def Queue.reset : Queue :=
  { st := 0, groups := [], frame := [], overrun := false, sizeErr := false, overrunCount := 0, corrCount := 0, received := 0,
    taken := 0, head := 0, tail := 0, nextIndex := 0, descs := [], failed := none, descsDone := 0 }
/-- An EMPTY key slot (R278). -/
def KeySlot.reset : KeySlot := { st := .empty, k1 := 0, k2 := 0 }

/-- The block right after VAUX has entered its window for the first time: AUX, firmware not booted, as shipped. [DESIGN CHOICE, assumption 1] -/
def State.reset : State :=
  { pending := [], part := .a8,
    dev := { st := .aux, mainUp := false, memActive := false, bringup := 0, drainCause := 0, drainSeen := 0,
             drainAt := 0, inputReturned := false, upReq := false, hotSince := none, flushDone := [], flushStop := [], recordsDue := [],
             health := .good, causes := 0, portsMode := 0 },
    sup := { sense := List.replicate 56 0, sensePrev := List.replicate 56 0, nextPoint := 0, scanStart := 0, scanTiles := [], converter := 0,
             convFault := false, avsLost := false, vddcCmd := 800, vddcFrom := 800, vddcAt := 0, onHold := false, cap := 0, esr := 0,
             measured := false, charged := false, capLow := false, esrHigh := false, seqIn := false, seqOut := false, vauxGone := false,
             pwrfailN := true, resetN := true, thermtrip := false, vinSince := none,
             step := none, retryAt := none, attempts := 0, t0 := 0, p4At := 0 },
    mgmt := { active := some 0, standbySync := false, standbyLost := false, coreFailed := [], takeover := false, takeoverCount := 0,
              booted := false, sessions := [], sets := [], messages := [], update := 0, journal := none },
    fw := { slots := [{ st := 1, svn := 0, compat := true, version := 0, received := 0 },
                      { st := 0, svn := 0, compat := false, version := 0, received := 0 }],
            running := 0, nextBoot := 0, activation := 0, svnMin := 0 },
    svc := { owner := none, eraseKind := 0, eraseState := 0, erasePercent := 0, eraseStart := 0, bgOp := 0,
             sanitizing := [], unlock := none, testPermitted := false,
             scrubOn := false, scrubSource := 0, scrubDpa := 0, scrubLen := 0, scrubCounts := [], scrubStart := 0,
             scrubBy := 0, scrubQuiet := false },
    obj := [],
    cnt := { live := [], owed := [], snap := [], snapSeq := 0, snapTime := 0, snapArg := none, snapAt := 0, snapDone := [],
             start := List.replicate 8 0, resCorrected := 0, corrected := 0 },
    recs := List.replicate 9 Recorder.empty,
    tiles := (List.range 8).map (Tile.reset 8),
    ports := List.replicate 8 Port.reset,
    lds := [],
    feed := { classes := [], scale := [], scaled := false, powerNow := 0, overCap := false, throttle := false,
              emergency := false, grant := List.replicate 8 0, grantReserve := List.replicate 8 0,
              left := List.replicate 8 0, reserveLeft := List.replicate 8 0, noGrant := List.replicate 8 0 },
    keys := { slots := [], change := none }, parts := [],
    queues := [],
    refK0 := false, refK1 := false, master := some 0, out := [], freeCtr := 0 }

end Sys2Proof.Machine
end

