-- ==== Sys2Proof/Machine/Ops.lean ====
section
/-! DEFINITION. The named operations over the state that meanings share: access to tiles, ports, classes and cells,
counters (16), events (R455, R456, R517), status bits (R437, R438), free values, device states (R475, R476). -/
namespace Sys2Proof.Machine
open Sys2Proof

/-! ### Tiles, ports and cells -/

/-- Number of tiles of the part (R14). -/
def State.n (s : State) : Nat := s.part.tiles
/-- Tile `t`. -/
def State.tile (s : State) (t : Nat) : Tile := s.tiles.getD t (Tile.reset 8 t)
/-- The state with tile `t` changed. -/
def State.modTile (s : State) (t : Nat) (f : Tile → Tile) : State := { s with tiles := modAt s.tiles t f }
/-- Changes the timebase and links of a tile. -/
def State.modTime (s : State) (t : Nat) (f : TileTime → TileTime) : State :=
  s.modTile t (fun x => { x with time := f x.time })
/-- Changes the supply of a tile. -/
def State.modSup (s : State) (t : Nat) (f : TileSup → TileSup) : State :=
  s.modTile t (fun x => { x with sup := f x.sup })
/-- Changes the medium of a tile. -/
def State.modMed (s : State) (t : Nat) (f : TileMed → TileMed) : State :=
  s.modTile t (fun x => { x with med := f x.med })
/-- Changes the reservoir of a tile. -/
def State.modRes (s : State) (t : Nat) (f : TileRes → TileRes) : State :=
  s.modTile t (fun x => { x with res := f x.res })
/-- Changes the reads of a tile. -/
def State.modRd (s : State) (t : Nat) (f : TileRead → TileRead) : State :=
  s.modTile t (fun x => { x with rd := f x.rd })
/-- Changes the translation state of a tile. -/
def State.modMap (s : State) (t : Nat) (f : TileMap → TileMap) : State :=
  s.modTile t (fun x => { x with map := f x.map })
/-- Changes the patrol state of a tile. -/
def State.modPat (s : State) (t : Nat) (f : TilePat → TilePat) : State :=
  s.modTile t (fun x => { x with pat := f x.pat })
/-- Changes the fencing state of a tile. -/
def State.modFence (s : State) (t : Nat) (f : TileFence → TileFence) : State :=
  s.modTile t (fun x => { x with fence := f x.fence })
/-- Changes the parameter store of a tile. -/
def State.modPs (s : State) (t : Nat) (f : PStore → PStore) : State :=
  s.modTile t (fun x => { x with ps := f x.ps })
/-- Port `n`. -/
def State.port (s : State) (p : Nat) : Port := s.ports.getD p Port.reset
/-- The state with port `p` changed. -/
def State.modPort (s : State) (p : Nat) (f : Port → Port) : State := { s with ports := modAt s.ports p f }
/-- Logical device `l` of port `p`. -/
def State.ld (s : State) (p l : Nat) : LD := s.lds.getD (16 * p + l) LD.reset
/-- The state with a logical device changed. -/
def State.modLd (s : State) (p l : Nat) (f : LD → LD) : State :=
  { s with lds := s.lds.insert (16 * p + l) (f (s.ld p l)) }
/-- Class `c` of the Feed. -/
def State.cls (s : State) (c : Nat) : FeedClass := s.feed.classes.getD c FeedClass.reset
/-- The state with a class changed. -/
def State.modCls (s : State) (c : Nat) (f : FeedClass → FeedClass) : State :=
  { s with feed := { s.feed with classes := s.feed.classes.insert c (f (s.cls c)) } }
/-- Descriptor queue `q` of tile `t`. -/
def State.queue (s : State) (t q : Nat) : Queue := s.queues.getD (64 * t + q) Queue.reset
/-- The state with a descriptor queue changed. -/
def State.modQueue (s : State) (t q : Nat) (f : Queue → Queue) : State :=
  { s with queues := s.queues.insert (64 * t + q) (f (s.queue t q)) }
/-- The cell of an object, which has the value `d` until it is first written. -/
def State.cell (s : State) (key d : Nat) : Nat := s.obj.getD key d
/-- Writes the cell of an object. -/
def State.setCell (s : State) (key v : Nat) : State := { s with obj := s.obj.insert key v }
/-- The key of instance `i` of an object (R419). -/
def Ob.inst (key i : Nat) : Nat := key + 256 * i

/-- Applies a change for each element of a list, in order. [DESIGN CHOICE, assumption 57] -/
def State.each {α : Type} (s : State) (l : List α) (f : State → α → State) : State := l.foldl f s
/-- A change made only when a condition holds. -/
def State.when (s : State) (c : Bool) (f : State → State) : State := if c then f s else s
/-- The numbers of the part's tiles. -/
def State.tileNumbers (s : State) : List Nat := List.range s.n
/-- Whether tile `t` is ACTIVE (R254). -/
def State.tileActive (s : State) (t : Nat) : Bool := decide ((s.tile t).fence.st = .active)
/-- The ACTIVE tiles. -/
def State.activeTiles (s : State) : List Nat := s.tileNumbers.filter s.tileActive

/-! ### Time -/

/-- Timebase count of tile `t` (R31). -/
def State.now (s : State) (t : Nat) : Nat := (s.tile t).time.tb
/-- Tile that carries the package blocks: the active core's, else the last one's (R36, R518). -/
def State.coreTile (s : State) : Nat := s.mgmt.active.getD (s.cell Ob.ACTIVE_CORE_TILE 0)
/-- Timebase count of the package blocks. -/
def State.pkgNow (s : State) : Nat := s.now s.coreTile

/-! ### Free values -/

/-- Moves on to the next free value. [DESIGN CHOICE, assumption 5] -/
def State.bumpFree (s : State) : State := { s with freeCtr := s.freeCtr + 1 }

/-! ### Counters -/

/-- Adds to the counter of a number: 48 bits, and only while the main domain is up (R443 to R445). Corrected and rebuilt lines also
enter the total since power-up (R383). -/
def State.count (s : State) (num k : Nat) : State :=
  if s.dev.mainUp then
    { s with cnt := { s.cnt with
      live := s.cnt.live.insert num ((s.cnt.live.getD num 0 + k) % 2 ^ 48),
      corrected := if num < 0x2000 ∧ (num % 0x400 = Cn.DECODE_CORRECTED ∨ num % 0x400 = Cn.LINES_REBUILT) then
        satAdd 0xFFFFFFFF s.cnt.corrected k else s.cnt.corrected } }
  else s
/-- Adds to tile-local counter `num` of tile `t` (R42). -/
def State.tcount (s : State) (t num k : Nat) : State := s.count (t * 0x400 + num) k
/-- The channel of nib `die` of tile `t` carries transfers of `k` ticks that fall in slot class `cls` (R447): they take the ticks of the
channel that come next. [DEDUCED, assumption 40] -/
def State.transfer (s : State) (t die cls k : Nat) : State :=
  let num := t * 0x400 + 0x100 + 16 * die + cls
  { s with cnt := { s.cnt with owed := if s.dev.mainUp then s.cnt.owed.insert num (s.cnt.owed.getD num 0 + k) else s.cnt.owed } }
/-- The value of a counter (R443, R446). -/
def State.counter (s : State) (num : Nat) : Nat := s.cnt.live.getD num 0

/-! ### Events -/

/-- The quantities of a PAYLOAD, each with its width in bytes (R517), packed until one does not fit 36 bytes (R456). [DEDUCED, assumption 7] -/
def packPayload : List (Nat × Nat) → Nat → Nat
  | [], _ => 0
  | (w, v) :: rest, used =>
    if used + w ≤ 36 then (v % 256 ^ w) * 256 ^ used + packPayload rest (used + w) else 0

/-- The event number that decides severity: tile-local below 0xC0, else the package code (R41). -/
def eventNumber (code : Nat) : Nat := if code < 0x600 then code % 0xC0 else code
/-- Severity of an event code (R455). -/
def severity (code : Nat) : Nat :=
  let n := eventNumber code
  if sevCritical.contains n then 3 else if sevDegraded.contains n then 2 else if sevNotice.contains n then 1 else 0

/-- Stages an occurrence in recorder `r` (0 to 7 tiles, 8 package; R456) and counts it (R474). [DESIGN CHOICE, assumption 57] -/
def State.stage (s : State) (r : Nat) (o : Occ) : State :=
  { s with recs := modAt s.recs r (fun x => { x with staged := x.staged ++ [o] }) }.count Cn.REC_OCCURRENCES 1

/-- Records tile-local event `num` of tile `t`: class, VALUE, and further quantities with their widths (R456). [DEDUCED, assumption 7] -/
def State.tev (s : State) (t num cls value : Nat) (qs : List (Nat × Nat)) : State :=
  s.stage t { code := t * 0xC0 + num, tile := t, ts := s.now t, cls := cls, value := value % 2 ^ 64,
              payload := packPayload qs 0, holdover := (s.tile t).time.holdover, quiet := false, home := none }

/-- Records a package event (R456); `tile` is the tile that detects or reports it. [DEDUCED, assumption 7] -/
def State.pevAt (s : State) (tile code cls value : Nat) (qs : List (Nat × Nat)) : State :=
  s.stage 8 { code := code, tile := tile, ts := s.now tile, cls := cls, value := value % 2 ^ 64,
              payload := packPayload qs 0, holdover := (s.tile tile).time.holdover, quiet := false, home := none }
/-- Records a package event detected by the package blocks. [DEDUCED, assumption 7] -/
def State.pev (s : State) (code value : Nat) (qs : List (Nat × Nat)) : State :=
  s.pevAt s.coreTile code 0xFF value qs

/-- Records a package event from the list of its quantities, the first of which is the VALUE (R456). -/
def State.pevQ (s : State) (code : Nat) : List (Nat × Nat) → State
  | [] => s.pev code 0 []
  | q :: rest => s.pev code q.2 rest

/-! ### Status bits that software clears -/

/-- Hardware sets bit `b` of a W1C object: the bit, and its occurrence counter modulo 65,536 (R438). -/
def State.raise (s : State) (statusKey b occKey : Nat) : State :=
  let s1 := s.setCell statusKey (setBit (s.cell statusKey 0) b)
  s1.setCell occKey ((s1.cell occKey 0 + 1) % 65536)

/-- Raises bit `b` of `ALERT_STATUS` and records ALERT_ASSERTED when ALERT_N goes low from high (R506). -/
def State.alert (s : State) (b : Nat) : State :=
  let mask := s.cell Ob.ALERT_MASK 0x1F
  let was := (s.cell Ob.ALERT_STATUS 0) &&& mask
  let s1 := s.raise Ob.ALERT_STATUS b (Ob.ALERT_OCC + b)
  let is := (s1.cell Ob.ALERT_STATUS 0) &&& mask
  if was = 0 ∧ is ≠ 0 ∧ s.mgmt.booted then s1.pev Ev.ALERT_ASSERTED (s1.cell Ob.ALERT_STATUS 0) [] else s1

/-- Raises bit `b` of `SUPPLY_STATUS` (R416). -/
def State.supplyBit (s : State) (b : Nat) : State := s.raise Ob.SUPPLY_STATUS b (Ob.SUPPLY_OCC + b)

/-! ### Page commits -/

/-- A page commit into the parameter store of tile `t` (R469): the next of the six slots takes the page and its header, the
page is copied to its target, the slot is marked DONE. -/
def State.pageCommit (s : State) (t page : Nat) : State :=
  (s.modPs t (fun p => { p with
    commits := ({ page := page, seq := p.commitSeq + 1, headerWhole := true, imageGood := true, done := true } :: p.commits).take 6,
    commitSeq := p.commitSeq + 1 })).count Cn.PSTORE_PAGE_COMMITS 1

/-! ### Device states -/

/-- Whether the device is in service: READY or DEGRADED (R475). -/
def State.inService (s : State) : Bool := decide (s.dev.st = .ready ∨ s.dev.st = .degraded)

/-- A transition of R475, by the row of its table: event, counter, alert (R506). [DESIGN CHOICE, assumption 29] -/
def State.goto (s : State) (new : DevState) (row : Nat) : State :=
  let old := s.dev.st
  let s1 := { s with dev := { s.dev with st := new } }
  let s2 := (s1.count Cn.STATE_CHANGES 1).pev Ev.DEVICE_STATE_CHANGED old.code
    [(1, new.code), (1, Config.triggerCode row)]
  match new with
  | .degraded | .drain | .safe | .halted => s2.alert 0
  | _ => s2

/-- A ring link of the part is down (R24). -/
def State.anyLinkDown (s : State) : Bool :=
  s.tileNumbers.any (fun t => s.tileActive t && (!(s.tile t).time.linkE || !(s.tile t).time.linkW))

/-- The DEGRADED conditions that chapters name (R476). -/
def State.degradedCondition (s : State) : Bool :=
  s.anyLinkDown
  || s.tileNumbers.any (fun t =>
      let x := s.tile t
      decide (x.fence.st ≠ .active) || x.fence.remirror || decide (x.fence.isoFlush = 1)
      || decide ((s.cell (Ob.inst Ob.READ_STATUS t) 0) % 2 = 1)
      || decide (x.res.limit = 0)
      || x.pat.overdue || x.pat.accelOn || x.sup.btLimit || !x.med.failedDies.isEmpty
      || !((x.med.failedBanks.filter (fun b => !(x.map.evacs.any (fun e => decide (e.bank = b ∧ e.ptr = 54251936))))).isEmpty))
  || s.feed.scaled || s.feed.emergency
  || s.ports.any (fun p => p.up && !p.cxlMem)
  || s.sup.avsLost || s.sup.convFault

/-- A DEGRADED condition begins: READY becomes DEGRADED (R475 row 11). -/
def State.degrade (s : State) : State :=
  if s.dev.st = .ready ∧ s.degradedCondition then s.goto .degraded 10 else s

/-- Fields laid out in a number, least significant first: width in bits, value. -/
def packFields : List (Nat × Nat) → Nat
  | [] => 0
  | (w, v) :: rest => v % 2 ^ w + 2 ^ w * packFields rest

end Sys2Proof.Machine
end

