-- ==== Sys2Proof/Machine/Ring.lean ====
section
/-! DEFINITION. The ring (R22 to R25), tile pairs and port modes (R17, R18, R20). -/
namespace Sys2Proof.Machine
open Sys2Proof

/-- Whether pair `k` is left as two x8 ports in the mode in force (R17, R44). -/
def State.pairX8 (s : State) (k : Nat) : Bool := s.dev.portsMode.testBit k
/-- Whether port number `p` carries lanes in the present mode (R18). -/
def State.portUsed (s : State) (p : Nat) : Bool :=
  decide (p < s.n) && (s.pairX8 (p / 2) || decide (p % 2 = 0))
/-- The tiles of port `p` (R17, R18). -/
def State.portTiles (s : State) (p : Nat) : List Nat :=
  if s.pairX8 (p / 2) then [p] else [2 * (p / 2), 2 * (p / 2) + 1]
/-- The port of tile `t` (R18). -/
def State.portOfTile (s : State) (t : Nat) : Nat := if s.pairX8 (t / 2) then t else 2 * (t / 2)

/-- Whether ring link `t`, from tile `t` E to the next tile W, carries traffic. -/
def State.ringLinkUp (s : State) (t : Nat) : Bool :=
  (s.tile t).time.linkE && (s.tile ((t + 1) % s.n)).time.linkW

/-- Hops in the E direction from `a` to `d` (R22). -/
def State.hopsE (s : State) (a d : Nat) : Nat := (d + s.n - a % s.n) % s.n
/-- Hops in the W direction from `a` to `d` (R22). -/
def State.hopsW (s : State) (a d : Nat) : Nat := (a + s.n - d % s.n) % s.n

/-- The direction that traffic from `a` to `d` takes, `true` for E: fewer hops, E on a tie (R22), the other when a
link on the way is down (R24). On the RMN-A2 a tile sends E, over its own ring link (R22). -/
def State.goesE (s : State) (a d : Nat) : Bool :=
  let e := s.hopsE a d
  let w := s.hopsW a d
  let upE := (List.range e).all (fun i => s.ringLinkUp ((a + i) % s.n))
  let upW := (List.range w).all (fun i => s.ringLinkUp ((a + s.n - 1 - i) % s.n))
  let prefE := decide (s.n = 2) || decide (e ≤ w)
  if prefE then upE || !upW else !(upW || !upE)

/-- Hops that a request from `a` to `d` takes (R22 to R24). -/
def State.hops (s : State) (a d : Nat) : Nat :=
  if a % s.n = d % s.n then 0 else if s.goesE a d then s.hopsE a d else s.hopsW a d

/-- The pair tile that forwards a request of port `p` for a line of tile `d`: fewer hops, the even tile on a tie
(R20). -/
def State.entryTile (s : State) (p d : Nat) : Nat :=
  match minBy (fun a => s.hops a d) (s.portTiles p) with
  | some a => a
  | none => p

/-- Hops from port `p` to the owning tile `d`, one direction (R20, R23). -/
def State.portHops (s : State) (p d : Nat) : Nat := s.hops (s.entryTile p d) d

/-- The tiles that send a message on their way from `a` to `d`, with the link each uses (`true` for E). -/
def State.senders (s : State) (a d : Nat) : List (Nat × Bool) :=
  let e := s.goesE a d
  (List.range (s.hops a d)).map (fun i => (if e then (a + i) % s.n else (a + s.n * 8 - i) % s.n, e))

/-- Counts the flits of a message of kind `k` sent over the ring from `a` to `d` (R42, counters 000 and 001). [DESIGN CHOICE, assumption 8] -/
def State.ringSend (s : State) (a d k : Nat) : State :=
  s.each (s.senders a d) (fun s x =>
    s.tcount x.1 (if x.2 then Cn.RING_FLITS_E else Cn.RING_FLITS_W) (Config.ringFlits k))

/-- Kinds of ring messages, the arguments of `Config.ringFlits`. [DESIGN CHOICE, assumption 8] -/
def ringReq : Nat := 0
/-- A response. [DESIGN CHOICE, assumption 8] -/
def ringRsp : Nat := 1
/-- A mirror, shadow or release message (R25). [DESIGN CHOICE, assumption 8] -/
def ringMirror : Nat := 2
/-- A span delta (R250). [DESIGN CHOICE, assumption 8] -/
def ringDelta : Nat := 3
/-- An alignment marker (R32). [DESIGN CHOICE, assumption 8] -/
def ringMarker : Nat := 4

/-- A request from port `p` to tile `d` and its response back (R20, R22). [DESIGN CHOICE, assumption 8] -/
def State.ringRequest (s : State) (p d : Nat) : State :=
  let a := s.entryTile p d
  if a = d then s else (s.ringSend a d ringReq).ringSend d a ringRsp

end Sys2Proof.Machine
end

