-- ==== Sys2Proof/Machine/Architecture.lean ====
section
/-! DEFINITION. Ring links, timebase and management cores (01_architecture.md). -/
namespace Sys2Proof.Machine
open Sys2Proof

/-- RING_LINK_RETRAIN (R24): the retry buffers replay the affected flits; no fault. Both tiles record it. -/
def execRingLinkRetrain (link replaysE replaysW : Nat) (s : State) : Host.Outcome State Fault Refusal :=
  .next (if link < s.n then
      ((((s.tcount link Cn.RING_REPLAYS replaysE).tcount ((link + 1) % s.n) Cn.RING_REPLAYS replaysW).tev
        link Ev.RING_LINK_RETRAIN 0xFF 0 []).tev ((link + 1) % s.n) Ev.RING_LINK_RETRAIN 0xFF 0 [])
    else s)

/-- Host reads under way at tile `d` whose requests came over ring link `link` (R178). -/
def State.outstandingOver (s : State) (link d : Nat) : Nat :=
  ((s.tile d).rd.rds.filter (fun r =>
    r.why = .host ∧
    ((s.senders (s.entryTile r.req.port d) d).any (fun x =>
      decide ((if x.2 then x.1 else (x.1 + s.n - 1) % s.n) = link))))).length

/-- RING_LINK_DOWN (R24, R178): traffic takes the other direction, requests outstanding on the lost path are replayed
in issue order, and the device enters DEGRADED. -/
def execRingLinkDown (link : Nat) (s : State) : Host.Outcome State Fault Refusal :=
  .next (if link < s.n then
      let s1 := s.each s.tileNumbers (fun s' d => s'.tcount d Cn.LINE_ORDER_REPLAYS (s.outstandingOver link d))
      let s2 := s1.modTime link (fun x => { x with linkE := false })
      let s3 := s2.modTime ((link + 1) % s.n) (fun x => { x with linkW := false })
      ((s3.tev link Ev.RING_LINK_DOWN 0xFF 0 []).tev ((link + 1) % s.n) Ev.RING_LINK_DOWN 0xFF 0 []).degrade
    else s)

/-- Whether the reference of tile `t` is present: REFCLK_K0 for tile 0, and for tile 1 REFCLK_K1, or REFCLK_K0 on the
RMN-A2 (R32). -/
def State.refOf (s : State) (t : Nat) : Bool :=
  if t = 0 ∨ s.part = .a2 then s.refK0 else s.refK1

/-- A tile takes a marker (R32, R34): a tile in holdover slews by at most one tick, forward only. -/
def TileTime.marker (x : TileTime) (tbM : Nat) : TileTime :=
  if x.holdover then
    { x with tb := if x.tb < tbM then x.tb + 1 else x.tb, lastSync := if x.tb < tbM then x.tb + 1 else x.tb }
  else { x with tb := max x.tb tbM, lastSync := max x.tb tbM, locked := true }

/-- ALIGNMENT_MARKER (R32): the master aligns the local counters of the other tiles. -/
def execAlignmentMarker (s : State) : Host.Outcome State Fault Refusal :=
  .next (match s.master with
    | none => s
    | some m =>
      let others := s.tileNumbers.filter (fun t => decide (t ≠ m) && decide ((s.tile t).fence.st ≠ .fenced))
      s.each others (fun s' t => (s'.modTime t (fun x => x.marker (s.now m))).ringSend m t ringMarker))

/-- Whether tile `t` has had neither a reference (tiles 0 and 1 only; R32) nor a marker for 64 µs (R34). -/
def State.syncLost (s : State) (t : Nat) : Bool :=
  decide ((s.tile t).time.lastSync + 64000 ≤ s.now t) && !(decide (t < 2) && s.refOf t)

/-- TIMEBASE_HOLDOVER (R34). -/
def execTimebaseHoldover (t : Nat) (s : State) : Host.Outcome State Fault Refusal :=
  .next (if t < s.n ∧ s.syncLost t ∧ (s.tile t).time.holdover = false then
      (s.modTime t (fun x => { x with holdover := true, locked := false })).tev t Ev.TIMEBASE_HOLDOVER 0xFF 0 []
    else s)

/-- TIMEBASE_REALIGNED (R34): markers have returned and the tile is within the 4 ticks of R32 again. -/
def execTimebaseRealigned (t : Nat) (s : State) : Host.Outcome State Fault Refusal :=
  .next (match s.master with
    | none => s
    | some m =>
      if t < s.n ∧ (s.tile t).time.holdover = true ∧ s.syncLost t = false ∧ s.now t ≤ s.now m + 4 ∧
         s.now m ≤ s.now t + 4 then
        (s.modTime t (fun x => { x with holdover := false, locked := true, tb := max x.tb (s.now m) })).tev
          t Ev.TIMEBASE_REALIGNED 0xFF 0 []
      else s)

/-- The code of "none" where an event records a tile or none (the 0xFF of `STANDIN_TILE`). [DEDUCED, assumption 7] -/
def noTile : Nat := 0xFF

/-- The master is gone: the other of tiles 0 and 1 becomes master if it is ACTIVE and its reference is present, else
none (R33). [DEDUCED, assumption 17] -/
def State.moveMaster (s : State) : State :=
  match s.master with
  | none => s
  | some m =>
    let o := 1 - m
    if s.refOf o ∧ s.tileActive o then
      ({ s with master := some o }.modTime o (fun x => { x with locked := true })).pev Ev.TIMEBASE_MASTER_MOVED o []
    else { s with master := none }.pev Ev.TIMEBASE_MASTER_MOVED noTile []

/-- REFCLK_LOST (R33): reference clock `k` (0 or 1) is lost. -/
def execRefclkLost (k : Nat) (s : State) : Host.Outcome State Fault Refusal :=
  .next (
    let s1 : State := if k = 0 then { s with refK0 := false } else if k = 1 then { s with refK1 := false } else s
    match s.master with
    | none => s1
    | some m => if s1.refOf m then s1 else (s1.modTime m (fun x => { x with locked := false })).moveMaster)

/-- Tile `t` locks to its reference: the end of a holdover is recorded (R33, R34). [DEDUCED, assumption 17] -/
def State.lockToReference (s : State) (t : Nat) : State :=
  let s1 := s.modTime t (fun x => { x with locked := true, holdover := false, lastSync := x.tb })
  if (s.tile t).time.holdover then s1.tev t Ev.TIMEBASE_REALIGNED 0xFF 0 [] else s1

/-- REFCLK_LOCKED (R33): a returned reference; the first of tiles 0 and 1 to lock to it becomes master. [DEDUCED, assumption 17] -/
def execRefclkLocked (t : Nat) (s : State) : Host.Outcome State Fault Refusal :=
  .next (if t < 2 then
      let s1 : State := if t = 0 ∨ s.part = .a2 then { s with refK0 := true } else { s with refK1 := true }
      if s.master = none ∧ s.tileActive t then
        ({ s1 with master := some t }.lockToReference t).pev Ev.TIMEBASE_MASTER_MOVED t []
      else if s.master = some t then s1.lockToReference t
      else s1.modTime t (fun x => { x with lastSync := x.tb })
    else s)

/-- Discards the armed flip mask of a tile (R100): 1 partition disabled, 2 `TEST_PERMITTED` fell, 3 DRAIN, 4 disarmed. -/
def State.discardFlip (s : State) (t cause : Nat) : State :=
  if (s.tile t).med.flipArmed then
    ((s.modMed t (fun m => { m with flipArmed := false })).raise (Ob.inst Ob.FLIP_STATUS t) 2
      (Ob.inst Ob.FLIP_DISCARDED_COUNT t)).tev t Ev.FLIP_MASK_DISCARDED 0xFF cause []
  else s

/-- Key of the debug class's `RIGHTS_MAP` (R286, R311). -/
def debugRightsKey : Nat := Ob.inst Ob.RIGHTS_MAP 0x40

/-- Sets `TEST_PERMITTED`; armed flip masks are discarded when it falls (R98, R100). -/
def State.permitTest (s : State) (on : Bool) : State :=
  let s1 := { s with svc := { s.svc with testPermitted := on } }
  if s.svc.testPermitted && !on then s1.each s1.tileNumbers (fun s' t => s'.discardFlip t 2) else s1

/-- Ends a debug unlock; the cause is that of DEBUG_RELOCKED (R286). -/
def State.relock (s : State) (cause : Nat) : State :=
  match s.svc.unlock with
  | none => s
  | some _ =>
    ({ s with svc := { s.svc with unlock := none }, obj := s.obj.insert debugRightsKey 0 }.permitTest false).pev
      Ev.DEBUG_RELOCKED cause []

/-- Discards every staged set and every message in progress, and ends the sessions (R38, R433). [DESIGN CHOICE, assumption 26] -/
def State.endSessions (s : State) (cause : Nat) : State :=
  { s with mgmt := { s.mgmt with sessions := [], sets := [], messages := [] } }.relock cause

/-- A session ends: its staged set and its messages go, and with it the debug unlock made in it (R286, R433). -/
def State.endSession (s : State) (id : Nat) : State :=
  let q : Requester := { transport := 4, src := id }
  let s1 := { s with mgmt := { s.mgmt with
    sessions := s.mgmt.sessions.filter (fun x => decide (x.id ≠ id)),
    sets := s.mgmt.sets.filter (fun x => decide (x.req ≠ q)),
    messages := s.mgmt.messages.filter (fun m => decide (m.req ≠ q)) } }
  if s.svc.unlock = some q then s1.relock 2 else s1

/-- Publish period of `REC_PUBLISH_MS` in ticks (R458). -/
def State.publishTicks (s : State) : Nat := s.cell Ob.REC_PUBLISH_MS 10 * 1000000

/-- The core of tile `o` becomes active (R38): staged sets discarded, sessions lost, the package recorder continues
from its copy of the last publish (R456), CORE_TAKEOVER recorded. -/
def State.takeOver (s : State) (o : Nat) : State :=
  let s1 := s.endSessions 2
  let s2 := { s1 with
    mgmt := { s1.mgmt with active := some o, standbySync := false,
                           takeoverCount := satAdd 65535 s1.mgmt.takeoverCount 1 },
    recs := modAt s1.recs 8 (fun r => { r with staged := [], clears := [], releaseTo := [],
                                               nextPublish := s1.now o + s1.publishTicks }) }
  ((s2.setCell Ob.ACTIVE_CORE_TILE o).count Cn.CORE_TAKEOVERS 1).pev Ev.CORE_TAKEOVER 0 []

/-- Whether the core of tile `o` can become active (R38, R518). -/
def State.canTakeOver (s : State) (o : Nat) : Bool := s.tileActive o && !(s.mgmt.coreFailed.contains o)

/-- The active core or its tile fails: the standby takes over, or no core is active (R38, R518). -/
def State.coreLost (s : State) (coreFails : Bool) : State :=
  match s.mgmt.active with
  | none => s
  | some a =>
    let s1 := { s with mgmt := { s.mgmt with
      coreFailed := if coreFails then s.mgmt.coreFailed ++ [a] else s.mgmt.coreFailed, standbyLost := true } }
    if s1.canTakeOver (1 - a) then s1.takeOver (1 - a)
    else { s1 with mgmt := { s1.mgmt with active := none } }

/-- CORE_TAKEOVER (R38). -/
def execCoreTakeover (s : State) : Host.Outcome State Fault Refusal := .next (s.coreLost true)

/-- The standby is no longer synchronised (R40). -/
def State.standbyGone (s : State) : State :=
  { s with mgmt := { s.mgmt with standbySync := false, standbyLost := true } }.pev Ev.STANDBY_LOST 0 []

/-- STANDBY_LOST (R40): the standby core fails, or only loses synchronisation; the device state stays. -/
def execStandbyLost (fails : Bool) (s : State) : Host.Outcome State Fault Refusal :=
  .next (match s.mgmt.active with
    | none => s
    | some a =>
      if s.mgmt.standbySync then
        { s with mgmt := { s.mgmt with
          coreFailed := if fails then s.mgmt.coreFailed ++ [1 - a] else s.mgmt.coreFailed } }.standbyGone
      else s)

/-- STANDBY_RESYNCHRONISED (R40): the standby core is synchronised again. -/
def execStandbyResynchronised (s : State) : Host.Outcome State Fault Refusal :=
  .next (match s.mgmt.active with
    | none => s
    | some a =>
      if s.tileActive (1 - a) then
        { s with mgmt := { s.mgmt with standbySync := true, standbyLost := false,
                                       coreFailed := s.mgmt.coreFailed.filter (fun c => decide (c ≠ 1 - a)) } }
      else s)

end Sys2Proof.Machine
end

