-- ==== Sys2Proof/Machine/Cipher.lean ====
section
/-! DEFINITION. The cipher pipeline of 10_cipher_and_sealing.md: AES-256 (FIPS 197) with the numbering of R516,
the native XTS layout (R287), the forerunner layout (R289), nonces, pads and MACs of sealed lines (R292, R295). -/
namespace Sys2Proof.Machine

/-- The S-box of FIPS 197, entry x at bits [8x+7:8x]. -/
def sboxTable : Nat :=
  0x16bb54b00f2d99416842e6bf0d89a18cdf2855cee9871e9b948ed9691198f8e1 * 2 ^ 1792 +
  0x9e1dc186b95735610ef6034866b53e708a8bbd4b1f74dde8c6b4a61c2e2578ba * 2 ^ 1536 +
  0x08ae7a65eaf4566ca94ed58d6d37c8e779e4959162acd3c25c2406490a3a32e0 * 2 ^ 1280 +
  0xdb0b5ede14b8ee4688902a22dc4f816073195d643d7ea7c41744975fec130ccd * 2 ^ 1024 +
  0xd2f3ff1021dab6bcf5389d928f40a351a89f3c507f02f94585334d43fbaaefd0 * 2 ^ 768 +
  0xcf584c4a39becb6a5bb1fc20ed00d153842fe329b3d63b52a05a6e1b1a2c8309 * 2 ^ 512 +
  0x75b227ebe28012079a059618c323c7041531d871f1e5a534ccf73f362693fdb7 * 2 ^ 256 +
  0xc072a49cafa2d4adf04759fa7dc982ca76abd7fe2b670130c56f6bf27b777c63 * 2 ^ 0

/-- The inverse S-box of FIPS 197, entry x at bits [8x+7:8x]. -/
def invSboxTable : Nat :=
  0x7d0c2155631469e126d677ba7e042b17619953833cbbebc8b0f52aae4d3be0a0 * 2 ^ 1792 +
  0xef9cc9939f7ae52d0d4ab519a97f51605fec8027591012b131c7078833a8dd1f * 2 ^ 1536 +
  0xf45acd78fec0db9a2079d2c64b3e56fc1bbe18aa0e62b76f89c5291d711af147 * 2 ^ 1280 +
  0x6edf751ce837f9e28535ade72274ac9673e6b4f0cecff297eadc674f4111913a * 2 ^ 1024 +
  0x6b8a130103bdafc1020f3fca8f1e2cd00645b3b80558e4f70ad3bc8c00abd890 * 2 ^ 768 +
  0x849d8da75746155edab9edfd5048706c92b6655dcc5ca4d41698688664f6f872 * 2 ^ 512 +
  0x25d18b6d49a25b76b224d92866a12e084ec3fa420b954cee3d23c2a632947b54 * 2 ^ 256 +
  0xcbe9dec444438e3487ff2f9b8239e37cfbd7f3819ea340bf38a53630d56a0952 * 2 ^ 0

/-- Entry `x` of a 256-byte table. -/
def tableByte (table x : Nat) : Nat := (table >>> (8 * x)) % 256

/-- Multiplication by x in GF(2^8) of FIPS 197. -/
def xtime (b : Nat) : Nat := if b < 128 then 2 * b else (2 * b - 256) ^^^ 0x1B

/-- Multiplication in GF(2^8) of FIPS 197 by a factor below 16. -/
def gf8 (f b : Nat) : Nat :=
  let b2 := xtime b
  let b4 := xtime b2
  let b8 := xtime b4
  (if f.testBit 0 then b else 0) ^^^ (if f.testBit 1 then b2 else 0) ^^^
    (if f.testBit 2 then b4 else 0) ^^^ (if f.testBit 3 then b8 else 0)

/-- Bytewise XOR. -/
def xorBytes (a b : List Nat) : List Nat := List.zipWith (· ^^^ ·) a b

/-- One word of the AES-256 key schedule from the word before it and the word eight before it. -/
def scheduleWord (i rcon : Nat) (prev back : List Nat) : List Nat :=
  let sub := prev.map (tableByte sboxTable)
  if i % 8 = 0 then
    match sub with
    | [a, b, c, d] => xorBytes back [b ^^^ rcon, c, d, a]
    | _ => back
  else if i % 8 = 4 then xorBytes back sub
  else xorBytes back prev

/-- The key schedule, newest word first: `fuel` further words after the ones in `acc`. -/
def expandKey : Nat → Nat → Nat → List (List Nat) → List (List Nat)
  | 0, _, _, acc => acc
  | fuel + 1, i, rcon, acc =>
    let w := scheduleWord i rcon (acc.getD 0 []) (acc.getD 7 [])
    expandKey fuel (i + 1) (if i % 8 = 0 then xtime rcon else rcon) (w :: acc)

/-- Groups of `n` elements. -/
def groups (n : Nat) : Nat → List Nat → List (List Nat)
  | 0, _ => []
  | fuel + 1, l => if l.isEmpty then [] else l.take n :: groups n fuel (l.drop n)

/-- The fifteen round keys of a 256-bit key, in order (FIPS 197; key bytes as R516). -/
def roundKeys (k : Key256) : List (List Nat) :=
  let words := groups 4 8 (bytesLE 32 k.toNat)
  let all := (expandKey 52 8 1 words.reverse).reverse
  groups 16 15 all.flatten

/-- ShiftRows as a permutation of byte positions. -/
def shiftRowsIdx : List Nat := [0, 5, 10, 15, 4, 9, 14, 3, 8, 13, 2, 7, 12, 1, 6, 11]
/-- InvShiftRows as a permutation of byte positions. -/
def invShiftRowsIdx : List Nat := [0, 13, 10, 7, 4, 1, 14, 11, 8, 5, 2, 15, 12, 9, 6, 3]

/-- A permutation of bytes. -/
def permute (idx : List Nat) (st : List Nat) : List Nat := idx.map (fun i => st.getD i 0)

/-- One column through a circulant matrix. -/
def mixColumn (f0 f1 f2 f3 : Nat) : List Nat → List Nat
  | [a, b, c, d] =>
    [gf8 f0 a ^^^ gf8 f1 b ^^^ gf8 f2 c ^^^ gf8 f3 d, gf8 f3 a ^^^ gf8 f0 b ^^^ gf8 f1 c ^^^ gf8 f2 d,
     gf8 f2 a ^^^ gf8 f3 b ^^^ gf8 f0 c ^^^ gf8 f1 d, gf8 f1 a ^^^ gf8 f2 b ^^^ gf8 f3 c ^^^ gf8 f0 d]
  | l => l

/-- MixColumns with the given matrix row. -/
def mixColumns (f0 f1 f2 f3 : Nat) (st : List Nat) : List Nat :=
  ((groups 4 4 st).map (mixColumn f0 f1 f2 f3)).flatten

/-- The middle rounds and the last round of the AES cipher. -/
def encRounds : List (List Nat) → List Nat → List Nat
  | [], st => st
  | [k], st => xorBytes k (permute shiftRowsIdx (st.map (tableByte sboxTable)))
  | k :: rest, st =>
    encRounds rest (xorBytes k (mixColumns 2 3 1 1 (permute shiftRowsIdx (st.map (tableByte sboxTable)))))

/-- The middle rounds and the last round of the inverse AES cipher. -/
def decRounds : List (List Nat) → List Nat → List Nat
  | [], st => st
  | [k], st => xorBytes k ((permute invShiftRowsIdx st).map (tableByte invSboxTable))
  | k :: rest, st =>
    decRounds rest (mixColumns 14 11 13 9 (xorBytes k ((permute invShiftRowsIdx st).map (tableByte invSboxTable))))

/-- AES-256 encryption of a 128-bit value, numbered as R516 states. -/
def aesEnc (k : Key256) (x : Nat) : Nat :=
  match roundKeys k with
  | [] => 0
  | k0 :: rest => ofBytesLE (encRounds rest (xorBytes k0 (bytesLE 16 x)))

/-- AES-256 decryption of a 128-bit value, numbered as R516 states. -/
def aesDec (k : Key256) (x : Nat) : Nat :=
  match (roundKeys k).reverse with
  | [] => 0
  | k0 :: rest => ofBytesLE (decRounds rest (xorBytes k0 (bytesLE 16 x)))

/-- Multiplication by α in GF(2^128) as IEEE 1619 numbers it (R287). -/
def mulAlpha (t : Nat) : Nat := (2 * t) % 2 ^ 128 ^^^ (if t.testBit 127 then 0x87 else 0)

/-- Block `j` of a line (R287). -/
def lineBlock (d : Line) (j : Nat) : Nat := bitsOf d.toNat (128 * j) 128

/-- A line from its four blocks (R287). -/
def lineOfBlocks (f : Nat → Nat) : Line :=
  BitVec.ofNat 512 (f 0 + f 1 * 2 ^ 128 + f 2 * 2 ^ 256 + f 3 * 2 ^ 384)

/-- A tweak multiplied by α^j (R287). -/
def mulAlphaPow : Nat → Nat → Nat
  | 0, t => t
  | j + 1, t => mulAlphaPow j (mulAlpha t)

/-- The tweak of block `j` in the native layout (R287). -/
def nativeTweak (k2 : Key256) (dpa j : Nat) : Nat := mulAlphaPow j (aesEnc k2 dpa)

/-- The tweak of block `b` in the forerunner layout (R289). -/
def forerunnerTweak (k2 : Key256) (dpa b : Nat) : Nat := aesEnc k2 (aesEnc k2 (dpa + 16 * b))

/-- One XTS block encryption under a tweak (IEEE 1619). -/
def xtsEnc (k1 : Key256) (t x : Nat) : Nat := aesEnc k1 (x ^^^ t) ^^^ t
/-- One XTS block decryption under a tweak (IEEE 1619). -/
def xtsDec (k1 : Key256) (t x : Nat) : Nat := aesDec k1 (x ^^^ t) ^^^ t

/-- Encryption of a line in the native (`false`) or forerunner (`true`) layout (R287, R289). -/
def encryptLine (fore : Bool) (k1 k2 : Key256) (dpa : Nat) (p : Line) : Line :=
  lineOfBlocks (fun j => xtsEnc k1 (if fore then forerunnerTweak k2 dpa j else nativeTweak k2 dpa j) (lineBlock p j))

/-- Decryption of a line in either layout (R287, R289). -/
def decryptLine (fore : Bool) (k1 k2 : Key256) (dpa : Nat) (c : Line) : Line :=
  lineOfBlocks (fun j => xtsDec k1 (if fore then forerunnerTweak k2 dpa j else nativeTweak k2 dpa j) (lineBlock c j))

/-- The bits of each byte of a 128-bit value reversed: coefficient i of the GHASH polynomial at bit i
(NIST SP 800-38D takes the first bit of the first byte as coefficient 0; bytes as R516). -/
def ghashBits (x : Nat) : Nat :=
  (List.range 128).foldl (fun acc i => if x.testBit (8 * (i / 8) + 7 - i % 8) then acc ||| 2 ^ i else acc) 0

/-- Product in GF(2^128) of GHASH, coefficient i at bit i. -/
def gf128 : Nat → Nat → Nat → Nat → Nat
  | 0, _, _, acc => acc
  | fuel + 1, a, b, acc => gf128 fuel (mulAlpha a) (b / 2) (if b % 2 = 1 then acc ^^^ a else acc)

/-- GHASH of four blocks (NIST SP 800-38D; R295). -/
def ghash (h : Nat) (d : Line) : Nat :=
  let hp := ghashBits h
  ghashBits ((List.range 4).foldl (fun y j => gf128 128 (y ^^^ ghashBits (lineBlock d j)) hp 0) 0)

/-- The nonce of R295. `counterLine` is its KIND. -/
def nonce (counterLine : Bool) (part tile lla major minor block : Nat) : Nat :=
  (bitNat counterLine) * 2 ^ 126 + (part % 64) * 2 ^ 120 + (tile % 8) * 2 ^ 117 + (lla % 2 ^ 35) * 2 ^ 82 +
    (major % 2 ^ 64) * 2 ^ 18 + (minor % 64) * 2 ^ 12 + block % 2 ^ 12

/-- The 56-bit MAC of a stored DATA under a nonce (R295). -/
def macOf (km : Key256) (n : Nat) (d : Line) : Nat :=
  bitsOf (ghash (aesEnc km 0) d ^^^ aesEnc km n) 72 56

/-- The pad of a sealed line (R292): block `j` is AES of the nonce with `j` in its BLOCK field. -/
def padLine (kp : Key256) (n : Nat) : Line := lineOfBlocks (fun j => aesEnc kp (n + j))

/-- The KCV of a key: bits [127:104] of AES-256 of zero (R311, `KEY_INFO`). -/
def keyCheck (k1 : Key256) : Nat := bitsOf (aesEnc k1 0) 104 24

end Sys2Proof.Machine
end

