-- ==== Sys2Proof/Machine/Geometry.lean ====
section
/-! DEFINITION. Where a line lies: parts and pools (01, 02), stripes (R79, R80), regions, rings and slots
(R185 to R187, R192), slot addresses (R74). -/
namespace Sys2Proof.Machine

/-- Physical segments of a tile (R181). -/
def segsPerTile : Nat := 1496443
/-- Logical segments of a tile's pool (R59). -/
def poolSegs : Nat := 1430528
/-- Lines of a logical segment (R56). -/
def segLines : Nat := 16384
/-- Stripes of a segment (R79). -/
def segStripes : Nat := 2048

/-- Logical segment of a logical line address (R56). -/
def lsegOf (lla : Nat) : Nat := lla / segLines
/-- Line index of a logical line address (R56). -/
def lineIndexOf (lla : Nat) : Nat := lla % segLines
/-- Stripe number of a line within its segment (R79). -/
def stripeOfLine (i : Nat) : Nat := i / 8
/-- Data position of a line in its stripe (R79). -/
def dataPosOf (i : Nat) : Nat := i % 8
/-- Stripe address of stripe `s` of physical segment `p` (R79). -/
def stripeAddr (p s : Nat) : Nat := p * segStripes + s

/-- Base die of a stripe (R80). -/
def baseDie (S : Nat) : Nat := (9 * S) % 16
/-- Member position of the parity line (R80). -/
def parityPos (S : Nat) : Nat := S % 9
/-- Member position of data position `k` (R80). -/
def memberPos (S k : Nat) : Nat := if k < parityPos S then k else k + 1
/-- Die of member position `j` (R80). -/
def dieOfPos (S j : Nat) : Nat := (baseDie S + j) % 16
/-- Die of data position `k` (R80). -/
def dieOfData (S k : Nat) : Nat := dieOfPos S (memberPos S k)
/-- Die of the parity line (R80). -/
def dieOfParity (S : Nat) : Nat := dieOfPos S (parityPos S)
/-- Whether stripe `S` has a member on die `d`. -/
def hasMemberOn (S d : Nat) : Bool := decide ((d + 16 - baseDie S) % 16 ≤ 8)

/-- Rank on die `d` of the member of stripe `s` of physical segment `p`: the stripes before it with a member
there (R187). Each die has nine in any 16 consecutive stripes (R80). -/
def rankOn (p s d : Nat) : Nat :=
  9 * (s / 16) + ((List.range (s % 16)).filter (fun r => hasMemberOn (stripeAddr p (16 * (s / 16) + r)) d)).length

/-- Moves ring `ρ` has made when its segment has made `moves` (R192). -/
def ringMoves (moves ring : Nat) : Nat := (moves + 127 - ring) / 128
/-- Position of the member at ring index `k` after `n` moves of its ring (R192). -/
def ringPos (k n : Nat) : Nat := (k + (n + k) / 144) % 145
/-- Position of the gap after `n` moves (R192). -/
def gapPos (n : Nat) : Nat := (144 + 145 - n % 145) % 145
/-- Ring `g` of die `d` as a ring number (R191). -/
def ringNumber (g d : Nat) : Nat := 16 * g + d

/-- Whether die `d` holds a header copy of segment `p` (R185). -/
def headerHere (p d : Nat) : Bool := d == p % 16 || d == (p + 8) % 16
/-- First die-linear index of segment `p` on die `d` (R185). -/
def regionStart (p d : Nat) : Nat := 1160 * p + (p + 7 - d % 8) / 8
/-- Die-linear index of ring slot `u` of segment `p` on die `d` (R185). -/
def ringSlotIndex (p d u : Nat) : Nat := regionStart p d + bitNat (headerHere p d) + u

/-- The slot address of a bank's line slot (R74). -/
def slotAddr (die bank slot : Nat) : Nat := die * 2 ^ 31 + bank * 2 ^ 26 + slot
/-- Die of a slot address (R74). -/
def slotDie (a : Nat) : Nat := a / 2 ^ 31 % 16
/-- Bank of a slot address (R74). -/
def slotBank (a : Nat) : Nat := a / 2 ^ 26 % 32
/-- Line slot of a slot address (R74). -/
def slotLine (a : Nat) : Nat := a % 2 ^ 26
/-- Slot address of die-linear index `z` (R185). -/
def slotOfIndex (d z : Nat) : Nat := slotAddr d (z % 32) (z / 32)
/-- Die-linear index of a slot address (R185). -/
def indexOfSlot (a : Nat) : Nat := slotLine a * 32 + slotBank a

/-- The ring and ring index of the member of stripe `s` on die `d`, for a copy with ring offset `ω` (R187). -/
def ringOfMember (p w s d : Nat) : Nat × Nat :=
  let m := rankOn p s d
  ((m / 144 + w) % 8, m % 144)

/-- Slot address of the member of stripe `s` of segment `p` on die `d` (R187). -/
def memberSlot (p w moves s d : Nat) : Nat :=
  let (g, k) := ringOfMember p w s d
  let n := ringMoves moves (ringNumber g d)
  slotOfIndex d (ringSlotIndex p d (145 * g + ringPos k n))

/-- Slot address of header copy `c` of segment `p` (R185). -/
def headerSlot (p c : Nat) : Nat :=
  let d := (p + 8 * c) % 16
  slotOfIndex d (regionStart p d)

/-- Spare line `j` of a bank (R186). -/
def spareSlot (die bank j : Nat) : Nat := slotAddr die bank (54251936 + j)
/-- Shadow-area slot `i` of a bank (R186). -/
def shadowSlot (die bank i : Nat) : Nat := slotAddr die bank (54252960 + i)
/-- Whether a slot address names a spare line (R186). -/
def isSpare (a : Nat) : Bool := decide (54251936 ≤ slotLine a ∧ slotLine a < 54252960)

/-- The segment whose region on die `d` holds die-linear index `z`: regions are 1,160 or 1,161 slots, laid
end to end (R185). -/
def segOfIndex (d z : Nat) : Nat :=
  -- z0 (p + 8) = z0 p + 9281, so the segment lies among the eight of its group of 9,281 slots
  let p8 := 8 * (z / 9281)
  ((List.range 9).map (fun i => p8 + i)).foldl (fun best p => if regionStart p d ≤ z then p else best) (p8 - 1)

/-- Ring slot of a slot address within its segment, `none` for a header slot (R185). -/
def ringSlotOf (a : Nat) : Option Nat :=
  let d := slotDie a
  let z := indexOfSlot a
  let p := segOfIndex d z
  let off := z - regionStart p d
  if headerHere p d then (if off = 0 then none else some (off - 1)) else some off

/-- Whether a slot lies at a gap position of its segment when the segment's moves are `moves` (R192). -/
def isGapSlot (moves a : Nat) : Bool :=
  match ringSlotOf a with
  | none => false
  | some u => decide (u % 145 = gapPos (ringMoves moves (ringNumber (u / 145) (slotDie a))))

/-- The ring, source position, destination position and die of rotation move `M + 1` (R191, R192). -/
structure MoveSpec where
  die : Nat
  ring : Nat
  source : Nat
  dest : Nat
  deriving DecidableEq, Repr

/-- The move that raises MOVES from `moves` to `moves + 1` (R191, R192). -/
def moveSpec (moves : Nat) : MoveSpec :=
  let r := moves % 128
  let n := ringMoves moves r + 1
  { die := r % 16, ring := r / 16, source := gapPos n, dest := gapPos (n - 1) }

/-- Ring index of the member at position `q` of a ring that has made `n` moves, if it is not the gap (R192). -/
def indexAtPos (n q : Nat) : Option Nat := (List.range 144).find? (fun k => ringPos k n = q)

/-- The stripe whose member has rank `m` on die `d` in segment `p` (R187). -/
def stripeOfRank (p m d : Nat) : Nat :=
  let base := 16 * (m / 9)
  let cands := (List.range 16).filter (fun r => hasMemberOn (stripeAddr p (base + r)) d)
  base + cands.getD (m % 9) 0

end Sys2Proof.Machine
end

