-- ==== Sys2Proof/Machine/LineCode.lean ====
section
/-! DEFINITION. The line code of 03_line_code.md: codeword layout, address-keyed CRC, decoder decision,
poison, blank and gap forms. -/
namespace Sys2Proof.Machine

/-- One message bit through the CRC register (R72). -/
def crcStep (crc : BitVec 16) (m : Bool) : BitVec 16 :=
  if xor crc.msb m then (crc <<< 1) ^^^ 0x8BB7#16 else crc <<< 1

/-- The bits `k - 1` down to 0 of a message through the CRC register. -/
def crcRun (bit : Nat → Bool) : Nat → BitVec 16 → BitVec 16
  | 0, crc => crc
  | k + 1, crc => crcRun bit k (crcStep crc (bit k))

/-- The CRC-16 of a 48-bit key and a DATA field (R72). -/
def crc16 (key : BitVec 48) (data : Line) : BitVec 16 :=
  crcRun data.getLsbD 512 (crcRun key.getLsbD 48 0xFFFF#16)

/-- The content kinds of R73. -/
inductive CrcKind where
  | data | parity | header | shadow
  deriving DecidableEq, Repr

/-- The KIND field of the CRC key (R73). -/
def CrcKind.code : CrcKind → Nat
  | .data => 0
  | .parity => 1
  | .header => 2
  | .shadow => 3

/-- The CRC key of a content kind and its VALUE (R73). -/
def crcKey (kind : CrcKind) (value : Nat) : BitVec 48 :=
  BitVec.ofNat 48 (kind.code * 2 ^ 46 + value % 2 ^ 46)

/-- Parity of the low `n` bits given. -/
def xorBits (bit : Nat → Bool) : Nat → Bool
  | 0 => false
  | k + 1 => xor (bit k) (xorBits bit k)

/-- The number whose bit `i` is `bit i`, for `i` below `n`. -/
def packBits (bit : Nat → Bool) : Nat → Nat
  | 0 => 0
  | k + 1 => packBits bit k + (if bit k then 2 ^ k else 0)

/-- Row parities of a DATA field (R70). -/
def rowPar (d : Line) : BitVec 16 :=
  BitVec.ofNat 16 (packBits (fun r => xorBits (fun c => d.getLsbD (32 * r + c)) 32) 16)

/-- Column parities of a DATA field (R70). -/
def colPar (d : Line) : BitVec 32 :=
  BitVec.ofNat 32 (packBits (fun c => xorBits (fun r => d.getLsbD (32 * r + c)) 16) 32)

/-- The codeword with the given fields (R69). -/
def mkCodeword (crc : BitVec 16) (col : BitVec 32) (row : BitVec 16) (data : Line) : Codeword :=
  (crc ++ (col ++ (row ++ data) : BitVec 560)).cast (by decide)

/-- DATA of a codeword (R69). -/
def cwData (w : Codeword) : Line := w.extractLsb' 0 512
/-- ROWPAR of a codeword (R69). -/
def cwRow (w : Codeword) : BitVec 16 := w.extractLsb' 512 16
/-- COLPAR of a codeword (R69). -/
def cwCol (w : Codeword) : BitVec 32 := w.extractLsb' 528 32
/-- CRC of a codeword (R69). -/
def cwCrc (w : Codeword) : BitVec 16 := w.extractLsb' 560 16

/-- The codeword of a DATA field under a key (R70, R72). -/
def encodeLine (key : BitVec 48) (d : Line) : Codeword :=
  mkCodeword (crc16 key d) (colPar d) (rowPar d) d

/-- The blank form of a slot: all-zero DATA under the slot's key (R195). -/
def blankWord (key : BitVec 48) : Codeword := mkCodeword (crc16 key 0#512) 0#32 0#16 0#512

/-- The gap form: all-ones DATA, zero parities, zero CRC (R195). -/
def gapWord : Codeword := mkCodeword 0#16 0#32 0#16 (BitVec.allOnes 512)

/-- The poison codeword of a key (R77). -/
def poisonWord (key : BitVec 48) : Codeword :=
  mkCodeword (crc16 key 0#512 ^^^ 0xFFFF#16) 0#32 0#16 0#512

/-- The outcomes of one decode (R75). `erased true` is a caught miscorrection (R76). -/
inductive Decoded where
  | clean (d : Line)
  | corrected (d : Line)
  | lost
  | erased (miscorrection : Bool)
  deriving DecidableEq, Repr

/-- Number of set bits below `n`. -/
def popBelow (v : Nat) : Nat → Nat
  | 0 => 0
  | k + 1 => popBelow v k + (if v.testBit k then 1 else 0)

/-- Index of the one set bit below `n` (0 when none). -/
def lowIndex (v : Nat) : Nat → Nat
  | 0 => 0
  | k + 1 => if v.testBit k then k else lowIndex v k

/-- The decoder decision (R75, R76). -/
def decodeLine (key : BitVec 48) (w : Codeword) : Decoded :=
  let d := cwData w
  let rs := (rowPar d ^^^ cwRow w).toNat
  let cs := (colPar d ^^^ cwCol w).toNat
  if rs = 0 ∧ cs = 0 then
    if crc16 key d = cwCrc w then .clean d
    else if d = 0#512 ∧ cwCrc w = crc16 key 0#512 ^^^ 0xFFFF#16 then .lost
    else .erased false
  else if popBelow rs 16 = 1 ∧ popBelow cs 32 = 1 then
    let d2 := d ^^^ (1#512 <<< (32 * lowIndex rs 16 + lowIndex cs 32))
    if crc16 key d2 = cwCrc w then .corrected d2 else .erased true
  else .erased false

/-- The DATA a codeword contributes to a rebuild: a LOST member counts as zero, an ERASED one as none (R84). -/
def Decoded.member : Decoded → Option Line
  | .clean d => some d
  | .corrected d => some d
  | .lost => some 0#512
  | .erased _ => none

/-- XOR of DATA fields (R82). -/
def xorLines (ds : List Line) : Line := ds.foldl (· ^^^ ·) 0#512

end Sys2Proof.Machine
end

