-- ==== Sys2Proof/Machine/Slots.lean ====
section
/-! DEFINITION. Partitions and the logical line address (R54 to R57, R61, R247, R248), where a line lies on the medium
(R94, R187, R201, R209), and what a slot holds (R188, R195). -/
namespace Sys2Proof.Machine
open Sys2Proof

/-! ### Partitions -/

/-- Partition `p` as enabled. -/
def State.partn (s : State) (p : Nat) : PartInfo := s.parts.getD p PartInfo.free
/-- Bytes of a tile interleave granule (R68). -/
def PartInfo.granBytes (p : PartInfo) : Nat :=
  match p.gran with
  | 0 => 256
  | 1 => 4096
  | 2 => 65536
  | _ => 1048576
/-- Tiles of a set, ascending. -/
def tilesOf (mask : Nat) : List Nat := (List.range 8).filter (fun t => mask.testBit t)
/-- The enabled partition whose range holds a DPA (R54). -/
def State.partOf (s : State) (dpa : Nat) : Option Nat :=
  (s.parts.find? (fun x => decide (x.2.st = 1 ∧ x.2.base ≤ dpa ∧ dpa < x.2.base + x.2.size))).map (fun x => x.1)

/-- Tile and LLA of a DPA of a partition (R56). -/
def PartInfo.locate (p : PartInfo) (dpa : Nat) : Nat × Nat :=
  let o := dpa - p.base
  let tiles := tilesOf p.tileSet
  let k := max 1 tiles.length
  let granule := o / p.granBytes
  let tile := tiles.getD (granule % k) 0
  let off := granule / k * p.granBytes + o % p.granBytes
  (tile, (p.segBase.getD tile 0 + off / 0x100000) * segLines + off % 0x100000 / 64)

/-- The DPA of a data line of a partition in a tile: R56 read backwards. -/
def PartInfo.dpaOf (p : PartInfo) (tile lla : Nat) : Nat :=
  let tiles := tilesOf p.tileSet
  let k := max 1 tiles.length
  let i := (tiles.takeWhile (fun t => decide (t ≠ tile))).length
  let off := (lsegOf lla - p.segBase.getD tile 0) * 0x100000 + lineIndexOf lla * 64
  p.base + (off / p.granBytes * k + i) * p.granBytes + off % p.granBytes

/-- Whether a logical segment of a tile is a data or metadata segment of the partition. -/
def PartInfo.ownsProtected (p : PartInfo) (tile lseg : Nat) : Bool :=
  decide (p.segBase.getD tile 0xFFFFFFFF ≤ lseg ∧ lseg < p.segBase.getD tile 0xFFFFFFFF + p.meta_)
/-- Whether it is a span-parity segment of the partition (R247). -/
def PartInfo.ownsSpan (p : PartInfo) (tile lseg : Nat) : Bool :=
  decide (p.spanBase.getD tile 0xFFFFFFFF ≤ lseg ∧ lseg < p.spanBase.getD tile 0xFFFFFFFF + (p.total - p.meta_))
/-- Whether the partition holds a logical segment of a tile. -/
def PartInfo.owns (p : PartInfo) (tile lseg : Nat) : Bool :=
  decide (p.st ≠ 0) && (p.ownsProtected tile lseg || p.ownsSpan tile lseg)
/-- The partition that holds a logical segment of a tile, if any. -/
def State.partOfSeg (s : State) (tile lseg : Nat) : Option Nat :=
  (s.parts.find? (fun x => x.2.owns tile lseg)).map (fun x => x.1)
/-- Whether a line is a data line that a DPA reaches, rather than sealing metadata or span parity. -/
def State.isDataLine (s : State) (part tile lla : Nat) : Bool :=
  let p := s.partn part
  decide (p.segBase.getD tile 0xFFFFFFFF ≤ lsegOf lla ∧ lsegOf lla < p.segBase.getD tile 0xFFFFFFFF + p.data)
/-- The kind of a line of a partition: data, sealing metadata (R293) or span parity (R249). -/
def State.lineKind (s : State) (part tile lla : Nat) : EKind :=
  let p := s.partn part
  if p.ownsSpan tile (lsegOf lla) then .span
  else if s.isDataLine part tile lla then .data else .metaLine

/-- Span group of data index `j` of tile `t` (R248). -/
def State.spanGroup (s : State) (t j : Nat) : Nat :=
  let b := j / (s.n - 1)
  let r := j % (s.n - 1)
  let u := if r < t then r else r + 1
  b * s.n + u
/-- Tile and LLA of the span-parity line of a protected line (R247, R248). -/
def State.spanLine (s : State) (part t lla : Nat) : Nat × Nat :=
  let p := s.partn part
  let q := s.spanGroup t (lsegOf lla - p.segBase.getD t 0)
  let pt := q % s.n
  (pt, (p.spanBase.getD pt 0 + q / s.n) * segLines + lineIndexOf lla)
/-- Data index of tile `t` in span group `q`, if the tile has one there (R248). -/
def State.spanIndex (s : State) (q t : Nat) : Option Nat :=
  let b := q / s.n
  let u := q % s.n
  if u = t then none else some (b * (s.n - 1) + (if u < t then u else u - 1))
/-- The members of a span group line: tile and LLA of each, from a member of tile `t` (R248). -/
def State.spanMembers (s : State) (part q line : Nat) : List (Nat × Nat) :=
  let p := s.partn part
  s.tileNumbers.filterMap (fun t =>
    match s.spanIndex q t with
    | none => none
    | some j => if j < p.meta_ then some (t, (p.segBase.getD t 0 + j) * segLines + line) else none)

/-! ### Segments and slots -/

/-- Map entry of a logical segment (R182, R183). -/
def TileMap.entry (m : TileMap) (lseg : Nat) : MapEntry := m.map.getD lseg MapEntry.fresh
/-- Physical segment `p` as the tile knows it. -/
def TileMap.seg (m : TileMap) (p : Nat) : Seg := m.segs.getD p Seg.shipped
/-- The map with a map entry changed. -/
def TileMap.setEntry (m : TileMap) (lseg : Nat) (e : MapEntry) : TileMap :=
  { m with map := m.map.put MapEntry.fresh lseg e }
/-- The map with a physical segment changed. -/
def TileMap.setSeg (m : TileMap) (p : Nat) (x : Seg) : TileMap := { m with segs := m.segs.put Seg.shipped p x }

/-- A copy of a logical segment: physical segment, ring offset ω, MOVES. -/
structure Copy where
  pseg : Nat
  omega : Nat
  moves : Nat
  deriving DecidableEq, Repr

/-- The copy that holds stripe `st` of a logical segment for a read: the target below the copy pointer of a migration,
else the segment of the map entry (R201). `none` when FRESH or LOST. -/
def TileMap.copyFor (m : TileMap) (lseg st : Nat) : Option Copy :=
  let e := m.entry lseg
  let own : Copy := { pseg := e.pseg, omega := e.omega, moves := (m.seg e.pseg).moves }
  match e.st with
  | .fresh | .lost => none
  | .bound => some own
  | .migrating =>
    match m.migs.find? (fun g => decide (g.lseg = lseg)) with
    | none => some own
    | some g => if st < g.ptr then some { pseg := g.target, omega := g.tomega, moves := (m.seg g.target).moves }
                else some own

/-- The other copy into which an eviction of stripe `st` also strokes: the source below the pointer (R201). -/
def TileMap.otherCopy (m : TileMap) (lseg st : Nat) : Option Copy :=
  let e := m.entry lseg
  match e.st with
  | .migrating =>
    match m.migs.find? (fun g => decide (g.lseg = lseg)) with
    | none => none
    | some g => if st < g.ptr then some { pseg := e.pseg, omega := e.omega, moves := (m.seg e.pseg).moves } else none
  | _ => none

/-- Stripe address of stripe `st` of a copy (R79). -/
def Copy.stripe (c : Copy) (st : Nat) : Nat := stripeAddr c.pseg st
/-- Slot of the member at position `j` of stripe `st` of a copy, before substitution (R187). -/
def Copy.slot (c : Copy) (st j : Nat) : Nat := memberSlot c.pseg c.omega c.moves st (dieOfPos (c.stripe st) j)

/-- The `y`-th ring slot of donor `p`'s region on die `d` outside bank `b` (R209). -/
def donorSlot (p d b y : Nat) : Nat :=
  let us := (List.range 1160).filter (fun u => decide (ringSlotIndex p d u % 32 ≠ b))
  slotOfIndex d (ringSlotIndex p d (us.getD y 0))

/-- The substitute of a slot of an evacuated bank below the pointer (R209). -/
def TileMap.evacSlot (m : TileMap) (a : Nat) : Nat :=
  match m.evacs.find? (fun e => decide (e.bank = slotDie a * 32 + slotBank a)) with
  | none => a
  | some e =>
    if slotLine a < e.ptr then
      donorSlot (e.donors.getD (slotLine a / 1120) 0) (slotDie a) (slotBank a) (slotLine a % 1120)
    else a

/-- The remap entry of a slot: number and entry (R93, R94). -/
def TileMed.remapOf (m : TileMed) (a : Nat) : Option (Nat × Remap) :=
  m.remap.find? (fun x => decide (x.1 / 32 = slotDie a ∧ x.2.bank = slotBank a ∧ x.2.slot = slotLine a) && x.2.valid)

/-- The slot an access goes to: substitute, then remap entry (R94, R209). -/
def Tile.finalSlot (x : Tile) (a : Nat) : Nat :=
  let b := x.map.evacSlot a
  match x.med.remapOf b with
  | none => b
  | some (_, r) => spareSlot (slotDie b) (slotBank b) r.spare

/-- Counts the hit of a remap entry and the redirect (R93, counter 029). -/
def State.countRedirect (s : State) (t a : Nat) : State :=
  let x := s.tile t
  match x.med.remapOf (x.map.evacSlot a) with
  | none => s
  | some (i, r) =>
    (s.modMed t (fun m => { m with remap := m.remap.insert i { r with hits := satAdd 0xFFFF r.hits 1 } })).tcount t
      Cn.REMAP_REDIRECTS 1

/-- Whether a slot lies in a failed bank or die that no evacuation has emptied there (R91, R92). -/
def Tile.slotFailed (x : Tile) (a : Nat) : Bool :=
  let b := x.map.evacSlot a
  x.med.failedDies.contains (slotDie b) || x.med.failedBanks.contains (slotDie b * 32 + slotBank b)

/-- The slot that a spare stands for, once its image has verified there (R93, R94). -/
def TileMed.remappedTo (m : TileMed) (a : Nat) : Option Nat :=
  (m.remap.find? (fun x => x.2.valid && !x.2.pending && decide (spareSlot (x.1 / 32) x.2.bank x.2.spare = a))).map
    (fun x => slotAddr (x.1 / 32) x.2.bank x.2.slot)
/-- The segment that a slot belongs to, a spare belonging to that of the slot it stands for; `none` for an unused spare and the
shadow area. -/
def TileMed.segOf (m : TileMed) (a : Nat) : Option Nat :=
  let home := if 54251936 ≤ slotLine a then m.remappedTo a else some a
  home.map (fun b => segOfIndex (slotDie b) (indexOfSlot b))
/-- What a slot holds: the codeword last stroked; else the form of the last blanking, with the key it is read with
(R188, R195); a spare or shadow slot never stroked holds a codeword the spec leaves open. [DEDUCED, assumption 6; DESIGN CHOICE, assumption 61] -/
def Tile.codeword (x : Tile) (a : Nat) (key : BitVec 48) : Codeword :=
  match x.med.slots.find a with
  | some w => w
  | none =>
    if 54251936 ≤ slotLine a then (if (x.med.remappedTo a).isSome then blankWord key else Config.freeCodeword a)
    else if isGapSlot (x.map.seg (segOfIndex (slotDie a) (indexOfSlot a))).blankMoves a &&
        decide ((x.map.seg (segOfIndex (slotDie a) (indexOfSlot a))).cond ≠ .donor) then gapWord
    else blankWord key

/-- The CRC key of a data line (R73). -/
def dataKey (lla : Nat) : BitVec 48 := crcKey .data lla
/-- The CRC key of a parity line (R73). -/
def parityKey (S : Nat) : BitVec 48 := crcKey .parity S
/-- The LLA of the data member at position `j` of stripe `st` of a logical segment, `none` for the parity line. -/
def memberLla (lseg st S j : Nat) : Option Nat :=
  if j = parityPos S then none
  else some (lseg * segLines + st * 8 + (if j < parityPos S then j else j - 1))
/-- The CRC key of member position `j` (R73). -/
def memberKey (lseg st S j : Nat) : BitVec 48 :=
  match memberLla lseg st S j with
  | none => parityKey S
  | some l => dataKey l

end Sys2Proof.Machine
end

