-- ==== Sys2Proof/Machine/Reservoir.lean ====
section
/-! DEFINITION. The reservoir (R132 to R134, R141), bank charges and the write gate (R131, R133, R145), the address
shadow (R148), key slots and the stored form of an entry (R287, R290). -/
namespace Sys2Proof.Machine
open Sys2Proof

/-! ### Entries -/

/-- The entry of a line: the newest when a foreign partial write made a second one (R291). -/
def TileRes.find (r : TileRes) (addr owner : Nat) : Option Entry :=
  r.entries.find? (fun e => decide (e.addr = addr ∧ e.owner = owner))
/-- An entry by its number. -/
def TileRes.byId (r : TileRes) (id : Nat) : Option Entry := r.entries.find? (fun e => decide (e.id = id))
/-- Changes the entry of a number. -/
def TileRes.setEntry (r : TileRes) (id : Nat) (f : Entry → Entry) : TileRes :=
  { r with entries := r.entries.map (fun e => if e.id = id then f e else e) }
/-- Removes the entry of a number. -/
def TileRes.dropEntry (r : TileRes) (id : Nat) : TileRes :=
  { r with entries := r.entries.filter (fun e => decide (e.id ≠ id)) }

/-- Changes the stroke of a number. -/
def TileRes.setStroke (r : TileRes) (id : Nat) (f : Stroke → Stroke) : TileRes :=
  { r with strokes := r.strokes.map (fun k => if k.id = id then f k else k) }
/-- Changes the eviction of a number. -/
def TileRes.setEvict (r : TileRes) (id : Nat) (f : Evict → Evict) : TileRes :=
  { r with evicts := r.evicts.map (fun e => if e.id = id then f e else e) }

/-- Slice of a line, R132. -/
def TileRes.sliceOf (r : TileRes) (kind : EKind) (addr : Nat) : Nat :=
  (Config.lineHash r.hashKey (match kind with | .data => 0 | .metaLine => 1 | .span => 2) addr).toNat % 16
/-- Set of a line, R132. -/
def TileRes.setOf (r : TileRes) (kind : EKind) (addr : Nat) : Nat :=
  (Config.lineHash r.hashKey (match kind with | .data => 0 | .metaLine => 1 | .span => 2) addr).toNat / 16

/-- Whether two lines share slice and set. -/
def TileRes.sameSet (r : TileRes) (e : Entry) (kind : EKind) (addr : Nat) : Bool :=
  decide (r.sliceOf e.kind e.addr = r.sliceOf kind addr ∧ r.setOf e.kind e.addr = r.setOf kind addr)

/-- The ways of a line's set in use. -/
def TileRes.ways (r : TileRes) (kind : EKind) (addr : Nat) : List Entry :=
  r.entries.filter (fun e => !e.overflow && r.sameSet e kind addr)

/-- Where a line goes that is not resident: a free way, a CLEAN way to replace (the least recently used), or none
(R134). -/
inductive Room where
  | free | replace (id : Nat) | full
  deriving DecidableEq, Repr

/-- The room for a line (R134). A tile with fewer than 16 entries has a free way in every set. -/
def TileRes.room (r : TileRes) (kind : EKind) (addr : Nat) : Room :=
  if r.entries.length < 16 then .free
  else
    let w := r.ways kind addr
    if w.length < 16 then .free
    else match minBy (fun e => e.used) (w.filter (fun e => decide (e.st = .clean))) with
      | some e => .replace e.id
      | none => .full

/-- A number for a new entry, eviction or stroke. -/
def TileRes.fresh (r : TileRes) : Nat := r.seqCtr
/-- Moves the counter of numbers on. -/
def TileRes.bump (r : TileRes) : TileRes := { r with seqCtr := r.seqCtr + 1 }

/-- Places a new entry; with no room it takes an overflow entry (R134). The second result says whether it did. -/
def TileRes.place (r : TileRes) (e : Entry) : TileRes × Bool :=
  let e1 := { e with id := r.seqCtr, stamp := r.seqCtr, used := r.seqCtr }
  let b := r.bump
  match r.room e.kind e.addr with
  | .free => ({ b with entries := e1 :: b.entries }, false)
  | .replace id =>
    let c := b.dropEntry id
    ({ c with entries := e1 :: c.entries }, false)
  | .full =>
    let e2 := { e1 with overflow := true }
    ({ b with entries := e2 :: b.entries }, true)

/-- An entry with nothing in it. -/
def Entry.empty (kind : EKind) (part addr owner : Nat) : Entry :=
  { id := 0, kind := kind, addr := addr, part := part, dpa := 0, kx := 0, st := .clean, mask := 0, redirty := false,
    data := 0, storedOnly := none, poisoned := false, blank := false, overflow := false, owner := owner, stamp := 0,
    used := 0 }

/-- Fills a CLEAN entry when the set has a CLEAN or free way (R133, R134). -/
def TileRes.fillClean (r : TileRes) (e : Entry) : TileRes :=
  match r.room e.kind e.addr with
  | .full => r
  | _ => (r.place { e with st := .clean, overflow := false }).1

/-- An overflow entry that has become CLEAN moves into its set, or is dropped (R134). -/
def TileRes.settle (r : TileRes) (id : Nat) : TileRes :=
  match r.byId id with
  | none => r
  | some e =>
    if e.overflow && decide (e.st = .clean) then
      match r.room e.kind e.addr with
      | .full => r.dropEntry id
      | .free => r.setEntry id (fun e => { e with overflow := false })
      | .replace v => (r.dropEntry v).setEntry id (fun e => { e with overflow := false })
    else r

/-- The dirty count of a tile (R133). -/
def TileRes.dirty (r : TileRes) : Nat := (r.entries.filter (fun e => e.st.counted)).length
/-- Entries of a state. -/
def TileRes.inState (r : TileRes) (st : LineState) : Nat := (r.entries.filter (fun e => decide (e.st = st))).length

/-! ### Stored-form buffers (R141) -/

/-- The newest image held of a line or parity line. -/
def TileRes.buf (r : TileRes) (parity : Bool) (addr : Nat) : Option Buf :=
  maxBy (fun b => b.ver) (r.bufs.filter (fun b => b.parity == parity && decide (b.addr = addr)))
/-- The newest IN-FLIGHT image of a line or parity line (R113). -/
def TileRes.inflight (r : TileRes) (parity : Bool) (addr : Nat) : Option Buf :=
  maxBy (fun b => b.ver) (r.bufs.filter (fun b => b.parity == parity && decide (b.addr = addr) && b.inflight))
/-- Images in flight in a slice. -/
def TileRes.inflightIn (r : TileRes) (slice : Nat) : Nat :=
  (r.bufs.filter (fun b => b.inflight && decide (b.slice = slice))).length
/-- Stores an image in a buffer of its slice: an older image of the same line that is not IN-FLIGHT is given up, and
when the slice holds 256 images the oldest released one is reused (R132, R141). -/
def TileRes.putBuf (r : TileRes) (b : Buf) : TileRes :=
  let rest := r.bufs.filter (fun x => !(x.parity == b.parity && decide (x.addr = b.addr) && !x.inflight))
  let inSlice := rest.filter (fun x => decide (x.slice = b.slice))
  let rest2 :=
    if inSlice.length < 256 then rest
    else match minBy (fun x => x.ver) (inSlice.filter (fun x => !x.inflight)) with
      | none => rest
      | some v => rest.filter (fun x => decide (x ≠ v))
  { r with bufs := rest2 ++ [b] }
/-- Images of a line up to version `ver` leave IN-FLIGHT; a released buffer keeps its image (R141). -/
def TileRes.landBuf (r : TileRes) (parity : Bool) (addr ver : Nat) : TileRes :=
  { r with bufs := r.bufs.map (fun b =>
      if b.parity == parity ∧ b.addr = addr ∧ b.ver ≤ ver then { b with inflight := false } else b) }
/-- Forgets the images of a line that are not IN-FLIGHT. -/
def TileRes.forgetBuf (r : TileRes) (parity : Bool) (addr : Nat) : TileRes :=
  { r with bufs := r.bufs.filter (fun b => !(b.parity == parity && decide (b.addr = addr) && !b.inflight)) }

/-! ### Bank charges and the write gate -/

/-- A bank as die × 32 + bank. -/
def bankOf (a : Nat) : Nat := slotDie a * 32 + slotBank a

/-- The banks a line charges: of its own slot and of its stripe's parity line (R133). A line whose segment is FRESH
has no slot and charges none. -/
def Tile.chargeOf (x : Tile) (lla : Nat) : List Nat :=
  let st := stripeOfLine (lineIndexOf lla)
  match x.map.copyFor (lsegOf lla) st with
  | none => []
  | some c =>
    let S := c.stripe st
    [bankOf (x.finalSlot (c.slot st (memberPos S (dataPosOf (lineIndexOf lla))))),
     bankOf (x.finalSlot (c.slot st (parityPos S)))]

/-- Every charge against a bank of tile `t`, once for each charging line. -/
def Tile.charges (x : Tile) (t : Nat) : List Nat :=
  ((x.res.entries.filter (fun e =>
    decide (e.owner = t ∧ (e.st = .dirty ∨ e.st = .incomplete ∨ e.st = .inflight)))).map
      (fun e => x.chargeOf e.addr)).flatten
/-- The charge of a bank. -/
def Tile.charge (x : Tile) (t b : Nat) : Nat := ((x.charges t).filter (fun c => decide (c = b))).length
/-- The highest charge of any bank of the tile. -/
def Tile.chargeMax (x : Tile) (t : Nat) : Nat := (x.charges t).foldl (fun m b => max m (x.charge t b)) 0

/-- The bank cap: ceil(3 L / 512) (R145). -/
def TileRes.bankCap (r : TileRes) : Nat := ceilDiv (3 * r.limit) 512
/-- Tokens in use in a direction. -/
def sumList (l : List Nat) : Nat := l.foldl (· + ·) 0

/-- `WRITE_GATE_STATUS` of tile `t` (R131): LIMIT, BANK, OVERFLOW, DRAIN. A backlog of the re-mirroring counts toward
LIMIT (R261). -/
def State.gate (s : State) (t : Nat) : Nat :=
  let x := s.tile t
  let tok := sumList x.rd.wrUse
  let beyond := (List.range 16).any (fun sl =>
    decide (64 ≤ (x.res.entries.filter (fun e => e.overflow && decide (x.res.sliceOf e.kind e.addr = sl))).length))
  bitNat (decide (x.res.limit ≤ x.res.dirty + tok + x.res.backlog.length))
    + 2 * bitNat (decide (x.res.bankCap ≤ x.chargeMax t + tok))
    + 4 * bitNat (x.res.entries.any (fun e => e.overflow) && beyond)
    + 8 * bitNat (decide (s.dev.st = .drain))
/-- Records WRITE_GATE_CLOSED when the gate has closed since last looked at (05, events). -/
def State.noteGate (s : State) (t : Nat) : State :=
  let g := s.gate t
  let was := (s.tile t).res.gateWas
  let s1 := s.modRes t (fun r => { r with gateWas := g })
  if was = 0 ∧ g ≠ 0 then s1.tev t Ev.WRITE_GATE_CLOSED 0xFF g [] else s1

/-! ### Address shadow (R148, R128) -/

/-- Mirror tile of tile `t` now; 0xFF for none (R127, R260). -/
def State.mirrorOf (s : State) (t : Nat) : Nat := (s.tile t).fence.mirror

/-- An addition to the list held for another tile, or a removal from it (R148). -/
def TileRes.shadowOp (r : TileRes) (add : Bool) (e : ShadowEntry) : TileRes :=
  let l := if add then (if r.shadow.contains e then r.shadow else r.shadow ++ [e])
           else r.shadow.filter (fun x => decide (x ≠ e))
  { r with shadow := l }

/-- Sends an addition or a removal of a list that tile `t` keeps to its mirror tile: its own list, or the stand-in list of
a fenced tile (R258); while the mirror tile is FENCING it waits in the transmitter (R128). -/
def State.shadowFor (s : State) (t owner : Nat) (add : Bool) (kind addr : Nat) : State :=
  let m := s.mirrorOf t
  let e : ShadowEntry := { owner := owner, kind := kind, addr := addr }
  if m ≥ s.n then s
  else if (s.tile m).fence.st = .fencing then s.modRes t (fun r => { r with shadowQ := r.shadowQ ++ [(add, e)] })
  else (s.modRes m (fun r => r.shadowOp add e)).ringSend t m ringMirror

/-- An addition to tile `t`'s own list, or a removal. -/
def State.shadow (s : State) (t : Nat) (add : Bool) (kind addr : Nat) : State := s.shadowFor t t add kind addr

/-- The list that the mirror tile holds for tile `t`. -/
def State.shadowList (s : State) (t : Nat) : List ShadowEntry :=
  let m := s.mirrorOf t
  if m ≥ s.n then [] else (s.tile m).res.shadow.filter (fun e => decide (e.owner = t))

/-! ### Keys and the stored form -/

/-- Key slot `k` (R278). -/
def State.key (s : State) (k : Nat) : KeySlot := s.keys.slots.getD k KeySlot.reset
/-- The XTS form of a plain line of a partition under a key index (R287, R289). -/
def State.encrypt (s : State) (part kx dpa : Nat) (d : Line) : Line :=
  encryptLine (s.partn part).forerunner (s.key kx).k1 (s.key kx).k2 dpa d
/-- The inverse. -/
def State.decrypt (s : State) (part kx dpa : Nat) (d : Line) : Line :=
  decryptLine (s.partn part).forerunner (s.key kx).k1 (s.key kx).k2 dpa d
/-- A read under key index `b` of plaintext held under `a`: encrypted under `a`, decrypted under `b` (R291). A line of
64 zero bytes held in the blank form reads as zero under every key index (R196). -/
def State.rekey (s : State) (part dpa a b : Nat) (blank : Bool) (d : Line) : Line :=
  if a = b ∨ blank then d else s.decrypt part b dpa (s.encrypt part a dpa d)

end Sys2Proof.Machine
end

