-- ==== Sys2Proof/Machine/Access.lean ====
section
/-! DEFINITION. From a request to its line: logical devices (R366), HDM decoders (R45 to R50, R368), dynamic capacity (R370),
key rights (R281 to R285), violations (R273 to R275). -/
namespace Sys2Proof.Machine
open Sys2Proof

/-- All ones in the 44 bits of a DPA field (R50, R275). -/
def noDpa : Nat := 2 ^ 44 - 1

/-- Requester class of a port and LD (R332). -/
def classOf (port ld : Nat) : Nat := 8 * port + ld
/-- The debug class (R332). -/
def debugClass : Nat := 0x40
/-- The maintenance class (R332). -/
def maintClass : Nat := 0x41

/-! ### Logical devices and HDM decoders -/

/-- Key of an object of LD `l` of port `p` (R417). -/
def ldKey (key p l : Nat) : Nat := Ob.inst key (16 * p + l)

/-- The LD that a request names, by LD-ID, or by source PBR ID in PBR mode (R366). -/
def State.ldOf (s : State) (p id : Nat) : Option Nat :=
  let q := s.port p
  match q.ldMode with
  | 0 => some 0
  | 1 => if id < q.ldCount then some id else none
  | _ => (List.range q.ldCount).find? (fun l =>
           decide (s.cell (ldKey Ob.LD_SPID p l) 0xFFFF = id ∧ id ≠ 0xFFFF))

/-- Key index of an HPA under a decoder's latched field (R46). -/
def Decoder.kx (d : Decoder) (hpa : Nat) : Nat :=
  let w := bitsOf d.kxCfg 8 4
  bitsOf d.kxCfg 12 12 ||| bitsOf hpa (bitsOf d.kxCfg 0 6) w
/-- The stripped address HPA' (R47). -/
def Decoder.strip (d : Decoder) (hpa : Nat) : Nat :=
  let w := bitsOf d.kxCfg 8 4
  let pos := bitsOf d.kxCfg 0 6
  if w = 0 then hpa else (hpa >>> (pos + w)) * 2 ^ pos + hpa % 2 ^ pos
/-- Whether a committed decoder claims an HPA (R47, R50). -/
def Decoder.claims (d : Decoder) (hpa : Nat) : Bool :=
  d.committed && decide (d.base ≤ d.strip hpa ∧ d.strip hpa < d.base + d.size)
/-- LD DPA bytes that a decoder takes, its skip included (R368). -/
def Decoder.span (d : Decoder) : Nat := if d.committed then d.skip + d.size / max 1 d.ways else 0
/-- Offset of an HPA in a decoder's DPA range: the HDM decode takes the interleave bits out (R45). -/
def Decoder.offset (d : Decoder) (hpa : Nat) : Nat :=
  let o := d.strip hpa - d.base
  o / (d.gran * max 1 d.ways) * d.gran + o % d.gran

/-- LD DPA at which decoder `i` starts: ascending order, each after its skip (R368). -/
def LD.decoderStart (l : LD) (i : Nat) : Nat :=
  ((l.decoders.take i).map Decoder.span).foldl (· + ·) 0 + (l.decoders.getD i Decoder.reset).skip

/-- The key index and LD DPA of an HPA, when a committed decoder claims it (R45 to R47, R50). -/
def LD.decode (l : LD) (hpa : Nat) : Option (Nat × Nat) :=
  match (List.range 4).find? (fun i => (l.decoders.getD i Decoder.reset).claims hpa) with
  | none => none
  | some i =>
    let d := l.decoders.getD i Decoder.reset
    some (d.kx hpa, l.decoderStart i + d.offset hpa)

/-- Base and size of an LD's allocation; in SLD mode it covers the whole DPA space (R50, R367). -/
def State.alloc (s : State) (p l : Nat) : Nat × Nat :=
  if (s.port p).ldMode = 0 then (0, s.part.capacity)
  else (s.cell (ldKey Ob.LD_ALLOC_BASE p l) 0, s.cell (ldKey Ob.LD_ALLOC_SIZE p l) 0)

/-- The region that a `DCR_CFG` value spells. -/
def Region.ofCfg (v : Nat) : Region :=
  { on := v.testBit 31, shareable := v.testBit 30, sanitize := v.testBit 29, off := bitsOf v 14 14, size := bitsOf v 0 14 }
/-- Region `r` of an LD. -/
def State.region (s : State) (p l r : Nat) : Region := Region.ofCfg (s.cell (ldKey Ob.DCR_CFG p l + r) 0)

/-- Whether an LD DPA lies in a region, in a block not added for the LD (R370). -/
def State.dcBarred (s : State) (p l ldDpa : Nat) : Bool :=
  (List.range 8).any (fun r =>
    let g := s.region p l r
    let gib := ldDpa / 2 ^ 30
    g.on && decide (g.off ≤ gib ∧ gib < g.off + g.size) &&
      !((s.ld p l).blocks.any (fun b => decide (b.region = r ∧ b.block = gib - g.off))))

/-! ### The outcome of decoding -/

/-- The outcome of decoding an access: a violation with its cause, its DPA field and the quantity its event records,
or a line of a partition (R45 to R56). -/
inductive Route where
  | violation (cause dpa quantity : Nat)
  | line (kx dpa part tile lla : Nat)
  deriving DecidableEq, Repr

/-- The partition lookup of a DPA (R51, R54, R56). -/
def State.routeDpa (s : State) (kx dpa : Nat) : Route :=
  match s.partOf dpa with
  | none => .violation 1 dpa dpa
  | some p =>
    let x := (s.partn p).locate dpa
    .line kx dpa p x.1 x.2

/-- Decoding of a CXL.mem request: LD, HDM decoder, allocation, dynamic capacity, partition (R45 to R56, R366 to R370). -/
def State.routeHpa (s : State) (p id hpa : Nat) : Route :=
  match s.ldOf p id with
  | none => .violation 2 noDpa hpa
  | some l =>
    match (s.ld p l).decode hpa with
    | none => .violation 2 noDpa hpa
    | some (kx, ldDpa) =>
      let a := s.alloc p l
      if a.2 ≤ ldDpa ∨ s.dcBarred p l ldDpa then .violation 2 ldDpa ldDpa
      else s.routeDpa kx (a.1 + ldDpa - ldDpa % 64)

/-! ### Rights -/

/-- `RIGHTS_MAP` as shipped (R285). -/
def rightsDefault (c : Nat) : Nat := if c < 64 then 3 else if c = maintClass then 2 else 0
/-- The rights table's bits of a class: for the debug class those of the unlock in force (R283, R286). -/
def State.rightsMap (s : State) (c : Nat) : Nat := s.cell (Ob.inst Ob.RIGHTS_MAP c) (rightsDefault c)
/-- Whether a class holds a right for a key index; an EMPTY slot grants none (R281, R283). -/
def State.hasRight (s : State) (c kx : Nat) (write : Bool) : Bool :=
  decide ((s.key kx).st ≠ .empty) && (s.rightsMap c).testBit (2 * kx + bitNat write)
/-- Whether requests under a key index are held (R280, R281). -/
def State.keyHeld (s : State) (kx : Nat) : Bool := decide ((s.key kx).st = .purging)

/-! ### Violations -/

/-- The bit of `VIOLATION_STATUS` of a cause (R275). -/
def violationBit : Nat → Nat
  | 1 | 2 => 0
  | 3 | 4 => 1
  | 5 => 2
  | 6 => 3
  | 9 => 5
  | _ => 4

/-- Records a violation (R273 to R275): the status bit and its counter, LAST_VIOLATION, the event of its cause with the
class, and the counter of violations of its kind. `iface` is the code of LAST_VIOLATION. -/
def State.violate (s : State) (tile cls iface cause dpa quantity : Nat) : State :=
  let b := violationBit cause
  let s1 := if cause = 8 then s else s.raise Ob.VIOLATION_STATUS b (Ob.VIOLATION_OCC + b)
  let s2 := s1.setCell Ob.LAST_VIOLATION
    (s.now tile % 2 ^ 64 * 2 ^ 64 + dpa % 2 ^ 44 * 2 ^ 20 + cls % 256 * 2 ^ 12 + iface % 16 * 2 ^ 8 + cause % 256)
  match cause with
  | 1 => (s2.tcount tile Cn.DECODE_VIOLATIONS 1).tev tile Ev.DECODE_NO_PARTITION cls quantity [(1, cls)]
  | 2 => (s2.tcount tile Cn.DECODE_VIOLATIONS 1).tev tile Ev.DECODE_OUTSIDE_LD cls quantity [(1, cls)]
  | 8 => s2
  | _ => s2.tev tile Ev.ACCESS_VIOLATION cls dpa [(1, cls), (1, iface), (1, cause)]

/-- Interface code of an access in LAST_VIOLATION (R275). -/
def Iface.code (i : Iface) (write : Bool) : Nat :=
  match i with
  | .cxl => bitNat write
  | .scribe => 2
  | .debug => 3
  | .maint => 4

/-- Records the violation of a decoded access at the tile that found it, and counts it (R273, counters 087, 088). -/
def State.violateReq (s : State) (tile : Nat) (r : Req) (cause : Nat) : State :=
  (s.violate tile r.cls (r.iface.code r.write) cause r.dpa r.dpa).tcount tile
    (if r.write then Cn.VIOLATION_WRITES else Cn.VIOLATION_READS) 1

/-! ### Lost lines -/

/-- Whether a line of tile `t` is LOST: in the poison list, or in a LOST logical segment (R86, R208). -/
def Tile.isLost (x : Tile) (lla : Nat) : Bool :=
  x.map.poison.any (fun p => decide (p.lla = lla)) || decide ((x.map.entry (lsegOf lla)).st = .lost)
/-- Enters a line in the poison list with its source: 1 External, 2 Internal, 3 Injected (R86, R382). -/
def State.poisonLine (s : State) (t lla source : Nat) : State :=
  s.modMap t (fun m =>
    if m.poison.any (fun p => decide (p.lla = lla)) then m
    else { m with poison := m.poison ++ [{ lla := lla, source := source }],
                  poisonFullAt := if m.poison.length < 65536 ∨ m.poisonFullAt.isSome then m.poisonFullAt else some (s.now t) })
/-- Takes a line off the poison list (R87). -/
def State.unpoisonLine (s : State) (t lla : Nat) : State :=
  s.modMap t (fun m => { m with poison := m.poison.filter (fun p => decide (p.lla ≠ lla)) })
/-- Whether a tile's share of a sealed partition is root-lost (R306). -/
def State.rootLost (s : State) (t part : Nat) : Bool :=
  (s.tile t).sealing.any (fun x => decide (x.part = part) && x.rootLost)

/-- The stand-in of a fenced tile; 0xFF for none (R257). -/
def State.standin (s : State) (t : Nat) : Nat := (s.tile t).fence.standin

/-- Tile that serves the lines of logical segment `lseg` of tile `t` now: the tile itself while ACTIVE or FENCING, the
stand-in while it is FENCED or REJOINING, but for segments handed back (R257, R270); `none` when the share reads as
poison: a plain partition, or no stand-in (R263, R272). -/
def State.server (s : State) (part t lseg : Nat) : Option Nat :=
  let f := (s.tile t).fence
  match f.st with
  | .active | .fencing => some t
  | .fenced => if (s.partn part).spanned ∧ f.standin < s.n then some f.standin else none
  | .rejoining =>
    if (s.partn part).spanned then
      if f.standin ≥ s.n then none
      else if f.rejoinStep ≥ 6 ∨ (f.rejoinStep = 5 ∧ !(f.changed.contains lseg)) then some t else some f.standin
    else none

end Sys2Proof.Machine
end

