-- ==== Sys2Proof/Machine/Feed.lean ====
section
/-! DEFINITION. The Feed (12): buckets, charges, tokens, what a request needs to be admitted, holding buffers, held time,
DevLoad. -/
namespace Sys2Proof.Machine
open Sys2Proof

/-! ### Class objects -/

/-- Cell of a class object (R356). -/
def State.clsCell (s : State) (ob c d : Nat) : Nat := s.cell (Ob.inst ob c) d
/-- `CLASS_SCRIBE_PCT`: 25 by default, 0 for class 0x41 (R356). -/
def State.scribePct (s : State) (c : Nat) : Nat := s.clsCell Ob.CLASS_SCRIBE_PCT c (if c = maintClass then 0 else 25)
/-- Bucket depth in 10^-11 bytes (R334). -/
def State.bucketDepth (s : State) (c : Nat) : Nat := s.clsCell Ob.CLASS_BURST c 16 * 1024 * 10 ^ 11
/-- Ceiling rate of a class and direction, MB/s; 0 = none (R334). -/
def State.ceilRate (s : State) (c : Nat) (write : Bool) : Nat :=
  s.clsCell (if write then Ob.CLASS_WR_RATE else Ob.CLASS_RD_RATE) c 0
/-- Reserve of a class and direction, MB/s (R334). -/
def State.reserve (s : State) (c : Nat) (write : Bool) : Nat :=
  s.clsCell (if write then Ob.CLASS_WR_RESERVE else Ob.CLASS_RD_RESERVE) c 0
/-- Percent of a class that a slice meters: the Scribe share, or the rest (R338). -/
def State.sharePct (s : State) (c : Nat) (scribe : Bool) : Nat := if scribe then s.scribePct c else 100 - s.scribePct c
/-- The reservation factor of a class and direction (R354). -/
def State.factor (s : State) (c : Nat) (write : Bool) : Nat × Nat :=
  s.feed.scale.getD (2 * c + bitNat write) (1, 1)
/-- Fill of a ceiling bucket in a tick, 10^-11 bytes (R334, R338). -/
def State.ceilFill (s : State) (c : Nat) (write scribe : Bool) : Nat :=
  s.ceilRate c write * s.sharePct c scribe * 10 ^ 6
/-- Fill of a reservation bucket in a tick, 10^-11 bytes (R334, R338, R354). -/
def State.resFill (s : State) (c : Nat) (write scribe : Bool) : Nat :=
  let f := s.factor c write
  s.reserve c write * s.sharePct c scribe * 10 ^ 6 * f.1 / max 1 f.2

/-- Buckets of a class at the port or at the Scribe engine (R338). -/
def FeedClass.buckets (x : FeedClass) (scribe : Bool) : Buckets := if scribe then x.scribe else x.host
/-- Charge taken from a bucket and not filled back. -/
def Buckets.taken (b : Buckets) (write res : Bool) : Nat :=
  if write then (if res then b.wrRes else b.wrCeil) else (if res then b.rdRes else b.rdCeil)
/-- Takes from a bucket. -/
def Buckets.take (b : Buckets) (write res : Bool) (q : Nat) : Buckets :=
  if write then (if res then { b with wrRes := b.wrRes + q } else { b with wrCeil := b.wrCeil + q })
  else (if res then { b with rdRes := b.rdRes + q } else { b with rdCeil := b.rdCeil + q })

/-- The charge of a line access in bytes (R335). -/
def State.lineCharge (s : State) (part : Nat) (write : Bool) : Nat :=
  let p := s.partn part
  if !write then 64
  else if p.spanned && p.isSealed then 176 else if p.spanned then 140 else if p.isSealed then 80 else 64

/-- Whether the buckets of a class let a charge pass in a direction: no ceiling, or enough in the ceiling bucket
(R334). -/
def State.eligible (s : State) (c q : Nat) (write scribe : Bool) : Bool :=
  decide (s.ceilRate c write = 0) ||
  (decide (s.ceilFill c write scribe ≠ 0) &&
   decide (((s.cls c).buckets scribe).taken write false + q * 10 ^ 11 ≤ s.bucketDepth c))
/-- Whether the reservation bucket holds a charge (R334). -/
def State.inReserve (s : State) (c q : Nat) (write scribe : Bool) : Bool :=
  decide (s.resFill c write scribe ≠ 0) &&
  decide (((s.cls c).buckets scribe).taken write true + q * 10 ^ 11 ≤ s.bucketDepth c)

/-- The directions a request is charged in: an atomic is one read and one write (R335). -/
def Req.directions (r : Req) : List Bool := if r.atom ≠ 0 then [false, true] else [r.write]
/-- Whether a request comes through a Scribe slice. -/
def Req.scribe (r : Req) : Bool := decide (r.iface = .scribe)
/-- Eligible in every direction it is charged in (R334). -/
def State.reqEligible (s : State) (r : Req) : Bool :=
  r.directions.all (fun w => s.eligible r.feedCls (s.lineCharge r.part w) w r.scribe)
/-- Reserved: every direction's reservation bucket holds the charge (R334). -/
def State.reqReserved (s : State) (r : Req) : Bool :=
  r.directions.all (fun w => s.inReserve r.feedCls (s.lineCharge r.part w) w r.scribe)

/-- The change to a class's buckets that one charge makes (R334). -/
def State.chargeOne (s : State) (r : Req) (reserved : Bool) (w : Bool) : State :=
  let q := s.lineCharge r.part w * 10 ^ 11
  let noCeil := decide (s.ceilRate r.feedCls w = 0)
  s.modCls r.feedCls (fun x =>
    let b := x.buckets r.scribe
    let b1 := if noCeil then b else b.take w false q
    let b2 := if reserved then b1.take w true q else b1
    if r.scribe then { x with scribe := b2 } else { x with host := b2 })

/-! ### Tokens (R119, R120, R130, R337) -/

/-- The two candidate dies of a data line (R120). -/
def candidateDies (lla : Nat) : List Nat :=
  let i := lineIndexOf lla
  let d := 9 * stripeOfLine i + dataPosOf i
  [d % 16, (d + 1) % 16]
/-- Whether a request takes nib tokens: a read, a partial write, an atomic (R120, R336). -/
def Req.needsNib (r : Req) : Bool := !r.write || decide (r.atom ≠ 0) || decide (r.mask ≠ fullMask)
/-- Adds `k` to an entry of a list of counts. -/
def addAt (l : List Nat) (i k : Nat) : List Nat := modAt l i (· + k)
/-- Takes 1 from an entry of a list of counts. -/
def decAt (l : List Nat) (i : Nat) : List Nat := modAt l i (fun x => x - 1)
/-- Whether a source holds a free token of a direction at a tile (R337). -/
def TileRead.tokenFree (x : TileRead) (src : Nat) (write : Bool) : Bool :=
  if write then decide (x.wrUse.getD src 0 < x.wrAllot.getD src 0)
  else decide (x.rdUse.getD src 0 < x.rdAllot.getD src 0)
/-- Whether a source holds a free nib token of a die at a tile (R120, R337). -/
def TileRead.nibFree (x : TileRead) (src die : Nat) : Bool :=
  decide (x.nibUse.getD (die * 16 + src) 0 < x.nibAllot.getD (die * 16 + src) 0)
/-- Takes a token of a direction. -/
def TileRead.takeToken (x : TileRead) (src : Nat) (write : Bool) : TileRead :=
  if write then { x with wrUse := addAt x.wrUse src 1 }
  else
    let u := addAt x.rdUse src 1
    { x with rdUse := u, freeMin := min x.freeMin (256 - sumList u) }
/-- Returns a token of a direction. -/
def TileRead.giveToken (x : TileRead) (src : Nat) (write : Bool) : TileRead :=
  if write then { x with wrUse := decAt x.wrUse src } else { x with rdUse := decAt x.rdUse src }
/-- Takes a nib token. -/
def TileRead.takeNib (x : TileRead) (src die : Nat) : TileRead := { x with nibUse := addAt x.nibUse (die * 16 + src) 1 }
/-- Returns a nib token. -/
def TileRead.giveNib (x : TileRead) (src die : Nat) : TileRead := { x with nibUse := decAt x.nibUse (die * 16 + src) }
/-- Whether the request's tokens are free at a tile: one token, and a nib token of each candidate die (R336). An atomic
takes a write token. -/
def State.tokensFree (s : State) (t : Nat) (r : Req) : Bool :=
  let x := (s.tile t).rd
  x.tokenFree r.src r.write && (!r.needsNib || (candidateDies r.lla).all (fun d => x.nibFree r.src d))
/-- Takes a request's tokens at a tile. -/
def State.takeTokens (s : State) (t : Nat) (r : Req) : State :=
  s.modRd t (fun x =>
    let y := x.takeToken r.src r.write
    if r.needsNib then (candidateDies r.lla).foldl (fun y d => y.takeNib r.src d) y else y)
/-- Returns both nib tokens of a request that needs no medium read (R120). -/
def State.giveNibs (s : State) (t : Nat) (r : Req) : State :=
  if r.needsNib then s.modRd t (fun x => (candidateDies r.lla).foldl (fun y d => y.giveNib r.src d) x) else s
/-- Returns the token of the candidate die that does not hold the line (R120). -/
def State.giveOtherNib (s : State) (t : Nat) (r : Req) (die : Nat) : State :=
  if r.needsNib then
    s.modRd t (fun x => ((candidateDies r.lla).filter (fun d => decide (d ≠ die))).foldl (fun y d => y.giveNib r.src d) x)
  else s

/-! ### Admission -/

/-- Whether a request was decoded before another one of its observer to the same line (R160). -/
def Req.sameLine (a b : Req) : Bool := decide (a.cls = b.cls ∧ a.dpa = b.dpa ∧ a.iface = b.iface ∧ a.queue = b.queue)
/-- Whether an excess write to the tile is stopped: the dirty count is not below 75 percent of the limit (R336). -/
def State.softClosed (s : State) (t : Nat) : Bool :=
  let r := (s.tile t).res
  decide (3 * r.limit ≤ 4 * r.dirty)
/-- Whether requests for the lines that tile `t` owns are held for a fence (R254 step 2). -/
def State.fencingHold (s : State) (t : Nat) : Bool := decide ((s.tile t).fence.st = .fencing)

/-- Whether a request may be admitted at serving tile `t`, but for what its place behind others asks (R336). -/
def State.admissible (s : State) (t : Nat) (r : Req) : Bool :=
  s.reqEligible r && s.tokensFree t r
    && (!r.write || decide (s.gate t = 0))
    && (!r.write || s.reqReserved r || !s.softClosed t)
    && (decide (r.iface ≠ .cxl) || decide ((s.port r.port).ingress.length < 2048))
    && !s.keyHeld r.kx && !s.fencingHold r.tile && s.dev.memActive && decide (s.dev.st ≠ .drain)

/-- Urgency level of a class (R335, R341). -/
def State.urgency (s : State) (c : Nat) : Nat :=
  if s.clsCell Ob.CLASS_PRIORITY c 0 = 1 then 3
  else if s.clsCell Ob.CLASS_URGENCY c 0 = 1 then (s.port (c / 8)).urg else 0

/-- Held time bin (R343). -/
def heldBin (ns : Nat) : Nat :=
  if ns = 0 then 0 else if ns < 8 then 1 else if ns < 16 then 2 else if ns < 32 then 3 else if ns < 64 then 4
  else if ns < 128 then 5 else if ns < 256 then 6 else if ns < 512 then 7 else if ns < 1024 then 8
  else if ns < 2048 then 9 else if ns < 4096 then 10 else if ns < 8192 then 11 else if ns < 16384 then 12
  else if ns < 65536 then 13 else if ns < 262144 then 14 else 15

/-- Statistics of an admitted request (R343). -/
def FeedClass.note (x : FeedClass) (r : Req) (held : Nat) : FeedClass :=
  let rd := if r.atom ≠ 0 ∨ !r.write then 64 else 0
  let wr := if r.write then 64 else 0
  { x with bytesRd := (x.bytesRd + rd) % 2 ^ 64, bytesWr := (x.bytesWr + wr) % 2 ^ 64,
           hist := modAt x.hist (heldBin held) (fun c => satAdd 0xFFFFFFFF c 1),
           max := Nat.max x.max (min held 0xFFFFFFFF), seq := (x.seq + 2) % 2 ^ 32 }

/-- Tile whose timebase and slice a request's port or engine uses. -/
def Req.home (r : Req) : Nat := r.port
/-- Hops from a request's port or engine to a tile. -/
def State.reqHops (s : State) (r : Req) (d : Nat) : Nat :=
  match r.iface with
  | .cxl => s.portHops r.port d
  | _ => s.hops r.port d
/-- The tile by which a request enters the ring (R20). -/
def State.reqEntry (s : State) (r : Req) (d : Nat) : Nat :=
  match r.iface with
  | .cxl => s.entryTile r.port d
  | _ => r.port

/-- Admission: buckets, tokens, statistics, ingress buffer, ring (R334, R336, R343, R267, R20). The request leaves with
its admission time. The lookup follows. -/
def State.admitFeed (s : State) (t : Nat) (r : Req) : State × Req :=
  let reserved := s.reqReserved r
  let r1 := { r with admittedAt := s.now r.home }
  let held := s.now r.home - r.decodedAt
  let s1 := s.each r.directions (fun s' w => s'.chargeOne r reserved w)
  let s2 := (s1.modCls r.feedCls (fun x => x.note r held)).takeTokens t r
  let s3 := if r.iface = .cxl then s2.modPort r.port (fun p => { p with ingress := p.ingress ++ [r1] }) else s2
  let s4 := (s3.tcount r.home (if r.write then Cn.FEED_ADMITTED_WR else Cn.FEED_ADMITTED_RD) 1)
  let s5 := if reserved then s4 else s4.tcount r.home Cn.FEED_EXCESS_ADMITTED 1
  let a := s5.reqEntry r t
  let s6 := if a = t then s5 else (s5.ringSend a t ringReq).ringSend t a ringRsp
  let s7 := if a ≠ t ∧ !r.write then s6.tcount a Cn.READS_FORWARDED 1 else s6
  let own := decide (r.iface = .cxl) && !((s7.portTiles r.port).contains t)
  (if own && !r.write then s7.tcount t Cn.READS_FOR_OTHER_PORTS 1 else s7, r1)

/-! ### Holding (R339, R340) -/

/-- Held requests of a class at a port. -/
def Port.heldOf (p : Port) (c : Nat) : List Req := p.held.filter (fun r => decide (r.cls = c))
/-- Some class's holding buffer of the port holds 64 entries, or its ingress buffer is full (R340). -/
def Port.full (p : Port) : Option Nat :=
  match p.held.find? (fun r => decide (64 ≤ (p.heldOf r.cls).length)) with
  | some r => some r.cls
  | none => if 2048 ≤ p.ingress.length then some (match p.held with | r :: _ => r.cls | [] => 0xFF) else none
/-- Whether the port may return credits again (R340). -/
def Port.drained (p : Port) : Bool :=
  p.held.all (fun r => decide ((p.heldOf r.cls).length ≤ 56)) && decide (p.ingress.length + 64 ≤ 2048)
/-- Starts or ends the withholding of credits of a port (R340). -/
def State.noteCredits (s : State) (p : Nat) : State :=
  let q := s.port p
  if q.withheld then
    if q.drained then s.modPort p (fun x => { x with withheld := false }) else s
  else match q.full with
    | none => s
    | some c => (s.modPort p (fun x => { x with withheld := true })).tev p Ev.CREDIT_WITHHELD c p [(1, c)]
/-- The requests that wait for admission where a request would wait: its port's holding buffers, or the engine (R338, R339). -/
def State.waitingWith (s : State) (r : Req) : List Req :=
  if r.iface = .cxl then (s.port r.port).held else (s.tile r.port).rd.waiting
/-- Puts a decoded request into the holding buffer of its class; other accesses wait in their tile (R338, R339, R160). -/
def State.hold (s : State) (r : Req) : State :=
  let s1 := if (s.waitingWith r).any (fun h => h.sameLine r) then s.tcount r.port Cn.SAME_LINE_HOLDS 1 else s
  if r.iface = .cxl then (s1.modPort r.port (fun p => { p with held := p.held ++ [r] })).noteCredits r.port
  else s1.modRd r.port (fun x => { x with waiting := x.waiting ++ [r] })

/-! ### DevLoad (R344) -/

/-- DevLoad of a response. -/
def State.devLoad (s : State) (r : Req) : Nat :=
  let held := r.admittedAt - r.decodedAt
  let p := s.port r.port
  let depth := (p.heldOf r.cls).length
  if p.withheld ∨ s.cell Ob.DEVLOAD_T2_NS 512 ≤ held then 3
  else if s.cell Ob.DEVLOAD_T1_NS 64 ≤ held ∨ 32 ≤ depth then 2
  else if 0 < held ∨ 0 < depth then 1 else 0

/-- Hands a CXL.mem response to the port's encoder; with the link down it is discarded (R362, R364, R344). -/
def State.respondMem (s : State) (r : Req) (isData : Bool) (d : Line) (poison : Bool) : State :=
  if (s.port r.port).up then
    let dl := s.devLoad r
    let s0 := { s with out := s.out ++ [Response.mem r.port r.ld r.tag isData d poison dl] }
    let s1 := if isData && poison then s0.tcount r.port Cn.POISON_RESPONSES 1 else s0
    s1.modCls r.cls (fun x => { x with devload := modAt x.devload dl (fun c => (c + 1) % 2 ^ 32) })
  else s

/-- Takes a request out of its port's ingress buffer (R267). -/
def State.leaveIngress (s : State) (r : Req) : State :=
  if r.iface = .cxl then
    (s.modPort r.port (fun p => { p with ingress := p.ingress.filter (fun q => decide (q.order ≠ r.order)) })).noteCredits
      r.port
  else s

end Sys2Proof.Machine
end

