-- ==== Sys2Proof/Machine/Nib.lean ====
section
/-! DEFINITION. Banks and nibs: slot holds (R107), stroke readiness (R140), the path choice (R110), captures (R113, R114),
the entry stage and the internal queue (R112). -/
namespace Sys2Proof.Machine
open Sys2Proof

/-! ### Banks -/

/-- The stroke running in a bank. -/
def Tile.strokeOn (x : Tile) (b : Nat) : Option Stroke := x.res.strokes.find? (fun k => k.running && decide (bankOf k.slot = b))
/-- Whether a bank is in the middle of a stroke. -/
def Tile.stroking (x : Tile) (b : Nat) : Bool := (x.strokeOn b).isSome
/-- Senses of a bank in a place. -/
def Tile.sensesAt (x : Tile) (b : Nat) (p : SensePos) : List Sense :=
  x.rd.senses.filter (fun q => decide (q.at_ = p ∧ bankOf q.slot = b))
/-- Whether a bank senses a line. -/
def Tile.reading (x : Tile) (b : Nat) : Bool := !(x.sensesAt b .service).isEmpty
/-- Whether the direct position of a bank is free. -/
def Tile.directFree (x : Tile) (b : Nat) : Bool := (x.sensesAt b .direct).isEmpty && (x.sensesAt b .lifted).isEmpty
/-- Whether the member position of a bank is free. -/
def Tile.memberFree (x : Tile) (b : Nat) : Bool := (x.sensesAt b .member).isEmpty
/-- Whether a slot holds any hold (R107). -/
def Tile.slotHeld (x : Tile) (slot : Nat) : Bool := x.rd.holds.any (fun h => decide (h.slot = slot))

/-- Strokes running in a tile (R347). -/
def TileRes.inFlight (r : TileRes) : Nat := (r.strokes.filter (fun k => k.running)).length
/-- Tiles that count in N_active: ACTIVE and REJOINING ones (R346, R270). -/
def State.nActive (s : State) : Nat :=
  (s.tileNumbers.filter (fun t => decide ((s.tile t).fence.st = .active ∨ (s.tile t).fence.st = .rejoining))).length
/-- Tiles with an isolation flush running (R262). -/
def State.flushers (s : State) : Nat := (s.tileNumbers.filter (fun t => decide ((s.tile t).fence.isoFlush = 1))).length
/-- The in-flight limit of a tile (R347); an isolation flush counts as 512 strokes in flight (R348). -/
def State.strokeLimit (s : State) : Nat :=
  min 512 ((s.cell Ob.PEAK_STROKES (512 * s.n) - 512 * s.flushers) / max 1 s.nActive)
/-- Whether tile `t` holds a stroke credit that a stroke of a priority may use; flush strokes need none (R345, R346,
R348). -/
def State.hasCredit (s : State) (t : Nat) (k : Stroke) : Bool :=
  k.flush || decide (0 < s.feed.left.getD t 0) || (decide (k.priority ≤ 3) && decide (0 < s.feed.reserveLeft.getD t 0))

/-- Whether a queued stroke is the oldest of its parity slot: strokes on one parity slot run in version order (R140). -/
def TileRes.firstOfSlot (r : TileRes) (k : Stroke) : Bool :=
  !k.parity || !(r.strokes.any (fun q => q.parity && decide (q.slot = k.slot ∧ q.id ≠ k.id) &&
    (q.running || decide (q.ver < k.ver))))
/-- A stroke ready to start on its bank, but for reads ahead of it: credit, no stroke running, no hold (R140). -/
def State.strokeReady (s : State) (t : Nat) (k : Stroke) : Bool :=
  let x := s.tile t
  !k.running && s.hasCredit t k && !x.stroking (bankOf k.slot) && !x.slotHeld k.slot && x.res.firstOfSlot k
/-- Whether some stroke is ready on a bank. -/
def State.bankReady (s : State) (t b : Nat) : Bool :=
  (s.tile t).res.strokes.any (fun k => decide (bankOf k.slot = b) && s.strokeReady t k)

/-! ### Stripe members as a capture sees them -/

/-- A stripe member for a capture: member position, in-flight image, slot before and after substitution (R113, R114). -/
structure Member where
  pos : Nat
  image : Option Line
  raw : Nat
  slot : Nat
  deriving DecidableEq, Repr

/-- The members of stripe `st` of a logical segment in a copy. -/
def Tile.stripeMembers (x : Tile) (lseg st : Nat) (c : Copy) : List Member :=
  let S := c.stripe st
  (List.range 9).map (fun j =>
    { pos := j,
      image := (match memberLla lseg st S j with
        | none => x.res.inflight true S
        | some l => x.res.inflight false l).map Buf.image,
      raw := c.slot st j, slot := x.finalSlot (c.slot st j) })
/-- The members other than position `pos`. -/
def Tile.otherMembers (x : Tile) (lseg st pos : Nat) (c : Copy) : List Member :=
  (x.stripeMembers lseg st c).filter (fun m => decide (m.pos ≠ pos))

/-! ### Reads -/

/-- A request with nothing in it, for reads of the tile's own work. -/
def Req.none : Req :=
  { iface := .maint, port := 0, ld := 0, tag := 0, cls := 0, src := 0, kx := 0, dpa := 0, part := 0, tile := 0, lla := 0,
    write := false, mask := 0, data := 0, poison := false, zero := false, feedCls := 0, atom := 0, cmp := 0,
    decodedAt := 0, admittedAt := 0, keyWait := false, order := 0, queue := 0, desc := 0, step := 0 }

/-- A read as it is made: of member position `pos` of the stripe of line `lla`. -/
def Rd.make (why : RdFor) (req : Req) (kind : EKind) (part lla stripe pos slot link hops : Nat) : Rd :=
  { id := 0, why := why, req := req, kind := kind, part := part, lla := lla, stripe := stripe, pos := pos, slot := slot,
    path := 0, around := false, spec := false, specSlots := [], answered := false, phase := .sensing, left := [], acc := 0, kept := [],
    erased := [], lost := false, tries := 0, link := link, nib := none, hops := hops }

/-- A read under way by its number. -/
def TileRead.byId (x : TileRead) (id : Nat) : Option Rd := x.rds.find? (fun r => decide (r.id = id))
/-- Changes the read of a number. -/
def TileRead.setRd (x : TileRead) (id : Nat) (f : Rd → Rd) : TileRead :=
  { x with rds := x.rds.map (fun r => if r.id = id then f r else r) }
/-- Removes a read with its holds and senses. -/
def TileRead.dropRd (x : TileRead) (id : Nat) : TileRead :=
  { x with rds := x.rds.filter (fun r => decide (r.id ≠ id)),
           holds := x.holds.filter (fun h => decide (h.rd ≠ id)),
           senses := x.senses.filter (fun q => decide (q.rd ≠ id)) }
/-- Places a hold (R107). -/
def TileRead.hold (x : TileRead) (slot id : Nat) : TileRead := { x with holds := x.holds ++ [{ slot := slot, rd := id }] }
/-- Ends a read's hold on a slot. -/
def TileRead.unhold (x : TileRead) (slot id : Nat) : TileRead :=
  { x with holds := x.holds.filter (fun h => decide (h.slot ≠ slot ∨ h.rd ≠ id)) }
/-- Issues the sense of a codeword. -/
def TileRead.sense (x : TileRead) (id pos slot : Nat) (p : SensePos) (asMember : Bool) : TileRead :=
  { x with order := x.order + 1,
           senses := x.senses ++ [{ rd := id, pos := pos, slot := slot, at_ := p, asMember := asMember, order := x.order }] }

/-- Rows of the path-choice table that a read may take (R110); row 0 stands for the internal queue's rows only. [DESIGN CHOICE, assumption 11] -/
def State.chooseRow (s : State) (t : Nat) (slot pred : Nat) (ms : List Member) (internal : Bool) : Nat :=
  let x := s.tile t
  let b := bankOf slot
  let around := decide (s.cell Ob.READ_AROUND_ENABLE 1 = 1) && !internal
  let banks := ms.filter (fun m => m.image.isNone)
  let usable := banks.all (fun m => x.memberFree (bankOf m.slot) && !x.slotFailed m.slot)
  let ready := around && usable && banks.all (fun m => !x.stroking (bankOf m.slot))
  let window := s.cell Ob.SPEC_WINDOW 16
  let behind := s.bankReady t b
  if !x.stroking b && !x.reading b && x.directFree b then 1
  else if !x.stroking b && x.directFree b && !behind then 2
  else if x.stroking b && around && decide (pred ≤ window ∧ window ≠ 0) && x.directFree b then 3
  else if (x.stroking b || behind) && ready then 4
  else if (x.stroking b || behind) && x.directFree b && !internal then 5
  else if around && usable then 6 else 7

/-- The capture of R114: images copied, holds on the other member slots, member reads issued. -/
def State.capture (s : State) (t id : Nat) (ms : List Member) : State :=
  let images := ms.filterMap (fun m => m.image)
  let reads := ms.filter (fun m => m.image.isNone)
  let s1 := s.modRd t (fun x => x.setRd id (fun r =>
    { r with around := true, acc := xorLines images, left := reads.map (fun m => m.pos),
             phase := if reads.isEmpty then .gathered else r.phase }))
  s1.each reads (fun s' m =>
    let y := s'.tile t
    let b := bankOf m.slot
    let p : SensePos := if !y.stroking b && !y.reading b then .service else .member
    (s'.countRedirect t m.raw).modRd t (fun x => (x.hold m.slot id).sense id m.pos m.slot p true))

/-- Returns the nib token that a read still holds (R120). -/
def State.endNib (s : State) (t id : Nat) : State :=
  match (s.tile t).rd.byId id with
  | none => s
  | some r =>
    match r.nib with
    | none => s
    | some d => s.modRd t (fun x => (x.giveNib r.req.src d).setRd id (fun r => { r with nib := none }))

/-- Carries out row `row` of the path-choice table for a read (R110, R111). -/
def State.takeRow (s : State) (t id row : Nat) (ms : List Member) : State :=
  match (s.tile t).rd.byId id with
  | none => s
  | some r =>
    let path (s : State) (c : Nat) : State := s.modRd t (fun x => x.setRd id (fun r => { r with path := c }))
    let direct (s : State) (p : SensePos) : State := s.modRd t (fun x => x.sense id r.pos r.slot p false)
    let x := s.tile t
    let clear := ms.all (fun m => m.image.isSome ||
      (x.memberFree (bankOf m.slot) && !x.stroking (bankOf m.slot) && !x.slotFailed m.slot))
    match row with
    | 1 => (direct (path s 3) .service).endNib t id
    | 2 => (direct (path s 4) .direct).endNib t id
    | 3 =>
      let s1 := direct (path s 3) .direct
      let s2 := if clear then
          ((s1.capture t id ms).modRd t (fun x => x.setRd id (fun r => { r with spec := true }))).tcount t
            Cn.SPEC_LAUNCHED 1
        else s1
      s2.endNib t id
    | 4 => ((path s 6).capture t id ms).endNib t id
    | 5 => (direct (path s 5) .lifted).endNib t id
    | 6 => ((path s 7).capture t id ms).endNib t id
    | _ => s

/-- The members a read's path may use, as they stand now. -/
def State.membersOf (s : State) (t : Nat) (r : Rd) : List Member :=
  let x := s.tile t
  let st := stripeOfLine (lineIndexOf r.lla)
  match x.map.copyFor (lsegOf r.lla) st with
  | none => []
  | some c => x.otherMembers (lsegOf r.lla) st r.pos c

/-- Whether a read is one of the tile's own, which waits in the internal queue (R112). -/
def Rd.internal (r : Rd) : Bool := decide (r.why = .oldData ∨ r.why = .oldParity)

/-- Starts a medium read at tile `t` (R107, R110, R112, R92): the hold, the path, or the wait. A line on a failed bank or
die goes straight to its rebuild. The read comes with its slot before substitution. The second result is its number. -/
def State.startRead (s : State) (t : Nat) (r0 : Rd) (pred : Nat) : State × Nat :=
  let id := (s.tile t).rd.nextId
  let r := { r0 with id := id, slot := (s.tile t).finalSlot r0.slot }
  let s1 := s.modRd t (fun x => ({ x with nextId := id + 1, rds := x.rds ++ [r] }).hold r.slot id)
  let x := s1.tile t
  if x.slotFailed r.slot then
    (((s1.modRd t (fun x => x.setRd id (fun r => { r with phase := .erased, path := 0 }))).endNib t id).tcount t
      Cn.FAILED_BANK_REBUILDS 1, id)
  else
    let s2 := s1.countRedirect t r0.slot
    let ms := s2.membersOf t r
    let row := s2.chooseRow t r.slot pred ms r.internal
    if row = 7 then
      let p : SensePos := if r.why = .host ∨ r.why = .fetch then .entry else .internal
      let s3 := s2.modRd t (fun x => x.sense id r.pos r.slot p false)
      let s4 := if r.why = .host then s3.tcount t Cn.READS_ENTRY_WAIT 1 else s3
      let d := slotDie r.slot
      let full := ((s4.tile t).rd.senses.filter (fun q => decide (q.at_ = .entry ∧ slotDie q.slot = d))).length
      (if p = .entry ∧ full = 16 then s4.tev t Ev.ENTRY_STAGE_FULL 0xFF d [] else s4, id)
    else (s2.takeRow t id row ms, id)

/-- When a bank has neither a stroke running nor a read in service, the next waiting read goes into service: the member
position's, then the direct position's, and one that stands behind a ready stroke only if none is ready (R108, R140). -/
def State.promote (s : State) (t b : Nat) : State :=
  let x := s.tile t
  if x.reading b then s
  else
    let next := match x.sensesAt b .member with
      | q :: _ => some q
      | [] =>
        match x.sensesAt b .direct with
        | q :: _ => some q
        | [] => if s.bankReady t b then none else (x.sensesAt b .lifted).head?
    match next with
    | none => s
    | some q => s.modRd t (fun y => { y with senses := y.senses.map (fun z => if z = q then { z with at_ := .service } else z) })

/-- Promotion when no stroke runs in the bank. -/
def State.promoteIdle (s : State) (t b : Nat) : State := if (s.tile t).stroking b then s else s.promote t b

/-- At the end of a stroke, the reads that reached its bank during it come before the bank's next stroke (R108, R140). -/
def State.strokeLeaves (s : State) (t b : Nat) : State :=
  (s.modRd t (fun y => { y with senses := y.senses.map (fun z =>
    if z.at_ = .lifted ∧ bankOf z.slot = b then { z with at_ := .direct } else z) })).promote t b

/-- A waiting read takes the first row possible for it now, if any (R112). -/
def State.tryWaiting (s : State) (t pred : Nat) (q : Sense) : Option State :=
  match (s.tile t).rd.byId q.rd with
  | none => none
  | some r =>
    let ms := s.membersOf t r
    let row := s.chooseRow t q.slot pred ms r.internal
    if row = 7 then none
    else
      some ((s.modRd t (fun x => { x with senses := x.senses.filter (fun z => decide (z ≠ q)) })).takeRow t q.rd row ms)

/-- The waiting reads in the order a freed position goes to: the entry stage by age, then the internal queue, metadata
reads of sealed accesses first (R112). -/
def Tile.waitingReads (x : Tile) : List Sense :=
  let isMeta (q : Sense) : Bool := match x.rd.byId q.rd with
    | some r => decide (r.why = .metaLine)
    | none => false
  let internal := x.rd.senses.filter (fun q => decide (q.at_ = .internal))
  x.rd.senses.filter (fun q => decide (q.at_ = .entry)) ++ internal.filter isMeta ++ internal.filter (fun q => !isMeta q)

/-- Gives a freed position to the first waiting read that can use it. -/
def State.freedPosition (s : State) (t pred : Nat) : List Sense → State
  | [] => s
  | q :: rest => match s.tryWaiting t pred q with
    | some s1 => s1
    | none => s.freedPosition t pred rest

end Sys2Proof.Machine
end

