-- ==== Sys2Proof/Machine/Seal.lean ====
section
/-! DEFINITION. Sealed partitions (10): keys, metadata layout (R293), counters and MACs (R295, R296), verification (R300),
resident metadata, roots (R304). -/
namespace Sys2Proof.Machine
open Sys2Proof

/-! ### Keys -/

/-- The MAC key Km of a sealed partition (R292). -/
def State.macKey (s : State) (part : Nat) : Key256 :=
  let k := s.key (s.partn part).sealKx
  Config.sealKdf k.k1 k.k2 0 part
/-- The pad key Kp (R292). -/
def State.padKey (s : State) (part : Nat) : Key256 :=
  let k := s.key (s.partn part).sealKx
  Config.sealKdf k.k1 k.k2 1 part

/-! ### Metadata layout (R293) -/

/-- A level of counter lines: first line M, lines L, copies. -/
structure Level where
  first : Nat
  lines : Nat
  copies : Nat
  deriving DecidableEq, Repr

/-- Levels from `k` up, until one has at most 64 lines. -/
def levelsFrom : Nat → Nat → Level → List Level
  | 0, _, l => [l]
  | fuel + 1, k, l =>
    if l.lines ≤ 64 then [l]
    else
      let next : Level :=
        { first := ceilDiv (l.first + l.copies * l.lines) 64 * 64, lines := ceilDiv l.lines 64,
          copies := if k + 1 ≥ 2 then 2 else 1 }
      l :: levelsFrom fuel (k + 1) next

/-- The levels of a share of `d` data segments, level 0 first. -/
def levels (d : Nat) : List Level := levelsFrom 8 0 { first := 2048 * d, lines := 256 * d, copies := 1 }
/-- The top stored level. -/
def topLevel (d : Nat) : Nat := (levels d).length - 1

/-- A metadata line: the MAC line of an index, or a counter line of a level, index and copy. -/
inductive MetaLine where
  | mac (i : Nat)
  | counter (level index copy : Nat)
  deriving DecidableEq, Repr

/-- Number μ of a metadata line (R293). -/
def MetaLine.number (d : Nat) : MetaLine → Nat
  | .mac i => i
  | .counter l x c =>
    let v := (levels d).getD l { first := 0, lines := 0, copies := 1 }
    v.first + v.copies * x + c
/-- The metadata line of a number (R293); numbers between two levels belong to none. -/
def metaOf (d m : Nat) : Option MetaLine :=
  if m < 2048 * d then some (.mac m)
  else
    match ((levels d).zip (List.range 9)).find? (fun v =>
        decide (v.1.first ≤ m ∧ m < v.1.first + v.1.copies * v.1.lines)) with
    | none => none
    | some (v, l) => some (.counter l ((m - v.first) / v.copies) ((m - v.first) % v.copies))

/-- LLA of metadata line number μ of a share (R293). -/
def PartInfo.metaLla (p : PartInfo) (t m : Nat) : Nat :=
  (p.segBase.getD t 0 + p.data + m / segLines) * segLines + m % segLines
/-- LLA of a metadata line. -/
def PartInfo.lineLla (p : PartInfo) (t : Nat) (x : MetaLine) : Nat := p.metaLla t (x.number p.data)
/-- Number n of a data line in a tile's share (R293). -/
def PartInfo.dataNumber (p : PartInfo) (t lla : Nat) : Nat := (lsegOf lla - p.segBase.getD t 0) * segLines + lineIndexOf lla
/-- LLA of data line number n. -/
def PartInfo.dataLla (p : PartInfo) (t n : Nat) : Nat := (p.segBase.getD t 0 + n / segLines) * segLines + n % segLines
/-- The metadata line at an LLA. -/
def PartInfo.metaAt (p : PartInfo) (t lla : Nat) : Option MetaLine :=
  metaOf p.data ((lsegOf lla - p.segBase.getD t 0 - p.data) * segLines + lineIndexOf lla)

/-- The parent of a counter line: level, index; `none` for the root (R295, R296). -/
def parentOf (d level index : Nat) : Option (Nat × Nat) := if level < topLevel d then some (level + 1, index / 64) else none
/-- Minor index of a line in its parent. -/
def minorOf (index : Nat) : Nat := index % 64

/-! ### Counter lines (R295, R296) -/

/-- MAJOR of a counter line. -/
def lineMajor (d : Line) : Nat := bitsOf d.toNat 448 64
/-- MINOR j of a counter line. -/
def lineMinor (d : Line) (j : Nat) : Nat := bitsOf d.toNat (64 + 6 * j) 6
/-- MAC of a counter line. -/
def lineMac (d : Line) : Nat := bitsOf d.toNat 0 56
/-- A number with bits `[lo + width - 1 : lo]` replaced. -/
def setBits (v lo width x : Nat) : Nat := v - bitsOf v lo width * 2 ^ lo + x % 2 ^ width * 2 ^ lo
/-- A counter line with MINOR j set. -/
def setMinor (d : Line) (j v : Nat) : Line := BitVec.ofNat 512 (setBits d.toNat (64 + 6 * j) 6 v)
/-- A counter line with MAJOR set. -/
def setMajor (d : Line) (v : Nat) : Line := BitVec.ofNat 512 (setBits d.toNat 448 64 v)
/-- A counter line with its MAC set. -/
def setMac (d : Line) (v : Nat) : Line := BitVec.ofNat 512 (setBits d.toNat 0 56 v)
/-- A counter line as its MAC covers it: bits [55:0] zero (R295). -/
def maskMac (d : Line) : Line := setMac d 0
/-- MAC s of a MAC line. -/
def macSlot (d : Line) (i : Nat) : Nat := bitsOf d.toNat (56 * i) 56
/-- A MAC line with MAC s set. -/
def setMacSlot (d : Line) (i v : Nat) : Line := BitVec.ofNat 512 (setBits d.toNat (56 * i) 56 v)

/-- The MAC of a stored data line under a counter (R295). -/
def State.dataMac (s : State) (part t lla major minor : Nat) (d : Line) : Nat :=
  macOf (s.macKey part) (nonce false part t lla major minor 0) d
/-- The MAC of a counter line under its counter (R295). -/
def State.counterMac (s : State) (part t lla major minor : Nat) (d : Line) : Nat :=
  macOf (s.macKey part) (nonce true part t lla major minor 0) (maskMac d)
/-- The pad of a data line under a counter (R292). -/
def State.pad (s : State) (part t lla major minor : Nat) : Line :=
  padLine (s.padKey part) (nonce false part t lla major minor 0)

/-! ### Resident metadata and roots -/

/-- The tile whose reservoir holds the working entries of tile `t`'s lines: its stand-in while one serves them (R257). -/
def State.homeOf (s : State) (t : Nat) : Nat :=
  let f := (s.tile t).fence
  match f.st with
  | .active | .fencing => t
  | _ => if f.standin < s.n then f.standin else t

/-- DATA of a metadata line resident as META, which is verified (R300). -/
def State.metaData (s : State) (t part : Nat) (x : MetaLine) : Option Line :=
  ((s.tile (s.homeOf t)).res.find ((s.partn part).lineLla t x) t).map Entry.data
/-- Either copy of a counter line that is resident. -/
def State.counterData (s : State) (t part level index : Nat) : Option Line :=
  match s.metaData t part (.counter level index 0) with
  | some d => some d
  | none => if level ≥ 2 then s.metaData t part (.counter level index 1) else none
/-- Root of a tile's share (R296, R304). -/
def State.root (s : State) (t part : Nat) : Line :=
  match (s.tile t).sealing.find? (fun x => decide (x.part = part)) with
  | some x => BitVec.ofNat 512 x.root
  | none => 0
/-- Changes the seal state of a tile's share. -/
def State.modSeal (s : State) (t part : Nat) (f : Sealed → Sealed) : State :=
  s.modTile t (fun x => { x with sealing := x.sealing.map (fun y => if y.part = part then f y else y) })

/-- The (major, minor) pair that a resident parent holds for a line (R295). -/
def counterIn (parent : Line) (index : Nat) : Nat × Nat := (lineMajor parent, lineMinor parent (minorOf index))
/-- The counter of a data line, when its leaf is resident. -/
def State.dataCounter (s : State) (t part lla : Nat) : Option (Nat × Nat) :=
  let n := (s.partn part).dataNumber t lla
  (s.counterData t part 0 (n / 64)).map (fun d => counterIn d n)
/-- The counter of a counter line, when its parent is resident or is the root. -/
def State.lineCounter (s : State) (t part level index : Nat) : Option (Nat × Nat) :=
  match parentOf (s.partn part).data level index with
  | none => some (counterIn (s.root t part) index)
  | some (l, x) => (s.counterData t part l x).map (fun d => counterIn d index)

/-- What verification finds (R300). -/
inductive Verdict where
  | valid | failure
  deriving DecidableEq, Repr

/-- Verification of a stored data line (R300): its counter, its MAC from the MAC line, the DATA as decoded. -/
def State.verifyData (s : State) (t part lla : Nat) (ctr : Nat × Nat) (mac : Nat) (d : Line) : Verdict :=
  if ctr.2 = 0 then (if d = 0 then .valid else .failure)
  else if d = 0 then .failure
  else if mac = s.dataMac part t lla ctr.1 ctr.2 d then .valid else .failure
/-- Verification of a counter line (R300). -/
def State.verifyCounter (s : State) (t part lla : Nat) (ctr : Nat × Nat) (d : Line) : Verdict :=
  if ctr.2 = 0 then (if d = 0 then .valid else .failure)
  else if d = 0 then .failure
  else if lineMac d = s.counterMac part t lla ctr.1 ctr.2 d then .valid else .failure

/-- The MAC line, leaf and upper counter lines of a data line, copy 0, lowest first (R118, R293). -/
def PartInfo.chain (p : PartInfo) (t lla : Nat) : List MetaLine :=
  let n := p.dataNumber t lla
  .mac (n / 8) :: (List.range (levels p.data).length).map (fun l => MetaLine.counter l (n / 64 ^ (l + 1)) 0)
/-- The counter lines above a counter line. -/
def PartInfo.chainAbove (p : PartInfo) (level index : Nat) : List MetaLine :=
  ((List.range (levels p.data).length).filter (fun l => decide (level < l))).map
    (fun l => MetaLine.counter l (index / 64 ^ (l - level)) 0)
/-- Those of a list of metadata lines that are not resident. -/
def State.metaMissing (s : State) (t part : Nat) (xs : List MetaLine) : List MetaLine :=
  xs.filter (fun x => match x with
    | .mac i => (s.metaData t part (.mac i)).isNone
    | .counter l i _ => (s.counterData t part l i).isNone)

/-- Plaintext of a stored DATA under a key index: the blank form reads as zeros (R196), the pad of a sealed line comes
off first (R292). -/
def State.openLine (s : State) (t part lla kx dpa : Nat) (d : Line) : Line :=
  if d = 0 then 0
  else
    let p := s.partn part
    let c := if p.isSealed then
        match s.dataCounter t part lla with
        | some (a, b) => d ^^^ s.pad part t lla a b
        | none => d
      else d
    s.decrypt part kx dpa c

/-- What a read under key index `kx` of an entry returns (R290, R291, R302); the blank form reads as zeros under every key
index (R196). -/
def State.entryPlain (s : State) (t : Nat) (e : Entry) (kx : Nat) : Line :=
  match e.storedOnly with
  | some d => if e.kind = .data then s.openLine t e.part e.addr kx e.dpa d else d
  | none => if e.kind = .data then s.rekey e.part e.dpa e.kx kx e.blank e.data else e.data

end Sys2Proof.Machine
end

