-- ==== Sys2Proof/Machine/Strokes.lean ====
section
/-! DEFINITION. What evictions, repairs and losses share: stroke versions (R113), images and strokes of a stripe update
(R139, R140, R82, R201), completion of evictions, repair (R88), loss (R86). -/
namespace Sys2Proof.Machine
open Sys2Proof

/-! ### What the medium holds -/

/-- The decode of the codeword of member position `pos` of a stripe of a copy, with bit errors `err` on the way
(R75). -/
def Tile.decodeMember (x : Tile) (lseg st pos : Nat) (c : Copy) (err : Codeword) : Decoded :=
  let S := c.stripe st
  let key := memberKey lseg st S pos
  decodeLine key (x.codeword (x.finalSlot (c.slot st pos)) key ^^^ err)

/-- The in-flight image of a member (R113). -/
def Tile.memberImage (x : Tile) (lseg st S pos : Nat) : Option Line :=
  match memberLla lseg st S pos with
  | none => (x.res.inflight true S).map Buf.image
  | some l => (x.res.inflight false l).map Buf.image

/-- Slot class of a transfer for a member of a stripe (R447, rows 1 to 3): a parity, sealing metadata or span-parity line is a companion, a
data line is of class `base`. [DEDUCED, assumption 40] -/
def State.lineClass (s : State) (part t lseg st S pos base : Nat) : Nat :=
  match memberLla lseg st S pos with
  | none => 2
  | some l => if s.lineKind part t l = .data then base else 2
/-- The transfer of a member that the tile reads within a step of its own, which takes 7 ticks (R447); an in-flight image and a slot of a
failed bank are not read. [DEDUCED, assumption 40] -/
def State.ownRead (s : State) (t part lseg st pos base : Nat) (c : Copy) : State :=
  let slot := (s.tile t).finalSlot (c.slot st pos)
  if ((s.tile t).memberImage lseg st (c.stripe st) pos).isSome || (s.tile t).slotFailed slot then s
  else s.transfer t (slotDie slot) (s.lineClass part t lseg st (c.stripe st) pos base) 7
/-- The transfers of all members of a stripe but those at the positions given. -/
def State.ownReads (s : State) (t part lseg st base : Nat) (c : Copy) (skip : List Nat) : State :=
  s.each ((List.range 9).filter (fun j => !skip.contains j)) (fun s' j => s'.ownRead t part lseg st j base c)
/-- The transfer of a stored line of a tile. -/
def State.lineRead (s : State) (t part lla base : Nat) : State :=
  let st := stripeOfLine (lineIndexOf lla)
  match (s.tile t).map.copyFor (lsegOf lla) st with
  | none => s
  | some c => s.ownRead t part (lsegOf lla) st (memberPos (c.stripe st) (dataPosOf (lineIndexOf lla))) base c
/-- The stroke version of a member: its in-flight image, else its DATA on the medium, a LOST member counting as zero;
`none` when it decodes ERASED or its slot has failed (R84, R92, R113). -/
def Tile.strokeVersion (x : Tile) (lseg st pos : Nat) (c : Copy) : Option Line :=
  match x.memberImage lseg st (c.stripe st) pos with
  | some d => some d
  | none => if x.slotFailed (x.finalSlot (c.slot st pos)) then none else (x.decodeMember lseg st pos c 0).member

/-- XOR of stroke versions of the positions given, when each has one. -/
def Tile.xorVersions (x : Tile) (lseg st : Nat) (c : Copy) (ps : List Nat) : Option Line :=
  ps.foldl (fun acc j => match acc, x.strokeVersion lseg st j c with
    | some a, some b => some (a ^^^ b)
    | _, _ => none) (some 0)

/-- The DATA of a member, rebuilt from the others where it does not decode (R84); zero where the stripe is broken. -/
def Tile.memberData (x : Tile) (lseg st pos : Nat) (c : Copy) : Line :=
  match x.strokeVersion lseg st pos c with
  | some d => d
  | none => (x.xorVersions lseg st c ((List.range 9).filter (fun j => decide (j ≠ pos)))).getD 0

/-- The stored DATA of a line: zero for a FRESH or LOST segment. -/
def Tile.storedLine (x : Tile) (lla : Nat) : Line :=
  let st := stripeOfLine (lineIndexOf lla)
  match x.map.copyFor (lsegOf lla) st with
  | none => 0
  | some c => x.memberData (lsegOf lla) st (memberPos (c.stripe st) (dataPosOf (lineIndexOf lla))) c

/-- Parity formed from the stroke versions of the data members, position `pos` given as `d` (R139). -/
def Tile.parityFromMembers (x : Tile) (lseg st : Nat) (c : Copy) (pos : Nat) (d : Line) : Line :=
  let S := c.stripe st
  xorLines (d :: ((List.range 9).filter (fun j => decide (j ≠ pos ∧ j ≠ parityPos S))).map
    (fun j => x.memberData lseg st j c))

/-- Counts the outcome of a decode and records its event (R75, R76, R77). -/
def State.noteDecode (s : State) (t : Nat) (slot part : Nat) (lla : Option Nat) (d : Decoded) : State :=
  match d with
  | .clean _ => s.tcount t Cn.DECODE_CLEAN 1
  | .corrected _ => (s.tcount t Cn.DECODE_CORRECTED 1).tev t Ev.LINE_CORRECTED 0xFF slot []
  | .lost =>
    let l := lla.getD 0
    let dpa := if s.isDataLine part t l then (s.partn part).dpaOf t l else noDpa
    (s.tcount t Cn.LINES_LOST 1).tev t Ev.LINE_LOST 0xFF dpa [(5, l), (5, slot)]
  | .erased b =>
    let s1 := s.tcount t Cn.DECODE_ERASED 1
    if b then (s1.tcount t Cn.MISCORRECTIONS_CAUGHT 1).tev t Ev.MISCORRECTION_CAUGHT 0xFF 0 [] else s1

/-! ### Queueing strokes -/

/-- A queued stroke with nothing special about it. -/
def Stroke.mk0 (kind : StrokeKind) (parity : Bool) (addr slot : Nat) (word : Codeword) (ver evict prio : Nat)
    (flush : Bool) : Stroke :=
  { id := 0, kind := kind, parity := parity, addr := addr, slot := slot, word := word, ver := ver, evict := evict,
    target := false, flush := flush, priority := prio, running := false, lifted := false, held := false, masked := false,
    startedAt := 0, remap := none }

/-- Queues a stroke; one that a slot hold delays is counted (R107). -/
def State.queueStroke (s : State) (t : Nat) (k : Stroke) : State :=
  let held := (s.tile t).slotHeld k.slot
  let s1 := s.modRes t (fun r =>
    let k1 := { k with id := r.seqCtr, held := held }
    let b := r.bump
    { b with strokes := b.strokes ++ [k1] })
  if held then s1.tcount t Cn.STROKES_HELD 1 else s1

/-- Cancels the queued parity strokes of a stripe that a newer version supersedes (R140), and the repair strokes of a
line not yet started that a newer image supersedes (R88). -/
def State.supersede (s : State) (t : Nat) (parity : Bool) (addr ver : Nat) : State :=
  let old (k : Stroke) : Bool := (k.parity == parity) && decide (k.addr = addr ∧ k.ver < ver) && !k.running &&
    (parity || decide (k.kind = .repair))
  let n := ((s.tile t).res.strokes.filter (fun k => old k && decide (k.kind ≠ .repair))).length
  let s1 := s.modRes t (fun r => { r with strokes := r.strokes.filter (fun k => !old k) })
  if parity then s1.tcount t Cn.PARITY_SUPERSEDED n else s1

/-- A stripe enters the open list (R139, R148). -/
def State.openStripe (s : State) (t S : Nat) : State :=
  if (s.tile t).res.opens.contains S then s
  else (s.modRes t (fun r => { r with opens := r.opens ++ [S] })).shadow t true 2 S
/-- A stripe leaves the open list when no eviction of it remains incomplete (R140). -/
def State.closeStripe (s : State) (t S : Nat) : State :=
  if (s.tile t).res.evicts.any (fun e => e.formed && decide (e.stripe = S)) then s
  else if (s.tile t).res.opens.contains S then
    (s.modRes t (fun r => { r with opens := r.opens.filter (fun q => decide (q ≠ S)) })).shadow t false 2 S
  else s

/-- A stripe update: the new DATA of a data line, or its poison, with the new parity of its stripe (R82, R139, R86). -/
structure Update where
  part : Nat
  kind : EKind
  lla : Nat
  copy : Copy
  new : Line
  lost : Bool
  parity : Line
  priority : Nat
  flush : Bool
  /-- The delta still has to reach the parity tile (R250). -/
  deltaWait : Bool
  delta : Line
  /-- The eviction the update belongs to, when it was begun before. -/
  evict : Option Nat

/-- The codeword an update strokes. -/
def Update.word (u : Update) : Codeword :=
  if u.lost then poisonWord (dataKey u.lla) else encodeLine (dataKey u.lla) u.new

/-- Carries out a stripe update up to its strokes: images stored IN-FLIGHT, the stripe opened, the data stroke and the
parity stroke queued, in the other copy too during a migration (R139, R201); a failed slot is not stroked (R92). -/
def State.update (s : State) (t : Nat) (u : Update) : State :=
  let lseg := lsegOf u.lla
  let st := stripeOfLine (lineIndexOf u.lla)
  let k := dataPosOf (lineIndexOf u.lla)
  let S := u.copy.stripe st
  let x := s.tile t
  let ds := x.finalSlot (u.copy.slot st (memberPos S k))
  let ps := x.finalSlot (u.copy.slot st (parityPos S))
  let ver := x.res.verCtr + 1
  let id := u.evict.getD x.res.seqCtr
  let other := x.map.otherCopy lseg st
  let ev : Evict :=
    { id := id, addr := u.lla, kind := u.kind, part := u.part, stripe := S, dslot := ds, pslot := ps, oldD := none,
      oldP := none, fromMembers := false, formed := true, lost := u.lost, deltaWait := u.deltaWait, delta := u.delta,
      owner := t, masked := false, ver := ver, dataDone := x.slotFailed ds, parityDone := x.slotFailed ps, copyData := other.isSome,
      copyParity := other.isSome, flush := u.flush }
  let s1 := s.modRes t (fun r =>
    let b : TileRes := if u.evict.isSome then r else r.bump
    let b1 : TileRes := { b with verCtr := ver, evicts := b.evicts.filter (fun (e : Evict) => decide (e.id ≠ id)) ++ [ev] }
    (b1.putBuf { parity := false, addr := u.lla, slice := b1.sliceOf .data u.lla, image := u.new, ver := ver, inflight := true }).putBuf
      { parity := true, addr := S, slice := b1.sliceOf .data u.lla, image := u.parity, ver := ver, inflight := true })
  let s2 := ((s1.supersede t true S ver).supersede t false u.lla ver).openStripe t S
  let dk := Stroke.mk0 (if u.lost then .poison else .evictData) false u.lla ds u.word ver id u.priority u.flush
  let pk := Stroke.mk0 (if u.lost then .parityFix else .evictParity) true S ps (encodeLine (parityKey S) u.parity) ver id
    u.priority u.flush
  let s3 := if ev.dataDone then s2 else s2.queueStroke t dk
  let s4 := if ev.parityDone then s3 else s3.queueStroke t pk
  match other with
  | none => s4
  | some c =>
    let S2 := c.stripe st
    let ds2 := x.finalSlot (c.slot st (memberPos S2 k))
    let ps2 := x.finalSlot (c.slot st (parityPos S2))
    ((s4.queueStroke t { dk with slot := ds2, target := true }).queueStroke t
      { pk with addr := S2, slot := ps2, word := encodeLine (parityKey S2) u.parity, target := true })

/-! ### Completion (R140) -/

/-- A line enters the dirty count: its shadow entry (R148). -/
def State.shadowLine (s : State) (t lla : Nat) : State := s.shadow t true 1 lla
/-- A line leaves the dirty count. -/
def State.unshadowLine (s : State) (t lla : Nat) : State := s.shadow t false 1 lla

/-- The line of tile `owner` whose eviction at tile `t` is complete leaves IN-FLIGHT: CLEAN, or DIRTY again when REDIRTY
is set; a second entry made by a foreign partial write takes its place (R133, R291); the MIRROR entry is released
(R250). A Global Persistent Flush waits for it no longer (R153). -/
def State.lineLanded (s : State) (t owner lla : Nat) : State :=
  let r := (s.tile t).res
  let gone (s : State) : State := s.shadowFor t owner false 1 lla
  match r.entries.find? (fun e => decide (e.addr = lla ∧ e.owner = owner ∧ e.st = .inflight)) with
  | none => gone s
  | some e =>
    let s0 := s.modRes t (fun r => { r with gpf := r.gpf.erase e.id })
    let rival := r.entries.any (fun f => decide (f.addr = lla ∧ f.owner = owner ∧ f.id ≠ e.id ∧ f.st.counted))
    if rival then s0.modRes t (fun r => r.dropEntry e.id)
    else if e.redirty then
      s0.modRes t (fun r => { r.setEntry e.id (fun e => { e with st := .dirty, redirty := false, stamp := r.seqCtr })
                              with seqCtr := r.seqCtr + 1 })
    else
      let s1 := gone (s0.modRes t (fun r =>
        if e.poisoned then r.dropEntry e.id
        else (r.setEntry e.id (fun e => { e with st := .clean, redirty := false })).settle e.id))
      if (s.partn e.part).spanned ∧ owner = t ∧ e.kind ≠ .span then
        s1.modRes t (fun r => { r with mirrorOut := r.mirrorOut ++ [{ Req.none with part := e.part, tile := t, lla := lla }] })
      else s1

/-- A CLEAN entry of a line that has become LOST is dropped, so that reads find the poison (R161). -/
def State.forgetClean (s : State) (t lla : Nat) : State :=
  s.modRes t (fun r => { r with entries := r.entries.filter (fun e => !decide (e.addr = lla ∧ e.owner = t ∧ e.st = .clean)) })

/-- Completes every eviction whose strokes have verified (R140). -/
def State.completeEvicts (s : State) (t : Nat) : State :=
  let done := (s.tile t).res.evicts.filter (fun e =>
    e.formed && e.dataDone && e.parityDone && !e.copyData && !e.copyParity && !e.deltaWait)
  s.each done (fun s' e =>
    let s1 := s'.modRes t (fun r => { r with evicts := r.evicts.filter (fun q => decide (q.id ≠ e.id)) })
    let s2 := s1.modRes t (fun r => { r.landBuf false e.addr e.ver with flushed := r.flushed + bitNat e.flush })
    let s3 := s2.lineLanded t e.owner e.addr
    let s4 := if e.masked then s3.forgetClean t e.addr else s3
    s4.closeStripe t e.stripe)

/-! ### Repair and loss -/

/-- Holds a rebuilt image IN-FLIGHT and strokes it back, unless a newer image is IN-FLIGHT (R88). For a data line,
`part` names its partition. -/
def State.repairMember (s : State) (t part lseg st pos : Nat) (c : Copy) (d : Line) (prio : Nat) : State :=
  let x := s.tile t
  let S := c.stripe st
  let slot := x.finalSlot (c.slot st pos)
  if x.slotFailed slot then s
  else
    let ver := x.res.verCtr + 1
    match memberLla lseg st S pos with
    | none =>
      if (x.res.inflight true S).isSome then s
      else
        ((s.modRes t (fun r => { r.putBuf { parity := true, addr := S, slice := r.sliceOf .data S, image := d, ver := ver, inflight := true }
                                 with verCtr := ver })).queueStroke t
          (Stroke.mk0 .repair true S slot (encodeLine (parityKey S) d) ver 0 prio false)).tcount t Cn.REPAIR_STROKES 1
    | some lla =>
      if (x.res.inflight false lla).isSome then s
      else
        let s1 := (s.modRes t (fun r =>
            { r.putBuf { parity := false, addr := lla, slice := r.sliceOf .data lla, image := d, ver := ver, inflight := true }
              with verCtr := ver })).queueStroke t
          (Stroke.mk0 .repair false lla slot (encodeLine (dataKey lla) d) ver 0 prio false)
        let s2 := s1.tcount t Cn.REPAIR_STROKES 1
        match x.res.find lla t with
        | some e =>
          if e.st = .clean then
            (s2.modRes t (fun r => r.setEntry e.id (fun e => { e with st := .inflight }))).shadowLine t lla
          else s2
        | none =>
          let e := { Entry.empty (s.lineKind part t lla) part lla t with
            st := .inflight, mask := fullMask, data := d, storedOnly := some d, dpa := (s.partn part).dpaOf t lla }
          (s2.modRes t (fun r => (r.place e).1)).shadowLine t lla

/-- A data member of a stripe becomes LOST: the poison list and its event (R86). -/
def State.loseLine (s : State) (t part lla slot source : Nat) : State :=
  let s1 := s.poisonLine t lla source
  let dpa := if s.isDataLine part t lla then (s.partn part).dpaOf t lla else noDpa
  (s1.tcount t Cn.LINES_LOST 1).tev t Ev.LINE_LOST 0xFF dpa [(5, lla), (5, slot)]

/-- Strokes poison into the data members given, which are LOST, and recomputes the parity of the stripe from the present
members, each poison codeword counting as zero (R86). -/
def State.poisonStripe (s : State) (t part lseg st : Nat) (c : Copy) (ps : List Nat) (flush : Bool) : State :=
  let x := s.tile t
  let S := c.stripe st
  let lost := ps.filter (fun j => decide (j ≠ parityPos S))
  let keep := (List.range 9).filter (fun j => decide (j ≠ parityPos S) && !(lost.contains j))
  let newP := xorLines (keep.map (fun j => x.memberData lseg st j c))
  match lost with
  | [] =>
    -- only the parity line does not decode: it is recomputed and stroked
    let ver := x.res.verCtr + 1
    let slot := x.finalSlot (c.slot st (parityPos S))
    ((s.modRes t (fun r => { r.putBuf { parity := true, addr := S, slice := r.sliceOf .data S, image := newP, ver := ver, inflight := true }
                             with verCtr := ver })).supersede t true S ver).queueStroke t
      (Stroke.mk0 .repair true S slot (encodeLine (parityKey S) newP) ver 0 3 flush)
  | _ =>
    s.each lost (fun s' j =>
      match memberLla lseg st S j with
      | none => s'
      | some lla =>
        s'.update t { part := part, kind := s'.lineKind part t lla, lla := lla, copy := c, new := 0, lost := true,
                      parity := newP, priority := 3, flush := flush, deltaWait := false, delta := 0, evict := none })

/-- Makes a stored data line LOST outside a rebuild: poison list, event, poison stroke with a parity update (R86, R152,
R307). -/
def State.makeLost (s : State) (t part lla source : Nat) (flush : Bool) : State :=
  let lseg := lsegOf lla
  let st := stripeOfLine (lineIndexOf lla)
  let x := s.tile t
  match x.map.copyFor lseg st with
  | none => (s.loseLine t part lla 0 source).forgetClean t lla
  | some c =>
    let pos := memberPos (c.stripe st) (dataPosOf (lineIndexOf lla))
    let s1 := (s.loseLine t part lla (x.finalSlot (c.slot st pos)) source).forgetClean t lla
    s1.poisonStripe t part lseg st c [pos] flush

end Sys2Proof.Machine
end

