-- ==== Sys2Proof/Machine/Health.lean ====
section
/-! DEFINITION. Usable spares (R184), life used (R216), the health state (R492, R493), failed banks and dies (R91, R209,
R210). -/
namespace Sys2Proof.Machine
open Sys2Proof

/-- Physical segments that are not free (R181). -/
def TileMap.notFree (m : TileMap) : Nat := (m.segs.filter (fun x => decide (x.2.cond ≠ .free))).length
/-- Logical segments that enabled partitions hold in tile `t`. -/
def State.heldSegs (s : State) (t : Nat) : Nat :=
  sumList (s.parts.map (fun x => if x.2.st = 1 ∧ x.2.tileSet.testBit t then x.2.total else 0))
/-- Logical segments of enabled partitions that are not FRESH in tile `t`. -/
def State.boundSegs (s : State) (t : Nat) : Nat :=
  ((s.tile t).map.map.filter (fun e =>
    decide (e.2.st ≠ .fresh) && s.parts.any (fun x => decide (x.2.st = 1) && x.2.owns t e.1))).length
/-- Usable spares: free segments minus the FRESH logical segments of enabled partitions (R184). -/
def State.spares (s : State) (t : Nat) : Nat :=
  (segsPerTile - (s.tile t).map.notFree) - (s.heldSegs t - s.boundSegs t)

/-- Highest MOVES of a segment that is not retired. -/
def TileMap.movesMax (m : TileMap) : Nat :=
  m.segs.foldl (fun a x => if x.2.cond = .retired then a else max a x.2.moves) 0
/-- Life used of a tile in percent (R216). -/
def Tile.lifeUsed (x : Tile) : Nat :=
  if x.ps.pinLatch then 100
  else
    let used := (x.map.segs.filter (fun q =>
      decide (q.2.cond = .retired ∨ q.2.cond = .donor ∨ q.2.cond = .quarantined))).length
    min 99 (max (ceilDiv (100 * x.map.movesMax) 9280000000) (ceilDiv (100 * used) 65915))
/-- Life used of the package (R216). -/
def State.lifeUsed (s : State) : Nat := s.tileNumbers.foldl (fun a t => max a (s.tile t).lifeUsed) 0

/-- A bank's evacuation is complete (R209). -/
def Evac.complete (e : Evac) : Bool := decide (54251936 ≤ e.ptr)
/-- A failed bank or die that no evacuation takes care of (R210). -/
def Tile.evacBlockedNow (x : Tile) : Bool :=
  !x.med.failedDies.isEmpty || x.med.failedBanks.any (fun b => !(x.map.evacs.any (fun e => decide (e.bank = b))))

/-- `HEALTH_CAUSE` (R492). -/
def State.healthCause (s : State) : Nat :=
  let any (p : Nat → Bool) : Bool := s.tileNumbers.any p
  bitNat (any (fun t => (s.tile t).res.entries.any (fun e => decide (e.st = .pinned))))
    + 2 * bitNat (any (fun t => (s.tile t).evacBlockedNow))
    + 4 * bitNat (any (fun t => decide (s.spares t = 0)))
    + 8 * bitNat (decide (90 ≤ s.lifeUsed))
    + 16 * bitNat (any (fun t => (s.tile t).ps.pinLatch))
    + 32 * bitNat (any (fun t => decide ((s.tile t).fence.st = .fenced ∧ ((s.tile t).fence.cause = 6 ∨ (s.tile t).fence.cause = 7))))
    + 64 * bitNat (any (fun t => (s.tile t).fence.doubleFault))
/-- The health state of a cause word: the highest whose condition holds (R492). -/
def healthOf (c : Nat) : Health := if c / 16 ≠ 0 then .critical else if c % 16 ≠ 0 then .worn else .good
/-- Evaluates the health state; a change is recorded and raises its alert (R493, R506). -/
def State.evalHealth (s : State) : State :=
  let c := s.healthCause
  let h := healthOf c
  let old := s.dev.health
  let s1 := { s with dev := { s.dev with health := h, causes := c } }
  if h = old then s1 else (s1.pev Ev.HEALTH_CHANGED old.code [(1, h.code), (4, c)]).alert 1

/-- Raises bit `b` of `XLATE_STATUS` of tile `t` (R218). -/
def State.xlateBit (s : State) (t b : Nat) : State :=
  s.raise (Ob.inst Ob.XLATE_STATUS t) b (Ob.inst Ob.XLATE_OCC t + b)
/-- Records that usable spares fell below 1,024 or reached 0; `before` are the spares before the change. -/
def State.noteSpares (s : State) (t before : Nat) : State :=
  let n := s.spares t
  let s1 := if n < 1024 ∧ 1024 ≤ before then (s.xlateBit t 0).tev t Ev.SPARES_LOW 0xFF 0 [] else s
  let s2 := if n = 0 ∧ 0 < before then (s1.xlateBit t 1).tev t Ev.SPARES_EXHAUSTED 0xFF 0 [] else s1
  if (n = 0) = (before = 0) then s2 else s2.evalHealth

/-- The free segments with the least MOVES, the lowest number first among equals: never-used segments are free with 0
MOVES (R188, R209). `n` of them are taken from segment number `p` up. -/
def TileMap.leastMoved (m : TileMap) (n : Nat) : List Nat :=
  let listed := m.segs.filter (fun x => decide (x.2.cond = .free ∧ 0 < x.2.moves))
  let zeros := firstFree m n segsPerTile 0
  if n ≤ zeros.length then zeros
  else zeros ++ (takeLeast (n - zeros.length) listed)
where
  /-- Up to `n` free segments with 0 MOVES from number `p` up. -/
  firstFree (m : TileMap) : Nat → Nat → Nat → List Nat
    | 0, _, _ => []
    | _, 0, _ => []
    | n + 1, fuel + 1, p =>
      let x := m.seg p
      if x.cond = .free ∧ x.moves = 0 then p :: firstFree m n fuel (p + 1) else firstFree m (n + 1) fuel (p + 1)
  /-- Up to `n` listed segments in rising order of MOVES. -/
  takeLeast : Nat → List (Nat × Seg) → List Nat
    | 0, _ => []
    | n + 1, l => match minBy (fun x => x.2.moves) l with
      | none => []
      | some v => v.1 :: takeLeast n (l.filter (fun x => decide (x.1 ≠ v.1)))

/-- Donors a failed bank takes (R209). -/
def donorCount : Nat := 48440

/-- A bank has been declared failed: evacuation starts with its donors, or is blocked (R209, R210). Reasons recorded:
1 too few spares, 2 the die has failed. -/
def State.beginEvacuation (s : State) (t b : Nat) : State :=
  let before := s.spares t
  let x := s.tile t
  if x.med.failedDies.contains (b / 32) ∨ before < donorCount then
    (s.modMap t (fun m => { m with evacBlocked := m.evacBlocked ++ [b] })).tev t Ev.EVACUATION_BLOCKED 0xFF (b / 32)
      [(1, b % 32), (1, if before < donorCount then 1 else 2)]
  else
    let donors := x.map.leastMoved donorCount
    ((s.pageCommit t 864).modMap t (fun m =>
      let m1 := donors.foldl (fun m p => m.setSeg p { m.seg p with cond := .donor }) m
      { m1 with evacs := m1.evacs ++ [{ bank := b, donors := donors, ptr := 0 }] })).noteSpares t before

/-- Declares die `d` of tile `t` failed (R91, R210). [DESIGN CHOICE, assumption 24] -/
def State.failDie (s : State) (t d : Nat) : State :=
  if (s.tile t).med.failedDies.contains d then s
  else
    let s1 := (s.modMed t (fun m => { m with failedDies := m.failedDies ++ [d] })).tev t Ev.DIE_FAILED 0xFF 0 []
    ((s1.tev t Ev.EVACUATION_BLOCKED 0xFF d [(1, 0), (1, 2)]).evalHealth).degrade

/-- Declares a bank failed, and its die when four of its banks are (R91). -/
def State.failBank (s : State) (t b : Nat) : State :=
  if (s.tile t).med.failedBanks.contains b then s
  else
    let s1 := (s.modMed t (fun m => { m with failedBanks := m.failedBanks ++ [b] })).tev t Ev.BANK_FAILED 0xFF 0 []
    let die := b / 32
    let s2 := (s1.beginEvacuation t b).evalHealth
    let n := ((s2.tile t).med.failedBanks.filter (fun q => decide (q / 32 = die))).length
    (if 4 ≤ n then s2.failDie t die else s2).degrade

/-- Notes a read of a slot and whether it was ERASED after its retry: 8 of the last 16 of distinct slots fail the bank
(R91). -/
def State.noteRead (s : State) (t slot : Nat) (erased : Bool) : State :=
  let b := bankOf slot
  let h := ((slot, erased) :: ((s.tile t).med.readHist.getD b []).filter (fun x => decide (x.1 ≠ slot))).take 16
  let s1 := s.modMed t (fun m => { m with readHist := m.readHist.insert b h })
  if erased ∧ 8 ≤ (h.filter (fun x => x.2)).length then s1.failBank t b else s1
/-- Notes a stroke that failed verify: 8 distinct slots within 1 ms fail the bank (R91). -/
def State.noteVerifyFail (s : State) (t slot : Nat) : State :=
  let b := bankOf slot
  let now := s.now t
  let h := (slot, now) :: ((s.tile t).med.failHist.getD b []).filter (fun x =>
    decide (x.1 ≠ slot ∧ now < x.2 + 1000000))
  let s1 := s.modMed t (fun m => { m with failHist := m.failHist.insert b h })
  if 8 ≤ h.length then s1.failBank t b else s1
/-- The stack interface reports whether a die has answered a command: three in a row unanswered fail the die (R91). [DESIGN CHOICE, assumption 24] -/
def State.noteAnswer (s : State) (t die : Nat) (mute : Bool) : State :=
  let n := if mute then (s.tile t).med.silent.getD die 0 + 1 else 0
  let s1 := s.modMed t (fun m => { m with silent := m.silent.put 0 die n })
  if 3 ≤ n then s1.failDie t die else s1

end Sys2Proof.Machine
end

