-- ==== Sys2Proof/Machine/Accept.lean ====
section
/-! DEFINITION. Acceptance of a write into a reservoir entry (R126, R128, R129, R133 to R136, R266, R290, R302) and atomics
(R177), for lines that are resident. -/
namespace Sys2Proof.Machine
open Sys2Proof

/-- Gives a Scribe engine the outcome of a line access (R330). -/
def State.arrive (s : State) (r : Req) (d : Line) (poison : Bool) (cause : Nat) : State :=
  s.modQueue (r.queue / 64) (r.queue % 64) (fun q =>
    { q with descs := q.descs.map (fun e =>
        if e.index = r.desc then
          { e with arrived := e.arrived ++ [{ step := r.step, data := d, poison := poison, cause := cause, dpa := r.dpa }] }
        else e) })

/-- Hands the acknowledgement of an accepted write to its port, engine or session; its token returns (R128, R130). An
atomic gives back the line as it found it. -/
def State.ackWrite (s : State) (t : Nat) (r : Req) : State :=
  let s1 := (s.modRd t (fun x => x.giveToken r.src true)).leaveIngress r
  match r.iface with
  | .cxl => s1.respondMem r false 0 false
  | .scribe => s1.arrive r r.data false 0
  | .debug => { s1 with out := s1.out ++ [Response.debug 0 false] }
  | .maint => s1

/-- The acceptance log holds the last write accepted under each of the 256 tokens (R266). -/
def TileRes.log (x : TileRes) (r : Req) : TileRes :=
  { x with accLog := ({ port := r.port, ld := r.ld, tag := r.tag } :: x.accLog).take 256 }

/-- A merged write at tile `t` is accepted, or waits for its mirror (R126 to R129): spanned lines send a mirror message
and wait for its acknowledgement; a write that made a shadow entry while the mirror tile is FENCING holds its Cmp. The
stand-in accepts without mirroring (R258). `new` is the request as it changes bytes, `r` as it is answered. -/
def State.accepted (s : State) (t : Nat) (r new : Req) (created : Bool) : State :=
  let m := s.mirrorOf t
  let spanned := (s.partn r.part).spanned && decide (t = r.tile ∧ m < s.n)
  if spanned then
    s.modRes t (fun x => { x with mirrorOut := x.mirrorOut ++ [new], cmpWait := x.cmpWait ++ [r] })
  else
    let s1 := (s.modRes t (fun x => x.log r)).tcount t (if t = r.tile then Cn.WRITES_ACCEPTED else Cn.STANDIN_WRITES) 1
    if created ∧ m < s.n ∧ (s.tile m).fence.st = .fencing then
      s1.modRes t (fun x => { x with cmpHeld := x.cmpHeld ++ [r] })
    else s1.ackWrite t r

/-- The state of an entry after a write has been merged into it (R133). -/
def Entry.writtenState (e : Entry) (mask : ByteMask) : LineState :=
  match e.st with
  | .inflight => .inflight
  | .pinned => .pinned
  | .incomplete => if mask = fullMask then .dirty else .incomplete
  | _ => .dirty
/-- Merges the bytes of a write into an entry whose plaintext under the write's key index is `old` (R135, R290). -/
def Entry.merge (e : Entry) (r : Req) (old : Line) (stamp : Nat) : Entry :=
  let mask := e.mask ||| r.mask
  let full := decide (r.mask = fullMask)
  { e with st := e.writtenState mask, mask := mask, kx := r.kx, data := mergeBytes r.mask r.data old, storedOnly := none,
           redirty := e.redirty || decide (e.st = .inflight), blank := r.zero && full,
           poisoned := e.poisoned || r.poison, used := stamp, stamp := if e.st.counted then e.stamp else stamp }

/-- The list a tile keeps a line of tile `owner` in: its own or a stand-in list (R148, R258). -/
def State.shadowWrite (s : State) (t owner lla : Nat) : State := s.shadowFor t owner true 1 lla

/-- Counts a write merged at tile `t` (05, counters 041, 042, 04A). -/
def State.countMerge (s : State) (t : Nat) (e : Entry) (full : Bool) : State :=
  let s1 := if e.st.counted then s.tcount t Cn.WRITES_MERGED 1 else s
  let s2 := if e.st = .inflight then s1.tcount t Cn.REDIRTY_WRITES 1 else s1
  if full then s2 else s2.tcount t Cn.PARTIAL_WRITES 1

/-- Records that a write makes its line LOST (R363): poison list, source External, status and event. -/
def State.poisonWritten (s : State) (t : Nat) (r : Req) : State :=
  let s1 := s.poisonLine r.tile r.lla 1
  let s2 := if r.iface = .cxl then
      s1.raise (Ob.inst Ob.PORT_ERR_STATUS r.port) 2 (Ob.inst Ob.PORT_ERR_OCC r.port + 2) else s1
  (s2.tcount t Cn.POISONED_WRITES 1).tev t Ev.POISON_WRITTEN r.cls r.dpa [(1, r.cls)]

/-- Merges a write into resident entry `e` of tile `t` under the same key index, or a full-line write under any (R133,
R135, R291), and goes on to its acceptance. -/
def State.mergeInto (s : State) (t : Nat) (e : Entry) (r : Req) : State :=
  let old := if r.mask = fullMask then 0 else s.entryPlain r.tile e r.kx
  let base := if e.st = .incomplete then e.data else old
  let created := !e.st.counted
  let s1 := s.modRes t (fun x =>
    { x.setEntry e.id (fun e => e.merge r base x.seqCtr) with seqCtr := x.seqCtr + 1 })
  let s2 := if created then s1.shadowWrite t r.tile r.lla else s1
  let s3 := if r.poison then s2.poisonWritten t r else s2
  ((s3.countMerge t e (decide (r.mask = fullMask))).accepted t r r created).noteGate t

/-- Merges a full-line write that finds no entry: a DIRTY entry, in an overflow entry when its set has no room (R133,
R134). -/
def State.mergeNew (s : State) (t : Nat) (r : Req) : State :=
  let e : Entry := { Entry.empty .data r.part r.lla r.tile with
    st := .dirty, mask := fullMask, dpa := r.dpa, kx := r.kx, data := r.data, blank := r.zero, poisoned := r.poison }
  let beyond := ((s.tile t).res.place e).2
  let s1 := s.modRes t (fun x => (x.place e).1)
  let s2 := if beyond then s1.tcount t Cn.OVERFLOW_ENTRIES 1 else s1
  let s3 := s2.shadowWrite t r.tile r.lla
  let s4 := if r.poison then s3.poisonWritten t r else s3
  (s4.accepted t r r true).noteGate t

/-! ### Atomics (R177) -/

/-- Byte offset of the 8 bytes that a mask of eight aligned bytes selects. -/
def maskOffset (m : ByteMask) : Nat := match (List.range 8).find? (fun i => m.getLsbD (8 * i)) with
  | some i => 8 * i
  | none => 0
/-- An 8-byte field of a line. -/
def field8 (d : Line) (off : Nat) : Nat := bitsOf d.toNat (8 * off) 64
/-- A line with an 8-byte field replaced. -/
def setField8 (d : Line) (off v : Nat) : Line := BitVec.ofNat 512 (setBits d.toNat (8 * off) 64 v)
/-- The image after the merge action of an atomic: the request's data holds the swap value or the addend in its 8 bytes
(R177). -/
def Req.atomic (r : Req) (d : Line) : Line :=
  let off := maskOffset r.mask
  let old := field8 d off
  let arg := field8 r.data off
  if r.atom = 1 then (if old = r.cmp then setField8 d off arg else d)
  else setField8 d off ((old + arg) % 2 ^ 64)

/-- The merge action of an atomic on a resident entry that is not PARTIAL, under the entry's key index (R177): read and
write in one step; the line as found goes back with the answer. -/
def State.atomicInto (s : State) (t : Nat) (e : Entry) (r : Req) : State :=
  let old := s.entryPlain r.tile e r.kx
  let w := { r with data := r.atomic old }
  let created := !e.st.counted
  let s1 := s.modRes t (fun x =>
    { x.setEntry e.id (fun e => e.merge w old x.seqCtr) with seqCtr := x.seqCtr + 1 })
  let s2 := if created then s1.shadowWrite t r.tile r.lla else s1
  (((s2.tcount t Cn.ATOMICS_DONE 1).countMerge t e true).accepted t { r with data := old } w created).noteGate t

end Sys2Proof.Machine
end

