-- ==== Sys2Proof/Machine/Reads.lean ====
section
/-! DEFINITION. How a read ends: responses, the bound check and histograms (R122, R124), CLEAN fills (R133), the lookup of a
read (R104 to R106, R118, R257), delivery of decoded data, sealed verification (R300). -/
namespace Sys2Proof.Machine
open Sys2Proof

/-! ### Responses -/

/-- Bin of `READ_SVC_HIST` (R124). -/
def svcBin (ns : Nat) : Nat :=
  if ns < 8 then 0 else if ns < 16 then 1 else if ns < 32 then 2 else if ns < 48 then 3 else if ns < 56 then 4
  else if ns < 64 then 5 else if ns < 72 then 6 else if ns < 80 then 7 else if ns < 88 then 8 else if ns < 96 then 9
  else if ns < 104 then 10 else if ns < 112 then 11 else if ns < 120 then 12 else if ns < 150 then 13
  else if ns < 200 then 14 else 15
/-- Counts a service time (R124). [DESIGN CHOICE, assumption 63] -/
def TileRead.svc (x : TileRead) (ns : Nat) : TileRead :=
  { x with hist := modAt x.hist (svcBin ns) (fun c => satAdd 0xFFFFFFFF c 1), max := Nat.max x.max (min ns 0xFFFFFFFF),
           histSeq := (x.histSeq + 2) % 2 ^ 32 }

/-- Whether R102 covers a read: an ACTIVE owner, a plain or spanned partition, the native mode, no ERASED codeword
(path code 0 stands for one) (R102, R103). -/
def State.covered (s : State) (r : Req) (path : Nat) : Bool :=
  let p := s.partn r.part
  decide (path ≠ 0) && s.tileActive r.tile && !p.isSealed && !p.forerunner
/-- The check of R122 at the tile of the port: time against the ceiling of R102 plus 4 ns for each hop (R116). [DESIGN CHOICE, assumption 63] -/
def State.checkBound (s : State) (r : Req) (path slot hops : Nat) : State :=
  let t := r.home
  let svc := s.now t - r.admittedAt
  if s.covered r path ∧ svc > 120 + 4 * hops then
    ((s.raise (Ob.inst Ob.READ_STATUS t) 0 (Ob.inst Ob.READ_STATUS_OCC t)).tev t Ev.READ_BOUND_EXCEEDED r.cls path
      [(4, svc), (5, slot), (1, r.cls)]).degrade
  else s

/-- The answer to a violation at its interface (R273, R274). -/
def State.answerViolation (s : State) (r : Req) (cause : Nat) : State :=
  match r.iface with
  | .cxl => s.respondMem r (!r.write) 0 (!r.write)
  | .scribe => s.arrive r 0 false cause
  | .debug => { s with out := s.out ++ [Response.debug 0 true] }
  | .maint => s
/-- Records a violation that a tile found in an admitted request, and answers it; the tokens return (R273). -/
def State.violateAt (s : State) (t : Nat) (r : Req) (cause : Nat) : State :=
  (((s.violateReq t r cause).answerViolation r cause).modRd t (fun x => x.giveToken r.src r.write)).leaveIngress r

/-- The path counters of a host read (04, counters 030 to 034). -/
def State.countPath (s : State) (t path : Nat) : State :=
  match path with
  | 1 => s.tcount t Cn.RES_READ_HITS 1
  | 3 | 4 => s.tcount t Cn.READS_DIRECT 1
  | 5 => s.tcount t Cn.READS_LIFTED 1
  | 6 => s.tcount t Cn.READS_AROUND 1
  | 7 => s.tcount t Cn.READS_MEMBER_LIFTED 1
  | _ => s

/-- Hands a read's response over: the token returns, service time counted and checked, the path counted (R119, R122,
R124, R344). `t` is the serving tile. -/
def State.answerRead (s : State) (t : Nat) (r : Req) (path slot hops : Nat) (d : Line) (poison : Bool) : State :=
  let svc := s.now r.home - r.admittedAt
  let s1 := s.modRd t (fun x => (x.giveToken r.src r.write).svc svc)
  let s2 := ((s1.countPath t path).checkBound r path slot hops).leaveIngress r
  match r.iface with
  | .cxl => s2.respondMem r true d poison
  | .scribe => s2.arrive r d poison 0
  | .debug => { s2 with out := s2.out ++ [Response.debug d poison] }
  | .maint => s2

/-! ### Fills -/

/-- Fills the line of a delivered read miss as CLEAN under the key index of the read, unless it has an entry by now
(R133, R134, R290). -/
def State.fillRead (s : State) (t : Nat) (r : Req) (d : Line) (blank : Bool) : State :=
  s.modRes t (fun x =>
    match x.find r.lla r.tile with
    | some _ => x
    | none => x.fillClean { Entry.empty .data r.part r.lla r.tile with
        dpa := r.dpa, kx := r.kx, mask := fullMask, data := d, blank := blank })

/-! ### Metadata reads (R118, R297) -/

/-- Whether a metadata line is being fetched already. -/
def Tile.fetchingMeta (x : Tile) (owner lla : Nat) : Bool :=
  x.rd.rds.any (fun r => decide (r.why = .metaLine ∧ r.lla = lla ∧ r.req.tile = owner))
/-- Starts a read of a line of tile `t`'s own at member granularity; a FRESH segment needs no medium access and decodes to
zeros at once (R55). -/
def State.readLine (s : State) (t : Nat) (why : RdFor) (req : Req) (kind : EKind) (part lla link hops pred : Nat) :
    State × Nat :=
  let x := s.tile t
  let lseg := lsegOf lla
  let st := stripeOfLine (lineIndexOf lla)
  match x.map.copyFor lseg st with
  | none =>
    let id := x.rd.nextId
    let r := { Rd.make why req kind part lla 0 0 0 link hops with
      id := id, phase := .decoded, lost := decide ((x.map.entry lseg).st = .lost) }
    (s.modRd t (fun y => { y with nextId := id + 1, rds := y.rds ++ [r] }), id)
  | some c =>
    let S := c.stripe st
    let pos := memberPos S (dataPosOf (lineIndexOf lla))
    s.startRead t (Rd.make why req kind part lla S pos (c.slot st pos) link hops) pred
/-- Starts the fetch of each metadata line of tile `owner` that is neither resident nor being fetched; its stand-in
reconstructs it (R257). -/
def State.fetchMeta (s : State) (owner part : Nat) (xs : List MetaLine) : State :=
  let t := s.homeOf owner
  s.each (s.metaMissing owner part xs) (fun s' x =>
    let lla := (s'.partn part).lineLla owner x
    let req := { Req.none with tile := owner, part := part, lla := lla }
    if (s'.tile t).fetchingMeta owner lla then s'
    else if t = owner then (s'.readLine t .metaLine req .metaLine part lla 0 0 0).1.tcount t Cn.META_READS 1
    else
      let id := (s'.tile t).rd.nextId
      s'.modRd t (fun y => { y with nextId := id + 1, rds := y.rds ++
        [{ Rd.make .metaLine req .metaLine part lla 0 0 0 0 0 with id := id, phase := .recon }] }))

/-! ### The end of a host read -/

/-- Whether anything of a read is still to come: a sense, a member, a rebuild. -/
def Tile.rdBusy (x : Tile) (id : Nat) : Bool :=
  x.rd.senses.any (fun q => decide (q.rd = id)) ||
  (match x.rd.byId id with
   | none => false
   | some r => !r.erased.isEmpty || decide (r.phase = .erased ∨ r.phase = .retry) || (r.around && decide (r.phase = .gathered)))
/-- Drops an answered read when nothing of it is to come. -/
def State.retireRd (s : State) (t id : Nat) : State :=
  if (s.tile t).rdBusy id then s else s.modRd t (fun x => x.dropRd id)

/-- An atomic whose line has been brought in: its merge action, into a new entry when the line was not filled (R177). On a
LOST line it is a violation. -/
def State.finishAtomic (s : State) (t : Nat) (r : Req) (d : Line) (lost : Bool) : State :=
  if lost then s.violateAt t r 5
  else
    match (s.tile t).res.find r.lla r.tile with
    | some e =>
      if e.st = .incomplete then
        s.modRes t (fun x => { x with pwaits := x.pwaits ++
          [{ entry := e.id, req := r, mask := e.mask, data := e.data, hops := s.reqHops r t }] })
      else s.atomicInto t e r
    | none =>
      let e := { Entry.empty .data r.part r.lla r.tile with
        dpa := r.dpa, kx := r.kx, mask := fullMask, data := d }
      let s1 := s.modRes t (fun x => (x.place e).1)
      match (s1.tile t).res.find r.lla r.tile with
      | some e1 => s1.atomicInto t e1 r
      | none => s1

/-- Ends a host read with an image in plaintext: fill, atomic merge, response (R133, R177, R290, R104). -/
def State.finishHost (s : State) (t : Nat) (rd : Rd) (d : Line) (blank poison : Bool) : State :=
  let r := rd.req
  let s1 := s.modRd t (fun x => x.setRd rd.id (fun q => { q with answered := true }))
  let lost := poison || (s.tile r.tile).isLost r.lla
  let s2 := if lost then s1 else s1.fillRead t r d blank
  let s3 := if blank ∧ !lost then s2.tcount t Cn.BLANK_LINE_READS 1 else s2
  if r.atom ≠ 0 then (s3.finishAtomic t r d lost).retireRd t rd.id
  else (s3.answerRead t r rd.path rd.slot rd.hops (if lost then 0 else d) lost).retireRd t rd.id

/-- A sealed line's DATA is there: it is verified once its MAC line and leaf are resident (R118, R300). `none` while they
are not. -/
def State.sealedVerdict (s : State) (t part lla : Nat) (d : Line) : Option Verdict :=
  let p := s.partn part
  let n := p.dataNumber t lla
  match s.metaData t part (.mac (n / 8)), s.dataCounter t part lla with
  | some m, some ctr => some (s.verifyData t part lla ctr (macSlot m (n % 8)) d)
  | _, _ => none

/-- An integrity failure of a data line (R307): the first time it is re-read, the second time rebuilt from its stripe, and
then it is LOST. [DEDUCED, assumption 59] -/
def State.integrityFail (s : State) (t : Nat) (rd : Rd) : State :=
  let s1 := if rd.tries = 0 then s.tcount t Cn.MAC_MISMATCHES 1 else s
  if rd.tries = 0 then
    let s2 := s1.modRd t (fun x => (x.setRd rd.id (fun q => { q with tries := 1, phase := .sensing, path := 0 })).hold rd.slot rd.id)
    let b := bankOf rd.slot
    let y := s2.tile t
    let p : SensePos := if !y.stroking b && !y.reading b then .service else if y.directFree b then .direct else .internal
    s2.modRd t (fun x => x.sense rd.id rd.pos rd.slot p false)
  else if rd.tries = 1 then
    s1.modRd t (fun x => x.setRd rd.id (fun q => { q with tries := 2, phase := .erased, path := 0, erased := [q.pos] }))
  else
    let dpa := rd.req.dpa
    let s2 := ((s1.raise (Ob.inst Ob.SEAL_STATUS rd.part) 0 (Ob.inst Ob.SEAL_OCC rd.part)).tev t Ev.INTEGRITY_FAIL 0xFF
      dpa [(5, rd.lla), (1, rd.part)])
    let s3 := s2.makeLost t rd.part rd.lla 2 false
    if rd.why = .host then s3.finishHost t { rd with path := 0 } 0 false true
    else s3.modRd t (fun x => x.setRd rd.id (fun q => { q with phase := .decoded, lost := true, acc := 0, erased := [] }))

/-- Gives decoded DATA to what a read serves (R84, R105, R106, R139, R297, R300). -/
def State.deliver (s : State) (t id : Nat) (d : Line) (lost : Bool) : State :=
  match (s.tile t).rd.byId id with
  | none => s
  | some rd =>
    if rd.answered then (if rd.spec then s.tcount t Cn.SPEC_WASTED 1 else s).retireRd t id
    else
      let owner := rd.req.tile
      match rd.why with
      | .oldData =>
        (s.modRes t (fun r => r.setEvict rd.link (fun e => { e with oldD := some d }))).modRd t (fun x => x.dropRd id)
      | .oldParity =>
        (s.modRes t (fun r => r.setEvict rd.link (fun e =>
          { e with oldP := if lost then none else some d, fromMembers := e.fromMembers || lost }))).modRd t (fun x => x.dropRd id)
      | .metaLine =>
        s.modRd t (fun x => x.setRd id (fun q => { q with phase := .decoded, acc := d, lost := lost }))
      | .fetch =>
        let plain := s.openLine owner rd.part rd.lla rd.req.kx rd.req.dpa d
        let done (s : State) : State :=
          s.modRd t (fun x => x.setRd id (fun q => { q with phase := .decoded, acc := plain, lost := lost }))
        if (s.partn rd.part).isSealed ∧ !lost then
          match s.sealedVerdict owner rd.part rd.lla d with
          | none => s.modRd t (fun x => x.setRd id (fun q => { q with phase := .awaitMeta, acc := d }))
          | some .valid => (done s).tcount t Cn.SEALED_VERIFIES 1
          | some .failure => (s.tcount t Cn.SEALED_VERIFIES 1).integrityFail t rd
        else done s
      | .host =>
        if lost then s.finishHost t rd 0 false true
        else if (s.partn rd.part).isSealed then
          match s.sealedVerdict owner rd.part rd.lla d with
          | none => s.modRd t (fun x => x.setRd id (fun q => { q with phase := .awaitMeta, acc := d }))
          | some .valid =>
            (s.tcount t Cn.SEALED_VERIFIES 1).finishHost t rd (s.openLine owner rd.part rd.lla rd.req.kx rd.req.dpa d)
              (decide (d = 0)) false
          | some .failure => (s.tcount t Cn.SEALED_VERIFIES 1).integrityFail t rd
        else s.finishHost t rd (s.openLine owner rd.part rd.lla rd.req.kx rd.req.dpa d) (decide (d = 0)) false

/-- Reads whose metadata may have come (R118). -/
def State.retryAwaiting (s : State) (t : Nat) : State :=
  s.each ((s.tile t).rd.rds.filter (fun r => decide (r.phase = .awaitMeta))) (fun s' r => s'.deliver t r.id r.acc false)

/-! ### The lookup of a read (R104, R105) -/

/-- A read that finds its line resident (R105, R106, R291, R302): the tokens of both nibs return; a PARTIAL line makes it
wait with the bytes and mask it copies. -/
def State.hit (s : State) (t : Nat) (r : Req) (e : Entry) : State :=
  let s1 := s.giveNibs t r
  let s2 := s1.modRes t (fun x => { x.setEntry e.id (fun e => { e with used := x.seqCtr }) with seqCtr := x.seqCtr + 1 })
  let hops := s.reqHops r t
  if e.st = .incomplete then
    (s2.modRes t (fun x => { x with pwaits := x.pwaits ++ [{ entry := e.id, req := r, mask := e.mask, data := e.data, hops := hops }] })).tcount
      t Cn.READS_PARTIAL_WAIT 1
  else
    let poison := e.poisoned || (s.tile r.tile).isLost r.lla
    let s2b := if e.st = .pinned then s2.tcount t Cn.PINNED_READS 1 else s2
    let s3 := if e.kx ≠ r.kx ∧ !poison then s2b.tcount t Cn.REKEYED_READS 1 else s2b
    s3.answerRead t r 1 0 hops (if poison then 0 else s.entryPlain r.tile e r.kx) poison

/-- The lookup of a read at serving tile `t` (R104, R105, R55, R118, R208, R257, R306). -/
def State.lookupRead (s : State) (t : Nat) (r : Req) (pred : Nat) : State :=
  let x := s.tile t
  let hops := s.reqHops r t
  match x.res.find r.lla r.tile with
  | some e => (if t ≠ r.tile then s.tcount t Cn.STANDIN_READS 1 else s).hit t r e
  | none =>
    if (s.tile r.tile).isLost r.lla ∧ t ≠ r.tile then (s.giveNibs t r).answerRead t r 0 0 hops 0 true
    else if s.rootLost r.tile r.part then (s.giveNibs t r).answerRead t r 0 0 hops 0 true
    else if t ≠ r.tile then
      -- the stand-in reconstructs a line it does not hold
      let id := x.rd.nextId
      let rd := { Rd.make .host r .data r.part r.lla 0 0 0 0 hops with id := id, phase := .recon }
      let s1 := ((s.giveNibs t r).modRd t (fun y => { y with nextId := id + 1, rds := y.rds ++ [rd] })).tcount t
        Cn.STANDIN_READS 1
      if (s.partn r.part).isSealed then s1.fetchMeta r.tile r.part ((s.partn r.part).chain r.tile r.lla) else s1
    else
      let lseg := lsegOf r.lla
      match (x.map.entry lseg).st with
      | .fresh => ((s.giveNibs t r).tcount t Cn.ZERO_LINE_READS 1).answerRead t r 2 0 hops 0 false
      | .lost => (s.giveNibs t r).answerRead t r 0 0 hops 0 true
      | _ =>
        let st := stripeOfLine (lineIndexOf r.lla)
        match x.map.copyFor lseg st with
        | none => s
        | some c =>
          let S := c.stripe st
          let pos := memberPos S (dataPosOf (lineIndexOf r.lla))
          let die := dieOfPos S pos
          let s1 := s.giveOtherNib t r die
          let rd := { Rd.make .host r .data r.part r.lla S pos (c.slot st pos) 0 hops with nib := some die }
          let (s2, _) := s1.startRead t rd pred
          if (s.partn r.part).isSealed then s2.fetchMeta t r.part ((s.partn r.part).chain t r.lla) else s2

end Sys2Proof.Machine
end

