-- ==== Sys2Proof/Machine/Writes.lean ====
section
/-! DEFINITION. The lookup of a write (R126 to R137, R291), the merge of a fetch (R106, R136, R137), and the way of a CXL.mem
request from its decode to the tile (R45 to R56, R273, R283, R336, R339). -/
namespace Sys2Proof.Machine
open Sys2Proof

/-! ### Writes at the owning tile -/

/-- Starts the fetch of a PARTIAL entry: a medium read, a zero line of a FRESH segment, or at a stand-in a reconstruction
(R136, R55, R257). -/
def State.startFetch (s : State) (t : Nat) (r : Req) (entry pred : Nat) : State :=
  let hops := s.reqHops r t
  let s0 := s.tcount t Cn.PARTIAL_FETCHES 1
  if t ≠ r.tile then
    let id := (s0.tile t).rd.nextId
    let rd := { Rd.make .fetch r .data r.part r.lla 0 0 0 entry hops with id := id, phase := .recon }
    (s0.giveNibs t r).modRd t (fun y => { y with nextId := id + 1, rds := y.rds ++ [rd] })
  else
    match (s0.tile t).map.copyFor (lsegOf r.lla) (stripeOfLine (lineIndexOf r.lla)) with
    | none => ((s0.giveNibs t r).readLine t .fetch r .data r.part r.lla entry hops pred).1
    | some c =>
      let st := stripeOfLine (lineIndexOf r.lla)
      let S := c.stripe st
      let pos := memberPos S (dataPosOf (lineIndexOf r.lla))
      let die := dieOfPos S pos
      let rd := { Rd.make .fetch r .data r.part r.lla S pos (c.slot st pos) entry hops with nib := some die }
      ((s0.giveOtherNib t r die).startRead t rd pred).1

/-- A PARTIAL entry for a partial write (R133, R136) or for an access under a foreign key index (R291). -/
def State.placePartial (s : State) (t : Nat) (r : Req) (mask : ByteMask) (foreign : Bool) : State × Nat :=
  let e : Entry := { Entry.empty .data r.part r.lla r.tile with
    st := .incomplete, mask := mask, dpa := r.dpa, kx := r.kx, data := r.data }
  let id := (s.tile t).res.seqCtr
  let beyond := foreign || ((s.tile t).res.place e).2
  let s1 := s.modRes t (fun x =>
    let y := (x.place e).1
    if foreign then y.setEntry id (fun e => { e with overflow := true }) else y)
  let s2 := if beyond then s1.tcount t Cn.OVERFLOW_ENTRIES 1 else s1
  (s2.shadowWrite t r.tile r.lla, id)

/-- A partial write to a line that is not resident (R136). -/
def State.partialNew (s : State) (t : Nat) (r : Req) (pred : Nat) : State :=
  let (s1, id) := s.placePartial t r r.mask false
  let s2 := (s1.tcount t Cn.PARTIAL_WRITES 1).startFetch t r id pred
  let s3 := if (s.partn r.part).isSealed then s2.fetchMeta r.tile r.part ((s.partn r.part).chain r.tile r.lla) else s2
  (s3.accepted t r r true).noteGate t

/-- A partial write or atomic under a foreign key index: an overflow entry, PARTIAL under the new index, whose fetch is a
re-keying of the entry found; it waits for that entry's merge when it is PARTIAL itself (R291). -/
def State.foreignPartial (s : State) (t : Nat) (e : Entry) (r : Req) : State :=
  let mask : ByteMask := if r.atom ≠ 0 then 0 else r.mask
  let (s1, id) := s.placePartial t r mask true
  let rid := (s1.tile t).rd.nextId
  let ready := decide (e.st ≠ .incomplete)
  let rd := { Rd.make .fetch r .data r.part r.lla 0 0 0 id 0 with
    id := rid, phase := if ready then .decoded else .rekey, acc := if ready then s.entryPlain r.tile e r.kx else 0 }
  let s2 := (s1.modRd t (fun y => { y with nextId := rid + 1, rds := y.rds ++ [rd] })).tcount t Cn.REKEYED_WRITES 1
  if r.atom ≠ 0 then
    (s2.modRes t (fun x => { x with pwaits := x.pwaits ++ [{ entry := id, req := r, mask := 0, data := 0, hops := 0 }] })).tcount
      t Cn.ATOMIC_LINE_WAITS 1
  else (((s2.tcount t Cn.PARTIAL_WRITES 1).tcount t Cn.PARTIAL_FETCHES 1).accepted t r r true).noteGate t

/-- The lookup of a write or atomic at serving tile `t` (R126, R87, R133, R136, R177, R291, R306). A write whose data is
poison changes its whole line (R363). -/
def State.lookupWrite (s : State) (t : Nat) (r0 : Req) (pred : Nat) : State :=
  let r := if r0.poison then { r0 with mask := fullMask, data := 0 } else r0
  if (s.tile r.tile).isLost r.lla ∨ s.rootLost r.tile r.part then (s.giveNibs t r0).violateAt t r0 5
  else
    match (s.tile t).res.find r.lla r.tile with
    | some e =>
      let s1 := s.giveNibs t r0
      if r.atom ≠ 0 then
        if e.kx ≠ r.kx then s1.foreignPartial t e r
        else if e.st = .incomplete then
          (s1.modRes t (fun x => { x with pwaits := x.pwaits ++
            [{ entry := e.id, req := r, mask := e.mask, data := e.data, hops := 0 }] })).tcount t Cn.ATOMIC_LINE_WAITS 1
        else s1.atomicInto t e r
      else if r.mask = fullMask ∨ e.kx = r.kx then s1.mergeInto t e r
      else s1.foreignPartial t e r
    | none =>
      if r.atom ≠ 0 then ({ s with tiles := s.tiles }.tcount t Cn.ATOMIC_LINE_WAITS 1).lookupRead t r pred
      else if r.mask = fullMask then (s.giveNibs t r0).mergeNew t r
      else s.partialNew t r pred

/-! ### The merge of a fetch (R106, R136, R137) -/

/-- A read or atomic that waited for a merge gets its image: the bytes it copied at its lookup point over the fetched ones,
under its own key index (R106, R177, R291). -/
def State.servePartial (s : State) (t : Nat) (w : PartialWait) (fetched : Line) (lost : Bool) : State :=
  if w.req.atom ≠ 0 then
    if lost then s.violateAt t w.req 5
    else match (s.tile t).res.byId w.entry with
      | some e => s.atomicInto t e w.req
      | none => s
  else if lost then s.answerRead t w.req 8 0 w.hops 0 true
  else
    let img := mergeBytes w.mask w.data fetched
    match (s.tile t).res.byId w.entry with
    | some e =>
      let d := if e.kx = w.req.kx then img else s.rekey e.part e.dpa e.kx w.req.kx false img
      s.answerRead t w.req 8 0 w.hops d false
    | none => s.answerRead t w.req 8 0 w.hops img false

/-- The merge of a fetch into its PARTIAL entry (R133, R136, R137, R291). -/
def State.mergeFetch (s : State) (t : Nat) (rd : Rd) : State :=
  let id := rd.link
  let waits := (s.tile t).res.pwaits.filter (fun w => decide (w.entry = id))
  let drop (s : State) : State :=
    (s.modRes t (fun x => { x with pwaits := x.pwaits.filter (fun w => decide (w.entry ≠ id)) })).modRd t (fun x => x.dropRd rd.id)
  match (s.tile t).res.byId id with
  | none => drop s
  | some e =>
    if rd.lost ∧ e.st = .incomplete then
      let s1 := s.poisonLine e.owner e.addr 2
      let s2 := s1.tev t Ev.PARTIAL_MERGE_LOST 0xFF e.dpa [(5, e.addr), (8, e.mask.toNat)]
      let s3 := s2.each waits (fun s' w => s'.servePartial t w 0 true)
      drop ((s3.modRes t (fun x => x.dropEntry id)).shadowFor t e.owner false 1 e.addr)
    else
      let merged := mergeBytes e.mask e.data rd.acc
      let s1 := if e.st = .incomplete then
          s.modRes t (fun x => x.setEntry id (fun e => { e with st := .dirty, data := merged, mask := fullMask }))
        else s
      -- the entry under the other key index gives way, an IN-FLIGHT one when its eviction completes
      let s2 := s1.modRes t (fun x => { x with entries := x.entries.filter (fun f =>
        !decide (f.addr = e.addr ∧ f.owner = e.owner ∧ f.id < e.id ∧ f.st ≠ .inflight)) })
      let s3 := s2.each waits (fun s' w => s'.servePartial t w rd.acc (rd.lost || e.poisoned))
      let s4 := s3.modRd t (fun x => { x with rds := x.rds.map (fun q =>
        if q.phase = .rekey ∧ q.lla = e.addr ∧ q.req.tile = e.owner then
          { q with phase := .decoded, acc := s2.rekey e.part e.dpa e.kx q.req.kx false merged }
        else q) })
      drop s4

/-! ### From the decode to the tile -/

/-- An admitted request goes to its lookup (R104, R126). -/
def State.lookup (s : State) (t : Nat) (r : Req) (pred : Nat) : State :=
  if r.write then (s.lookupWrite t r pred).noteGate t else s.lookupRead t r pred

/-- Answers a violation found at decode, before admission (R273). -/
def State.refuse (s : State) (r : Req) (cause dpa quantity : Nat) : State :=
  ((s.violate r.home r.cls (r.iface.code r.write) cause dpa quantity).tcount r.home
    (if r.write then Cn.VIOLATION_WRITES else Cn.VIOLATION_READS) 1).answerViolation r cause

/-- The tile that serves a request now, if its share can be read (R257, R263). -/
def State.serverOf (s : State) (r : Req) : Option Nat := s.server r.part r.tile (lsegOf r.lla)

/-- Causes for which a request is turned away once its slot is not PURGING (R273, R281, R283). -/
def State.rightsCause (s : State) (r : Req) : Option Nat :=
  if s.keyHeld r.kx then none
  else if !s.hasRight r.cls r.kx r.write then some (if r.write then 4 else 3)
  else if r.atom ≠ 0 && !s.hasRight r.cls r.kx false then some 3
  else none

/-- A decoded request with its rights: a violation, an admission with its lookup, or a wait (R273, R281, R283, R336, R339). It
never passes a waiting one of its observer to the same line (R160). -/
def State.offer (s : State) (r : Req) (pred : Nat) : State :=
  match s.rightsCause r with
  | some c => s.refuse r c r.dpa r.dpa
  | none =>
    match s.serverOf r with
    | none => s.refuse r 6 r.dpa r.dpa
    | some t =>
      if s.admissible t r && !((s.waitingWith r).any (fun h => h.sameLine r)) then
        let (s1, r1) := s.admitFeed t r
        s1.lookup t r1 pred
      else s.hold { r with keyWait := s.keyHeld r.kx }

/-- A CXL.mem request as a port decodes it: port, LD-ID or source PBR ID, tag, HPA, whether it writes, byte enables, data,
poison bit. -/
structure Flit where
  port : Nat
  id : Nat
  tag : Nat
  hpa : Nat
  write : Bool
  mask : ByteMask
  data : Line
  poison : Bool

/-- Whether a port takes CXL.mem requests (R358, R359, R518 aside). -/
def State.memPort (s : State) (p : Nat) : Bool :=
  s.portUsed p && (s.port p).up && (s.port p).cxlMem && s.dev.mainUp

/-- The request a flit makes: observer, source, times (R8, R157, R332). -/
def State.reqOf (s : State) (f : Flit) (kx dpa part tile lla : Nat) : Req :=
  let ld := (s.ldOf f.port f.id).getD (min f.id 15)
  { Req.none with
    iface := .cxl, port := f.port, ld := ld, tag := f.tag, cls := classOf f.port ld, src := f.port, kx := kx, dpa := dpa,
    part := part, tile := tile, lla := lla, write := f.write, mask := f.mask, data := f.data, poison := f.poison,
    feedCls := classOf f.port ld, decodedAt := s.now f.port, admittedAt := s.now f.port, order := (s.port f.port).order }

/-- A CXL.mem request is decoded in its port tile (R45 to R56, R63, R479). -/
def State.decodeFlit (s : State) (f : Flit) (pred : Nat) : State :=
  if !s.memPort f.port then s
  else
    let s1 := (s.modPort f.port (fun p => { p with order := p.order + 1 })).tcount f.port Cn.DECODES 1
    match s.routeHpa f.port f.id f.hpa with
    | .violation cause dpa q => s1.refuse (s.reqOf f 0 dpa 0 0 0) cause dpa q
    | .line kx dpa part tile lla =>
      let r := s.reqOf f kx dpa part tile lla
      if !s.dev.memActive then s1.refuse r 1 dpa dpa
      else s1.offer r pred

end Sys2Proof.Machine
end

