-- ==== Sys2Proof/Machine/Discard.lean ====
section
/-! DEFINITION. What a port that goes down, or a reset of one of its logical devices, discards (R154). -/
namespace Sys2Proof.Machine
open Sys2Proof

/-- Whether a request belongs to a port and, where one is named, to its logical device. -/
def Req.isOf (r : Req) (p : Nat) (l : Option Nat) : Bool :=
  decide (r.iface = .cxl ∧ r.port = p) && (match l with
    | .none => true
    | .some i => decide (r.ld = i))

/-- An accepted or merged write whose Cmp is never sent (R154). -/
def Req.mute (r : Req) : Req := { r with iface := .maint }

/-- A read or atomic of a discarded request ends: what still comes of it is dropped, its tokens return (R154). -/
def State.discardReads (s : State) (t p : Nat) (l : Option Nat) : State :=
  let x := s.tile t
  let rds := x.rd.rds.filter (fun r => decide (r.why = .host) && !r.answered && r.req.isOf p l)
  let waits := x.res.pwaits.filter (fun w => w.req.isOf p l)
  let s1 := s.each rds (fun s' r =>
    ((s'.endNib t r.id).modRd t (fun y => (y.giveToken r.req.src r.req.write).setRd r.id (fun q =>
      { q with answered := true, spec := false }))).retireRd t r.id)
  let s2 := s1.each waits (fun s' w => s'.modRd t (fun y => y.giveToken w.req.src w.req.write))
  s2.modRes t (fun r => { r with
    pwaits := r.pwaits.filter (fun w => !w.req.isOf p l),
    cmpWait := r.cmpWait.map (fun q => if q.isOf p l then q.mute else q),
    cmpHeld := r.cmpHeld.map (fun q => if q.isOf p l then q.mute else q) })

/-! ### Descriptor queues of an owner (R318, R330) -/

/-- Discards every word of a queue: complete descriptors not taken, torn ones, the one being assembled (R318). -/
def Queue.flush (q : Queue) : Queue := { q with groups := [], frame := [], overrun := false, sizeErr := false }
/-- Port and LD of a class under the present port mode (R332). -/
def State.classHome (s : State) (c : Nat) : Nat × Nat :=
  if s.pairX8 (c / 16) then (c / 8, c % 8) else (2 * (c / 16), c % 16)
/-- Key of an object of queue `q` of tile `t` (R312). -/
def queueKey (key t q : Nat) : Nat := Ob.inst key (64 * t + q)
/-- Owner class of a queue. -/
def State.queueOwner (s : State) (t q : Nat) : Nat := s.cell (queueKey Ob.SQ_OWNER t q) 0
/-- Discards the words in every queue whose owner is of a port, or of one of its logical devices (R330). -/
def State.flushOwned (s : State) (p : Nat) (l : Option Nat) : State :=
  { s with queues := s.queues.map (fun (x : Nat × Queue) =>
      let h := s.classHome (s.queueOwner (x.1 / 64) (x.1 % 64))
      let mine := decide (h.1 = p) && (match l with
        | none => true
        | some i => decide (h.2 = i))
      if mine then (x.1, x.2.flush) else x) }

/-- Discards the writes not accepted and the reads in progress of a port, or of one logical device of it; accepted writes are
kept (R154). WRITES_DISCARDED_RESET records the writes of each logical device. -/
def State.discard (s : State) (p : Nat) (l : Option Nat) : State :=
  let lost := (s.port p).held.filter (fun r => r.isOf p l && r.write)
  let lds := (lost.map Req.ld).eraseDups
  let s1 := (s.flushOwned p l).each s.tileNumbers (fun s' t => s'.discardReads t p l)
  let s2 := s1.modPort p (fun q => { q with
    held := q.held.filter (fun r => !r.isOf p l), ingress := q.ingress.filter (fun r => !r.isOf p l) })
  s2.each lds (fun s' d => s'.tev p Ev.WRITES_DISCARDED_RESET 0xFF p
    [(1, d), (4, (lost.filter (fun r => decide (r.ld = d))).length)])

/-! ### Mailboxes -/

/-- Requester of an LD's mailbox (R425, R429): port × 16 + LD; the FM-owned LD's mailbox lies outside these numbers. -/
def mailboxOf (p l : Nat) : Requester := { transport := 3, src := if l = 0xFFFF then 0x10000 + 16 * p else 16 * p + l }
/-- Port of a mailbox requester. -/
def Requester.port (q : Requester) : Nat := q.src % 0x10000 / 16
/-- Discards the staged sets and waiting messages of the requesters named (R433, R482). -/
def State.dropRequesters (s : State) (f : Requester → Bool) : State :=
  { s with mgmt := { s.mgmt with sets := s.mgmt.sets.filter (fun x => !f x.req),
                                 messages := s.mgmt.messages.filter (fun m => !f m.req) } }
/-- The staged set and a waiting command of one LD's mailbox are discarded (R482). -/
def State.dropMailbox (s : State) (p l : Nat) : State :=
  (s.modLd p l (fun d => { d with mailboxBusy := false })).dropRequesters (fun q => decide (q = mailboxOf p l))
/-- The mailboxes of port `p` are free again, or with `none` those of every port. [DESIGN CHOICE, assumption 26] -/
def State.freeMailboxes (s : State) (p : Option Nat) : State :=
  { s with lds := s.lds.map (fun (x : Nat × LD) =>
      if p.isNone ∨ p = some (x.1 / 16) ∨ p = some ((x.1 - 0xFFFF) / 16) then (x.1, { x.2 with mailboxBusy := false }) else x) }

/-! ### Link down -/

/-- A port as its link goes down (R387, R388): nothing of the link is in force, its IDE streams are not Secure. [DEDUCED, assumption 32] -/
def Port.down (q : Port) : Port :=
  { q with up := false, rate := 0, width := 0, flit := 0, cxlMem := false, ideMem := false, ideIo := false, ideMode := 0, withheld := false }
/-- A port's link goes down (R154, R387, R482): buffered stores as R154 says; staged sets of its mailboxes are discarded and the
sessions over it end. `cause` is that of LINK_DOWN. [DEDUCED, assumption 32] -/
def State.linkDown (s : State) (p cause : Nat) : State :=
  if (s.port p).up then
    let s1 := (s.modPort p Port.down).discard p none
    let s2 := (s1.freeMailboxes (some p)).dropRequesters (fun q => decide (q.transport = 3 ∧ q.port = p))
    let s3 := s2.each ((s2.mgmt.sessions.filter (fun x => decide (x.port = some p))).map Session.id) State.endSession
    (s3.raise (Ob.inst Ob.PORT_ERR_STATUS p) 0 (Ob.inst Ob.PORT_ERR_OCC p)).tev p Ev.LINK_DOWN 0xFF p [(1, cause)]
  else s

end Sys2Proof.Machine
end

