-- ==== Sys2Proof/Machine/Results.lean ====
section
/-! DEFINITION. What a dictionary operation answers (R425, R428): the state it leaves, its status code, its DETAIL (R430), its
bytes. -/
namespace Sys2Proof.Machine

/-- The outcome of a dictionary operation. -/
structure Result where
  st : State
  code : Nat
  detail : Nat
  data : List Nat
  /-- The object that the error record names, where that is not the one written (R435). -/
  named : Option Nat := none

/-- Error codes (15, table "error codes"). -/
def Err.noObject : Nat := 1
/-- The access code or the transport forbids the operation. -/
def Err.access : Nat := 2
/-- Wrong length, undefined OP or a malformed message. -/
def Err.type : Nat := 3
/-- A value outside its range, or a COMMIT that breaks a value rule. -/
def Err.range : Nat := 4
/-- Not legal in the present state (R430). -/
def Err.state : Nat := 5
/-- A resource is occupied. -/
def Err.busy : Nat := 6
/-- The range does not answer in the present device state (R432). -/
def Err.notReady : Nat := 7
/-- A COMMIT breaks the reservation check (R353). -/
def Err.budget : Nat := 8
/-- The role does not permit the write (R425). -/
def Err.rights : Nat := 9
/-- The journal of a COMMIT was not whole. -/
def Err.torn : Nat := 10
/-- Locked by a condition that the object's chapter names. -/
def Err.locked : Nat := 11

/-- DETAIL of a STATE error: the kind of the state (R430). -/
def Detail.device : Nat := 0
/-- Tile state. -/
def Detail.tile : Nat := 1
/-- Partition state. -/
def Detail.partition : Nat := 2
/-- Queue state. -/
def Detail.queue : Nat := 3
/-- State of an object. -/
def Detail.object : Nat := 4
/-- Configuration generation. -/
def Detail.generation : Nat := 5

/-- An operation that is done, with the bytes it returns. -/
def State.done (s : State) (data : List Nat) : Result := { st := s, code := 0, detail := 0, data := data }
/-- An operation that is done and returns nothing. -/
def State.ok (s : State) : Result := s.done []
/-- A refused operation: it changes nothing (R428). -/
def State.refused (s : State) (code detail : Nat) : Result := { st := s, code := code, detail := detail, data := [] }

/-- How an operation ends: at once, or at a later step (R427). -/
inductive OpEnd where
  | now (r : Result)
  | later (s : State) (w : Wait)

end Sys2Proof.Machine
end

