-- ==== Sys2Proof/Machine/Headers.lean ====
section
/-! DEFINITION. Slot rings (R471), the header sequence counter (R190), segment headers (R188, R189), free segments (R197,
R199), release and retirement (R97, R199), migration triggers and abandonment (R198, R202). -/
namespace Sys2Proof.Machine
open Sys2Proof

/-! ### Slot rings -/

/-- The last valid value of a slot ring (R472); slots stand newest first. [DEDUCED, assumption 10] -/
def PStore.ringValue (p : PStore) (ring : Nat) : Option Nat :=
  ((p.rings.getD ring []).find? (fun x => x.valid)).map RingSlot.value
/-- Saves a ring value into the next slot (R471). [DEDUCED, assumption 10] -/
def PStore.saveRing (p : PStore) (ring v : Nat) : PStore :=
  { p with rings := modAt p.rings ring (fun l =>
      let seq := match l.find? (fun x => x.valid) with
        | some x => x.seq + 1
        | none => 1
      ({ seq := seq, value := v, valid := true } :: l.filter (fun x => x.valid)).take 32) }

/-! ### Sequence numbers -/

/-- A fresh SEQ of tile `t` (R190): the ceiling of the next block of 2^20 is saved before its first value is used. -/
def State.freshSeq (s : State) (t : Nat) : State × Nat :=
  let m := (s.tile t).map
  let seq := m.seqCtr + 1
  let s1 := if seq ≤ m.seqCeil then s
    else (s.modMap t (fun m => { m with seqCeil := seq + 2 ^ 20 - 1 })).modPs t (fun p => p.saveRing 1 (seq + 2 ^ 20 - 1))
  (s1.modMap t (fun m => { m with seqCtr := seq }), seq)
/-- A fresh SEQ of residue ω (R190): values between are skipped. -/
def State.residueSeq (s : State) (t omega : Nat) : State × Nat :=
  let c := (s.tile t).map.seqCtr
  let skip := (omega + 8 - (c + 1) % 8) % 8
  (s.modMap t (fun m => { m with seqCtr := c + skip })).freshSeq t

/-! ### Headers -/

/-- Header copy `c` of segment `p` (R188). [DEDUCED, assumption 6; DESIGN CHOICE, assumption 61] -/
def TileMed.header (m : TileMed) (p c : Nat) : Header := m.hdr.getD (2 * p + c) Header.shipped
/-- LAST_REFRESH of a segment (R221). -/
def Tile.lastRefresh (x : Tile) (p : Nat) : Nat := (x.med.header p 0).lastRefresh
/-- The transfers of a stroke, or with 7 ticks of a read, of both header copies of a segment (R447). -/
def State.headerTransfers (s : State) (t p k : Nat) : State := (s.transfer t (p % 16) 3 k).transfer t ((p + 8) % 16) 3 k
/-- The same transfers in every nib of a tile. -/
def State.allNibs (s : State) (t cls k : Nat) : State := s.each (List.range 16) (fun s' d => s'.transfer t d cls k)
/-- Writes both header copies of a segment, copy 0 first (R189), and the age table entry (R222). -/
def State.writeHeader (s : State) (t p : Nat) (h : Header) : State :=
  ((s.headerTransfers t p 8).modMed t (fun m => { m with hdr := (m.hdr.put Header.shipped (2 * p) h).put Header.shipped (2 * p + 1) h })).modMap t
    (fun m => m.setSeg p { m.seg p with age := h.lastRefresh / 256 % 65536 })

/-! ### Free segments -/

/-- The free segment with the least MOVES, blanked ones only when asked; the lowest number among equals (R197, R199). -/
def TileMap.pickFree (m : TileMap) (blankedOnly : Bool) : Option Nat :=
  let ok (x : Seg) : Bool := decide (x.cond = .free) && (x.blanked || !blankedOnly)
  match (List.range (m.segs.length + 1)).find? (fun p => decide (p < segsPerTile) && ok (m.seg p) && decide ((m.seg p).moves = 0)) with
  | some p => some p
  | none => (minBy (fun x => x.2.moves) (m.segs.filter (fun x => ok x.2))).map (fun x => x.1)

/-- Blanks a free segment: the blank form in its 18,432 member slots, the gap form in its 128 gap slots, headers RELEASED
and BLANKED (R195, R221). -/
def State.blank (s : State) (t p : Nat) : State :=
  let x := s.tile t
  let d := x.pat.drift
  let h := x.med.header p 0
  let s1 := (s.allNibs t 3 (1160 * 8)).modMed t (fun m => { m with slots := m.slots.filter (fun e => decide (m.segOf e.1 ≠ some p)) })
  let s2 := s1.modMap t (fun m => m.setSeg p { m.seg p with blanked := true, blankMoves := (m.seg p).moves })
  (s2.writeHeader t p { h with state := 2, blanked := true, lseg := 0xFFFFFF, moves := (x.map.seg p).moves, lastRefresh := d }).tcount
    t Cn.BLANKING_STROKES 18560

/-- Frees the remap entries whose failing slots lie in a segment that is retired (R97). -/
def TileMed.freeRemaps (m : TileMed) (p : Nat) : TileMed :=
  { m with remap := m.remap.filter (fun x =>
      let a := slotAddr (x.1 / 32) x.2.bank x.2.slot
      !decide (segOfIndex (slotDie a) (indexOfSlot a) = p)) }
/-- The buffers that hold parity images of a segment's stripes are given up when it is no copy any more. -/
def State.forgetParity (s : State) (t p : Nat) : State :=
  s.modRes t (fun r => { r with bufs := r.bufs.filter (fun b => !(b.parity && decide (b.addr / segStripes = p))) })
/-- Takes a segment out of use for good (R199 step 5, R202, R207): headers RELEASED and RETIRED, remap entries freed. -/
def State.retire (s : State) (t p reason : Nat) : State :=
  let h := (s.tile t).med.header p 0
  let s1 := s.writeHeader t p { h with state := 2, retired := true, blanked := false, moves := ((s.tile t).map.seg p).moves }
  let s2 := s1.modMap t (fun m => m.setSeg p { m.seg p with cond := .retired, blanked := false, reason := reason })
  ((s2.forgetParity t p).modMed t (fun m => m.freeRemaps p)).tev t Ev.SEGMENT_RETIRED 0xFF p [(1, reason)]
/-- Releases a segment to the free list (R199 step 5, R65): headers RELEASED, not blanked. -/
def State.release (s : State) (t p : Nat) : State :=
  let h := (s.tile t).med.header p 0
  let s1 := s.writeHeader t p { h with state := 2, blanked := false, moves := ((s.tile t).map.seg p).moves }
  (s1.forgetParity t p).modMap t (fun m => m.setSeg p { m.seg p with cond := .free, blanked := false, lseg := 0xFFFFFF })

/-! ### Migrations -/

/-- Enters a migration trigger, once for a logical segment and reason (R198). -/
def State.trigger (s : State) (t lseg reason : Nat) : State :=
  s.modMap t (fun m =>
    if m.triggers.any (fun g => decide (g.lseg = lseg ∧ g.reason = reason)) then m
    else
      let o := (maxBy MigTrigger.order m.triggers).map MigTrigger.order
      { m with triggers := m.triggers ++ [{ lseg := lseg, reason := reason, order := o.getD 0 + 1 }] })

/-- Abandons the migration of a logical segment (R202): the map entry returns to its source, the target stays OPEN and is
free again, or is retired when a stroke into it failed with a full remap table. Causes recorded: 1 DRAIN, 2 partition
disabled, 3 stroke failure, 4 fence. -/
def State.abandonMigration (s : State) (t lseg cause : Nat) : State :=
  match (s.tile t).map.migs.find? (fun g => decide (g.lseg = lseg)) with
  | none => s
  | some g =>
    let before := s.spares t
    let s1 := s.modMap t (fun m =>
      let e := m.entry lseg
      let m1 := m.setEntry lseg { e with st := .bound, pseg := g.source }
      let m2 := { m1 with migs := m1.migs.filter (fun q => decide (q.lseg ≠ lseg)) }
      m2.setSeg g.target { m2.seg g.target with cond := .free, blanked := false, lseg := 0xFFFFFF })
    let s2 := s1.modRes t (fun r => { r with
      strokes := r.strokes.filter (fun k => !(k.target && (r.evicts.any (fun (e : Evict) => decide (e.id = k.evict ∧ lsegOf e.addr = lseg))))),
      evicts := r.evicts.map (fun (e : Evict) => if lsegOf e.addr = lseg then { e with copyData := false, copyParity := false } else e) })
    let s3 := s2.tev t Ev.MIGRATION_ABANDONED 0xFF lseg [(4, g.source), (4, g.target), (1, cause)]
    let s4 := if cause = 3 then (s3.retire t g.target 2).trigger t lseg g.reason else s3
    (s4.completeEvicts t).noteSpares t before

end Sys2Proof.Machine
end

