-- ==== Sys2Proof/Machine/Eviction.lean ====
section
/-! DEFINITION. Evictions (R138, R139, R201, R250, R258), counters of sealed lines at their eviction points (R297, R298), minor
counter overflow (R301). -/
namespace Sys2Proof.Machine
open Sys2Proof

/-! ### Reconstruction (R248, R257) -/

/-- DATA of a span-parity line of tile `pt` as its group element finds it: the entry's, else the stored one (R249). -/
def State.spanImage (s : State) (pt plla : Nat) : Line :=
  match (s.tile (s.homeOf pt)).res.find plla pt with
  | some e => e.storedOnly.getD e.data
  | none => (s.tile pt).storedLine plla
/-- XOR of the deltas of a group line that are still on their way (R250). -/
def State.deltasFor (s : State) (pt plla : Nat) : Line :=
  xorLines ((s.tileNumbers.map (fun t => (s.tile t).res.deltaOut)).flatten.filterMap (fun m =>
    if s.spanLine m.part m.owner m.lla = (pt, plla) then some m.delta else none))
/-- DATA of a spanned line of a fenced tile, from its group: span parity and the stroke versions of the other members
(R257). -/
def State.reconstruct (s : State) (owner part lla : Nat) : Line :=
  let p := s.partn part
  let (pt, plla) := s.spanLine part owner lla
  let q := s.spanGroup owner (lsegOf lla - p.segBase.getD owner 0)
  let others := (s.spanMembers part q (lineIndexOf lla)).filter (fun m => decide (m.1 ≠ owner))
  xorLines (s.spanImage pt plla :: s.deltasFor pt plla :: others.map (fun m => (s.tile m.1).storedLine m.2))
/-- The transfers of the reads that a reconstruction of a line of tile `owner` makes in the other tiles of its group (R257, R447); for a
span-parity line, those of its members (R251). -/
def State.groupReads (s : State) (owner part lla base : Nat) : State :=
  let p := s.partn part
  let span := p.ownsSpan owner (lsegOf lla)
  let (pt, plla) := if span then (owner, lla) else s.spanLine part owner lla
  let q := if span then (lsegOf lla - p.spanBase.getD owner 0) * s.n + owner
    else s.spanGroup owner (lsegOf lla - p.segBase.getD owner 0)
  let others := (s.spanMembers part q (lineIndexOf lla)).filter (fun m => decide (m.1 ≠ owner))
  let s1 := if span || ((s.tile (s.homeOf pt)).res.find plla pt).isSome then s else s.lineRead pt part plla base
  s1.each others (fun s' m => s'.lineRead m.1 part m.2 base)
/-- Stored DATA of a line of tile `owner`, wherever it can be had. -/
def State.storedAt (s : State) (owner part lla : Nat) : Line :=
  if s.homeOf owner = owner then (s.tile owner).storedLine lla else s.reconstruct owner part lla

/-! ### Selection (R138) -/

/-- Whether tile `t` flushes: DRAIN, or its isolation flush (R149, R262). -/
def State.flushing (s : State) (t : Nat) : Bool := decide (s.dev.st = .drain) || decide ((s.tile t).fence.isoFlush = 1)
/-- Stroke priority of an eviction: flush or host write-back (R346). -/
def State.evictPriority (s : State) (t : Nat) : Nat := if s.flushing t then 1 else 3
/-- Whether an eviction of a line is under way. -/
def TileRes.evicting (r : TileRes) (addr owner : Nat) : Bool := r.evicts.any (fun e => decide (e.addr = addr ∧ e.owner = owner))

/-- Level of a line in the order in which DRAIN evicts (R299): data, MAC and level 0, each higher level. -/
def State.drainRank (s : State) (e : Entry) : Nat :=
  match e.kind with
  | .metaLine =>
    match (s.partn e.part).metaAt e.owner e.addr with
    | some (.counter l _ _) => l + 1
    | _ => 1
  | _ => 0
/-- The lowest rank that still waits for an eviction point in a tile. -/
def State.drainFront (s : State) (t : Nat) : Nat :=
  ((s.tile t).res.entries.filter (fun e => decide (e.st = .dirty ∨ e.st = .incomplete) || e.redirty)).foldl
    (fun m e => min m (s.drainRank e)) 16

/-- Whether an entry may be taken for eviction now: DIRTY, no IN-FLIGHT image of its line, and on a tile of its own a
segment that is bound (R139, R197). -/
def State.mayEvict (s : State) (t : Nat) (e : Entry) : Bool :=
  let x := s.tile t
  decide (e.st = .dirty) && !x.res.evicting e.addr e.owner
    && !(x.res.entries.any (fun f => decide (f.addr = e.addr ∧ f.owner = e.owner ∧ f.st = .inflight)))
    && (decide (e.owner ≠ t) || !(x.res.strokes.any (fun k => decide (k.kind = .refresh ∧ k.addr = e.addr) && !k.parity)))
    && (decide (e.owner ≠ t) || (x.map.copyFor (lsegOf e.addr) (stripeOfLine (lineIndexOf e.addr))).isSome)
    && (decide (x.fence.st ≠ .fenced) || (decide (x.fence.isoFlush = 1) && !(s.partn e.part).spanned))
    && (decide (s.dev.st ≠ .drain) || (decide (s.drainRank e ≤ s.drainFront t) && !s.dev.flushStop.contains t))
/-- Whether an eviction of the line is asked for whatever the dirty count: DRAIN, isolation flush, key purge, Global
Persistent Flush, a full re-mirroring, a resync (R149, R262, R280, R153, R261, R270). -/
def State.evictForced (s : State) (t : Nat) (e : Entry) : Bool :=
  s.flushing t || s.keyHeld e.kx && decide (e.kind = .data) || (s.tile t).res.gpf.contains e.id
    || s.tileNumbers.any (fun w => decide (s.mirrorOf w = t) && (s.tile w).fence.remirror)
    || (decide (e.owner ≠ t) && decide ((s.tile e.owner).fence.rejoinStep = 5))
/-- Highest charge of the banks a line charges. -/
def State.lineCharges (s : State) (t : Nat) (e : Entry) : Nat :=
  if e.owner = t then ((s.tile t).chargeOf e.addr).foldl (fun m b => max m ((s.tile t).charge t b)) 0 else 0

/-- The line that slice `sl` of tile `t` evicts next (R138). -/
def State.evictChoice (s : State) (t sl : Nat) : Option Entry :=
  let r := (s.tile t).res
  let cs := r.entries.filter (fun e => decide (r.sliceOf e.kind e.addr = sl) && s.mayEvict t e)
  let beyond := cs.filter (fun e => e.overflow)
  let hot := cs.filter (fun e => decide (r.bankCap < 2 * s.lineCharges t e))
  let above := decide (s.cell Ob.WB_LOW 50 * r.limit < 100 * r.dirty)
  match minBy Entry.stamp beyond with
  | some e => some e
  | none =>
    match maxBy (s.lineCharges t) hot with
    | some e => some e
    | none => minBy Entry.stamp (if above then cs else cs.filter (fun e => s.evictForced t e))

/-! ### The start of an eviction (R139) -/

/-- The hold that an eviction places stands under this number. -/
def evictHold (id : Nat) : Nat := 2 ^ 40 + id

/-- An eviction of a line as it starts. -/
def Evict.start (id : Nat) (e : Entry) (stripe ds ps : Nat) : Evict :=
  { id := id, addr := e.addr, kind := e.kind, part := e.part, stripe := stripe, dslot := ds, pslot := ps, oldD := none,
    oldP := none, fromMembers := false, formed := false, lost := false, deltaWait := false, delta := 0, owner := e.owner,
    masked := false, ver := 0, dataDone := false, parityDone := false, copyData := false, copyParity := false,
    flush := false }

/-- Stands for the stripe of an eviction that strokes nothing (R258). -/
def noStripe : Nat := 2 ^ 44

/-- Starts the eviction of an entry: slot holds, and reads of the old lines that no buffer holds; a stand-in takes the old
data from a reconstruction (R139, R258). -/
def State.startEvict (s : State) (t : Nat) (e : Entry) (pred : Nat) : State :=
  let x := s.tile t
  let id := x.res.seqCtr
  let req := { Req.none with tile := e.owner, part := e.part, lla := e.addr, dpa := e.dpa }
  if e.owner ≠ t then
    let s1 := s.modRes t (fun r => { r.bump with evicts := r.evicts ++ [Evict.start id e noStripe 0 0] })
    let rid := x.rd.nextId
    s1.modRd t (fun y => { y with nextId := rid + 1, rds := y.rds ++
      [{ Rd.make .oldData req e.kind e.part e.addr 0 0 0 id 0 with id := rid, phase := .recon }] })
  else
    let lseg := lsegOf e.addr
    let st := stripeOfLine (lineIndexOf e.addr)
    match x.map.copyFor lseg st with
    | none => s
    | some c =>
      let S := c.stripe st
      let dpos := memberPos S (dataPosOf (lineIndexOf e.addr))
      let draw := c.slot st dpos
      let praw := c.slot st (parityPos S)
      let ds := x.finalSlot draw
      let ps := x.finalSlot praw
      let s1 := (s.modRes t (fun r => { r.bump with evicts := r.evicts ++ [Evict.start id e S ds ps] })).modRd t
        (fun y => (y.hold ds (evictHold id)).hold ps (evictHold id))
      let s2 := if (x.res.buf false e.addr).isSome then s1
        else (s1.startRead t (Rd.make .oldData req e.kind e.part e.addr S dpos draw id 0) pred).1.tcount t Cn.OLD_LINE_READS 1
      if (x.res.buf true S).isSome then s2
      else (s2.startRead t (Rd.make .oldParity req e.kind e.part e.addr S (parityPos S) praw id 0) pred).1.tcount t
        Cn.OLD_LINE_READS 1

/-- Starts the eviction of the other copy of a counter line of level 2 or above with it (R298). -/
def State.startPair (s : State) (t : Nat) (e : Entry) (pred : Nat) : State :=
  let s1 := s.startEvict t e pred
  match (s.partn e.part).metaAt e.owner e.addr with
  | some (.counter l i c) =>
    if e.kind = .metaLine ∧ 2 ≤ l then
      match (s1.tile t).res.find ((s.partn e.part).lineLla e.owner (.counter l i (1 - c))) e.owner with
      | some f => if f.st = .dirty ∧ !(s1.tile t).res.evicting f.addr f.owner then s1.startEvict t f pred else s1
      | none => s1
    else s1
  | _ => s1

/-! ### Strokes of new stored forms -/

/-- A new stored form of a line: what State.form strokes. -/
structure Form where
  owner : Nat
  part : Nat
  kind : EKind
  lla : Nat
  old : Line
  /-- The old parity, when known; else new parity comes from the members (R139). -/
  oldP : Option Line
  new : Line
  lost : Bool
  priority : Nat
  flush : Bool
  evict : Option Nat

/-- Strokes a new stored form of a line, with its stripe's parity and, for a protected line of a spanned partition, the
delta to the parity tile (R82, R139, R250); a stand-in only sends the delta and lists the segment (R258). -/
def State.form (s : State) (t : Nat) (f : Form) : State :=
  let x := s.tile t
  let spanned := (s.partn f.part).spanned && decide (f.kind ≠ .span)
  let id := f.evict.getD x.res.seqCtr
  let delta := f.old ^^^ f.new
  let send (s : State) : State :=
    if spanned then
      (s.modRes t (fun r => { r with deltaOut := r.deltaOut ++
        [{ owner := f.owner, lla := f.lla, part := f.part, evict := id, delta := delta }] })).ringSend t
          (s.spanLine f.part f.owner f.lla).1 ringDelta
    else s
  if f.owner ≠ t then
    let ev : Evict := { Evict.start id { Entry.empty f.kind f.part f.lla f.owner with st := .inflight } noStripe 0 0 with
      formed := true, deltaWait := spanned, delta := delta, dataDone := true, parityDone := true, flush := f.flush }
    let s1 := s.modRes t (fun r =>
      let b : TileRes := if f.evict.isSome then r else r.bump
      { b with evicts := b.evicts.filter (fun (q : Evict) => decide (q.id ≠ id)) ++ [ev] })
    send (s1.modFence f.owner (fun y =>
      if y.changed.contains (lsegOf f.lla) then y else { y with changed := y.changed ++ [lsegOf f.lla] }))
  else
    let lseg := lsegOf f.lla
    let st := stripeOfLine (lineIndexOf f.lla)
    match x.map.copyFor lseg st with
    | none => s
    | some c =>
      let S := c.stripe st
      let pos := memberPos S (dataPosOf (lineIndexOf f.lla))
      let oldP := match x.res.buf true S with
        | some b => some b.image
        | none => f.oldP
      let parity := match oldP with
        | some q => q ^^^ f.old ^^^ f.new
        | none => x.parityFromMembers lseg st c pos f.new
      let u : Update := { part := f.part, kind := f.kind, lla := f.lla, copy := c, new := f.new, lost := f.lost,
                          parity := parity, priority := f.priority, flush := f.flush, deltaWait := spanned, delta := delta,
                          evict := f.evict }
      let s1 := send (s.update t u)
      if (x.map.otherCopy lseg st).isSome then s1.tcount t Cn.DOUBLE_EVICTIONS 1 else s1

/-! ### Metadata changes -/

/-- Gives a metadata line of tile `owner` new DATA: its META entry becomes DIRTY (R297). -/
def State.dirtyMeta (s : State) (owner part : Nat) (x : MetaLine) (d : Line) : State :=
  let t := s.homeOf owner
  let lla := (s.partn part).lineLla owner x
  match (s.tile t).res.find lla owner with
  | none =>
    (s.modRes t (fun r => (r.place { Entry.empty .metaLine part lla owner with
      st := .dirty, mask := fullMask, data := d }).1)).shadowFor t owner true 1 lla
  | some e =>
    let s1 := s.modRes t (fun r => { r.setEntry e.id (fun e =>
      { e with st := e.writtenState fullMask, data := d, storedOnly := none, redirty := e.redirty || decide (e.st = .inflight),
               stamp := if e.st.counted then e.stamp else r.seqCtr }) with seqCtr := r.seqCtr + 1 })
    if e.st.counted then s1 else s1.shadowFor t owner true 1 lla
/-- Gives a counter line new DATA, in both copies from level 2 up (R298). -/
def State.dirtyCounter (s : State) (owner part level index : Nat) (d : Line) : State :=
  let s1 := s.dirtyMeta owner part (.counter level index 0) d
  if 2 ≤ level then s1.dirtyMeta owner part (.counter level index 1) d else s1

/-- DATA of the parent that holds a line's minor: a resident counter line, or the root (R295, R296). -/
def State.parentLine (s : State) (owner part : Nat) (p : Option (Nat × Nat)) : Option Line :=
  match p with
  | none => some (s.root owner part)
  | some (l, i) => s.counterData owner part l i
/-- Changes a parent: META DIRTY, or the root with its mirror copy (R297, R298, R304). -/
def State.setParent (s : State) (owner part : Nat) (p : Option (Nat × Nat)) (d : Line) : State :=
  match p with
  | none => s.modSeal owner part (fun x => { x with root := d.toNat })
  | some (l, i) => s.dirtyCounter owner part l i d

/-! ### Minor counter overflow (R301) -/

/-- Level of a parent: one above its children's. -/
def PartInfo.parentLevel (p : PartInfo) (x : Option (Nat × Nat)) : Nat :=
  match x with
  | none => topLevel p.data + 1
  | some (l, _) => l
/-- Index of child `j` of a parent. -/
def childIndex (x : Option (Nat × Nat)) (j : Nat) : Nat :=
  match x with
  | none => j
  | some (_, i) => 64 * i + j
/-- LLAs of child `j` of a parent: a data line, or the copies of a counter line. -/
def PartInfo.childLlas (p : PartInfo) (owner : Nat) (x : Option (Nat × Nat)) (j : Nat) : List Nat :=
  let l := p.parentLevel x
  let i := childIndex x j
  if l = 0 then [p.dataLla owner i]
  else if 3 ≤ l then [p.lineLla owner (.counter (l - 1) i 0), p.lineLla owner (.counter (l - 1) i 1)]
  else [p.lineLla owner (.counter (l - 1) i 0)]
/-- Whether a line of tile `owner` is in a state of a set at its home. -/
def State.entryIs (s : State) (owner lla : Nat) (f : LineState → Bool) : Bool :=
  (s.tile (s.homeOf owner)).res.entries.any (fun e => decide (e.addr = lla ∧ e.owner = owner) && f e.st)

/-- Places a re-padded image as an IN-FLIGHT entry that holds a stored form only, in the dirty count and the shadow, and
strokes it (R301 steps 3 and 4). -/
def State.placeRepad (s : State) (owner part : Nat) (kind : EKind) (lla : Nat) (old new : Line) : State :=
  let t := s.homeOf owner
  let p := s.partn part
  let s1 := match (s.tile t).res.find lla owner with
    | some e => s.modRes t (fun r => r.setEntry e.id (fun (e : Entry) =>
        { e with st := .inflight, data := new, storedOnly := if kind = EKind.data then some new else none }))
    | none =>
      let dpa := if kind = EKind.data then p.dpaOf owner lla else 0
      s.modRes t (fun r => (r.place { Entry.empty kind part lla owner with
        st := .inflight, mask := fullMask, data := new, dpa := dpa,
        storedOnly := if kind = EKind.data then some new else none }).1)
  let s2 := s1.shadowFor t owner true 1 lla
  s2.form t { owner := owner, part := part, kind := kind, lla := lla, old := old, oldP := none, new := new, lost := false,
              priority := 2, flush := false, evict := none }

/-! ### Errors of sealed lines (R307, R308) -/

/-- The lines that a counter line covers cannot be verified (R308): each data line that is on the medium only becomes LOST,
each counter line of the range is rewritten with every minor 0 and a MAJOR that no older image used. -/
def State.unverifiable (s : State) (owner part level index : Nat) : State :=
  let p := s.partn part
  let span := 64 ^ (level + 1)
  let first := index * span
  let lines := (List.range span).map (fun i => first + i) |>.filter (fun n => decide (n < p.data * segLines))
  let s1 := s.each lines (fun s' n =>
    let lla := p.dataLla owner n
    if (s'.tile owner).isLost lla || s'.entryIs owner lla LineState.counted ||
       decide (((s'.tile owner).map.entry (lsegOf lla)).st = .fresh) then s'
    else if s'.homeOf owner = owner then s'.makeLost owner part lla 2 false
    else s'.poisonLine owner lla 2)
  let (s2, seq) := s1.freshSeq owner
  let line := setMajor 0 (2 ^ 63 + seq)
  let s3 := s2.each (List.range (level + 1)) (fun s' l =>
    let n := 64 ^ (level - l)
    let idx := (List.range n).map (fun i => index * n + i) |>.filter (fun i =>
      decide (i < ((levels p.data).getD l { first := 0, lines := 0, copies := 1 }).lines))
    s'.each idx (fun s'' i => s''.dirtyCounter owner part l i line))
  (s3.raise (Ob.inst Ob.SEAL_STATUS part) 1 (Ob.inst Ob.SEAL_OCC part + 1)).tev owner Ev.COUNTER_RANGE_POISONED 0xFF level
    [(5, p.lineLla owner (.counter level index 0)), (7, p.dpaOf owner (p.dataLla owner first)),
     (7, p.dpaOf owner (p.dataLla owner (first + lines.length - 1)))]

/-- The candidate that the stripe of a line of tile `t` gives for it, the line itself left out (R84, R307, R308). -/
def Tile.rebuiltLine (x : Tile) (lla : Nat) : Option Line :=
  let st := stripeOfLine (lineIndexOf lla)
  match x.map.copyFor (lsegOf lla) st with
  | none => none
  | some c =>
    let pos := memberPos (c.stripe st) (dataPosOf (lineIndexOf lla))
    x.xorVersions (lsegOf lla) st c ((List.range 9).filter (fun j => decide (j ≠ pos)))
/-- A data line of tile `owner` whose integrity failure no candidate mends is LOST (R307). -/
def State.integrityLost (s : State) (owner part lla : Nat) : State :=
  let s1 := (s.raise (Ob.inst Ob.SEAL_STATUS part) 0 (Ob.inst Ob.SEAL_OCC part)).tev owner Ev.INTEGRITY_FAIL 0xFF
    ((s.partn part).dpaOf owner lla) [(5, lla), (1, part)]
  if s.homeOf owner = owner then s1.makeLost owner part lla 2 false else s1.poisonLine owner lla 2
/-- The versions of a stored line that an overflow reads, in the order in which they are tried: as found, rebuilt from the stripe, the
other copy; the first that verifies with its number, 0 as found (R301 step 2, R307, R308). [DEDUCED, assumption 59] -/
def firstGood (good : Line → Bool) (found : Line) (rebuilt other : Option Line) : Option (Line × Nat) :=
  if good found then some (found, 0)
  else match rebuilt.filter good with
    | some d => some (d, 1)
    | none => (other.filter good).map (fun d => (d, 2))
/-- The record of a line that an overflow found broken and mended (R307, R308). [DEDUCED, assumption 59] -/
def State.noteMended (s : State) (owner lla version : Nat) : State :=
  if version = 0 then s
  else (s.tcount owner Cn.MAC_MISMATCHES 1).tev owner Ev.INTEGRITY_REPAIRED 0xFF lla [(1, version)]

/-- Re-pads child `j` of a parent from its old counter to its new one (R301 steps 2 and 3). A child that does not verify is
mended as an integrity failure is, or is LOST or unverifiable (R307, R308). The second result says whether an image was placed.
[DEDUCED, assumption 59] -/
def State.repadChild (s : State) (owner part : Nat) (x : Option (Nat × Nat)) (j : Nat) (old new : Line) : State × Bool :=
  let p := s.partn part
  let l := p.parentLevel x
  let i := childIndex x j
  let co := (lineMajor old, lineMinor old j)
  let cn := (lineMajor new, lineMinor new j)
  let stripe (lla : Nat) : Option Line := if s.homeOf owner = owner then (s.tile owner).rebuiltLine lla else none
  if l = 0 then
    let lla := p.dataLla owner i
    if (s.tile owner).isLost lla then (s, false)
    else
      let mac := (s.metaData owner part (.mac (i / 8))).getD (s.storedAt owner part (p.lineLla owner (.mac (i / 8))))
      let good (d : Line) : Bool := decide (s.verifyData owner part lla co (macSlot mac (i % 8)) d = .valid)
      match firstGood good (s.storedAt owner part lla) (stripe lla) none with
      | none => ((s.tcount owner Cn.MAC_MISMATCHES 1).integrityLost owner part lla, false)
      | some (d, v) =>
        let d2 := d ^^^ s.pad owner part lla co.1 co.2 ^^^ s.pad owner part lla cn.1 cn.2
        let s1 := (s.noteMended owner lla v).dirtyMeta owner part (.mac (i / 8))
          (setMacSlot mac (i % 8) (s.dataMac owner part lla cn.1 cn.2 d2))
        (s1.placeRepad owner part .data lla d d2, true)
  else
    let llas := p.childLlas owner x j
    let lla := llas.headD 0
    let good (d : Line) : Bool := decide (s.verifyCounter owner part lla co d = .valid)
    let found := match s.counterData owner part (l - 1) i with
      | some d => some (d, 0)
      | none => firstGood good (s.storedAt owner part lla) (stripe lla) ((llas[1]?).map (fun a => s.storedAt owner part a))
    match found with
    | none => ((s.tcount owner Cn.MAC_MISMATCHES 1).unverifiable owner part (l - 1) i, false)
    | some (d, v) =>
      let d2 := setMac d (s.counterMac owner part lla cn.1 cn.2 d)
      (((s.noteMended owner lla v)).each llas (fun s' a => s'.placeRepad owner part .metaLine a d d2), true)

/-- An overflow of a parent for its evicting child `j` (R301); `none` while a child is IN-FLIGHT. [DEDUCED, assumption 58] -/
def State.overflow (s : State) (owner part : Nat) (x : Option (Nat × Nat)) (j : Nat) (old : Line) : Option State :=
  let p := s.partn part
  let js := (List.range 64).filter (fun i => decide (i ≠ j ∧ lineMinor old i ≠ 0))
  if js.any (fun i => (p.childLlas owner x i).any (fun a => s.entryIs owner a (fun st => decide (st = .inflight)))) then none
  else
    let reads := js.filter (fun i => !(p.childLlas owner x i).any (fun a => s.entryIs owner a LineState.counted))
    let raised := setMajor old ((lineMajor old + 1) % 2 ^ 64)
    let new := (j :: js).foldl (fun d i => setMinor d i 1) raised
    let s1 := s.setParent owner part x new
    let r := reads.foldl (fun acc i =>
      let y := acc.1.repadChild owner part x i old new
      (y.1, acc.2 + bitNat y.2)) (s1, 0)
    let lla := match x with
      | none => 0
      | some (l, i) => p.lineLla owner (.counter l i 0)
    some ((r.1.tcount (s.homeOf owner) Cn.OVERFLOWS 1).tev (s.homeOf owner) Ev.MINOR_OVERFLOW 0xFF lla
      [(1, p.parentLevel x), (4, r.2)])

/-- Raises the minor of child `j` of a parent, through an overflow where it would reach 63 outside DRAIN (R297, R298, R299,
R301). Answers the counter the child is evicted under; `none` while it must wait. -/
def State.raiseMinor (s : State) (owner part : Nat) (x : Option (Nat × Nat)) (j : Nat) : Option (State × (Nat × Nat)) :=
  match s.parentLine owner part x with
  | none => none
  | some line =>
    let m := lineMinor line j
    if 62 ≤ m ∧ s.dev.st ≠ .drain then
      (s.overflow owner part x j line).map (fun s1 => (s1, ((lineMajor line + 1) % 2 ^ 64, 1)))
    else some (s.setParent owner part x (setMinor line j (m + 1)), (lineMajor line, m + 1))

/-! ### The eviction point (R139) -/

/-- Whether the old images of an eviction are there. -/
def State.oldsReady (s : State) (t : Nat) (ev : Evict) : Bool :=
  let r := (s.tile t).res
  let data := (decide (ev.owner = t) && (r.buf false ev.addr).isSome) || ev.oldD.isSome
  data && (decide (ev.owner ≠ t) || (r.buf true ev.stripe).isSome || ev.oldP.isSome || ev.fromMembers)

/-- The eviction of a line reaches its point with a new stored form: strokes, IN-FLIGHT, holds released (R139). -/
def State.formEvict (s : State) (t : Nat) (ev : Evict) (e : Entry) (new : Line) (lost : Bool) : State :=
  let r := (s.tile t).res
  let old := match (if ev.owner = t then r.buf false ev.addr else none) with
    | some b => b.image
    | none => ev.oldD.getD 0
  let s1 := s.modRd t (fun y => { y with holds := y.holds.filter (fun h => decide (h.rd ≠ evictHold ev.id)) })
  let s2 := s1.modRes t (fun r => r.setEntry e.id (fun e => { e with st := .inflight, redirty := false }))
  let s3 := s2.form t { owner := ev.owner, part := ev.part, kind := ev.kind, lla := ev.addr, old := old,
                        oldP := if ev.fromMembers then none else ev.oldP, new := new, lost := lost,
                        priority := s.evictPriority t, flush := s.flushing t, evict := some ev.id }
  let s4 := s3.tcount t Cn.EVICTIONS 1
  let s5 := if s.keyHeld e.kx ∧ e.kind = .data then s4.tcount t Cn.KEY_PURGE_EVICTIONS 1 else s4
  s5.completeEvicts t

/-- Gives up an eviction whose line is DIRTY no more. -/
def State.dropEvict (s : State) (t : Nat) (ev : Evict) : State :=
  (s.modRes t (fun r => { r with evicts := r.evicts.filter (fun (q : Evict) => decide (q.id ≠ ev.id)) })).modRd t (fun y =>
    { y with holds := y.holds.filter (fun h => decide (h.rd ≠ evictHold ev.id)) })

/-- The eviction point of a sealed data line (R297). -/
def State.pointSealed (s : State) (t : Nat) (ev : Evict) (e : Entry) : State :=
  let p := s.partn ev.part
  let n := p.dataNumber ev.owner ev.addr
  let need := s.metaMissing ev.owner ev.part (p.chain ev.owner ev.addr)
  if !need.isEmpty then s.fetchMeta ev.owner ev.part need
  else
    match s.raiseMinor ev.owner ev.part (some (0, n / 64)) (n % 64) with
    | none => s
    | some (s1, c) =>
      let new := s1.encrypt ev.part e.kx e.dpa e.data ^^^ s1.pad ev.owner ev.part ev.addr c.1 c.2
      let mac := (s1.metaData ev.owner ev.part (.mac (n / 8))).getD 0
      let s2 := s1.dirtyMeta ev.owner ev.part (.mac (n / 8))
        (setMacSlot mac (n % 8) (s1.dataMac ev.owner ev.part ev.addr c.1 c.2 new))
      s2.formEvict t ev e new false

/-- The eviction point of a counter line, both copies of level 2 and above together (R298). -/
def State.pointCounter (s : State) (t : Nat) (ev : Evict) (e : Entry) (l i c : Nat) : State :=
  let p := s.partn ev.part
  let need := s.metaMissing ev.owner ev.part (p.chainAbove l i)
  let other := (s.tile t).res.evicts.find? (fun q =>
    decide (2 ≤ l ∧ q.owner = ev.owner ∧ q.addr = p.lineLla ev.owner (.counter l i (1 - c))) && !q.formed)
  let ready := match other with
    | some q => s.oldsReady t q
    | none => true
  if !need.isEmpty then s.fetchMeta ev.owner ev.part need
  else if !ready then s
  else
    match s.raiseMinor ev.owner ev.part (parentOf p.data l i) (minorOf i) with
    | none => s
    | some (s1, ctr) =>
      let lla := p.lineLla ev.owner (.counter l i 0)
      let new := setMac e.data (s1.counterMac ev.owner ev.part lla ctr.1 ctr.2 e.data)
      let s2 := (s1.modRes t (fun r => r.setEntry e.id (fun e => { e with data := new }))).formEvict t ev e new false
      match other with
      | none => s2
      | some q =>
        match (s2.tile t).res.entries.find? (fun f => decide (f.addr = q.addr ∧ f.owner = q.owner ∧ f.st = .dirty)) with
        | none => s2
        | some f => (s2.modRes t (fun r => r.setEntry f.id (fun f => { f with data := new }))).formEvict t q f new false

/-- The eviction point (R139, R297, R298, R155, R323). -/
def State.evictPoint (s : State) (t : Nat) (ev : Evict) : State :=
  let r := (s.tile t).res
  match r.entries.find? (fun e => decide (e.addr = ev.addr ∧ e.owner = ev.owner ∧ e.st = .dirty)) with
  | none => s.dropEvict t ev
  | some e =>
    if !s.oldsReady t ev ∨ 254 < r.inflightIn (r.sliceOf .data ev.addr) then s
    else if e.poisoned then s.formEvict t ev e 0 true
    else match e.kind with
      | .span => s.formEvict t ev e (e.storedOnly.getD e.data) false
      | .data =>
        if (s.partn e.part).isSealed then s.pointSealed t ev e
        else s.formEvict t ev e (if e.blank then 0 else s.encrypt e.part e.kx e.dpa e.data) false
      | .metaLine =>
        match (s.partn e.part).metaAt e.owner e.addr with
        | some (.counter l i c) => s.pointCounter t ev e l i c
        | _ => s.formEvict t ev e e.data false

end Sys2Proof.Machine
end

