-- ==== Sys2Proof/Machine/MetaFetch.lean ====
section
/-! DEFINITION. Fetched MAC and counter lines (R297, R300), errors in sealed metadata (R308, R309), lost span parity (R251). -/
namespace Sys2Proof.Machine
open Sys2Proof

/-- Makes a metadata line resident as META CLEAN (R300). -/
def State.fillMeta (s : State) (owner part lla : Nat) (d : Line) : State :=
  s.modRes (s.homeOf owner) (fun r =>
    match r.find lla owner with
    | some _ => r
    | none => (r.place { Entry.empty .metaLine part lla owner with mask := fullMask, data := d }).1)

/-- Strokes a valid version of a line over a failed one (R88, R308). -/
def State.repairLine (s : State) (t part lla : Nat) (d : Line) : State :=
  let st := stripeOfLine (lineIndexOf lla)
  match (s.tile t).map.copyFor (lsegOf lla) st with
  | none => s
  | some c => s.repairMember t part (lsegOf lla) st (memberPos (c.stripe st) (dataPosOf (lineIndexOf lla))) c d 3

/-- A counter line that failed verification (R308): rebuilt from its stripe, then the other copy, then its range is
unverifiable. -/
def State.counterFailed (s : State) (owner part level index copy : Nat) (ctr : Nat × Nat) : State :=
  let p := s.partn part
  let lla0 := p.lineLla owner (.counter level index 0)
  let lla := p.lineLla owner (.counter level index copy)
  let s1 := s.tcount (s.homeOf owner) Cn.MAC_MISMATCHES 1
  let good (d : Line) : Bool := decide (s.verifyCounter owner part lla0 ctr d = .valid)
  let rebuilt := if s.homeOf owner = owner then (s.tile owner).rebuiltLine lla else none
  let other := if 2 ≤ level then some (s.storedAt owner part (p.lineLla owner (.counter level index (1 - copy)))) else none
  let take (d : Line) (version : Nat) : State :=
    let s2 := if s1.homeOf owner = owner then s1.repairLine owner part lla d else s1
    (s2.fillMeta owner part lla d).tev owner Ev.INTEGRITY_REPAIRED 0xFF lla [(1, version)]
  match rebuilt.filter good with
  | some d => take d 1
  | none =>
    match other.filter good with
    | some d => take d 2
    | none => s1.unverifiable owner part level index

/-- META_FETCH_DONE (R297, R300, R118): a fetched MAC or counter line is verified against its parent and becomes resident as
META; reads that waited for it go on. -/
def execMetaFetchDone (t rd : Nat) (s : State) : Host.Outcome State Fault Refusal :=
  .next (match (s.tile t).rd.byId rd with
    | none => s
    | some r =>
      if r.why = .metaLine ∧ r.phase = .decoded then
        let owner := r.req.tile
        let drop (s : State) : State := (s.modRd t (fun x => x.dropRd rd)).retryAwaiting t
        match (s.partn r.part).metaAt owner r.lla with
        | none => s.modRd t (fun x => x.dropRd rd)
        | some (.mac _) => drop (s.fillMeta owner r.part r.lla r.acc)
        | some (.counter l i c) =>
          match s.lineCounter owner r.part l i with
          | none => s
          | some ctr =>
            let lla0 := (s.partn r.part).lineLla owner (.counter l i 0)
            let s1 := s.tcount t Cn.SEALED_VERIFIES 1
            if !r.lost ∧ s.verifyCounter owner r.part lla0 ctr r.acc = .valid then drop (s1.fillMeta owner r.part r.lla r.acc)
            else drop (s1.counterFailed owner r.part l i c ctr)
      else s)

/-- A span-parity line of tile `pt` is recomputed from the stroke versions of its members (R251). -/
def State.spanFromMembers (s : State) (part pt plla : Nat) : Line :=
  let p := s.partn part
  let k := lsegOf plla - p.spanBase.getD pt 0
  xorLines (s.deltasFor pt plla :: (s.spanMembers part (k * s.n + pt) (lineIndexOf plla)).map (fun m =>
    s.storedAt m.1 part m.2))

/-- An uncorrectable error in a META entry that is DIRTY (R309). -/
def State.metaEntryLost (s : State) (t : Nat) (e : Entry) : State :=
  let p := s.partn e.part
  match p.metaAt e.owner e.addr with
  | none => s
  | some (.mac i) =>
    let ns := (List.range 8).map (fun k => 8 * i + k) |>.filter (fun n =>
      !(s.entryIs e.owner (p.dataLla e.owner n) LineState.counted))
    let s1 := s.each ns (fun s' n => s'.makeLost e.owner e.part (p.dataLla e.owner n) 2 false)
    let s2 := s1.modRes t (fun r => r.setEntry e.id (fun e => { e with data := 0 }))
    let s3 := if ns.isEmpty then s2 else s2.raise (Ob.inst Ob.SEAL_STATUS e.part) 1 (Ob.inst Ob.SEAL_OCC e.part + 1)
    s3.tev t Ev.MAC_LINE_LOST 0xFF ns.length (ns.map (fun n => (5, p.dataLla e.owner n)))
  | some (.counter l i c) =>
    if 2 ≤ l then
      match s.metaData e.owner e.part (.counter l i (1 - c)) with
      | some d => s.modRes t (fun r => r.setEntry e.id (fun e => { e with data := d }))
      | none => s.unverifiable e.owner e.part l i
    else s.unverifiable e.owner e.part l i

/-- Poisons the line of an entry (R155). -/
def State.poisonEntry (s : State) (t : Nat) (e : Entry) : State :=
  let s1 := (s.modRes t (fun r => r.setEntry e.id (fun e => { e with poisoned := true }))).poisonLine e.owner e.addr 2
  ((s1.raise (Ob.inst Ob.RES_ECC_STATUS t) 1 (Ob.inst Ob.RES_ECC_POISON_COUNT t)).tcount t Cn.LINES_LOST 1).tev t
    Ev.RES_LINE_POISONED 0xFF e.dpa [(5, e.addr)]

/-- An uncorrectable error in an entry's data (R155, R251, R309). -/
def State.entryFault (s : State) (t : Nat) (e : Entry) : State :=
  match e.st with
  | .clean => s.modRes t (fun r => r.dropEntry e.id)
  | .mirror =>
    match (s.tile e.owner).res.find e.addr e.owner with
    | some f => s.modRes t (fun r => r.setEntry e.id (fun e => { e with data := f.data, mask := f.mask, kx := f.kx }))
    | none => s.modRes t (fun r => r.dropEntry e.id)
  | .inflight =>
    if e.redirty then (if e.kind = .metaLine then s.metaEntryLost t e else s.poisonEntry t e) else s
  | _ =>
    match e.kind with
    | .metaLine => s.metaEntryLost t e
    | .span =>
      let d := s.spanFromMembers e.part e.owner e.addr
      ((s.groupReads e.owner e.part e.addr 1).modRes t (fun r => r.setEntry e.id (fun e => { e with storedOnly := some d, data := d }))).tev t
        Ev.SPAN_PARITY_RECOMPUTED 0xFF e.addr []
    | .data => s.poisonEntry t e

/-- A tag fails (R155): its way is invalidated, and every line of the set that the shadow lists and the reservoir lacks is
poisoned. -/
def State.tagFault (s : State) (t : Nat) (e : Entry) : State :=
  let r := (s.tile t).res
  let s1 := s.modRes t (fun r => r.dropEntry e.id)
  let owners := s.tileNumbers.filter (fun o => decide (s.homeOf o = t))
  let m := s.mirrorOf t
  let listed := if m < s.n then (s.tile m).res.shadow else [{ owner := e.owner, kind := 1, addr := e.addr }]
  let gone := listed.filter (fun q => decide ((q.kind = 1 ∨ q.kind = 3) ∧ owners.contains q.owner)
    && r.sameSet e (s.lineKind ((s.partOfSeg q.owner (lsegOf q.addr)).getD e.part) q.owner q.addr) q.addr
    && ((s1.tile t).res.find q.addr q.owner).isNone)
  let s2 := s1.each gone (fun s' q =>
    let part := (s'.partOfSeg q.owner (lsegOf q.addr)).getD e.part
    let s3 := if q.owner = t then s'.makeLost t part q.addr 2 false else s'.poisonLine q.owner q.addr 2
    s3.shadowFor t q.owner false q.kind q.addr)
  let s4 := if gone.isEmpty then s2 else s2.raise (Ob.inst Ob.RES_ECC_STATUS t) 1 (Ob.inst Ob.RES_ECC_POISON_COUNT t)
  s4.tev t Ev.RES_TAG_LOST 0xFF (r.sliceOf e.kind e.addr) [(2, r.setOf e.kind e.addr), (4, gone.length)]

/-- RES_ECC_ERROR (R155, R251, R309): a reservoir SRAM error at tile `t`. A failed stored-form buffer is formed again from
the plaintext, or from the stroke versions of the members, and holds what it held. -/
def execResEccError (t : Nat) (f : ResFault) (s : State) : Host.Outcome State Fault Refusal :=
  .next (if t < s.n then
      match f with
      | .corrected sl set =>
        ({ s with cnt := { s.cnt with resCorrected := satAdd 0xFFFFFFFF s.cnt.resCorrected 1 } }.raise (Ob.inst Ob.RES_ECC_STATUS t) 0 (Ob.inst Ob.RES_ECC_CORR_COUNT t)).tev t Ev.RES_ECC_CORRECTED 0xFF sl [(2, set)]
      | .entry id =>
        match (s.tile t).res.byId id with
        | none => s
        | some e => s.entryFault t e
      | .dataBuf addr => s.modRes t (fun r => r.forgetBuf false addr)
      | .parityBuf S => s.modRes t (fun r => r.forgetBuf true S)
      | .tag id =>
        match (s.tile t).res.byId id with
        | none => s
        | some e => s.tagFault t e
    else s)

end Sys2Proof.Machine
end

