-- ==== Sys2Proof/Machine/WritePath.lean ====
section
/-! DEFINITION. Mirror messages (R129, R133), evictions and strokes as commands (R138 to R142, R95, R99, R211 to R213), binding
(R197), deltas (R250), Global Persistent Flush (R153). -/
namespace Sys2Proof.Machine
open Sys2Proof

/-! ### Mirror messages -/

/-- Merges a mirror message into the MIRROR entry of its line at tile `m` (R133). -/
def State.mergeMirror (s : State) (m : Nat) (r : Req) : State :=
  match (s.tile m).res.entries.find? (fun e => decide (e.addr = r.lla ∧ e.owner = r.tile ∧ e.st = .mirror ∧
      (e.kx = r.kx ∨ r.mask = fullMask))) with
  | some e => s.modRes m (fun x => x.setEntry e.id (fun e =>
      { e with data := mergeBytes r.mask r.data e.data, mask := e.mask ||| r.mask, kx := r.kx,
               poisoned := e.poisoned || r.poison, blank := r.zero && decide (r.mask = fullMask) }))
  | none => s.modRes m (fun x => (x.place { Entry.empty .data r.part r.lla r.tile with
      st := .mirror, mask := r.mask, data := mergeBytes r.mask r.data 0, dpa := r.dpa, kx := r.kx, poisoned := r.poison,
      blank := r.zero && decide (r.mask = fullMask) }).1)

/-- MIRROR_MESSAGE (R133): the oldest mirror message of tile `t` reaches its mirror tile, which merges its bytes into a
MIRROR entry. -/
def execMirrorMessage (t : Nat) (s : State) : Host.Outcome State Fault Refusal :=
  .next (match (s.tile t).res.mirrorOut with
    | [] => s
    | r :: rest =>
      let m := s.mirrorOf t
      if r.write = true ∧ m < s.n ∧ (s.tile m).fence.st ≠ .fencing ∧ (s.tile t).fence.remirror = false then
        (((s.modRes t (fun x => { x with mirrorOut := rest })).mergeMirror m r).ringSend t m ringMirror).noteGate m
      else s)

/-- Writes whose mirror message is still on its way. -/
def TileRes.unmirrored (r : TileRes) : Nat := (r.mirrorOut.filter (fun q => q.write)).length

/-- MIRROR_ACK (R129, R126): the acknowledgement of the oldest mirrored write reaches tile `t`; the write is accepted and
its Cmp sent. -/
def execMirrorAck (t : Nat) (s : State) : Host.Outcome State Fault Refusal :=
  .next (match (s.tile t).res.cmpWait with
    | [] => s
    | r :: rest =>
      if (s.tile t).res.unmirrored < (s.tile t).res.cmpWait.length then
        let s1 := s.modRes t (fun x => { x.log r with cmpWait := rest })
        (((s1.tcount t Cn.WRITES_ACCEPTED 1).ringSend (s.mirrorOf t) t ringMirror).ackWrite t r).noteGate t
      else s)

/-- MIRROR_RELEASE (R133, R250): the oldest release message of tile `t` removes the MIRROR entry. -/
def execMirrorRelease (t : Nat) (s : State) : Host.Outcome State Fault Refusal :=
  .next (match (s.tile t).res.mirrorOut with
    | [] => s
    | r :: rest =>
      let m := s.mirrorOf t
      if r.write = false ∧ m < s.n ∧ (s.tile m).fence.st ≠ .fencing ∧ (s.tile t).fence.remirror = false then
        let s1 := s.modRes t (fun x => { x with mirrorOut := rest })
        ((s1.modRes m (fun x => { x with entries := x.entries.filter (fun e =>
          !decide (e.addr = r.lla ∧ e.owner = t ∧ e.st = .mirror)) })).ringSend t m ringMirror).noteGate m
      else s)

/-! ### Evictions -/

/-- EVICTION_START (R138, R139): slice `slice` of tile `t` selects a line, places slot holds and reads the old lines. -/
def execEvictionStart (t slice pred : Nat) (s : State) : Host.Outcome State Fault Refusal :=
  .next (match s.evictChoice t slice with
    | none => s
    | some e => if t < s.n then s.startPair t e pred else s)

/-- EVICTION_POINT (R139): eviction `id` of tile `t` forms new data and parity; line and parity become IN-FLIGHT. -/
def execEvictionPoint (t id : Nat) (s : State) : Host.Outcome State Fault Refusal :=
  .next (match (s.tile t).res.evicts.find? (fun e => decide (e.id = id) && !e.formed) with
    | none => s
    | some ev => (s.evictPoint t ev).noteGate t)

/-- Merges a delta into the span-parity entry of its group line at parity tile `pt` (R250): the entry becomes DIRTY. -/
def State.mergeDelta (s : State) (pt part plla : Nat) (delta : Line) : State :=
  let t := s.homeOf pt
  let new := s.spanImage pt plla ^^^ delta
  match (s.tile t).res.find plla pt with
  | some e =>
    let s1 := s.modRes t (fun r => { r.setEntry e.id (fun e =>
      { e with st := e.writtenState fullMask, storedOnly := some new, data := new,
               redirty := e.redirty || decide (e.st = .inflight),
               stamp := if e.st.counted then e.stamp else r.seqCtr }) with seqCtr := r.seqCtr + 1 })
    if e.st.counted then s1 else s1.shadowFor t pt true 1 plla
  | none =>
    (s.modRes t (fun r => (r.place { Entry.empty .span part plla pt with
      st := .dirty, mask := fullMask, data := new, storedOnly := some new }).1)).shadowFor t pt true 1 plla

/-- SPAN_DELTA (R250): the oldest delta of tile `t` is merged at its parity tile and the eviction point ends. While the
parity tile is fenced, its span-parity segment is listed for its resync instead. -/
def execSpanDelta (t : Nat) (s : State) : Host.Outcome State Fault Refusal :=
  .next (match (s.tile t).res.deltaOut with
    | [] => s
    | m :: rest =>
      let (pt, plla) := s.spanLine m.part m.owner m.lla
      let s1 := s.modRes t (fun r => { r with deltaOut := rest, evicts := r.evicts.map (fun (e : Evict) =>
        if e.id = m.evict then { e with deltaWait := false } else e) })
      let s2 := if s.tileActive pt then (s1.mergeDelta pt m.part plla m.delta).tcount pt Cn.SPAN_DELTAS 1
        else s1.modFence pt (fun f =>
          if f.changed.contains (lsegOf plla) then f else { f with changed := f.changed ++ [lsegOf plla] })
      ((s2.completeEvicts t).noteGate t).noteGate pt)

/-! ### Strokes -/

/-- The eviction a stroke belongs to. -/
def TileRes.evictOf (r : TileRes) (k : Stroke) : Option Evict := r.evicts.find? (fun e => decide (e.id = k.evict))
/-- Whether the poison of a stripe is still to be stroked, which its new parity waits for (R86). -/
def TileRes.poisonFirst (r : TileRes) (k : Stroke) : Bool :=
  decide (k.kind = .parityFix) && match r.evictOf k with
    | none => false
    | some e => r.strokes.any (fun q => decide (q.kind = .poison ∧ q.addr / 8 = e.addr / 8))
/-- Whether a stroke can start but for the priority order (R140, R347). [DESIGN CHOICE, assumption 11] -/
def State.canStart (s : State) (t : Nat) (k : Stroke) : Bool :=
  let x := s.tile t
  let b := bankOf k.slot
  s.strokeReady t k && (x.sensesAt b .service).isEmpty && (x.sensesAt b .direct).isEmpty && (x.sensesAt b .member).isEmpty
    && (k.flush || decide (x.res.inFlight < s.strokeLimit)) && !x.res.poisonFirst k

/-- Takes the credit of a stroke (R345, R346): priority 2 from its reserve first, priority 3 from it last. -/
def State.takeCredit (s : State) (t : Nat) (k : Stroke) : State :=
  let left := s.feed.left.getD t 0
  let res := s.feed.reserveLeft.getD t 0
  if k.flush then s
  else if (k.priority = 2 ∧ 0 < res) ∨ left = 0 then { s with feed := { s.feed with reserveLeft := decAt s.feed.reserveLeft t } }
  else { s with feed := { s.feed with left := decAt s.feed.left t } }

/-- Counts the access that a remap entry redirects to a spare line (R93). -/
def State.noteSpare (s : State) (t slot : Nat) : State :=
  if isSpare slot then
    let j := slotLine slot - 54251936
    match (s.tile t).med.remap.find? (fun x => decide (x.1 / 32 = slotDie slot ∧ x.2.bank = slotBank slot ∧ x.2.spare = j)) with
    | none => s
    | some (i, r) => (s.modMed t (fun m => { m with remap := m.remap.insert i { r with hits := satAdd 0xFFFF r.hits 1 } })).tcount t
        Cn.REMAP_REDIRECTS 1
  else s

/-- Whether the armed flip mask takes a stroke (R98, R99). -/
def State.flipTakes (s : State) (t : Nat) (k : Stroke) : Bool :=
  let x := s.tile t
  x.med.flipArmed && s.svc.testPermitted && decide (k.kind = .evictData) && !k.flush && !k.target && decide (k.priority ≠ 2)
    && !(x.res.strokes.any (fun q => q.masked))
    && match x.res.evictOf k with
      | none => false
      | some e => decide (e.kind = .data ∧ e.part = s.cell (Ob.inst Ob.FLIP_PARTITION t) 0)

/-- Starts a stroke (R140, R99). -/
def State.startStroke (s : State) (t : Nat) (k : Stroke) : State :=
  let masked := k.masked || s.flipTakes t k
  let s0 := s.modMed t (fun m => { m with strokes := m.strokes + 1 })
  let s1 := s0.modRes t (fun r => r.setStroke k.id (fun q => { q with running := true, startedAt := s.now t, masked := masked }))
  let s2 := ((s1.takeCredit t k).tcount t (if k.parity then Cn.STROKES_PARITY else Cn.STROKES_DATA) 1).noteSpare t k.slot
  let s3 := if k.flush then s2.tcount t Cn.FLUSH_STROKES 1 else s2
  let s4 := if k.priority = 2 ∧ !k.parity then s3.tcount t Cn.REPAD_STROKES 1 else s3
  if masked ∧ !k.masked then s4.tcount t Cn.FLIP_STROKES 1 else s4

/-- STROKE_START (R140, R346, R347): stroke `id` of tile `t` starts; one that a slot hold delays is counted. -/
def execStrokeStart (t id : Nat) (s : State) : Host.Outcome State Fault Refusal :=
  .next (match (s.tile t).res.strokes.find? (fun k => decide (k.id = id)) with
    | none => s
    | some k =>
      if s.canStart t k && (s.tile t).res.strokes.all (fun q => decide (k.priority ≤ q.priority) || !s.canStart t q) then
        s.startStroke t k
      else if !k.running && (s.tile t).slotHeld k.slot && !k.held then
        (s.modRes t (fun r => r.setStroke id (fun q => { q with held := true }))).tcount t Cn.STROKES_HELD 1
      else s)

/-- Notes in the evictions that a stroke has done its part (R140, R201). -/
def TileRes.strokeDone (r : TileRes) (k : Stroke) : TileRes :=
  let S := if k.target then (match r.evictOf k with
    | some e => e.stripe
    | none => noStripe + 1) else k.addr
  { r with evicts := r.evicts.map (fun (e : Evict) =>
      if k.parity then
        if e.formed && decide (e.stripe = S ∧ e.ver ≤ k.ver) then
          (if k.target then { e with copyParity := false } else { e with parityDone := true })
        else e
      else if e.id = k.evict && (decide (k.kind = .evictData ∨ k.kind = .poison)) then
        (if k.target then { e with copyData := false } else { e with dataDone := true, masked := k.masked })
      else e) }

/-- Counts a data-line stroke of an eviction against its segment: the hundredth makes a rotation move due (R191). -/
def State.countWrite (s : State) (t lla : Nat) : State :=
  s.modMap t (fun m =>
    let l := lsegOf lla
    let e := m.entry l
    if e.st = .fresh ∨ e.st = .lost then m
    else if e.writes + 1 < 100 then m.setEntry l { e with writes := e.writes + 1 }
    else
      let m1 := m.setEntry l { e with writes := 0 }
      if e.st = .bound then { m1 with movesDue := m1.movesDue ++ [l] } else m1)

/-- The codeword a stroke leaves in its slot (R99). -/
def State.strokeWord (s : State) (t : Nat) (k : Stroke) : Codeword :=
  if k.masked then k.word ^^^ BitVec.ofNat 576 (s.cell (Ob.inst Ob.FLIP_MASK t) 0) else k.word

/-- The flip mask has corrupted a stroke (R99). -/
def State.flipApplied (s : State) (t : Nat) (k : Stroke) : State :=
  if k.masked then
    let s1 := s.modMed t (fun m => { m with flipArmed := false })
    let s2 := (s1.raise (Ob.inst Ob.FLIP_STATUS t) 1 (Ob.inst Ob.FLIP_APPLIED_COUNT t)).setCell (Ob.inst Ob.FLIP_LAST_LLA t) k.addr
    (s2.setCell (Ob.inst Ob.FLIP_LAST_SLOT t) k.slot).tev t Ev.FLIP_MASK_APPLIED 0xFF 0 []
  else s

/-- A repair or refresh stroke of a data line has verified: the line leaves IN-FLIGHT, unless an eviction of it runs (R88,
R230). -/
def State.repairLanded (s : State) (t : Nat) (k : Stroke) : State :=
  if (k.kind = .repair ∨ k.kind = .refresh) ∧ !k.parity ∧ !(s.tile t).res.evicts.any (fun e => decide (e.addr = k.addr ∧ e.owner = t) && e.formed) then
    s.lineLanded t t k.addr
  else s

/-- Slot class of the transfers of a stroke (R447, rows 1 to 3). [DEDUCED, assumption 40] -/
def State.strokeClass (s : State) (t : Nat) (k : Stroke) : Nat :=
  if k.parity ∨ (s.isDataLine ((s.partOfSeg t (lsegOf k.addr)).getD 0) t k.addr) = false then 2
  else if k.kind = .evictData then 1 else 3
/-- STROKE_VERIFIED (R140, R95, R99, R88, R191): stroke `id` verifies and what it belongs to advances. -/
def execStrokeVerified (t id : Nat) (s : State) : Host.Outcome State Fault Refusal :=
  .next (match (s.tile t).res.strokes.find? (fun k => decide (k.id = id) && k.running) with
    | none => s
    | some k =>
      let w := s.strokeWord t k
      let s1 := ((s.transfer t (slotDie k.slot) (s.strokeClass t k) 8).noteAnswer t (slotDie k.slot) false).modMed t (fun m =>
        let m1 := { m with slots := m.slots.insert k.slot w }
        match k.remap with
        | none => m1
        | some i => match m1.remap.find i with
          | none => m1
          | some r => { m1 with remap := m1.remap.insert i { r with pending := false } })
      let s2 := s1.modRes t (fun r =>
        let r1 := ({ r with strokes := r.strokes.filter (fun q => decide (q.id ≠ id)) }).strokeDone k
        if k.target ∨ (!k.parity ∧ k.kind ≠ .repair ∧ k.kind ≠ .refresh) then r1 else r1.landBuf k.parity k.addr k.ver)
      let s3 := if k.kind = .evictData ∧ !k.target then s2.countWrite t k.addr else s2
      ((((s3.flipApplied t k).repairLanded t k).strokeLeaves t (bankOf k.slot)).completeEvicts t).noteGate t)

/-! ### Strokes that fail verify (R95, R211) -/

/-- The lowest-numbered unused spare line of a bank (R95). -/
def TileMed.freeSpare (m : TileMed) (die bank : Nat) : Option Nat :=
  (List.range 1024).find? (fun j => !(m.spares.contains (spareSlot die bank j)))
/-- The lowest-numbered free remap entry of a die, as die × 32 + entry (R95). -/
def TileMed.freeRemap (m : TileMed) (die : Nat) : Option Nat :=
  (List.range 32).map (fun i => die * 32 + i) |>.find? (fun i => (m.remap.find i).isNone)

/-- Sends every queued stroke of a slot, and its evictions, to another slot. -/
def TileRes.redirect (r : TileRes) (a b : Nat) : TileRes :=
  { r with strokes := r.strokes.map (fun (k : Stroke) => if k.slot = a then { k with slot := b } else k),
           evicts := r.evicts.map (fun (e : Evict) =>
             { e with dslot := if e.dslot = a then b else e.dslot, pslot := if e.pslot = a then b else e.pslot }) }

/-- Logical segment of the line that a stroke writes. -/
def Tile.strokeSeg (x : Tile) (k : Stroke) : Nat := if k.parity then (x.map.seg (k.addr / segStripes)).lseg else lsegOf k.addr

/-- Takes a stroke out of the queue with its part of the eviction counted as done (R92, R212). -/
def State.giveUpStroke (s : State) (t : Nat) (k : Stroke) : State :=
  s.modRes t (fun r =>
    let r1 := ({ r with strokes := r.strokes.filter (fun q => decide (q.id ≠ k.id)) }).strokeDone { k with masked := false }
    if k.parity then r1.landBuf true k.addr k.ver else r1)

/-- A data line that cannot be stored becomes PINNED-FAILED, or LOST when the pin quota is full (R212, R213). A parity line
that cannot be stored leaves its stripe unprotected. -/
def State.pinLine (s : State) (t : Nat) (k : Stroke) : State :=
  let s1 := s.giveUpStroke t k
  if k.parity then s1.completeEvicts t
  else
    match (s1.tile t).res.entries.find? (fun e => decide (e.addr = k.addr ∧ e.owner = t ∧ (e.st = .inflight ∨ e.st = .pinned))) with
    | none => s1.completeEvicts t
    | some e =>
      if (s.tile t).res.inState .pinned < 4096 then
        let s2 := (s1.modRes t (fun r => r.setEntry e.id (fun e => { e with st := .pinned, redirty := false }))).shadow t true 3 k.addr
        (((s2.xlateBit t 2).tev t Ev.LINE_PINNED 0xFF k.addr [(7, e.dpa), (5, k.slot)]).completeEvicts t).evalHealth
      else
        let s2 := (s1.modRes t (fun r => r.dropEntry e.id)).loseLine t e.part k.addr k.slot 2
        let s3 := (s2.modPs t (fun p => { p with pinLatch := true })).pageCommit t 1440
        (((s3.xlateBit t 3).tev t Ev.PIN_QUOTA_EXCEEDED 0xFF k.addr [(7, e.dpa), (5, k.slot)]).completeEvicts t).evalHealth

/-- No remap entry is left for a stroke (R97, R211): migration with reason 2, a new target, or pinning. -/
def State.remapFull (s : State) (t : Nat) (k : Stroke) : State :=
  let lseg := (s.tile t).strokeSeg k
  let s1 := s.tev t Ev.REMAP_TABLE_FULL 0xFF (slotDie k.slot) []
  if k.target then
    match (s.tile t).res.evictOf k with
    | none => s1.giveUpStroke t k
    | some e => (s1.giveUpStroke t k).abandonMigration t (lsegOf e.addr) 3
  else if !k.parity ∧ ((s.tile t).map.otherCopy lseg (stripeOfLine (lineIndexOf k.addr))).isSome then
    (s1.giveUpStroke t k).completeEvicts t
  else if 0 < s.spares t ∧ s.dev.st ≠ .drain then
    (s1.modRes t (fun r => { r with strokes := r.strokes.filter (fun q => decide (q.id ≠ k.id)) })).trigger t lseg 2
  else s1.pinLine t k

/-- Allocates a spare line for a slot whose stroke failed verify: a new remap entry, or the next spare line for a spare that
failed and is retired (R95). The second result is the spare's slot and the remap entry; `none` when the table is full (R97). -/
def State.allocSpare (s : State) (t slot : Nat) : State × Option (Nat × Nat) :=
  let m := (s.tile t).med
  let die := slotDie slot
  let bank := slotBank slot
  if isSpare slot then
    let j := slotLine slot - 54251936
    let s1 := s.tev t Ev.SPARE_RETIRED 0xFF slot []
    match m.freeSpare die bank, m.remap.find? (fun x => decide (x.1 / 32 = die ∧ x.2.bank = bank ∧ x.2.spare = j)) with
    | some j2, some (i, r) =>
      ((s1.pageCommit t (144 + die)).modMed t (fun m => { m with
         spares := m.spares ++ [spareSlot die bank j2],
         remap := m.remap.insert i { r with spare := j2, pending := true } }),
       some (spareSlot die bank j2, i))
    | _, _ => (s1, none)
  else
    match m.freeSpare die bank, m.freeRemap die with
    | some j, some i =>
      let r : Remap := { valid := true, pending := true, hits := 0, bank := bank, slot := slotLine slot, spare := j }
      let s1 := s.modMed t (fun m => { m with spares := m.spares ++ [spareSlot die bank j], remap := m.remap.insert i r })
      (((s1.pageCommit t (144 + die)).tev t Ev.REMAP_ALLOCATED 0xFF slot [(4, j)]).tcount t Cn.REMAP_ALLOCATIONS 1, some (spareSlot die bank j, i))
    | _, _ => (s, none)

/-- The remedy for a stroke that failed verify on a usable bank (R95, R97). -/
def State.remedy (s : State) (t : Nat) (k : Stroke) : State :=
  match s.allocSpare t k.slot with
  | (s1, some (slot, i)) =>
    (s1.transfer t (slotDie k.slot) 5 8).modRes t (fun x => (x.redirect k.slot slot).setStroke k.id (fun q => { q with remap := some i }))
  | (s1, none) => (s1.transfer t (slotDie k.slot) (s.strokeClass t k) 8).remapFull t k

/-- STROKE_VERIFY_FAIL (R95, R91, R97, R211 to R213): stroke `id` fails verify; its image stays IN-FLIGHT and the remedies
are tried in order. A stroke that the flip mask corrupted is only repeated (R99); one on a bank that has failed by now is
given up (R92). `mute`: the die did not answer (R91). [DESIGN CHOICE, assumption 24] -/
def execStrokeVerifyFail (t id : Nat) (mute : Bool) (s : State) : Host.Outcome State Fault Refusal :=
  .next (match (s.tile t).res.strokes.find? (fun k => decide (k.id = id) && k.running) with
    | none => s
    | some k =>
      let s1 := ((s.noteAnswer t (slotDie k.slot) mute).tcount t Cn.STROKE_VERIFY_FAILS 1).modRes t (fun r =>
        r.setStroke id (fun q => { q with running := false, lifted := false }))
      let s2 := if k.masked then s1 else s1.noteVerifyFail t k.slot
      let s3 := s2.strokeLeaves t (bankOf k.slot)
      let s4 := s3.transfer t (slotDie k.slot) (s.strokeClass t k) 8
      if k.masked then s4
      else if (s3.tile t).slotFailed k.slot then ((s4.giveUpStroke t k).completeEvicts t).noteGate t
      else (s3.remedy t k).noteGate t)

/-! ### Binding, Global Persistent Flush -/

/-- Binds a FRESH logical segment to a free segment: headers SEALED, bound bit, map entry (R197). -/
def State.bind (s : State) (t part lseg : Nat) : State :=
  let pick (s : State) (b : Bool) : Option Nat := (s.tile t).map.pickFree b
  let go (s : State) (p : Nat) : State :=
    let x := s.tile t
    let (s1, seq) := s.freshSeq t
    let h : Header := { seq := seq, state := 1, blanked := false, retired := false, partition := part, lseg := lseg,
                        moves := (x.map.seg p).moves, lastRefresh := x.lastRefresh p }
    let s2 := s1.writeHeader t p h
    let s3 := s2.modPs t (fun q => { q with bound := if q.bound.contains lseg then q.bound else q.bound ++ [lseg] })
    ((s3.pageCommit t (160 + lseg / 2048)).modMap t (fun m => (m.setSeg p { m.seg p with cond := .bound, blanked := false, omega := seq % 8, lseg := lseg }).setEntry
      lseg { st := .bound, pseg := p, writes := 0, omega := seq % 8 })).tcount t Cn.BINDINGS 1
  match pick s true with
  | some p => go s p
  | none =>
    match pick s false with
    | some p => go (s.blank t p) p
    | none => s

/-- BINDING (R197): logical segment `lseg` of tile `t`, FRESH and with a line to be evicted, is bound. -/
def execBinding (t lseg : Nat) (s : State) : Host.Outcome State Fault Refusal :=
  .next (if t < s.n ∧ ((s.tile t).map.entry lseg).st = .fresh ∧
      (s.tile t).res.entries.any (fun e => decide (e.owner = t ∧ e.st = .dirty ∧ lsegOf e.addr = lseg)) then
      match s.partOfSeg t lseg with
      | none => s
      | some p => s.bind t p lseg
    else s)

/-- The entries whose evictions a Global Persistent Flush waits for, once for each eviction (R153). -/
def TileRes.gpfList (r : TileRes) : List Nat :=
  (r.entries.filter (fun e => decide (e.st = .dirty ∨ e.st = .incomplete ∨ e.st = .inflight))).map (fun e => e.id) ++
  (r.entries.filter (fun e => decide (e.st = .inflight) && e.redirty)).map (fun e => e.id)

/-- GPF_PHASE2 (R153): every line whose accepted data is not on the medium is to be evicted. -/
def execGpfPhase2 (s : State) : Host.Outcome State Fault Refusal :=
  .next (if s.inService then s.each s.activeTiles (fun s' t => s'.modRes t (fun r => { r with gpf := r.gpfList })) else s)

end Sys2Proof.Machine
end

