-- ==== Sys2Proof/Machine/Translation.lean ====
section
/-! DEFINITION. Rotation (R191 to R194), blanking (R195), wear threshold (R198), migrations (R198 to R202, R214), quarantine
(R207), evacuation (R209) and the commands of chapter 07 (R218). -/
namespace Sys2Proof.Machine
open Sys2Proof

/-! ### Strokes that a maintenance step makes within itself -/

/-- Takes up to `n` stroke credits of a tile (R346). -/
def State.spendCredits (s : State) (t n : Nat) : State :=
  { s with feed := { s.feed with left := modAt s.feed.left t (fun c => c - n) } }

/-- Strokes a codeword into a slot; its first `fails` tries fail verify and are remapped (R95). The second result is false
when the remap table is full (R97). A slot of a failed bank is not stroked (R92). `cls` is the slot class of its transfers, of 8 ticks a try
(R447). -/
def State.strokeNow (s : State) (t slot cls : Nat) (w : Codeword) : Nat → State × Bool
  | 0 =>
    if (s.tile t).slotFailed slot then (s, true)
    else ((s.transfer t (slotDie slot) cls 8).modMed t (fun m => { m with
      slots := m.slots.insert slot w, strokes := m.strokes + 1,
      remap := if isSpare slot then m.remap.map (fun x =>
        if x.1 / 32 = slotDie slot ∧ x.2.bank = slotBank slot ∧ x.2.spare = slotLine slot - 54251936 then
          (x.1, { x.2 with pending := false }) else x) else m.remap }), true)
  | f + 1 =>
    let s1 := (s.tcount t Cn.STROKE_VERIFY_FAILS 1).noteVerifyFail t slot
    if (s1.tile t).slotFailed slot then (s1.transfer t (slotDie slot) cls 8, true)
    else match s1.allocSpare t slot with
      | (s2, some (a, _)) => (s2.transfer t (slotDie slot) 5 8).strokeNow t a cls w f
      | (s2, none) => ((s2.transfer t (slotDie slot) cls 8).tev t Ev.REMAP_TABLE_FULL 0xFF (slotDie slot) [], false)

/-- The codeword that a member of a stripe of a copy stands for: its stroke version, a LOST line's poison, else the member
rebuilt (R81, R113, R193, R200). -/
def Tile.memberWord (x : Tile) (lseg st pos : Nat) (c : Copy) (key : BitVec 48) : Codeword :=
  let S := c.stripe st
  match memberLla lseg st S pos with
  | some l => if x.isLost l ∧ (x.map.entry lseg).st ≠ .lost then poisonWord key else encodeLine key (x.memberData lseg st pos c)
  | none => encodeLine key (x.memberData lseg st pos c)

/-! ### Rotation -/

/-- Pinned lines are relieved by migrations with reason 5 when usable spares rise above 0 again, the oldest pin first: the shadow lists
them in the order of their pins (R214, R148). -/
def State.relievePins (s : State) (t before : Nat) : State :=
  if before = 0 ∧ 0 < s.spares t then
    let pins := ((s.tile t).res.entries.filter (fun e => decide (e.st = .pinned ∧ e.owner = t))).map Entry.addr
    let listed := ((s.shadowList t).filter (fun e => decide (e.kind = 3) && pins.contains e.addr)).map ShadowEntry.addr
    s.each (listed ++ pins) (fun s' a => s'.trigger t (lsegOf a) 5)
  else s

/-- MOVES of a segment has risen: a checkpoint of its headers at each multiple of 64 (R194), a wear trigger when it reaches
the threshold (R198), the life used (R216). -/
def State.afterMove (s : State) (t lseg p : Nat) : State :=
  let m := ((s.tile t).map.seg p).moves
  let h := (s.tile t).med.header p 0
  let s1 := if m % 64 = 0 then (s.writeHeader t p { h with moves := m }).tcount t Cn.HEADER_CHECKPOINTS 1 else s
  let s2 := if (s.tile t).map.wearThreshold ≤ m then s1.trigger t lseg 1 else s1
  if m % 92800000 = 0 then s2.evalHealth else s2

/-- The member that the move from `moves` to `moves + 1` of a copy carries: its stripe, its position and the destination slot (R191, R192). -/
def movedMember (p omega moves : Nat) : Option (Nat × Nat × Nat) :=
  let v := moveSpec moves
  match indexAtPos (ringMoves moves (ringNumber v.ring v.die)) v.source with
  | none => none
  | some k =>
    let st := stripeOfRank p (144 * ((v.ring + 8 - omega) % 8) + k) v.die
    ((List.range 9).find? (fun j => decide (dieOfPos (stripeAddr p st) j = v.die))).map (fun pos =>
      (st, pos, slotOfIndex v.die (ringSlotIndex p v.die (145 * v.ring + v.dest))))

/-- No remedy but a migration is left for a stroke of a logical segment's member (R97, R211). [DEDUCED, assumption 44] -/
def State.needMigration (s : State) (t lseg : Nat) : State := if 0 < s.spares t then s.trigger t lseg 2 else s

/-- ROTATION_MOVE (R191 to R194): the move due of logical segment `lseg` copies the source member into its ring's gap slot;
`fails` tries of its stroke fail verify. A move that cannot be stored is not made: the source keeps the member. -/
def execRotationMove (t lseg fails : Nat) (s : State) : Host.Outcome State Fault Refusal :=
  .next (
    let x := s.tile t
    let e := x.map.entry lseg
    if t < s.n ∧ x.map.movesDue.contains lseg ∧ e.st = .bound ∧ s.dev.st ≠ .drain then
      let p := e.pseg
      let moves := (x.map.seg p).moves
      let c : Copy := { pseg := p, omega := e.omega, moves := moves }
      match movedMember p e.omega moves with
      | none => s
      | some (st, pos, slot) =>
        let S := c.stripe st
        let inflight := (x.memberImage lseg st S pos).isSome ||
          (match memberLla lseg st S pos with
           | none => x.res.opens.contains S
           | some l => x.res.evicts.any (fun q => q.formed && decide (q.addr = l ∧ q.owner = t)))
        if inflight then s
        else
          let w := x.memberWord lseg st pos c (memberKey lseg st S pos)
          let part := (s.partOfSeg t lseg).getD 0
          let r := ((s.spendCredits t 1).ownRead t part lseg st pos 3 c).strokeNow t (x.finalSlot slot) (s.lineClass part t lseg st S pos 3) w fails
          if r.2 then
            let s2 := r.1.modMap t (fun m =>
              let m1 := m.setSeg p { m.seg p with moves := moves + 1 }
              { m1 with movesDue := m1.movesDue.erase lseg })
            (s2.tcount t Cn.ROTATION_MOVES 1).afterMove t lseg p
          else r.1.needMigration t lseg
    else s)

/-- BLANKING (R195): the least-worn free segment that is not blanked is blanked. -/
def execBlanking (t : Nat) (s : State) : Host.Outcome State Fault Refusal :=
  .next (match minBy (fun x => x.2.moves) ((s.tile t).map.segs.filter (fun x => decide (x.2.cond = .free) && !x.2.blanked)) with
    | none => s
    | some (p, _) => if t < s.n ∧ s.dev.st ≠ .drain then (s.blank t p).spendCredits t 18560 else s)

/-- Mean MOVES of a tile's bound and free segments, as a fraction: sum and count (R198). -/
def TileMap.meanMoves (m : TileMap) : Nat × Nat :=
  let used (c : SegCond) : Bool := decide (c = .bound ∨ c = .free)
  (sumList (m.segs.map (fun x => if used x.2.cond then x.2.moves else 0)),
   segsPerTile - (m.segs.filter (fun x => !used x.2.cond)).length)

/-- WEAR_THRESHOLD_UPDATE (R198): firmware recomputes the wear threshold of every tile. -/
def execWearThresholdUpdate (s : State) : Host.Outcome State Fault Refusal :=
  .next (if s.mgmt.active.isSome then
      s.each s.tileNumbers (fun s' t => s'.modMap t (fun m =>
        let (sum, n) := m.meanMoves
        { m with wearThreshold := s.cell Ob.WEAR_MIGRATE_PCT 125 * sum / (100 * max 1 n) + 1048576 }))
    else s)

/-! ### Migration -/

/-- Rank of a migration reason: 2 first, 5 next, the others after them in trigger order (R198). -/
def reasonRank (r : Nat) : Nat := if r = 2 then 0 else if r = 5 then 1 else 2
/-- The trigger that starts next in a tile (R198). -/
def TileMap.nextTrigger (m : TileMap) : Option MigTrigger :=
  minBy (fun g => reasonRank g.reason * 2 ^ 64 + g.order)
    (m.triggers.filter (fun g => decide ((m.entry g.lseg).st = .bound)))
/-- Migrations that may run at once in a tile (R198). -/
def State.migrateMax (s : State) : Nat := s.cell Ob.MIGRATE_MAX 2

/-- Step 1 of a migration (R199): the target's headers OPEN, gap form in its gap slots, the map entry MIGRATING. -/
def State.openMigration (s : State) (t lseg reason b : Nat) : State :=
  let x := s.tile t
  let a := (x.map.entry lseg).pseg
  let part := (s.partOfSeg t lseg).getD 0
  let before := s.spares t
  let (s1, seq) := s.freshSeq t
  let moves := (x.map.seg b).moves
  let s2 := s1.writeHeader t b { seq := seq, state := 0, blanked := false, retired := false, partition := part, lseg := lseg,
                                 moves := moves, lastRefresh := x.pat.drift }
  let s3 := (s2.allNibs t 3 64).modMed t (fun m => { m with slots := m.slots.filter (fun q =>
    !(decide (slotLine q.1 < 54251936) && decide (segOfIndex (slotDie q.1) (indexOfSlot q.1) = b))) })
  let s4 := s3.modMap t (fun m =>
    let m1 := m.setSeg b { m.seg b with cond := .target, blanked := false, blankMoves := moves, omega := seq % 8, lseg := lseg }
    let m2 := m1.setEntry lseg { m1.entry lseg with st := .migrating }
    { m2 with
      migs := m2.migs ++ [{ step := 2, reason := reason, ptr := 0, target := b, source := a, lseg := lseg, tomega := seq % 8, part := part }],
      triggers := m2.triggers.filter (fun g => decide (g.lseg ≠ lseg)) })
  (s4.tev t Ev.MIGRATION_STARTED 0xFF lseg [(4, a), (4, b), (1, reason)]).noteSpares t before

/-- MIGRATION_STARTED (R198, R199): the first waiting trigger of tile `t` opens its target. -/
def execMigrationStarted (t : Nat) (s : State) : Host.Outcome State Fault Refusal :=
  .next (
    let m := (s.tile t).map
    if t < s.n ∧ s.tileActive t ∧ s.mgmt.active.isSome ∧ s.dev.st ≠ .drain ∧ m.migs.length < s.migrateMax ∧ 0 < s.spares t then
      match m.nextTrigger, m.pickFree false with
      | some g, some b => s.openMigration t g.lseg g.reason b
      | _, _ => s
    else s)

/-- The nine strokes of a stripe's copy into the target (R200). [DEDUCED, assumption 44] -/
def State.copyStripe (s : State) (t lseg st : Nat) (src dst : Copy) (fails : Nat) : State × Bool :=
  let x := s.tile t
  let S := src.stripe st
  let S2 := dst.stripe st
  let part := (s.partOfSeg t lseg).getD 0
  let lines : List (Nat × Nat × Codeword) := (List.range 8).map (fun k =>
    let key := dataKey (lseg * segLines + 8 * st + k)
    (dst.slot st (memberPos S2 k), s.lineClass part t lseg st S (memberPos S k) 3, x.memberWord lseg st (memberPos S k) src key))
  let parity : Nat × Nat × Codeword := (dst.slot st (parityPos S2), 2, encodeLine (parityKey S2) (x.memberData lseg st (parityPos S) src))
  let r := (lines ++ [parity]).foldl (fun (acc : State × Bool × Nat) w =>
      let y := acc.1.strokeNow t ((acc.1.tile t).finalSlot w.1) w.2.1 w.2.2 acc.2.2
      (y.1, acc.2.1 && y.2, 0)) (s.ownReads t part lseg st 3 src [], true, fails)
  (r.1, r.2.1)

/-- Evictions of a stripe whose copy has verified are complete, and so are repairs whose strokes could not be stored (R201, R211). -/
def State.coveredByCopy (s : State) (t lseg st S : Nat) : State :=
  let s1 := (s.modRes t (fun r => { r.landBuf true S r.verCtr with evicts := r.evicts.map (fun (e : Evict) =>
    if e.formed && decide (e.stripe = S) then { e with dataDone := true, parityDone := true } else e) })).completeEvicts t
  let r := (s1.tile t).res
  let left := ((List.range 8).map (fun k => lseg * segLines + 8 * st + k)).filter (fun l =>
    (r.inflight false l).isSome && !(r.evicts.any (fun e => e.formed && decide (e.addr = l ∧ e.owner = t)))
      && !(r.strokes.any (fun k => !k.parity && decide (k.addr = l))))
  s1.each left (fun s' l => (s'.modRes t (fun r => r.landBuf false l r.verCtr)).lineLanded t t l)

/-- MIGRATION_STRIPE_COPY (R200, R201): the next stripe of a migrating segment is copied and the pointer advances; `fails` tries
of its first stroke fail verify. -/
def execMigrationStripeCopy (t lseg fails : Nat) (s : State) : Host.Outcome State Fault Refusal :=
  .next (match (s.tile t).map.migs.find? (fun g => decide (g.lseg = lseg)) with
    | none => s
    | some g =>
      if t < s.n ∧ s.dev.st ≠ .drain ∧ g.step = 2 ∧ g.ptr < segStripes then
        let m := (s.tile t).map
        let src : Copy := { pseg := g.source, omega := (m.entry lseg).omega, moves := (m.seg g.source).moves }
        let dst : Copy := { pseg := g.target, omega := g.tomega, moves := (m.seg g.target).moves }
        let (s1, ok) := (s.spendCredits t 9).copyStripe t lseg g.ptr src dst fails
        if ok then
          let s2 := s1.modMap t (fun m => { m with migs := m.migs.map (fun (q : Migration) =>
            if q.lseg = lseg then { q with ptr := q.ptr + 1 } else q) })
          (s2.tcount t Cn.MIGRATION_STROKES 9).coveredByCopy t lseg g.ptr (src.stripe g.ptr)
        else s1.abandonMigration t lseg 3
      else s)

/-- Strokes or evictions of a logical segment that are still under way. -/
def Tile.segBusy (x : Tile) (t lseg : Nat) : Bool :=
  x.res.evicts.any (fun e => e.formed && decide (e.owner = t ∧ lsegOf e.addr = lseg)) ||
  x.res.strokes.any (fun k => decide (x.strokeSeg k = lseg))

/-- Steps 3 to 5 of a migration (R199): target SEALED with the same SEQ, the map switched, the source released or retired;
pinned lines leave PINNED-FAILED as DIRTY lines (R214). [DEDUCED, assumption 44] -/
def State.closeMigration (s : State) (t : Nat) (g : Migration) : State :=
  let before := s.spares t
  let h := (s.tile t).med.header g.target 0
  let s1 := s.writeHeader t g.target { h with state := 1, moves := ((s.tile t).map.seg g.target).moves }
  let s2 := s1.modMap t (fun m =>
    let m1 := m.setSeg g.target { m.seg g.target with cond := .bound }
    let m2 := m1.setEntry g.lseg { st := .bound, pseg := g.target, writes := 0, omega := g.tomega }
    { m2 with migs := m2.migs.filter (fun (q : Migration) => decide (q.lseg ≠ g.lseg)) })
  let s3 := if g.reason = 2 ∨ g.reason = 5 then s2.retire t g.source g.reason else s2.release t g.source
  let pins := (s3.tile t).res.entries.filter (fun e => decide (e.st = .pinned ∧ e.owner = t ∧ lsegOf e.addr = g.lseg))
  let s4 := s3.each pins (fun s' e =>
    ((s'.modRes t (fun r => r.setEntry e.id (fun e => { e with st := .dirty }))).shadow t false 3 e.addr).shadow t true 1 e.addr)
  let s5 := ((s4.tcount t Cn.MIGRATIONS_DONE 1).tev t Ev.MIGRATION_DONE 0xFF 0 []).noteSpares t before
  if pins.isEmpty ∧ g.reason ≠ 2 ∧ g.reason ≠ 5 then s5.relievePins t before else (s5.relievePins t before).evalHealth

/-- MIGRATION_DONE (R199): the copy of logical segment `lseg` is complete and its strokes have verified. -/
def execMigrationDone (t lseg : Nat) (s : State) : Host.Outcome State Fault Refusal :=
  .next (match (s.tile t).map.migs.find? (fun g => decide (g.lseg = lseg)) with
    | none => s
    | some g => if t < s.n ∧ g.ptr = segStripes ∧ !(s.tile t).segBusy t lseg then s.closeMigration t g else s)

/-! ### Commands -/

/-- Fields TILE, SEGMENT and SWAP of the values of `MIGRATE_REQUEST`, `QUARANTINE_ACK` and `MAP_QUERY` (R218). -/
def xlateTile (v : Nat) : Nat := bitsOf v 24 3
/-- SEGMENT. -/
def xlateSeg (v : Nat) : Nat := bitsOf v 0 21
/-- SWAP. -/
def xlateSwap (v : Nat) : Bool := v.testBit 31

/-- `MIGRATE_REQUEST` (R218): a migration with reason 4. -/
def State.migrateRequest (s : State) (v : Nat) : Result :=
  let t := xlateTile v
  let l := xlateSeg v
  if s.n ≤ t ∨ poolSegs ≤ l then s.refused Err.range 0
  else if ((s.tile t).map.entry l).st ≠ .bound then s.refused Err.state Detail.object
  else if s.migrateMax ≤ (s.tile t).map.migs.length then s.refused Err.busy 0
  else (s.trigger t l 4).ok

/-- The map entry of a logical segment as 64 bits (R182). -/
def TileMap.entryBits (m : TileMap) (l : Nat) : Nat :=
  let e := m.entry l
  let held := e.st = .bound ∨ e.st = .migrating
  e.st.code * 2 ^ 62 + (if held then e.pseg * 2 ^ 41 + (m.seg e.pseg).moves % 2 ^ 34 else 0) + e.writes * 2 ^ 34
/-- `MAP_QUERY` (R218): `MAP_QUERY_RESULT` takes the map entry. -/
def State.mapQuery (s : State) (v : Nat) : Result :=
  let t := xlateTile v
  let l := xlateSeg v
  if s.n ≤ t ∨ poolSegs ≤ l then s.refused Err.range 0
  else (s.setCell Ob.MAP_QUERY_RESULT ((s.tile t).map.entryBits l)).ok

/-- Quarantines a segment (R206): listed, its bit set. -/
def State.quarantine (s : State) (t p lseg reason : Nat) : State :=
  let before := s.spares t
  ((s.modMap t (fun m =>
    { (m.setSeg p { m.seg p with cond := .quarantined, reason := reason }) with
      quars := m.quars ++ [{ reason := reason, pseg := p, lseg := lseg }] })).xlateBit t 4).noteSpares t before

/-- `QUARANTINE_ACK` (R207): the quarantine ends by a release, or the twin takes the place of the present copy. -/
def State.quarantineAck (s : State) (v : Nat) : Result :=
  let t := xlateTile v
  let p := xlateSeg v
  if s.n ≤ t ∨ segsPerTile ≤ p then s.refused Err.range 0
  else
    match (s.tile t).map.quars.find? (fun q => decide (q.pseg = p)) with
    | none => s.refused Err.state Detail.object
    | some q =>
      if xlateSwap v ∧ q.reason = 2 then s.refused Err.range 0
      else
        let before := s.spares t
        let unlist (s : State) : State := s.modMap t (fun m => { m with quars := m.quars.filter (fun w => decide (w.pseg ≠ p)) })
        let note (s : State) : State := s.tev t Ev.QUARANTINE_RELEASED 0xFF p [(1, bitNat (xlateSwap v))]
        if xlateSwap v then
          let old := ((s.tile t).map.entry q.lseg).pseg
          let h := (s.tile t).med.header p 0
          let w := h.seq % 8
          let (s1, seq) := (unlist s).residueSeq t w
          let s2 := s1.writeHeader t p { h with seq := seq, state := 1 }
          let s3 := (s2.modMap t (fun m => (m.setSeg p { m.seg p with cond := .bound, omega := w, lseg := q.lseg }).setEntry q.lseg
            { st := .bound, pseg := p, writes := 0, omega := w })).modRes t (fun r => { r with
              bufs := r.bufs.filter (fun b => !(!b.parity && decide (lsegOf b.addr = q.lseg) && !b.inflight)) })
          (note ((s3.forgetParity t old).quarantine t old q.lseg 1)).ok
        else
          let s1 := (unlist s).release t p
          ((note s1).noteSpares t before |>.relievePins t before).ok

/-! ### Evacuation -/

/-- The member that stands in a slot of a bound or target segment: logical segment, stripe, position, copy; `none` for a gap
or header slot or a segment not in use (R209). -/
def Tile.memberAt (x : Tile) (a : Nat) : Option (Nat × Nat × Nat × Copy) :=
  let d := slotDie a
  let p := segOfIndex d (indexOfSlot a)
  let g := x.map.seg p
  match ringSlotOf a with
  | none => none
  | some u =>
    if g.cond = .bound ∨ g.cond = .target then
      match indexAtPos (ringMoves g.moves (ringNumber (u / 145) d)) (u % 145) with
      | none => none
      | some k =>
        let c : Copy := { pseg := p, omega := g.omega, moves := g.moves }
        let st := stripeOfRank p (144 * ((u / 145 + 8 - g.omega) % 8) + k) d
        match (List.range 9).find? (fun j => decide (dieOfPos (c.stripe st) j = d)) with
        | none => none
        | some pos => some (g.lseg, st, pos, c)
    else none

/-- EVACUATION_SLOT (R209): the next slot of the failed bank under evacuation is rebuilt into its substitute; a header copy is rewritten
from the other one. -/
def execEvacuationSlot (t fails : Nat) (s : State) : Host.Outcome State Fault Refusal :=
  .next (match (s.tile t).map.evacs.find? (fun e => !e.complete) with
    | none => s
    | some e =>
      if t < s.n ∧ s.dev.st ≠ .drain ∧ e.ptr < 54251936 then
        let x := s.tile t
        let a := slotAddr (e.bank / 32) (e.bank % 32) e.ptr
        let sub := donorSlot (e.donors.getD (e.ptr / 1120) 0) (e.bank / 32) (e.bank % 32) (e.ptr % 1120)
        let g := x.map.seg (segOfIndex (slotDie a) (indexOfSlot a))
        let stroke (s : State) (cls : Nat) (w : Codeword) : State × Bool :=
          let r := (s.spendCredits t 1).strokeNow t sub cls w fails
          (r.1.tcount t Cn.EVACUATION_STROKES 1, r.2)
        let s1 := match x.memberAt a with
          | some (lseg, st, pos, c) =>
            let part := (s.partOfSeg t lseg).getD 0
            let r := stroke (s.ownReads t part lseg st 3 c [pos]) (s.lineClass part t lseg st (c.stripe st) pos 3) (x.memberWord lseg st pos c (memberKey lseg st (c.stripe st) pos))
            if r.2 then r.1 else r.1.needMigration t lseg
          | none =>
            if (ringSlotOf a).isNone then ((s.spendCredits t 1).transfer t (slotDie a) 3 8).tcount t Cn.EVACUATION_STROKES 1
            else if decide (g.cond = SegCond.bound) || decide (g.cond = SegCond.target) then (stroke s 3 gapWord).1
            else s
        let s2 := s1.modMap t (fun m => { m with evacs := m.evacs.map (fun (q : Evac) =>
          if q.bank = e.bank then { q with ptr := q.ptr + 1 } else q) })
        if e.ptr + 1 = 54251936 then (s2.tev t Ev.BANK_EVACUATED 0xFF (e.bank / 32) [(1, e.bank % 32)]).evalHealth else s2
      else s)

end Sys2Proof.Machine
end

