-- ==== Sys2Proof/Machine/Patrol.lean ====
section
/-! DEFINITION. Drift ages (R221, R227), the patrol (R226 to R232, R235), scrub passes (R236 to R240), age table errors
(R246). -/
namespace Sys2Proof.Machine
open Sys2Proof

/-! ### Ages -/

/-- Difference of two drift clock values (R219). -/
def driftDiff (a b : Nat) : Nat := (a + 2 ^ 32 - b % 2 ^ 32) % 2 ^ 32
/-- Drift age of a physical segment (R221). -/
def Tile.driftAge (x : Tile) (p : Nat) : Nat := driftDiff x.pat.drift (x.lastRefresh p)
/-- The patrol interval in drift units, which are 3,600 to the hour (R227). -/
def State.patrolInterval (s : State) : Nat := s.cell Ob.PATROL_INTERVAL 96 * 3600
/-- Whether a segment has reached a share of the interval, in eighths, by drift age or by real age since its last visit
(R227, R231). -/
def State.ageReached (s : State) (t p eighths : Nat) : Bool :=
  let x := s.tile t
  decide (eighths * s.patrolInterval ≤ 8 * x.driftAge p) ||
  decide (eighths * s.patrolInterval * 10 ^ 9 ≤ 8 * (s.now t - (x.map.seg p).visitedAt))

/-- The drift age that an access takes for a segment, from its age table entry; an entry that was reset counts as class 11
(R222, R246). [DESIGN CHOICE, assumption 46] -/
def Tile.accessAge (x : Tile) (p : Nat) : Nat :=
  if (x.map.seg p).class11 then 15552000 else (x.pat.drift / 256 + 65536 - (x.map.seg p).age + 1) % 65536 * 256
/-- Age class of a drift age (R223). -/
def ageClass (age : Nat) : Nat :=
  ([900, 3600, 14400, 43200, 86400, 172800, 345600, 1036800, 3110400, 7776000, 15552000].filter (fun b => decide (b ≤ age))).length
/-- Temperature band of a die (R224). -/
def temperatureBand (c : Int) : Nat := (([0, 25, 55, 85, 110, 130, 140] : List Int).filter (fun b => decide (b ≤ c))).length
/-- Byte `i` of the drift table of nib `n` of tile `t`, as manufactured (R224); DESIGN CHOICE, assumption 18. -/
def driftTableByte (t n i : Nat) : Nat := Config.identity (2 ^ 20 + (16 * t + n) * 96 + i) % 256
/-- The sense-reference offset of a line slot of segment `p` on die `n` of tile `t`, in steps of the reference DAC (R224).
What it does to a sense is in the bit errors that the commands carry. [DESIGN CHOICE, assumption 46] -/
def State.senseOffset (s : State) (t p n : Nat) : Int :=
  (BitVec.ofNat 8 (driftTableByte t n (8 * ageClass ((s.tile t).accessAge p) + temperatureBand ((s.tile t).sup.dieTemps.getD n 0)))).toInt

/-! ### Treating a member (R229) -/

/-- The stripe of a data or parity member that decodes ERASED is rebuilt, or is broken and loses what does not decode
(R84, R86). -/
def State.treatErased (s : State) (t part lseg st pos : Nat) (c : Copy) : State :=
  let x := s.tile t
  let S := c.stripe st
  let slot := x.finalSlot (c.slot st pos)
  match x.xorVersions lseg st c ((List.range 9).filter (fun j => decide (j ≠ pos))) with
  | some d =>
    ((((s.ownReads t part lseg st 3 c [pos]).tcount t Cn.LINES_REBUILT 1).tev t Ev.LINE_REBUILT 0xFF slot [(6, (memberKey lseg st S pos).toNat)])).repairMember
      t part lseg st pos c d 3
  | none =>
    let bad := (List.range 9).filter (fun j => decide (j = pos) || (x.strokeVersion lseg st j c).isNone)
    let lost := bad.filter (fun j => decide (j ≠ parityPos S))
    let s1 := (s.ownReads t part lseg st 3 c [pos]).each lost (fun s' j => match memberLla lseg st S j with
      | none => s'
      | some l => (s'.loseLine t part l ((s'.tile t).finalSlot (c.slot st j)) 2).forgetClean t l)
    s1.poisonStripe t part lseg st c (if lost.isEmpty then [parityPos S] else lost) false

/-- Queues the refresh stroke of a member and holds its image IN-FLIGHT (R229 steps 4 and 5, R230). -/
def State.refreshMember (s : State) (t part lseg st pos : Nat) (c : Copy) (w : Codeword) (prio : Nat) : State :=
  let x := s.tile t
  let S := c.stripe st
  let slot := x.finalSlot (c.slot st pos)
  let ver := x.res.verCtr + 1
  let d := cwData w
  let put (parity : Bool) (addr : Nat) : State :=
    (s.modRes t (fun r => { r.putBuf { parity := parity, addr := addr, slice := r.sliceOf .data addr, image := d, ver := ver, inflight := true }
                            with verCtr := ver })).queueStroke t (Stroke.mk0 .refresh parity addr slot w ver 0 prio false)
  match memberLla lseg st S pos with
  | none => put true S
  | some lla =>
    let s1 := put false lla
    match x.res.find lla t with
    | some e =>
      if e.st = .clean then (s1.modRes t (fun r => r.setEntry e.id (fun e => { e with st := .inflight }))).shadowLine t lla else s1
    | none =>
      if x.isLost lla then s1
      else
        let e := { Entry.empty (s.lineKind part t lla) part lla t with
          st := .inflight, mask := fullMask, data := d, storedOnly := some d, dpa := (s.partn part).dpaOf t lla }
        (s1.modRes t (fun r => (r.place e).1)).shadowLine t lla

/-- Whether a member is IN-FLIGHT, so that a visit or pass skips it (R229 step 1, R240). -/
def Tile.memberBusy (x : Tile) (lseg st pos : Nat) (c : Copy) : Bool :=
  (x.memberImage lseg st (c.stripe st) pos).isSome

/-! ### Visits -/

/-- Whether the patrol visits a segment, as it stands (R226). -/
def TileMap.visitable (m : TileMap) (p : Nat) : Bool :=
  match (m.seg p).cond with
  | .bound => !(m.migs.any (fun g => decide (g.source = p)))
  | .free | .quarantined => true
  | _ => false
/-- Segments that a tile visits or whose headers it rewrites. -/
def TileMap.visitCount (m : TileMap) : Nat :=
  segsPerTile - (m.segs.filter (fun x => decide (x.2.cond = .retired ∨ x.2.cond = .donor ∨ x.2.cond = .target))).length
/-- The segment to visit next: scheduled first (R246), then the accelerated patrol's oldest (R235), then in ascending
LAST_REFRESH order (R228); the lowest number among equals. -/
def Tile.nextVisit (x : Tile) : Option Nat :=
  match (x.pat.first ++ x.pat.accel).find? (fun p => x.map.visitable p) with
  | some p => some p
  | none =>
    let listed := ((x.map.segs.map Prod.fst) ++ (x.med.hdr.map Prod.fst).map (· / 2)).eraseDups.filter (fun p => x.map.visitable p)
    let unlisted := ((List.range (x.map.segs.length + x.med.hdr.length + 1)).find? (fun p =>
      (x.map.segs.find p).isNone && (x.med.hdr.find (2 * p)).isNone)).toList
    maxBy (fun p => x.driftAge p) (unlisted ++ listed)

/-- Starts a visit: D0 = D (R229). -/
def State.startVisit (s : State) (t : Nat) : State :=
  match (s.tile t).nextVisit with
  | none => s
  | some p => s.modPat t (fun x => { x with visit := some p, d0 := x.drift, nextStripe := 0, nextMember := 0, weak := 0, erased := 0 })

/-- Refresh strokes queued or running in a tile (R231). -/
def TileRes.refreshes (r : TileRes) : List Stroke := r.strokes.filter (fun k => decide (k.kind = .refresh))
/-- Refresh strokes at patrol priority, which the refresh queue holds (R231). -/
def TileRes.refreshQueue (r : TileRes) : Nat := (r.refreshes.filter (fun k => decide (k.priority = 5))).length

/-- The counts of a visit reach the thresholds of a weak segment (R232): recorded once, and migration triggered. -/
def State.noteWeak (s : State) (t p lseg : Nat) (before : Nat × Nat) : State :=
  let x := (s.tile t).pat
  let beyond (w e : Nat) : Bool :=
    decide (s.cell Ob.WEAK_SEG_LINES 256 ≤ w) || decide (s.cell Ob.WEAK_SEG_ERASED 8 ≤ e)
  if beyond x.weak x.erased && !beyond before.1 before.2 then
    ((s.raise (Ob.inst Ob.PATROL_STATUS t) 2 (Ob.inst Ob.PATROL_OCC t + 2)).tev t Ev.SEGMENT_WEAK 0xFF p
      [(4, lseg), (4, x.weak), (4, x.erased)]).trigger t lseg 3
  else s

/-- Moves a visit on by one member. -/
def TilePat.step (x : TilePat) : TilePat :=
  if x.nextMember = 8 then { x with nextMember := 0, nextStripe := x.nextStripe + 1 }
  else { x with nextMember := x.nextMember + 1 }

/-- The treatment of one member of a bound segment at a visit (R229), with its weak cells and the bit errors of its sense. Every stroke of
the accelerated patrol has host write-back priority (R235). -/
def State.visitMember (s : State) (t p weakCells : Nat) (err : Codeword) : State :=
  let x := s.tile t
  let g := x.map.seg p
  let c : Copy := { pseg := p, omega := g.omega, moves := g.moves }
  let st := x.pat.nextStripe
  let pos := x.pat.nextMember
  let S := c.stripe st
  let part := (s.partOfSeg t g.lseg).getD 0
  let before := (x.pat.weak, x.pat.erased)
  let next (s : State) : State := s.modPat t TilePat.step
  if x.memberBusy g.lseg st pos c then next (s.tcount t Cn.PATROL_SKIPPED 1)
  else
    let slot := x.finalSlot (c.slot st pos)
    let key := memberKey g.lseg st S pos
    let weak := decide (s.cell Ob.REFRESH_WEAK_CELLS 8 ≤ weakCells)
    let plain := if x.pat.accel.contains p then 3 else 5
    let s1 := (s.ownRead t part g.lseg st pos 3 c).tcount t Cn.PATROL_READS 1
    if x.slotFailed slot then next (s1.treatErased t part g.lseg st pos c)
    else
      let dec := decodeLine key (x.codeword slot key ^^^ err)
      let s2 := s1.noteDecode t slot part (memberLla g.lseg st S pos) dec
      let s3 := if weak then s2.tcount t Cn.PATROL_WEAK_LINES 1 else s2
      let strokes (s : State) : State := s.tcount t Cn.PATROL_STROKES 1
      let wk (s : State) : State := s.modPat t (fun y => { y with weak := y.weak + 1 })
      let done := match dec with
        | .clean d =>
          let s4 := strokes (s3.refreshMember t part g.lseg st pos c (encodeLine key d) (if weak then 3 else plain))
          if weak then wk s4 else s4
        | .corrected d => wk (strokes (s3.refreshMember t part g.lseg st pos c (encodeLine key d) 3))
        | .lost => strokes (s3.refreshMember t part g.lseg st pos c (poisonWord key) plain)
        | .erased _ =>
          strokes ((s3.modPat t (fun y => { y with erased := y.erased + 1 })).treatErased t part g.lseg st pos c)
      next (done.noteWeak t p g.lseg before)

/-- PATROL_VISIT_MEMBER (R229 to R232): the visit of tile `t` treats its next member, starting a visit when none runs. A
blanked free segment is read and stroked with what it holds; other segments have only their headers rewritten. -/
def execPatrolVisitMember (t weakCells : Nat) (err : Codeword) (s : State) : Host.Outcome State Fault Refusal :=
  .next (if t < s.n ∧ s.dev.st ≠ .drain ∧ (s.tile t).res.refreshQueue < 4096 then
      let s1 := if (s.tile t).pat.visit.isSome then s else s.startVisit t
      match (s1.tile t).pat.visit with
      | none => s1
      | some p =>
        if segStripes ≤ (s1.tile t).pat.nextStripe then s1
        else
          let g := (s1.tile t).map.seg p
          match g.cond with
          | .bound => s1.visitMember t p weakCells err
          | .free =>
            if g.blanked then (((s1.transfer t (dieOfPos (stripeAddr p (s1.tile t).pat.nextStripe) (s1.tile t).pat.nextMember) 3 15).tcount t Cn.PATROL_READS 1).tcount t Cn.PATROL_STROKES 1).modPat t TilePat.step
            else s1.modPat t (fun x => { x with nextStripe := segStripes })
          | _ => s1.modPat t (fun x => { x with nextStripe := segStripes })
    else s)

/-- Rewrites the headers at the end of a visit (R229): from the other copy when one is not valid, from the map under a fresh
SEQ of the same ω when neither is. -/
def State.visitHeaders (s : State) (t p d0 : Nat) (bad0 bad1 : Bool) : State :=
  let x := s.tile t
  let g := x.map.seg p
  let h := x.med.header p (if bad0 then 1 else 0)
  let note (s : State) : State :=
    if bad0 || bad1 then s.tev t Ev.HEADER_REWRITTEN 0xFF p [(1, bitNat bad0 + 2 * bitNat bad1)] else s
  if bad0 && bad1 && decide (g.cond = .bound) then
    let (s1, seq) := s.residueSeq t g.omega
    let fresh : Header := { seq := seq, state := 1, blanked := false, retired := false, lseg := g.lseg, moves := g.moves,
                            lastRefresh := d0, partition := (s.partOfSeg t g.lseg).getD 0 }
    note (s1.writeHeader t p fresh)
  else note (s.writeHeader t p { h with moves := g.moves, lastRefresh := d0 })

/-- No segment is overdue any more (R231). -/
def State.clearOverdue (s : State) (t : Nat) : State :=
  if (s.tile t).map.segs.any (fun q => (s.tile t).map.visitable q.1 && s.ageReached t q.1 8) then s
  else s.modPat t (fun x => { x with overdue := false })

/-- PATROL_VISIT_END (R229): every stroke of the visit has verified; both headers are rewritten with LAST_REFRESH = D0. `bad0`
and `bad1` say which header copies were found not valid. -/
def execPatrolVisitEnd (t : Nat) (bad0 bad1 : Bool) (s : State) : Host.Outcome State Fault Refusal :=
  .next (match (s.tile t).pat.visit with
    | none => s
    | some p =>
      let x := s.tile t
      if t < s.n ∧ s.dev.st ≠ .drain ∧ segStripes ≤ x.pat.nextStripe ∧ x.res.refreshes.isEmpty then
        let s1 := (s.headerTransfers t p 7).visitHeaders t p x.pat.d0 bad0 bad1
        let s2 := s1.modMap t (fun m => m.setSeg p { m.seg p with visitedAt := s.now t, class11 := false })
        let s3 := s2.modPat t (fun y => { y with
          visit := none, first := y.first.filter (fun q => decide (q ≠ p)), accel := y.accel.filter (fun q => decide (q ≠ p)),
          roundDone := y.drift :: y.roundDone.filter (fun d => decide (driftDiff y.drift d < s.patrolInterval)) })
        (s3.tcount t Cn.PATROL_VISITS 1).clearOverdue t
      else s)

/-- REFRESH_ESCALATED (R231): the segment under visit reaches 7/8 of the interval with refresh strokes queued, which move to
host write-back priority. -/
def execRefreshEscalated (t : Nat) (s : State) : Host.Outcome State Fault Refusal :=
  .next (match (s.tile t).pat.visit with
    | none => s
    | some p =>
      let n := (s.tile t).res.refreshQueue
      if t < s.n ∧ s.ageReached t p 7 ∧ 0 < n then
        let s1 := s.modRes t (fun r => { r with strokes := r.strokes.map (fun (k : Stroke) =>
          if k.kind = .refresh ∧ k.priority = 5 then { k with priority := 3 } else k) })
        ((s1.raise (Ob.inst Ob.PATROL_STATUS t) 1 (Ob.inst Ob.PATROL_OCC t + 1)).tev t Ev.REFRESH_ESCALATED 0xFF p [(4, n)]).tcount
          t Cn.REFRESH_ESCALATIONS n
      else s)

/-- PATROL_OVERDUE (R231): segment `p` reaches the patrol interval; the device enters DEGRADED. -/
def execPatrolOverdue (t p : Nat) (s : State) : Host.Outcome State Fault Refusal :=
  .next (if t < s.n ∧ (s.tile t).map.visitable p ∧ s.ageReached t p 8 then
      let s1 := s.raise (Ob.inst Ob.PATROL_STATUS t) 0 (Ob.inst Ob.PATROL_OCC t)
      ((s1.modPat t (fun x => { x with overdue := true })).tev t Ev.PATROL_OVERDUE 0xFF p [(4, (s.tile t).driftAge p)]).degrade
    else s)

/-- PATROL_PACE (R228, R39): the pace in segments a second, so that each is visited before 7/8 of the interval at the present
drift rate; the 6 h rate while no management core is active. -/
def execPatrolPace (s : State) : Host.Outcome State Fault Refusal :=
  .next (s.each s.tileNumbers (fun s' t =>
    let n := (s'.tile t).map.visitCount
    let f := max (256 * 7800) (s'.tile t).pat.rate
    s'.modPat t (fun x => { x with pace :=
      if s.mgmt.active.isSome then ceilDiv (8 * n * f) (7 * 256 * 7800 * s.patrolInterval) else ceilDiv n (6 * 3600) })))

/-- ACCEL_PATROL_DONE (R235): the accelerated patrol has visited its segments; the normal patrol resumes. -/
def execAccelPatrolDone (t : Nat) (s : State) : Host.Outcome State Fault Refusal :=
  .next (if t < s.n ∧ (s.tile t).pat.accelOn ∧ (s.tile t).pat.accel.isEmpty then
      let since := (s.tile t).pat.accelSince
      (s.modPat t (fun x => { x with accelOn := false })).tev t Ev.ACCEL_PATROL_DONE 0xFF (s.now t - since) []
    else s)

/-- DRIFT_CLOCK_SAVE (R220, R471): the drift clock goes into its slot ring. -/
def execDriftClockSave (t : Nat) (s : State) : Host.Outcome State Fault Refusal :=
  .next (if t < s.n then s.modPs t (fun p => p.saveRing 2 (s.tile t).pat.drift) else s)

/-- AGE_ENTRY_RESET (R246): an uncorrectable age table error; the segment counts as class 11 and is visited first. -/
def execAgeEntryReset (t p : Nat) (s : State) : Host.Outcome State Fault Refusal :=
  .next (if t < s.n ∧ p < segsPerTile then
      let s1 := (s.modMap t (fun m => m.setSeg p { m.seg p with class11 := true })).modPat t (fun x =>
        { x with first := if x.first.contains p then x.first else x.first ++ [p] })
      s1.tev t Ev.AGE_ENTRY_RESET 0xFF p []
    else s)

/-! ### Scrub passes -/

/-- Starts a pass (R236, R239): source 0 dictionary, 1 Scan Media. [DEDUCED, assumption 45] -/
def State.beginScrub (s : State) (source dpa len by_ : Nat) (quiet : Bool) : State :=
  { s with svc := { s.svc with scrubOn := true, scrubSource := source, scrubDpa := dpa, scrubLen := len,
                               scrubCounts := List.replicate 10 0, scrubStart := s.pkgNow, scrubBy := by_, scrubQuiet := quiet } }

/-- Whether a DPA range lies wholly within enabled partitions (R236). -/
def State.rangeEnabled (s : State) (dpa len : Nat) : Bool :=
  let inside := s.parts.filter (fun x => decide (x.2.st = 1))
  let covered := sumList (inside.map (fun x => min (dpa + len) (x.2.base + x.2.size) - max dpa x.2.base))
  decide (covered = len)

/-- `SCRUB_START` (R236). -/
def State.scrubStart (s : State) (v : Nat) : Result :=
  let dpa := s.cell Ob.SCRUB_DPA 0
  let len := s.cell Ob.SCRUB_LENGTH 0
  if v ≠ 1 then s.refused Err.range 0
  else if len = 0 ∨ dpa % 64 ≠ 0 ∨ len % 64 ≠ 0 ∨ !s.rangeEnabled dpa len then s.refused Err.range 0
  else if !s.inService then s.refused Err.state Detail.device
  else if s.svc.scrubOn then s.refused Err.busy 0
  else (s.beginScrub 0 dpa len 0 false).ok

/-- STATUS of `SCRUB_SUMMARY` with SOURCE: kept with the counts (R239). -/
def State.endScrub (s : State) (status : Nat) (counts : List Nat) : State :=
  { s with svc := { s.svc with scrubOn := false,
                               scrubCounts := counts.take 9 ++ [(s.pkgNow - s.svc.scrubStart) / 1000000, status] } }

/-- Aborts the running pass (R238). Causes recorded: 1 `SCRUB_ABORT`, 2 DRAIN, 3 a partition of the range disabled. -/
def State.abortScrub (s : State) (cause : Nat) : State :=
  if s.svc.scrubOn then (s.endScrub 3 s.svc.scrubCounts).pev Ev.SCRUB_ABORTED cause [] else s

/-- `SCRUB_ABORT` (R238). -/
def State.scrubAbort (s : State) (v : Nat) : Result :=
  if v ≠ 1 then s.refused Err.range 0
  else if !s.svc.scrubOn then s.refused Err.state Detail.object
  else (s.abortScrub 1).ok

/-- Counts of a pass: read, corrected, rebuilt, remapped, refreshed, lost, skipped; and the strokes that still fail verify once. -/
structure Tally where
  read : Nat
  corrected : Nat
  rebuilt : Nat
  remapped : Nat
  refreshed : Nat
  lost : Nat
  skipped : Nat
  fails : Nat

/-- A stroke of a pass: when it fails verify it is remapped, and where no remap entry is left a migration is its remedy (R95, R97, R211).
[DEDUCED, assumption 45] -/
def State.scrubStroke (s : State) (y : Tally) (t lseg slot cls : Nat) (w : Codeword) : State × Tally :=
  let r := (s.spendCredits t 1).strokeNow t slot cls w (min 1 y.fails)
  let s1 := r.1.tcount t Cn.SCRUB_STROKES 1
  if r.2 then
    (s1, { y with refreshed := y.refreshed + 1, fails := y.fails - 1,
                  remapped := if 0 < y.fails ∧ !(r.1.tile t).slotFailed slot then y.remapped + 1 else y.remapped })
  else (s1.needMigration t lseg, { y with fails := y.fails - 1 })

/-- A pass treats one slot (R237). [DEDUCED, assumption 45] -/
def State.scrubMember (s : State) (y : Tally) (t part lseg st pos : Nat) (c : Copy) : State × Tally :=
  let x := s.tile t
  let S := c.stripe st
  let slot := x.finalSlot (c.slot st pos)
  let key := memberKey lseg st S pos
  if x.memberBusy lseg st pos c then (s, { y with skipped := y.skipped + 1 })
  else
    let cls := s.lineClass part t lseg st S pos 3
    let s1 := (s.ownRead t part lseg st pos 3 c).tcount t Cn.SCRUB_READS 1
    let y1 := { y with read := y.read + 1 }
    if x.slotFailed slot then (s1.treatErased t part lseg st pos c, { y1 with rebuilt := y1.rebuilt + 1 })
    else
      let dec := decodeLine key (x.codeword slot key)
      let s2 := s1.noteDecode t slot part (memberLla lseg st S pos) dec
      match dec with
      | .clean d => s2.scrubStroke y1 t lseg slot cls (encodeLine key d)
      | .corrected d => s2.scrubStroke { y1 with corrected := y1.corrected + 1 } t lseg slot cls (encodeLine key d)
      | .lost => s2.scrubStroke { y1 with lost := y1.lost + 1 } t lseg slot cls (poisonWord key)
      | .erased _ =>
        let ok := (x.xorVersions lseg st c ((List.range 9).filter (fun j => decide (j ≠ pos)))).isSome
        ((s2.treatErased t part lseg st pos c).tcount t Cn.SCRUB_STROKES 1,
         if ok then { y1 with rebuilt := y1.rebuilt + 1, refreshed := y1.refreshed + 1 } else { y1 with lost := y1.lost + 1 })

/-- A pass treats a data line of its range, and the parity line of its stripe with the stripe's first line in the range
(R237). Lines of segments that are FRESH or LOST have no slot. [DEDUCED, assumption 45] -/
def State.scrubLine (s : State) (y : Tally) (dpa : Nat) : State × Tally :=
  match s.partOf dpa with
  | none => (s, y)
  | some part =>
    let p := s.partn part
    let (t, lla) := p.locate dpa
    if !s.tileActive t then (s, { y with skipped := y.skipped + 1 })
    else
      let lseg := lsegOf lla
      let st := stripeOfLine (lineIndexOf lla)
      match (s.tile t).map.copyFor lseg st with
      | none => (s, y)
      | some c =>
        let S := c.stripe st
        let k := dataPosOf (lineIndexOf lla)
        let (s1, y1) := s.scrubMember y t part lseg st (memberPos S k) c
        let firstHere := (List.range k).all (fun j =>
          let d := p.dpaOf t (lla - k + j)
          decide (d < s.svc.scrubDpa ∨ s.svc.scrubDpa + s.svc.scrubLen ≤ d))
        if firstHere then s1.scrubMember y1 t part lseg st (parityPos S) c else (s1, y1)

/-- The occurrences staged since `before` are not posted to the event logs (R382). -/
def State.quieted (s before : State) : State :=
  { s with recs := (s.recs.zip before.recs).map (fun (x : Recorder × Recorder) => { x.1 with
      staged := x.1.staged.take x.2.staged.length ++
        (x.1.staged.drop x.2.staged.length).map (fun (o : Occ) => ({ o with quiet := true } : Occ)) }) }
/-- SCRUB_DONE (R237, R239): every slot of the pass is treated and every stroke has verified. `worst` is the most weak cells
seen in one slot; the first `fails` of its strokes fail verify once. [DEDUCED, assumption 45] -/
def execScrubDone (worst fails : Nat) (s : State) : Host.Outcome State Fault Refusal :=
  .next (if s.svc.scrubOn then
      let dpas := (List.range (s.svc.scrubLen / 64)).map (fun i => s.svc.scrubDpa + 64 * i)
      let z : Tally := { read := 0, corrected := 0, rebuilt := 0, remapped := 0, refreshed := 0, lost := 0, skipped := 0, fails := fails }
      let (s1, y) := dpas.foldl (fun acc d => acc.1.scrubLine acc.2 d) (s, z)
      let oldest := s.tileNumbers.foldl (fun m t => ((s.tile t).map.segs.filter (fun q => decide (q.2.cond = .bound))).foldl
        (fun m q => max m ((s.tile t).driftAge q.1)) m) 0
      let s2 := s1.endScrub 2 [y.read, y.corrected, y.rebuilt, y.remapped, y.refreshed, y.lost, y.skipped, min worst 576, oldest]
      (if s.svc.scrubQuiet then s2.quieted s else s2).pev Ev.SCRUB_DONE s.svc.scrubSource
        [(4, y.read), (4, y.corrected), (4, y.rebuilt), (4, y.remapped), (4, y.refreshed), (4, y.lost), (4, y.skipped)]
    else s)

end Sys2Proof.Machine
end

