-- ==== Sys2Proof/Machine/Rebuild.lean ====
section
/-! DEFINITION. Map rebuild (R203 to R208), drift probe and accelerated patrol (R234, R235), reconcile (R152, R271). -/
namespace Sys2Proof.Machine
open Sys2Proof

/-! ### Map rebuild -/

/-- The valid header of a segment: copy 0, else copy 1; `bad` lists the copies that do not decode, as 2 × segment + copy
(R203). -/
def TileMed.validHeader (m : TileMed) (bad : List Nat) (p : Nat) : Option Header :=
  if !bad.contains (2 * p) then some (m.header p 0)
  else if !bad.contains (2 * p + 1) then some (m.header p 1) else none

/-- How the header found classifies a segment (R203). -/
inductive SegClass where
  | lost | retired | free (blanked : Bool) | stale | candidate (lseg seq : Nat)
  deriving DecidableEq, Repr

/-- Classification of a physical segment at rebuild (R203). -/
def State.classify (s : State) (t : Nat) (bad : List Nat) (p : Nat) : SegClass :=
  match (s.tile t).med.validHeader bad p with
  | none => .lost
  | some h =>
    if h.retired then .retired
    else if h.state = 0 then .free false
    else if h.state = 2 then .free h.blanked
    else if (s.partn h.partition).st = 1 ∧ (s.partn h.partition).owns t h.lseg then .candidate h.lseg h.seq
    else .stale

/-- A logical segment has lost its headers (R208). -/
def State.segLost (s : State) (t lseg : Nat) : State :=
  let part := (s.partOfSeg t lseg).getD 0
  let s1 := s.modMap t (fun m => m.setEntry lseg { st := .lost, pseg := 0, writes := 0, omega := 0 })
  let p := s.partn part
  let dpa := if s.isDataLine part t (lseg * segLines) then p.dpaOf t (lseg * segLines) else noDpa
  (s1.xlateBit t 5).tev t Ev.SEGMENT_LOST 0xFF lseg [(1, part), (7, dpa), (7, dpa + 0x100000)]

/-- A damage found at a map rebuild: 2 × segment + copy for a header copy that does not decode; from this number up 2 × segment for the last
move made of a segment, or that plus 1 for the one after it, where its destination cannot be decoded (R203, R204). [DEDUCED, assumption 44] -/
def undecidedBase : Nat := 2 ^ 22
/-- A rotation move that cannot be decided is taken as done, and its member is rebuilt into the destination (R204, R84, R88).
[DEDUCED, assumption 44] -/
def State.undecidedMove (s : State) (t code : Nat) : State :=
  let x := s.tile t
  let p := code / 2
  let g := x.map.seg p
  let base := g.moves + code % 2 - 1
  if g.cond ≠ .bound ∨ g.moves + code % 2 = 0 then s
  else
    match movedMember p g.omega base with
    | none => s
    | some (st, pos, dest) =>
      let c : Copy := { pseg := p, omega := g.omega, moves := g.moves }
      let key := memberKey g.lseg st (c.stripe st) pos
      let slot := x.finalSlot dest
      let part := (s.partOfSeg t g.lseg).getD 0
      let s1 := (((s.ownReads t part g.lseg st 3 c [pos]).strokeNow t slot (s.lineClass part t g.lseg st (c.stripe st) pos 3) (x.memberWord g.lseg st pos c key) 0).1).modMap t (fun m => m.setSeg p { m.seg p with moves := base + 1 })
      let s2 := (((s1.tcount t Cn.ROTATION_PROBES 64).tcount t Cn.LINES_REBUILT 1).tcount t Cn.REPAIR_STROKES 1).tev t Ev.LINE_REBUILT 0xFF slot [(6, key.toNat)]
      s2.tev t Ev.ROTATION_UNDECIDED 0xFF p [(5, base + 1)]

/-- The map rebuild of tile `t` (R203 to R206): headers classified, one candidate bound for each logical segment, twins and
lost headers quarantined, segments whose bound bit has no candidate LOST. Rotation resolution finds every segment's true
MOVES (R204). `damage` lists what the scan and the resolver could not decode. -/
def State.rebuildMap (s : State) (t : Nat) (damage : List Nat) : State :=
  let bad := damage.filter (fun i => decide (i < undecidedBase))
  let x := s.tile t
  let ps := ((x.med.hdr.map Prod.fst).map (· / 2) ++ bad.map (· / 2)).eraseDups
  let cls := ps.map (fun p => (p, s.classify t bad p))
  let movesOf (p : Nat) : Nat := match (x.map.seg p).cond with
    | .bound => (x.map.seg p).moves
    | _ => match x.med.validHeader bad p with
      | some h => h.moves
      | none => (x.map.seg p).moves
  let donors := (x.map.evacs.map Evac.donors).flatten
  let cands := cls.filterMap (fun c => match c.2 with
    | .candidate l q => some (c.1, l, q)
    | _ => none)
  let best (l : Nat) : Nat := (cands.filter (fun c => decide (c.2.1 = l))).foldl (fun m c => max m c.2.2) 0
  let winner (l : Nat) : Option Nat :=
    minBy (fun p => p) ((cands.filter (fun c => decide (c.2.1 = l ∧ c.2.2 = best l))).map (fun c => c.1))
  let blank : TileMap := { x.map with
    map := [], segs := [], migs := [], triggers := [], quars := [], movesDue := [],
    seqCtr := max (max x.map.seqCtr ((x.ps.ringValue 1).getD 0)) (cands.foldl (fun m c => max m c.2.2) 0),
    seqCeil := (x.ps.ringValue 1).getD 0 }
  let old (p : Nat) : Seg := { x.map.seg p with moves := movesOf p, visitedAt := 0, age := x.lastRefresh p / 256 % 65536, class11 := false }
  let s0 := s.modMap t (fun _ => blank)
  let s1 := s0.each cls (fun s' c =>
    let p := c.1
    let g := old p
    let set (s : State) (g : Seg) : State := s.modMap t (fun m => m.setSeg p g)
    match c.2 with
    | .lost => (set s' g).quarantine t p 0xFFFFFF 2 |>.tev t Ev.HEADER_LOST 0xFF p []
    | .retired => set s' { g with cond := if donors.contains p then .donor else .retired, blanked := false }
    | .free b => set s' { g with cond := .free, blanked := b, lseg := 0xFFFFFF, blankMoves := if b then g.blankMoves else g.moves }
    | .stale => (set s' g).release t p
    | .candidate l q =>
      if winner l = some p then
        (set s' { g with cond := .bound, blanked := false, omega := q % 8, lseg := l }).modMap t (fun m =>
          m.setEntry l { st := .bound, pseg := p, writes := 0, omega := q % 8 })
      else if q = best l then
        ((((set s' g).quarantine t p l 1).modMap t (fun m => m.setSeg p { m.seg p with omega := q % 8, lseg := l })).tev t Ev.TWIN_HEADERS 0xFF l
          [(4, (winner l).getD 0), (4, p)])
      else (set s' g).release t p)
  let boundNow := (cands.map (fun c => c.2.1)).eraseDups
  let missing := x.ps.bound.filter (fun l => !boundNow.contains l && (s.partOfSeg t l).isSome)
  let s2 := s1.each missing (fun s' l => s'.segLost t l)
  let newBits (old : List Nat) : List Nat :=
    old.filter (fun l => (s.partOfSeg t l).isSome) ++ boundNow.filter (fun l => !old.contains l)
  let s3 := (s2.modPs t (fun p => { p with bound := newBits p.bound })).each (damage.filter (fun i => decide (undecidedBase ≤ i))) (fun s' i =>
    s'.undecidedMove t (i - undecidedBase))
  let count (c : SegCond) : Nat := ((s3.tile t).map.segs.filter (fun q => decide (q.2.cond = c))).length
  let free := segsPerTile - (s3.tile t).map.notFree
  ((s3.tcount t Cn.ROTATION_PROBES (7 * boundNow.length)).tev t Ev.MAP_REBUILT 0xFF (count .bound)
    [(4, s3.heldSegs t - s3.boundSegs t), (4, free), (4, count .retired + count .donor), (4, count .quarantined), (4, 0)])

/-! ### Drift probe -/

/-- Upper bound of an age class in units (R223); class 11 counts as 15,552,000 (R234). -/
def classBound (c : Nat) : Nat :=
  [900, 3600, 14400, 43200, 86400, 172800, 345600, 1036800, 3110400, 7776000, 15552000, 15552000].getD c 15552000

/-- The drift probe and what follows from it (R234, R235): `best` is the greatest class that a nib's probe found best. A
tile with no bound segment adds 345,600 units. -/
def State.driftProbe (s : State) (t best : Nat) : State :=
  let x := s.tile t
  let bound := x.map.segs.filter (fun q => decide (q.2.cond = .bound))
  let ages := (bound.map (fun q => x.driftAge q.1))
  let aMin := (minBy (fun a => a) ages).getD 0
  let a := if bound.isEmpty then 345600 else classBound best - aMin
  let s1 := s.modPat t (fun p => { p with drift := (p.drift + a) % 2 ^ 32, absence := a })
  let s2 := if best = 11 ∧ !bound.isEmpty then
      (s1.raise (Ob.inst Ob.PATROL_STATUS t) 3 (Ob.inst Ob.PATROL_OCC t + 3)).tev t Ev.RETENTION_EXCEEDED 0xFF 0 []
    else s1
  let due := ((s2.tile t).map.segs.filter (fun q => (s2.tile t).map.visitable q.1 &&
    decide (s2.patrolInterval ≤ (s2.tile t).driftAge q.1))).map (fun q => q.1)
  if due.isEmpty then s2
  else (s2.modPat t (fun p => { p with accel := due, accelOn := true, accelSince := s.now t })).tev t Ev.ACCEL_PATROL_START 0xFF a
    [(4, due.length)]

/-! ### Reconcile (R152) -/

/-- Restores PINNED-FAILED entries from a shadow record (R152). -/
def State.restorePins (s : State) (t : Nat) (pins : List Entry) : State :=
  s.each pins (fun s' e =>
    (s'.modRes t (fun r => (r.place { e with st := .pinned, overflow := false }).1)).shadow t true 3 e.addr)

/-- Recomputes the parity of a stripe from its data lines, each LOST one counting as zero; a data line that does not decode
is poisoned. The parity line is stroked only when it does not already decode CLEAN to the result (R152). [DEDUCED, assumption 37] -/
def State.reparity (s : State) (t S : Nat) : State :=
  let x := s.tile t
  let p := S / segStripes
  let st := S % segStripes
  let g := x.map.seg p
  if g.cond ≠ .bound then s
  else
    let c : Copy := { pseg := p, omega := g.omega, moves := g.moves }
    let data := (List.range 9).filter (fun j => decide (j ≠ parityPos S))
    let bad := data.filter (fun j => (x.strokeVersion g.lseg st j c).isNone)
    let part := (s.partOfSeg t g.lseg).getD 0
    let s1 := (s.ownReads t part g.lseg st 3 c []).each bad (fun s' j => match memberLla g.lseg st S j with
      | none => s'
      | some l => s'.loseLine t part l (x.finalSlot (c.slot st j)) 2)
    let s2 := s1.each bad (fun s' j => (s'.strokeNow t (x.finalSlot (c.slot st j)) (s.lineClass part t g.lseg st S j 3) (poisonWord (memberKey g.lseg st S j)) 0).1)
    let d := xorLines (data.map (fun j => (x.strokeVersion g.lseg st j c).getD 0))
    let slot := x.finalSlot (c.slot st (parityPos S))
    if decodeLine (parityKey S) (x.codeword slot (parityKey S)) = .clean d then s2
    else (s2.strokeNow t slot 2 (encodeLine (parityKey S) d) 0).1

/-- A line that the shadow lists as not on the medium is LOST, with a poison codeword and a parity update; a FRESH segment is
bound first (R152). -/
def State.loseShadowed (s : State) (t lla : Nat) : State :=
  match s.partOfSeg t (lsegOf lla) with
  | none => s
  | some part =>
    let s1 := if ((s.tile t).map.entry (lsegOf lla)).st = .fresh then s.bind t part (lsegOf lla) else s
    s1.makeLost t part lla 2 false

/-- The shadow record of tile `t` that its mirror tile wrote last (R150). -/
def State.shadowRecOf (s : State) (t : Nat) : Option ShadowRec :=
  ((s.tileNumbers.map (fun m => (s.tile m).ps.shadowRecs)).flatten).find? (fun r => decide (r.tile = t) && r.whole)

/-- Reconcile of tile `t` with the last generation (R152, R271): spanned lines of the record are taken from the mirror dump.
[DEDUCED, assumption 37] -/
def State.reconcile (s : State) (t gen : Nat) : State :=
  let rec? := (s.shadowRecOf t).filter (fun r => decide (r.generation = gen))
  if (s.tile t).ps.flushDone = some gen then
    match rec? with
    | some r => s.restorePins t r.pins
    | none => s
  else
    match rec? with
    | some r =>
      let stripes := (r.entries.filter (fun e => decide (e.kind = 2))).map ShadowEntry.addr
      let lines := (r.entries.filter (fun e => decide (e.kind = 1))).map ShadowEntry.addr
      let dumped := r.dump.filter (fun e => lines.contains e.addr)
      let gone := lines.filter (fun l => !(dumped.any (fun e => decide (e.addr = l))))
      let s1 := s.each stripes (fun s' S => s'.reparity t S)
      let s2 := s1.each gone (fun s' l => s'.loseShadowed t l)
      let s3 := s2.each dumped (fun s' e =>
        (s'.modRes t (fun q => (q.place { e with st := if e.mask = fullMask then .dirty else .incomplete, overflow := false }).1)).shadow
          t true 1 e.addr)
      let s4 := (s3.restorePins t r.pins).setCell Ob.SHADOW_LOST_LINES (s3.cell Ob.SHADOW_LOST_LINES 0 + gone.length)
      if stripes.isEmpty ∧ gone.isEmpty then s4
      else s4.tev t Ev.SHADOW_RECONCILE 0xFF stripes.length [(4, gone.length)]
    | none =>
      let bound := ((s.tile t).map.segs.filter (fun q => decide (q.2.cond = .bound))).map (fun q => q.1)
      let s1 := s.tev t Ev.SHADOW_RECORD_LOST 0xFF 0 []
      s1.each bound (fun s' p => s'.each (List.range segStripes) (fun s'' st => s''.reparity t (stripeAddr p st)))

end Sys2Proof.Machine
end

