-- ==== Sys2Proof/Machine/Fence.lean ====
section
/-! DEFINITION. Fault containment (09): suspicion (R253), the fence (R254 to R264), replay (R266, R267), rejoin and resync (R269
to R271), double faults (R272), shadow memory errors (R245). -/
namespace Sys2Proof.Machine
open Sys2Proof

/-! ### Suspicion and the first steps of a fence -/

/-- Device states in which faults are detected and fenced (R253). -/
def State.fenceStates (s : State) : Bool :=
  decide (s.dev.st = .test ∨ s.dev.st = .rebuild ∨ s.dev.st = .ready ∨ s.dev.st = .degraded)

/-- The tile of the fault fence that acts on a suspect: tile 0 or 1, not the suspect (R253). -/
def fenceTile (t : Nat) : Nat := if t = 0 then 1 else 0

/-- A rejoin fails: FENCED again with cause REJOIN_FAILED (R270, R254). -/
def State.rejoinFailed (s : State) (t : Nat) : State :=
  let step := (s.tile t).fence.rejoinStep
  let s1 := s.modFence t (fun f => { f with st := .fenced, cause := 6, fenceTime := s.now (fenceTile t), rejoinStep := 0 })
  ((s1.modTime t (fun x => { x with linkE := false, linkW := false })).pevAt (fenceTile t) Ev.REJOIN_FAILED 0xFF t
    [(1, step)]).evalHealth

/-- The Scribe queues of a tile stop: words and descriptors are lost, no record is written (R264, R330). -/
def State.abandonQueues (s : State) (t : Nat) : State :=
  let s1 := { s with queues := s.queues.map (fun (x : Nat × Queue) =>
    if x.1 / 64 = t then (x.1, { x.2.flush with descs := [], failed := none }) else x) }
  s1.modRd t (fun y => { y with waiting := y.waiting.filter (fun r => decide (r.iface ≠ .scribe)) })

/-- A tile is suspected with a cause (R253, R254 steps 1 and 2): FENCING, its ring links blocked, its port down. -/
def State.suspect (s : State) (t cause : Nat) : State :=
  if t < s.n ∧ s.fenceStates then
    match (s.tile t).fence.st with
    | .active =>
      let s1 := s.modFence t (fun f => { f with st := .fencing, cause := cause, firstCause := cause })
      let s2 := s1.setCell Ob.FENCE_COUNT (satAdd 65535 (s1.cell Ob.FENCE_COUNT 0) 1)
      let s3 := (s2.count Cn.TILE_FENCES 1).pevAt (fenceTile t) Ev.TILE_FENCING 0xFF t [(1, cause)]
      let s4 := s3.modTime t (fun x => { x with linkE := false, linkW := false })
      ((s4.linkDown (s4.portOfTile t) 5).abandonQueues t).degrade
    | .rejoining => s.rejoinFailed t
    | _ => s
  else s

/-- WATCHDOG_TRIP (R253): a request or command of tile `issuer` has not completed within 10 µs; the tile of the silent block
is suspected. In DRAIN the trip is recorded and no tile is fenced. -/
def execWatchdogTrip (issuer suspect block request : Nat) (s : State) : Host.Outcome State Fault Refusal :=
  .next (if issuer < s.n ∧ suspect < s.n ∧ (s.fenceStates = true ∨ s.dev.st = .drain) then
      ((s.tcount issuer Cn.WATCHDOG_TRIPS 1).tev issuer Ev.WATCHDOG_TRIP 0xFF suspect [(1, block), (8, request)]).suspect suspect 1
    else s)

/-- RING_SILENCE (R253). -/
def execRingSilence (t : Nat) (s : State) : Host.Outcome State Fault Refusal := .next (s.suspect t 3)

/-- TILE_SELF_REPORT (R253). -/
def execTileSelfReport (t : Nat) (s : State) : Host.Outcome State Fault Refusal := .next (s.suspect t 4)

/-- `TILE_FENCE` (R253, R272, R275). -/
def State.tileFence (s : State) (t : Nat) : Result :=
  if s.n ≤ t then s.refused Err.range 0
  else if !s.fenceStates then s.refused Err.state Detail.device
  else if s.tileNumbers.any (fun u => !s.tileActive u) then s.refused Err.state Detail.tile
  else (s.suspect t 5).ok

/-! ### The fence decision -/

/-- Whether a line of tile `t` belongs to a spanned partition. -/
def State.spannedSeg (s : State) (t lseg : Nat) : Bool :=
  match s.partOfSeg t lseg with
  | none => false
  | some p => (s.partn p).spanned

/-- The shadow record of tile `t` as a tile writes it: the list as it stands, its pinned images, its sealed roots and, for
a mirror dump, the MIRROR entries (R150, R151, R305). [DEDUCED, assumption 37] -/
def State.shadowRecord (s : State) (m t : Nat) (dump : Bool) : ShadowRec :=
  { generation := (s.tile m).ps.ringValue 0 |>.getD 0, tile := t,
    entries := (s.tile m).res.shadow.filter (fun e => decide (e.owner = t)),
    roots := (s.tile t).sealing.map (fun x => (x.part, x.root)),
    pins := (s.tile t).res.entries.filter (fun e => decide (e.owner = t ∧ e.st = .pinned)),
    dump := if dump then (s.tile m).res.entries.filter (fun e => decide (e.owner = t ∧ e.st = .mirror)) else [],
    whole := true }

/-- A record takes the place of an older one of the same tile in the shadow area (R150). [DEDUCED, assumption 37] -/
def PStore.putRecord (p : PStore) (r : ShadowRec) : PStore :=
  { p with shadowRecs := p.shadowRecs.filter (fun q => decide (q.tile ≠ r.tile)) ++ [r] }
/-- Segments that the shadow list of a fenced tile enters in its change list: of spanned lines and of open stripes (R262). -/
def State.shadowSegs (s : State) (t : Nat) (l : List ShadowEntry) : List Nat :=
  ((l.map (fun e => if e.kind = 2 then ((s.tile t).map.seg (e.addr / segStripes)).lseg else lsegOf e.addr)).filter
    (fun g => s.spannedSeg t g)).eraseDups

/-- The MIRROR entries of a fenced tile become working entries of its stand-in, and enter its stand-in list; one with an
incomplete mask is completed from a reconstruction (R257, R258). [DEDUCED, assumption 42] -/
def State.adoptMirror (s : State) (m t : Nat) : State :=
  let es := (s.tile m).res.entries.filter (fun e => decide (e.owner = t ∧ e.st = .mirror))
  s.each es (fun s' e =>
    let full := decide (e.mask = fullMask)
    let s1 := s'.modRes m (fun r => r.setEntry e.id (fun e => { e with st := if full then .dirty else .incomplete }))
    let s2 := s1.shadowFor m t true 1 e.addr
    if full then s2
    else
      let rid := (s2.tile m).rd.nextId
      let req := { Req.none with tile := t, part := e.part, lla := e.addr, dpa := e.dpa, kx := e.kx }
      (s2.tcount m Cn.PARTIAL_FETCHES 1).modRd m (fun y => { y with nextId := rid + 1, rds := y.rds ++
        [{ Rd.make .fetch req .data e.part e.addr 0 0 0 e.id 0 with id := rid, phase := .recon }] }))

/-- Requests outstanding at a tile, oldest first: reads and atomics under way or waiting, writes merged and not accepted. -/
def Tile.outstanding (x : Tile) : List Req :=
  let rds := (x.rd.rds.filter (fun r => decide (r.why = .host) && !r.answered)).map Rd.req
  rds ++ x.res.pwaits.map PartialWait.req ++ x.res.cmpWait

/-- The requests in issue order. -/
def issueOrder : Nat → List Req → List Req
  | 0, l => l
  | n + 1, l => match minBy Req.admittedAt l with
    | none => []
    | some r => r :: issueOrder n (l.erase r)

/-- The nib tokens of a replayed request (R336). -/
def State.takeNibsOf (s : State) (u : Nat) (r : Req) : State :=
  if r.needsNib then s.modRd u (fun x => (candidateDies r.lla).foldl (fun y d => y.takeNib r.src d) x) else s

/-- Replays one listed request of a fenced tile (R267): a write that its mirror holds is accepted already; another write takes
effect once at the stand-in; a read takes a new lookup point; a plain line's request is answered as R263 says. -/
def State.replay (s : State) (t : Nat) (mirrored : Bool) (r : Req) : State :=
  let s1 := s.tcount r.home Cn.REPLAYED_REQUESTS 1
  match s1.serverOf r with
  | none => (s1.leaveIngress r).refuse r 6 r.dpa r.dpa
  | some u =>
    if u = t then s1
    else if mirrored then
      let s2 := (s1.tcount u Cn.REPLAY_LOG_MATCHES 1).modRd u (fun x => x.takeToken r.src true)
      (s2.modRes u (fun x => x.log r)).ackWrite u r
    else
      let s2 := s1.modRd u (fun x => x.takeToken r.src r.write)
      let r1 := { r with admittedAt := s1.now r.home }
      (s2.takeNibsOf u r1).lookup u r1 0

/-- Whether a queued or running stroke of tile `t` belongs to a spanned segment. -/
def State.spannedStroke (s : State) (t : Nat) (k : Stroke) : Bool :=
  s.spannedSeg t (if k.parity then ((s.tile t).map.seg (k.addr / segStripes)).lseg else lsegOf k.addr)

/-- What stays in a fenced tile: the plain lines it owns, with the evictions, strokes and reads of the isolation flush; lines
of spanned partitions and everything it held for others are discarded (R262). -/
def State.keepPlain (s : State) (t : Nat) : State :=
  let x := s.tile t
  let strokes := x.res.strokes.filter (fun k => !s.spannedStroke t k)
  let evicts := x.res.evicts.filter (fun e => decide (e.owner = t) && !s.spannedSeg t (lsegOf e.addr))
  let rds := x.rd.rds.filter (fun r => decide (r.why ≠ .host ∧ r.req.tile = t) && !s.spannedSeg t (lsegOf r.lla))
  let kept (id : Nat) : Bool := rds.any (fun r => decide (r.id = id))
  let s1 := s.modRes t (fun r => { r with
    entries := r.entries.filter (fun e => decide (e.owner = t ∧ e.st ≠ .mirror) && !s.spannedSeg t (lsegOf e.addr)),
    strokes := strokes, evicts := evicts, pwaits := [], cmpWait := [], cmpHeld := [], mirrorOut := [], deltaOut := [],
    shadow := [], shadowQ := [], backlog := [], gpf := [] })
  let s2 := s1.modRd t (fun y => { y with
    rds := rds, senses := y.senses.filter (fun q => kept q.rd),
    holds := y.holds.filter (fun h => kept h.rd || evicts.any (fun e => decide (evictHold e.id = h.rd))),
    rdUse := List.replicate 16 0, wrUse := List.replicate 16 0, nibUse := List.replicate 256 0 })
  s2.modPat t (fun p => { p with visit := none })

/-- Tile `w` gets a new mirror tile `m` (R260): its own mirror and shadow are to be resent; what waited in the transmitter for
the tile that went away goes with the resend. Without a mirror tile its merged writes are accepted at once. [DEDUCED, assumption 15] -/
def State.moveMirror (s : State) (w m : Nat) : State :=
  let x := s.tile w
  let held := x.res.cmpHeld
  let waits := if m < s.n then [] else x.res.cmpWait
  let counted := (x.res.entries.filter (fun e => e.st.counted && decide (e.owner = w) && s.spannedSeg w (lsegOf e.addr))).map Entry.addr
  let s1 := s.modFence w (fun f => { f with mirror := m, remirror := decide (m < s.n) })
  let s2 := s1.modRes w (fun r => { r with
    cmpHeld := [], shadowQ := [], backlog := if m < s.n then counted else [],
    mirrorOut := if m < s.n then r.mirrorOut else [], cmpWait := if m < s.n then r.cmpWait else [] })
  let s3 := s2.each held (fun s' r => s'.ackWrite w r)
  s3.each waits (fun s' r => ((s'.modRes w (fun x => x.log r)).tcount w Cn.WRITES_ACCEPTED 1).ackWrite w r)

/-- Slot of a line of a tile as it stands; 0 when its segment has none. -/
def Tile.lineSlot (x : Tile) (lla : Nat) : Nat :=
  let st := stripeOfLine (lineIndexOf lla)
  match x.map.copyFor (lsegOf lla) st with
  | none => 0
  | some c => x.finalSlot (c.slot st (memberPos (c.stripe st) (dataPosOf (lineIndexOf lla))))

/-- Lines of other fenced tiles whose only image is in the reservoir of tile `t`, and lines of tile `t` that its own mirror
tile does not hold, are LOST when tile `t` is fenced (R272); `alive` says that it has a mirror tile. [DEDUCED, assumption 42] -/
def State.loseWith (s : State) (t : Nat) (alive : Bool) : State :=
  let r := (s.tile t).res
  let others := r.entries.filter (fun e => decide (e.owner ≠ t ∧ e.kind = .data ∧
    (e.st = .dirty ∨ e.st = .incomplete ∨ e.st = .inflight)))
  let lose (s : State) (o l : Nat) : State :=
    s.loseLine o ((s.partOfSeg o (lsegOf l)).getD 0) l ((s.tile o).lineSlot l) 2
  let own := r.entries.filter (fun e => decide (e.owner = t) && e.st.counted && s.spannedSeg t (lsegOf e.addr))
  let s1 := s.each others (fun s' e => lose s' e.owner e.addr)
  if (s.tile t).fence.remirror then s1.each r.backlog (fun s' l => lose s' t l)
  else if alive then s1
  else s1.each own (fun s' e => lose s' t e.addr)

/-- Step 4 of the fence: tile `t` is FENCED (R254, R256 to R263, R267, R272). [DEDUCED, assumption 42] -/
def State.fenceDecide (s : State) (t : Nat) : State :=
  let n := s.n
  let x := s.tile t
  let m := s.mirrorOf t
  let alive := decide (m < n) && s.tileActive m
  let others := s.tileNumbers.filter (fun u => decide (u ≠ t) && !s.tileActive u)
  let double := !others.isEmpty
  let standin := if alive && !double then m else 0xFF
  let listed := issueOrder (Tile.outstanding x).length (Tile.outstanding x)
  let mirrored := (x.res.cmpWait.take (x.res.cmpWait.length - x.res.unmirrored)).map Req.order
  let segs := s.shadowSegs t (s.shadowList t)
  let cause := x.fence.cause
  let s1 := if alive then
      s.modPs m (fun p => p.putRecord (s.shadowRecord m t double))
    else s
  let s2 := (s1.loseWith t alive).modFence t (fun f => { f with
    st := .fenced, fenceTime := s.now (fenceTile t), standin := standin, isoFlush := 1, plainLost := 0,
    doubleFault := double, changed := if double then f.changed else f.changed ++ segs.filter (fun g => !f.changed.contains g) })
  let s3 := s2.each others (fun s' u => s'.modFence u (fun f => { f with doubleFault := true, standin := 0xFF }))
  let s4 := s3.each (x.map.migs.map (fun g => g.lseg)) (fun s' l => s'.abandonMigration t l 4)
  let s5 := if alive then
      (if double then s4 else s4.adoptMirror m t).modRes m (fun r => { r with
        shadow := r.shadow.filter (fun e => decide (e.owner ≠ t)),
        entries := r.entries.filter (fun e => decide (e.owner ≠ t ∨ e.st ≠ .mirror)) })
    else s4
  let s6 := s5.keepPlain t
  let w := (t + n - 1) % n
  let s7 := if s6.mirrorOf w = t then s6.moveMirror w (if alive ∧ m ≠ w then m else 0xFF) else s6
  let s8 := if s7.master = some t then s7.moveMaster else s7
  let s9 := if s8.mgmt.active = some t then s8.coreLost false
    else if t < 2 ∧ s8.mgmt.standbySync then s8.standbyGone else s8
  let s10 := s9.pevAt (fenceTile t) Ev.TILE_FENCED 0xFF t [(1, cause), (1, standin)]
  let s11 := if double then s10.pevAt (fenceTile t) Ev.DOUBLE_FAULT 0xFF t [(1, others.headD 0xFF)] else s10
  let s12 := s11.each listed (fun s' r => s'.replay t (mirrored.contains r.order) r)
  (s12.evalHealth).degrade

/-- FENCE_DECISION (R254): the outstanding requests of a FENCING tile are listed, it becomes FENCED, its lines move to its
stand-in, and the listed requests are replayed. -/
def execFenceDecision (t : Nat) (s : State) : Host.Outcome State Fault Refusal :=
  .next (if t < s.n ∧ (s.tile t).fence.st = .fencing then s.fenceDecide t else s)

/-! ### Re-mirroring -/

/-- The shadow list of tile `w` from its own state (R148): lines whose accepted data is not all on the medium, open stripes,
pinned lines. -/
def State.ownShadow (s : State) (w : Nat) : List ShadowEntry :=
  let r := (s.tile w).res
  let lines := r.entries.filter (fun e => decide (e.st = .dirty ∨ e.st = .incomplete ∨ e.st = .inflight))
  (lines.map (fun e => ({ owner := e.owner, kind := 1, addr := e.addr } : ShadowEntry))
    ++ r.opens.map (fun S => ({ owner := w, kind := 2, addr := S } : ShadowEntry))
    ++ (r.entries.filter (fun e => decide (e.st = .pinned))).map (fun e =>
        ({ owner := w, kind := 3, addr := e.addr } : ShadowEntry))).eraseDups

/-- The resend of tile `w`'s shadow list and mirror contents to its mirror tile is complete (R260). -/
def State.resend (s : State) (w : Nat) : State :=
  let m := s.mirrorOf w
  let es := (s.tile w).res.entries.filter (fun e =>
    e.st.counted && decide (e.owner = w ∧ e.st ≠ .mirror ∧ e.st ≠ .pinned) && s.spannedSeg w (lsegOf e.addr))
  let olds := (s.ownShadow w).map (fun e => e.owner)
  let s1 := s.each s.tileNumbers (fun s' u => s'.modRes u (fun r => { r with
    shadow := r.shadow.filter (fun e => !olds.contains e.owner && decide (e.owner ≠ w)),
    entries := r.entries.filter (fun e => !decide (e.owner = w ∧ e.st = .mirror)) }))
  let s2 := s1.modRes m (fun r => { r with shadow := r.shadow ++ s.ownShadow w })
  s2.each es (fun s' e => s'.modRes m (fun r => (r.place { e with st := .mirror, redirty := false }).1))

/-- MIRROR_MOVED (R260, R261): tile `w` has resent its whole shadow list and mirror contents to its new mirror tile. -/
def execMirrorMoved (w : Nat) (s : State) : Host.Outcome State Fault Refusal :=
  .next (
    let m := s.mirrorOf w
    let y := (s.tile m).res
    if w < s.n ∧ (s.tile w).fence.remirror = true ∧ m < s.n ∧ s.tileActive m ∧
        y.dirty + (s.tile w).res.backlog.length ≤ y.limit then
      let s1 := (s.resend w).modFence w (fun f => { f with remirror := false })
      (((s1.modRes w (fun r => { r with backlog := [] })).pevAt (fenceTile m) Ev.MIRROR_MOVED 0xFF w [(1, m)]).noteGate
        w).noteGate m
    else s)

/-- SHADOW_RESENT (R245): a shadow memory error at the mirror tile of tile `t` makes tile `t` resend its whole list. -/
def execShadowResent (t : Nat) (s : State) : Host.Outcome State Fault Refusal :=
  .next (
    let m := s.mirrorOf t
    if t < s.n ∧ m < s.n ∧ s.tileActive t ∧ s.tileActive m ∧ !(s.tile t).fence.remirror then
      (s.modRes m (fun r => { r with
        shadow := r.shadow.filter (fun e => !((s.ownShadow t).any (fun q => decide (q.owner = e.owner))) && decide (e.owner ≠ t)) ++ s.ownShadow t })).tev m Ev.SHADOW_RESENT 0xFF t []
    else s)

/-! ### Reconstruction -/

/-- Whether a spanned line of tile `owner` can be reconstructed: it is not LOST, and every other member tile and the parity
tile of its group serve (R257, R272). -/
def State.canReconstruct (s : State) (owner part lla : Nat) : Bool :=
  let p := s.partn part
  let q := s.spanGroup owner (lsegOf lla - p.segBase.getD owner 0)
  let pt := (s.spanLine part owner lla).1
  let others := (s.spanMembers part q (lineIndexOf lla)).filter (fun m => decide (m.1 ≠ owner))
  let serves (t : Nat) : Bool := s.tileActive t || decide ((s.tile t).fence.st = .fencing)
  !(s.tile owner).isLost lla && (serves pt || decide (pt = owner)) && others.all (fun m => serves m.1)

/-- RECONSTRUCTION_DONE (R257): the parity tile hands the reconstruction of a line of a fenced tile to the stand-in, which
decrypts it, fills it and answers. -/
def execReconstructionDone (t rd : Nat) (s : State) : Host.Outcome State Fault Refusal :=
  .next (match (s.tile t).rd.byId rd with
    | none => s
    | some r =>
      if r.phase = .recon then
        let owner := r.req.tile
        let pt := (s.spanLine r.part owner r.lla).1
        let lost := !s.canReconstruct owner r.part r.lla
        let d := if lost then 0 else s.reconstruct owner r.part r.lla
        let s1 := ((if lost then s else s.groupReads owner r.part r.lla 1).tcount pt Cn.SPAN_RECONSTRUCTIONS 1).modRd t (fun x => x.setRd rd (fun q => { q with phase := .sensing }))
        (if pt = t then s1 else (s1.ringSend t pt ringReq).ringSend pt t ringRsp).deliver t rd d lost
      else s)

end Sys2Proof.Machine
end

