-- ==== Sys2Proof/Machine/Keys.lean ====
section
/-! DEFINITION. Keys (R276 to R282), the debug unlock and SPDM sessions (R286), roots (R304, R306). -/
namespace Sys2Proof.Machine
open Sys2Proof

/-! ### Sessions and roles -/

/-- The session of a requester. -/
def State.sessionOf (s : State) (q : Requester) : Option Session :=
  if q.transport = 4 then s.mgmt.sessions.find? (fun x => decide (x.id = q.src)) else none
/-- Whether a requester has the owner role (R425). -/
def State.isOwner (s : State) (q : Requester) : Bool := match s.sessionOf q with
  | none => false
  | some x => x.owner

/-- SPDM_SESSION_ESTABLISHED (R424, R425): a session is up, over a port or not, with or without a mutual authentication that
chains to the owner certificate installed. [PRESUMED, assumption 62] -/
def execSpdmSessionEstablished (id : Nat) (owner : Bool) (port : Option Nat) (s : State) : Host.Outcome State Fault Refusal :=
  .next (if s.mgmt.booted ∧ s.mgmt.sessions.all (fun x => decide (x.id ≠ id)) then
      { s with mgmt := { s.mgmt with sessions := s.mgmt.sessions ++
        [{ id := id, owner := owner && s.svc.owner.isSome, port := port }] } }
    else s)

/-- SPDM_SESSION_END (R286, R433). -/
def execSpdmSessionEnd (id : Nat) (s : State) : Host.Outcome State Fault Refusal :=
  .next (if s.mgmt.sessions.any (fun x => decide (x.id = id)) then s.endSession id else s)

/-! ### Key changes -/

/-- Whether a message of the requester may carry a key command (R279, R374). -/
def State.keyPath (s : State) (q : Requester) : Bool :=
  s.isOwner q || (decide (q.transport = 3 ∧ q.src % 16 = 0) && (s.port (q.src / 16)).ideIo)
/-- Key check value of a slot (R311). -/
def KeySlot.kcv (k : KeySlot) : Nat := if k.st = .empty then 0 else keyCheck k.k1
/-- Whether an enabled sealed partition names the slot as its seal key (R292). -/
def State.isSealKey (s : State) (k : Nat) : Bool :=
  s.parts.any (fun x => decide (x.2.st = 1 ∧ x.2.sealKx = k) && x.2.isSealed)

/-- Steps 4 and 5 of R280: the new key is written or the slot erased. -/
def State.finishKey (s : State) (c : KeyChange) : State :=
  let slot : KeySlot := match c.load with
    | some (a, b) => { st := .loaded, k1 := a, k2 := b }
    | none => KeySlot.reset
  let s1 := { s with keys := { slots := s.keys.slots.put KeySlot.reset c.slot slot, change := none } }
  let s2 := ((([0, 1].filter s1.tileActive).foldl (fun s' t => s'.pageCommit t 2368) s1)).count Cn.KEY_CHANGES 1
  match c.load with
  | some _ => s2.pev Ev.KEY_LOADED c.slot [(4, slot.kcv), (1, c.req.transport)]
  | none => s2.pev Ev.KEY_ERASED c.slot []

/-- `KEY_LOAD` and `KEY_ERASE` (R278 to R280, R292): a LOADED slot is purged first. -/
def State.keyCommand (s : State) (q : Requester) (slot : Nat) (load : Option (Key256 × Key256)) : OpEnd :=
  let c : KeyChange := { slot := slot, load := load, req := q }
  if !s.keyPath q then .now (s.refused Err.access 0)
  else if slot = 0 ∨ 4095 < slot then .now (s.refused Err.range 0)
  else if s.isSealKey slot then .now (s.refused Err.state Detail.partition)
  else if s.keys.change.isSome then .now (s.refused Err.busy 0)
  else if (s.key slot).st = .loaded then
    .later { s with keys := { slots := s.keys.slots.insert slot { s.key slot with st := .purging }, change := some c } } .key
  else .now (s.finishKey c).ok

/-- Requests admitted under a key index that are not answered yet, in any tile that takes the key change (R280 step 2). -/
def State.keyInUse (s : State) (k : Nat) : Bool :=
  s.activeTiles.any (fun t =>
    let x := s.tile t
    x.rd.rds.any (fun r => decide (r.req.kx = k ∧ (r.why = .host ∨ r.why = .fetch)) && !r.answered)
      || x.res.pwaits.any (fun w => decide (w.req.kx = k)) || x.res.cmpWait.any (fun r => decide (r.kx = k)))
/-- Whether no entry that is to be evicted is left under a key index (R280 step 3). -/
def State.purged (s : State) (k : Nat) : Bool :=
  !s.keyInUse k && s.activeTiles.all (fun t => (s.tile t).res.entries.all (fun e =>
    !(decide (e.kx = k ∧ e.kind = .data ∧ e.st ≠ .pinned) && e.st.counted)))

/-- What no key change may carry over into the new key leaves the reservoir: CLEAN entries of the slot; a PINNED-FAILED line
keeps its stored form under the old key (R280, R302). [DEDUCED, assumption 13] -/
def State.purgeEntries (s : State) (k : Nat) : State :=
  s.each s.activeTiles (fun s' t => s'.modRes t (fun r => { r with
    entries := (r.entries.filter (fun e => !decide (e.kx = k ∧ e.kind = .data ∧ e.st = .clean))).map (fun e =>
      if e.kx = k ∧ e.kind = .data ∧ e.st = .pinned ∧ e.storedOnly = none then
        { e with storedOnly := some (match r.buf false e.addr with
          | some b => b.image
          | none => s.encrypt e.part k e.dpa e.data) }
      else e) }))

/-- `KEY_QUERY` (R311). -/
def State.keyQuery (s : State) (v : Nat) : Result :=
  if 4095 < v then s.refused Err.range 0
  else
    let k := s.key v
    let st := match k.st with
      | .empty => 0
      | .loaded => 1
      | .purging => 2
    (s.setCell Ob.KEY_INFO (st * 2 ^ 30 + k.kcv)).ok

/-! ### The debug unlock -/

/-- The rights table of a token's ranges (R286, R311). -/
def rangesMap (l : List (Nat × Nat × Nat)) : Nat :=
  l.foldl (fun m r => (List.range (r.2.1 + 1 - r.1)).foldl (fun m i =>
    if r.1 + i < 4096 then m ||| (r.2.2 % 4) * 4 ^ (r.1 + i) else m) m) 0
/-- `DEBUG_UNLOCK` (R286): the token's signature, its ranges, its TEST bit. -/
def State.debugUnlock (s : State) (q : Requester) (token : Nat) : Result :=
  let rs := Config.tokenRanges token
  if !s.isOwner q then s.refused Err.rights 0
  else if !(match s.svc.owner with
      | none => false
      | some c => Config.tokenOk c token) then s.refused Err.access 0
  else if 16 < rs.length then s.refused Err.range 0
  else
    let s1 := { s with svc := { s.svc with unlock := some q }, obj := s.obj.insert debugRightsKey (rangesMap rs) }
    ((s1.permitTest (Config.tokenTest token)).pevQ Ev.DEBUG_UNLOCKED
      ((rs.map (fun r => [(2, r.1), (2, r.2.1)])).flatten ++ [(1, bitNat (Config.tokenTest token))])).ok
/-- `DEBUG_LOCK` (R286). -/
def State.debugLock (s : State) (v : Nat) : Result :=
  if v ≠ 1 then s.refused Err.range 0 else (s.relock 1).ok

/-! ### Roots -/

/-- ROOT_REPAIRED (R304): an uncorrectable error in a root is repaired from the mirror copy. -/
def execRootRepaired (t part : Nat) (s : State) : Host.Outcome State Fault Refusal :=
  .next (if t < s.n ∧ s.mirrorOf t < s.n ∧ (s.tile t).sealing.any (fun x => decide (x.part = part) && !x.rootLost) then
      s.tev t Ev.ROOT_REPAIRED 0xFF part []
    else s)

/-- Builds a root from the top stored level as found (R306): every line of it that is not blank becomes META DIRTY and gets a
counter that no older image used, as a reset line does (R308). [DEDUCED, assumption 47] -/
def State.adoptRoot (s : State) (t part : Nat) : State :=
  let p := s.partn part
  let top := topLevel p.data
  let lines := ((levels p.data).getD top { first := 0, lines := 0, copies := 1 }).lines
  let (s1, seq) := s.freshSeq t
  let data (i : Nat) : Line := (s.tile t).storedLine (p.lineLla t (.counter top i 0))
  let live := (List.range lines).filter (fun i => decide (data i ≠ 0))
  let root := live.foldl (fun d i => setMinor d i 1) (setMajor 0 (2 ^ 63 + seq))
  let s2 := s1.modSeal t part (fun x => { x with root := root.toNat, rootLost := false })
  (s2.each live (fun s' i => s'.dirtyCounter t part top i (data i))).pev Ev.ROOT_ADOPTED t [(1, part)]

/-- `SEAL_ROOT_ADOPT` (R306) of partition `part` with a tile number. [DEDUCED, assumption 47] -/
def State.sealRootAdopt (s : State) (part t : Nat) : Result :=
  if s.n ≤ t then s.refused Err.range 0
  else if s.rootLost t part then (s.adoptRoot t part).ok
  else s.refused Err.state Detail.object

end Sys2Proof.Machine
end

