-- ==== Sys2Proof/Machine/Arbiter.lean ====
section
/-! DEFINITION. Regulation (12): decisions of the slices (R336, R338), debug accesses (R273, R333), urgency (R341), token allotment
(R337), the budget arbiter (R345 to R351), guaranteeable capacity and scaling (R352, R354). -/
namespace Sys2Proof.Machine
open Sys2Proof

/-! ### Decisions of a slice -/

/-- A waiting request that must be turned away now: its rights after a purge, its partition, the fence (R281, R263, R65). -/
def State.turnedAway (s : State) (r : Req) : Option Nat :=
  if (s.partn r.part).st ≠ 1 then some 1
  else
    match (if r.keyWait || decide (r.iface = .scribe) then s.rightsCause r else none) with
    | some c => some c
    | none => if (s.serverOf r).isNone then some 6 else none
/-- Requests of a waiting list that no earlier one of their observer to the same line holds back (R160). -/
def firstOfLines : List Req → List Req → List Req
  | _, [] => []
  | before, r :: rest =>
    if before.any (fun b => b.sameLine r) then firstOfLines (before ++ [r]) rest else r :: firstOfLines (before ++ [r]) rest
/-- Rank of an admissible request: reserved ones first, then urgency (R336). -/
def State.rank (s : State) (r : Req) : Nat := (if s.reqReserved r then 0 else 4) + (3 - min 3 (s.urgency r.feedCls))
/-- Takes a request out of where it waits. -/
def State.unhold (s : State) (r : Req) (slice : Nat) : State :=
  if r.iface = .cxl then
    (s.modPort slice (fun p => { p with held := p.held.erase r })).noteCredits slice
  else s.modRd slice (fun x => { x with waiting := x.waiting.erase r })

/-- FEED_ADMIT (R336): a slice decides: the port's, or the one of tile `slice`'s Scribe engine. [DESIGN CHOICE, assumption 11] -/
def execFeedAdmit (slice : Nat) (engine : Bool) (pred : Nat) (s : State) : Host.Outcome State Fault Refusal :=
  .next (
    let l := firstOfLines [] (if engine then (s.tile slice).rd.waiting else (s.port slice).held)
    match l.find? (fun r => (s.turnedAway r).isSome) with
    | some r => (s.unhold r slice).refuse r ((s.turnedAway r).getD 1) r.dpa r.dpa
    | none =>
      let ok := l.filter (fun r => match s.serverOf r with
        | none => false
        | some t => s.admissible t r)
      match minBy s.rank ok with
      | none => s
      | some r => match s.serverOf r with
        | none => s
        | some t =>
          let (s1, r1) := (s.unhold r slice).admitFeed t r
          s1.lookup t r1 pred)

/-- Class that pays for debug and maintenance accesses to a partition (R333). -/
def State.payer (s : State) (part : Nat) : Nat :=
  let c := s.cell (Ob.inst Ob.PART_FEED_CLASS part) 0xFF
  if c = 0xFF then maintClass else c

/-- DEBUG_ACCESS (R273, R276, R283): an access of a debug session, at the tile that carries the sessions. Without an unlock in
that session it is a violation; while an erase runs it decodes outside every partition. -/
def execDebugAccess (session dpa kx : Nat) (write : Bool) (mask : ByteMask) (data : Line) (pred : Nat) (s : State) :
    Host.Outcome State Fault Refusal :=
  .next (
    let t := s.coreTile
    let r : Req := { Req.none with
      iface := .debug, port := t, cls := debugClass, src := 8 + t, kx := kx % 4096, dpa := dpa - dpa % 64, write := write,
      mask := mask, data := data, feedCls := maintClass, decodedAt := s.now t, admittedAt := s.now t }
    if s.mgmt.sessions.all (fun x => decide (x.id ≠ session)) then s
    else if s.svc.unlock ≠ some { transport := 4, src := session } then s.refuse r 9 r.dpa r.dpa
    else if s.svc.eraseState = 1 ∨ !s.dev.memActive then s.refuse r 1 r.dpa r.dpa
    else
      match s.routeDpa r.kx r.dpa with
      | .violation cause d n => s.refuse r cause d n
      | .line kx d part tile lla =>
        s.offer { r with kx := kx, dpa := d, part := part, tile := tile, lla := lla, feedCls := s.payer part } pred)

/-- URGENCY_SAMPLE (R341): a port's pins are sampled; a level that two consecutive samples agree on takes effect. -/
def execUrgencySample (port level : Nat) (s : State) : Host.Outcome State Fault Refusal :=
  .next (if s.portUsed port then
      let v := level % 4
      s.modPort port (fun p => { p with urg := if v = p.urgSample then v else p.urg, urgSample := v })
    else s)

/-- `CLASS_HELD_CLEAR` (R343). -/
def State.classHeldClear (s : State) (c v : Nat) : Result :=
  if v ≠ 1 then s.refused Err.range 0
  else (s.modCls c (fun x => { x with hist := List.replicate 16 0, max := 0, seq := (x.seq + 2) % 2 ^ 32 })).ok

/-! ### Token allotment (R337) -/

/-- The sources of tokens: port slices whose port is up, and the Scribe engines of tiles that are not fenced. [DESIGN CHOICE, assumption 11] -/
def State.sources (s : State) : List Nat :=
  (below 8 (fun p => (s.port p).up)) ++ (s.activeTiles.map (fun t => 8 + t))
/-- Requests of a source that wait for tile `t`. -/
def State.waitingFor (s : State) (t src : Nat) : List Req :=
  (if src < 8 then (s.port src).held else (s.tile (src - 8)).rd.waiting).filter (fun r => decide (s.serverOf r = some t))
/-- Kinds of tokens a request needs: 0 read, 1 write, 2 + die (R336). -/
def Req.needs (r : Req) (kind : Nat) : Bool :=
  if kind = 0 then !r.write else if kind = 1 then r.write else r.needsNib && (candidateDies r.lla).contains (kind - 2)
/-- Tokens of a kind that a source holds at a tile. -/
def TileRead.tokensHeld (x : TileRead) (kind src : Nat) : Nat :=
  if kind = 0 then x.rdUse.getD src 0 else if kind = 1 then x.wrUse.getD src 0 else x.nibUse.getD ((kind - 2) * 16 + src) 0
/-- Adds `k` samples of every source's demand at tile `t`: tokens held plus requests waiting, the reserved ones and all. -/
def State.sampleDemand (s : State) (t k : Nat) : State :=
  let waits := (List.range 16).map (fun i => (s.waitingFor t i).map (fun r => (r, s.reqReserved r)))
  let x := (s.tile t).rd
  let count (row i : Nat) : Nat :=
    let kind := row / 2
    x.tokensHeld kind i + ((waits.getD i []).filter (fun w => w.1.needs kind && (w.2 || decide (row % 2 = 1)))).length
  let table (y : TileRead) : List (List Nat) :=
    (List.range 36).map (fun row => (List.range 16).map (fun i => (y.demand.getD row []).getD i 0 + k * count row i))
  s.modRd t (fun y => { y with demand := table y })

/-- Divides `rest` in proportion to weights, rounded down, the remainder one at a time in source order. -/
def shares (rest : Nat) (srcs : List Nat) (w : Nat → Nat) : Nat → Nat :=
  let total := sumList (srcs.map w)
  let floorOf (i : Nat) : Nat := rest * w i / max 1 total
  let beyond := rest - sumList (srcs.map floorOf)
  let place (i : Nat) : Nat := (srcs.takeWhile (fun j => decide (j ≠ i))).length
  fun i => floorOf i + beyond / max 1 srcs.length + (if place i < beyond % max 1 srcs.length then 1 else 0)
/-- The allotment of `total` tokens with `base` for each source (R337). -/
def allot (total base : Nat) (srcs : List Nat) (reserved all : List Nat) : List Nat :=
  let rest := total - base * srcs.length
  let w : Nat → Nat :=
    if 0 < sumList (srcs.map (fun i => reserved.getD i 0)) then fun i => reserved.getD i 0
    else if 0 < sumList (srcs.map (fun i => all.getD i 0)) then fun i => all.getD i 0
    else fun _ => 1
  (List.range 16).map (fun i => if srcs.contains i then base + shares rest srcs w i else 0)
/-- Re-allots the tokens of tile `t` (R337); in a thermal emergency its reads have 64 tokens in all (R350). -/
def State.reallot (s : State) (t : Nat) : State :=
  let srcs := s.sources
  let row (x : TileRead) (i : Nat) : List Nat := x.demand.getD i []
  s.modRd t (fun x =>
    { x with
    rdAllot := allot (if s.feed.emergency then 64 else 256) 4 srcs (row x 0) (row x 1),
    wrAllot := allot 256 4 srcs (row x 2) (row x 3),
    nibAllot := ((List.range 16).map (fun d => allot 16 1 srcs (row x (4 + 2 * d)) (row x (5 + 2 * d)))).flatten,
    demand := List.replicate 36 (List.replicate 16 0) })

/-! ### Power (R345, R350, R352) -/

/-- Lower end, upper end, default and fixed power of a part, W (R345). -/
def Part.power : Part → Nat × Nat × Nat × Nat
  | .a2 => (17, 50, 43, 28)
  | .a4 => (32, 92, 79, 50)
  | .a8 => (60, 175, 150, 94)
/-- `POWER_CAP_W`. -/
def State.powerCap (s : State) : Nat := s.cell Ob.POWER_CAP_W s.part.power.2.2.1
/-- The hottest junction temperature of the package, °C. -/
def State.hottest (s : State) : Int := s.tileNumbers.foldl (fun m t => max m (s.tile t).sup.temp) (-273)
/-- `THERMAL_LIMIT_C`. -/
def State.thermalLimit (s : State) : Nat := s.cell Ob.THERMAL_LIMIT_C 140
/-- The effective cap P_eff, mW (R350). -/
def State.peff (s : State) : Nat :=
  let cap := 1000 * s.powerCap
  let low := 1000 * s.part.power.1
  let t := s.hottest.toNat
  if s.feed.emergency ∨ 148 ≤ t then low
  else if t < s.thermalLimit then cap
  else cap - (cap - low) * (t - s.thermalLimit) / (148 - s.thermalLimit)
/-- Strokes in flight in the package. -/
def State.strokesInFlight (s : State) : Nat := sumList (s.tileNumbers.map (fun t => (s.tile t).res.inFlight))
/-- Non-stroke power P_ns, mW (R345). -/
def State.pns (s : State) : Nat := s.feed.powerNow - 18 * s.strokesInFlight
/-- P_eff less what an isolation flush draws (R348). -/
def State.peffArbiter (s : State) : Nat := s.peff - 512 * 18 * s.flushers

/-- Strokes queued in a tile at a priority. -/
def TileRes.queuedAt (r : TileRes) (p : Nat) : Nat :=
  (r.strokes.filter (fun k => !k.running && !k.flush && decide (k.priority = p))).length
/-- One priority's share of the grants (R346): all demand when the credits cover it, else in proportion, the remainder to the
lowest tile numbers. `room` is what the in-flight limit still allows each tile. -/
def grantStep (avail : Nat) (tiles : List Nat) (demand room : Nat → Nat) : (Nat → Nat) × Nat :=
  let want (t : Nat) : Nat := min (demand t) (room t)
  let total := sumList (tiles.map want)
  if total ≤ avail then (want, avail - total)
  else (fun t => min (want t) (shares avail tiles want t), 0)
/-- Grants of an epoch from the package grant (R345, R346): by tile, credits beside the reserve. -/
def State.fillGrants (s : State) (tiles : List Nat) (reserve avail : Nat) : Nat → Nat :=
  let inflight (t : Nat) : Nat := (s.tile t).res.inFlight
  let room0 (t : Nat) : Nat := s.strokeLimit - inflight t - reserve
  let step (acc : (Nat → Nat) × Nat) (p : Nat) : (Nat → Nat) × Nat :=
    let demand (t : Nat) : Nat := (s.tile t).res.queuedAt p - (if p = 2 then reserve else 0)
    let r := grantStep acc.2 tiles demand (fun t => room0 t - acc.1 t)
    (fun t => acc.1 t + r.1 t, r.2)
  ([2, 3, 4, 5].foldl step ((fun _ => 0), avail)).1

/-- Gives tile `t` credits for the epoch that starts: `total` of which `reserve` are its reserve (R346). -/
def State.giveGrant (s : State) (t total reserve lost : Nat) : State :=
  let put (l : List Nat) (v : Nat) : List Nat := modAt l t (fun _ => v)
  ({ s with feed := { s.feed with
      grant := put s.feed.grant total, grantReserve := put s.feed.grantReserve reserve,
      left := put s.feed.left (total - reserve), reserveLeft := put s.feed.reserveLeft reserve,
      noGrant := put s.feed.noGrant lost } }).tcount t Cn.STROKE_CREDITS_GRANTED total
/-- The fallback grant (R349). -/
def State.fallbackGrant (s : State) : Nat :=
  min 512 ((1000 * s.powerCap - 1000 * s.part.power.2.2.2) / 18 / max 1 s.nActive)
/-- A tile has no grant at the start of an epoch (R349): its last one for 64 epochs, then the fallback grant. A tile that
rejoins and has no links yet strokes under the fallback grant (R270). -/
def State.noGrantFor (s : State) (t : Nat) : State :=
  let k := s.feed.noGrant.getD t 0 + 1
  if (s.tile t).fence.st = .rejoining then s.giveGrant t s.fallbackGrant 0 0
  else if k ≤ 64 then s.giveGrant t (s.feed.grant.getD t 0) (s.feed.grantReserve.getD t 0) k
  else
    let s1 := s.giveGrant t s.fallbackGrant 0 k
    if k = 65 then (s1.raise Ob.BUDGET_STATUS 4 (Ob.BUDGET_OCC + 4)).tev t Ev.GRANT_FALLBACK 0xFF k [] else s1

/-- EPOCH_END (R345, R337): credits lapse, the arbiter grants credits for the next epoch, and every tile re-allots its tokens.
`lost` names, by bit, the tiles that the grant does not reach. -/
def execEpochEnd (lost : Nat) (s : State) : Host.Outcome State Fault Refusal :=
  .next (if s.dev.mainUp then
      let counted := s.tileNumbers.filter (fun t => decide ((s.tile t).fence.st = .active ∨ (s.tile t).fence.st = .rejoining))
      let reached := counted.filter (fun t => s.mgmt.active.isSome && !lost.testBit t &&
        (decide ((s.tile t).fence.st = .active) || decide (5 ≤ (s.tile t).fence.rejoinStep)))
      let n := max 1 s.nActive
      let g := (s.peffArbiter - s.pns) / 18
      let base := if g = 0 then (s.peffArbiter - 1000 * s.part.power.2.2.2) / 18 else g
      let reserve := ceilDiv (2 * base) (100 * n)
      let fill := s.fillGrants reached reserve (g - reserve * reached.length)
      let s1 := s.each counted (fun s' t =>
        s'.tcount t Cn.STROKE_CREDITS_LAPSED (s'.feed.left.getD t 0 + s'.feed.reserveLeft.getD t 0))
      let s2 := s1.each reached (fun s' t => s'.giveGrant t (reserve + fill t) reserve 0)
      let s3 := s2.each (counted.filter (fun t => !reached.contains t)) (fun s' t => s'.noGrantFor t)
      let beyond := decide (s.peff < s.pns)
      let s4 := { s3 with feed := { s3.feed with overCap := beyond } }
      let s5 := if beyond && !s.feed.overCap then
          (s4.raise Ob.BUDGET_STATUS 0 Ob.BUDGET_OCC).pev Ev.POWER_OVER_CAP (s.pns / 1000) [(2, s.peff / 1000)]
        else s4
      s5.each s5.activeTiles (fun s' t => s'.reallot t)
    else s)

/-! ### Guaranteeable capacity (R352) and scaling (R354) -/

/-- A fraction: numerator, denominator. -/
abbrev Frac := Nat × Nat
/-- The lesser of two fractions. -/
def Frac.least (a b : Frac) : Frac := if b.1 * a.2 < a.1 * b.2 then b else a
/-- Whole percent of a fraction, rounded down. -/
def Frac.percent (a : Frac) : Nat := 100 * a.1 / max 1 a.2
/-- f_bank of a tile (R352). -/
def State.fBank (s : State) (t : Nat) : Frac := (512 - (s.tile t).med.failedBanks.length, 512)
/-- f_p for an effective cap in mW (R352). -/
def State.fPower (s : State) (peff : Nat) : Frac :=
  let n := (s.activeTiles).length
  let d := max 1 (n * 6590)
  (min d (peff - (11000 * n + 6000)), d)
/-- Capacity of a tile in a direction, MB/s (R352); none for a tile that is not ACTIVE. -/
def State.tileCapacity (s : State) (peff t : Nat) (write : Bool) : Frac :=
  if !s.tileActive t then (0, 1)
  else
    let b := s.fBank t
    if write then
      let p := s.fPower peff
      (8 * 10712 * b.1 * p.1, 10 * b.2 * p.2)
    else (8 * 60000 * b.1, 10 * b.2)
/-- The link figure of a rate code and a width, MB/s (R352). -/
def linkFigure (rate width : Nat) : Nat :=
  let full := match rate with
    | 5 => 96000
    | 4 => 48000
    | 3 => 21000
    | _ => 0
  full * width / 16
/-- Capacity of a port in each direction (R352, R359). -/
def State.portCapacity (s : State) (p : Nat) : Frac :=
  let q := s.port p
  if q.up && q.cxlMem then (8 * linkFigure q.rate q.width, 10) else (0, 1)
/-- Classes that carry regulation objects (R334). -/
def feedClasses : List Nat := List.range 64 ++ [maintClass]
/-- ACTIVE tiles of a class's `CLASS_TILES`. -/
def State.classTiles (s : State) (c : Nat) : List Nat :=
  let m := s.clsCell Ob.CLASS_TILES c (2 ^ s.n - 1)
  s.activeTiles.filter (fun t => m.testBit t)
/-- A class's share of a tile's capacity, in 1/840 MB/s (R353). -/
def State.tileShare (s : State) (c t : Nat) (write : Bool) : Nat :=
  let ts := s.classTiles c
  if ts.contains t then 840 * s.reserve c write / max 1 ts.length else 0
/-- A class's share of its port's capacity, in 1/100 MB/s (R353). -/
def State.portShare (s : State) (c : Nat) (write : Bool) : Nat := s.reserve c write * (100 - s.scribePct c)
/-- Port of a class; the maintenance class has none. -/
def classPort (s : State) (c : Nat) : Option Nat := if c < 64 then some (s.classHome c).1 else none

/-- f_h and f_n for a capacity and the shares of the high and the normal classes in 1/`unit` MB/s (R354). -/
def scaleFactors (cap : Frac) (high normal unit : Nat) : Frac × Frac :=
  let c := cap.1 * unit
  let h := high * cap.2
  let n := normal * cap.2
  ((if h ≤ c then (1, 1) else (c, h)), (if h + n ≤ c then (1, 1) else (c - h, n)))
/-- f_h and f_n of a tile and direction. -/
def State.tileFactors (s : State) (t : Nat) (write : Bool) : Frac × Frac :=
  let sum (hi : Nat) : Nat := sumList (feedClasses.map (fun c =>
    if s.clsCell Ob.CLASS_PRIORITY c 0 = hi then s.tileShare c t write else 0))
  scaleFactors (s.tileCapacity s.peff t write) (sum 1) (sum 0) 840
/-- f_h and f_n of a port and direction. -/
def State.portFactors (s : State) (p : Nat) (write : Bool) : Frac × Frac :=
  let sum (hi : Nat) : Nat := sumList (feedClasses.map (fun c =>
    if classPort s c = some p ∧ s.clsCell Ob.CLASS_PRIORITY c 0 = hi then s.portShare c write else 0))
  scaleFactors (s.portCapacity p) (sum 1) (sum 0) 100
/-- The factor of a class in a direction: the least of its priority over its ACTIVE tiles and its port (R354). -/
def State.classFactor (s : State) (c : Nat) (write : Bool) : Frac :=
  if s.reserve c write = 0 then (1, 1)
  else
    let hi := decide (s.clsCell Ob.CLASS_PRIORITY c 0 = 1)
    let pick (f : Frac × Frac) : Frac := if hi then f.1 else f.2
    let tiles := (s.classTiles c).map (fun t => pick (s.tileFactors t write))
    let port := match classPort s c with
      | none => []
      | some p => [pick (s.portFactors p write)]
    (tiles ++ port).foldl Frac.least (1, 1)

/-- RESERVATIONS_SCALED (R354): after a change in capacity every class's effective reservation is computed anew. Causes: 1 fence,
2 rejoin, 3 failed bank, 4 change of P_eff, 5 link retrain. -/
def execReservationsScaled (cause : Nat) (s : State) : Host.Outcome State Fault Refusal :=
  .next (
    let all := (feedClasses.map (fun c => [(c, false), (c, true)])).flatten
    let fs := all.map (fun x => (2 * x.1 + bitNat x.2, s.classFactor x.1 x.2))
    let low := fs.filter (fun f => decide (f.2 ≠ (1, 1)))
    let isHigh (k : Nat) : Bool := decide (s.clsCell Ob.CLASS_PRIORITY (k / 2) 0 = 1)
    let least (hi : Bool) : Frac := ((low.filter (fun f => isHigh f.1 == hi)).map (fun f => f.2)).foldl Frac.least (1, 1)
    let scale : Sparse (Nat × Nat) := low.foldl (fun m f => m.insert f.1 f.2) []
    let s1 := { s with feed := { s.feed with scale := scale, scaled := !low.isEmpty } }
    if scale = s.feed.scale then s1
    else if low.isEmpty then s1.pev Ev.RESERVATIONS_RESTORED 0 []
    else
      let s2 := if s.feed.scaled then s1 else s1.raise Ob.BUDGET_STATUS 1 (Ob.BUDGET_OCC + 1)
      (s2.pev Ev.RESERVATIONS_SCALED cause [(4, (least true).percent), (4, (least false).percent)]).degrade)

end Sys2Proof.Machine
end

