-- ==== Sys2Proof/Machine/ReadPath.lean ====
section
/-! DEFINITION. CXL.mem requests (R362), codewords at the decoder (R75), lifts and positions (R108, R112), read-arounds
(R111, R114), rebuild and retry (R84 to R86), fetches (R136). -/
namespace Sys2Proof.Machine
open Sys2Proof

/-! ### CXL.mem requests -/

/-- MEM_RD (R362, R104): MemRd or MemRdData of LD `id` (a source PBR ID in PBR mode) at an HPA. `pred` is the time that the
target bank predicts for its stroke, in ns (R111). -/
def execMemRd (port id tag hpa pred : Nat) (s : State) : Host.Outcome State Fault Refusal :=
  .next (s.decodeFlit { port := port, id := id, tag := tag, hpa := hpa, write := false, mask := fullMask, data := 0,
                        poison := false } pred)

/-- MEM_SPEC_RD (R362): ignored, no response. -/
def execMemSpecRd (_port _id _tag _hpa : Nat) (s : State) : Host.Outcome State Fault Refusal := .next s

/-- MEM_INV (R362): MemInv or MemInvNT; no effect on any line, answered with Cmp. -/
def execMemInv (port id tag : Nat) (s : State) : Host.Outcome State Fault Refusal :=
  .next (if s.memPort port then
      let f : Flit := { port := port, id := id, tag := tag, hpa := 0, write := false, mask := 0, data := 0, poison := false }
      (s.tcount port Cn.DECODES 1).respondMem (s.reqOf f 0 0 0 0 0) false 0 false
    else s)

/-- MEM_WR (R362, R126): a full-line write. -/
def execMemWr (port id tag hpa : Nat) (data : Line) (poison : Bool) (s : State) : Host.Outcome State Fault Refusal :=
  .next (s.decodeFlit { port := port, id := id, tag := tag, hpa := hpa, write := true, mask := fullMask, data := data,
                        poison := poison } 0)

/-- MEM_WR_PTL (R362, R136): a partial write with its byte enables. -/
def execMemWrPtl (port id tag hpa : Nat) (mask : ByteMask) (data : Line) (poison : Bool) (pred : Nat) (s : State) :
    Host.Outcome State Fault Refusal :=
  .next (s.decodeFlit { port := port, id := id, tag := tag, hpa := hpa, write := true, mask := mask, data := data,
                        poison := poison } pred)

/-- MEM_UNDEFINED_OPCODE (R362, R273): a violation with cause 0x07; poisoned data if the request expects data, else Cmp,
and the request is dropped. -/
def execMemUndefinedOpcode (port id tag hpa : Nat) (expectsData : Bool) (s : State) : Host.Outcome State Fault Refusal :=
  .next (if s.memPort port then
      let f : Flit := { port := port, id := id, tag := tag, hpa := hpa, write := !expectsData, mask := 0, data := 0,
                        poison := false }
      let dpa := match s.routeHpa port id hpa with
        | .violation _ d _ => d
        | .line _ d _ _ _ => d
      (s.tcount port Cn.DECODES 1).refuse (s.reqOf f 0 dpa 0 0 0) 7 dpa dpa
    else s)

/-! ### Codewords at the decoder -/

/-- Issues the direct read of a target whose read-around met an ERASED member (R90). -/
def State.directAfterAround (s : State) (t : Nat) (rd : Rd) : State :=
  let y := s.tile t
  let b := bankOf rd.slot
  if y.rd.senses.any (fun q => decide (q.rd = rd.id) && !q.asMember) then s
  else
    let p : SensePos := if !y.stroking b && !y.reading b then .service else if y.directFree b then .direct else .internal
    s.modRd t (fun x => (x.setRd rd.id (fun q => { q with path := 0 })).sense rd.id rd.pos rd.slot p false)

/-- The transfer of a codeword that a read senses (R447, R448): it is wasted when the read has its answer, and its class is open while a
speculative read-around may still lose. [DEDUCED, assumption 40] -/
def State.readTransfer (s : State) (t : Nat) (r : Rd) (q : Sense) : State :=
  let d := slotDie q.slot
  let cls := s.lineClass r.part t (lsegOf r.lla) (stripeOfLine (lineIndexOf r.lla)) r.stripe q.pos 1
  if r.spec && r.answered then s.transfer t d 4 7
  else if r.spec && q.asMember then s.modRd t (fun x => x.setRd r.id (fun z => { z with specSlots := z.specSlots ++ [(d, cls)] }))
  else s.transfer t d cls 7
/-- The outcome of a speculation is known: its member transfers are wasted when they are discarded, else in their own classes (R111, R447).
[DEDUCED, assumption 40] -/
def State.settleSpec (s : State) (t : Nat) (r : Rd) (discarded : Bool) : State :=
  (s.each r.specSlots (fun s' d => s'.transfer t d.1 (if discarded then 4 else d.2) 7)).modRd t (fun x =>
    x.setRd r.id (fun z => { z with specSlots := [] }))

/-- When nothing else of a read is under way, the ERASED codewords it met are rebuilt (R84). -/
def State.toRebuild (s : State) (t id : Nat) : State :=
  match (s.tile t).rd.byId id with
  | none => s
  | some r =>
    if !r.erased.isEmpty ∧ r.phase ≠ .retry ∧ !(s.tile t).rd.senses.any (fun q => decide (q.rd = id)) ∧
       (r.answered ∨ r.erased.contains r.pos) then
      s.modRd t (fun x => x.setRd id (fun q => { q with phase := .erased, around := false }))
    else s

/-- A member codeword of a read-around (R114, R107, R90). -/
def State.memberArrived (s : State) (t : Nat) (rd : Rd) (pos : Nat) (d : Option Line) : State :=
  match d with
  | some v =>
    let left := rd.left.filter (fun j => decide (j ≠ pos))
    s.modRd t (fun x => x.setRd rd.id (fun q =>
      { q with acc := q.acc ^^^ v, left := left,
               phase := if left.isEmpty ∧ q.erased.isEmpty then .gathered else q.phase }))
  | none =>
    let s1 := s.modRd t (fun x => x.setRd rd.id (fun q =>
      { q with erased := q.erased ++ [pos], left := q.left.filter (fun j => decide (j ≠ pos)), path := 0 }))
    if rd.answered then s1 else s1.directAfterAround t rd

/-- The codeword of the target itself (R84, R107, R111). -/
def State.targetArrived (s : State) (t : Nat) (rd : Rd) (d : Option Line) (lost : Bool) : State :=
  match d with
  | some v => (if rd.spec && !rd.answered then s.settleSpec t rd true else s).deliver t rd.id v lost
  | none =>
    s.modRd t (fun x => x.setRd rd.id (fun q =>
      { q with erased := q.erased ++ [q.pos], path := if q.answered then q.path else 0 }))

/-- MEDIUM_READ_DONE (R75, R84, R107): the codeword of member position `pos` that read `rd` senses reaches the decoder of
tile `t`, with bit errors `err`. A read that the die left unanswered (`mute`, R91) counts as a codeword that decodes ERASED.
[DESIGN CHOICE, assumptions 24, 46] -/
def execMediumReadDone (t rd pos : Nat) (err : Codeword) (mute : Bool) (s : State) : Host.Outcome State Fault Refusal :=
  .next (
    let x := s.tile t
    match x.rd.byId rd, x.rd.senses.find? (fun q => decide (q.rd = rd ∧ q.pos = pos ∧ q.at_ = .service)) with
    | some r, some q =>
      let lseg := lsegOf r.lla
      let st := stripeOfLine (lineIndexOf r.lla)
      let key := memberKey lseg st r.stripe pos
      let word := x.codeword q.slot key ^^^ err
      let dec := if mute then Decoded.erased false else decodeLine key word
      let b := bankOf q.slot
      let s1 := ((s.readTransfer t r q).noteAnswer t (slotDie q.slot) mute).modRd t (fun y => { y with senses := y.senses.filter (fun z => decide (z ≠ q)) })
      let s2 := match x.strokeOn b with
        | none => s1.promote t b
        | some k =>
          if k.lifted then
            let s' := s1.promote t b
            if (s'.tile t).reading b then s'
            else s'.modRes t (fun z => z.setStroke k.id (fun c => { c with lifted := false }))
          else s1
      let s3 := s2.noteDecode t q.slot r.part (memberLla lseg st r.stripe pos) dec
      let gone := match dec with
        | .erased _ => false
        | _ => true
      let s4 := if gone then (s3.noteRead t q.slot false).modRd t (fun y => y.unhold q.slot rd) else s3
      let lost := decide (dec = .lost)
      let s5 := if q.asMember then s4.memberArrived t r pos dec.member
        else s4.targetArrived t r dec.member lost
      s5.toRebuild t rd
    | _, _ => s)

/-- STROKE_LIFT (R108): at a boundary of the stroke its bank is released to the reads that wait there. -/
def execStrokeLift (t stroke : Nat) (s : State) : Host.Outcome State Fault Refusal :=
  .next (
    let x := s.tile t
    match x.res.strokes.find? (fun k => k.running && decide (k.id = stroke)) with
    | none => s
    | some k =>
      let b := bankOf k.slot
      if x.reading b ∨ ((x.sensesAt b .member).isEmpty ∧ x.directFree b) then s
      else
        let s1 := (s.modRes t (fun z => z.setStroke stroke (fun c => { c with lifted := true }))).tcount t Cn.STROKE_LIFTS 1
        -- a read that reached the bank during the stroke is served now
        (s1.modRd t (fun y => { y with senses := y.senses.map (fun z =>
          if z.at_ = .lifted ∧ bankOf z.slot = b then { z with at_ := .direct } else z) })).promote t b)

/-- NIB_POSITION_FREED (R112): a freed bank position goes to the oldest read that can use it. -/
def execNibPositionFreed (t pred : Nat) (s : State) : Host.Outcome State Fault Refusal :=
  .next (s.freedPosition t pred (s.tile t).waitingReads)

/-- READ_AROUND_DONE (R114, R111): the XOR of the eight members is complete; the target's hold ends. -/
def execReadAroundDone (t rd : Nat) (s : State) : Host.Outcome State Fault Refusal :=
  .next (match (s.tile t).rd.byId rd with
    | none => s
    | some r =>
      if r.around ∧ r.phase = .gathered then
        let s1 := (if r.spec && !r.answered then s.settleSpec t r false else s).modRd t (fun x => (x.setRd rd (fun q =>
          { q with around := false, phase := .sensing, path := if q.spec ∧ !q.answered then 6 else q.path })).unhold r.slot rd)
        s1.deliver t rd r.acc false
      else s)

/-! ### Rebuild and retry -/

/-- Decodes the members of a read's stripe given, each with its bit errors: position and DATA, none when ERASED
(R84). -/
def State.decodeMembers (s : State) (t : Nat) (r : Rd) (c : Copy) (ps : List (Nat × Codeword)) : List (Nat × Option Line) :=
  let x := s.tile t
  let lseg := lsegOf r.lla
  let st := stripeOfLine (lineIndexOf r.lla)
  ps.map (fun p =>
    match x.memberImage lseg st (c.stripe st) p.1 with
    | some d => (p.1, some d)
    | none =>
      if x.slotFailed (x.finalSlot (c.slot st p.1)) then (p.1, none)
      else (p.1, (x.decodeMember lseg st p.1 c p.2).member))

/-- Counts and records the decodes of the members that were read from the medium, each with its bit errors (R75, R84); a member that
decodes ERASED enters the bank's history only after its retry (R91). -/
def State.noteMembers (s : State) (t : Nat) (r : Rd) (c : Copy) (retry : Bool) (ps : List (Nat × Codeword)) : State :=
  let x := s.tile t
  let lseg := lsegOf r.lla
  let st := stripeOfLine (lineIndexOf r.lla)
  s.each ps (fun s' p =>
    let slot := x.finalSlot (c.slot st p.1)
    if (x.memberImage lseg st (c.stripe st) p.1).isSome || x.slotFailed slot then s'
    else
      let dec := x.decodeMember lseg st p.1 c p.2
      let s1 := (s'.transfer t (slotDie slot) (s.lineClass r.part t lseg st (c.stripe st) p.1 1) 7).noteDecode t slot r.part (memberLla lseg st (c.stripe st) p.1) dec
      if retry || dec.member.isSome then s1.noteRead t slot dec.member.isNone else s1)

/-- The copy a read's stripe lies in. -/
def State.copyOfRd (s : State) (t : Nat) (r : Rd) : Option Copy :=
  (s.tile t).map.copyFor (lsegOf r.lla) (stripeOfLine (lineIndexOf r.lla))

/-- A rebuilt codeword: event, repair, delivery when it is the target (R84, R88, R307). -/
def State.rebuilt (s : State) (t : Nat) (r : Rd) (c : Copy) (pos : Nat) (d : Line) : State :=
  let lseg := lsegOf r.lla
  let st := stripeOfLine (lineIndexOf r.lla)
  let S := c.stripe st
  let slot := (s.tile t).finalSlot (c.slot st pos)
  let note (s : State) : State :=
    ((s.tcount t Cn.LINES_REBUILT 1).tev t Ev.LINE_REBUILT 0xFF slot [(6, (memberKey lseg st S pos).toNat)])
  let clear (s : State) : State :=
    s.modRd t (fun x => x.setRd r.id (fun q =>
      let e := q.erased.filter (fun j => decide (j ≠ pos))
      { q with erased := e, phase := if e.isEmpty then .sensing else .erased }))
  if pos = r.pos ∧ !r.answered then
    if (s.partn r.part).isSealed ∧ r.tries = 2 ∧ r.kind = .data then
      match s.sealedVerdict t r.part r.lla d with
      | some .valid =>
        ((((note (clear s)).repairMember t r.part lseg st pos c d 3).tev t Ev.INTEGRITY_REPAIRED 0xFF r.lla [(1, 1)])).deliver t r.id d false
      | _ => s.integrityFail t r
    else ((note (clear s)).repairMember t r.part lseg st pos c d 3).deliver t r.id d false
  else
    let s1 := (note (clear s)).repairMember t r.part lseg st pos c d 3
    if r.answered then s1.retireRd t r.id else s1

/-- LINE_REBUILT (R84): the other eight members of an ERASED codeword's stripe are decoded, member `j` with bit errors
`errs[j]`, and XORed; with a second erasure the stripe goes to its retry (R85). -/
def execLineRebuilt (t rd : Nat) (errs : List Codeword) (s : State) : Host.Outcome State Fault Refusal :=
  .next (match (s.tile t).rd.byId rd with
    | none => s
    | some r =>
      if r.phase ≠ .erased then s
      else
        match s.copyOfRd t r with
        | none => s
        | some c =>
          let pos := if r.erased.isEmpty ∨ r.erased.contains r.pos then r.pos else r.erased.headD r.pos
          let ps := ((List.range 9).filter (fun j => decide (j ≠ pos))).map (fun j => (j, errs.getD j 0))
          let ds := s.decodeMembers t r c ps
          let s1 := (s.settleSpec t r false).noteMembers t r c false ps
          let bad := (ds.filter (fun d => d.2.isNone)).map (fun d => d.1)
          if bad.isEmpty then s1.rebuilt t r c pos (xorLines (ds.filterMap (fun d => d.2)))
          else
            s1.modRd t (fun x => x.setRd rd (fun q =>
              { q with phase := .retry, erased := pos :: bad, kept := ds.filterMap (fun d => d.2.map (fun v => (d.1, v))) })))

/-- A retry that reads every member (R85): the read goes back to its line, or ends where nothing waits for it. -/
def State.retryWhole (s : State) (t rd : Nat) (r : Rd) (target : Option Line) : State :=
  let s1 := (s.tev t Ev.ERASURE_RETRY 0xFF 0 []).modRd t (fun x => x.setRd rd (fun q => { q with erased := [], phase := .sensing }))
  match target with
  | some d => if r.answered then s1.retireRd t rd else s1.deliver t rd d false
  | none => s1.retireRd t rd
/-- A retry that leaves member `p` ERASED (R85, R86): it is rebuilt from the others, `d`. -/
def State.retryOne (s : State) (t rd : Nat) (r : Rd) (c : Copy) (p : Nat) (d : Line) (target : Option Line) : State :=
  let s1 := (s.tev t Ev.ERASURE_RETRY 0xFF 0 []).modRd t (fun x => x.setRd rd (fun q => { q with erased := [p] }))
  let s2 := s1.rebuilt t { r with erased := [p] } c p d
  if p = r.pos ∨ r.answered then s2
  else match target with
    | some v => s2.deliver t rd v false
    | none => s2
/-- The data members of `lost` become LOST (R86). -/
def State.loseMembers (s : State) (t : Nat) (r : Rd) (c : Copy) (lost : List Nat) : State :=
  let lseg := lsegOf r.lla
  let st := stripeOfLine (lineIndexOf r.lla)
  s.each lost (fun s' j => match memberLla lseg st (c.stripe st) j with
    | none => s'
    | some l => (s'.loseLine t r.part l ((s'.tile t).finalSlot (c.slot st j)) 2).forgetClean t l)
/-- A retry that leaves the members `still` ERASED (R86): the stripe is broken, their lines are LOST but for the line of the
eviction that reads (R139). -/
def State.retryBroken (s : State) (t rd : Nat) (r : Rd) (c : Copy) (still : List Nat) (target : Option Line) : State :=
  let lseg := lsegOf r.lla
  let st := stripeOfLine (lineIndexOf r.lla)
  let S := c.stripe st
  let own := decide (r.why = .oldData ∨ r.why = .oldParity)
  let lost := still.filter (fun j => decide (j ≠ parityPos S) && !(own && decide (memberLla lseg st S j = some r.lla)))
  let s1 := (s.loseMembers t r c lost).poisonStripe t r.part lseg st c (if lost.isEmpty then [parityPos S] else lost) false
  let s2 := s1.modRd t (fun x => x.setRd rd (fun q => { q with erased := [], phase := .sensing }))
  let s3 := s2.when own (fun s' => s'.modRes t (fun y => y.setEvict r.link (fun e => { e with fromMembers := true })))
  if r.answered then s3.retireRd t rd
  else match target with
    | some v => s3.deliver t rd v false
    | none => s3.deliver t rd 0 true
/-- ERASURE_RETRY (R85, R86): every ERASED member is read once more, member `j` with bit errors `errs[j]`; with at most one
still ERASED the stripe is rebuilt, else it is broken and its erased data members are LOST, but for a line under
eviction, which its eviction writes anew (R139). -/
def execErasureRetry (t rd : Nat) (errs : List Codeword) (s : State) : Host.Outcome State Fault Refusal :=
  .next (match (s.tile t).rd.byId rd with
    | none => s
    | some r =>
      if r.phase ≠ .retry then s
      else
        match s.copyOfRd t r with
        | none => s
        | some c =>
          let ps := r.erased.map (fun j => (j, errs.getD j 0))
          let ds := s.decodeMembers t r c ps
          let s2 := (s.noteMembers t r c true ps).tcount t Cn.ERASURE_RETRIES r.erased.length
          let known := r.kept ++ ds.filterMap (fun d => d.2.map (fun v => (d.1, v)))
          let still := (ds.filter (fun d => d.2.isNone)).map (fun d => d.1)
          let target := (known.find? (fun k => decide (k.1 = r.pos))).map (fun k => k.2)
          match still with
          | [] => s2.retryWhole t rd r target
          | [p] => s2.retryOne t rd r c p (xorLines ((known.filter (fun k => decide (k.1 ≠ p))).map (fun k => k.2))) target
          | _ => s2.retryBroken t rd r c still target)

/-- FETCH_DONE (R136, R137, R106): the fetch of a PARTIAL line merges. -/
def execFetchDone (t rd : Nat) (s : State) : Host.Outcome State Fault Refusal :=
  .next (match (s.tile t).rd.byId rd with
    | none => s
    | some r => if r.why = .fetch ∧ r.phase = .decoded then (s.mergeFetch t r).noteGate t else s)

/-- HOT_BANK (R125): a bank keeps both waiting positions occupied for 1 µs. -/
def execHotBank (t die bank : Nat) (s : State) : Host.Outcome State Fault Refusal :=
  .next (let x := s.tile t
    let b := die * 32 + bank
    if t < s.n ∧ die < 16 ∧ bank < 32 ∧ !x.memberFree b ∧ !x.directFree b then s.tev t Ev.HOT_BANK 0xFF die [(1, bank)]
    else s)

/-- The histogram and maximum are zeroed and the free-token minimum restarts (R124). -/
def State.readSvcClear (s : State) (t : Nat) : State :=
  s.modRd t (fun x => { x with hist := List.replicate 16 0, max := 0, histSeq := (x.histSeq + 2) % 2 ^ 32,
                               freeMin := 256 - sumList x.rdUse })

end Sys2Proof.Machine
end

