-- ==== Sys2Proof/Machine/Links.lean ====
section
/-! DEFINITION. Ports and their links (R357 to R360, R374 to R376, R387), resets of logical devices (R482), HDM decoders (R368). -/
namespace Sys2Proof.Machine
open Sys2Proof

/-! ### Training and link events -/

/-- Whether a port's tiles can carry a link: the main domain up since TEST entry, every tile of the port ACTIVE, no DRAIN (R21, R478). -/
def State.canTrain (s : State) (p : Nat) : Bool :=
  s.portUsed p && s.dev.mainUp && decide (s.dev.st ≠ .drain ∧ s.dev.st ≠ .seq) && (s.portTiles p).all (fun t =>
    s.tileActive t || (decide ((s.tile t).fence.st = .rejoining) && decide (6 ≤ (s.tile t).fence.rejoinStep)))
/-- Lanes of a port (R17). -/
def State.portLanes (s : State) (p : Nat) : Nat := if s.pairX8 (p / 2) then 8 else 16
/-- Whether a rate code, a width and a flit mode can be in force on a port (R358): `PORT_MAX_RATE` limits the rate. -/
def State.linkLegal (s : State) (p rate width flit : Nat) : Bool :=
  decide (1 ≤ rate ∧ rate ≤ s.cell (Ob.inst Ob.PORT_MAX_RATE p) 5) && [1, 2, 4, 8, 16].contains width && decide (width ≤ s.portLanes p) &&
  decide (flit ≤ 2)
/-- Whether CXL.mem is enabled on a link (R359): CXL negotiated with 256-byte flits, trained at 16, 32 or 64 GT/s. -/
def memEnabled (cxl : Bool) (rate flit : Nat) : Bool := cxl && decide (flit = 1 ∨ flit = 2) && decide (3 ≤ rate)
/-- Records a link without CXL.mem (R359): rate, width, negotiated protocols (bit 0 CXL, bits 2:1 the flit mode). -/
def State.noteNoMem (s : State) (p rate width flit : Nat) (cxl : Bool) : State :=
  if memEnabled cxl rate flit then s
  else (s.tev p Ev.CXL_MEM_UNAVAILABLE 0xFF rate [(1, width), (1, bitNat cxl + 2 * flit)]).degrade

/-- LINK_TRAINED (R358, R359, R366): a port finishes training; its LD mode and count take effect. -/
def execLinkTrained (port rate width flit : Nat) (cxl : Bool) (s : State) : Host.Outcome State Fault Refusal :=
  .next (if s.canTrain port && !(s.port port).up && s.linkLegal port rate width flit then
      let s1 := s.modPort port (fun p => { p with
        up := true, rate := rate, width := width, flit := flit, cxlMem := memEnabled cxl rate flit,
        ldMode := s.cell (Ob.inst Ob.PORT_LD_MODE port) 0,
        ldCount := if s.cell (Ob.inst Ob.PORT_LD_MODE port) 0 = 0 then 1 else s.cell (Ob.inst Ob.PORT_LD_COUNT port) 1,
        maxRate := s.cell (Ob.inst Ob.PORT_MAX_RATE port) 5 })
      s1.noteNoMem port rate width flit cxl
    else s)

/-- LINK_RETRAINED (R360, R387): the link retrains; flits in flight are replayed and no request is lost. -/
def execLinkRetrained (port rate width : Nat) (s : State) : Host.Outcome State Fault Refusal :=
  .next (
    let q := s.port port
    if s.portUsed port && q.up && s.linkLegal port rate width q.flit then
      let s1 := s.tcount port Cn.LINK_RETRAINS 1
      if q.rate = rate ∧ q.width = width then s1
      else
        let cxl := q.cxlMem
        let s2 := s1.modPort port (fun p => { p with rate := rate, width := width, cxlMem := memEnabled cxl rate p.flit })
        let s3 := (s2.raise (Ob.inst Ob.PORT_ERR_STATUS port) 1 (Ob.inst Ob.PORT_ERR_OCC port + 1)).tev port Ev.LINK_RETRAINED 0xFF port
          [(1, rate), (1, width)]
        if cxl then s3.noteNoMem port rate width q.flit cxl else s3
    else s)

/-- LINK_DOWN (R387): hot reset (1), link failure or surprise link down (2), PERST# (3), presence or VIN lost (6). -/
def execLinkDown (port cause : Nat) (s : State) : Host.Outcome State Fault Refusal :=
  .next (if s.portUsed port && (cause = 1 || cause = 2 || cause = 3 || cause = 6) then s.linkDown port cause else s)

/-- LINK_REPLAY (R360): flits replayed by the link layer, which is no fault. -/
def execLinkReplay (port flits : Nat) (s : State) : Host.Outcome State Fault Refusal :=
  .next (if s.portUsed port && (s.port port).up then s.tcount port Cn.LINK_REPLAYS flits else s)

/-- PBR_ID_ASSIGNED (R366): the fabric manager assigns the PBR ID of an edge port. -/
def execPbrIdAssigned (port id : Nat) (s : State) : Host.Outcome State Fault Refusal :=
  .next (if s.portUsed port && decide ((s.port port).ldMode = 2 ∧ id ≤ 4095) then s.modPort port (fun p => { p with pbrId := id }) else s)

/-! ### Resets of logical devices -/

/-- Whether LD `l` exists on port `p` in the mode in force (R366). -/
def State.ldExists (s : State) (p l : Nat) : Bool := s.portUsed p && decide (l < (if (s.port p).ldMode = 0 then 1 else (s.port p).ldCount))

/-- CXL_LD_RESET (R154, R387, R482). -/
def execCxlLdReset (port ld : Nat) (s : State) : Host.Outcome State Fault Refusal :=
  .next (if s.ldExists port ld then (s.discard port (some ld)).dropMailbox port ld else s)

/-- FUNCTION_LEVEL_RESET (R482): a foreground mailbox command of the LD is aborted and its set discarded; CXL.mem continues. -/
def execFunctionLevelReset (port ld : Nat) (s : State) : Host.Outcome State Fault Refusal :=
  .next (if s.ldExists port ld then s.dropMailbox port ld else s)

/-! ### IDE (R374 to R376) -/

/-- IDE_KEY_REFRESH (R374): IDE_KM programs or refreshes the key of a stream inside an SPDM session; no flit is lost. Stream 0 is
the CXL.cachemem stream in mode 1 (containment) or 2 (skid); stream 1 is the PCIe IDE link stream. [PRESUMED, assumption 62] -/
def execIdeKeyRefresh (port stream mode session : Nat) (key : Key256) (s : State) : Host.Outcome State Fault Refusal :=
  .next (if s.portUsed port && (s.port port).up && s.mgmt.sessions.any (fun x => decide (x.id = session)) then
      if stream = 0 ∧ (mode = 1 ∨ mode = 2) then
        s.modPort port (fun p => { p with ideMem := true, ideMode := if p.ideMem then p.ideMode else mode, ideMemKey := key })
      else if stream = 1 then s.modPort port (fun p => { p with ideIo := true, ideIoKey := key })
      else s
    else s)

/-- IDE_FAILURE (R376): an integrity check fails; the stream becomes Insecure and the link goes down. `dpas` are those of the writes
accepted from the failing aggregation, which only skid mode can have. -/
def execIdeFailure (port stream : Nat) (dpas : List Nat) (s : State) : Host.Outcome State Fault Refusal :=
  .next (
    let q := s.port port
    if s.portUsed port && q.up && (if stream = 0 then q.ideMem else q.ideIo) then
      let mode := if stream = 0 then q.ideMode else 0
      let ds := if mode = 2 then dpas else []
      let s1 := (s.raise (Ob.inst Ob.PORT_ERR_STATUS port) 3 (Ob.inst Ob.PORT_ERR_OCC port + 3)).tev port Ev.IDE_FAILURE 0xFF port
        ((1, mode) :: (ds.take 16).map (fun d => (7, d)) ++ [(4, ds.length)])
      s1.linkDown port 4
    else s)

/-! ### HDM decoders (R368) -/

/-- The limits of one decoder: ways, granularity, multiples of 256 MiB (R368). -/
def Decoder.legal (d : Decoder) : Bool :=
  [1, 2, 4, 8, 16].contains d.ways && [256, 512, 1024, 2048, 4096, 8192, 16384].contains d.gran
    && decide (d.base % 0x10000000 = 0 ∧ d.size % 0x10000000 = 0 ∧ d.skip % 0x10000000 = 0 ∧ 0 < d.size ∧ d.size % max 1 d.ways = 0)
/-- Whether decoder `i` of an LD can commit as `d`: the decoders below it are committed and those above are not, its HPA range
lies above theirs, and its DPA range lies inside the allocation (R368). -/
def State.decoderFits (s : State) (p l i : Nat) (d : Decoder) : Bool :=
  let ds := (s.ld p l).decoders
  let start := ((ds.take i).map Decoder.span).foldl (· + ·) 0 + d.skip
  d.legal && (ds.take i).all (fun e => e.committed && decide (e.base + e.size ≤ d.base)) && (ds.drop (i + 1)).all (fun e => !e.committed)
    && decide (start + d.size / max 1 d.ways ≤ (s.alloc p l).2)

/-- Changes decoder `i` of an LD. -/
def State.modDecoder (s : State) (p l i : Nat) (f : Decoder → Decoder) : State :=
  s.modLd p l (fun x => { x with decoders := modAt x.decoders i f })

/-- HDM_DECODER_COMMIT (R49, R368, R497): the host commits a decoder with the settings it has written; the port latches its
`HDM_KX_CFG`. A commit that fails reports Error Not Committed. -/
def execHdmDecoderCommit (port ld dec base size ways gran skip : Nat) (lock : Bool) (s : State) : Host.Outcome State Fault Refusal :=
  .next (if s.ldExists port ld && (s.port port).up && decide (dec < 4) && !((s.ld port ld).decoders.getD dec Decoder.reset).committed then
      let d : Decoder := { committed := true, locked := lock, err := false, base := base, size := size, ways := ways, gran := gran,
                           skip := skip, kxCfg := s.cell (ldKey Ob.HDM_KX_CFG port ld + dec) 0 }
      if s.decoderFits port ld dec d && decide (s.svc.eraseState ≠ 1) then s.modDecoder port ld dec (fun _ => d)
      else s.modDecoder port ld dec (fun e => { e with err := true })
    else s)

/-- HDM_DECODER_UNCOMMIT (R368): the host uncommits a decoder that was not locked at its commit. -/
def execHdmDecoderUncommit (port ld dec : Nat) (s : State) : Host.Outcome State Fault Refusal :=
  .next (
    let d := (s.ld port ld).decoders.getD dec Decoder.reset
    if s.ldExists port ld && (s.port port).up && decide (dec < 4) && d.committed && !d.locked then
      s.modDecoder port ld dec (fun e => { e with committed := false, err := false })
    else s)

/-- Whether any HDM decoder of any LD is committed (R497). -/
def State.anyDecoder (s : State) : Bool := s.lds.any (fun x => x.2.decoders.any Decoder.committed)

end Sys2Proof.Machine
end

