-- ==== Sys2Proof/Machine/Recorder.lean ====
section
/-! DEFINITION. The event recorder (17): summaries, rate limit, entries, publishing (R455 to R464), posting to the CXL event logs
(R381), saving and restoring (R465 to R467). -/
namespace Sys2Proof.Machine
open Sys2Proof

/-- Recorder `r`: 0 to 7 tiles, 8 package (R456). -/
def State.rec_ (s : State) (r : Nat) : Recorder := s.recs.getD r Recorder.empty
/-- Changes recorder `r`. -/
def State.modRec (s : State) (r : Nat) (f : Recorder → Recorder) : State := { s with recs := modAt s.recs r f }
/-- Tile whose timebase and SRAM recorder `r` uses. -/
def State.recTile (s : State) (r : Nat) : Nat := if r < 8 then r else s.coreTile

/-! ### Summaries and the rate limit -/

/-- Histogram bin of an interval in ticks (R457): bin k ends at 4^k µs. -/
def recBin (d : Nat) : Nat :=
  if d < 1000 then 0 else (((List.range 14).find? (fun k => decide (d < 1000 * 4 ^ (k + 1)))).map (· + 1)).getD 15
/-- A summary after an occurrence (R457). -/
def Summary.add (x : Summary) (o : Occ) : Summary :=
  let bin := if x.count = 0 then 0 else recBin (o.ts - x.lastTs)
  { x with count := satAdd (2 ^ 48 - 1) x.count 1, hist := modAt x.hist bin (fun c => satAdd 0xFFFFFFFF c 1),
           max := Nat.max x.max o.value, min := Nat.min x.min o.value, lastTs := o.ts,
           firstTs := if x.count = 0 then o.ts else x.firstTs, tile := o.tile }
/-- Rate limit in force for a code, per second (R461). [DEDUCED, assumption 55] -/
def State.recRate (s : State) (code : Nat) : Nat :=
  let r := s.cell (Ob.REC_RATE + code) 0
  if r ≠ 0 then r else s.cell Ob.REC_RATE_DEFAULT 32
/-- The bucket of a code at a time, in 10^-9 tokens; one never drawn on is full (R461). [DEDUCED, assumption 55] -/
def State.bucketAt (s : State) (x : Recorder) (code ts : Nat) : RateBucket :=
  let l := s.recRate code
  match x.buckets.find code with
  | none => { level := l * 10 ^ 9, at_ := ts }
  | some b => { level := min (l * 10 ^ 9) (b.level + l * (ts - b.at_)), at_ := Nat.max ts b.at_ }

/-! ### Placing entries (R462) -/

/-- Entry positions of a ring (17, table "recorder SRAM"). -/
def recRingSize (r : Nat) : Nat := if r < 2 then 2304 else if r < 8 then 3584 else 1024
/-- The entry with the least SEQ of a list. -/
def oldest (l : List RecEntry) : Option RecEntry := minBy RecEntry.seq l
/-- Replaces the entry of a SEQ. -/
def replaceSeq (l : List RecEntry) (seq : Nat) (e : RecEntry) : List RecEntry := l.map (fun x => if x.seq = seq then e else x)
/-- A ring with a new entry in it; `none` when no position can take it. -/
def placeEntry (size : Nat) (l : List RecEntry) (e : RecEntry) : Option (List RecEntry) :=
  if l.length < size then some (l ++ [e])
  else match oldest (l.filter (fun x => x.released)) with
    | some x => some (replaceSeq l x.seq e)
    | none =>
      match oldest (l.filter (fun x => decide (severity x.code ≤ severity e.code ∧ severity x.code ≠ 3))) with
      | some x => some (replaceSeq l x.seq e)
      | none => none

/-- The entry that an occurrence makes (R456, R461, R462). -/
def Recorder.entryOf (x : Recorder) (o : Occ) : RecEntry :=
  { seq := x.head + 1, code := o.code, tile := o.tile, ts := o.ts, cls := o.cls, value := o.value, payload := o.payload,
    holdover := o.holdover, suppr := x.supprSince.contains o.code, released := false }

/-- Merges one occurrence into recorder `r` (R457, R461, R462); the second result says whether it took a token. -/
def State.mergeOcc (s : State) (r : Nat) (o : Occ) : State × Bool :=
  let x := s.rec_ r
  let b := s.bucketAt x o.code o.ts
  let sum := (x.sums.getD o.code (Summary.empty 0)).add o
  if b.level < 10 ^ 9 then
    ((s.modRec r (fun y => { y with
      sums := y.sums.insert o.code { sum with suppressed := satAdd 0xFFFFFFFF sum.suppressed 1 },
      buckets := y.buckets.insert o.code b,
      supprSince := if y.supprSince.contains o.code then y.supprSince else y.supprSince ++ [o.code] })).count Cn.REC_SUPPRESSED 1, false)
  else
    let e := x.entryOf o
    let took (sums : Sparse Summary) (head : Nat) (ring : List RecEntry) : State :=
      s.modRec r (fun y => { y with
        sums := sums, head := head, ring := ring,
        buckets := y.buckets.insert o.code { b with level := b.level - 10 ^ 9 },
        supprSince := y.supprSince.filter (fun c => decide (c ≠ o.code)) })
    match placeEntry (recRingSize r) x.ring e with
    | some ring => (took (x.sums.insert o.code sum) (x.head + 1) ring, true)
    | none =>
      let s1 := took (x.sums.insert o.code { sum with dropped := satAdd 0xFFFFFFFF sum.dropped 1 }) x.head x.ring
      let t := s.recTile r
      let s2 := (s1.raise (Ob.inst Ob.REC_STATUS t) 0 (Ob.inst Ob.REC_OCC t)).count Cn.REC_ENTRIES_DROPPED 1
      (if severity o.code = 3 then s2.raise (Ob.inst Ob.REC_STATUS t) 1 (Ob.inst Ob.REC_OCC t + 1) else s2, true)

/-! ### The layout of summaries and entries -/

/-- A record of `n` bytes with its CRC-32C in four bytes after it (17). -/
def sealRecord (n v : Nat) : List Nat :=
  let b := bytesLE n v
  b ++ bytesLE 4 (crc32c 0 b)
/-- The 64 bytes of an entry (17, table "entry"). -/
def RecEntry.bytes (e : RecEntry) : List Nat :=
  sealRecord 60 (packFields [(1, bitNat e.released), (1, bitNat e.holdover), (1, bitNat e.suppr), (5, 0), (8, e.cls), (2, severity e.code),
    (3, e.tile), (11, e.code), (32, e.seq), (64, e.ts), (64, e.value), (288, e.payload)])
/-- The 128 bytes of a summary (17, table "summary record"). -/
def Summary.bytes (x : Summary) (code rate : Nat) : List Nat :=
  sealRecord 124 (packFields ([(16, 0), (2, severity code), (3, if code < 0x600 then code / 0xC0 else x.tile), (11, code), (64, x.clearTs),
    (16, rate), (48, x.count), (32, x.suppressed), (32, x.dropped), (64, x.firstTs), (64, x.lastTs), (64, x.min), (64, x.max)]
    ++ x.hist.map (fun b => (32, b))))

/-! ### The CXL event logs (R381) -/

/-- The DPA that an event carries, if one: its VALUE, or a quantity of its PAYLOAD at a byte (the tables of events). [DEDUCED, assumption 56] -/
def Occ.dpa (o : Occ) : Option Nat :=
  let n := eventNumber o.code
  let at_ (k : Nat) : Nat := bitsOf o.payload (8 * k) 56
  let v : Option Nat :=
    if [0x10, 0x23, 0x42, 0x44, 0x50, 0x84, 0x90, 0xBC].contains n then some o.value
    else if n = 0x66 ∨ n = 0x67 ∨ n = 0xA4 then some (at_ 0)
    else if n = 0x6A then some (at_ 1) else if n = 0x92 then some (at_ 5) else if n = 0xA6 then some (at_ 3) else none
  v.filter (fun d => decide (d ≠ noDpa))
/-- The logical devices that exist, as 16 × port + LD (R366). [DEDUCED, assumption 56] -/
def State.allLds (s : State) : List Nat := below 128 (fun k => s.ldExists (k / 16) (k % 16))
/-- The logical devices whose allocation contains a DPA, with their LD DPA (R381). [DEDUCED, assumption 56] -/
def State.ldsOf (s : State) (dpa : Nat) : List (Nat × Nat) :=
  (s.allLds.filter (fun k => decide ((s.alloc (k / 16) (k % 16)).1 ≤ dpa ∧ dpa < (s.alloc (k / 16) (k % 16)).1 + (s.alloc (k / 16) (k % 16)).2))).map
    (fun k => (k, dpa - (s.alloc (k / 16) (k % 16)).1))
/-- Handle after `h`: 16 bits, never 0. [PRESUMED, assumption 18] -/
def handleAfter (h : Nat) : Nat := if h = 0xFFFF then 1 else h + 1
/-- Appends a record to a log of 128, or counts its overflow (R381). [PRESUMED, assumption 18] -/
def EventLog.add (l : EventLog) (kind code ts bytes : Nat) : EventLog :=
  if l.records.length < 128 then
    { l with records := l.records ++ [{ handle := l.nextHandle, kind := kind, code := code, ts := ts, bytes := bytes }], nextHandle := handleAfter l.nextHandle }
  else { l with overflow := satAdd 0xFFFF l.overflow 1, firstLost := if l.overflow = 0 then ts else l.firstLost, lastLost := ts }
/-- Posts a record into log `log` of a logical device (16 × port + LD); a log that was empty interrupts under its policy: bits 1:0
1 = MSI-X, bits 7:4 the vector. [PRESUMED, assumption 18] -/
def State.postLog (s : State) (k log kind code ts bytes : Nat) : State :=
  let x := s.ld (k / 16) (k % 16)
  let p := x.intPolicy.getD log 0
  let was := (x.logs.getD log EventLog.reset).records.isEmpty
  let s1 := s.modLd (k / 16) (k % 16) (fun y => { y with
    logs := modAt y.logs log (fun l => l.add kind code (ts + s.cell Ob.HOST_TIME_OFFSET 0) bytes) })
  if was ∧ p % 4 = 1 then { s1 with out := s1.out ++ [Response.msix (k / 16) (k % 16) (p / 16)] } else s1
/-- Posts an occurrence after its rate limit (R381): record kinds 0 vendor, 1 General Media, 2 Memory Module. [DEDUCED, assumption 56] -/
def State.post (s : State) (o : Occ) (bytes : List Nat) : State :=
  let sev := severity o.code
  let vendor := ofBytesLE (bytesLE 2 o.code ++ bytesLE 1 o.tile ++ bytes.take 32)
  let fatal := decide (o.code = Ev.DEVICE_STATE_CHANGED) && (decide (o.payload % 256 = 9) || (decide (o.payload % 256 = 8) && decide (s.dev.drainCause ≠ 2)))
  let all (s : State) (log kind bytes : Nat) : State := s.each s.allLds (fun s' k => s'.postLog k log kind o.code o.ts bytes)
  let s1 := if fatal then all s 3 0 vendor else s
  if o.quiet ∨ sev = 0 then s1
  else if o.code = Ev.HEALTH_CHANGED then all s1 (sev - 1) 2 vendor
  else match o.home with
    | some k => s1.postLog k (sev - 1) 0 o.code o.ts vendor
    | none =>
      match o.dpa with
      | some d => s1.each (s1.ldsOf d) (fun s' k => s'.postLog k.1 (sev - 1) 1 o.code o.ts k.2)
      | none => all s1 (sev - 1) 0 vendor

/-! ### Publishing (R458, R460, R463) -/

/-- The codes that recorder `r` may record (R41, R455). -/
def recCodes (r : Nat) : List Nat := if r < 8 then (List.range 0xC0).map (fun i => 0xC0 * r + i) else (List.range 0x80).map (fun i => 0x600 + i)
/-- The rings and summaries after the clears and releases written since the last publish; a clear names every code of the recorder, those without an
occurrence too (R460, R463). [DEDUCED, assumption 55] -/
def Recorder.applyWrites (x : Recorder) (r now : Nat) : Recorder :=
  let top := x.releaseTo.foldl Nat.max 0
  { x with
    sums := if x.clears.isEmpty then x.sums
      else (recCodes r).map (fun c => (c, { Summary.empty now with tile := (x.sums.getD c (Summary.empty 0)).tile })),
    ring := x.ring.map (fun (e : RecEntry) => if e.seq ≤ top then { e with released := true } else e), clears := [], releaseTo := [] }
/-- Whether an occurrence changes what a tile saves; the package recorder is saved in tiles 0 and 1 (R465, R467). -/
def State.wantSave (s : State) (r : Nat) (grave : Bool) : State :=
  (if r < 8 then [r] else [0, 1]).foldl (fun s' t => s'.modRec t (fun y => { y with changed := true, saveWanted := y.saveWanted || grave })) s
/-- One publish of recorder `r` (R458). -/
def State.publish (s : State) (r : Nat) : State :=
  let now := s.now (s.recTile r)
  let occ := (s.rec_ r).staged
  let touched := !occ.isEmpty || !(s.rec_ r).clears.isEmpty || !(s.rec_ r).releaseTo.isEmpty
  let s1 := s.modRec r (fun x => { x.applyWrites r now with
                                     staged := [], seq := (x.seq + 2) % 2 ^ 32, nextPublish := now + s.publishTicks })
  let s2 := s1.each occ (fun s' o =>
    let e := (s'.rec_ r).entryOf o
    let m := s'.mergeOcc r o
    if m.2 then m.1.post o e.bytes else m.1)
  let s3 := if occ.any (fun o => decide (severity o.code = 3)) then s2.alert 2 else s2
  if touched then s3.wantSave r (occ.any (fun o => decide (2 ≤ severity o.code))) else s3
/-- Whether the publish of a recorder is due (R458): it is loaded, and its period has passed. -/
def State.publishDue (s : State) (r : Nat) : Bool :=
  decide (if r < 8 then r < s.n ∧ (s.tile r).fence.st ≠ .fenced else r = 8) && (s.rec_ r).loaded &&
  decide ((s.rec_ r).nextPublish ≤ s.now (s.recTile r))

/-! ### Saving (R465, R466) -/

/-- Bytes of a publish image that tiles 0 and 1 hold: 604 entry slots for both rings, unreleased entries by severity, newest
first (R466). -/
def savedEntries (l : List (Nat × RecEntry)) : List (Nat × RecEntry) :=
  let live := l.filter (fun e => !e.2.released)
  let rank (v : Nat) : List (Nat × RecEntry) := (live.filter (fun e => decide (severity e.2.code = v))).reverse
  ((rank 3 ++ rank 2 ++ rank 1 ++ rank 0).take 604)
/-- The images that tile `t` saves: its own, and on tiles 0 and 1 that of the package recorder. -/
def State.recImages (s : State) (t : Nat) : RecImage × RecImage :=
  let x := s.rec_ t
  let p := s.rec_ 8
  let kept := savedEntries (x.ring.map (fun e => (0, e)) ++ p.ring.map (fun e => (1, e)))
  let gen := ((s.tile t).ps.ringValue 0).getD 0
  let image (y : Recorder) (l : List RecEntry) : RecImage := { sums := y.sums, ring := l, head := y.head, generation := gen, stamp := s.now t, torn := 0 }
  if t < 2 then
    (image x ((kept.filter (fun e => decide (e.1 = 0))).map (fun e => e.2)), image p ((kept.filter (fun e => decide (e.1 = 1))).map (fun e => e.2)))
  else (image x x.ring, image p [])
/-- Saves the recorder of tile `t` (R465). -/
def State.saveRecorder (s : State) (t : Nat) : State :=
  let im := s.recImages t
  let s1 := s.modPs t (fun p => { p with recImage := some im.1, pkgImage := if t < 2 then some im.2 else p.pkgImage })
  (s1.modRec t (fun x => { x with changed := false, saveWanted := false, lastSave := some (s.now t) })).count Cn.REC_SAVES 1
/-- Whether firmware saves the recorder of a tile now (R465, rows 1 and 2; R39). [DEDUCED, assumption 55] -/
def State.saveDue (s : State) (t : Nat) : Bool :=
  let x := s.rec_ t
  let since (last : Option Nat) (sec : Nat) : Bool := decide (last.getD 0 + sec * 10 ^ 9 ≤ s.now t)
  decide (t < s.n ∧ (s.tile t).fence.st ≠ .fenced ∧ s.dev.st ≠ .drain ∧ s.dev.st ≠ .safe) && x.loaded && s.mgmt.active.isSome &&
  (x.fwSave.isNone || since x.fwSave 120) && (x.saveWanted || (x.changed && since x.lastSave 3600))
/-- REC_SAVE (R465): firmware saves the recorder of a tile at the end of a publish. -/
def execRecSave (t : Nat) (s : State) : Host.Outcome State Fault Refusal := .next (if s.saveDue t then (s.saveRecorder t).modRec t (fun x => { x with fwSave := some (s.now t) }) else s)

/-! ### Restoring (R467) -/

/-- Loads the recorder of tile `t` from its image; entries of the SEQs in `torn` fail their CRC and are discarded. [DEDUCED, assumption 55] -/
def State.loadRecorder (s : State) (t : Nat) (torn : List Nat) : State :=
  let now := s.now t
  let im := (s.tile t).ps.recImage
  let ring := ((im.map RecImage.ring).getD []).filter (fun e => !torn.contains e.seq)
  let gone := ((im.map RecImage.ring).getD []).length - ring.length
  let sums := (im.map RecImage.sums).getD []
  let head := ring.foldl (fun m e => Nat.max m e.seq) ((im.map RecImage.head).getD 0)
  let s1 := s.modRec t (fun x => { x with
    sums := sums, ring := ring, head := head, clears := [], releaseTo := [], buckets := [], supprSince := [],
    loaded := true, nextPublish := now + s.publishTicks })
  let s2 := if gone = 0 then s1
    else (s1.raise (Ob.inst Ob.REC_STATUS t) 2 (Ob.inst Ob.REC_OCC t + 2)).tev t Ev.REC_RECORDS_TORN 0xFF gone []
  s2.tev t Ev.REC_RESTORED 0xFF sums.length [(4, ring.length)]
/-- Whether an image has a later stamp than another (R467). -/
def RecImage.later (a b : RecImage) : Bool := decide (b.generation < a.generation ∨ (a.generation = b.generation ∧ b.stamp < a.stamp))
/-- Loads the package recorder from the images of tiles 0 and 1 (R467). -/
def State.loadPackage (s : State) : State :=
  let a := (s.tile 0).ps.pkgImage
  let b := if 1 < s.n then (s.tile 1).ps.pkgImage else none
  let (first, second) := match a, b with
    | some x, some y => if y.later x then (some y, some x) else (some x, some y)
    | some x, none => (some x, none)
    | none, y => (y, none)
  let r1 := (first.map RecImage.ring).getD []
  let r2 := ((second.map RecImage.ring).getD []).filter (fun e => r1.all (fun f => decide (f.seq ≠ e.seq)))
  let ring := r1 ++ r2
  let head := ring.foldl (fun m e => Nat.max m e.seq) (Nat.max ((first.map RecImage.head).getD 0) ((second.map RecImage.head).getD 0))
  s.modRec 8 (fun x => { x with
    sums := (first.map RecImage.sums).getD [], ring := ring, head := head, clears := [], releaseTo := [], buckets := [],
    supprSince := [], loaded := true, nextPublish := s.pkgNow + s.publishTicks })

/-! ### Commands (R460, R463, R464) -/

/-- Recorders that `REC_CLEAR` names (R474): tile, 0x10 package, 0xFF all. -/
def State.clearNames (s : State) (v : Nat) : Option (List Nat) :=
  if v < 8 then (if v < s.n then some [v] else none)
  else if v = 0x10 then some [8] else if v = 0xFF then some (s.tileNumbers ++ [8]) else none
/-- `REC_CLEAR` (R460): takes effect at the next publish of each recorder named, and is answered then. -/
def State.recClear (s : State) (v : Nat) : OpEnd :=
  match s.clearNames v with
  | none => .now (s.refused Err.range 0)
  | some rs =>
    let live := rs.filter (fun r => decide (r = 8) || decide ((s.tile r).fence.st ≠ .fenced))
    if v < 8 ∧ live.isEmpty then .now (s.refused Err.state Detail.tile)
    else .later ((s.each live (fun s' r => s'.modRec r (fun x => { x with clears := x.clears ++ [v] }))).pev Ev.REC_CLEARED v []) (.publish live)
/-- `REC_RELEASE` and `REC_PKG_RELEASE` (R463). -/
def State.recRelease (s : State) (r v : Nat) : OpEnd :=
  if (s.rec_ r).head < v then .now (s.refused Err.range 0)
  else .later (s.modRec r (fun x => { x with releaseTo := x.releaseTo ++ [v] })) (.publish [r])
/-- `REC_NEXT` and `REC_PKG_NEXT` (R464): up to 15 entries with SEQ ≥ the argument, ascending. -/
def ascending : Nat → List RecEntry → List RecEntry
  | 0, _ => []
  | n + 1, l => match oldest l with
    | none => []
    | some e => e :: ascending n (l.filter (fun x => decide (x.seq ≠ e.seq)))
/-- The entries that `REC_NEXT` returns, as bytes. -/
def State.recNext (s : State) (r v : Nat) : List Nat :=
  ((ascending 15 ((s.rec_ r).ring.filter (fun e => decide (v ≤ e.seq)))).map RecEntry.bytes).flatten

end Sys2Proof.Machine
end

