-- ==== Sys2Proof/Machine/Partitions.lean ====
section
/-! DEFINITION. Enabling, changing and releasing partitions (R52, R53, R61 to R67, R247). -/
namespace Sys2Proof.Machine
open Sys2Proof

/-! ### Partition objects -/

/-- Cell of a partition object. -/
def State.partCell (s : State) (ob p d : Nat) : Nat := s.cell (Ob.inst ob p) d
/-- The mask of all tiles of the part. -/
def State.allTiles (s : State) : Nat := 2 ^ s.n - 1
/-- Whether partition `p` is to be enabled by the configuration as it stands. -/
def State.partOn (s : State) (p : Nat) : Bool := decide (s.partCell Ob.PART_ENABLE p 0 = 1)
/-- A partition as its objects describe it, not placed yet (R61): d data segments, m with metadata, C in all. -/
def State.partPlan (s : State) (p : Nat) : PartInfo :=
  let set := s.partCell Ob.PART_TILE_SET p s.allTiles
  let spanned := decide (s.partCell Ob.PART_PROTECT p 0 = 1)
  let isSealed := decide (s.partCell Ob.PART_SEALED p 0 = 1)
  let size := s.partCell Ob.PART_SIZE p 0
  let d := size / 0x100000 / max 1 (tilesOf set).length
  let m := d + if isSealed then ceilDiv d 7 else 0
  { PartInfo.free with
    st := 1, base := s.partCell Ob.PART_DPA_BASE p 0, size := size, spanned := spanned, isSealed := isSealed,
    forerunner := decide (s.partCell Ob.PART_CIPHER p 0 = 1), tileSet := set, gran := s.partCell Ob.PART_TILE_GRAN p 1,
    sealKx := s.partCell Ob.SEAL_KX p 0, data := d, meta_ := m, total := if spanned then ceilDiv (m * s.n) (s.n - 1) else m }
/-- The rules of one partition's attributes (R53): tile set of 1, 2, 4 or 8 tiles of the part, every tile when spanned, native
cipher when sealed, a size when enabled. -/
def State.planLegal (s : State) (x : PartInfo) : Bool :=
  [1, 2, 4, 8].contains (tilesOf x.tileSet).length && decide (x.tileSet < 2 ^ s.n) && (!x.spanned || decide (x.tileSet = s.allTiles))
    && !(x.isSealed && x.forerunner) && decide (0 < x.size)

/-! ### Placing (R62) -/

/-- The ranges of logical segments that partitions hold in a tile: first and one past the last. -/
def heldRanges (ps : List PartInfo) (t : Nat) : List (Nat × Nat) :=
  (ps.map (fun x =>
    let a := x.segBase.getD t 0xFFFFFFFF
    let b := x.spanBase.getD t 0xFFFFFFFF
    (if a = 0xFFFFFFFF then [] else [(a, a + x.meta_)]) ++ (if b = 0xFFFFFFFF then [] else [(b, b + (x.total - x.meta_))]))).flatten
/-- The lowest range of `n` consecutive free numbers beside the held ranges (R62). -/
def lowestRange (held : List (Nat × Nat)) (n : Nat) : Option Nat :=
  let fits (a : Nat) : Bool := decide (a + n ≤ poolSegs) && held.all (fun r => decide (a + n ≤ r.1 ∨ r.2 ≤ a))
  minBy (fun a => a) ((0 :: held.map Prod.snd).filter fits)
/-- Places a partition in one tile of its set: protected segments, then span parity. -/
def placeIn (ps : List PartInfo) (x : PartInfo) (t : Nat) : Option PartInfo :=
  let held := heldRanges ps t
  match lowestRange held x.meta_ with
  | none => none
  | some a =>
    let y := { x with segBase := modAt x.segBase t (fun _ => a) }
    if x.total = x.meta_ then some y
    else match lowestRange (held ++ [(a, a + x.meta_)]) (x.total - x.meta_) with
      | none => none
      | some b => some { y with spanBase := modAt y.spanBase t (fun _ => b) }
/-- Places a partition in every tile of its set. -/
def placeAll (ps : List PartInfo) (x : PartInfo) : List Nat → Option PartInfo
  | [] => some x
  | t :: rest => match placeIn ps x t with
    | none => none
    | some y => placeAll ps y rest
/-- The numbers that a configuration enables and that are not enabled now, ascending. -/
def State.newParts (s : State) : List Nat := below 64 (fun p => s.partOn p && decide ((s.partn p).st = 0))
/-- The numbers that a configuration disables. -/
def State.goneParts (s : State) : List Nat := below 64 (fun p => !s.partOn p && decide ((s.partn p).st = 1))
/-- Places the partitions named beside the ones given; `none` when one does not fit, with its number. -/
def State.placeParts (s : State) : List PartInfo → List Nat → Except Nat (List (Nat × PartInfo))
  | _, [] => .ok []
  | held, p :: rest =>
    let x := s.partPlan p
    match placeAll held x (tilesOf x.tileSet) with
    | none => .error p
    | some y => match s.placeParts (held ++ [y]) rest with
      | .ok l => .ok ((p, y) :: l)
      | .error q => .error q
/-- The partitions that hold segments: enabled or RELEASING, beside those of `drop`. -/
def State.holding (s : State) (f : Nat → PartInfo → Bool) : List PartInfo :=
  (s.parts.filter (fun x => decide (x.2.st ≠ 0) && f x.1 x.2)).map (fun x => x.2)
/-- Where the partitions that a configuration enables go; partitions that it disables hold their segments until they are released. -/
def State.placement (s : State) : Except Nat (List (Nat × PartInfo)) := s.placeParts (s.holding (fun _ _ => true)) s.newParts
/-- Whether they would fit once RELEASING segments have returned (R62). -/
def State.fitsLater (s : State) : Bool :=
  match s.placeParts (s.holding (fun p x => decide (x.st = 1) && s.partOn p)) s.newParts with
  | .ok _ => true
  | .error _ => false
/-- The first partition that would overlap another enabled one, or reach `DPA_CAPACITY` (R52). -/
def State.overlapping (s : State) : Option Nat :=
  let on := below 64 s.partOn
  let range (p : Nat) : Nat × Nat := (s.partCell Ob.PART_DPA_BASE p 0, s.partCell Ob.PART_SIZE p 0)
  on.find? (fun p =>
    let r := range p
    decide (s.part.capacity < r.1 + r.2) || on.any (fun q => decide (q < p) && decide (r.1 < (range q).1 + (range q).2 ∧ (range q).1 < r.1 + r.2)))

/-! ### Enabling and disabling -/

/-- A COMMIT enables a partition (R62): an all-blank tree where it is sealed (R304). -/
def State.enablePart (s : State) (p : Nat) (x : PartInfo) : State :=
  let s1 := { s with parts := s.parts.insert p x }
  let s2 := if x.isSealed then
      s1.each (tilesOf x.tileSet) (fun s' t => s'.modTile t (fun y => { y with
        sealing := y.sealing.filter (fun z => decide (z.part ≠ p)) ++ [{ part := p, root := 0, rootLost := false }] }))
    else s1
  s2.pev Ev.PARTITION_ENABLED p []
/-- Whether an entry of a tile belongs to a partition's lines. -/
def Entry.isOf (e : Entry) (p : Nat) (x : PartInfo) : Bool := decide (e.part = p) || x.owns e.owner (lsegOf e.addr)
/-- What a tile discards when a partition is disabled (R65): its lines that are not IN-FLIGHT, without strokes, and the evictions
that have not reached their point; a PARTIAL line that reads wait for stays until they are served. -/
def State.dropPart (s : State) (t p : Nat) (x : PartInfo) : State :=
  let r := (s.tile t).res
  let goes (e : Entry) : Bool := e.isOf p x && decide (e.st ≠ .inflight) && r.pwaits.all (fun w => decide (w.entry ≠ e.id))
  let gone := r.entries.filter goes
  let mig := ((s.tile t).map.migs.filter (fun g => x.owns t g.lseg)).map Migration.lseg
  let s1 := s.each gone (fun s' e => (s'.shadowFor t e.owner false 1 e.addr).shadowFor t e.owner false 3 e.addr)
  let s2 := s1.modRes t (fun y => { y with
    entries := y.entries.filter (fun e => !goes e),
    evicts := y.evicts.filter (fun v => v.formed || decide (v.part ≠ p)) })
  let s3 := s2.each mig (fun s' l => s'.abandonMigration t l 2)
  let s4 := s3.modMap t (fun m => { m with
    triggers := m.triggers.filter (fun g => !x.owns t g.lseg), movesDue := m.movesDue.filter (fun l => !x.owns t l) })
  if s4.cell (Ob.inst Ob.FLIP_PARTITION t) 0 = p then s4.discardFlip t 1 else s4
/-- A COMMIT disables a partition: RELEASING (R65). A scrub pass that covers part of it is aborted (R238). -/
def State.disablePart (s : State) (p : Nat) : State :=
  let x := { s.partn p with st := 2 }
  let s1 := { s with parts := s.parts.insert p x }
  let s2 := s1.each s1.activeTiles (fun s' t => s'.dropPart t p x)
  if s2.svc.scrubOn && decide (s2.svc.scrubDpa < x.base + x.size ∧ x.base < s2.svc.scrubDpa + s2.svc.scrubLen) then s2.abortScrub 3 else s2

/-! ### Release -/

/-- Whether work of a partition is still under way in a tile: reads under the old table, strokes, evictions (R63, R65). -/
def State.partBusy (s : State) (t p : Nat) : Bool :=
  let x := s.tile t
  let i := s.partn p
  x.rd.rds.any (fun r => decide (r.part = p)) || x.res.evicts.any (fun e => decide (e.part = p)) ||
  x.res.strokes.any (fun k => i.owns t (x.strokeSeg k)) || x.res.pwaits.any (fun w => decide (w.req.part = p)) ||
  x.res.cmpWait.any (fun r => decide (r.part = p))
/-- Releases a partition's segments in one tile: headers RELEASED, map entries FRESH, images and poison list entries gone. -/
def State.releaseIn (s : State) (t p : Nat) : State :=
  let x := s.partn p
  let before := s.spares t
  let own := ((s.tile t).map.map.filter (fun e => x.owns t e.1)).map (fun e => (e.1, e.2))
  let s1 := s.each own (fun s' e => if e.2.st = .bound then s'.release t e.2.pseg else s')
  let s2 := s1.modMap t (fun m => { m with
    map := m.map.filter (fun e => !x.owns t e.1), poison := m.poison.filter (fun q => !x.owns t (lsegOf q.lla)) })
  let s3 := s2.modRes t (fun r => { r with
    entries := r.entries.filter (fun e => !e.isOf p x), bufs := r.bufs.filter (fun b => b.parity || !x.owns t (lsegOf b.addr)),
    shadow := r.shadow.filter (fun e => !decide (e.kind ≠ 2) || !x.owns e.owner (lsegOf e.addr)) })
  let s4 := s3.modPs t (fun q => { q with bound := q.bound.filter (fun l => !x.owns t l) })
  (s4.modTile t (fun y => { y with sealing := y.sealing.filter (fun z => decide (z.part ≠ p)) })).noteSpares t before
/-- PARTITION_RELEASED (R65): the last segments of a RELEASING partition have returned to the pools. -/
def execPartitionReleased (p : Nat) (s : State) : Host.Outcome State Fault Refusal :=
  .next (
    let x := s.partn p
    if p < 64 ∧ x.st = 2 ∧ s.activeTiles.all (fun t => !s.partBusy t p) then
      let s1 := s.each s.activeTiles (fun s' t => s'.releaseIn t p)
      { s1 with parts := s1.parts.insert p PartInfo.free }.pev Ev.PARTITION_RELEASED p [(4, x.total * (tilesOf x.tileSet).length)]
    else s)

end Sys2Proof.Machine
end

