-- ==== Sys2Proof/Machine/ObjectTable.lean ====
section
/-! DEFINITION. The objects of the dictionary (R417 to R422, R442 and the object tables of every chapter): rows, instances,
types, access codes, ranges, addresses. -/
namespace Sys2Proof.Machine
open Sys2Proof

/-- Access codes (R421). -/
inductive ObAccess where
  | ro | rw | rws | wo | w1c | cmd
  deriving DecidableEq, Repr
/-- How an object is instanced (R419): not at all, by tile, class, partition, descriptor queue, logical device, port. -/
inductive ObInst where
  | one | tile | cls | part | queue | ld | port
  deriving DecidableEq, Repr
/-- The range of an object (R433). Whole ranges, values beside a range, multiples, and the ranges that depend on the part, on
the port or on the class. -/
inductive ObRange where
  | any | between (lo hi : Nat) | orValue (lo hi x : Nat) | orTwo (lo hi x y : Nat) | multiple (m : Nat)
  | powerCap | peakStrokes | ldCount | ringSize | kxField | dcrField | scribePct | urgency
  deriving DecidableEq, Repr
/-- One row of an object table: first address, further subindices, instances, size in bytes (0 where the value gives it),
access, range. -/
structure ObRow where
  key : Nat
  more : Nat
  inst : ObInst
  size : Nat
  acc : ObAccess
  range : ObRange
  deriving DecidableEq, Repr

/-- A row. -/
def obRow (key more : Nat) (inst : ObInst) (size : Nat) (acc : ObAccess) (range : ObRange) : ObRow :=
  { key := key, more := more, inst := inst, size := size, acc := acc, range := range }

/-- Rows of chapter 01. -/
def rows01 : List ObRow := [
  obRow Ob.TILE_COUNT 0 .one 1 .ro .any,
  obRow Ob.PART_CODE 0 .one 0 .ro .any,
  obRow Ob.RING_LINK_COUNT 0 .one 1 .ro .any,
  obRow Ob.ACTIVE_CORE_TILE 0 .one 1 .ro .any,
  obRow Ob.STANDBY_SYNC 0 .one 1 .ro .any,
  obRow Ob.FW_IMAGE 0 .one 1 .ro .any,
  obRow Ob.TAKEOVER_COUNT 0 .one 2 .ro .any,
  obRow Ob.MGMT_STATUS 0 .one 4 .ro .any,
  obRow Ob.TIMEBASE_NOW 0 .one 8 .ro .any,
  obRow Ob.TILE_STATE 0 .tile 1 .ro .any,
  obRow Ob.VDDK_MV 0 .tile 2 .ro .any,
  obRow Ob.CORE_ROLE 0 .tile 1 .ro .any,
  obRow Ob.TB_STATUS 0 .tile 4 .ro .any,
  obRow Ob.RING_LINK_STATUS 0 .tile 4 .ro .any,
  obRow Ob.PAIR_PORT_MODE 0 .one 4 .rws .any]
/-- Rows of chapter 02. -/
def rows02 : List ObRow := [
  obRow Ob.DPA_CAPACITY 0 .one 8 .ro .any,
  obRow Ob.PARTITIONS_ENABLED 0 .one 1 .ro .any,
  obRow Ob.POOL_TOTAL_SEGS 0 .tile 4 .ro .any,
  obRow Ob.POOL_FREE_SEGS 0 .tile 4 .ro .any,
  obRow Ob.POOL_RELEASING_SEGS 0 .tile 4 .ro .any,
  obRow Ob.PART_ENABLE 0 .part 1 .rws (.between 0 1),
  obRow Ob.PART_DPA_BASE 0 .part 8 .rws (.multiple 1073741824),
  obRow Ob.PART_SIZE 0 .part 8 .rws (.multiple 1073741824),
  obRow Ob.PART_PROTECT 0 .part 1 .rws (.between 0 1),
  obRow Ob.PART_SEALED 0 .part 1 .rws (.between 0 1),
  obRow Ob.PART_CIPHER 0 .part 1 .rws (.between 0 1),
  obRow Ob.PART_TILE_SET 0 .part 4 .rws .any,
  obRow Ob.PART_TILE_GRAN 0 .part 1 .rws (.between 0 3),
  obRow Ob.PART_FEED_CLASS 0 .part 1 .rws (.orValue 0 63 0xFF),
  obRow Ob.PART_STATE 0 .part 1 .ro .any,
  obRow Ob.PART_DATA_SEGS 0 .part 4 .ro .any,
  obRow Ob.PART_TOTAL_SEGS 0 .part 4 .ro .any,
  obRow Ob.PART_SEG_BASE 7 .part 4 .ro .any,
  obRow Ob.HDM_KX_CFG 3 .ld 4 .rws .kxField]
/-- Rows of chapter 03. -/
def rows03 : List ObRow := [
  obRow Ob.LINE_CODE_ID 0 .one 2 .ro .any,
  obRow Ob.REMAP_FREE_MIN 0 .tile 1 .ro .any,
  obRow Ob.REMAP_FULL_NIBS 0 .tile 4 .ro .any,
  obRow Ob.SPARE_LINES_USED 0 .tile 4 .ro .any,
  obRow Ob.FAILED_BANKS 0 .tile 2 .ro .any,
  obRow Ob.FAILED_DIES 0 .tile 4 .ro .any,
  obRow Ob.REMAP_TABLE 15 .tile 256 .ro .any,
  obRow Ob.BANK_FAILED_MAP 15 .tile 4 .ro .any,
  obRow Ob.TEST_PERMITTED 0 .one 1 .ro .any,
  obRow Ob.FLIP_MASK 0 .tile 72 .rw .any,
  obRow Ob.FLIP_PARTITION 0 .tile 1 .rw (.between 0 63),
  obRow Ob.FLIP_ARM 0 .tile 4 .cmd (.between 0 1),
  obRow Ob.FLIP_STATUS 0 .tile 4 .w1c .any,
  obRow Ob.FLIP_LAST_LLA 0 .tile 8 .ro .any,
  obRow Ob.FLIP_LAST_SLOT 0 .tile 8 .ro .any,
  obRow Ob.FLIP_APPLIED_COUNT 0 .tile 2 .ro .any,
  obRow Ob.FLIP_DISCARDED_COUNT 0 .tile 2 .ro .any]
/-- Rows of chapter 04. -/
def rows04 : List ObRow := [
  obRow Ob.READ_SVC_HIST 0 .tile 64 .ro .any,
  obRow Ob.READ_SVC_MAX 0 .tile 4 .ro .any,
  obRow Ob.READ_SVC_SEQ 0 .tile 4 .ro .any,
  obRow Ob.READ_SVC_CLEAR 0 .tile 4 .cmd (.between 1 1),
  obRow Ob.TILE_READ_TOKENS 0 .tile 2 .ro .any,
  obRow Ob.READ_TOKENS_FREE_MIN 0 .tile 2 .ro .any,
  obRow Ob.READ_STATUS 0 .tile 4 .w1c .any,
  obRow Ob.READ_STATUS_OCC 0 .tile 2 .ro .any,
  obRow Ob.SPEC_WINDOW 0 .one 1 .rws (.between 0 64),
  obRow Ob.READ_AROUND_ENABLE 0 .one 1 .rws (.between 0 1)]
/-- Rows of chapter 05. -/
def rows05 : List ObRow := [
  obRow Ob.DIRTY_LIMIT 0 .one 1 .rws (.between 1 64),
  obRow Ob.WB_LOW 0 .one 1 .rws (.between 0 95),
  obRow Ob.DIRTY_LIMIT_EFFECTIVE 0 .tile 4 .ro .any,
  obRow Ob.DIRTY_LINES 0 .tile 4 .ro .any,
  obRow Ob.PARTIAL_LINES 0 .tile 4 .ro .any,
  obRow Ob.MIRROR_LINES 0 .tile 4 .ro .any,
  obRow Ob.INFLIGHT_IMAGES 0 .tile 2 .ro .any,
  obRow Ob.PINNED_LINES 0 .tile 2 .ro .any,
  obRow Ob.BANK_CAP 0 .tile 2 .ro .any,
  obRow Ob.BANK_CHARGE_MAX 0 .tile 2 .ro .any,
  obRow Ob.WRITE_GATE_STATUS 0 .tile 4 .ro .any,
  obRow Ob.RES_ECC_STATUS 0 .tile 4 .w1c .any,
  obRow Ob.RES_ECC_CORR_COUNT 0 .tile 2 .ro .any,
  obRow Ob.RES_ECC_POISON_COUNT 0 .tile 2 .ro .any,
  obRow Ob.FLUSH_LAST_RESULT 0 .one 4 .ro .any,
  obRow Ob.FLUSH_LAST_TIME_US 0 .one 4 .ro .any,
  obRow Ob.GPF_PHASE2_MS 0 .one 1 .ro .any,
  obRow Ob.SHADOW_LOST_LINES 0 .one 4 .ro .any]
/-- Rows of chapter 06. -/
def rows06 : List ObRow := [
  obRow Ob.ORDER_STATUS 0 .tile 4 .w1c .any,
  obRow Ob.ATOMIC_MISALIGNED_COUNT 0 .tile 2 .ro .any,
  obRow Ob.BARRIER_ERROR_COUNT 0 .tile 2 .ro .any]
/-- Rows of chapter 07. -/
def rows07 : List ObRow := [
  obRow Ob.WEAR_MIGRATE_PCT 0 .one 2 .rws (.between 105 200),
  obRow Ob.MIGRATE_MAX 0 .one 1 .rws (.between 1 4),
  obRow Ob.PIN_QUOTA 0 .one 2 .ro .any,
  obRow Ob.MIGRATE_REQUEST 0 .one 4 .cmd .any,
  obRow Ob.QUARANTINE_ACK 0 .one 4 .cmd .any,
  obRow Ob.MAP_QUERY 0 .one 4 .cmd .any,
  obRow Ob.MAP_QUERY_RESULT 0 .one 8 .ro .any,
  obRow Ob.SEGS_BOUND 0 .tile 4 .ro .any,
  obRow Ob.SEGS_FRESH 0 .tile 4 .ro .any,
  obRow Ob.SEGS_FREE 0 .tile 4 .ro .any,
  obRow Ob.SEGS_BLANKED 0 .tile 4 .ro .any,
  obRow Ob.USABLE_SPARES 0 .tile 4 .ro .any,
  obRow Ob.SEGS_RETIRED 0 .tile 4 .ro .any,
  obRow Ob.SEGS_QUARANTINED 0 .tile 2 .ro .any,
  obRow Ob.MIGRATIONS_ACTIVE 0 .tile 1 .ro .any,
  obRow Ob.MOVES_MEAN 0 .tile 8 .ro .any,
  obRow Ob.MOVES_MAX 0 .tile 8 .ro .any,
  obRow Ob.WEAR_THRESHOLD 0 .tile 8 .ro .any,
  obRow Ob.LIFE_USED_PCT 0 .tile 1 .ro .any,
  obRow Ob.XLATE_STATUS 0 .tile 4 .w1c .any,
  obRow Ob.XLATE_OCC 5 .tile 2 .ro .any,
  obRow Ob.EVAC_PROGRESS 0 .tile 4 .ro .any,
  obRow Ob.EVAC_BANK 0 .tile 2 .ro .any,
  obRow Ob.QUARANTINE_LIST 0 .tile 128 .ro .any,
  obRow Ob.MIGRATION_TABLE 0 .tile 64 .ro .any]
/-- Rows of chapter 08. -/
def rows08 : List ObRow := [
  obRow Ob.REFRESH_WEAK_CELLS 0 .one 1 .rws (.between 2 32),
  obRow Ob.PATROL_INTERVAL 0 .one 1 .rws (.between 6 96),
  obRow Ob.MARGIN_STEPS 0 .one 1 .rws (.between 2 15),
  obRow Ob.WEAK_SEG_LINES 0 .one 2 .rws (.between 16 4096),
  obRow Ob.WEAK_SEG_ERASED 0 .one 1 .rws (.between 1 64),
  obRow Ob.DRIFT_CLOCK 0 .tile 4 .ro .any,
  obRow Ob.DRIFT_RATE 0 .tile 2 .ro .any,
  obRow Ob.PATROL_OLDEST_AGE 0 .tile 4 .ro .any,
  obRow Ob.PATROL_ROUND_DONE 0 .tile 4 .ro .any,
  obRow Ob.REFRESH_QUEUED 0 .tile 2 .ro .any,
  obRow Ob.ABSENCE_ESTIMATE 0 .tile 4 .ro .any,
  obRow Ob.ACCEL_REMAINING 0 .tile 4 .ro .any,
  obRow Ob.PATROL_STATUS 0 .tile 4 .w1c .any,
  obRow Ob.PATROL_OCC 3 .tile 2 .ro .any,
  obRow Ob.DRIFT_TABLE 15 .tile 96 .ro .any,
  obRow Ob.SCRUB_DPA 0 .one 8 .rw (.multiple 64),
  obRow Ob.SCRUB_LENGTH 0 .one 8 .rw (.multiple 64),
  obRow Ob.SCRUB_START 0 .one 4 .cmd (.between 1 1),
  obRow Ob.SCRUB_ABORT 0 .one 4 .cmd (.between 1 1),
  obRow Ob.SCRUB_RATE_MBS 0 .one 2 .rws (.between 10 8000),
  obRow Ob.SCRUB_SUMMARY 0 .one 64 .ro .any]
/-- Rows of chapter 09. -/
def rows09 : List ObRow := [
  obRow Ob.FENCE_STATUS 0 .one 4 .ro .any,
  obRow Ob.FENCE_COUNT 0 .one 2 .ro .any,
  obRow Ob.AUTO_REJOIN 0 .one 1 .rws (.between 0 1),
  obRow Ob.AUTO_REJOIN_MAX 0 .one 1 .rws (.between 0 15),
  obRow Ob.TILE_FENCE 0 .one 4 .cmd (.between 0 7),
  obRow Ob.TILE_REJOIN 0 .one 4 .cmd (.between 0 7),
  obRow Ob.FENCE_CAUSE 0 .tile 1 .ro .any,
  obRow Ob.FENCE_TIME 0 .tile 8 .ro .any,
  obRow Ob.ISOLATION_FLUSH 0 .tile 1 .ro .any,
  obRow Ob.PLAIN_LINES_LOST 0 .tile 4 .ro .any,
  obRow Ob.RESYNC_SEGS_TOTAL 0 .tile 4 .ro .any,
  obRow Ob.RESYNC_SEGS_DONE 0 .tile 4 .ro .any,
  obRow Ob.STANDIN_TILE 0 .tile 1 .ro .any,
  obRow Ob.MIRROR_TILE_NOW 0 .tile 1 .ro .any,
  obRow Ob.FENCE_FIRST_CAUSE 0 .tile 1 .ro .any,
  obRow Ob.VIOLATION_STATUS 0 .one 4 .w1c .any,
  obRow Ob.VIOLATION_OCC 5 .one 2 .ro .any,
  obRow Ob.LAST_VIOLATION 0 .one 16 .ro .any,
  obRow Ob.SPAN_PARITY_BASE 7 .part 4 .ro .any]
/-- Rows of chapter 10. -/
def rows10 : List ObRow := [
  obRow Ob.KEY_SLOTS 0 .one 2 .ro .any,
  obRow Ob.KEYS_LOADED 0 .one 2 .ro .any,
  obRow Ob.KEY_PURGING 0 .one 2 .ro .any,
  obRow Ob.MAINT_KX 0 .one 2 .rws (.between 0 4095),
  obRow Ob.KEY_LOAD 0 .one 72 .wo .any,
  obRow Ob.KEY_ERASE 0 .one 4 .cmd (.between 1 4095),
  obRow Ob.KEY_QUERY 0 .one 4 .cmd (.between 0 4095),
  obRow Ob.KEY_INFO 0 .one 4 .ro .any,
  obRow Ob.RIGHTS_MAP 0 .cls 1024 .rws .any,
  obRow Ob.SEAL_KX 0 .part 2 .rws (.between 0 4095),
  obRow Ob.SEAL_STATUS 0 .part 4 .w1c .any,
  obRow Ob.SEAL_ROOT_ADOPT 0 .part 4 .cmd (.between 0 7),
  obRow Ob.SEAL_OCC 2 .part 2 .ro .any,
  obRow Ob.ROOT_LOST_MAP 0 .tile 8 .ro .any,
  obRow Ob.OVERFLOWS_ACTIVE 0 .tile 1 .ro .any,
  obRow Ob.DEBUG_UNLOCK 0 .one 1024 .wo .any,
  obRow Ob.DEBUG_LOCK 0 .one 4 .cmd (.between 1 1),
  obRow Ob.DEBUG_STATE 0 .one 1 .ro .any]
/-- Rows of chapter 11. -/
def rows11 : List ObRow := [
  obRow Ob.SCRIBE_QUEUES 0 .one 2 .ro .any,
  obRow Ob.SCRIBE_OPSETS 0 .one 4 .ro .any,
  obRow Ob.SCRIBE_STATUS 0 .tile 4 .w1c .any,
  obRow Ob.SCRIBE_OCC 4 .tile 2 .ro .any,
  obRow Ob.SCRIBE_ACTIVE 0 .tile 1 .ro .any,
  obRow Ob.SQ_ENABLE 0 .queue 1 .rws (.between 0 1),
  obRow Ob.SQ_OWNER 0 .queue 1 .rws (.between 0 63),
  obRow Ob.SQ_KX 0 .queue 2 .rws (.between 0 4095),
  obRow Ob.SQ_WINDOW 0 .queue 1 .rws (.between 0 127),
  obRow Ob.SQ_CQ_BASE 0 .queue 8 .rws (.multiple 64),
  obRow Ob.SQ_CQ_SIZE 0 .queue 4 .rws .ringSize,
  obRow Ob.SQ_MSIX 0 .queue 2 .rws (.orValue 0 2047 0xFFFF),
  obRow Ob.SQ_STATE 0 .queue 1 .ro .any,
  obRow Ob.SQ_RESTART 0 .queue 4 .cmd (.between 1 1),
  obRow Ob.SQ_DESCS_DONE 0 .queue 4 .ro .any]
/-- Rows of chapter 12. -/
def rows12 : List ObRow := [
  obRow Ob.POWER_CAP_W 0 .one 2 .rws .powerCap,
  obRow Ob.PEAK_STROKES 0 .one 2 .rws .peakStrokes,
  obRow Ob.THERMAL_LIMIT_C 0 .one 1 .rws (.between 100 147),
  obRow Ob.DEVLOAD_T1_NS 0 .one 2 .rws (.between 8 4096),
  obRow Ob.DEVLOAD_T2_NS 0 .one 2 .rws (.between 16 65535),
  obRow Ob.POWER_NOW_W 0 .one 2 .ro .any,
  obRow Ob.POWER_EFF_W 0 .one 2 .ro .any,
  obRow Ob.BUDGET_STATUS 0 .one 4 .w1c .any,
  obRow Ob.BUDGET_OCC 4 .one 2 .ro .any,
  obRow Ob.GUAR_WR_MBS 0 .one 4 .ro .any,
  obRow Ob.GUAR_RD_MBS 0 .one 4 .ro .any,
  obRow Ob.GRANT_LAST 0 .tile 2 .ro .any,
  obRow Ob.STROKES_IN_FLIGHT 0 .tile 2 .ro .any,
  obRow Ob.TILE_GUAR_WR_MBS 0 .tile 4 .ro .any,
  obRow Ob.TILE_GUAR_RD_MBS 0 .tile 4 .ro .any,
  obRow Ob.CLASS_PRIORITY 0 .cls 1 .rws (.between 0 1),
  obRow Ob.CLASS_URGENCY 0 .cls 1 .rws .urgency,
  obRow Ob.CLASS_RD_RATE 0 .cls 4 .rws (.between 0 96000),
  obRow Ob.CLASS_RD_RESERVE 0 .cls 4 .rws (.between 0 96000),
  obRow Ob.CLASS_WR_RATE 0 .cls 4 .rws (.between 0 96000),
  obRow Ob.CLASS_WR_RESERVE 0 .cls 4 .rws (.between 0 96000),
  obRow Ob.CLASS_BURST 0 .cls 2 .rws (.between 1 1024),
  obRow Ob.CLASS_TILES 0 .cls 4 .rws .any,
  obRow Ob.CLASS_SCRIBE_PCT 0 .cls 1 .rws .scribePct,
  obRow Ob.CLASS_RD_EFF_PCT 0 .cls 1 .ro .any,
  obRow Ob.CLASS_WR_EFF_PCT 0 .cls 1 .ro .any,
  obRow Ob.CLASS_BYTES_RD 0 .cls 8 .ro .any,
  obRow Ob.CLASS_BYTES_WR 0 .cls 8 .ro .any,
  obRow Ob.CLASS_HELD_HIST 0 .cls 64 .ro .any,
  obRow Ob.CLASS_HELD_SEQ 0 .cls 4 .ro .any,
  obRow Ob.CLASS_HELD_CLEAR 0 .cls 4 .cmd (.between 1 1),
  obRow Ob.CLASS_HELD_MAX 0 .cls 4 .ro .any,
  obRow Ob.CLASS_DEVLOAD_COUNTS 0 .cls 16 .ro .any,
  obRow Ob.CLASS_HOLD_DEPTH 0 .cls 1 .ro .any]
/-- Rows of chapter 13. -/
def rows13 : List ObRow := [
  obRow Ob.PORTS_IN_USE 0 .one 1 .ro .any,
  obRow Ob.SHUTDOWN_STATE 0 .one 1 .rws (.between 0 1),
  obRow Ob.DIRTY_SHUTDOWN_COUNT 0 .one 4 .ro .any,
  obRow Ob.HOST_TIME_OFFSET 0 .one 8 .rw .any,
  obRow Ob.CDAT_SEQ 0 .one 4 .ro .any,
  obRow Ob.DC_GENERATION 0 .one 4 .ro .any,
  obRow Ob.PORT_LINK_STATUS 0 .port 4 .ro .any,
  obRow Ob.PORT_LD_MODE 0 .port 1 .rws (.between 0 2),
  obRow Ob.PORT_LD_COUNT 0 .port 1 .rws .ldCount,
  obRow Ob.PORT_MAX_RATE 0 .port 1 .rws (.between 1 5),
  obRow Ob.PORT_PBR_ID 0 .port 2 .ro .any,
  obRow Ob.PORT_IDE_MODE 0 .port 1 .ro .any,
  obRow Ob.PORT_ERR_STATUS 0 .port 4 .w1c .any,
  obRow Ob.PORT_ERR_OCC 3 .port 2 .ro .any,
  obRow Ob.LD_ALLOC_BASE 0 .ld 8 .rws (.multiple 1073741824),
  obRow Ob.LD_ALLOC_SIZE 0 .ld 8 .rws (.multiple 1073741824),
  obRow Ob.LD_SPID 0 .ld 2 .rws (.orValue 0 4095 0xFFFF),
  obRow Ob.LD_MGMT 0 .ld 1 .rws (.between 0 1),
  obRow Ob.LD_CLEAR_KX 0 .ld 2 .rws (.between 0 4095),
  obRow Ob.LD_DC_EXTENTS 0 .ld 2 .ro .any,
  obRow Ob.DCR_CFG 7 .ld 4 .rws .dcrField]
/-- Rows of chapter 14. -/
def rows14 : List ObRow := [
  obRow Ob.SEQ_RETRIES 0 .one 1 .rws (.between 0 7),
  obRow Ob.SEQ_STEP 0 .one 1 .ro .any,
  obRow Ob.SEQ_ATTEMPTS_LAST 0 .one 1 .ro .any,
  obRow Ob.SEQ_FAIL_STEP 0 .one 1 .ro .any,
  obRow Ob.SEQ_FAIL_POINT 0 .one 1 .ro .any,
  obRow Ob.POWERUP_TIME_US 0 .one 4 .ro .any,
  obRow Ob.SUPPLY_STATUS 0 .one 4 .w1c .any,
  obRow Ob.SUPPLY_OCC 8 .one 2 .ro .any,
  obRow Ob.DRAIN_CAUSE 0 .one 4 .ro .any,
  obRow Ob.SENSE_VALUES 0 .one 0 .ro .any,
  obRow Ob.SCAN_TIME_NS 0 .one 4 .ro .any,
  obRow Ob.HOLDUP_CAP_UF 0 .one 4 .ro .any,
  obRow Ob.HOLDUP_ESR_MOHM 0 .one 2 .ro .any,
  obRow Ob.HOLDUP_EHOLD_MJ 0 .one 4 .ro .any,
  obRow Ob.HOLDUP_STATUS 0 .one 4 .ro .any,
  obRow Ob.VDDC_CMD_MV 0 .one 2 .ro .any,
  obRow Ob.VDDC_NEED_MV 0 .tile 2 .ro .any,
  obRow Ob.REPLICA_MARGIN 0 .tile 4 .ro .any,
  obRow Ob.VDDK_FLOOR_MV 0 .tile 2 .ro .any]
/-- Rows of chapter 15. -/
def rows15 : List ObRow := [
  obRow Ob.CAP_BASE 0 .one 8 .ro .any,
  obRow Ob.VENDOR_NAME 0 .one 0 .ro .any,
  obRow Ob.VENDOR_ID 0 .one 2 .ro .any,
  obRow Ob.SERIAL_NUMBER 0 .one 0 .ro .any,
  obRow Ob.STAEB_VERSION 0 .one 2 .ro .any,
  obRow Ob.FW_VERSION 0 .one 0 .ro .any,
  obRow Ob.COMMIT 0 .one 4 .cmd .any,
  obRow Ob.COMMIT_STATUS 0 .one 8 .ro .any,
  obRow Ob.CONFIG_GENERATION 0 .one 4 .ro .any,
  obRow Ob.STAGE_DISCARD 0 .one 4 .cmd (.between 1 1),
  obRow Ob.STAGED_COUNT 0 .one 2 .ro .any,
  obRow Ob.STAGED_SETS 0 .one 1 .ro .any,
  obRow Ob.DEVICE_STATE 0 .one 1 .ro .any,
  obRow Ob.HEALTH_STATE 0 .one 1 .ro .any,
  obRow Ob.DICT_STATUS 0 .one 4 .w1c .any,
  obRow Ob.DICT_LAST_ERROR 0 .one 16 .ro .any,
  obRow Ob.DICT_OCC 2 .one 2 .ro .any]
/-- Rows of chapter 16. -/
def rows16 : List ObRow := [
  obRow Ob.CNT_MODE_TILE 0 .one 256 .ro .any,
  obRow Ob.CNT_MODE_PKG 0 .one 128 .ro .any,
  obRow Ob.CNT_SNAPSHOT 0 .one 4 .cmd (.orValue 0 7 0xFF),
  obRow Ob.CNT_SNAPSHOT_TIME 0 .one 8 .ro .any,
  obRow Ob.CNT_SNAPSHOT_SEQ 0 .one 4 .ro .any,
  obRow Ob.CNT_PRESENT_TILE 0 .one 128 .ro .any,
  obRow Ob.CNT_PRESENT_PKG 0 .one 64 .ro .any,
  obRow Ob.CNT_START_TIME 0 .tile 8 .ro .any,
  obRow Ob.CNT_WINDOW_GRANT 0 .ld 4 .rws .any]
/-- Rows of chapter 17. -/
def rows17 : List ObRow := [
  obRow Ob.REC_PUBLISH_MS 0 .one 2 .rws (.between 1 1000),
  obRow Ob.REC_RATE_DEFAULT 0 .one 2 .rws (.between 1 1024),
  obRow Ob.REC_CLEAR 0 .one 4 .cmd (.orTwo 0 7 0x10 0xFF),
  obRow Ob.REC_SAVE_INTERVAL_S 0 .one 2 .ro .any,
  obRow Ob.REC_SEQ 0 .tile 4 .ro .any,
  obRow Ob.REC_HEAD 0 .tile 4 .ro .any,
  obRow Ob.REC_ENTRIES 0 .tile 2 .ro .any,
  obRow Ob.REC_NEXT 0 .tile 4 .cmd .any,
  obRow Ob.REC_RELEASE 0 .tile 4 .cmd .any,
  obRow Ob.REC_STATUS 0 .tile 4 .w1c .any,
  obRow Ob.REC_OCC 3 .tile 2 .ro .any,
  obRow Ob.REC_LAST_SAVE 0 .tile 8 .ro .any,
  obRow Ob.REC_PKG_SEQ 0 .one 4 .ro .any,
  obRow Ob.REC_PKG_HEAD 0 .one 4 .ro .any,
  obRow Ob.REC_PKG_ENTRIES 0 .one 2 .ro .any,
  obRow Ob.REC_PKG_NEXT 0 .one 4 .cmd .any,
  obRow Ob.REC_PKG_RELEASE 0 .one 4 .cmd .any,
  obRow Ob.PSTORE_RECOVERY 0 .tile 4 .ro .any,
  obRow Ob.PSTORE_TORN_RINGS 0 .tile 8 .ro .any]
/-- Rows of chapter 18. -/
def rows18 : List ObRow := [
  obRow Ob.FW_STATUS 0 .one 4 .ro .any,
  obRow Ob.FW_ACTIVATE 0 .one 4 .cmd (.between 1 2),
  obRow Ob.FW_SVN 0 .one 2 .ro .any,
  obRow Ob.FW_SVN_MIN 0 .one 2 .ro .any,
  obRow Ob.FW_SVN_COMMIT 0 .one 4 .cmd (.between 1 1),
  obRow Ob.FW_VERSION_OTHER 0 .one 0 .ro .any,
  obRow Ob.OWNER_STATE 0 .one 1 .ro .any,
  obRow Ob.OWNER_INSTALL 0 .one 1024 .wo .any,
  obRow Ob.DECOMMISSION 0 .one 4 .cmd (.between 1 1),
  obRow Ob.POWER_DOWN 0 .one 4 .cmd (.between 1 1),
  obRow Ob.POWER_UP 0 .one 4 .cmd (.between 1 1),
  obRow Ob.POWERUP_COUNT 0 .one 4 .ro .any,
  obRow Ob.LAST_BRINGUP_MS 0 .one 4 .ro .any,
  obRow Ob.HEALTH_CAUSE 0 .one 4 .ro .any,
  obRow Ob.ERASE_STATUS 0 .one 4 .ro .any]
/-- Rows of chapter 19. -/
def rows19 : List ObRow := [
  obRow Ob.ALERT_STATUS 0 .one 4 .w1c .any,
  obRow Ob.ALERT_MASK 0 .one 4 .rws .any,
  obRow Ob.ALERT_OCC 4 .one 2 .ro .any,
  obRow Ob.TEMP_MAX_C 0 .one 4 .ro .any,
  obRow Ob.TEMP_MAX_LIFE_C 0 .one 4 .ro .any,
  obRow Ob.PART_BALLS 0 .one 2 .ro .any]
/-- The entries of the capability list after the first (R441). -/
def rowsCap : List ObRow := below 7 (fun k => decide (0 < k)) |>.map (fun k => obRow ((0x1000 + k) * 256) 0 .one 8 .ro .any)
/-- Every row with a fixed number of subindices. -/
def obRows : List ObRow :=
  rows01 ++ rows02 ++ rows03 ++ rows04 ++ rows05 ++ rows06 ++ rows07 ++ rows08 ++ rows09 ++ rows10 ++ rows11 ++ rows12 ++
  rows13 ++ rows14 ++ rows15 ++ rows16 ++ rows17 ++ rows18 ++ rows19 ++ rowsCap

/-- Indices an instanced object takes (R419). -/
def ObInst.span : ObInst → Nat
  | .one => 1
  | .tile => 8
  | .cls => 66
  | .part => 64
  | .queue => 512
  | .ld => 128
  | .port => 8
/-- Whether the part and its port mode can carry an instance (R356, R388, R419, R454). A class object has no instance for
the debug class, but for its rights. -/
def State.instHere (s : State) (row : ObRow) (i : Nat) : Bool :=
  match row.inst with
  | .one | .part => true
  | .tile => decide (i < s.n)
  | .cls => decide (i ≠ debugClass) || decide (row.key = Ob.RIGHTS_MAP)
  | .queue => decide (i / 64 < s.n)
  | .ld => s.portUsed (i / 16) && decide (i % 16 < (if s.pairX8 (i / 32) then 8 else 16))
  | .port => s.portUsed i

/-- A place in the dictionary: its row, the instance, the subindex within the row. -/
structure ObPlace where
  row : ObRow
  i : Nat
  off : Nat
  deriving DecidableEq, Repr
/-- Base key of a place: the row's address and the subindex. -/
def ObPlace.key (p : ObPlace) : Nat := p.row.key + p.off
/-- Key of the cell of a place. -/
def ObPlace.cell (p : ObPlace) : Nat := Ob.inst p.key p.i

/-- Where an address lies in a row. -/
def ObRow.place (row : ObRow) (index sub : Nat) : Option ObPlace :=
  let base := row.key / 256
  let first := row.key % 256
  if base ≤ index ∧ index < base + row.inst.span ∧ first ≤ sub ∧ sub ≤ first + row.more then
    some { row := row, i := index - base, off := sub - first }
  else none

/-- Whether an event code is assigned on the part (R41, R455, R474). -/
def State.codeHere (s : State) (code : Nat) : Bool :=
  eventNumbers.contains (eventNumber code) && (decide (0x600 ≤ code) || decide (code / 0xC0 < s.n))
/-- The row of the objects that lie at an address for each counter or event code (R449, R450, R474). -/
def State.spread (s : State) (index sub : Nat) : Option ObPlace :=
  let c := index % 256 * 256 + sub
  if index / 256 = 0x92 ∧ c < 0x2200 then some { row := obRow Ob.CNT_LIVE 0 .one 8 .ro .any, i := 0, off := c }
  else if index / 256 = 0x93 ∧ c < 0x2200 then some { row := obRow Ob.CNT_SNAP 0 .one 8 .ro .any, i := 0, off := c }
  else if index / 256 = 0xA1 ∧ s.codeHere c then some { row := obRow Ob.REC_SUMMARY 0 .one 128 .ro .any, i := 0, off := c }
  else if index / 256 = 0xA2 ∧ s.codeHere c then
    some { row := obRow Ob.REC_RATE 0 .one 2 .rws (.between 0 1024), i := 0, off := c }
  else none

/-- The object at an address, if the part and its mode have one there (R417 to R419); `PART_SEG_BASE`
has no subindex for an absent tile (R68). -/
def State.findOb (s : State) (index sub : Nat) : Option ObPlace :=
  match obRows.findSome? (fun row => row.place index sub) with
  | some p =>
    if s.instHere p.row p.i && (decide (p.row.key ≠ Ob.PART_SEG_BASE) || decide (p.off < s.n)) then some p else none
  | none => s.spread index sub

/-- The access code of a place: the rights of the debug class are read-only (R311). -/
def ObPlace.access (p : ObPlace) : ObAccess := if p.key = Ob.RIGHTS_MAP ∧ p.i = debugClass then .ro else p.row.acc

/-- Fields that a write of an object with a field map changes; a reserved field ignores the write (R10). -/
def State.writeMask (s : State) (p : ObPlace) (v : Nat) : Nat :=
  if p.row.key = Ob.PAIR_PORT_MODE then v % 2 ^ (s.n / 2)
  else if p.row.key = Ob.PART_TILE_SET ∨ p.row.key = Ob.CLASS_TILES then v % 256
  else if p.row.key = Ob.HDM_KX_CFG then v % 2 ^ 24 - bitsOf v 6 2 * 64
  else if p.row.key = Ob.DCR_CFG then v - bitsOf v 28 1 * 2 ^ 28
  else if p.row.key = Ob.CNT_WINDOW_GRANT then v % 512
  else if p.row.key = Ob.ALERT_MASK then v % 32
  else v

/-- `HDM_KX_CFG`: a width of at most 12, the low bits of the base zero, a position of 28 to 51 (02). -/
def kxFieldLegal (v : Nat) : Bool :=
  let w := bitsOf v 8 4
  decide (w ≤ 12) && decide (bitsOf v 12 12 % 2 ^ w = 0) && (decide (w = 0) || decide (28 ≤ bitsOf v 0 6 ∧ bitsOf v 0 6 ≤ 51))
/-- Whether a value lies in the object's own range (R433). -/
def State.inRange (s : State) (p : ObPlace) (v : Nat) : Bool :=
  match p.row.range with
  | .any => true
  | .between lo hi => decide (lo ≤ v ∧ v ≤ hi)
  | .orValue lo hi x => decide (lo ≤ v ∧ v ≤ hi) || decide (v = x)
  | .orTwo lo hi x y => decide (lo ≤ v ∧ v ≤ hi) || decide (v = x) || decide (v = y)
  | .multiple m => decide (v % m = 0)
  | .powerCap => decide (s.part.power.1 ≤ v ∧ v ≤ s.part.power.2.1)
  | .peakStrokes => decide (256 ≤ v ∧ v ≤ 512 * s.n)
  | .ldCount => decide (1 ≤ v ∧ v ≤ (if s.pairX8 (p.i / 2) then 8 else 16))
  | .ringSize => (List.range 17).any (fun k => decide (2 ≤ k ∧ v = 2 ^ k))
  | .kxField => kxFieldLegal v
  | .dcrField => !v.testBit 31 || decide (bitsOf v 0 14 ≠ 0)
  | .scribePct => if p.i = maintClass then decide (v = 0) else decide (v ≤ 100)
  | .urgency => if p.i = maintClass then decide (v = 0) else decide (v ≤ 1)

/-- The status objects that software clears: their first W1C bit, how many follow one another, and the key of the first
occurrence counter (R437, R438). -/
def w1cRows : List (Nat × Nat × Nat × Nat) := [
  (Ob.FLIP_STATUS, 1, 2, Ob.FLIP_APPLIED_COUNT), (Ob.READ_STATUS, 0, 1, Ob.READ_STATUS_OCC),
  (Ob.RES_ECC_STATUS, 0, 2, Ob.RES_ECC_CORR_COUNT), (Ob.ORDER_STATUS, 0, 2, Ob.ATOMIC_MISALIGNED_COUNT),
  (Ob.XLATE_STATUS, 0, 6, Ob.XLATE_OCC), (Ob.PATROL_STATUS, 0, 4, Ob.PATROL_OCC),
  (Ob.VIOLATION_STATUS, 0, 6, Ob.VIOLATION_OCC), (Ob.SEAL_STATUS, 0, 3, Ob.SEAL_OCC),
  (Ob.SCRIBE_STATUS, 0, 5, Ob.SCRIBE_OCC), (Ob.BUDGET_STATUS, 0, 5, Ob.BUDGET_OCC),
  (Ob.PORT_ERR_STATUS, 0, 4, Ob.PORT_ERR_OCC), (Ob.SUPPLY_STATUS, 0, 9, Ob.SUPPLY_OCC),
  (Ob.DICT_STATUS, 0, 3, Ob.DICT_OCC), (Ob.REC_STATUS, 0, 4, Ob.REC_OCC), (Ob.ALERT_STATUS, 0, 5, Ob.ALERT_OCC)]

end Sys2Proof.Machine
end

