-- ==== Sys2Proof/Machine/Scribe.lean ====
section
/-! DEFINITION. The Scribe engine (11): windows (R314 to R318), descriptors (R321 to R324), execution (R325, R326, R330), barriers
(R170, R171), completion records (R327 to R329). -/
namespace Sys2Proof.Machine
open Sys2Proof

/-! ### Descriptor fields -/

/-- Word `i` of a descriptor. -/
def Desc.w (d : Desc) (i : Nat) : Nat := d.words.getD i 0
/-- OPCODE. -/
def wordOp (w : Nat) : Nat := bitsOf w 56 8
/-- TAG. -/
def wordTag (w : Nat) : Nat := bitsOf w 32 16
/-- LENGTH. -/
def wordLen (w : Nat) : Nat := bitsOf w 0 32
/-- OPCODE of a descriptor. -/
def Desc.op (d : Desc) : Nat := wordOp (d.w 0)
/-- TAG of a descriptor. -/
def Desc.tag (d : Desc) : Nat := wordTag (d.w 0)
/-- Whether a descriptor is a barrier. -/
def Desc.barrier (d : Desc) : Bool := decide (d.op = 0x10 ∨ d.op = 0x11 ∨ d.op = 0x12)

/-- A line count: a multiple of 64 from 64 to 1 GiB (R321). -/
def lineLength (n : Nat) : Bool := decide (n % 64 = 0 ∧ 64 ≤ n ∧ n ≤ 0x40000000)
/-- Whether opcode and LENGTH of word 0 follow the operation table (R319, R321). [DESIGN CHOICE, assumption 14] -/
def headValid (w0 : Nat) : Bool :=
  let n := wordLen w0
  match wordOp w0 with
  | 1 | 2 | 3 | 4 | 5 | 8 => lineLength n
  | 6 | 7 | 0x20 => decide (n = 8)
  | 0x10 | 0x11 | 0x12 => decide (n = 0)
  | _ => false
/-- Whether a number is a power of two from 64 to 2^32. -/
def ringSize (n : Nat) : Bool := (List.range 33).any (fun k => decide (6 ≤ k ∧ n = 2 ^ k))
/-- Whether the words of a descriptor with a valid head are well formed (R321). [DESIGN CHOICE, assumption 14] -/
def bodyValid (ws : List Nat) : Bool :=
  let w (i : Nat) : Nat := ws.getD i 0
  let n := wordLen (w 0)
  match wordOp (w 0) with
  | 1 => decide (w 1 % 64 = 0 ∧ w 2 % 64 = 0 ∧ (w 1 + n ≤ w 2 ∨ w 2 + n ≤ w 1))
  | 2 | 3 | 4 => decide (w 1 % 64 = 0)
  | 5 => decide (w 1 % 64 = 0 ∧ w 2 % 64 = 0)
  | 8 => ringSize (w 3) && decide (n ≤ w 3 ∧ w 2 % w 3 = 0 ∧ w 1 % 64 = 0 ∧ w 5 % 8 = 0)
  | 0x20 => decide (w 1 % 8 = 0)
  | _ => true
/-- The DPA whose alignment an atomic needs (R176, R321). -/
def atomicOperand (ws : List Nat) : Option Nat :=
  match wordOp (ws.getD 0 0) with
  | 6 | 7 => some (ws.getD 1 0)
  | 8 => some (ws.getD 4 0)
  | _ => none

/-! ### Queues and windows -/

/-- Words in a queue. -/
def Queue.words (q : Queue) : Nat := sumList (q.groups.map (fun g => g.words.length)) + q.frame.length
/-- `SQ_KX` of a queue. -/
def State.queueKx (s : State) (t q : Nat) : Nat := s.cell (queueKey Ob.SQ_KX t q) 0
/-- `SQ_CQ_SIZE` of a queue. -/
def State.ringRecords (s : State) (t q : Nat) : Nat := s.cell (queueKey Ob.SQ_CQ_SIZE t q) 256
/-- Records written and not consumed. -/
def Queue.unread (q : Queue) : Nat := (q.tail + 2 ^ 32 - q.head) % 2 ^ 32
/-- State of a queue: 0 OFF, 1 RUN, 2 HOLD, 3 STOPPED (R314). -/
def State.queueState (s : State) (t q : Nat) : Nat :=
  let x := s.queue t q
  if x.st = 1 ∧ (s.keyHeld (s.queueKx t q) ∨ s.ringRecords t q ≤ x.unread) then 2 else x.st
/-- The enabled queue behind a window slot of a logical device (R314). -/
def State.windowQueue (s : State) (p l w : Nat) : Option (Nat × Nat) :=
  if (s.port p).up then
    (s.queues.find? (fun x =>
      let t := x.1 / 64
      let q := x.1 % 64
      decide (x.2.st ≠ 0 ∧ s.queueOwner t q = classOf p l ∧ s.cell (queueKey Ob.SQ_WINDOW t q) 0 = w) && s.tileActive t)).map
        (fun x => (x.1 / 64, x.1 % 64))
  else none
/-- Changes the queue behind a window. -/
def State.atWindow (s : State) (p l w : Nat) (f : State → Nat → Nat → State) : State :=
  match s.windowQueue p l w with
  | none => s
  | some (t, q) => if s.inService then f s t q else s
/-- Raises bit `b` of `SCRIBE_STATUS` (R331). -/
def State.scribeBit (s : State) (t b : Nat) : State :=
  s.raise (Ob.inst Ob.SCRIBE_STATUS t) b (Ob.inst Ob.SCRIBE_OCC t + b)

/-- A word reaches a queue (R315, R316). -/
def State.descIn (s : State) (aligned : Bool) (word : Nat) (t q : Nat) : State :=
  let x := s.queue t q
  let ignored (s : State) : State := s.tcount t Cn.SQ_WORDS_IGNORED 1
  if !aligned then ignored (s.modQueue t q (fun x => { x with sizeErr := true }))
  else if x.overrun then ignored (s.modQueue t q (fun x => { x with overrunCount := satAdd 0xFFFF x.overrunCount 1 }))
  else if 256 ≤ x.words then
    let s1 := s.modQueue t q (fun x => { x with overrun := true, overrunCount := satAdd 0xFFFF x.overrunCount 1 })
    ignored ((s1.scribeBit t 0).tev t Ev.SQ_OVERRUN (s.queueOwner t q) q [(1, s.queueOwner t q)])
  else
    s.modQueue t q (fun x =>
      let f := x.frame ++ [word % 2 ^ 64]
      if f.length < 8 then { x with frame := f }
      else { x with frame := [], groups := x.groups ++ [{ words := f, torn := false }], received := (x.received + 1) % 2 ^ 32 })

/-- DESC_IN (R315, R316): the owner writes a descriptor word to the window of one of its queues. -/
def execDescIn (port ld window word : Nat) (aligned : Bool) (s : State) : Host.Outcome State Fault Refusal :=
  .next (s.atWindow port ld window (fun s t q => s.descIn aligned word t q))

/-- Q_FLUSH (R318). -/
def execQFlush (port ld window : Nat) (s : State) : Host.Outcome State Fault Refusal :=
  .next (s.atWindow port ld window (fun s t q => (s.modQueue t q Queue.flush).tcount t Cn.SQ_FLUSHES 1))

/-- Ends an overrun: the words of an incomplete descriptor become a torn one (R317). -/
def Queue.resync (x : Queue) : Queue :=
  { x with overrun := false, sizeErr := false, frame := [],
           groups := if x.frame.isEmpty then x.groups else x.groups ++ [{ words := x.frame, torn := true }] }
/-- Q_RESYNC (R317). -/
def execQResync (port ld window : Nat) (s : State) : Host.Outcome State Fault Refusal :=
  .next (s.atWindow port ld window (fun s t q => (s.modQueue t q Queue.resync).tcount t Cn.SQ_FLUSHES 1))

/-- Moves a completion ring's head to `head` (R327). -/
def State.moveHead (head : Nat) (s : State) (t q : Nat) : State :=
  if ((s.queue t q).tail + 2 ^ 32 - head % 2 ^ 32) % 2 ^ 32 ≤ s.ringRecords t q then
    s.modQueue t q (fun x => { x with head := head % 2 ^ 32 })
  else s
/-- CQ_HEAD_WRITE (R327): the owner advances the head; a value that the ring cannot have is ignored. -/
def execCqHeadWrite (port ld window head : Nat) (s : State) : Host.Outcome State Fault Refusal :=
  .next (s.atWindow port ld window (State.moveHead head))

/-- `Q_STATUS` of a queue (R314). [DESIGN CHOICE, assumption 4] -/
def State.qStatus (s : State) (t q : Nat) : Nat :=
  let x := s.queue t q
  packFields [(9, x.words), (3, x.frame.length), (4, 0), (1, bitNat (decide (256 ≤ x.words))), (1, bitNat x.overrun),
    (1, bitNat x.sizeErr), (5, 0), (3, s.queueState t q), (5, 0), (16, x.overrunCount), (16, x.corrCount)]
/-- What a read of the window of queue `q` of tile `t` returns at an offset (R314). The table has no row for such a read, which changes
nothing (assumption 4). -/
def State.windowRead (s : State) (t q offset : Nat) : Nat :=
  let x := s.queue t q
  if x.st = 0 then 0
  else if offset = 0x008 then s.qStatus t q
  else if offset = 0x018 then x.head
  else if offset = 0x020 then x.tail
  else if offset = 0x028 then x.taken * 2 ^ 32 + x.received
  else 0

/-! ### Line accesses -/

/-- A line access of a descriptor. -/
structure LineOp where
  step : Nat
  write : Bool
  dpa : Nat
  mask : ByteMask
  data : Line
  atom : Nat
  cmp : Nat
  zero : Bool

/-- A read of a line. -/
def LineOp.read (step dpa : Nat) : LineOp :=
  { step := step, write := false, dpa := dpa, mask := fullMask, data := 0, atom := 0, cmp := 0, zero := false }
/-- A write of a whole line. -/
def LineOp.full (step dpa : Nat) (d : Line) : LineOp :=
  { step := step, write := true, dpa := dpa, mask := fullMask, data := d, atom := 0, cmp := 0, zero := false }
/-- The mask of `n` bytes at an offset. -/
def bytesMask (off n : Nat) : ByteMask := BitVec.ofNat 64 ((2 ^ n - 1) * 2 ^ off)
/-- A write of `n` bytes at a DPA. -/
def LineOp.field (step dpa n v : Nat) : LineOp :=
  { step := step, write := true, dpa := dpa - dpa % 64, mask := bytesMask (dpa % 64) n,
    data := BitVec.ofNat 512 (v % 256 ^ n * 256 ^ (dpa % 64)), atom := 0, cmp := 0, zero := false }
/-- An atomic on 8 bytes at a DPA: 1 CAS64, 2 FADD64 (R177). -/
def LineOp.atomic (step dpa kind arg cmp : Nat) : LineOp :=
  { LineOp.field step dpa 8 arg with atom := kind, cmp := cmp % 2 ^ 64 }

/-- Changes the descriptor of a number. -/
def Queue.setDesc (x : Queue) (i : Nat) (f : Desc → Desc) : Queue :=
  { x with descs := x.descs.map (fun d => if d.index = i then f d else d) }
/-- The descriptor of a number. -/
def Queue.desc (x : Queue) (i : Nat) : Option Desc := x.descs.find? (fun d => decide (d.index = i))

/-- Issues a line access of descriptor `i` of a queue under the owner's class and `SQ_KX` (R312, R326): a violation, an
admission, or a wait in the engine. -/
def State.issue (s : State) (t q i : Nat) (a : LineOp) : State :=
  let owner := s.queueOwner t q
  let kx := s.queueKx t q
  let s1 := s.modQueue t q (fun x => x.setDesc i (fun d => { d with outstanding := d.outstanding + 1 }))
  let s2 := s1.tcount t (if a.write then Cn.SCRIBE_LINE_WRITES else Cn.SCRIBE_LINE_READS) 1
  let r : Req := { Req.none with
    iface := .scribe, port := t, cls := owner, feedCls := owner, src := 8 + t, kx := kx, dpa := a.dpa, write := a.write,
    mask := a.mask, data := a.data, atom := a.atom, cmp := a.cmp, decodedAt := s.now t, admittedAt := s.now t,
    queue := 64 * t + q, desc := i, step := a.step }
  match s.routeDpa kx a.dpa with
  | .violation cause dpa n => s2.refuse r cause dpa n
  | .line kx dpa part tile lla =>
    s2.offer { r with kx := kx, dpa := dpa, part := part, tile := tile, lla := lla,
                      zero := a.zero && !(s.partn part).isSealed } 0

/-! ### The steps of an operation -/

/-- Nothing more is issued for the descriptor: a line failed, or its outcome is known (R322, R330). -/
def Desc.stopped (d : Desc) : Bool := d.outcome.isSome || !d.fails.isEmpty
/-- A line is done; those done above it follow. -/
def Desc.markDone (d : Desc) (i : Nat) : Desc :=
  if i = d.progress then
    let p := (List.range (d.doneAbove.length + 1)).foldl (fun p _ => if d.doneAbove.contains p then p + 1 else p) (i + 1)
    { d with progress := p, doneAbove := d.doneAbove.filter (fun j => decide (p ≤ j)) }
  else { d with doneAbove := d.doneAbove ++ [i] }
/-- Pattern of eight bytes repeated over a line (R322). -/
def patternLine (v : Nat) : Line := BitVec.ofNat 512 ((List.range 8).foldl (fun a i => a + v % 2 ^ 64 * 2 ^ (64 * i)) 0)

/-- Reads of source line i come as step 2i, writes of line i as step 2i + 1. -/
def Desc.copyStep (d : Desc) (src dst : Nat) (wrap : Nat → Nat) : Option (LineOp × Desc) :=
  match d.ready with
  | a :: rest => some (LineOp.full (a.step + 1) (dst + wrap (a.step / 2)) a.data, { d with ready := rest })
  | [] =>
    if d.nextRead < d.total then
      some (LineOp.read (2 * d.nextRead) (src + 64 * d.nextRead), { d with nextRead := d.nextRead + 1 })
    else none

/-- The next line access of a descriptor, if one can be issued now, and the descriptor after it (R322 to R324). -/
def Desc.next (d : Desc) : Option (LineOp × Desc) :=
  if d.stopped ∨ d.ended then none
  else
    match d.op with
    | 1 => d.copyStep (d.w 1) (d.w 2) (fun i => 64 * i)
    | 2 =>
      if d.nextWrite < d.total then
        some (LineOp.full (2 * d.nextWrite + 1) (d.w 1 + 64 * d.nextWrite) (patternLine (d.w 2)), { d with nextWrite := d.nextWrite + 1 })
      else none
    | 3 =>
      if d.nextWrite < d.total then
        some ({ LineOp.full (2 * d.nextWrite + 1) (d.w 1 + 64 * d.nextWrite) 0 with zero := true }, { d with nextWrite := d.nextWrite + 1 })
      else none
    | 4 =>
      if d.nextRead < d.total then
        some (LineOp.read (2 * d.nextRead) (d.w 1 + 64 * d.nextRead), { d with nextRead := d.nextRead + 1 })
      else none
    | 5 =>
      if d.nextRead < 2 * d.total then
        some (LineOp.read d.nextRead (d.w (1 + d.nextRead % 2) + 64 * (d.nextRead / 2)), { d with nextRead := d.nextRead + 1 })
      else none
    | 6 => if d.nextWrite = 0 then some (LineOp.atomic 1 (d.w 1) 1 (d.w 3) (d.w 2), { d with nextWrite := 1 }) else none
    | 7 => if d.nextWrite = 0 then some (LineOp.atomic 1 (d.w 1) 2 (d.w 2) 0, { d with nextWrite := 1 }) else none
    | 8 =>
      match d.phase with
      | 0 =>
        if d.nextRead < 2 then
          let p := d.w (4 + d.nextRead)
          some (LineOp.read d.nextRead (p - p % 64), { d with nextRead := d.nextRead + 1 })
        else none
      | 1 => d.copyStep (d.w 1) (d.w 2) (fun i => (d.acc + 64 * i) % d.w 3)
      | _ =>
        if d.nextWrite = 0 then
          some (LineOp.atomic 1 (d.w 4) 1 (d.acc + wordLen (d.w 0)) d.acc, { d with nextWrite := 1 })
        else none
    | 0x20 => if d.nextWrite = 0 then some (LineOp.field 1 (d.w 1) 8 (d.w 2), { d with nextWrite := 1 }) else none
    | _ => none

/-- Takes read data in line order into the CRC (R322). -/
def Desc.foldCrc : Nat → Desc → Desc
  | 0, d => d
  | n + 1, d =>
    match d.ready.find? (fun a => decide (a.step = 2 * d.progress)) with
    | none => d
    | some a => Desc.foldCrc n { d with
        acc := crc32c d.acc (bytesLE 64 a.data.toNat), progress := d.progress + 1, ready := d.ready.filter (fun b => decide (b ≠ a)) }
/-- Offset of the first byte in which two lines differ. -/
def firstDiff (a b : Line) : Nat :=
  match (List.range 64).find? (fun i => decide (bitsOf a.toNat (8 * i) 8 ≠ bitsOf b.toNat (8 * i) 8)) with
  | some i => i
  | none => 64
/-- Compares read data in line order (R322). -/
def Desc.foldCompare : Nat → Desc → Desc
  | 0, d => d
  | n + 1, d =>
    match d.ready.find? (fun a => decide (a.step = 2 * d.progress)), d.ready.find? (fun a => decide (a.step = 2 * d.progress + 1)) with
    | some a, some b =>
      if a.data = b.data then
        Desc.foldCompare n { d with progress := d.progress + 1, ready := d.ready.filter (fun c => decide (c ≠ a ∧ c ≠ b)) }
      else { d with outcome := some (0x20, 64 * d.progress + firstDiff a.data b.data), ready := [] }
    | _, _ => d

/-- The pointers of a LOG-APPEND are there: the space check (R324 steps 1 and 2). [DESIGN CHOICE, assumption 14] -/
def Desc.checkRing (d : Desc) : Desc :=
  match d.ready.find? (fun a => decide (a.step = 0)), d.ready.find? (fun a => decide (a.step = 1)) with
  | some a, some b =>
    let tail := field8 a.data (d.w 4 % 64)
    let head := field8 b.data (d.w 5 % 64)
    if tail % 64 ≠ 0 then { d with outcome := some (0x15, d.w 4), ready := [] }
    else if d.w 3 < (tail + wordLen (d.w 0) + 2 ^ 64 - head) % 2 ^ 64 then { d with outcome := some (0x14, d.w 4), ready := [] }
    else { d with phase := 1, acc := tail, nextRead := 0, ready := [] }
  | _, _ => d

/-- The line of a step. -/
def Desc.lineOf (d : Desc) (step : Nat) : Nat := if d.op = 8 ∧ d.phase ≠ 1 then d.progress else step / 2

/-- A line access has come back (R322 to R324, R330). -/
def Desc.absorb (d0 : Desc) (a : Arrival) : Desc :=
  let d := { d0 with outstanding := d0.outstanding - 1 }
  if a.cause ≠ 0 ∨ a.poison then
    { d with fails := d.fails ++ [{ line := d.lineOf a.step, status := if a.cause ≠ 0 then a.cause else 0x12, dpa := a.dpa }] }
  else
    match d.op with
    | 1 => if a.step % 2 = 0 then { d with ready := d.ready ++ [a] } else d.markDone (a.step / 2)
    | 4 => Desc.foldCrc (d.ready.length + 1) { d with ready := d.ready ++ [a] }
    | 5 => Desc.foldCompare (d.ready.length + 1) { d with ready := d.ready ++ [a] }
    | 6 =>
      let old := field8 a.data (d.w 1 % 64)
      { d with progress := 1, outcome := some (if old = d.w 2 then 0 else 0x21, old) }
    | 7 => { d with progress := 1, outcome := some (0, field8 a.data (d.w 1 % 64)) }
    | 8 =>
      match d.phase with
      | 0 => { d with ready := d.ready ++ [a] }.checkRing
      | 1 =>
        if a.step % 2 = 0 then { d with ready := d.ready ++ [a] }
        else
          let e := d.markDone (a.step / 2)
          if e.progress = e.total then { e with phase := 2 } else e
      | _ =>
        let old := field8 a.data (d.w 4 % 64)
        { d with outcome := some (if old = d.acc then (0, (d.acc + wordLen (d.w 0)) % 2 ^ 64) else (0x16, old)) }
    | _ => d.markDone (a.step / 2)

/-- Every line is done. -/
def Desc.complete (d : Desc) : Bool := decide (d.progress = d.total) && decide (d.op ≠ 8) && !d.barrier
/-- Status and RESULT of a descriptor that has ended (R327, R330). [DESIGN CHOICE, assumption 14] -/
def Desc.verdict (d : Desc) : Nat × Nat :=
  match d.outcome with
  | some v => v
  | none =>
    match minBy (fun f => f.line) d.fails with
    | some f => (f.status, f.dpa)
    | none => (0, if d.op = 4 then d.acc else if d.op = 5 then 2 ^ 64 - 1 else 0)

/-! ### Completion records (R327 to R329) -/

/-- The step number of a completion record's write. -/
def recordStep : Nat := 2 ^ 40
/-- A completion record (R327). -/
def recordWord (index size done tag op status result : Nat) : Nat :=
  (index / max 1 size + 1) % 2 + done % 2 ^ 26 * 2 ^ 6 + tag * 2 ^ 32 + op * 2 ^ 48 + status * 2 ^ 56 + result % 2 ^ 64 * 2 ^ 64
/-- Whether a status is an error (R327). -/
def statusError (st : Nat) : Bool := decide (st ≠ 0 ∧ st ≠ 0x20 ∧ st ≠ 0x21)

/-- Writes the next completion record of a queue, unless one is under way or the queue is STOPPED (R327). -/
def State.tryRecord (s : State) (t q : Nat) : State :=
  let x := s.queue t q
  if x.st = 3 ∨ x.descs.any (fun d => d.recording) then s
  else
    match x.descs.find? (fun d => d.ended) with
    | none => s
    | some d =>
      let size := s.ringRecords t q
      let v := d.verdict
      let dpa := s.cell (queueKey Ob.SQ_CQ_BASE t q) 0 + 16 * (x.tail % max 1 size)
      let s1 := s.modQueue t q (fun x => x.setDesc d.index (fun d => { d with recording := true }))
      s1.issue t q d.index (LineOp.field recordStep dpa 16 (recordWord x.tail size d.progress d.tag d.op v.1 v.2))

/-- A descriptor has ended: it is counted, its failure noted, and its record written unless suppressed (R171, R327, R330). -/
def State.endDesc (s : State) (t q : Nat) (d : Desc) : State :=
  let v := d.verdict
  let err := statusError v.1
  let s1 := s.tcount t (if err then Cn.SQ_DESCS_FAILED else Cn.SQ_DESCS_DONE) 1
  let s2 := if 0x10 ≤ v.1 ∧ v.1 ≤ 0x17 then s1.tev t Ev.SQ_DESC_FAILED (s.queueOwner t q) q [(2, d.tag), (1, v.1), (7, v.2)] else s1
  let quiet := (d.w 0).testBit 49 && !err
  let s3 := s2.modQueue t q (fun x => { x with
    descsDone := (x.descsDone + 1) % 2 ^ 32,
    failed := if err && x.failed.isNone && !d.barrier then some (d.index, d.tag) else x.failed,
    descs := x.descs.filter (fun e => decide (e.index ≠ d.index)) ++ (if quiet then [] else [{ d with ended := true }]) })
  if quiet then s3 else s3.tryRecord t q

/-- The MSI-X message of a queue after a record (R328). -/
def State.queueMsix (s : State) (t q : Nat) (d : Desc) : State :=
  let vec := s.cell (queueKey Ob.SQ_MSIX t q) 0xFFFF
  let h := s.classHome (s.queueOwner t q)
  if ((d.w 0).testBit 48 || statusError d.verdict.1) && decide (vec ≠ 0xFFFF) && (s.port h.1).up then
    { s with out := s.out ++ [Response.msix h.1 h.2 vec] }.tcount t Cn.SQ_MSIX_SENT 1
  else s

/-- A record has been accepted, or could not be written (R327 to R329). -/
def State.recordDone (s : State) (t q : Nat) (d : Desc) (a : Arrival) : State :=
  let gone (s : State) : State := s.modQueue t q (fun x => { x with descs := x.descs.filter (fun e => decide (e.index ≠ d.index)) })
  if a.cause = 0 then
    let s1 := ((gone s).modQueue t q (fun x => { x with tail := (x.tail + 1) % 2 ^ 32 })).tcount t Cn.SQ_RECORDS 1
    let s2 := if d.op = 0xFF then s1.tev t Ev.SQ_FENCE_ABANDONED 0xFF q [] else s1
    (s2.queueMsix t q d).tryRecord t q
  else
    (((gone s).modQueue t q (fun x => { x with st := if x.st = 0 then 0 else 3 })).scribeBit t 4).tev t Ev.SQ_CQ_WRITE_FAILED
      (s.queueOwner t q) q [(7, a.dpa)]

/-! ### Commands of the engine -/

/-- Whether a queue's next descriptor can start (R325, R171). [DESIGN CHOICE, assumption 11] -/
def State.startable (s : State) (t q : Nat) : Bool :=
  let x := s.queue t q
  decide (s.queueState t q = 1) && !x.groups.isEmpty && decide (x.descs.length < 4) && !(x.descs.any (fun d => d.barrier && !d.ended))
    && decide (x.unread + x.descs.length < s.ringRecords t q)
/-- Descriptors in execution in a tile (R325). -/
def State.executing (s : State) (t : Nat) : Nat :=
  sumList ((List.range 64).map (fun q => ((s.queue t q).descs.length)))
/-- Line accesses of a tile's engine that have not come back (R325). -/
def State.engineOut (s : State) (t : Nat) : Nat :=
  sumList ((List.range 64).map (fun q => sumList ((s.queue t q).descs.map (fun d => d.outstanding))))

/-- A descriptor as the engine takes it. -/
def Desc.fresh (index : Nat) (words : List Nat) : Desc :=
  { index := index, words := words,
    total := match wordOp (words.getD 0 0) with
      | 1 | 2 | 3 | 4 | 5 | 8 => wordLen (words.getD 0 0) / 64
      | 6 | 7 | 0x20 => 1
      | _ => 0,
    phase := 0, nextRead := 0, nextWrite := 0, outstanding := 0, progress := 0, doneAbove := [], ready := [], fails := [],
    acc := if wordOp (words.getD 0 0) = 4 then bitsOf (words.getD 2 0) 0 32 else 0, outcome := none,
    armed := false, ended := false, recording := false, arrived := [] }

/-- Records a violation that a descriptor makes before any line access (R273, R321). -/
def State.descViolation (s : State) (t q tile cause dpa : Nat) : State :=
  s.violate tile (s.queueOwner t q) 2 cause dpa dpa

/-- Starts the descriptor at the head of a queue (R317, R319, R321, R325, R176). `ecc` gives for each word 0, or 1 when it
needed correction, or 2 when it could not be corrected. -/
def State.startDesc (s : State) (t q : Nat) (g : Group) (ecc : List Nat) : State :=
  let x := s.queue t q
  let i := x.nextIndex
  let w0 := g.words.headD 0
  let d := Desc.fresh i g.words
  let s1 := (s.modQueue t q (fun x => { x with
      groups := x.groups.drop 1, nextIndex := i + 1, descs := x.descs ++ [d],
      taken := if g.torn then x.taken else (x.taken + 1) % 2 ^ 32 })).modRd t (fun y => { y with lastQueue := q })
  let s2 := s1.tcount t Cn.SQ_DESCS_TAKEN 1
  let fail (s : State) (status result : Nat) : State := s.endDesc t q { d with outcome := some (status, result) }
  let corrected := ((List.range g.words.length).filter (fun k => decide (ecc.getD k 0 = 1)))
  let s3 := s2.each (if g.torn then corrected.filter (fun k => decide (k = 0)) else corrected) (fun s' k =>
    ((s'.modQueue t q (fun x => { x with corrCount := satAdd 0xFFFF x.corrCount 1 })).scribeBit t 1).tev t Ev.SQ_WORD_CORRECTED
      0xFF q [(2, k)])
  if g.torn then
    fail (((s3.tcount t Cn.SQ_DROP_REMAINDERS 1).scribeBit t 3).tev t Ev.SQ_DESC_TORN 0xFF q
      [(2, wordTag w0), (4, g.words.length - 1)]) 0x10 0
  else if ecc.any (fun e => decide (e = 2)) then
    fail (((s3.tcount t Cn.SQ_DROP_REMAINDERS 1).scribeBit t 2).tev t Ev.SQ_WORD_UNCORRECTABLE 0xFF q [(2, wordTag w0)]) 0x11 0
  else if !headValid w0 then
    fail ((s3.tcount t Cn.SQ_DROP_REMAINDERS 1).descViolation t q t 7 0) 0x17 0
  else if !bodyValid g.words then
    fail (s3.descViolation t q t 7 (g.words.getD 1 0)) 0x17 (g.words.getD 1 0)
  else
    match atomicOperand g.words with
    | some dpa =>
      if dpa % 8 = 0 then s3
      else
        let tile := match s.routeDpa 0 dpa with
          | .line _ _ _ tile _ => tile
          | .violation _ _ _ => t
        let s4 := (s3.descViolation t q tile 8 dpa).raise (Ob.inst Ob.ORDER_STATUS tile) 0 (Ob.inst Ob.ATOMIC_MISALIGNED_COUNT tile)
        fail (s4.tev tile Ev.ATOMIC_MISALIGNED (s.queueOwner t q) dpa [(1, t), (1, q), (1, s.queueOwner t q)]) 8 dpa
    | none => s3

/-- DESCRIPTOR_START (R325): the engine of tile `t` takes the next descriptor, round-robin by queue number. -/
def execDescriptorStart (t : Nat) (ecc : List Nat) (s : State) : Host.Outcome State Fault Refusal :=
  .next (if s.tileActive t ∧ t < s.n ∧ s.inService ∧ s.executing t < 16 then
      let last := (s.tile t).rd.lastQueue
      match minBy (fun q => (q + 127 - last) % 64) (below 64 (fun q => s.startable t q)) with
      | none => s
      | some q => match (s.queue t q).groups with
        | [] => s
        | g :: _ => s.startDesc t q g ecc
    else s)

/-- The engine issues the next line access of descriptor `i` of a queue, when its operation is `op` (R322 to R326). -/
def State.engineStep (s : State) (t q i op : Nat) : State :=
  match (s.queue t q).desc i with
  | none => s
  | some d =>
    if d.op = op ∧ s.tileActive t ∧ s.inService ∧ s.engineOut t < 128 then
      match d.next with
      | none => s
      | some (a, d1) => (s.modQueue t q (fun x => x.setDesc i (fun _ => d1))).issue t q i a
    else s

/-- COPY (R322). -/
def execCopy (t q desc : Nat) (s : State) : Host.Outcome State Fault Refusal := .next (s.engineStep t q desc 0x01)
/-- FILL (R322). -/
def execFill (t q desc : Nat) (s : State) : Host.Outcome State Fault Refusal := .next (s.engineStep t q desc 0x02)
/-- ZERO (R323). -/
def execZero (t q desc : Nat) (s : State) : Host.Outcome State Fault Refusal := .next (s.engineStep t q desc 0x03)
/-- CRC32C (R322). -/
def execCrc32c (t q desc : Nat) (s : State) : Host.Outcome State Fault Refusal := .next (s.engineStep t q desc 0x04)
/-- COMPARE (R322). -/
def execCompare (t q desc : Nat) (s : State) : Host.Outcome State Fault Refusal := .next (s.engineStep t q desc 0x05)
/-- CAS64 (R177, R322). -/
def execCas64 (t q desc : Nat) (s : State) : Host.Outcome State Fault Refusal := .next (s.engineStep t q desc 0x06)
/-- FADD64 (R177, R322). -/
def execFadd64 (t q desc : Nat) (s : State) : Host.Outcome State Fault Refusal := .next (s.engineStep t q desc 0x07)
/-- LOG-APPEND (R324). -/
def execLogAppend (t q desc : Nat) (s : State) : Host.Outcome State Fault Refusal := .next (s.engineStep t q desc 0x08)
/-- NOTIFY (R322). -/
def execNotify (t q desc : Nat) (s : State) : Host.Outcome State Fault Refusal := .next (s.engineStep t q desc 0x20)

/-- A barrier comes into force (R170). -/
def State.armBarrier (s : State) (t q i op : Nat) : State :=
  match (s.queue t q).desc i with
  | none => s
  | some d =>
    if d.op = op ∧ d.ended = false ∧ s.tileActive t then s.modQueue t q (fun x => x.setDesc i (fun d => { d with armed := true })) else s
/-- BAR-LD (R170). -/
def execBarLd (t q desc : Nat) (s : State) : Host.Outcome State Fault Refusal := .next (s.armBarrier t q desc 0x10)
/-- BAR-ST (R170). -/
def execBarSt (t q desc : Nat) (s : State) : Host.Outcome State Fault Refusal := .next (s.armBarrier t q desc 0x11)
/-- BAR-ALL (R170). -/
def execBarAll (t q desc : Nat) (s : State) : Host.Outcome State Fault Refusal := .next (s.armBarrier t q desc 0x12)

/-- SCRIBE_LINE_DONE (R330): the oldest line access of a descriptor that has come back is taken up; the descriptor ends when
nothing of it is outstanding and it is complete or stopped; a record's write ends the descriptor for good. -/
def execScribeLineDone (t q desc : Nat) (s : State) : Host.Outcome State Fault Refusal :=
  .next (match (s.queue t q).desc desc with
    | none => s
    | some d =>
      match d.arrived with
      | [] => s
      | a :: rest =>
        if d.ended then s.recordDone t q { d with arrived := rest } a
        else
          let d1 := Desc.absorb { d with arrived := rest } a
          let s1 := s.modQueue t q (fun x => x.setDesc desc (fun _ => d1))
          if d1.outstanding = 0 ∧ (d1.stopped ∨ d1.complete) then s1.endDesc t q d1 else s1)

/-- BARRIER_COMPLETE (R171): every earlier descriptor of the queue has completed or failed. -/
def execBarrierComplete (t q : Nat) (s : State) : Host.Outcome State Fault Refusal :=
  .next (match (s.queue t q).descs.find? (fun d => d.barrier && d.armed && !d.ended) with
    | none => s
    | some d =>
      if (s.queue t q).descs.any (fun e => decide (e.index < d.index) && !e.ended) then s
      else
        let s1 := s.tcount t Cn.BARRIERS_DONE 1
        match (s.queue t q).failed with
        | none => s1.endDesc t q { d with outcome := some (0, 0) }
        | some (i, tag) =>
          let s2 := (s1.raise (Ob.inst Ob.ORDER_STATUS t) 1 (Ob.inst Ob.BARRIER_ERROR_COUNT t)).tev t Ev.BARRIER_ERROR 0xFF q
            [(4, d.index), (4, i)]
          (s2.modQueue t q (fun x => { x with failed := none })).endDesc t q { d with outcome := some (0x18, tag) })

/-- `SQ_RESTART` (R329). -/
def State.sqRestart (s : State) (t q v : Nat) : Result :=
  if v ≠ 1 then s.refused Err.range 0
  else if (s.queue t q).st = 3 then ((s.modQueue t q (fun x => { x with st := 1 })).tryRecord t q).ok
  else s.refused Err.state Detail.queue

/-- The FENCE_ABANDONED record of a queue that was enabled when its tile was fenced (R330). -/
def State.abandonRecord (s : State) (t q : Nat) : State :=
  let i := (s.queue t q).nextIndex
  let w0 := 0xFF * 2 ^ 56 + 0xFFFF * 2 ^ 32
  let d := { Desc.fresh i [w0] with ended := true, outcome := some (0x13, (s.tile t).fence.fenceTime) }
  (s.modQueue t q (fun x => { x with nextIndex := i + 1, descs := x.descs ++ [d] })).tryRecord t q

/-- Stops the queues of every tile at DRAIN entry: words and descriptors are lost, records accepted stay (R330). -/
def State.stopQueues (s : State) : State := s.each s.tileNumbers (fun s' t => s'.abandonQueues t)

end Sys2Proof.Machine
end

