-- ==== Sys2Proof/Machine/Objects.lean ====
section
/-! DEFINITION. What the objects of the dictionary read as (the object tables of chapters 01 to 19): defaults of cells, objects
that report the state, counters (R449, R450), records (R457). -/
namespace Sys2Proof.Machine
open Sys2Proof

/-! ### Defaults -/

/-- Keys of cells whose default is a number other than 0 (the object tables). -/
def plainDefaults : List (Nat × Nat) := [
  (Ob.PART_TILE_GRAN, 1), (Ob.PART_FEED_CLASS, 0xFF), (Ob.SPEC_WINDOW, 16), (Ob.READ_AROUND_ENABLE, 1), (Ob.DIRTY_LIMIT, 32),
  (Ob.WB_LOW, 50), (Ob.WEAR_MIGRATE_PCT, 125), (Ob.MIGRATE_MAX, 2), (Ob.REFRESH_WEAK_CELLS, 8), (Ob.PATROL_INTERVAL, 96),
  (Ob.MARGIN_STEPS, 6), (Ob.WEAK_SEG_LINES, 256), (Ob.WEAK_SEG_ERASED, 8), (Ob.SCRUB_RATE_MBS, 1000), (Ob.AUTO_REJOIN, 1),
  (Ob.AUTO_REJOIN_MAX, 3), (Ob.SQ_CQ_SIZE, 256), (Ob.SQ_MSIX, 0xFFFF), (Ob.THERMAL_LIMIT_C, 140), (Ob.DEVLOAD_T1_NS, 64),
  (Ob.DEVLOAD_T2_NS, 512), (Ob.CLASS_BURST, 16), (Ob.PORT_LD_COUNT, 1), (Ob.PORT_MAX_RATE, 5), (Ob.LD_SPID, 0xFFFF),
  (Ob.SEQ_RETRIES, 3), (Ob.SEQ_FAIL_STEP, 0xFF), (Ob.SEQ_FAIL_POINT, 0xFF), (Ob.ALERT_MASK, 0x1F), (Ob.REC_PUBLISH_MS, 10),
  (Ob.REC_RATE_DEFAULT, 32)]
/-- Defaults that depend on the part or on the instance. -/
def partDefaults : List (Nat × (State → Nat → Nat)) := [
  (Ob.PART_TILE_SET, fun s _ => s.allTiles), (Ob.CLASS_TILES, fun s _ => s.allTiles),
  (Ob.RIGHTS_MAP, fun _ c => rightsDefault c), (Ob.POWER_CAP_W, fun s _ => s.part.power.2.2.1),
  (Ob.PEAK_STROKES, fun s _ => 512 * s.n), (Ob.CLASS_SCRIBE_PCT, fun _ c => if c = maintClass then 0 else 25),
  (Ob.LD_MGMT, fun _ i => bitNat (decide (i % 16 = 0)))]
/-- The default of a place. -/
def State.default (s : State) (p : ObPlace) : Nat :=
  match plainDefaults.find? (fun x => decide (x.1 = p.row.key)) with
  | some x => x.2
  | none => match partDefaults.find? (fun x => decide (x.1 = p.row.key)) with
    | some x => x.2 s p.i
    | none => 0
/-- The applied value of a place that a cell holds. -/
def State.applied (s : State) (p : ObPlace) : Nat := s.cell p.cell (s.default p)

/-! ### Strings -/

/-- A printable character that stands for an identity value the spec does not give (R442, 18). [PRESUMED, assumption 18] -/
def identityChar (n : Nat) : Nat := 32 + Config.identity n % 95
/-- The version string of image version `v`, 1 to 32 characters (R442). [PRESUMED, assumption 18] -/
def versionText (v : Nat) : List Nat :=
  (List.range (1 + Config.identity (1000 + 64 * v) % 32)).map (fun i => identityChar (1001 + 64 * v + i))
/-- The ordering code (01). -/
def Part.code : Part → String
  | .a2 => "RMN-A2-H-C1"
  | .a4 => "RMN-A4-H-C1"
  | .a8 => "RMN-A8-H-C1"
/-- The bytes of a string. -/
def textBytes (x : String) : List Nat := x.toList.map Char.toNat
/-- The image that does not run. -/
def State.otherSlot (s : State) : FwSlot :=
  s.fw.slots.getD (1 - s.fw.running) { st := 0, svn := 0, compat := false, version := 0, received := 0 }
/-- The version of the running image. -/
def State.runningSlot (s : State) : FwSlot :=
  s.fw.slots.getD s.fw.running { st := 0, svn := 0, compat := false, version := 0, received := 0 }
/-- Sense points of the part (R401). -/
def State.points (s : State) : Nat := 6 * s.n + 8
/-- Objects whose value has a length of its own: strings (R419) and the sense values (R416). -/
def longReaders : List (Nat × (State → List Nat)) := [
  (Ob.PART_CODE, fun s => textBytes s.part.code),
  (Ob.VENDOR_NAME, fun _ => textBytes "Gloura Microsystems"),
  (Ob.SERIAL_NUMBER, fun _ => (List.range 16).map (fun i => identityChar (16 + i))),
  (Ob.FW_VERSION, fun s => versionText s.runningSlot.version),
  (Ob.FW_VERSION_OTHER, fun s => if s.otherSlot.st = 0 ∨ s.otherSlot.st = 2 then [] else versionText s.otherSlot.version),
  (Ob.SENSE_VALUES, fun s => ((List.range s.points).map (fun k => bytesLE 2 (s.sup.sense.getD k 0))).flatten)]

/-! ### Objects that report the state -/

/-- A reading of the state: the state, the instance, the subindex within the row. -/
abbrev Reader := State → Nat → Nat → Nat
/-- A bit for each tile of the part that has a property. -/
def State.tileBits (s : State) (f : Nat → Bool) : Nat := sumList (s.tileNumbers.map (fun t => if f t then 2 ^ t else 0))
/-- The bits of a status object that are not cleared by software (03, 08). -/
def State.liveBits (s : State) (p : ObPlace) : Nat :=
  if p.key = Ob.FLIP_STATUS then bitNat (s.tile p.i).med.flipArmed
  else if p.key = Ob.PATROL_STATUS then 16 * bitNat (s.tile p.i).pat.accelOn
  else 0

/-- Objects of chapters 01 and 02. -/
def readers1 : List (Nat × Reader) := [
  (Ob.TILE_COUNT, fun s _ _ => s.n), (Ob.RING_LINK_COUNT, fun s _ _ => s.n),
  (Ob.STANDBY_SYNC, fun s _ _ => match s.mgmt.active with
    | some a => if s.canTakeOver (1 - a) then bitNat s.mgmt.standbySync else 2
    | none => 2),
  (Ob.FW_IMAGE, fun s _ _ => s.fw.running), (Ob.TAKEOVER_COUNT, fun s _ _ => s.mgmt.takeoverCount),
  (Ob.MGMT_STATUS, fun s _ _ => bitNat s.mgmt.standbyLost + 2 * bitNat (s.mgmt.takeover || decide (s.mgmt.update = 3)) + 4 * bitNat (decide (1 ≤ s.mgmt.update ∧ s.mgmt.update ≤ 5))),
  (Ob.TIMEBASE_NOW, fun s _ _ => s.pkgNow % 2 ^ 64),
  (Ob.TILE_STATE, fun s t _ => (s.tile t).fence.st.code), (Ob.VDDK_MV, fun s t _ => (s.tile t).sup.vddk),
  (Ob.CORE_ROLE, fun s t _ => if t < 2 ∧ s.canTakeOver t then (if s.mgmt.active = some t then 1 else 2) else 0),
  (Ob.TB_STATUS, fun s t _ => bitNat (s.tile t).time.locked + 2 * bitNat (decide (s.master = some t)) + 4 * bitNat (s.tile t).time.holdover),
  (Ob.RING_LINK_STATUS, fun s t _ => bitNat (s.tile t).time.linkW + 2 * bitNat (s.tile t).time.linkE),
  (Ob.DPA_CAPACITY, fun s _ _ => s.part.capacity),
  (Ob.PARTITIONS_ENABLED, fun s _ _ => (s.parts.filter (fun x => decide (x.2.st = 1))).length),
  (Ob.POOL_TOTAL_SEGS, fun _ _ _ => poolSegs),
  (Ob.POOL_FREE_SEGS, fun s t _ => poolSegs - sumList (s.parts.map (fun x => if x.2.st ≠ 0 ∧ x.2.tileSet.testBit t then x.2.total else 0))),
  (Ob.POOL_RELEASING_SEGS, fun s t _ => sumList (s.parts.map (fun x => if x.2.st = 2 ∧ x.2.tileSet.testBit t then x.2.total else 0))),
  (Ob.PART_STATE, fun s p _ => (s.partn p).st), (Ob.PART_DATA_SEGS, fun s p _ => (s.partn p).data),
  (Ob.PART_TOTAL_SEGS, fun s p _ => (s.partn p).total), (Ob.PART_SEG_BASE, fun s p t => (s.partn p).segBase.getD t 0xFFFFFFFF)]

/-- The bits of a remap entry (R93). -/
def Remap.bits (x : Remap) : Nat :=
  packFields [(10, x.spare), (1, 0), (26, x.slot), (5, x.bank), (16, x.hits), (4, 0), (1, bitNat x.pending), (1, bitNat x.valid)]
/-- Remap entries of a nib in use. -/
def TileMed.remapsOf (m : TileMed) (n : Nat) : List Remap := (m.remap.filter (fun x => decide (x.1 / 32 = n))).map Prod.snd
/-- Highest and lowest of numbers; `d` for none. -/
def leastOf (d : Nat) (l : List Nat) : Nat := l.foldl Nat.min d
/-- Objects of chapters 03 to 06. -/
def readers2 : List (Nat × Reader) := [
  (Ob.LINE_CODE_ID, fun _ _ _ => 1),
  (Ob.REMAP_FREE_MIN, fun s t _ => leastOf 32 ((List.range 16).map (fun n => 32 - ((s.tile t).med.remapsOf n).length))),
  (Ob.REMAP_FULL_NIBS, fun s t _ => sumList ((List.range 16).map (fun n =>
    if 32 ≤ (((s.tile t).med.remapsOf n).filter (fun x => x.valid)).length then 2 ^ n else 0))),
  (Ob.SPARE_LINES_USED, fun s t _ => (s.tile t).med.spares.length),
  (Ob.FAILED_BANKS, fun s t _ => (s.tile t).med.failedBanks.length),
  (Ob.FAILED_DIES, fun s t _ => sumList ((s.tile t).med.failedDies.eraseDups.map (fun d => 2 ^ d))),
  (Ob.REMAP_TABLE, fun s t n => ofBytesLE (((List.range 32).map (fun i => bytesLE 8 (match (s.tile t).med.remap.find (32 * n + i) with
    | some x => x.bits
    | none => 0))).flatten)),
  (Ob.BANK_FAILED_MAP, fun s t d => sumList ((((s.tile t).med.failedBanks.eraseDups).filter (fun b => decide (b / 32 = d))).map (fun b => 2 ^ (b % 32)))),
  (Ob.TEST_PERMITTED, fun s _ _ => bitNat s.svc.testPermitted),
  (Ob.READ_SVC_HIST, fun s t _ => ofBytesLE (((s.tile t).rd.hist.map (bytesLE 4)).flatten)),
  (Ob.READ_SVC_MAX, fun s t _ => (s.tile t).rd.max), (Ob.READ_SVC_SEQ, fun s t _ => (s.tile t).rd.histSeq),
  (Ob.TILE_READ_TOKENS, fun _ _ _ => 256), (Ob.READ_TOKENS_FREE_MIN, fun s t _ => (s.tile t).rd.freeMin),
  (Ob.DIRTY_LIMIT_EFFECTIVE, fun s t _ => (s.tile t).res.limit), (Ob.DIRTY_LINES, fun s t _ => (s.tile t).res.dirty),
  (Ob.PARTIAL_LINES, fun s t _ => (s.tile t).res.inState .incomplete), (Ob.MIRROR_LINES, fun s t _ => (s.tile t).res.inState .mirror),
  (Ob.INFLIGHT_IMAGES, fun s t _ => ((s.tile t).res.bufs.filter (fun b => b.inflight)).length),
  (Ob.PINNED_LINES, fun s t _ => (s.tile t).res.inState .pinned), (Ob.BANK_CAP, fun s t _ => (s.tile t).res.bankCap),
  (Ob.BANK_CHARGE_MAX, fun s t _ => (s.tile t).chargeMax t), (Ob.WRITE_GATE_STATUS, fun s t _ => s.gate t),
  (Ob.GPF_PHASE2_MS, fun s _ _ => if s.tileNumbers.any (fun t => decide (524288 < (s.tile t).res.limit)) then 20 else 10)]

/-- The bank being or last evacuated (07). -/
def TileMap.lastEvac (m : TileMap) : Option Evac :=
  match m.evacs.find? (fun e => !e.complete) with
  | some e => some e
  | none => m.evacs.getLast?
/-- Number of segments of a tile with a condition. -/
def TileMap.countSegs (m : TileMap) (f : Seg → Bool) : Nat := (m.segs.filter (fun x => f x.2)).length
/-- Objects of chapter 07. -/
def readers3 : List (Nat × Reader) := [
  (Ob.PIN_QUOTA, fun _ _ _ => 4096),
  (Ob.SEGS_BOUND, fun s t _ => (s.tile t).map.countSegs (fun x => decide (x.cond = .bound))),
  (Ob.SEGS_FRESH, fun s t _ => s.heldSegs t - s.boundSegs t),
  (Ob.SEGS_FREE, fun s t _ => segsPerTile - (s.tile t).map.notFree),
  (Ob.SEGS_BLANKED, fun s t _ => segsPerTile - (s.tile t).map.countSegs (fun x => !(decide (x.cond = .free) && x.blanked))),
  (Ob.USABLE_SPARES, fun s t _ => s.spares t),
  (Ob.SEGS_RETIRED, fun s t _ => (s.tile t).map.countSegs (fun x => decide (x.cond = .retired ∨ x.cond = .donor))),
  (Ob.SEGS_QUARANTINED, fun s t _ => (s.tile t).map.countSegs (fun x => decide (x.cond = .quarantined))),
  (Ob.MIGRATIONS_ACTIVE, fun s t _ => (s.tile t).map.migs.length),
  (Ob.MOVES_MEAN, fun s t _ => (s.tile t).map.meanMoves.1 / max 1 (s.tile t).map.meanMoves.2),
  (Ob.MOVES_MAX, fun s t _ => (s.tile t).map.movesMax), (Ob.WEAR_THRESHOLD, fun s t _ => (s.tile t).map.wearThreshold),
  (Ob.LIFE_USED_PCT, fun s t _ => (s.tile t).lifeUsed),
  (Ob.EVAC_PROGRESS, fun s t _ => match (s.tile t).map.lastEvac with
    | some e => e.ptr
    | none => 0),
  (Ob.EVAC_BANK, fun s t _ => match (s.tile t).map.lastEvac with
    | some e => e.bank
    | none => 0xFFFF),
  (Ob.QUARANTINE_LIST, fun s t _ => ofBytesLE (((s.tile t).map.quars.take 16).map (fun q =>
    bytesLE 8 (packFields [(17, 0), (24, q.lseg), (21, q.pseg), (2, q.reason)]))).flatten),
  (Ob.MIGRATION_TABLE, fun s t _ => ofBytesLE (((s.tile t).map.migs.take 4).map (fun g =>
    bytesLE 16 (packFields [(8, 0), (3, g.tomega), (34, ((s.tile t).map.seg g.target).moves), (21, g.lseg), (21, g.source), (21, g.target),
      (12, g.ptr), (4, g.reason), (4, g.step)]))).flatten)]

/-- The summary of the running or last scrub pass (08, `SCRUB_SUMMARY`). -/
def Service.scrubSummary (x : Service) : Nat :=
  let c (i : Nat) : Nat := x.scrubCounts.getD i 0
  packFields [(110, 0), (32, c 9), (32, c 8), (10, c 7), (32, c 6), (32, c 5), (32, c 4), (16, c 3), (32, c 2), (32, c 1), (40, c 0),
    (44, x.scrubDpa + x.scrubLen), (44, x.scrubDpa), (12, 0), (4, x.scrubSource), (8, if x.scrubOn then 1 else c 10)]
/-- Objects of chapters 08 and 09. -/
def readers4 : List (Nat × Reader) := [
  (Ob.DRIFT_CLOCK, fun s t _ => (s.tile t).pat.drift), (Ob.DRIFT_RATE, fun s t _ => (s.tile t).pat.rate / 7800),
  (Ob.PATROL_OLDEST_AGE, fun s t _ => match (s.tile t).nextVisit with
    | some p => (s.tile t).driftAge p
    | none => 0),
  (Ob.PATROL_ROUND_DONE, fun s t _ => ((s.tile t).pat.roundDone.filter (fun d =>
    decide (driftDiff (s.tile t).pat.drift d < s.patrolInterval))).length),
  (Ob.REFRESH_QUEUED, fun s t _ => (s.tile t).res.refreshQueue), (Ob.ABSENCE_ESTIMATE, fun s t _ => (s.tile t).pat.absence),
  (Ob.ACCEL_REMAINING, fun s t _ => (s.tile t).pat.accel.length),
  (Ob.DRIFT_TABLE, fun _ t d => ofBytesLE ((List.range 96).map (fun i => driftTableByte t d i))),
  (Ob.SCRUB_SUMMARY, fun s _ _ => s.svc.scrubSummary),
  (Ob.FENCE_STATUS, fun s _ _ => s.tileBits (fun t => decide ((s.tile t).fence.st = .fencing))
    + 2 ^ 8 * s.tileBits (fun t => decide ((s.tile t).fence.st = .fenced)) + 2 ^ 16 * s.tileBits (fun t => decide ((s.tile t).fence.st = .rejoining))),
  (Ob.FENCE_CAUSE, fun s t _ => (s.tile t).fence.cause), (Ob.FENCE_TIME, fun s t _ => (s.tile t).fence.fenceTime % 2 ^ 64),
  (Ob.ISOLATION_FLUSH, fun s t _ => (s.tile t).fence.isoFlush), (Ob.PLAIN_LINES_LOST, fun s t _ => (s.tile t).fence.plainLost),
  (Ob.RESYNC_SEGS_TOTAL, fun s t _ => (s.tile t).fence.changed.length + (s.tile t).fence.resyncDone),
  (Ob.RESYNC_SEGS_DONE, fun s t _ => (s.tile t).fence.resyncDone), (Ob.STANDIN_TILE, fun s t _ => (s.tile t).fence.standin),
  (Ob.MIRROR_TILE_NOW, fun s t _ => (s.tile t).fence.mirror), (Ob.FENCE_FIRST_CAUSE, fun s t _ => (s.tile t).fence.firstCause),
  (Ob.SPAN_PARITY_BASE, fun s p t => (s.partn p).spanBase.getD t 0xFFFFFFFF)]

/-- Objects of chapters 10 to 12. [DEDUCED, assumption 58] -/
def readers5 : List (Nat × Reader) := [
  (Ob.KEY_SLOTS, fun _ _ _ => 4096), (Ob.KEYS_LOADED, fun s _ _ => (s.keys.slots.filter (fun x => decide (x.2.st = .loaded))).length),
  (Ob.KEY_PURGING, fun s _ _ => match s.keys.change with
    | some c => if (s.key c.slot).st = .purging then c.slot else 0xFFFF
    | none => 0xFFFF),
  (Ob.ROOT_LOST_MAP, fun s t _ => sumList ((s.tile t).sealing.map (fun z => if z.rootLost then 2 ^ z.part else 0))),
  (Ob.OVERFLOWS_ACTIVE, fun _ _ _ => 0), (Ob.DEBUG_STATE, fun s _ _ => bitNat s.svc.unlock.isSome),
  (Ob.SCRIBE_QUEUES, fun _ _ _ => 64), (Ob.SCRIBE_OPSETS, fun _ _ _ => 0x1F), (Ob.SCRIBE_ACTIVE, fun s t _ => s.executing t),
  (Ob.SQ_STATE, fun s i _ => s.queueState (i / 64) (i % 64)), (Ob.SQ_DESCS_DONE, fun s i _ => (s.queue (i / 64) (i % 64)).descsDone % 2 ^ 32),
  (Ob.POWER_NOW_W, fun s _ _ => s.feed.powerNow / 1000), (Ob.POWER_EFF_W, fun s _ _ => s.peff / 1000),
  (Ob.GUAR_WR_MBS, fun s _ _ => sumList (s.tileNumbers.map (fun t => (s.tileCapacity s.peff t true).1 / max 1 (s.tileCapacity s.peff t true).2))),
  (Ob.GUAR_RD_MBS, fun s _ _ => sumList (s.tileNumbers.map (fun t => (s.tileCapacity s.peff t false).1 / max 1 (s.tileCapacity s.peff t false).2))),
  (Ob.GRANT_LAST, fun s t _ => s.feed.grant.getD t 0), (Ob.STROKES_IN_FLIGHT, fun s t _ => (s.tile t).res.inFlight),
  (Ob.TILE_GUAR_WR_MBS, fun s t _ => (s.tileCapacity s.peff t true).1 / max 1 (s.tileCapacity s.peff t true).2),
  (Ob.TILE_GUAR_RD_MBS, fun s t _ => (s.tileCapacity s.peff t false).1 / max 1 (s.tileCapacity s.peff t false).2),
  (Ob.CLASS_RD_EFF_PCT, fun s c _ => Frac.percent (s.factor c false)), (Ob.CLASS_WR_EFF_PCT, fun s c _ => Frac.percent (s.factor c true)),
  (Ob.CLASS_BYTES_RD, fun s c _ => (s.cls c).bytesRd % 2 ^ 64), (Ob.CLASS_BYTES_WR, fun s c _ => (s.cls c).bytesWr % 2 ^ 64),
  (Ob.CLASS_HELD_HIST, fun s c _ => ofBytesLE (((s.cls c).hist.map (bytesLE 4)).flatten)), (Ob.CLASS_HELD_SEQ, fun s c _ => (s.cls c).seq),
  (Ob.CLASS_HELD_MAX, fun s c _ => (s.cls c).max),
  (Ob.CLASS_DEVLOAD_COUNTS, fun s c _ => ofBytesLE (((s.cls c).devload.map (bytesLE 4)).flatten)),
  (Ob.CLASS_HOLD_DEPTH, fun s c _ => min 64 (sumList (s.ports.map (fun p => (p.heldOf c).length))))]

/-- Added blocks of an LD as GiB numbers in its allocation (R370). -/
def State.addedGib (s : State) (p l : Nat) : List Nat := ((s.ld p l).blocks.map (fun b => (s.region p l b.region).off + b.block)).eraseDups
/-- Extents in a list of blocks: adjacent blocks merge (R371). -/
def extentsIn (l : List Nat) : Nat := (l.filter (fun g => decide (g = 0) || !l.contains (g - 1))).length
/-- `PORT_LINK_STATUS` (R388). -/
def Port.linkStatus (q : Port) : Nat :=
  packFields [(5, q.width), (3, 0), (3, q.rate), (1, 0), (2, q.flit), (2, 0), (1, bitNat q.up), (1, bitNat q.cxlMem), (1, bitNat q.ideMem),
    (1, bitNat q.ideIo), (1, bitNat (decide (q.up ∧ q.ldMode = 1))), (1, bitNat (decide (q.up ∧ q.ldMode = 2)))]
/-- Energy E_hold of the measured bank, mJ (R406). [DESIGN CHOICE, assumption 12] -/
def Supply.ehold (x : Supply) : Nat := 8 * x.cap / 10 ^ 9
/-- Objects of chapters 13 and 14. [DESIGN CHOICE, assumption 12] -/
def readers6 : List (Nat × Reader) := [
  (Ob.PORTS_IN_USE, fun s _ _ => (below 8 s.portUsed).length), (Ob.PORT_LINK_STATUS, fun s p _ => (s.port p).linkStatus),
  (Ob.PORT_PBR_ID, fun s p _ => (s.port p).pbrId), (Ob.PORT_IDE_MODE, fun s p _ => if (s.port p).ideMem then (s.port p).ideMode else 0),
  (Ob.LD_DC_EXTENTS, fun s i _ => extentsIn (s.addedGib (i / 16) (i % 16))),
  (Ob.SEQ_STEP, fun s _ _ => s.sup.step.getD 0xFF),
  (Ob.DRAIN_CAUSE, fun s _ _ => s.dev.drainCause * 2 ^ 28 + s.dev.drainSeen),
  (Ob.HOLDUP_CAP_UF, fun s _ _ => s.sup.cap / 10 ^ 7), (Ob.HOLDUP_ESR_MOHM, fun s _ _ => s.sup.esr),
  (Ob.HOLDUP_EHOLD_MJ, fun s _ _ => s.sup.ehold),
  (Ob.HOLDUP_STATUS, fun s _ _ => bitNat s.sup.charged + 2 * bitNat s.sup.measured + 4 * bitNat s.sup.capLow + 8 * bitNat s.sup.esrHigh
    + 16 * bitNat s.sup.onHold),
  (Ob.VDDC_CMD_MV, fun s _ _ => s.sup.vddcCmd), (Ob.VDDC_NEED_MV, fun s t _ => (s.tile t).sup.need),
  (Ob.REPLICA_MARGIN, fun s t _ => ((s.tile t).sup.margin % 2 ^ 32).toNat), (Ob.VDDK_FLOOR_MV, fun s t _ => (s.tile t).sup.vddkFloor)]

/-- Counting mode of a counter number: 0 edge, 1 level, 2 slot (R444, R447). -/
def cntMode (num : Nat) : Nat :=
  if 0x100 ≤ num ∧ num < 0x200 then (if num % 16 = 0 then 1 else if num % 16 ≤ 10 then 2 else 0)
  else if cntLevel.contains num then 1 else 0
/-- Whether a chapter defines a counter number (R446). -/
def cntPresent (num : Nat) : Bool := (decide (0x100 ≤ num ∧ num < 0x200) && decide (num % 16 ≤ 10)) || cntNumbers.contains num
/-- Bits of a map by number, each of a width. -/
def numberMap (count width base : Nat) (f : Nat → Nat) : Nat := packFields ((List.range count).map (fun n => (width, f (base + n))))
/-- Objects of chapters 15 to 17. -/
def readers7 : List (Nat × Reader) := [
  (Ob.CAP_BASE, fun _ _ _ => 0x1001010001), (0x100100, fun _ _ _ => 0x1002010010), (0x100200, fun _ _ _ => 0x1003010011),
  (0x100300, fun _ _ _ => 0x1004010012), (0x100400, fun _ _ _ => 0x1005010020), (0x100500, fun _ _ _ => 0x1006010030),
  (0x100600, fun _ _ _ => 0x0000000100F0), (Ob.VENDOR_ID, fun _ _ _ => Config.identity 0 % 65536), (Ob.STAEB_VERSION, fun _ _ _ => 0x0100),
  (Ob.STAGED_SETS, fun s _ _ => s.mgmt.sets.length),
  (Ob.DEVICE_STATE, fun s _ _ => s.dev.st.code), (Ob.HEALTH_STATE, fun s _ _ => s.dev.health.code),
  (Ob.CNT_MODE_TILE, fun _ _ _ => numberMap 1024 2 0 cntMode), (Ob.CNT_MODE_PKG, fun _ _ _ => numberMap 512 2 0x2000 cntMode),
  (Ob.CNT_SNAPSHOT_TIME, fun s _ _ => s.cnt.snapTime % 2 ^ 64), (Ob.CNT_SNAPSHOT_SEQ, fun s _ _ => s.cnt.snapSeq % 2 ^ 32),
  (Ob.CNT_PRESENT_TILE, fun _ _ _ => numberMap 1024 1 0 (fun n => bitNat (cntPresent n))),
  (Ob.CNT_PRESENT_PKG, fun _ _ _ => numberMap 512 1 0x2000 (fun n => bitNat (cntPresent n))),
  (Ob.CNT_START_TIME, fun s t _ => s.cnt.start.getD t 0 % 2 ^ 64),
  (Ob.REC_SAVE_INTERVAL_S, fun _ _ _ => 120),
  (Ob.REC_SEQ, fun s t _ => (s.rec_ t).seq % 2 ^ 32), (Ob.REC_HEAD, fun s t _ => (s.rec_ t).head),
  (Ob.REC_ENTRIES, fun s t _ => ((s.rec_ t).ring.filter (fun e => !e.released)).length),
  (Ob.REC_LAST_SAVE, fun s t _ => (s.rec_ t).lastSave.getD 0 % 2 ^ 64),
  (Ob.REC_PKG_SEQ, fun s _ _ => (s.rec_ 8).seq % 2 ^ 32), (Ob.REC_PKG_HEAD, fun s _ _ => (s.rec_ 8).head),
  (Ob.REC_PKG_ENTRIES, fun s _ _ => ((s.rec_ 8).ring.filter (fun e => !e.released)).length)]

/-- `FW_STATUS` (R499). -/
def Firmware.status (x : Firmware) : Nat :=
  let st (i : Nat) : Nat := match x.slots[i]? with
    | some q => q.st
    | none => 0
  packFields [(1, x.running), (3, 0), (2, st 0), (2, st 1), (1, 0), (3, x.activation), (2, 0), (2, x.nextBoot)]
/-- Balls of a part (R507). -/
def Part.balls : Part → Nat
  | .a2 => 2600
  | .a4 => 3968
  | .a8 => 6888
/-- A temperature as an S32 (R419). -/
def s32 (x : Int) : Nat := (x % 2 ^ 32).toNat
/-- The flush generation: the highest of the tiles' rings 0 (R472, 18). -/
def State.generation (s : State) : Nat := s.tileNumbers.foldl (fun m t => Nat.max m (((s.tile t).ps.ringValue 0).getD 0)) 0
/-- Objects of chapters 18 and 19. -/
def readers8 : List (Nat × Reader) := [
  (Ob.FW_STATUS, fun s _ _ => s.fw.status), (Ob.FW_SVN, fun s _ _ => s.runningSlot.svn), (Ob.FW_SVN_MIN, fun s _ _ => s.fw.svnMin),
  (Ob.OWNER_STATE, fun s _ _ => bitNat s.svc.owner.isSome), (Ob.POWERUP_COUNT, fun s _ _ => s.generation % 2 ^ 32),
  (Ob.HEALTH_CAUSE, fun s _ _ => s.dev.causes),
  (Ob.ERASE_STATUS, fun s _ _ => s.svc.eraseKind * 2 ^ 30 + s.svc.eraseState * 2 ^ 28 + min 100 s.svc.erasePercent),
  (Ob.TEMP_MAX_C, fun s _ _ => s32 s.hottest), (Ob.PART_BALLS, fun s _ _ => s.part.balls)]

/-- Every object that reports the state. -/
def readers : List (Nat × Reader) := readers1 ++ readers2 ++ readers3 ++ readers4 ++ readers5 ++ readers6 ++ readers7 ++ readers8

/-- A counter as the dictionary reports it: zero while the main domain is off (R445, R449). [DEDUCED, assumption 28] -/
def State.liveCounter (s : State) (c : Nat) : Nat := if s.dev.mainUp then s.counter c else 0
/-- The summary record of a code (R457). -/
def State.summaryOf (s : State) (code : Nat) : List Nat :=
  let r := if code < 0x600 then code / 0xC0 else 8
  ((s.rec_ r).sums.getD code (Summary.empty 0)).bytes code (s.recRate code)

/-- The present or applied value of an object, in bytes (R421, R423); `q` reads it, which matters to `STAGED_COUNT`. -/
def State.readOb (s : State) (q : Requester) (p : ObPlace) : List Nat :=
  if p.row.key = Ob.CNT_LIVE then bytesLE 8 (s.liveCounter p.off)
  else if p.row.key = Ob.CNT_SNAP then bytesLE 8 (if s.dev.mainUp then s.cnt.snap.getD p.off 0 else 0)
  else if p.row.key = Ob.REC_SUMMARY then s.summaryOf p.off
  else if p.row.key = Ob.STAGED_COUNT then
    bytesLE 2 (sumList ((s.mgmt.sets.filter (fun x => decide (x.req = q))).map (fun x => x.items.length)))
  else match longReaders.find? (fun x => decide (x.1 = p.row.key)) with
    | some x => x.2 s
    | none => match readers.find? (fun x => decide (x.1 = p.row.key)) with
      | some x => bytesLE p.row.size (x.2 s p.i p.off)
      | none => bytesLE p.row.size (s.applied p ||| s.liveBits p)

/-! ### The counter window (R452, R453) -/

/-- Whether an LD's grant has a bit: 0 to 7 a tile's counters, 8 the package counters (R453). -/
def State.windowGrant (s : State) (p l bit : Nat) : Bool := (s.cell (ldKey Ob.CNT_WINDOW_GRANT p l) 0).testBit bit
/-- The value of an aligned 8-byte read at an offset of an LD's counter window (R452); the counters of a tile that is not ACTIVE read zero (R446).
[DESIGN CHOICE, assumption 4] -/
def State.counterWindow (s : State) (p l off : Nat) : Nat :=
  let c := off / 8
  let any := (List.range 9).any (s.windowGrant p l)
  if off % 8 ≠ 0 then 0
  else if c < 0x2000 then
    (if s.windowGrant p l (c / 0x400) && decide (c / 0x400 < s.n) && s.tileActive (c / 0x400) then s.liveCounter c else 0)
  else if c < 0x2200 then (if s.windowGrant p l 8 then s.liveCounter c else 0)
  else if off = 0x11000 then (if any then s.now p else 0)
  else if 0x11100 ≤ off ∧ off < 0x11100 + 8 * s.n then (if any then s.cnt.start.getD ((off - 0x11100) / 8) 0 else 0)
  else 0
/-- A host reads its counter window: the value, and the count of the tile that serves it, which is the counter's own or the port's (R453). The table has no
row for such a read (assumption 4). -/
def State.readCounterWindow (s : State) (p l off : Nat) : State × Nat :=
  let c := off / 8
  let t := if c < 0x400 * s.n ∧ s.tileActive (c / 0x400) then c / 0x400 else p
  (s.tcount t Cn.CNT_WINDOW_READS 1, s.counterWindow p l off)

end Sys2Proof.Machine
end

