-- ==== Sys2Proof/Machine/Commit.lean ====
section
/-! DEFINITION. COMMIT: validation (R49, R52, R53, R62 to R67, R292, R313, R353, R356, R366 to R369, R435, R497), application
(R334, R356, R386, R436), interruption (R436). -/
namespace Sys2Proof.Machine
open Sys2Proof

/-- Objects of a set with their new values, by address (index × 256 + subindex). -/
abbrev Items := List (Nat × Nat)
/-- Why a COMMIT is refused: error code, DETAIL, the object the record names (R435). -/
structure Refused where
  code : Nat
  detail : Nat
  key : Nat
  deriving DecidableEq, Repr

/-- The set laid over the applied configuration (R435). -/
def State.overlay (s : State) (items : Items) : State := { s with obj := items.foldl (fun m x => m.insert x.1 x.2) s.obj }
/-- The applied value of an object by its address. -/
def State.appliedAt (s : State) (key : Nat) : Nat :=
  match s.findOb (key / 256) (key % 256) with
  | some p => s.applied p
  | none => 0
/-- The items of a set in ascending order of their addresses (R435). -/
def sortItems : Items → Items
  | [] => []
  | x :: rest =>
    let rec put (x : Nat × Nat) : Items → Items
      | [] => [x]
      | y :: ys => if x.1 ≤ y.1 then x :: y :: ys else y :: put x ys
    put x (sortItems rest)
/-- The objects of a set whose values differ from the applied ones. -/
def State.changes (s : State) (items : Items) : Items := items.filter (fun x => decide (s.appliedAt x.1 ≠ x.2))
/-- The first staged object that a rule concerns, else the object itself (R435). [DESIGN CHOICE, assumption 19] -/
def namedOf (items : Items) (concerns : Nat → Bool) (key : Nat) : Nat :=
  match items.find? (fun x => concerns x.1) with
  | some x => x.1
  | none => key

/-! ### Rules of one object (R435 step 1) -/

/-- Whether an address is an attribute of partition `p` (R64). -/
def isPartOb (p key : Nat) : Bool := decide (key / 256 = 0x3100 + p) || decide (key = Ob.inst Ob.SEAL_KX p)
/-- The rules of a staged object's own chapter that concern it alone and its state. `c` is the configuration with the set laid
over it. [DESIGN CHOICE, assumption 19] -/
def State.ownRule (s c : State) (key v : Nat) : Option Refused :=
  match s.findOb (key / 256) (key % 256) with
  | none => some { code := Err.noObject, detail := 0, key := key }
  | some p =>
    let no (code detail : Nat) : Option Refused := some { code := code, detail := detail, key := key }
    let old := s.applied p
    let changed := decide (old ≠ v)
    let port := p.i / 16
    let ld := p.i % 16
    if p.row.key = Ob.PART_ENABLE then
      if v = 1 ∧ (s.partn p.i).st = 2 then no Err.state Detail.partition else none
    else if p.row.key = Ob.PART_TILE_SET ∧ !([1, 2, 4, 8].contains (tilesOf v).length && decide (v < 2 ^ s.n)) then no Err.range 0
    else if (p.row.inst = .part) ∧ p.row.key ≠ Ob.PART_FEED_CLASS ∧ changed ∧ (s.partn p.i).st = 1 ∧ c.partOn p.i then
      no Err.state Detail.partition
    else if p.row.key = Ob.HDM_KX_CFG ∧ changed ∧ ((s.ld port ld).decoders.getD p.off Decoder.reset).committed then
      no Err.state Detail.object
    else if (p.row.key = Ob.LD_ALLOC_BASE ∨ p.row.key = Ob.LD_ALLOC_SIZE) ∧ changed ∧ (s.ld port ld).decoders.any Decoder.committed then
      no Err.state Detail.object
    else if p.row.key = Ob.DCR_CFG ∧ changed ∧ old.testBit 31 ∧ (s.ld port ld).blocks.any (fun b => decide (b.region = p.off)) then
      no Err.state Detail.object
    else if p.row.inst = .queue ∧ changed then
      let x := s.queue (p.i / 64) (p.i % 64)
      let on := decide (s.cell (Ob.inst Ob.SQ_ENABLE p.i) 0 = 1)
      if p.row.key = Ob.SQ_ENABLE then
        if v = 1 ∧ s.svc.eraseState = 1 then no Err.state Detail.device
        else if v = 1 ∧ !x.descs.isEmpty then no Err.state Detail.queue else none
      else if on ∧ p.row.key ≠ Ob.SQ_MSIX then no Err.state Detail.queue else none
    else none

/-! ### Rules of several objects (R435 step 2) -/

/-- The rules of partitions together (R52, R53, R62, R67). [DESIGN CHOICE, assumption 19] -/
def State.partRules (s c : State) (items : Items) : Option Refused :=
  let no (code detail p : Nat) : Option Refused :=
    some { code := code, detail := detail, key := namedOf items (isPartOb p) (Ob.inst Ob.PART_ENABLE p) }
  match c.overlapping with
  | some p => no Err.range 0 p
  | none => match (below 64 c.partOn).find? (fun p => !c.planLegal (c.partPlan p)) with
    | some p => no Err.range 0 p
    | none =>
      match c.newParts.find? (fun p => (tilesOf (c.partPlan p).tileSet).any (fun t => !s.tileActive t)) with
      | some p => no Err.state Detail.tile p
      | none => match c.placement with
        | .ok _ => none
        | .error p => if c.fitsLater then no Err.busy 0 p else no Err.range 0 p
/-- The rule of seal keys (R292). -/
def State.sealRules (s c : State) (items : Items) : Option Refused :=
  match c.newParts.find? (fun p => (c.partPlan p).isSealed && decide ((s.key (c.partPlan p).sealKx).st ≠ .loaded)) with
  | some p => some { code := Err.state, detail := Detail.object, key := namedOf items (isPartOb p) (Ob.inst Ob.SEAL_KX p) }
  | none => none

/-- Whether a range of DPAs lies in enabled partitions; one partition suffices when `alone`. -/
def State.coveredDpa (c : State) (alone : Bool) : Nat → Nat → Nat → Bool
  | 0, _, _ => false
  | fuel + 1, lo, hi =>
    if hi ≤ lo then true
    else match (below 64 c.partOn).find? (fun p => decide (c.partCell Ob.PART_DPA_BASE p 0 ≤ lo ∧
        lo < c.partCell Ob.PART_DPA_BASE p 0 + c.partCell Ob.PART_SIZE p 0)) with
      | none => false
      | some p =>
        let e := c.partCell Ob.PART_DPA_BASE p 0 + c.partCell Ob.PART_SIZE p 0
        if hi ≤ e then true else if alone then false else c.coveredDpa alone fuel e hi
/-- The rules of descriptor queues (R313). -/
def State.queueRules (c : State) (items : Items) : Option Refused :=
  let cell (ob i d : Nat) : Nat := c.cell (Ob.inst ob i) d
  let on := below (64 * c.n) (fun i => decide (cell Ob.SQ_ENABLE i 0 = 1))
  let bad (i : Nat) : Bool :=
    let owner := cell Ob.SQ_OWNER i 0
    let base := cell Ob.SQ_CQ_BASE i 0
    decide (c.n / 2 ≤ owner / 16)
      || on.any (fun j => decide (j < i ∧ cell Ob.SQ_OWNER j 0 = owner ∧ cell Ob.SQ_WINDOW j 0 = cell Ob.SQ_WINDOW i 0))
      || !c.coveredDpa true 1 base (base + 16 * cell Ob.SQ_CQ_SIZE i 256)
  match on.find? bad with
  | some i => some { code := Err.range, detail := 0, key := namedOf items (fun k => decide (k / 256 = 0x6100 + i)) (Ob.inst Ob.SQ_ENABLE i) }
  | none => none
/-- The rules of DevLoad thresholds and of reserves against rates (R334, R356). [DESIGN CHOICE, assumption 19] -/
def State.classRules (c : State) (items : Items) : Option Refused :=
  let t1 := c.cell Ob.DEVLOAD_T1_NS 64
  let t2 := c.cell Ob.DEVLOAD_T2_NS 512
  if t2 ≤ t1 then
    some { code := Err.range, detail := 0, key := namedOf items (fun k => decide (k = Ob.DEVLOAD_T1_NS ∨ k = Ob.DEVLOAD_T2_NS)) Ob.DEVLOAD_T2_NS }
  else
    let beyond (w : Bool) (k : Nat) : Bool := decide (c.ceilRate k w ≠ 0 ∧ c.ceilRate k w < c.reserve k w)
    match feedClasses.find? (fun k => beyond false k || beyond true k) with
    | none => none
    | some k =>
      let w := !beyond false k
      let rate := Ob.inst (if w then Ob.CLASS_WR_RATE else Ob.CLASS_RD_RATE) k
      let res := Ob.inst (if w then Ob.CLASS_WR_RESERVE else Ob.CLASS_RD_RESERVE) k
      some { code := Err.range, detail := 0, key := namedOf items (fun q => decide (q = rate ∨ q = res)) res }
/-- Whether the regions of an LD overlap, leave its allocation or leave the enabled partitions (R369). -/
def State.regionsBad (c : State) (p l : Nat) : Option Nat :=
  let a := c.alloc p l
  (List.range 8).find? (fun r =>
    let g := c.region p l r
    let lo := a.1 + g.off * 2 ^ 30
    let hi := lo + g.size * 2 ^ 30
    g.on && (decide (a.1 + a.2 < hi) || !c.coveredDpa false 64 lo hi ||
      (List.range r).any (fun q =>
        let h := c.region p l q
        h.on && decide (g.off < h.off + h.size ∧ h.off < g.off + g.size))))
/-- The rules of ports and logical devices (R366, R367, R369). [DESIGN CHOICE, assumption 19] -/
def State.portRules (c : State) (items : Items) : Option Refused :=
  let lds := below 128 (fun i => c.portUsed (i / 16) && decide (i % 16 < (if c.pairX8 (i / 32) then 8 else 16)))
  let range (concerns : Nat → Bool) (key : Nat) : Option Refused := some { code := Err.range, detail := 0, key := namedOf items concerns key }
  let spid (i : Nat) : Nat := c.cell (Ob.inst Ob.LD_SPID i) 0xFFFF
  match lds.find? (fun i => decide (spid i ≠ 0xFFFF) && lds.any (fun j => decide (j < i ∧ j / 16 = i / 16 ∧ spid j = spid i))) with
  | some i => range (fun k => decide (k % 256 = Ob.LD_SPID % 256 ∧ 0xC100 + i / 16 * 16 ≤ k / 256 ∧ k / 256 < 0xC110 + i / 16 * 16)) (Ob.inst Ob.LD_SPID i)
  | none =>
    let size (i : Nat) : Nat := c.cell (Ob.inst Ob.LD_ALLOC_SIZE i) 0
    match lds.find? (fun i => decide (c.part.capacity < c.cell (Ob.inst Ob.LD_ALLOC_BASE i) 0 + size i)) with
    | some i => range (fun k => decide (k = Ob.inst Ob.LD_ALLOC_BASE i ∨ k = Ob.inst Ob.LD_ALLOC_SIZE i)) (Ob.inst Ob.LD_ALLOC_SIZE i)
    | none => match lds.findSome? (fun i => (c.regionsBad (i / 16) (i % 16)).map (fun r => (i, r))) with
      | some (i, r) => range (fun k => decide (k / 256 = 0xC200 + i) || decide (k / 256 = 0xC100 + i) || decide (0x3100 ≤ k / 256 ∧ k / 256 < 0x3140))
          (Ob.inst Ob.DCR_CFG i + r)
      | none => none

/-! ### The reservation check (R353) -/

/-- The class whose addition first breaks a sum of shares: shares in 1/`unit` MB/s. -/
def firstOver (cap : Frac) (unit : Nat) (share : Nat → Nat) : Nat → List Nat → Option Nat
  | _, [] => none
  | sum, k :: rest =>
    let sum1 := sum + share k
    if cap.1 * unit < sum1 * cap.2 then some k else firstOver cap unit share sum1 rest
/-- The class and direction that breaks the reservation check (R353). [DESIGN CHOICE, assumption 19] -/
def State.overBudget (c : State) : Option (Nat × Bool) :=
  let dirs : List Bool := [false, true]
  let none_ := (feedClasses.map (fun k => dirs.map (fun w => (k, w)))).flatten.find? (fun x =>
    decide (c.reserve x.1 x.2 ≠ 0) && (c.classTiles x.1).isEmpty)
  match none_ with
  | some x => some x
  | none =>
    let tiles := (c.tileNumbers.filter c.tileActive).findSome? (fun t => dirs.findSome? (fun w =>
      (firstOver (c.tileCapacity c.peff t w) 840 (fun k => c.tileShare k t w) 0 feedClasses).map (fun k => (k, w))))
    match tiles with
    | some x => some x
    | none => (below 8 c.portUsed).findSome? (fun p => dirs.findSome? (fun w =>
        (firstOver (c.portCapacity p) 100 (fun k => if classPort c k = some p then c.portShare k w else 0) 0 feedClasses).map (fun k => (k, w))))
/-- Whether a changed object calls for the reservation check. -/
def budgetOb (key : Nat) : Bool :=
  decide (key = Ob.POWER_CAP_W) || (decide (0x7100 ≤ key / 256 ∧ key / 256 < 0x7142) &&
    [Ob.CLASS_RD_RESERVE, Ob.CLASS_WR_RESERVE, Ob.CLASS_TILES, Ob.CLASS_SCRIBE_PCT].any (fun k => decide (k % 256 = key % 256)))
/-- The reservation check of a COMMIT (R353). -/
def State.budgetRule (s c : State) (items : Items) : Option Refused :=
  let ch := s.changes items
  if ch.any (fun x => budgetOb x.1) then
    match c.overBudget with
    | none => none
    | some (k, w) =>
      let capped := s.overlay (ch.filter (fun x => decide (x.1 = Ob.POWER_CAP_W)))
      let key := if ch.any (fun x => decide (x.1 = Ob.POWER_CAP_W)) ∧ capped.overBudget.isSome then Ob.POWER_CAP_W
        else Ob.inst (if w then Ob.CLASS_WR_RESERVE else Ob.CLASS_RD_RESERVE) k
      some { code := Err.budget, detail := 0, key := key }
  else none

/-- Validation of a set (R435): the first rule that it breaks. [DESIGN CHOICE, assumption 19] -/
def State.validate (s : State) (items : Items) : Option Refused :=
  let c := s.overlay items
  match items.findSome? (fun x => s.ownRule c x.1 x.2) with
  | some e => some e
  | none => ([s.partRules c items, s.sealRules c items, c.queueRules items, c.classRules items, c.portRules items, s.budgetRule c items]).findSome? id

/-! ### Applying (R436) -/

/-- The clamp of the hold-up energy in lines (R143). [DESIGN CHOICE, assumption 12] -/
def State.energyClamp (s : State) : Nat := (80 * s.sup.cap - 2 * 10 ^ 11) / (s.n * 780000) / 16384 * 16384
/-- The effective dirty limit is computed anew in every tile (R143, R144). -/
def State.setLimits (s : State) : State :=
  let want := s.cell Ob.DIRTY_LIMIT 32 * 16384
  let l := min (min want s.energyClamp) 1048576
  let s1 := s.each s.tileNumbers (fun s' t =>
    let s2 := s'.modRes t (fun r => { r with limit := l })
    let s3 := if l < want then s2.tev t Ev.DIRTY_LIMIT_CLAMPED 0xFF (s.cell Ob.DIRTY_LIMIT 32) [(4, l), (8, s.sup.ehold)] else s2
    s3.noteGate t)
  s1.degrade
/-- What an LD's CDAT says of a configuration (R386): its partitions with their classes. -/
def State.cdatOf (s : State) (p l : Nat) : List (Nat × Nat × Nat × Nat) :=
  let a := s.alloc p l
  (s.parts.filter (fun x => decide (x.2.st = 1 ∧ x.2.base < a.1 + a.2 ∧ a.1 < x.2.base + x.2.size))).map (fun x =>
    (max a.1 x.2.base - a.1, min (a.1 + a.2) (x.2.base + x.2.size) - a.1, bitNat x.2.spanned, bitNat x.2.isSealed))
/-- The CDAT of every logical device. -/
def State.cdat (s : State) : List (List (Nat × Nat × Nat × Nat)) := s.allLds.map (fun i => s.cdatOf (i / 16) (i % 16))
/-- Raises `CDAT_SEQ` when the CDAT has changed (R386). [DESIGN CHOICE, assumption 19] -/
def State.noteCdat (s before : State) : State :=
  if s.cdat = before.cdat then s else s.setCell Ob.CDAT_SEQ ((s.cell Ob.CDAT_SEQ 0 + 1) % 2 ^ 32)
/-- A queue is enabled or disabled at the apply point (R313, R314). -/
def State.applyQueue (s : State) (i v : Nat) : State :=
  if v = 1 then s.modQueue (i / 64) (i % 64) (fun _ => { Queue.reset with st := 1 })
  else s.modQueue (i / 64) (i % 64) (fun q => { q.flush with st := 0 })
/-- The values of a set are saved in a tile's parameter store (R436). -/
def State.saveConfig (s : State) (t : Nat) (items : Items) : State :=
  (s.pageCommit t 1440).modPs t (fun p => { p with config := items.foldl (fun m x => m.insert x.1 x.2) p.config })
/-- Every ACTIVE tile takes the values of a set at one point in its decode order (R63, R436 step 2). -/
def State.applySet (s : State) (items : Items) : State :=
  let ch := s.changes items
  let c := s.overlay items
  let placed := match c.placement with
    | .ok l => l
    | .error _ => []
  let s1 := c.each c.goneParts (fun s' p => s'.disablePart p)
  let s2 := s1.each placed (fun s' x => s'.enablePart x.1 x.2)
  let queues := ch.filter (fun x => decide (x.1 % 256 = Ob.SQ_ENABLE % 256 ∧ 0x6100 ≤ x.1 / 256 ∧ x.1 / 256 < 0x6300))
  let s3 := s2.each queues (fun s' x => s'.applyQueue (x.1 / 256 - 0x6100) x.2)
  let classes := (ch.filter (fun x => decide (0x7100 ≤ x.1 / 256 ∧ x.1 / 256 < 0x7142))).map (fun x => x.1 / 256 - 0x7100)
  let full : Buckets := { rdCeil := 0, rdRes := 0, wrCeil := 0, wrRes := 0 }
  let s4 := s3.each classes.eraseDups (fun s' k => s'.modCls k (fun y => { y with host := full, scribe := full }))
  let s5 := if ch.any (fun x => decide (x.1 = Ob.DIRTY_LIMIT)) then s4.setLimits else s4
  let s6 := s5.each s5.activeTiles (fun s' t => s'.saveConfig t items)
  s6.noteCdat s

/-- A requester as `DICT_LAST_ERROR` and `COMMIT_STATUS` name it (R429). -/
def Requester.code (q : Requester) : Nat := q.src % 65536
/-- Writes `COMMIT_STATUS` (R436); it is kept in the journal (R470). -/
def State.setCommitStatus (s : State) (result : Nat) (q : Requester) : State :=
  let v := s.cell Ob.CONFIG_GENERATION 0 * 2 ^ 32 + result * 2 ^ 24 + q.code * 2 ^ 8
  let s1 := s.setCell Ob.COMMIT_STATUS v
  s1.each (s1.activeTiles.filter (fun t => decide (t < 2))) (fun s' t =>
    s'.modPs t (fun p => { p with config := (p.config.insert Ob.COMMIT_STATUS v).insert Ob.CONFIG_GENERATION (s1.cell Ob.CONFIG_GENERATION 0) }))
/-- Journal, application, done (R434, R436): the journal's header is a page commit in tiles 0 and 1 (R470). -/
def State.commitWhole (s : State) (q : Requester) (items : Items) : State :=
  let s1 := s.each (s.activeTiles.filter (fun t => decide (t < 2))) (fun s' t => s'.pageCommit t 3400)
  let s2 := s1.applySet items
  let gen := min 0xFFFFFFFE (s2.cell Ob.CONFIG_GENERATION 0 + 1)
  let s3 := (s2.setCell Ob.CONFIG_GENERATION gen).setCommitStatus 0 q
  ((s3.count Cn.COMMITS_APPLIED 1)).pev Ev.COMMIT_APPLIED gen [(2, q.code), (4, items.length)]
/-- A COMMIT of a set (R434 to R436): what it leaves, or the error that refuses it whole. -/
def State.commitSet (s : State) (q : Requester) (expected : Nat) (set : Items) : State × Option Refused :=
  let items := sortItems set
  if expected ≠ 0xFFFFFFFF ∧ expected ≠ s.cell Ob.CONFIG_GENERATION 0 then
    let e : Refused := { code := Err.state, detail := Detail.generation, key := Ob.COMMIT }
    ((s.setCommitStatus e.code q).count Cn.COMMITS_REFUSED 1, some e)
  else if items.isEmpty then (s, none)
  else match s.validate items with
    | none => (s.commitWhole q items, none)
    | some e =>
      let s1 := (s.setCommitStatus e.code q).count Cn.COMMITS_REFUSED 1
      (if e.code = Err.budget then s1.pev Ev.BUDGET_REFUSED (e.key / 256) [(1, e.key % 256)] else s1, some e)

/-- A COMMIT whose journal was not whole when the core failed (R436): not applied, TORN. -/
def State.commitTorn (s : State) (q : Requester) : State :=
  ((s.setCommitStatus Err.torn q).raise Ob.DICT_STATUS 1 (Ob.DICT_OCC + 1)).pev Ev.COMMIT_TORN q.code []
/-- A journal that a core left behind is completed, or found not whole (R436). [DEDUCED, assumption 48] -/
def State.settleJournal (s : State) : State :=
  match s.mgmt.journal with
  | none => s
  | some j =>
    let s1 : State := { s with mgmt := { s.mgmt with journal := none } }
    if j.whole then s1.commitWhole j.req j.items else s1.commitTorn j.req

end Sys2Proof.Machine
end

