-- ==== Sys2Proof/Machine/Drain.lean ====
section
/-! DEFINITION. DRAIN: its triggers (R409, R410), its entry (R149 step 1, R202, R299, R330, R480, R490, R497), the flush of each tile (R149, R150,
R151, R305, R465), SAFE (R411), the end of an isolation flush (R262). -/
namespace Sys2Proof.Machine
open Sys2Proof

/-! ### Main domain (R28, R404, R445) -/

/-- Counters start from zero again: nothing counted, no snapshot running (R445, R450). -/
def Counters.cleared (c : Counters) : Counters :=
  { c with resCorrected := 0, corrected := 0, live := [], owed := [], snap := [], snapSeq := c.snapSeq + c.snapSeq % 2, snapArg := none, snapDone := [] }
/-- The main domain is cut: VDDC commanded to 0 mV, the performance counters lost (R404). -/
def State.cutMain (s : State) : State :=
  { s with dev := { s.dev with mainUp := false }, cnt := s.cnt.cleared,
           sup := { s.sup with vddcCmd := 0, vddcFrom := 0, vddcAt := s.pkgNow } }

/-! ### Isolation flush (R262) -/

/-- Whether a tile has no line left to flush (R149 steps 2 and 3). -/
def Tile.flushed (x : Tile) : Bool :=
  x.res.entries.all (fun e => decide (e.st ≠ .dirty ∧ e.st ≠ .incomplete ∧ e.st ≠ .inflight)) && x.res.evicts.isEmpty &&
  x.res.strokes.isEmpty && x.res.opens.isEmpty && x.res.deltaOut.isEmpty
/-- Roots of a tile are saved in its parameter store (R305). -/
def State.saveRoots (s : State) (t : Nat) : State :=
  let gen := ((s.tile t).ps.ringValue 0).getD 0
  (s.pageCommit t 2336).modPs t (fun p => { p with roots := ((s.tile t).sealing.filter (fun x => !x.rootLost)).map (fun x =>
    ({ part := x.part, generation := gen, root := x.root } : SavedRoot)) })
/-- The isolation flush of tile `t` completes: FLUSH_DONE is committed and the recorder saved (R262, R465). -/
def State.isoDone (s : State) (t : Nat) : State :=
  let s1 := ((s.saveRoots t).pageCommit t 16).modPs t (fun p => { p with flushDone := p.ringValue 0 })
  let s2 := if (s1.rec_ t).loaded then s1.saveRecorder t else s1
  (s2.modFence t (fun f => { f with isoFlush := 2 })).tev t Ev.FLUSH_DONE_RECORDED 0xFF (s.tile t).res.flushed
    [(8, s.now t - (s.tile t).fence.fenceTime)]
/-- The isolation flush of tile `t` has not completed within its bound: the plain lines of the shadow record are LOST (R262). -/
def State.isoFail (s : State) (t : Nat) : State :=
  let lines := match s.shadowRecOf t with
    | some r => ((r.entries.filter (fun e => decide (e.kind = 1))).map ShadowEntry.addr).filter (fun l => !s.spannedSeg t (lsegOf l))
    | none => []
  let s1 := s.each lines (fun s' l => s'.loseLine t ((s.partOfSeg t (lsegOf l)).getD 0) l ((s.tile t).lineSlot l) 2)
  let s2 := s1.modFence t (fun f => { f with isoFlush := 3, plainLost := lines.length })
  s2.pevAt (fenceTile t) Ev.PLAIN_SHARE_LOST 0xFF t [(4, lines.length)]
/-- ISOLATION_FLUSH_END (R262): the isolation flush of a fenced tile completes, or has not by its bound. -/
def execIsolationFlushEnd (t : Nat) (s : State) : Host.Outcome State Fault Refusal :=
  .next (if t < s.n ∧ (s.tile t).fence.st = .fenced ∧ (s.tile t).fence.isoFlush = 1 then
      (if (s.tile t).flushed then s.isoDone t else s.isoFail t)
    else s)

/-! ### DRAIN entry -/

/-- Triggers of the kind "from VHOLD" (R409). -/
def fromHold (c : Nat) : Bool := decide (c = 4 ∨ c = 5 ∨ c = 6 ∨ c = 9)
/-- Triggers that cut the main domain at DRAIN entry (R409). -/
def cutsMain (c : Nat) : Bool := fromHold c || decide (c = 8)

/-- The tiles whose flush a DRAIN waits for: those that own lines (R149, R253); a FENCED or REJOINING tile has none left to flush.
[DESIGN CHOICE, assumption 20] -/
def State.flushTiles (s : State) : List Nat :=
  s.tileNumbers.filter (fun t => decide ((s.tile t).fence.st = .active ∨ (s.tile t).fence.st = .fencing))
/-- Tiles whose part of the DRAIN goes on. [DESIGN CHOICE, assumption 20] -/
def State.flushOpen (s : State) : List Nat :=
  s.flushTiles.filter (fun t => !s.dev.flushDone.contains t && !s.dev.flushStop.contains t)

/-- A port goes to electrical idle at DRAIN entry (R404, R409): what it has not got accepted is discarded (R154). A loss of VIN or of
presence is a LINK_DOWN of cause 6 (13). [DEDUCED, assumption 32] -/
def State.idlePort (s : State) (cause p : Nat) : State :=
  if cause = 4 ∨ cause = 5 then s.linkDown p 6
  else if (s.port p).up then
    ((s.modPort p Port.down).discard p none).raise (Ob.inst Ob.PORT_ERR_STATUS p) 0 (Ob.inst Ob.PORT_ERR_OCC p)
  else s

/-- Steps 1 and 2 of R149 in one tile: no read is served any more, patrol, rotation and migration stop, the flip mask is discarded,
what is evicted from now on is flushed. [DESIGN CHOICE, assumption 20] -/
def State.drainTile (s : State) (t : Nat) : State :=
  let s1 := (s.discardFlip t 3).each ((s.tile t).map.migs.map Migration.lseg) (fun s' l => s'.abandonMigration t l 1)
  let kept := (s1.tile t).rd.rds.filter (fun r => decide (r.why ≠ .host))
  let has (id : Nat) : Bool := kept.any (fun r => decide (r.id = id))
  let s2 := s1.modRd t (fun y => { y with
    waiting := [], rds := kept, senses := y.senses.filter (fun q => has q.rd),
    holds := y.holds.filter (fun h => has h.rd || decide (2 ^ 40 ≤ h.rd)),
    rdUse := List.replicate 16 0, wrUse := List.replicate 16 0, nibUse := List.replicate 256 0 })
  (s2.modPat t (fun p => { p with visit := none })).modRes t (fun r => { r with
    pwaits := [], cmpWait := r.cmpWait.map Req.mute, cmpHeld := r.cmpHeld.map Req.mute, gpf := [], flush := 1, flushed := 0,
    strokes := r.strokes.map (fun (k : Stroke) => if k.running then k else { k with flush := true, priority := 1 }),
    evicts := r.evicts.map (fun (e : Evict) => ({ e with flush := true } : Evict)) })

/-- A live update is abandoned (R490). [DEDUCED, assumption 33] -/
def State.abandonUpdate (s : State) : State :=
  if 1 ≤ s.mgmt.update ∧ s.mgmt.update < 5 then
    (({ s with mgmt := { s.mgmt with update := 0, takeover := false }, fw := { s.fw with activation := 4 } }.alert 4)).pev
      Ev.FW_ACTIVATION_FAILED s.mgmt.update []
  else { s with mgmt := { s.mgmt with update := 0, takeover := false },
                fw := { s.fw with activation := if s.mgmt.update = 5 then 3 else s.fw.activation } }
/-- An erase under way is kept in the parameter store, to start again after the next bring-up (R497). -/
def State.keepErase (s : State) : State :=
  let s1 : State := { s with svc := { s.svc with bgOp := 0 } }
  if s.svc.eraseState = 1 then
    { s1 with svc := { s1.svc with eraseState := 3 } }.each s.activeTiles (fun s' t => s'.modPs t (fun p => { p with eraseKind := s.svc.eraseKind }))
  else s1
/-- A key change that a DRAIN interrupts leaves the slot as the key store has it. [DEDUCED, assumption 35] -/
def State.dropKeyChange (s : State) : State :=
  match s.keys.change with
  | none => s
  | some c =>
    let slots := if (s.key c.slot).st = .purging then s.keys.slots.insert c.slot { s.key c.slot with st := .loaded } else s.keys.slots
    { s with keys := { slots := slots, change := none } }

/-- The bit of a trigger in SEEN of `DRAIN_CAUSE` (R410). -/
def State.noteSeen (s : State) (c : Nat) : State := { s with dev := { s.dev with drainSeen := setBit s.dev.drainSeen (c - 1) } }

/-- DRAIN entry with cause `c` (R409, R149 step 1, R480). -/
def State.enterDrain (s : State) (c : Nat) : State :=
  let row := if s.inService then 12 else 8
  let s0 := if s.inService then s.count Cn.DRAIN_ENTRIES 1 else s
  let s1 := ({ s0 with dev := { s0.dev with
    drainCause := c, drainSeen := 2 ^ (c - 1), drainAt := s.pkgNow, inputReturned := false, flushDone := [], flushStop := [],
    recordsDue := [], memActive := false } }.goto .drain row).pev Ev.DRAIN_ENTERED c [(1, Config.eventCode (bitNat (fromHold c)))]
  let s2 := ((s1.abortScrub 2).abandonUpdate).keepErase
  let s3 := ((s2.stopQueues).dropKeyChange).endSessions 4
  let s4 := s3.each (List.range 8) (fun s' p => s'.idlePort c p)
  let s5 := s4.each s4.tileNumbers (fun s' t =>
    if (s'.tile t).fence.st = .rejoining then
      s'.modFence t (fun f => { f with st := .fenced, rejoinStep := 0 })
    else if s'.tileActive t ∨ (s'.tile t).fence.st = .fencing then s'.drainTile t else s')
  let s6 := { s5 with sup := { s5.sup with onHold := s5.sup.onHold || fromHold c } }
  if cutsMain c then s6.cutMain else s6

/-! ### SAFE -/

/-- The persistence-domain rails are off (R411 step 4): what their SRAM held is gone. [DESIGN CHOICE, assumption 30] -/
def State.railsOff (s : State) : State :=
  let s1 := { s with
    tiles := s.tiles.map (fun (x : Tile) => { x with
      sup := { x.sup with railsUp := false, btLimit := false, above6 := none, okSince := none },
      res := { TileRes.reset with limit := x.res.limit }, rd := TileRead.reset, sealing := [],
      pat := { x.pat with visit := none, pace := 0, accel := [], accelOn := false, overdue := false } }),
    recs := (s.recs.zipIdx).map (fun (x : Recorder × Nat) => if x.2 < 8 then Recorder.empty
      else { Recorder.empty with staged := x.1.staged }) }
  { s1 with sup := { s1.sup with onHold := false } }

/-- What a device reset clears at the ports and logical devices (R483): decoders, IDE keys, logs; extents are kept. -/
def State.resetPorts (s : State) : State :=
  { s with
    ports := s.ports.map (fun (p : Port) => { Port.reset with maxRate := p.maxRate, order := p.order }),
    lds := s.lds.map (fun (x : Nat × LD) => (x.1, { LD.reset with blocks := x.2.blocks })) }

/-- THERMTRIP_N is asserted (R415). [DEDUCED, assumption 39] -/
def State.thermtrip (s : State) (die : Nat) : State :=
  if s.sup.thermtrip then s
  else (({ s with sup := { s.sup with thermtrip := true } }.supplyBit 8).alert 3).pev Ev.THERMTRIP die [(4, (s.hottest % 2 ^ 32).toNat)]

/-- Tile bits of a list. -/
def bitsOfTiles (l : List Nat) : Nat := sumList (l.eraseDups.map (fun t => 2 ^ t))
/-- `DRAIN_CAUSE` is kept in the parameter stores (R416). [DESIGN CHOICE, assumption 30] -/
def State.keepCause (s : State) : State :=
  s.each s.tileNumbers (fun s' t => s'.modPs t (fun p => { p with drainCause := s.dev.drainCause * 2 ^ 28 + s.dev.drainSeen }))
/-- SAFE (R411 steps 3 and 4). [DESIGN CHOICE, assumption 30] -/
def State.enterSafe (s : State) : State :=
  let done := if 7 ≤ s.dev.bringup then s.dev.flushDone else []
  let s0 := s.each s.tileNumbers (fun s' t => if (s'.tile t).fence.isoFlush = 1 then s'.isoFail t else s')
  let s1 := (s0.setCell Ob.FLUSH_LAST_RESULT (bitsOfTiles done + 2 ^ 8 * bitsOfTiles s.dev.flushStop)).setCell Ob.FLUSH_LAST_TIME_US
    (((s.pkgNow - s.dev.drainAt) / 1000) % 2 ^ 32)
  let s2 := (s1.keepCause).goto .safe 13
  let s3 := if s.dev.drainCause = 8 then s2.thermtrip 0xFF else s2
  let s4 := if s3.dev.mainUp then s3.cutMain else s3
  let s5 := s4.resetPorts.railsOff
  { s5 with
    sup := { s5.sup with seqOut := false },
    dev := { s5.dev with bringup := 0, upReq := false },
    feed := State.reset.feed,
    queues := s5.queues.map (fun (x : Nat × Queue) => (x.1, { x.2.flush with descs := [], failed := none })) }
/-- Cells that survive a loss of VAUX or a power cycle beside the applied configuration: what the parameter store holds (R384, R416, R470, R471) and the
outcome of the last DRAIN. [DESIGN CHOICE, assumption 30] -/
def keptCells : List Nat := [Ob.CONFIG_GENERATION, Ob.COMMIT_STATUS, Ob.FLUSH_LAST_RESULT, Ob.FLUSH_LAST_TIME_US, Ob.TEMP_MAX_LIFE_C,
  Ob.DIRTY_SHUTDOWN_COUNT, Ob.DC_GENERATION]
/-- The applied configuration as tile 0 or tile 1 has it saved, the newer one (R470). -/
def State.savedConfig (s : State) : Sparse Nat :=
  let gen (t : Nat) : Nat := (s.tile t).ps.config.getD Ob.CONFIG_GENERATION 0
  if gen 0 < gen 1 then (s.tile 1).ps.config else (s.tile 0).ps.config
/-- VAUX is removed (R475): what is left is the medium, the parameter stores, the flash and the fuses. [DESIGN CHOICE, assumption 36] -/
def State.unpower (s : State) : State :=
  let kept := keptCells.filterMap (fun k => (s.obj.find k).map (fun v => (k, v)))
  let cause := (s.tile 0).ps.drainCause
  let erase := (s.tile 0).ps.eraseKind
  { State.reset with
    pending := s.pending, part := s.part, out := s.out, freeCtr := s.freeCtr, refK0 := s.refK0, refK1 := s.refK1,
    dev := { State.reset.dev with st := .unpowered, drainCause := cause / 2 ^ 28, drainSeen := cause % 2 ^ 28 },
    sup := { State.reset.sup with vddcCmd := 0, vddcFrom := 0 },
    fw := { s.fw with activation := 0 },
    svc := { State.reset.svc with owner := s.svc.owner, eraseKind := erase, eraseState := if erase = 0 then 0 else 3 },
    obj := kept.foldl (fun m x => m.insert x.1 x.2) s.savedConfig,
    tiles := s.tiles.zipIdx.map (fun (x : Tile × Nat) => { Tile.reset 8 x.2 with
      med := { x.1.med with flipArmed := false }, map := x.1.map, fence := x.1.fence, ps := x.1.ps }),
    lds := s.lds.map (fun (x : Nat × LD) => (x.1, { LD.reset with blocks := x.2.blocks })),
    keys := { slots := s.keys.slots, change := none }, parts := s.parts,
    queues := s.queues.map (fun (x : Nat × Queue) => (x.1, { x.2.flush with descs := [], failed := none })) }
/-- SAFE is entered when every tile reports done or is stopped and every shadow record is written (R149 step 8). -/
def State.settleDrain (s : State) : State :=
  if s.dev.st = .drain ∧ s.flushOpen.isEmpty ∧ s.dev.recordsDue.isEmpty then
    (if s.sup.vauxGone then s.enterSafe.unpower else s.enterSafe)
  else s

/-- A trigger of R409: it starts a DRAIN, or in DRAIN is recorded in SEEN and may switch to VHOLD and cut the main domain (R410).
[DEDUCED, assumption 31] -/
def State.drainTrigger (s : State) (c : Nat) : State :=
  if s.fenceStates then (s.enterDrain c).settleDrain
  else if s.dev.st = .drain then
    let s1 := s.noteSeen c
    let s2 := if s.pkgNow = s.dev.drainAt ∧ c < s.dev.drainCause then { s1 with dev := { s1.dev with drainCause := c } } else s1
    if fromHold c then
      let s3 : State := { s2 with sup := { s2.sup with onHold := true } }
      if s3.dev.mainUp then s3.cutMain else s3
    else s2
  else s

/-! ### The flush of a tile -/

/-- Deltas of spanned lines of other tiles that may still reach tile `t` (R250). -/
def State.deltasToCome (s : State) (t : Nat) : Bool :=
  s.flushTiles.any (fun u => decide (u ≠ t) && !s.dev.flushStop.contains u &&
    (!(s.tile u).res.deltaOut.isEmpty || (s.tile u).res.entries.any (fun e => (s.partn e.part).spanned && decide (e.kind ≠ .span ∧
      (e.st = .dirty ∨ e.st = .incomplete ∨ e.st = .inflight)))))
/-- Ring values that a tile saves at DRAIN step 5 (R471). -/
def State.saveRings (s : State) (t : Nat) : State :=
  let x := s.tile t
  s.modPs t (fun p => (((p.saveRing 2 x.pat.drift).saveRing 4 x.med.strokes).saveRing 5 (x.time.onNs / 10 ^ 9)).saveRing 6
    (s.cell Ob.TEMP_MAX_LIFE_C 0))
/-- `SHUTDOWN_STATE` is written clean when every tile has committed FLUSH_DONE (R384). -/
def State.noteClean (s : State) : State :=
  if s.tileNumbers.all (fun t => decide ((s.tile t).ps.flushDone = some s.generation)) then
    (s.setCell Ob.SHUTDOWN_STATE 0).each s.tileNumbers (fun s' t => s'.modPs t (fun p => { p with config := p.config.insert Ob.SHUTDOWN_STATE 0 }))
  else s
/-- A mirror tile that is to write a shadow record (R150); none for a tile whose mirror tile is absent or stopped (R412). -/
def State.recordWriter (s : State) (t : Nat) : Option Nat :=
  let m := s.mirrorOf t
  if m < s.n ∧ s.tileActive m ∧ !s.dev.flushStop.contains m then some m else none
/-- Whether the reconcile of this power-up is complete (R480). -/
def State.reconciled (s : State) : Bool := decide (7 ≤ s.dev.bringup)
/-- Whether this power-up has raised the flush generation (R478 step B4). -/
def State.generationRaised (s : State) : Bool := decide (4 ≤ s.dev.bringup)
/-- A shadow record falls due once the tile has reported done or is stopped (R149 step 7). -/
def State.owe (s : State) (t : Nat) : State :=
  if s.generationRaised && (s.recordWriter t).isSome then { s with dev := { s.dev with recordsDue := s.dev.recordsDue ++ [t] } } else s

/-- Steps 4 to 6 of R149 in tile `t`. -/
def State.flushComplete (s : State) (t : Nat) : State :=
  let s1 := (s.saveRoots t).saveRings t
  let s2 := if (s1.rec_ t).loaded then s1.saveRecorder t else s1
  let s3 := if s.reconciled then
      ((s2.pageCommit t 16).modPs t (fun p => { p with flushDone := p.ringValue 0 })).tev t Ev.FLUSH_DONE_RECORDED 0xFF
        (s.tile t).res.flushed [(8, s.now t - s.dev.drainAt)]
    else s2
  let s4 := { s3 with dev := { s3.dev with flushDone := s3.dev.flushDone ++ [t] } }.modRes t (fun r => { r with flush := 2 })
  ((s4.owe t).noteClean).settleDrain

/-- DRAIN_FLUSH_DONE (R149): every line of tile `t` is on the medium; it saves its roots, its recorder and its rings, commits
FLUSH_DONE and reports done. -/
def execDrainFlushDone (t : Nat) (s : State) : Host.Outcome State Fault Refusal :=
  .next (if s.dev.st = .drain ∧ s.flushOpen.contains t ∧ (s.tile t).flushed ∧ !s.deltasToCome t then s.flushComplete t else s)

/-- What a stroke that was cut off leaves in its slot. [DEDUCED, assumption 9] -/
def State.tearStroke (s : State) (t : Nat) (k : Stroke) : State :=
  (s.modMed t (fun m => { m with slots := m.slots.insert k.slot (Config.freeCodeword s.freeCtr) })).bumpFree
/-- A persistence-domain fault stops the flush of tile `t` (R151, R412): nothing more of it reaches the medium. [DEDUCED, assumption 9] -/
def State.stopFlush (s : State) (t : Nat) : State :=
  if s.dev.st = .drain ∧ s.flushOpen.contains t then
    let m := s.mirrorOf t
    let s1 := s.each ((s.tile t).res.strokes.filter (fun k => k.running)) (fun s' k => s'.tearStroke t k)
    let s2 := (s1.modRes t (fun r => { r with flush := 3, strokes := [], evicts := [] })).modRd t (fun y => { y with rds := [], senses := [], holds := [] })
    let s3 := { s2 with dev := { s2.dev with
      flushStop := s2.dev.flushStop ++ [t],
      recordsDue := s2.dev.recordsDue.filter (fun u => decide (s.mirrorOf u ≠ t)) } }
    let s4 := if m < s.n then s3.tev m Ev.FLUSH_STOPPED 0xFF t [] else s3
    (s4.owe t).settleDrain
  else s
/-- TILE_FLUSH_SILENCE (R150): tile `t` has not reported for 10 µs in DRAIN. -/
def execTileFlushSilence (t : Nat) (s : State) : Host.Outcome State Fault Refusal := .next (s.stopFlush t)

/-- The shadow record that the mirror tile `m` of tile `t` writes (R150, R480): before the reconcile of this power-up was complete it
carries on what the previous record listed; none when the previous generation left neither FLUSH_DONE nor a whole record. [DEDUCED, assumption 37] -/
def State.recordToWrite (s : State) (m t : Nat) : Option ShadowRec :=
  let r := s.shadowRecord m t (s.dev.flushStop.contains t)
  if s.reconciled then some r
  else
    let last := r.generation - 1
    let prev := (s.shadowRecOf t).filter (fun q => decide (q.generation = last))
    let clean := decide ((s.tile t).ps.flushDone = some last)
    let roots := (((s.tile t).ps.roots.filter (fun x => decide (x.generation = last))).map (fun x => (x.part, x.root)))
    match clean, prev with
    | true, some q => some { r with pins := q.pins ++ r.pins, roots := roots }
    | true, none => some { r with roots := roots }
    | false, some q => some { r with entries := q.entries ++ r.entries, pins := q.pins ++ r.pins, dump := q.dump ++ r.dump, roots := q.roots }
    | false, none => none
/-- SHADOW_RECORD_WRITE (R150): the mirror tile of tile `t` writes its record in two copies. -/
def execShadowRecordWrite (t : Nat) (s : State) : Host.Outcome State Fault Refusal :=
  .next (if s.dev.st = .drain ∧ s.dev.recordsDue.contains t then
      let m := s.mirrorOf t
      let s1 := match s.recordToWrite m t with
        | some r => s.modPs m (fun p => p.putRecord r)
        | none => s
      { s1 with dev := { s1.dev with recordsDue := s1.dev.recordsDue.filter (fun u => decide (u ≠ t)) } }.settleDrain
    else s)

end Sys2Proof.Machine
end

