-- ==== Sys2Proof/Machine/Supply.lean ====
section
/-! DEFINITION. Supplies, sequencing and hold-up (14): power-up steps (R396 to R400), the rail scan and its reactions (R401 to R404, R412), VDDK
and VDDC (R392 to R395), the hold-up bank (R405 to R408), pins (R409, R413 to R415, R484). -/
namespace Sys2Proof.Machine
open Sys2Proof

/-! ### Sequencing (R396 to R400) -/

/-- Whether a cell keeps its value over a power-up: applied configuration, what the parameter store keeps, the record of the last sequence failure (R399,
R482). Status bits and their occurrence counters start at 0 (R438). [DESIGN CHOICE, assumptions 30, 36] -/
def State.cellKept (s : State) (key : Nat) : Bool :=
  (keptCells ++ [Ob.SEQ_FAIL_STEP, Ob.SEQ_FAIL_POINT, Ob.ACTIVE_CORE_TILE]).contains key ||
  (match s.findOb (key / 256) (key % 256) with
    | some p => decide (p.access = .rws)
    | none => false)
/-- The cells as a power-up finds them. [DESIGN CHOICE, assumptions 30, 36] -/
def State.freshCells (s : State) : State := { s with obj := s.obj.filter (fun x => s.cellKept x.1) }
/-- At power-up the core of tile 0 is active and that of tile 1 is hot standby (R36), unless it has failed. [DESIGN CHOICE, assumption 36] -/
def State.powerUpRoles (s : State) : State :=
  if s.mgmt.coreFailed.contains 0 then s
  else { s with mgmt := { s.mgmt with active := some 0, standbySync := !s.mgmt.coreFailed.contains 1 } }.setCell Ob.ACTIVE_CORE_TILE 0
/-- A transfer that a reset interrupts leaves its slot INVALID (R488). [DEDUCED, assumption 53] -/
def Firmware.dropTransfer (x : Firmware) : Firmware :=
  { x with slots := x.slots.map (fun (q : FwSlot) => if q.st = 3 then { q with st := 2 } else q) }
/-- A power-up begins at P0 with a fresh retry count (R396, R413); `row` is the transition of R475. [DESIGN CHOICE, assumption 36] -/
def State.beginSeq (s : State) (row : Nat) : State :=
  let s1 := s.freshCells.goto .seq row
  let s2 := { s1 with
    sup := { s1.sup with step := some 0, retryAt := none, attempts := 1, t0 := s.pkgNow, onHold := false, measured := false, capLow := false,
                         esrHigh := false, cap := 0, esr := 0, convFault := false, avsLost := false, vddcCmd := 0, vddcFrom := 0,
                         scanTiles := [] },
    dev := { s1.dev with upReq := false, bringup := 0, inputReturned := false },
    fw := s1.fw.dropTransfer }
  (s2.setCell Ob.SEQ_ATTEMPTS_LAST 1).powerUpRoles

/-- SEQ_IN_ACCEPTED (R396, R477): SEQ_IN has been high for 10 µs with PWRFAIL_N and RESET_N high. -/
def execSeqInAccepted (s : State) : Host.Outcome State Fault Refusal :=
  .next (
    let s1 : State := { s with sup := { s.sup with seqIn := true, pwrfailN := true, resetN := true } }
    if s.dev.st = .aux ∧ s.mgmt.booted then s1.beginSeq 1 else s1)

/-- The internal rails go off: VPGM, VDDQ and VDDK, then VDDC commanded to 0 mV (R399 step 2). -/
def State.seqOff (s : State) : State :=
  let s1 := { s with tiles := s.tiles.map (fun (x : Tile) => { x with sup := { x.sup with railsUp := false } }) }
  { s1 with dev := { s1.dev with mainUp := false }, cnt := s1.cnt.cleared,
            sup := { s1.sup with vddcCmd := 0, vddcFrom := 0, vddcAt := s.pkgNow, onHold := false } }

/-- A sequence failure at step `k` with sense point `point`, 0xFF for none (R399). [DEDUCED, assumption 34] -/
def State.seqFail (s : State) (k point : Nat) : State :=
  let s1 := ((s.setCell Ob.SEQ_FAIL_STEP k).setCell Ob.SEQ_FAIL_POINT point)
  if s.sup.attempts ≤ s.cell Ob.SEQ_RETRIES 3 then
    let s2 := (s1.pev Ev.SEQ_RETRY k [(1, point), (1, s.sup.attempts)]).seqOff
    { s2 with sup := { s2.sup with retryAt := some (s.pkgNow + 100000000) } }
  else
    let s2 := (s1.seqOff.goto .halted 4).pev Ev.SEQ_HALTED k [(1, point)]
    { s2 with sup := { s2.sup with step := none, retryAt := none, seqOut := true } }

/-- SEQUENCE_FAILURE (R399): the present step has missed its Latest time, or a rail of an earlier step has left its window; P8 ends
with C = 0 instead. -/
def execSequenceFailure (point : Nat) (s : State) : Host.Outcome State Fault Refusal :=
  .next (match s.dev.st, s.sup.step, s.sup.retryAt with
    | .seq, some k, none => s.seqFail k point
    | _, _, _ => s)

/-- SEQ_RETRY (R399): 100 ms after a sequence failure the sequence starts again at P0. [DEDUCED, assumption 34] -/
def execSeqRetry (s : State) : Host.Outcome State Fault Refusal :=
  .next (match s.dev.st, s.sup.retryAt with
    | .seq, some at_ =>
      if at_ ≤ s.pkgNow then
        { s with sup := { s.sup with step := some 0, retryAt := none, attempts := s.sup.attempts + 1 } }.setCell Ob.SEQ_ATTEMPTS_LAST
          (s.sup.attempts + 1)
      else s
    | _, _ => s)

/-- HALTED_EXIT (R399): SEQ_IN has been low for 1 ms and then rises. [DEDUCED, assumption 38] -/
def execHaltedExit (s : State) : Host.Outcome State Fault Refusal :=
  .next (
    let s1 : State := { s with sup := { s.sup with seqIn := true } }
    if s.dev.st = .halted ∧ s.mgmt.booted then s1.goto .aux 16 else s1)

/-- The power-up is broken off: rails off, SEQ_OUT low, AUX (R400). [DEDUCED, assumption 34] -/
def State.seqAbort (s : State) : State :=
  let s1 := s.seqOff
  { s1 with sup := { s1.sup with step := none, retryAt := none, seqOut := false } }.goto .aux 5

/-- SEQ_IN_FALL_IN_SEQ (R400). -/
def execSeqInFallInSeq (s : State) : Host.Outcome State Fault Refusal :=
  .next (
    let s1 : State := { s with sup := { s.sup with seqIn := false } }
    if s.dev.st = .seq then s1.seqAbort else s1)

/-! ### Hold-up (R405 to R408) -/

/-- ESR limit of a part, mΩ (R407). -/
def Part.esrLimit : Part → Nat
  | .a2 => 100
  | .a4 => 50
  | .a8 => 25
/-- The bank is out of its limits: C is taken as 0 (R407). Reasons: 1 VHOLD did not reach 13.0 V in time, 2 C below 1.0 mF, 3 ESR above the
part's limit. -/
def State.holdupFault (s : State) (reason esr : Nat) : State :=
  let s1 := { s with sup := { s.sup with
    cap := 0, esr := esr, measured := decide (reason ≠ 1), capLow := decide (reason ≠ 3), esrHigh := decide (reason = 3) } }
  (s1.supplyBit 4).pev Ev.HOLDUP_FAULT reason []
/-- Whether P8 has its outcome. -/
def Supply.p8Done (x : Supply) : Bool := x.measured || x.capLow || x.esrHigh

/-- HOLDUP_MEASURED (R406, R407): the charge from the resumption to 13.0 V took `dt` ns, and VHOLD rose by `stepUv` µV at the
resumption. C is 0.97 × 0.5 A × Δt / 2.0 V, 2,425 × 10^-13 F for each ns, and at most 22 mF. [DESIGN CHOICE, assumption 12] -/
def execHoldupMeasured (dt stepUv : Nat) (s : State) : Host.Outcome State Fault Refusal :=
  .next (
    let esr := stepUv * 2 / 1000
    if s.dev.st = .seq ∧ s.sup.step = some 8 ∧ !s.sup.p8Done then
      if 1000 * s.part.esrLimit < stepUv * 2 then s.holdupFault 3 esr
      else if dt < 4120000 then s.holdupFault 2 esr
      else
        let s1 := { s with sup := { s.sup with cap := min (2425 * dt) (22 * 10 ^ 10), esr := esr, measured := true } }
        s1.pev Ev.HOLDUP_MEASURED (s1.sup.cap / 10 ^ 7) [(2, esr), (4, s1.sup.ehold)]
    else s)

/-- HOLDUP_FAULT (R407): VHOLD has not reached 13.0 V within 0.65 s of P4 (1), or the bank is found out of its limits before (2, 3). -/
def execHoldupFault (reason esr : Nat) (s : State) : Host.Outcome State Fault Refusal :=
  .next (if s.dev.st = .seq ∧ s.sup.step = some 8 ∧ !s.sup.p8Done ∧
      ((reason = 1 ∧ s.sup.p4At + 650000000 ≤ s.pkgNow) ∨ reason = 2 ∨ reason = 3) then s.holdupFault reason esr
    else s)

/-! ### Power-up steps -/

/-- The tiles' fencing state as a power-up finds it: every tile ACTIVE until its self-test; a tile whose change list its stand-in
still keeps stays FENCED, since its own copies of those segments are stale (R258, R270). [DESIGN CHOICE, assumption 20] -/
def State.unfence (s : State) : State :=
  s.each s.tileNumbers (fun s' t => s'.modFence t (fun f =>
    if f.changed.isEmpty then TileFence.reset s.n t
    else { f with st := .fenced, standin := 0xFF, mirror := (t + 1) % s.n, remirror := false, doubleFault := false }))

/-- The main domain comes up: counters start from zero (R445). -/
def State.mainOn (s : State) : State :=
  let s1 := { s with dev := { s.dev with mainUp := true },
                     cnt := { s.cnt.cleared with start := s.tiles.map (fun (x : Tile) => x.time.tb) } }
  s1.each s1.tileNumbers (fun s' t => s'.tev t Ev.COUNTERS_RESTARTED 0xFF (s'.now t) [(1, 1)])

/-- TEST entry (R396 P9, R478 B1): the ports' mode takes effect (R44) and they may train; queues are empty (R330). -/
def State.enterTest (s : State) : State :=
  let s1 := (s.goto .test 3).setCell Ob.POWERUP_TIME_US (((s.pkgNow - s.sup.t0) / 1000) % 2 ^ 32)
  let s2 := { s1 with sup := { s1.sup with step := none, scanTiles := [] },
                      dev := { s1.dev with bringup := 1, portsMode := s1.cell Ob.PAIR_PORT_MODE 0 } }
  let s3 := { s2 with queues := s2.queues.map (fun (x : Nat × Queue) =>
    (x.1, if s2.cell (Ob.inst Ob.SQ_ENABLE x.1) 0 = 1 then { x.2 with st := 1 } else x.2)) }
  let s4 := s3.each s3.tileNumbers (fun s' t =>
    ((s'.modRes t (fun r => { r with hashKey := Config.freeNat (s'.freeCtr) })).bumpFree).modTime t (fun x =>
      { x with linkE := true, linkW := true }))
  s4.unfence

/-- A power-up step ends (R396). -/
def State.seqStep (s : State) (k : Nat) : State :=
  let on (s : State) : State := { s with sup := { s.sup with step := some (k + 1) } }
  match k with
  | 0 => on { s with sup := { s.sup with vinSince := some (s.sup.vinSince.getD s.pkgNow) } }
  | 1 => on { s with tiles := s.tiles.map (fun (x : Tile) => { x with sup := { x.sup with vddk := 800, vddkFloor := 800 } }) }
  | 3 => on { s with tiles := s.tiles.map (fun (x : Tile) => { x with sup := { x.sup with railsUp := true } }) }
  | 4 => on { s with sup := { s.sup with seqOut := true, p4At := s.pkgNow, vddcCmd := 800, vddcFrom := 800, vddcAt := s.pkgNow } }
  | 5 => on s.mainOn
  | 8 => if s.sup.p8Done then on s else if s.sup.p4At + 650000000 ≤ s.pkgNow then on (s.holdupFault 1 0) else s
  | 9 => s.enterTest
  | _ => on s
/-- SEQ_STEP_DONE (R396): the present power-up step is complete. -/
def execSeqStepDone (s : State) : Host.Outcome State Fault Refusal :=
  .next (match s.dev.st, s.sup.step, s.sup.retryAt with
    | .seq, some k, none => s.seqStep k
    | _, _, _ => s)

/-! ### Bound-tracking supply (R392 to R395) -/

/-- A tile's VDDK command follows its margin, in 0.01 percent (R392). -/
def TileSup.track (x : TileSup) (now : Nat) (margin : Int) : TileSup :=
  if margin < 200 then
    { x with vddk := min 850 (x.vddk + 5), above6 := none }
  else if 600 < margin then
    match x.above6 with
    | none => { x with above6 := some now }
    | some a => if a + 100000 ≤ now then { x with vddk := max 600 (x.vddk - 5), above6 := some now } else x
  else { x with above6 := none }
/-- Whether the margin has been at or above 2 percent for 1 ms (R395). -/
def TileSup.okFor (x : TileSup) (now : Nat) : Bool := match x.okSince with
  | some a => decide (a + 1000000 ≤ now)
  | none => false
/-- Whether the bound cannot be tracked (R395). -/
def State.trackLimit (s : State) (t : Nat) : Bool :=
  let x := (s.tile t).sup
  decide (x.vddk = 850 ∧ x.margin < 200) || decide (s.sup.vddcCmd = 900 ∧ 900 < x.need)
/-- REPLICA_MEASURE (R392, R395): tile `t` measures its margin, in 0.01 percent, and the VDDC that its main-domain replica needs, mV. -/
def execReplicaMeasure (t : Nat) (margin : Int) (need : Nat) (s : State) : Host.Outcome State Fault Refusal :=
  .next (if t < s.n ∧ (s.tile t).sup.railsUp then
      let now := s.now t
      let old := (s.tile t).sup
      let new := old.track now margin
      let s1 := s.modSup t (fun _ => { new with
        margin := margin, need := need, vddkFloor := min old.vddkFloor new.vddk,
        okSince := if margin < 200 then none else some (old.okSince.getD now) })
      let s2 := if old.vddk < new.vddk then s1.tcount t Cn.VDDK_STEPS_UP 1
        else if new.vddk < old.vddk then s1.tcount t Cn.VDDK_STEPS_DOWN 1 else s1
      if s2.trackLimit t then
        if old.btLimit then s2
        else (((s2.modSup t (fun y => { y with btLimit := true })).tev t Ev.BOUND_TRACK_LIMIT 0xFF new.vddk
          [(2, need), (4, (margin % 2 ^ 32).toNat)]).supplyBit 6).degrade
      else if old.btLimit && (s2.tile t).sup.okFor now then s2.modSup t (fun y => { y with btLimit := false })
      else s2
    else s)

/-- The VDDC that the board's regulator has reached: it ramps at 1 mV/µs to the command (R393). -/
def State.vddcNow (s : State) : Nat :=
  let up := (s.pkgNow - s.sup.vddcAt) / 1000
  if s.sup.vddcFrom ≤ s.sup.vddcCmd then min s.sup.vddcCmd (s.sup.vddcFrom + up) else max s.sup.vddcCmd (s.sup.vddcFrom - up)
/-- AVS_COMMAND (R393, R394): VDDC to the highest need of the ACTIVE tiles plus 10 mV, at most every 100 µs. -/
def execAvsCommand (s : State) : Host.Outcome State Fault Refusal :=
  .next (
    let want := min 900 (max 650 ((s.activeTiles.map (fun t => (s.tile t).sup.need)).foldl max 0 + 10))
    if s.dev.mainUp ∧ !s.sup.avsLost ∧ s.sup.vddcCmd ≠ 0 ∧ want ≠ s.sup.vddcCmd ∧ s.sup.vddcAt + 100000 ≤ s.pkgNow then
      { s with sup := { s.sup with vddcCmd := want, vddcFrom := s.vddcNow, vddcAt := s.pkgNow } }.count Cn.AVS_COMMANDS 1
    else s)
/-- AVS_LINK_LOST (R394). -/
def execAvsLinkLost (s : State) : Host.Outcome State Fault Refusal :=
  .next (if s.dev.mainUp ∧ !s.sup.avsLost then
      (({ s with sup := { s.sup with avsLost := true } }.supplyBit 5).pev Ev.AVS_LINK_LOST 0 []).degrade
    else s)

/-! ### The rail scan (R401 to R404, R408, R412) -/

/-- The rails of the sense points (R401). -/
inductive Rail where
  | vddk (t : Nat) | vddq (t : Nat) | vpgm (t : Nat) | vddc (t : Nat) | vddp (t : Nat) | vdda (t : Nat)
  | vin | vaux | vddio | vhold | refLo | refHi
  deriving DecidableEq, Repr
/-- The rail of sense point `k` on a part of `n` tiles (R401). -/
def railOf (n k : Nat) : Rail :=
  if k < 6 * n then
    match k % 6 with
    | 0 => .vddk (k / 6)
    | 1 => .vddq (k / 6)
    | 2 => .vpgm (k / 6)
    | 3 => .vddc (k / 6)
    | 4 => .vddp (k / 6)
    | _ => .vdda (k / 6)
  else match k - 6 * n with
    | 0 => .vin
    | 1 => .vin
    | 2 => .vaux
    | 3 => .vddio
    | 4 => .vhold
    | 5 => .vhold
    | 6 => .refLo
    | _ => .refHi
/-- Whether a reading lies within `d` mV of `v`. -/
def near (v d mv : Nat) : Bool := decide (v ≤ mv + d ∧ mv ≤ v + d)
/-- Whether both VIN points read inside their window (R389). -/
def State.vinOk (s : State) : Bool :=
  let ok (k : Nat) : Bool := decide (10800 ≤ s.sup.sense.getD k 0 ∧ s.sup.sense.getD k 0 ≤ 13200)
  ok (6 * s.n) && ok (6 * s.n + 1)
/-- Whether a reading lies inside its rail's fault window (R389, R393, R408). -/
def State.inWindow (s : State) (r : Rail) (mv : Nat) : Bool :=
  match r with
  | .vddk t => near (s.tile t).sup.vddk 25 mv
  | .vddq _ => decide (1067 ≤ mv ∧ mv ≤ 1133)
  | .vpgm _ => decide (2910 ≤ mv ∧ mv ≤ 3090)
  | .vddc _ => near s.vddcNow 35 mv && !(s.sup.avsLost && s.activeTiles.any (fun t => decide (mv + 20 < (s.tile t).sup.need)))
  | .vddp _ => decide (825 ≤ mv ∧ mv ≤ 875)
  | .vdda _ => decide (1164 ≤ mv ∧ mv ≤ 1236)
  | .vin => decide (10800 ≤ mv ∧ mv ≤ 13200)
  | .vaux => decide (3135 ≤ mv ∧ mv ≤ 3465)
  | .vddio => decide (1710 ≤ mv ∧ mv ≤ 1890)
  | .vhold => decide (14000 ≤ mv) || decide (s.sup.cap = 0) || s.sup.onHold || !s.vinOk
  | .refLo => decide (mv * 100 ≤ 500 * 101 ∧ 500 * 99 ≤ mv * 100)
  | .refHi => decide (mv * 100 ≤ 3000 * 101 ∧ 3000 * 99 ≤ mv * 100)
/-- The power-up step after which a rail must stay in its window (R396, R399); none for VHOLD and the references. -/
def Rail.step : Rail → Option Nat
  | .vddk _ => some 1
  | .vddq _ => some 2
  | .vpgm _ => some 3
  | .vddc _ => some 5
  | .vddp _ => some 0
  | .vdda _ => some 0
  | .vin => some 0
  | .vaux => some 0
  | .vddio => some 0
  | _ => none
/-- The tile of a persistence rail of R404. -/
def Rail.persistence : Rail → Option Nat
  | .vddk t => some t
  | .vddq t => some t
  | .vpgm t => some t
  | _ => none

/-- RAIL_FAULT (R404): point, value, reaction. [DESIGN CHOICE, assumption 29] -/
def State.railEvent (s : State) (k mv reaction : Nat) : State :=
  s.pev Ev.RAIL_FAULT k [(2, mv), (1, Config.eventCode reaction)]
/-- A rail is out of its fault window after P9 (R404). [DEDUCED, assumption 31] -/
def State.railFault (s : State) (r : Rail) (k mv : Nat) : State :=
  match r.persistence with
  | some t =>
    let fenced := decide ((s.tile t).fence.st = .fenced)
    if fenced && !s.sup.scanTiles.contains t then s
    else
      let tiles := if s.sup.scanTiles.contains t then s.sup.scanTiles else s.sup.scanTiles ++ [t]
      let s1 : State := { s with sup := { s.sup with scanTiles := tiles } }
      if 1 < tiles.length then ((s1.railEvent k mv 3).supplyBit 1).drainTrigger 9
      else if s.sup.scanTiles.contains t then s1
      else (((s1.railEvent k mv 2).tev t Ev.TILE_RAIL_FAULT 0xFF k [(2, mv)]).supplyBit 0).suspect t 2
  | none => match r with
    | .vhold => ((s.railEvent k mv 3).supplyBit 4).drainTrigger 7
    | .refLo => s
    | .refHi => s
    | _ => ((s.railEvent k mv 3).supplyBit 1).drainTrigger 6
/-- A rail is out of its fault window in DRAIN (R412): a tile with a persistence rail out stops; other rails are only recorded.
[DEDUCED, assumption 31] -/
def State.railInDrain (s : State) (r : Rail) (k mv : Nat) : State :=
  match r.persistence with
  | some t =>
    if s.flushOpen.contains t then
      let tiles := if s.sup.scanTiles.contains t then s.sup.scanTiles else s.sup.scanTiles ++ [t]
      let s1 : State := { s with sup := { s.sup with scanTiles := tiles } }
      let s2 := if 1 < tiles.length then s1.noteSeen 9 else s1
      ((s2.railEvent k mv 4).tev t Ev.TILE_RAIL_FAULT 0xFF k [(2, mv)]).stopFlush t
    else s
  | none => match r with
    | .vhold => (s.noteSeen 7).railEvent k mv 4
    | .refLo => s
    | .refHi => s
    | .vddc _ => if s.dev.mainUp then (s.noteSeen 6).railEvent k mv 4 else s
    | _ => (s.noteSeen 6).railEvent k mv 4
/-- VHOLD has fallen to 5.6 V: every tile that has not reported done stops (R412). -/
def State.holdEmpty (s : State) : State := s.each s.flushOpen (fun s' t => s'.stopFlush t)
/-- A reference reads more than 1 percent off: the scan moves to the other converter, its samples are discarded (R403). -/
def State.converterFault (s : State) (mv : Nat) : State :=
  let s1 := { s with sup := { s.sup with converter := 1 - s.sup.converter, convFault := true, nextPoint := 0, sense := s.sup.sensePrev,
                                         scanStart := s.pkgNow, scanTiles := [] } }
  (((s1.supplyBit 7).pev Ev.CONVERTER_FAULT (s.sup.sense.getD (6 * s.n + 6) 0) [(2, if s.sup.nextPoint = 6 * s.n + 6 then 0 else mv)])).degrade
/-- What follows from the presence of VIN (R413): when it has been in its window without a break, and its return in DRAIN. -/
def State.noteVin (s : State) : State :=
  if s.vinOk then
    match s.sup.vinSince with
    | some _ => s
    | none =>
      let s1 := { s with sup := { s.sup with vinSince := some s.pkgNow } }
      if s.dev.st = .drain ∧ !s.dev.inputReturned then
        { s1 with dev := { s1.dev with inputReturned := true } }.pev Ev.INPUT_RETURNED s.pkgNow []
      else s1
  else { s with sup := { s.sup with vinSince := none } }
/-- The scan moves on to the next point; a full scan is counted and timed (R401). -/
def State.scanOn (s : State) : State :=
  if s.sup.nextPoint + 1 < s.points then { s with sup := { s.sup with nextPoint := s.sup.nextPoint + 1 } }
  else
    let s1 := { s with sup := { s.sup with nextPoint := 0, sensePrev := s.sup.sense, scanStart := s.pkgNow, scanTiles := [] } }
    (s1.setCell Ob.SCAN_TIME_NS ((s.pkgNow - s.sup.scanStart) % 2 ^ 32)).count Cn.RAIL_SCANS 1
/-- What a sample of rail `r` alone shows: VIN's stability, VHOLD's charge (R390, R407). -/
def State.seeRail (s : State) (r : Rail) (mv : Nat) : State := match r with
  | .vin => s.noteVin
  | .vhold => { s with sup := { s.sup with charged := decide (14000 ≤ mv) } }
  | _ => s
/-- What a sample out of its window does, once the scan has moved on, by state (R402, R410, R451). [DEDUCED, assumption 31] -/
def State.badRail (s : State) (r : Rail) (k mv : Nat) : State :=
  if s.fenceStates then s.railFault r k mv
  else if s.dev.st = .drain then s.railInDrain r k mv
  else match s.dev.st, s.sup.step, s.sup.retryAt, r.step with
    | .seq, some p, none, some q => if q < p then s.seqFail p k else s
    | _, _, _, _ => s
/-- The scan goes on from a sample of a point on rail `r`; VHOLD at 5,600 mV on hold-up ends the drain (R412). -/
def State.scanPast (s : State) (r : Rail) (mv : Nat) : State :=
  let s1 := s.scanOn
  if r = .vhold ∧ mv ≤ 5600 ∧ s1.dev.st = .drain ∧ s1.sup.onHold then s1.holdEmpty else s1
/-- The last sample of a scan completes its VIN power reading, in mW, which the budget arbiter reads (R345). [DESIGN CHOICE, assumption 23] -/
def State.scanPower (s : State) (k mw : Nat) : State :=
  if k + 1 < s.points then s else { s with feed := { s.feed with powerNow := mw } }
/-- RAIL_SAMPLE (R402, R345): the supervisor samples the next sense point, which reads `mv`; `mw` is the VIN power that the scan has found when
this is its last sample. [DESIGN CHOICE, assumption 23] -/
def execRailSample (mv mw : Nat) (s : State) : Host.Outcome State Fault Refusal :=
  .next (if s.dev.st ≠ .unpowered then
      let k := s.sup.nextPoint
      let r := railOf s.n k
      let s1 := ({ s with sup := { s.sup with sense := modAt s.sup.sense k (fun _ => mv) } } : State).seeRail r mv
      if s1.inWindow r mv then (s1.scanPower k mw).scanPast r mv
      else if r = .refLo ∨ r = .refHi then s1.converterFault mv
      else ((s1.scanPower k mw).scanPast r mv).badRail r k mv
    else s)

/-! ### Pins (R390, R409, R414, R484) -/

/-- VIN_COMPARATOR_TRIP (R390, R409): VIN is below 10.2 V; the OR-ing switch goes to VHOLD. -/
def execVinComparatorTrip (s : State) : Host.Outcome State Fault Refusal :=
  .next (if s.dev.st ≠ .unpowered then
      let up := s.dev.st = .seq ∨ s.fenceStates = true ∨ s.dev.st = .drain
      let s1 := ({ s with sup := { s.sup with onHold := s.sup.onHold || decide up, vinSince := none } }).supplyBit 2
      s1.drainTrigger 5
    else s)
/-- The management cores reboot in AUX (R484, R477). -/
def State.rebootCores (s : State) : State :=
  let s1 := ((s.endSessions 3).freeMailboxes none).goto .aux 15
  { s1 with mgmt := { s1.mgmt with booted := false, active := some 0, standbySync := false, standbyLost := false, coreFailed := [], update := 0 } }
/-- RESET_N_LOW (R409, R475, R484): RESET_N has been low for 1 µs. [DEDUCED, assumption 38] -/
def execResetNLow (s : State) : Host.Outcome State Fault Refusal :=
  .next (
    let s1 : State := { s with sup := { s.sup with resetN := false } }
    match s.dev.st with
    | .unpowered => s
    | .seq => s1.seqAbort
    | .safe => s1.rebootCores
    | _ => s1.drainTrigger 1)
/-- PWRFAIL_N_LOW (R414): PWRFAIL_N has been low for 200 ns. [DEDUCED, assumption 38] -/
def execPwrfailNLow (s : State) : Host.Outcome State Fault Refusal :=
  .next (
    let s1 := { s with sup := { s.sup with pwrfailN := false } }.supplyBit 3
    match s.dev.st with
    | .unpowered => s
    | .seq => s1.seqAbort
    | _ => s1.drainTrigger 4)
/-- SEQ_IN_LOW (R409): SEQ_IN has been low for 10 µs. [DEDUCED, assumption 38] -/
def execSeqInLow (s : State) : Host.Outcome State Fault Refusal :=
  .next (
    let s1 : State := { s with sup := { s.sup with seqIn := false } }
    match s.dev.st with
    | .unpowered => s
    | .seq => s1.seqAbort
    | _ => s1.drainTrigger 3)

/-! ### Restart and the power commands (R413, R484) -/

/-- Whether VIN has been in its window for 20 ms and THERMTRIP_N is not asserted (R413). [DEDUCED, assumption 38] -/
def State.inputsReady (s : State) : Bool :=
  !s.sup.thermtrip && (match s.sup.vinSince with
    | some a => decide (a + 20000000 ≤ s.pkgNow)
    | none => false)
/-- SAFE_RESTART (R413, R484): PWRFAIL_N, RESET_N and SEQ_IN are high; `cycled` says that SEQ_IN has been low for 1 ms and risen in
SAFE. A power-up starts when the restart conditions of the DRAIN's cause hold. [DEDUCED, assumption 38] -/
def execSafeRestart (cycled : Bool) (s : State) : Host.Outcome State Fault Refusal :=
  .next (if s.dev.st = .safe then
      let s1 : State := { s with sup := { s.sup with seqIn := true, pwrfailN := true, resetN := true } }
      let cause := s.dev.drainCause
      if s1.inputsReady ∧ cause ≠ 8 ∧ (cause ≠ 2 ∨ s.dev.upReq = true ∨ cycled = true) then s1.beginSeq 14 else s1
    else s)
/-- `POWER_DOWN` (R484): DRAIN trigger 2. -/
def State.powerDown (s : State) (q : Requester) (v : Nat) : Result :=
  if v ≠ 1 then s.refused Err.range 0
  else if !s.inService then s.refused Err.state Detail.device
  else ((s.pev Ev.POWER_DOWN_REQUESTED q.code []).drainTrigger 2).ok
/-- `POWER_UP` (R484): a power-up starts now, or once the conditions of R413 hold. -/
def State.powerUp (s : State) (v : Nat) : Result :=
  if v ≠ 1 then s.refused Err.range 0
  else if s.dev.st ≠ .safe ∨ s.dev.drainCause ≠ 2 then s.refused Err.state Detail.device
  else
    let s1 : State := { s with dev := { s.dev with upReq := true } }
    (if s1.inputsReady ∧ s.sup.seqIn ∧ s.sup.pwrfailN ∧ s.sup.resetN then s1.beginSeq 14 else s1).ok

end Sys2Proof.Machine
end

