-- ==== Sys2Proof/Machine/Lifecycle.lean ====
section
/-! DEFINITION. Lifecycle (18): firmware boot (R477), bring-up (R478 to R481, with R152, R271, R305, R384, R472, R473), live update (R488 to R491),
erasure, owner, decommissioning (R494 to R498), slot ring saves (R471). -/
namespace Sys2Proof.Machine
open Sys2Proof

/-! ### VAUX and firmware boot -/

/-- VAUX_ON (R475): VAUX enters its window. -/
def execVauxOn (s : State) : Host.Outcome State Fault Refusal :=
  .next (
    let s1 : State := { s with sup := { s.sup with vauxGone := false } }
    if s.dev.st = .unpowered then s1.goto .aux 0 else s1)
/-- VAUX_REMOVED (R475, R390, R404): in service, VAUX leaving its window is a running-rail fault, and the flush of a DRAIN goes on from VHOLD; otherwise the
device is unpowered at once. [DEDUCED, assumption 31] -/
def execVauxRemoved (s : State) : Host.Outcome State Fault Refusal :=
  .next (
    let s1 : State := { s with sup := { s.sup with vauxGone := true } }
    if s.fenceStates then ((s1.railEvent (6 * s.n + 2) 0 3).supplyBit 1).drainTrigger 6
    else if s.dev.st = .drain then s1
    else s.unpower)

/-- Whether an image may boot (R477): its signature verifies, its SVN is no lower than the fused minimum. -/
def State.bootable (s : State) (i : Nat) (signed : Bool) : Bool :=
  match s.fw.slots[i]? with
  | some x => signed && decide (x.st = 1 ∧ s.fw.svnMin ≤ x.svn)
  | none => false
/-- The cores run image `i` (R477). -/
def State.boot (s : State) (i : Nat) : State :=
  let act := if s.fw.activation = 2 then (if i = s.fw.nextBoot then 3 else 4) else s.fw.activation
  let s1 := { s with fw := { s.fw.dropTransfer with running := i, activation := act },
                     mgmt := { s.mgmt with booted := true, active := some 0, standbySync := true, standbyLost := false, coreFailed := [] } }
  s1.setCell Ob.ACTIVE_CORE_TILE 0
/-- An image that fails its verification is INVALID (R477, R499). -/
def Firmware.invalid (x : Firmware) (i : Nat) : Firmware :=
  { x with slots := modAt x.slots i (fun q => if q.st = 1 then { q with st := 2 } else q) }
/-- FIRMWARE_BOOT_DONE (R477): the ROM has verified the image of the boot record and, where that fails, the other; `a` and `b` say whether the signatures of
images A and B verify. -/
def execFirmwareBootDone (a b : Bool) (s : State) : Host.Outcome State Fault Refusal :=
  .next (if s.dev.st = .aux ∧ !s.mgmt.booted then
      let named := s.fw.nextBoot
      let signed (i : Nat) : Bool := if i = 0 then a else b
      if s.bootable named (signed named) then s.boot named
      else if s.bootable (1 - named) (signed (1 - named)) then
        ((({ s with fw := s.fw.invalid named }.boot (1 - named)).alert 4)).pev Ev.FW_IMAGE_FALLBACK named []
      else { s with fw := (s.fw.invalid 0).invalid 1 }.goto .halted 2
    else s)

/-! ### Erasure (R495 to R498) -/

/-- The device key is generated from the internal entropy source (R278). [DEDUCED, assumption 13] -/
def State.newDeviceKey (s : State) : State :=
  let k : KeySlot := { st := .loaded, k1 := Config.entropyKey s.freeCtr, k2 := Config.entropyKey (s.freeCtr + 1) }
  { s with keys := { s.keys with slots := s.keys.slots.insert 0 k }, freeCtr := s.freeCtr + 2 }
/-- An emptied reservoir (R495): the counters, the limit and the key of the set hash stay. -/
def TileRes.emptied (r : TileRes) : TileRes :=
  { TileRes.reset with hashKey := r.hashKey, seqCtr := r.seqCtr, verCtr := r.verCtr, limit := r.limit, accLog := r.accLog }
/-- What Secure Erase does in one tile: the reservoir and the shadow lists emptied, bound segments released, the map FRESH, the poison list empty, the
roots those of all-blank trees (R495). -/
def State.eraseTile (s : State) (t : Nat) : State :=
  let before := s.spares t
  let bound := ((s.tile t).map.segs.filter (fun x => decide (x.2.cond = .bound ∨ x.2.cond = .target))).map (fun x => x.1)
  let s1 := s.modRes t (fun r => r.emptied)
  let s2 := s1.modRd t (fun y => { y with rds := [], senses := [], holds := [], nibUse := List.replicate 256 0 })
  let s3 := s2.each bound (fun s' p => s'.release t p)
  let s4 := s3.modMap t (fun m => { m with map := [], migs := [], triggers := [], movesDue := [], poison := [] })
  let s5 := s4.modTile t (fun x => { x with
    sealing := x.sealing.map (fun (z : Sealed) => { z with root := 0, rootLost := false }), pat := { x.pat with visit := none },
    fence := { x.fence with changed := [] }, ps := { x.ps with bound := [] } })
  s5.noteSpares t before
/-- Secure Erase (R495): reservoir, keys, segments, roots. [DEDUCED, assumption 35] -/
def State.secureErase (s : State) : State :=
  let s1 := { s with keys := { slots := [], change := none } }.newDeviceKey
  (s1.each s1.tileNumbers (fun s' t => s'.eraseTile t)).evalHealth
/-- Strokes of Sanitize in one tile: every slot of every segment that is not retired or a donor, every used spare (R496). -/
def State.sanitizeStrokes (s : State) (t : Nat) : Nat :=
  let m := (s.tile t).map
  (segsPerTile - m.countSegs (fun x => decide (x.cond = .retired ∨ x.cond = .donor))) * 18562 + (s.tile t).med.spares.length
/-- Blanks the free segments of a tile, its shadow area and its label storage (R496). [DEDUCED, assumption 35] -/
def State.sanitizeTile (s : State) (t : Nat) : State :=
  let strokes := s.sanitizeStrokes t
  let free := ((s.tile t).map.segs.filter (fun x => decide (x.2.cond = .free) && !x.2.blanked)).map (fun x => x.1)
  let rest := (strokes - (s.tile t).med.spares.length) / 18562 - free.length
  let s1 := (s.each free (fun s' p => s'.blank t p)).allNibs t 3 (rest * 9281)
  let s2 := s1.modTile t (fun x => { x with
    ps := { x.ps with shadowRecs := [], lsa := [] },
    med := { x.med with slots := x.med.slots.filter (fun e => decide (slotLine e.1 < 54252960)), strokes := x.med.strokes + strokes } })
  s2.count Cn.ERASE_STROKES strokes
/-- Whether an erase may start (R497). -/
def State.eraseLegal (s : State) : Bool :=
  s.inService && !s.anyDecoder && (below (64 * s.n) (fun i => decide (s.cell (Ob.inst Ob.SQ_ENABLE i) 0 = 1))).isEmpty
/-- An erase starts: 1 Secure Erase, 2 Sanitize, 3 decommission (R495, R497). [DEDUCED, assumptions 35, 60] -/
def State.startErase (s : State) (kind : Nat) : State :=
  { s.secureErase with svc := { s.svc with eraseKind := kind, eraseState := 1, erasePercent := 0, eraseStart := s.pkgNow } }
/-- Every RWS object that does not have its default, with its default (R498). -/
def State.defaultsSet (s : State) : Items :=
  s.obj.filterMap (fun x => match s.findOb (x.1 / 256) (x.1 % 256) with
    | some p => if p.access = .rws ∧ s.default p ≠ x.2 then some (x.1, s.default p) else none
    | none => none)
/-- Steps 2 to 4 of a decommission (R498). [DEDUCED, assumption 35] -/
def State.decommission (s : State) : State :=
  let s1 := s.commitWhole { transport := 0, src := 0 } s.defaultsSet
  let s2 := { s1 with
    recs := s1.recs.map (fun (r : Recorder) => { Recorder.empty with loaded := r.loaded, nextPublish := r.nextPublish, seq := r.seq }),
    tiles := s1.tiles.map (fun (x : Tile) => { x with ps := { x.ps with recImage := none, pkgImage := none } }),
    mgmt := { s1.mgmt with sessions := s1.mgmt.sessions.map (fun (x : Session) => { x with owner := false }) },
    svc := { s1.svc with owner := none } }
  s2.pev Ev.DECOMMISSIONED 0 []
/-- ERASE_DONE (R495 to R498): the erase under way is complete. [DEDUCED, assumptions 35, 60] -/
def execEraseDone (s : State) : Host.Outcome State Fault Refusal :=
  .next (if s.inService ∧ s.svc.eraseState = 1 then
      let kind := s.svc.eraseKind
      let s1 := if kind = 1 then s else s.each s.tileNumbers (fun s' t => s'.sanitizeTile t)
      let s2 := s1.each s1.tileNumbers (fun s' t => s'.modPs t (fun p => { p with eraseKind := 0 }))
      let s3 := { s2 with svc := { s2.svc with eraseState := 2, erasePercent := 100 } }
      let s4 := s3.pev Ev.ERASE_DONE kind [(8, s.pkgNow - s.svc.eraseStart)]
      if kind = 3 then s4.decommission else s4
    else s)
/-- Whether a requester may use the commands of the owner (R499). -/
def State.ownerRights (s : State) (q : Requester) : Bool := s.svc.owner.isNone || s.isOwner q
/-- `DECOMMISSION` (R498). -/
def State.decommissionCmd (s : State) (q : Requester) (v : Nat) : Result :=
  if !s.ownerRights q then s.refused Err.rights 0
  else if v ≠ 1 then s.refused Err.range 0
  else if !s.eraseLegal then s.refused Err.state Detail.device
  else if s.svc.eraseState = 1 then s.refused Err.busy 0
  else (s.startErase 3).ok
/-- `OWNER_INSTALL` (R494): a DER certificate, over an SPDM session. [DEDUCED, assumption 35] -/
def State.ownerInstall (s : State) (q : Requester) (cert : Nat) : Result :=
  if (s.sessionOf q).isNone then s.refused Err.access 0
  else if !s.ownerRights q then s.refused Err.rights 0
  else if !Config.certOk cert then s.refused Err.range 0
  else
    let s1 := { s with svc := { s.svc with owner := some cert },
                       mgmt := { s.mgmt with sessions := s.mgmt.sessions.map (fun (x : Session) => { x with owner := false }) } }
    (s1.pev Ev.OWNER_INSTALLED (bitNat s.svc.owner.isSome) []).ok

/-! ### Firmware commands (R489 to R491) -/

/-- Whether the image that does not run may be activated (R489, R491). -/
def State.otherReady (s : State) : Bool := decide (s.otherSlot.st = 1 ∧ s.fw.svnMin ≤ s.otherSlot.svn)
/-- The conditions of a live update (R489). -/
def State.liveReady (s : State) : Bool :=
  s.inService && s.otherReady && s.otherSlot.compat && s.mgmt.standbySync && decide (s.mgmt.update = 0) &&
  (match s.mgmt.active with
    | some a => s.canTakeOver (1 - a)
    | none => false)
/-- A live update starts (R489): the standby core reboots into the new image. -/
def State.startUpdate (s : State) : State :=
  { s with mgmt := { s.mgmt with update := 1, standbySync := false }, fw := { s.fw with activation := 1 } }
/-- The boot record names the other image at once (R491). -/
def State.activateAtReset (s : State) : State :=
  { s with fw := { s.fw with nextBoot := 1 - s.fw.running, activation := 2 } }.pev Ev.FW_ACTIVATED (1 - s.fw.running) [(2, s.otherSlot.svn)]
/-- `FW_ACTIVATE` (R489, R491). [DEDUCED, assumption 33] -/
def State.fwActivate (s : State) (v : Nat) : Result :=
  if v = 1 then (if s.liveReady then s.startUpdate.ok else s.refused Err.state Detail.object)
  else if v = 2 then (if s.otherReady then s.activateAtReset.ok else s.refused Err.state Detail.object)
  else s.refused Err.range 0
/-- `FW_SVN_COMMIT` (R491): the fuses follow the running image's SVN. -/
def State.fwSvnCommit (s : State) (q : Requester) (v : Nat) : Result :=
  if !s.ownerRights q then s.refused Err.rights 0
  else if v ≠ 1 then s.refused Err.range 0
  else if s.runningSlot.svn ≤ s.fw.svnMin then s.refused Err.state Detail.object
  else ({ s with fw := { s.fw with svnMin := s.runningSlot.svn } }.pev Ev.FW_SVN_COMMITTED s.runningSlot.svn []).ok
/-- LIVE_UPDATE_STEP_DONE (R489, R490): the present step of a live update is complete, or step 1 or 2 has failed. [DEDUCED, assumption 33] -/
def execLiveUpdateStepDone (ok : Bool) (s : State) : Host.Outcome State Fault Refusal :=
  .next (
    let dest (s : State) (k : Nat) : State := { s with mgmt := { s.mgmt with update := k } }
    let failed : State := ((dest { s with mgmt := { s.mgmt with standbySync := true }, fw := { s.fw with activation := 4 } } 0).alert 4).pev
      Ev.FW_ACTIVATION_FAILED s.mgmt.update []
    match s.mgmt.update with
    | 1 => if ok then dest s 2 else failed
    | 2 => if ok then dest { s with mgmt := { s.mgmt with standbySync := true } } 3 else failed
    | 3 => match s.mgmt.active with
      | some a =>
        let s1 := (dest s 4).takeOver (1 - a)
        { s1 with fw := { s1.fw with running := 1 - s1.fw.running } }
      | none => s
    | 4 => (dest { s with fw := { s.fw with nextBoot := s.fw.running } } 5).pev Ev.FW_ACTIVATED s.fw.running [(2, s.runningSlot.svn)]
    | 5 => dest { s with mgmt := { s.mgmt with standbySync := true, standbyLost := false }, fw := { s.fw with activation := 3 } } 0
    | _ => s)

/-! ### Bring-up (R478) -/

/-- INC of a slot ring (R471); none for a statistical value. -/
def ringInc (r : Nat) : Option Nat := [some 1, some (2 ^ 20), some 160, some 1].getD r none
/-- The value of a ring as it recovers in tile `t` (R472). -/
def State.recoverRing (s : State) (t r : Nat) (torn : Bool) : Nat :=
  let p := (s.tile t).ps
  let v := (p.ringValue r).getD 0
  let stopped := decide (r = 2) && decide (p.flushDone ≠ p.ringValue 0)
  match ringInc r with
  | some inc => if torn || stopped then v + inc else v
  | none => v
/-- Recovers the rings of tile `t` (R472); `torn` lists the torn ones. [DEDUCED, assumption 10] -/
def State.recoverRings (s : State) (t : Nat) (torn : List Nat) : State :=
  let s1 := s.each (List.range 7) (fun s' r =>
    let v := s.recoverRing t r (torn.contains r)
    let s2 := if some v = (s'.tile t).ps.ringValue r then s' else s'.modPs t (fun p => p.saveRing r v)
    if torn.contains r then s2.tev t Ev.PSTORE_RING_TORN 0xFF r [(8, v)] else s2)
  let s2 := s1.setCell (Ob.inst Ob.PSTORE_TORN_RINGS t) (bitsOfTiles torn)
  let s3 := if torn.isEmpty then s2 else s2.raise (Ob.inst Ob.REC_STATUS t) 3 (Ob.inst Ob.REC_OCC t + 3)
  let ring (k : Nat) : Nat := ((s3.tile t).ps.ringValue k).getD 0
  s3.modTile t (fun x => { x with
    pat := { x.pat with drift := ring 2 % 2 ^ 32 }, med := { x.med with strokes := ring 4 }, time := { x.time with onNs := ring 5 * 10 ^ 9 } })
/-- The greater of two temperatures as S32 values. -/
def maxS32 (a b : Nat) : Nat := if (a + 2 ^ 31) % 2 ^ 32 < (b + 2 ^ 31) % 2 ^ 32 then b else a
/-- A package value is the greatest recovered, written to every tile that comes up (R472). -/
def State.shareRing (s : State) (r : Nat) (ts : List Nat) : State :=
  let vals := ts.map (fun t => ((s.tile t).ps.ringValue r).getD 0)
  match vals with
  | [] => s
  | a :: rest =>
    let v := rest.foldl (if r = 6 then maxS32 else max) a
    s.each ts (fun s' t => if (s'.tile t).ps.ringValue r = some v then s' else s'.modPs t (fun p => p.saveRing r v))
/-- Tiles that take part in the bring-up: those not FENCED. -/
def State.upTiles (s : State) : List Nat := s.tileNumbers.filter (fun t => decide ((s.tile t).fence.st ≠ .fenced))
/-- The damage found in tile `t`'s parameter store: arguments of the items of a kind (0 torn ring, 1 page commit to complete, 2 page commit to roll back,
3 recorder record torn). -/
def foundOf (found : List Nat) (t kind : Nat) : List Nat :=
  (found.filter (fun i => decide (i % 8 = t ∧ i / 8 % 4 = kind))).map (fun i => i / 32)
/-- Step B2 in one tile (R473, R472, R467). -/
def State.recoverStore (s : State) (t : Nat) (found : List Nat) : State :=
  let done := foundOf found t 1
  let back := foundOf found t 2
  let s1 := s.each done (fun s' page => (s'.tev t Ev.PSTORE_COMMIT_COMPLETED 0xFF page []).raise (Ob.inst Ob.REC_STATUS t) 3 (Ob.inst Ob.REC_OCC t + 3))
  let s2 := s1.each back (fun s' page => (s'.tev t Ev.PSTORE_COMMIT_ROLLED_BACK 0xFF page []).raise (Ob.inst Ob.REC_STATUS t) 3 (Ob.inst Ob.REC_OCC t + 3))
  let s3 := s2.setCell (Ob.inst Ob.PSTORE_RECOVERY t) (back.length % 256 + 2 ^ 8 * (done.length % 256))
  (s3.recoverRings t (foundOf found t 0)).loadRecorder t (foundOf found t 3)
/-- Step B2: parameter stores, package values, device key, package recorder. [DEDUCED, assumption 13] -/
def State.bringStores (s : State) (found : List Nat) : State :=
  let s1 := s.each s.upTiles (fun s' t => s'.recoverStore t found)
  let s2 := ((s1.shareRing 0 s1.upTiles).shareRing 3 s1.upTiles).shareRing 6 s1.upTiles
  let ring (r : Nat) : Nat := match s2.upTiles with
    | [] => 0
    | t :: _ => ((s2.tile t).ps.ringValue r).getD 0
  let s3 := (s2.setCell Ob.DIRTY_SHUTDOWN_COUNT (ring 3)).setCell Ob.TEMP_MAX_LIFE_C (ring 6)
  let s4 := if (s3.key 0).st = .empty then s3.newDeviceKey else s3
  s4.loadPackage

/-- Mirror tiles and stand-ins as the tiles that came up give them (R127, R257, R260, R272). -/
def State.arrangeTiles (s : State) : State :=
  let n := s.n
  let next (t : Nat) : Nat := (((List.range n).map (fun i => (t + 1 + i) % n)).find? (fun u => decide (u ≠ t) && s.tileActive u)).getD 0xFF
  let down := s.tileNumbers.filter (fun t => !s.tileActive t)
  let double := decide (1 < down.length)
  s.each s.tileNumbers (fun s' t => s'.modFence t (fun f =>
    if f.st = .active then { f with mirror := next t }
    else { f with standin := if double || !s.tileActive ((t + 1) % n) then 0xFF else (t + 1) % n, doubleFault := double }))
/-- A tile fails its self-test (R271). -/
def State.bringFail (s : State) (t : Nat) : State :=
  let s1 := s.modFence t (fun f => { f with st := .fenced, cause := 7, firstCause := 7, fenceTime := s.now (fenceTile t) })
  let s2 := s1.setCell Ob.FENCE_COUNT (satAdd 65535 (s1.cell Ob.FENCE_COUNT 0) 1)
  let s3 := (s2.count Cn.TILE_FENCES 1).modTime t (fun x => { x with linkE := false, linkW := false })
  let s4 := if s3.master = some t then s3.moveMaster else s3
  if s4.mgmt.active = some t then s4.coreLost false else if t < 2 ∧ s4.mgmt.standbySync then s4.standbyGone else s4
/-- Step B3: the self-test of every tile; `bad` lists the tiles that fail (R271). When every tile fails, the sequence has failed at P9 (R475). -/
def State.selfTest (s : State) (bad : List Nat) : State :=
  let fails := s.upTiles.filter (fun t => bad.contains t)
  if fails.length = s.upTiles.length then
    let s1 := s.goto .seq 7
    { s1 with sup := { s1.sup with step := some 9 }, dev := { s1.dev with bringup := 0 } }.seqFail 9 0xFF
  else
    let s1 := (s.each fails (fun s' t => s'.bringFail t)).arrangeTiles
    let s2 := s1.each fails (fun s' t => s'.pevAt (fenceTile t) Ev.TILE_FENCED 0xFF t [(1, 7), (1, (s'.tile t).fence.standin)])
    let down := s2.tileNumbers.filter (fun t => !s2.tileActive t)
    if 1 < down.length then s2.pevAt (fenceTile (down.headD 0)) Ev.DOUBLE_FAULT 0xFF (down.headD 0) [(1, (down.drop 1).headD 0xFF)] else s2

/-- The generation before this power-up raised it, as tile `t` knows it (R152): a tile that did not come up has not been told of the new one. -/
def State.lastGeneration (s : State) (t : Nat) : Nat :=
  let g := ((s.tile t).ps.ringValue 0).getD 0
  if (s.tile t).fence.st = .fenced then g else g - 1
/-- The root of a sealed partition that tile `t` finds at power-up (R305). -/
def State.findRoot (s : State) (t part last : Nat) : Option Nat :=
  let p := (s.tile t).ps
  if p.flushDone = some last then
    (p.roots.find? (fun x => decide (x.part = part ∧ x.generation = last))).map SavedRoot.root
  else match (s.shadowRecOf t).filter (fun r => decide (r.generation = last)) with
    | some r => (r.roots.find? (fun x => decide (x.1 = part))).map (fun x => x.2)
    | none => none
/-- Loads the root of one sealed partition in tile `t`, or marks the share ROOT_LOST (R305, R306). -/
def State.loadRoot (s : State) (t p last : Nat) : State :=
  let r := s.findRoot t p last
  let s1 := s.modTile t (fun x => { x with
    sealing := x.sealing.filter (fun z => decide (z.part ≠ p)) ++ [{ part := p, root := r.getD 0, rootLost := r.isNone }] })
  if r.isNone then (s1.raise (Ob.inst Ob.SEAL_STATUS p) 2 (Ob.inst Ob.SEAL_OCC p + 2)).tev t Ev.ROOT_LOST 0xFF p [] else s1
/-- Loads the roots of tile `t` (R305, R306). -/
def State.loadRoots (s : State) (t last : Nat) : State :=
  let ps := (s.parts.filter (fun x => decide (x.2.st ≠ 0) && x.2.isSealed && x.2.tileSet.testBit t)).map (fun x => x.1)
  s.each ps (fun s' p => s'.loadRoot t p last)
/-- The spanned lines in the mirror dump of a tile that stays FENCED become working entries of its stand-in (R271). [DEDUCED, assumption 42] -/
def State.adoptDump (s : State) (t : Nat) : State :=
  let m := (s.tile t).fence.standin
  match s.shadowRecOf t with
  | some r =>
    if m < s.n then s.each r.dump (fun s' e =>
      (s'.modRes m (fun q => (q.place { e with st := if e.mask = fullMask then .dirty else .incomplete, overflow := false }).1)).shadowFor m t true 1 e.addr)
    else s
  | none => s
/-- Step B7: roots and reconcile of every tile, the dirty shutdown count, effective dirty limits, health (R152, R305, R384, R143, R493). -/
def State.bringReconcile (s : State) : State :=
  let s0 := s.setCell Ob.SHADOW_LOST_LINES 0
  let s1 := s0.each s0.tileNumbers (fun s' t => s'.loadRoots t (s0.lastGeneration t))
  let s2 := s1.each s1.upTiles (fun s' t => s'.reconcile t (s0.lastGeneration t))
  let s3 := s2.each (s2.tileNumbers.filter (fun t => decide ((s2.tile t).fence.st = .fenced))) (fun s' t => s'.adoptDump t)
  let s4 := if s3.cell Ob.SHUTDOWN_STATE 0 = 1 then
      let c := s3.cell Ob.DIRTY_SHUTDOWN_COUNT 0 + 1
      (s3.setCell Ob.DIRTY_SHUTDOWN_COUNT c).each s3.upTiles (fun s' t => s'.modPs t (fun p => p.saveRing 3 c))
    else s3
  ((s4.setLimits).settleJournal).evalHealth
/-- An erase that a DRAIN interrupted starts again (R497). -/
def State.resumeErase (s : State) : State :=
  if s.svc.eraseState = 3 ∧ s.eraseLegal = true then s.startErase s.svc.eraseKind else s
/-- The milliseconds since the sequence began (R478). -/
def State.bringupMs (s : State) : Nat := (s.pkgNow - s.sup.t0) / 1000000
/-- Memory becomes active. -/
def State.openMemory (s : State) : State :=
  let s1 := { s with dev := { s.dev with memActive := true } }
  s1.setCell Ob.LAST_BRINGUP_MS (s.bringupMs % 2 ^ 32)
/-- Step B8: memory is active (R478). -/
def State.bringActive (s : State) : State :=
  let ms := s.bringupMs
  let s1 := s.openMemory
  let dest : DevState := if s1.degradedCondition then .degraded else .ready
  let s2 := s1.goto dest 9
  (s2.pev Ev.BRINGUP_DONE ms [(4, s2.generation)]).resumeErase
/-- The damage that B5 finds in tile `t`: header copies and moves that do not decode. -/
def mapDamage (found : List Nat) (t : Nat) : List Nat := (found.filter (fun i => decide (i % 8 = t))).map (fun i => i / 8)
/-- BRINGUP_STEP_DONE (R478): the next bring-up step completes. `found` says what it found: the damage of the parameter stores (B2), the tiles that fail their
self-test (B3), the header copies and rotation moves that do not decode, as tile + 8 × their number (B5), the greatest probe class of each tile (B6). -/
def execBringupStepDone (found : List Nat) (s : State) : Host.Outcome State Fault Refusal :=
  .next (
    let on (s : State) (k : Nat) : State := { s with dev := { s.dev with bringup := k } }
    match s.dev.st, s.dev.bringup with
    | .test, 1 => on (s.bringStores found) 2
    | .test, 2 => (on s 3).selfTest found
    | .test, 3 =>
      let gen := s.generation + 1
      on ((s.each s.upTiles (fun s' t => s'.modPs t (fun p => p.saveRing 0 gen))).goto .rebuild 6) 4
    | .rebuild, 4 => on (s.each s.upTiles (fun s' t => s'.rebuildMap t (mapDamage found t))) 5
    | .rebuild, 5 => on (s.each s.upTiles (fun s' t => s'.driftProbe t (found.getD t 0))) 6
    | .rebuild, 6 => on s.bringReconcile 7
    | .rebuild, 7 => (on s 8).bringActive
    | _, _ => s)
/-- DEGRADED_EXIT (R476): no DEGRADED condition holds any more. -/
def execDegradedExit (s : State) : Host.Outcome State Fault Refusal :=
  .next (if s.dev.st = .degraded ∧ !s.degradedCondition then s.goto .ready 11 else s)

/-! ### Slot rings (R471) -/

/-- PSTORE_RING_SAVE (R471): tile `t` saves the drift clock, its lifetime strokes or its powered-on time, or every ACTIVE tile the hottest reading; the other rings are saved
where their values change. -/
def execPstoreRingSave (t ring : Nat) (s : State) : Host.Outcome State Fault Refusal :=
  .next (
    let x := s.tile t
    if t < s.n ∧ x.sup.railsUp then
      match ring with
      | 2 => s.modPs t (fun p => p.saveRing 2 x.pat.drift)
      | 4 => s.modPs t (fun p => p.saveRing 4 x.med.strokes)
      | 5 => s.modPs t (fun p => p.saveRing 5 (x.time.onNs / 10 ^ 9))
      | 6 => s.each s.activeTiles (fun s' u => s'.modPs u (fun p => p.saveRing 6 (s.cell Ob.TEMP_MAX_LIFE_C 0)))
      | _ => s
    else s)

end Sys2Proof.Machine
end

