-- ==== Sys2Proof/Machine/Tick.lean ====
section
/-! DEFINITION. What passes with time: temperatures (R219, R350, R409, R415, R512), the timebase tick with the level and slot counters (R31, R219, R334,
R337, R444, R447), the counter snapshot (R450). -/
namespace Sys2Proof.Machine
open Sys2Proof

/-! ### Temperature -/

/-- 7,800 times F between two points of R219: at `t` °C, from (`t0`, `f0`) to (`t1`, `f1`). [DESIGN CHOICE, assumption 21] -/
def driftSpan (t t0 t1 : Int) (f0 f1 : Nat) : Nat := f0 * 7800 + (t - t0).toNat * (f1 - f0) * 7800 / (t1 - t0).toNat
/-- 7,800 times the drift rate F at a temperature (R219). Below −40 °C the spec gives no F. [DESIGN CHOICE, assumption 21] -/
def driftRate (t : Int) : Nat :=
  if t < -40 then Config.rateBelow t.natAbs
  else if t < 25 then driftSpan t (-40) 25 1 2
  else if t < 40 then driftSpan t 25 40 2 6
  else if t < 55 then driftSpan t 40 55 6 20
  else if t < 70 then driftSpan t 55 70 20 72
  else if t < 85 then driftSpan t 70 85 72 256
  else if t < 110 then driftSpan t 85 110 256 1024
  else if t < 150 then driftSpan t 110 150 1024 4096
  else 4096 * 7800

/-- The greatest of some temperatures; `d` of none. -/
def hottestOf (d : Int) : List Int → Int
  | [] => d
  | a :: rest => rest.foldl max a
/-- A tile takes its sample: the medium dies 0 to 15 and, last, the controller die; F follows the hottest stack die (R219, R512). -/
def Tile.sampled (x : Tile) (l : List Int) : Tile :=
  { x with sup := { x.sup with dieTemps := l, temp := hottestOf x.sup.temp l },
           pat := { x.pat with rate := driftRate (hottestOf x.sup.temp l) } }
/-- The tile with the hottest reading, and its hottest die (R350, R415). -/
def State.hottestTile (s : State) : Nat := (s.tileNumbers.find? (fun t => decide ((s.tile t).sup.temp = s.hottest))).getD 0
/-- Number of the hottest die of the package: 17 × tile + position. [DEDUCED, assumption 39] -/
def State.hottestDie (s : State) : Nat :=
  let t := s.hottestTile
  17 * t + ((s.tile t).sup.dieTemps.takeWhile (fun v => decide (v ≠ s.hottest))).length

/-- Throttle and thermal emergency (R350). [DEDUCED, assumption 39] -/
def State.thermal (s : State) : State :=
  let h := s.hottest
  let em := decide (148 ≤ h) || (s.feed.emergency && decide (145 ≤ h))
  let th := decide ((s.thermalLimit : Int) ≤ h) || em
  let s1 : State := { s with feed := { s.feed with emergency := em, throttle := th } }
  let s2 := if th && !s.feed.throttle then
      ((s1.raise Ob.BUDGET_STATUS 2 (Ob.BUDGET_OCC + 2)).alert 3).tev s1.hottestTile Ev.THERMAL_THROTTLE 0xFF (h % 2 ^ 64).toNat [(4, s1.peff / 1000)]
    else s1
  let s3 := if em && !s.feed.emergency then
      ((s2.raise Ob.BUDGET_STATUS 3 (Ob.BUDGET_OCC + 3)).alert 3).pev Ev.THERMAL_EMERGENCY (h % 2 ^ 64).toNat [(1, s2.hottestTile)]
    else s2
  s3.degrade
/-- The hottest reading since manufacture (`TEMP_MAX_LIFE_C`, R515). [DEDUCED, assumption 39] -/
def State.lifeTemp (s : State) : State :=
  s.setCell Ob.TEMP_MAX_LIFE_C (maxS32 (s.cell Ob.TEMP_MAX_LIFE_C 0) (s32 s.hottest))
/-- 152 °C for 1 ms is DRAIN trigger 8 (R409). -/
def State.overheat (s : State) : State :=
  if s.hottest < 152 then { s with dev := { s.dev with hotSince := none } }
  else match s.dev.hotSince with
    | none => { s with dev := { s.dev with hotSince := some s.pkgNow } }
    | some t0 => if t0 + 1000000 ≤ s.pkgNow then s.drainTrigger 8 else s
/-- TEMPERATURE_SAMPLE (R219, R350, R512): the readings of every tile, in tile order. -/
def execTemperatureSample (temps : List (List Int)) (s : State) : Host.Outcome State Fault Refusal :=
  .next (if s.dev.st = .unpowered then s else
    let s1 := s.each s.tileNumbers (fun s' t => s'.modTile t (fun x => x.sampled (temps.getD t [])))
    let s2 := s1.lifeTemp
    let s3 := if s2.dev.mainUp then s2.thermal else s2
    let s4 := if 165 ≤ s3.hottest then s3.thermtrip s3.hottestDie else s3
    s4.overheat)

/-! ### Level counters (R444) -/

/-- A request that waits only for a nib token of tile `t` (R120, R336). [DEDUCED, assumption 41] -/
def State.nibWait (s : State) (t : Nat) : Bool :=
  let x := s.tile t
  let waits := ((List.range 16).map (fun i => s.waitingFor t i)).flatten
  waits.any (fun r =>
    s.reqEligible r && x.rd.tokenFree r.src r.write && r.needsNib && !((candidateDies r.lla).all (fun d => x.rd.nibFree r.src d)) &&
    (!r.write || (decide (s.gate t = 0) && (s.reqReserved r || !s.softClosed t))))
/-- An excess write to tile `t` waits behind the soft threshold (R336). [DEDUCED, assumption 41] -/
def State.softWait (s : State) (t : Nat) : Bool :=
  s.softClosed t && ((List.range 16).map (fun i => s.waitingFor t i)).flatten.any (fun r => r.write && !s.reqReserved r)
/-- An eviction of tile `t` waits for a META fetch (R297). [DEDUCED, assumption 41] -/
def State.metaWait (s : State) (t : Nat) : Bool :=
  let x := s.tile t
  x.res.entries.any (fun e => decide (e.st = .dirty ∨ e.st = .incomplete) && decide (e.kind = .data) && (s.partn e.part).isSealed &&
    ((s.partn e.part).chain e.owner e.addr).any (fun m => x.fetchingMeta e.owner ((s.partn e.part).lineLla e.owner m)))
/-- The descriptor queues of a tile. -/
def State.queuesOf (s : State) (t : Nat) : List (Nat × Queue) := s.queues.filter (fun x => decide (x.1 / 64 = t))
/-- The level counters of tile `t` with their conditions. [DEDUCED, assumption 41] -/
def State.tileLevels (s : State) (t : Nat) : List (Nat × Bool) :=
  let x := s.tile t
  [(Cn.TIMEBASE_HOLDOVER_TICKS, x.time.holdover),
   (Cn.READ_TOKENS_EXHAUSTED, decide (256 ≤ sumList x.rd.rdUse)),
   (Cn.NIB_TOKEN_WAIT_TICKS, s.nibWait t),
   (Cn.WRITE_GATE_TICKS, decide (s.gate t ≠ 0)),
   (Cn.BARRIER_WAIT_TICKS, (s.queuesOf t).any (fun q => q.2.descs.any (fun d => d.barrier && d.armed && !d.ended))),
   (Cn.MIGRATION_TICKS, x.map.migs.any (fun m => decide (1 ≤ m.step ∧ m.step ≤ 5))),
   (Cn.ACCEL_PATROL_TICKS, x.pat.accelOn),
   (Cn.META_FETCH_TICKS, s.metaWait t),
   (Cn.SCRIBE_BUSY_TICKS, (s.queuesOf t).any (fun q => q.2.descs.any (fun d => !d.ended))),
   (Cn.SQ_HOLD_TICKS, (s.queuesOf t).any (fun q => decide (s.queueState t (q.1 % 64) = 2))),
   (Cn.FEED_HELD_TICKS, !(s.port t).held.isEmpty),
   (Cn.CREDIT_WITHHELD_TICKS, (s.port t).withheld),
   (Cn.SOFT_GATE_TICKS, s.softWait t),
   (Cn.CREDIT_DENIED_TICKS, x.res.strokes.any (fun k => !k.running && !s.hasCredit t k)),
   (Cn.PEAK_LIMIT_TICKS, decide (s.strokeLimit ≤ x.res.inFlight)),
   (Cn.URGENT_TICKS, decide ((s.port t).urg = 3)),
   (Cn.LINK_DOWN_TICKS, s.portUsed t && !(s.port t).up),
   (Cn.BT_LIMIT_TICKS, x.sup.btLimit)]
/-- The level counters of the package with their conditions. [DEDUCED, assumption 41] -/
def State.packageLevels (s : State) : List (Nat × Bool) :=
  [(Cn.FENCED_TICKS, s.tileNumbers.any (fun t => !s.tileActive t)),
   (Cn.POWER_OVER_CAP_TICKS, s.feed.overCap),
   (Cn.THERMAL_THROTTLE_TICKS, s.feed.throttle),
   (Cn.RESERVATION_SCALED_TICKS, s.feed.scaled),
   (Cn.HOLDUP_ON_TICKS, s.sup.onHold),
   (Cn.DEGRADED_TICKS, decide (s.dev.st = .degraded)),
   (Cn.ALERT_LOW_TICKS, decide ((s.cell Ob.ALERT_STATUS 0) &&& (s.cell Ob.ALERT_MASK 0x1F) ≠ 0)),
   (Cn.TEMP_ABOVE_110_TICKS, decide (110 < s.hottest))]

/-- The class of a tick in which the channel of a nib is idle (R447): 6 with nothing at its entry stage and no stroke queued; 9 or 10 for what
stops its oldest waiting operation; else the stack interface, 8. [DEDUCED, assumption 40] -/
def State.idleClass (s : State) (t die : Nat) : Nat :=
  let x := s.tile t
  let busy (b : Nat) : Bool := x.stroking b || x.reading b
  match x.rd.senses.find? (fun q => decide (q.at_ = .entry ∧ bankOf q.slot / 32 = die)),
        x.res.strokes.find? (fun k => !k.running && decide (bankOf k.slot / 32 = die)) with
  | none, none => 6
  | some q, _ =>
    let member := match x.rd.byId q.rd with
      | some r => (s.membersOf t r).any (fun m => m.image.isNone && busy (bankOf m.slot))
      | none => false
    if busy (bankOf q.slot) || member then 10 else 8
  | none, some k => if !s.hasCredit t k then 9 else if busy (bankOf k.slot) then 10 else 8
/-- The transfers of a nib take up to `k` ticks of its channel, in the order of the slot classes given; the second result is the ticks left.
[DEDUCED, assumption 40] -/
def State.takeTransfers (s : State) (t die : Nat) : List Nat → Nat → State × Nat
  | [], k => (s, k)
  | c :: cs, k =>
    let num := t * 0x400 + 0x100 + 16 * die + c
    let have_ := s.cnt.owed.getD num 0
    let m := min k have_
    let s1 := if m = 0 then s else { s with cnt := { s.cnt with owed := s.cnt.owed.put 0 num (have_ - m) } }.count num m
    s1.takeTransfers t die cs (k - m)
/-- Slot counters of a nib over `k` ticks (R447): every tick counts in SLOTS_TOTAL and in exactly one class. [DEDUCED, assumption 40] -/
def State.countSlots (s : State) (t die k : Nat) : State :=
  let s1 := s.tcount t (0x100 + 16 * die) k
  let r := s1.takeTransfers t die [1, 2, 3, 4, 5] k
  if r.2 = 0 then r.1 else r.1.tcount t (0x100 + 16 * die + s.idleClass t die) r.2
/-- The level and slot counters over `k` ticks in which nothing else happens. [DESIGN CHOICE, assumption 21] -/
def State.countLevels (s : State) (k : Nat) : State :=
  let s1 := s.each s.tileNumbers (fun s' t =>
    (s'.each ((s.tileLevels t).filter (fun c => c.2)) (fun s2 c => s2.tcount t c.1 k)).each (List.range 16) (fun s2 d => s2.countSlots t d k))
  s1.each (s.packageLevels.filter (fun c => c.2)) (fun s' c => s'.count c.1 k)

/-! ### The tick -/

/-- Fills what was taken from four buckets for `k` ticks (R334). -/
def State.fillBuckets (s : State) (c : Nat) (scribe : Bool) (k : Nat) (b : Buckets) : Buckets :=
  { rdCeil := b.rdCeil - k * s.ceilFill c false scribe, rdRes := b.rdRes - k * s.resFill c false scribe,
    wrCeil := b.wrCeil - k * s.ceilFill c true scribe, wrRes := b.wrRes - k * s.resFill c true scribe }
/-- Every class's buckets fill for `k` ticks. [DESIGN CHOICE, assumption 21] -/
def State.fillFeed (s : State) (k : Nat) : State :=
  { s with feed := { s.feed with classes := s.feed.classes.map (fun (x : Nat × FeedClass) =>
    (x.1, { x.2 with host := s.fillBuckets x.1 false k x.2.host, scribe := s.fillBuckets x.1 true k x.2.scribe })) } }
/-- A tile's timebase, its powered-on time and its drift clock over `k` ticks (R31, R219, R471). [DESIGN CHOICE, assumptions 21, 63] -/
def Tile.advance (x : Tile) (k : Nat) : Tile :=
  let f := x.pat.driftFrac + x.pat.rate * k
  let unit := 256 * 7800 * 10 ^ 9
  let x1 : Tile := { x with time := { x.time with tb := x.time.tb + k, onNs := x.time.onNs + k } }
  if x.sup.railsUp then { x1 with pat := { x.pat with drift := (x.pat.drift + f / unit) % 2 ^ 32, driftFrac := f % unit } } else x1
/-- TIMEBASE_TICK (R31, R219, R334, R337, R444): `k` ticks of the timebase in which nothing else happens. [DESIGN CHOICE, assumption 21] -/
def execTimebaseTick (k : Nat) (s : State) : Host.Outcome State Fault Refusal :=
  .next (if s.dev.st = .unpowered then s else
    let s1 := if s.dev.mainUp then ((s.each s.activeTiles (fun s' t => s'.sampleDemand t k)).fillFeed k).countLevels k else s
    s1.each s1.tileNumbers (fun s' t => s'.modTile t (fun x => x.advance k)))

/-! ### The snapshot (R450) -/

/-- `CNT_SNAPSHOT` (R450), step 1. [DEDUCED, assumption 28] -/
def State.cntSnapshot (s : State) (v : Nat) : OpEnd :=
  if ¬ (v < 8 ∨ v = 0xFF) then .now (s.refused Err.range 0)
  else if v ≠ 0xFF ∧ ¬ (v < s.n ∧ s.tileActive v = true) then .now (s.refused Err.state Detail.tile)
  else if s.cnt.snapArg.isSome then .now (s.refused Err.busy 0)
  else
    let gone (c : Nat) : Bool := decide (v = 0xFF) && decide (c < 0x2000) && !s.tileActive (c / 0x400)
    .later { s with cnt := { s.cnt with
      snapSeq := s.cnt.snapSeq + 1, snapArg := some v, snapAt := s.pkgNow + 10000, snapDone := [],
      snap := s.cnt.snap.filter (fun x => !gone x.1) } } .snapshot
/-- The group of counters that latches together: those of tile `t`, for 8 those of the package. -/
def counterGroup (c : Nat) : Nat := if c < 0x2000 then c / 0x400 else 8
/-- One group latches into its snapshot bank. -/
def Counters.latch (c : Counters) (g : Nat) : Counters :=
  let kept := c.snap.filter (fun x => decide (counterGroup x.1 ≠ g))
  { c with snap := (c.live.filter (fun x => decide (counterGroup x.1 = g))).foldl (fun m x => m.insert x.1 x.2) kept, snapDone := c.snapDone ++ [g] }
/-- The groups that the snapshot in progress names. -/
def State.snapGroups (s : State) : List Nat :=
  match s.cnt.snapArg with
  | none => []
  | some v => if v = 0xFF then s.activeTiles ++ [8] else if s.tileActive v then [v] else []
/-- The groups that have reached T (R450). -/
def State.snapReached (s : State) : List Nat :=
  s.snapGroups.filter (fun g => !s.cnt.snapDone.contains g && decide (s.cnt.snapAt ≤ (if g = 8 then s.pkgNow else s.now g)))
/-- Latches what has reached T; `true` when step 3 is reached: the sequence becomes even and `CNT_SNAPSHOT_TIME` has T. [DEDUCED, assumption 28] -/
def State.latchReached (s : State) : State × Bool :=
  let s1 := s.each s.snapReached (fun s' g => { s' with cnt := s'.cnt.latch g })
  if s.cnt.snapArg.isSome && s1.snapGroups.all (fun g => s1.cnt.snapDone.contains g) then
    (({ s1 with cnt := { s1.cnt with snapSeq := s1.cnt.snapSeq + 1, snapTime := s.cnt.snapAt, snapArg := none, snapDone := [] } }).count Cn.CNT_SNAPSHOTS 1,
     true)
  else (s1, false)

end Sys2Proof.Machine
end

