-- ==== Sys2Proof/Machine/Rejoin.lean ====
section
/-! DEFINITION. Rejoining a fenced tile (R269 to R271, R282, R445, R467). -/
namespace Sys2Proof.Machine
open Sys2Proof

/-! ### The start -/

/-- The next ACTIVE tile after `t` in the E direction; 0xFF when there is none (R127, R260). -/
def State.nextActive (s : State) (t : Nat) : Nat :=
  ((List.range (s.n - 1)).map (fun i => (t + 1 + i) % s.n)).find? s.tileActive |>.getD 0xFF
/-- The domains of a tile are reset (R270 step 1): reservoir and reads empty; what the parameter store and the medium hold stays. -/
def Tile.domainReset (x : Tile) : Tile :=
  { x with
    res := { x.res.emptied with limit := x.res.limit },
    rd := { TileRead.reset with rdAllot := x.rd.rdAllot, wrAllot := x.rd.wrAllot, nibAllot := x.rd.nibAllot },
    pat := { x.pat with visit := none } }
/-- The counters of a tile start from zero (R445). [DEDUCED, assumption 28] -/
def State.restartCounters (s : State) (t cause : Nat) : State :=
  let c := s.cnt
  let s1 := { s with cnt := { c with
    live := c.live.filter (fun x => decide (counterGroup x.1 ≠ t)),
    owed := c.owed.filter (fun x => decide (counterGroup x.1 ≠ t)), start := modAt c.start t (fun _ => s.now t) } }
  s1.tev t Ev.COUNTERS_RESTARTED 0xFF (s.now t) [(1, cause)]
/-- A rejoin of tile `t` starts: its step 1 is under way (R270). -/
def State.startRejoin (s : State) (t : Nat) : State :=
  let m := s.nextActive t
  let s1 := s.modTile t (fun x => { x.domainReset with
    fence := { x.fence with st := .rejoining, rejoinStep := 1, resyncDone := 0, mirror := m, remirror := false } })
  let s2 := s1.restartCounters t 2
  if (s2.rec_ t).loaded then s2.modRec t (fun r => { r with nextPublish := s.now t + s.publishTicks }) else s2.loadRecorder t []
/-- `TILE_REJOIN` (R269, R275). -/
def State.tileRejoin (s : State) (t : Nat) : Result :=
  if s.n ≤ t then s.refused Err.range 0
  else if !s.inService then s.refused Err.state Detail.device
  else if (s.tile t).fence.st ≠ .fenced then s.refused Err.state Detail.tile
  else if (s.tile t).fence.isoFlush = 1 then s.refused Err.busy 0
  else (s.startRejoin t).ok
/-- Automatic rejoins of a tile that started within the last 24 h (R269). -/
def State.recentRejoins (s : State) (t : Nat) : List Nat :=
  (s.tile t).fence.autoTimes.filter (fun a => decide (s.pkgNow < a + 86400 * 10 ^ 9))
/-- Whether the device rejoins a tile by itself now (R269). -/
def State.autoRejoinDue (s : State) (t : Nat) : Bool :=
  let f := (s.tile t).fence
  decide (t < s.n ∧ f.st = .fenced ∧ s.cell Ob.AUTO_REJOIN 1 = 1 ∧ f.fenceTime + 100000000 ≤ s.pkgNow) && s.inService
    && decide (f.isoFlush ≠ 1 ∧ f.firstCause ≠ 5 ∧ (s.recentRejoins t).length < s.cell Ob.AUTO_REJOIN_MAX 3)
/-- AUTO_REJOIN (R269). -/
def execAutoRejoin (t : Nat) (s : State) : Host.Outcome State Fault Refusal :=
  .next (if s.autoRejoinDue t then
      (s.modFence t (fun f => { f with autoTimes := s.recentRejoins t ++ [s.pkgNow] })).startRejoin t
    else s)

/-! ### Steps 3 and 4 -/

/-- Roots of the plain sealed shares of a tile whose isolation flush did not complete (R305, R306). -/
def State.rejoinRoots (s : State) (t gen : Nat) : State :=
  if (s.tile t).ps.flushDone = some gen then s
  else
    let ps := (s.parts.filter (fun x => decide (x.2.st ≠ 0) && x.2.isSealed && !x.2.spanned && x.2.tileSet.testBit t)).map (fun x => x.1)
    s.each ps (fun s' p => s'.loadRoot t p gen)
/-- The reconcile of a rejoin (R270 step 3, R152): plain lines from FLUSH_DONE or the shadow record; spanned lines only from a mirror dump, which a double
fault leaves (R272). [DEDUCED, assumption 37] -/
def State.rejoinReconcile (s : State) (t gen : Nat) : State :=
  let rec? := (s.shadowRecOf t).filter (fun r => decide (r.generation = gen))
  let dump := (rec?.map ShadowRec.dump).getD []
  let plain (l : Nat) : Bool := !s.spannedSeg t (lsegOf l)
  let stripePlain (S : Nat) : Bool := !s.spannedSeg t ((s.tile t).map.seg (S / segStripes)).lseg
  let s1 := if (s.tile t).ps.flushDone = some gen then s
    else match rec? with
      | some r =>
        let stripes := ((r.entries.filter (fun e => decide (e.kind = 2))).map ShadowEntry.addr).filter stripePlain
        let lines := ((r.entries.filter (fun e => decide (e.kind = 1))).map ShadowEntry.addr).filter plain
        let s2 := (s.each stripes (fun s' S => s'.reparity t S)).each lines (fun s' l => s'.loseShadowed t l)
        if stripes.isEmpty ∧ lines.isEmpty then s2 else s2.tev t Ev.SHADOW_RECONCILE 0xFF stripes.length [(4, lines.length)]
      | none =>
        let bound := ((s.tile t).map.segs.filter (fun q => decide (q.2.cond = .bound) && !s.spannedSeg t q.2.lseg)).map (fun q => q.1)
        (s.tev t Ev.SHADOW_RECORD_LOST 0xFF 0 []).each bound (fun s' p =>
          s'.each (List.range segStripes) (fun s'' st => s''.reparity t (stripeAddr p st)))
  let s3 := s1.each dump (fun s' e =>
    (s'.modRes t (fun q => (q.place { e with st := if e.mask = fullMask then .dirty else .incomplete, overflow := false }).1)).shadow t true 1 e.addr)
  (s3.restorePins t ((rec?.map ShadowRec.pins).getD [])).rejoinRoots t gen
/-- The stand-in's entries of a rejoining tile that no eviction waits for leave it, and the segments of the others join the change list: from now on the
tile serves what the list does not name (R270 step 5). [DEDUCED, assumption 43] -/
def State.listStandin (s : State) (t : Nat) : State :=
  let m := (s.tile t).fence.standin
  let mine (e : Entry) : Bool := decide (e.owner = t ∧ e.st ≠ .mirror)
  let segs := (((s.tile m).res.entries.filter (fun e => mine e && e.st.counted)).map (fun e => lsegOf e.addr)).eraseDups
  if s.n ≤ m then s
  else (s.modRes m (fun r => { r with entries := r.entries.filter (fun e => !mine e || e.st.counted) })).modFence t (fun f =>
    { f with changed := f.changed ++ segs.filter (fun g => !f.changed.contains g) })
/-- Step 4 (R270, R282, R436, R472): ring links up, routes restored; the tile takes the configuration and the package values. -/
def State.rejoinLinks (s : State) (t : Nat) : State :=
  let c := (s.tile s.coreTile).ps
  let value (r : Nat) : Nat := (c.ringValue r).getD 0
  let s1 := s.modTime t (fun x => { x with linkE := true, linkW := true })
  let s2 := s1.modPs t (fun p => { (((p.saveRing 0 (value 0)).saveRing 3 (value 3)).saveRing 6 (value 6)) with config := c.config })
  s2.listStandin t

/-! ### Step 5 -/

/-- The value that a line of a rejoining tile has from its group: span parity from its members, another line by reconstruction (R257, R251).
[DEDUCED, assumption 43] -/
def State.resyncData (s : State) (t part lla : Nat) : Line :=
  if (s.partn part).ownsSpan t (lsegOf lla) then s.spanFromMembers part t lla else s.reconstruct t part lla
/-- One stripe of a segment is reconstructed and stroked with its parity (R270 step 5). [DEDUCED, assumption 43] -/
def State.resyncStripe (s : State) (t part lseg st : Nat) : State :=
  match (s.tile t).map.copyFor lseg st with
  | none => s
  | some c =>
    let x := s.tile t
    let S := c.stripe st
    let lla (k : Nat) : Nat := lseg * segLines + 8 * st + k
    let data := (List.range 8).map (fun k => if x.isLost (lla k) then 0 else s.resyncData t part (lla k))
    let reads := (s.spendCredits t 9).each (List.range 8) (fun s' k => s'.groupReads t part (lla k) 3)
    let s1 := reads.each (List.range 8) (fun s' k =>
      let key := dataKey (lla k)
      let w := if x.isLost (lla k) then poisonWord key else encodeLine key (data.getD k 0)
      (s'.strokeNow t (x.finalSlot (c.slot st (memberPos S k))) (s.lineClass part t lseg st S (memberPos S k) 3) w 0).1)
    ((s1.strokeNow t (x.finalSlot (c.slot st (parityPos S))) 2 (encodeLine (parityKey S) (xorLines data)) 0).1).tcount t Cn.RESYNC_LINES 8
/-- Whether the stand-in still has work of a segment of tile `t` to do: entries to evict, evictions, deltas (R270 step 5). [DEDUCED, assumption 43] -/
def State.standinBusy (s : State) (t lseg : Nat) : Bool :=
  s.tileNumbers.any (fun m => decide (m ≠ t) &&
    ((s.tile m).res.entries.any (fun e => decide (e.owner = t ∧ e.st ≠ .mirror ∧ lsegOf e.addr = lseg) && e.st.counted) ||
     (s.tile m).res.evicts.any (fun e => decide (e.owner = t ∧ lsegOf e.addr = lseg)) ||
     (s.tile m).res.deltaOut.any (fun d => decide (d.owner = t ∧ lsegOf d.lla = lseg))))
/-- The segment is handed back. [DEDUCED, assumption 43] -/
def State.handBack (s : State) (t lseg : Nat) : State :=
  let s1 := s.each s.tileNumbers (fun s' m => if m = t then s' else s'.modRes m (fun r => { r with
    entries := r.entries.filter (fun e => !decide (e.owner = t ∧ e.st ≠ .mirror ∧ lsegOf e.addr = lseg)) }))
  s1.modFence t (fun f => { f with changed := f.changed.filter (fun g => decide (g ≠ lseg)), resyncDone := f.resyncDone + 1 })
/-- RESYNC_SEGMENT (R270 step 5): a segment of the change list is reconstructed, stroked and handed back, once the stand-in has evicted its entries of it and
every other tile serves. -/
def execResyncSegment (t lseg : Nat) (s : State) : Host.Outcome State Fault Refusal :=
  .next (
    let f := (s.tile t).fence
    if t < s.n ∧ f.st = .rejoining ∧ f.rejoinStep = 5 ∧ f.changed.contains lseg = true ∧ s.standinBusy t lseg = false ∧
        s.tileNumbers.all (fun u => decide (u = t) || s.tileActive u) = true then
      match s.partOfSeg t lseg with
      | none => s.handBack t lseg
      | some part =>
        let s1 := if ((s.tile t).map.entry lseg).st = .fresh then s.bind t part lseg else s
        (s1.each (List.range segStripes) (fun s' st => s'.resyncStripe t part lseg st)).handBack t lseg
    else s)

/-! ### Steps 6 and 7 -/

/-- Another tile that is still FENCED gets a stand-in again when tile `t` has rejoined and was the only other one (R272).
[DEDUCED, assumptions 15, 42] -/
def State.endDouble (s : State) (t : Nat) : State :=
  let others := s.tileNumbers.filter (fun u => decide (u ≠ t) && !s.tileActive u)
  match others with
  | [u] =>
    let m := if s.tileActive ((u + 1) % s.n) then (u + 1) % s.n else 0xFF
    s.modFence u (fun f => { f with doubleFault := false, standin := m })
  | _ => s
/-- Step 7 (R270, R260, R330): the tile is ACTIVE; the mirror of its W neighbour returns to it; every enabled queue gets its record.
[DEDUCED, assumption 15] -/
def State.rejoined (s : State) (t : Nat) : State :=
  let f := (s.tile t).fence
  let w := (t + s.n - 1) % s.n
  let qs := below 64 (fun q => decide ((s.queue t q).st ≠ 0))
  let s1 := s.each s.tileNumbers (fun s' m => if m = t then s' else s'.modRes m (fun r => { r with
    entries := r.entries.filter (fun e => !decide (e.owner = t ∧ e.st ≠ .mirror)),
    shadow := if s.mirrorOf t = m then r.shadow else r.shadow.filter (fun e => decide (e.owner ≠ t)) }))
  let s2 := s1.each qs (fun s' q => s'.abandonRecord t q)
  let s3 := s2.modFence t (fun g => { g with
    st := .active, cause := 0, firstCause := 0, isoFlush := 0, standin := 0xFF, doubleFault := false, rejoinStep := 0 })
  let s4 := if s3.tileActive w ∧ w ≠ t then s3.moveMirror w t else s3.modFence w (fun g => { g with mirror := t })
  let s5 := (s4.endDouble t).pevAt (fenceTile t) Ev.TILE_REJOINED 0xFF t [(4, f.resyncDone)]
  s5.evalHealth
/-- REJOIN_STEP_DONE (R270): the present step of the rejoin of tile `t` completes, or fails. `bad` lists the header copies and
rotation moves that do not decode (step 2). [DEDUCED, assumption 43] -/
def execRejoinStepDone (t : Nat) (ok : Bool) (bad : List Nat) (s : State) : Host.Outcome State Fault Refusal :=
  .next (
    let f := (s.tile t).fence
    let on (s : State) (k : Nat) : State := s.modFence t (fun g => { g with rejoinStep := k })
    if ¬ (t < s.n ∧ f.st = .rejoining) then s
    else if !ok then s.rejoinFailed t
    else match f.rejoinStep with
      | 1 => on s 2
      | 2 => on (s.rebuildMap t bad) 3
      | 3 => on (s.rejoinReconcile t (((s.tile t).ps.ringValue 0).getD 0)) 4
      | 4 => on (s.rejoinLinks t) 5
      | 5 => if f.changed.isEmpty then on s 6 else s
      | 6 => on s 7
      | _ => s.rejoined t)

end Sys2Proof.Machine
end

