-- ==== Sys2Proof/Machine/Server.lean ====
section
/-! DEFINITION. The dictionary server (R417 to R439, 15): reads and writes of objects, errors, Staeb messages. -/
namespace Sys2Proof.Machine
open Sys2Proof

/-! ### Errors (R429) -/

/-- Logs an error: `DICT_LAST_ERROR`, `DICT_STATUS`, the event (R429). [DEDUCED, assumption 25] -/
def State.logError (s : State) (q : Requester) (code detail key : Nat) : State :=
  let v := s.pkgNow % 2 ^ 64 * 2 ^ 64 + packFields [(24, key), (8, detail), (8, code), (4, s.dev.st.code), (4, q.transport), (16, q.code)]
  (((s.setCell Ob.DICT_LAST_ERROR v).raise Ob.DICT_STATUS 0 Ob.DICT_OCC).count Cn.DICT_ERRORS 1).pev Ev.DICT_ERROR v [(8, v / 2 ^ 64)]

/-! ### Which operations answer (R430, R432) -/

/-- Whether the ranges above 0x2FFF do not answer (R432). [DEDUCED, assumption 27] -/
def State.notReady (s : State) : Bool := !s.inService && decide (s.dev.st ≠ .drain ∧ s.dev.st ≠ .safe)
/-- Whether writes and commands above 0x2FFF are refused (R432). [DEDUCED, assumption 27] -/
def State.shutting (s : State) : Bool := decide (s.dev.st = .drain ∨ s.dev.st = .safe)
/-- The tile whose recorder an object belongs to (R467). -/
def ObPlace.recorderOf (p : ObPlace) : Option Nat :=
  if p.row.key = Ob.REC_SUMMARY then (if p.off < 0x600 then some (p.off / 0xC0) else none)
  else if p.row.inst = .tile ∧ p.row.key / 256 = 0xA010 then some p.i
  else none
/-- Whether an object belongs to the recorder of a FENCED tile (R467). [DEDUCED, assumption 27] -/
def State.recorderGone (s : State) (p : ObPlace) : Bool := match p.recorderOf with
  | some t => decide ((s.tile t).fence.st = .fenced)
  | none => false
/-- Whether an object is the live counter of a tile that is not ACTIVE (R446). -/
def State.counterGone (s : State) (p : ObPlace) : Bool :=
  decide (p.row.key = Ob.CNT_LIVE ∧ p.off < 0x2000) && !(decide (p.off / 0x400 < s.n) && s.tileActive (p.off / 0x400))
/-- Objects whose write needs the owner role (R425). -/
def ownerObs : List Nat := [Ob.RIGHTS_MAP, Ob.MAINT_KX, Ob.SEAL_KX, Ob.LD_CLEAR_KX, Ob.HDM_KX_CFG, Ob.DEBUG_UNLOCK, Ob.DEBUG_LOCK]
/-- Objects whose write needs the owner role once an owner is installed (R499). -/
def installedObs : List Nat := [Ob.OWNER_INSTALL, Ob.FW_SVN_COMMIT, Ob.DECOMMISSION]
/-- Whether the role of a requester permits a write (R425, R499). -/
def State.rightsFor (s : State) (q : Requester) (p : ObPlace) : Bool :=
  if ownerObs.contains p.row.key then s.isOwner q else if installedObs.contains p.row.key then s.ownerRights q else true
/-- Whether the object accepts the transport (R279, R494). -/
def State.pathFor (s : State) (q : Requester) (p : ObPlace) : Bool :=
  if p.row.key = Ob.KEY_LOAD ∨ p.row.key = Ob.KEY_ERASE then s.keyPath q
  else if p.row.key = Ob.OWNER_INSTALL then (s.sessionOf q).isSome
  else true
/-- Whether the access code has a read, or a write (R421). -/
def ObAccess.readable (a : ObAccess) : Bool := decide (a = .ro ∨ a = .rw ∨ a = .rws ∨ a = .w1c)
/-- Configuration objects: every RWS object but `SHUTDOWN_STATE` (R422, R384). -/
def ObPlace.isConfig (p : ObPlace) : Bool := decide (p.access = .rws ∧ p.row.key ≠ Ob.SHUTDOWN_STATE)

/-! ### Reads -/

/-- A READ of an object (R421 to R423). -/
def State.readOp (s : State) (q : Requester) (p : ObPlace) (value : List Nat) : Result :=
  if !p.access.readable then s.refused Err.access 0
  else if value ≠ [] then s.refused Err.type 0
  else if s.recorderGone p || s.counterGone p then s.refused Err.state Detail.tile
  else s.done (s.readOb q p)
/-- The staged set of a requester. -/
def State.setOf (s : State) (q : Requester) : Option StagedSet := s.mgmt.sets.find? (fun x => decide (x.req = q))
/-- Changes the staged set of a requester. -/
def State.modSet (s : State) (q : Requester) (f : StagedSet → StagedSet) : State :=
  { s with mgmt := { s.mgmt with sets := s.mgmt.sets.map (fun (x : StagedSet) => if x.req = q then f x else x) } }
/-- Discards the staged set of a requester (R433). -/
def State.dropSet (s : State) (q : Requester) : State :=
  { s with mgmt := { s.mgmt with sets := s.mgmt.sets.filter (fun x => decide (x.req ≠ q)) } }
/-- A READ_STAGED (R422, R433): the staged value, or the applied one of an object that is not in the set. -/
def State.readStagedOp (s : State) (q : Requester) (p : ObPlace) (value : List Nat) : Result :=
  if !p.isConfig then s.refused Err.access 0
  else if value ≠ [] then s.refused Err.type 0
  else
    let staged := (s.setOf q).bind (fun x => Sparse.find x.items p.cell)
    (s.modSet q (fun x => { x with touched := s.pkgNow })).done (bytesLE p.row.size (staged.getD (s.applied p)))

/-! ### Writes that are staged (R433) -/

/-- Stages a value. -/
def State.stageWrite (s : State) (q : Requester) (p : ObPlace) (v : Nat) : Result :=
  match s.setOf q with
  | some x =>
    if x.items.length = 1024 ∧ (Sparse.find x.items p.cell).isNone then s.refused Err.range 1
    else (s.modSet q (fun y => { y with items := Sparse.insert y.items p.cell v, touched := s.pkgNow })).ok
  | none =>
    if 8 ≤ s.mgmt.sets.length then s.refused Err.busy 0
    else
      let s1 : State := { s with mgmt := { s.mgmt with sets := s.mgmt.sets ++ [{ req := q, items := [(p.cell, v)], touched := s.pkgNow }] } }
      s1.ok

/-! ### Status bits that software clears (R437 to R439) -/

/-- A write of `v` to a W1C object: the captured value, and the occurrence counters of the bits written as 1. -/
def State.w1cWrite (s : State) (p : ObPlace) (v : Nat) : Result :=
  let captured := s.applied p ||| s.liveBits p
  match w1cRows.find? (fun x => decide (x.1 = p.row.key)) with
  | none => s.done (bytesLE 4 captured)
  | some (_, lo, count, occ) =>
    let named := (List.range count).filter (fun k => v.testBit (lo + k))
    let occs := named.map (fun k => bytesLE 2 (s.cell (Ob.inst occ p.i + k) 0))
    let left := named.foldl (fun m k => clearBit m (lo + k)) (s.applied p)
    (s.setCell p.cell left).done (bytesLE 4 captured ++ occs.flatten)

/-! ### COMMIT (R434, R436) -/

/-- A write of `COMMIT` with the expected generation (R434, R436). [DEDUCED, assumption 27] -/
def State.commitOp (s : State) (q : Requester) (expected : Nat) : Result :=
  if !s.inService then ((s.setCommitStatus Err.state q).dropSet q).refused Err.state Detail.device
  else
    let items := match s.setOf q with
      | some x => x.items
      | none => []
    match s.commitSet q expected items with
    | (s1, none) => (s1.dropSet q).done (bytesLE 8 (s1.cell Ob.COMMIT_STATUS 0))
    | (s1, some e) => { (s1.dropSet q).refused e.code e.detail with named := some e.key }

/-! ### Commands -/

/-- A command that returns when its Result says. -/
def State.dropOwnSet (s : State) (q : Requester) : Result :=
  if (s.setOf q).isSome then (s.dropSet q).ok else s.refused Err.state Detail.object
/-- `FLIP_ARM` (R98, R100). -/
def State.flipArm (s : State) (t v : Nat) : Result :=
  if v = 1 then (s.modMed t (fun m => { m with flipArmed := true })).ok else (s.discardFlip t 4).ok
/-- `KEY_LOAD` from its bytes: slot, K1, K2 (10). -/
def State.keyLoad (s : State) (q : Requester) (v : Nat) : OpEnd :=
  s.keyCommand q (bitsOf v 0 12) (some (BitVec.ofNat 256 (v / 2 ^ 64), BitVec.ofNat 256 (v / 2 ^ 320)))
/-- Commands that end at once, by object: requester, instance, argument. -/
def nowCommands : List (Nat × (State → Requester → Nat → Nat → Result)) := [
  (Ob.READ_SVC_CLEAR, fun s _ i _ => (s.readSvcClear i).ok),
  (Ob.MIGRATE_REQUEST, fun s _ _ v => s.migrateRequest v), (Ob.QUARANTINE_ACK, fun s _ _ v => s.quarantineAck v),
  (Ob.MAP_QUERY, fun s _ _ v => s.mapQuery v), (Ob.SCRUB_START, fun s _ _ v => s.scrubStart v),
  (Ob.SCRUB_ABORT, fun s _ _ v => s.scrubAbort v), (Ob.TILE_FENCE, fun s _ _ v => s.tileFence v),
  (Ob.TILE_REJOIN, fun s _ _ v => s.tileRejoin v), (Ob.KEY_QUERY, fun s _ _ v => s.keyQuery v),
  (Ob.DEBUG_UNLOCK, fun s q _ v => s.debugUnlock q v), (Ob.DEBUG_LOCK, fun s _ _ v => s.debugLock v),
  (Ob.SEAL_ROOT_ADOPT, fun s _ i v => s.sealRootAdopt i v), (Ob.SQ_RESTART, fun s _ i v => s.sqRestart (i / 64) (i % 64) v),
  (Ob.CLASS_HELD_CLEAR, fun s _ i v => s.classHeldClear i v), (Ob.COMMIT, fun s q _ v => s.commitOp q v),
  (Ob.STAGE_DISCARD, fun s q _ _ => s.dropOwnSet q), (Ob.FLIP_ARM, fun s _ i v => s.flipArm i v),
  (Ob.REC_NEXT, fun s _ i v => s.done (s.recNext i v)), (Ob.REC_PKG_NEXT, fun s _ _ v => s.done (s.recNext 8 v)),
  (Ob.FW_ACTIVATE, fun s _ _ v => s.fwActivate v), (Ob.FW_SVN_COMMIT, fun s q _ v => s.fwSvnCommit q v),
  (Ob.OWNER_INSTALL, fun s q _ v => s.ownerInstall q v), (Ob.DECOMMISSION, fun s q _ v => s.decommissionCmd q v),
  (Ob.POWER_DOWN, fun s q _ v => s.powerDown q v), (Ob.POWER_UP, fun s _ _ v => s.powerUp v)]
/-- Runs the command of an object (R421, R427). -/
def State.command (s : State) (q : Requester) (p : ObPlace) (v : Nat) : OpEnd :=
  if p.row.key = Ob.KEY_LOAD then s.keyLoad q v
  else if p.row.key = Ob.KEY_ERASE then s.keyCommand q v none
  else if p.row.key = Ob.CNT_SNAPSHOT then s.cntSnapshot v
  else if p.row.key = Ob.REC_CLEAR then s.recClear v
  else if p.row.key = Ob.REC_RELEASE then s.recRelease p.i v
  else if p.row.key = Ob.REC_PKG_RELEASE then s.recRelease 8 v
  else match nowCommands.find? (fun x => decide (x.1 = p.row.key)) with
    | some x => .now (x.2 s q p.i v)
    | none => .now s.ok

/-! ### Writes -/

/-- A write of an RW object, or of `SHUTDOWN_STATE`, takes effect at once (R421, R384). -/
def State.writeNow (s : State) (p : ObPlace) (v : Nat) : State :=
  let s1 := s.setCell p.cell v
  if p.access = .rws then s1.each s1.tileNumbers (fun s' t => s'.modPs t (fun x => { x with config := x.config.insert p.cell v })) else s1
/-- Whether an object is locked while `TEST_PERMITTED` is 0 (R98). -/
def State.locked (s : State) (p : ObPlace) : Bool :=
  [Ob.FLIP_MASK, Ob.FLIP_PARTITION, Ob.FLIP_ARM].contains p.row.key && !s.svc.testPermitted
/-- What is wrong with a write before it acts, in the order of R428 (R420, R425, R430, R432, R433). -/
def State.writeFault (s : State) (q : Requester) (index : Nat) (p : ObPlace) (value : List Nat) (v : Nat) : Option (Nat × Nat) :=
  if p.access = .ro ∨ s.pathFor q p = false then some (Err.access, 0)
  else if !s.rightsFor q p then some (Err.rights, 0)
  else if value.length ≠ p.row.size then some (Err.type, 0)
  else if !s.inRange p v then some (Err.range, 0)
  else if s.locked p then some (Err.locked, 0)
  else if 0x3000 ≤ index ∧ s.shutting = true then some (Err.state, Detail.device)
  else if s.recorderGone p then some (Err.state, Detail.tile)
  else none
/-- A WRITE of an object (R421). -/
def State.writeOp (s : State) (q : Requester) (index : Nat) (p : ObPlace) (value : List Nat) : OpEnd :=
  let v := s.writeMask p (ofBytesLE value)
  match s.writeFault q index p value v with
  | some (code, detail) => .now (s.refused code detail)
  | none =>
    if p.isConfig then .now (s.stageWrite q p v)
    else match p.access with
      | .w1c => .now (s.w1cWrite p v)
      | .wo | .cmd => s.command q p v
      | _ => .now (s.writeNow p v).ok
/-- One operation (R425, R428, R432). -/
def State.runOp (s : State) (q : Requester) (o : StaebOp) : OpEnd :=
  if 0x3000 ≤ o.index ∧ o.index / 0x1000 ≠ 0xD ∧ o.index / 0x1000 ≠ 0xE ∧ s.notReady = true then .now (s.refused Err.notReady 0)
  else match s.findOb o.index o.sub with
    | none => .now (s.refused Err.noObject 0)
    | some p =>
      if o.op = 1 then .now (s.readOp q p o.value)
      else if o.op = 2 then s.writeOp q o.index p o.value
      else if o.op = 3 then .now (s.readStagedOp q p o.value)
      else .now (s.refused Err.type 0)

/-! ### Messages (R424 to R427) -/

/-- A value padded with zeros to a multiple of 4 bytes. -/
def pad4 (l : List Nat) : List Nat := l ++ List.replicate ((4 - l.length % 4) % 4) 0
/-- A response record. [DEDUCED, assumption 25] -/
def respRecord (status : Nat) (o : StaebOp) (st detail : Nat) (data : List Nat) : List Nat :=
  [status, o.sub % 256] ++ bytesLE 2 o.index ++ bytesLE 2 data.length ++ [st, detail] ++ pad4 data
/-- Hands a response to its transport (R425, R380): to a mailbox as the output of STAEB_EXCHANGE. -/
def State.answer (s : State) (q : Requester) (tag : Nat) (stop : Bool) (recs : List (List Nat)) : State :=
  let bytes := [0, 1, 2, bitNat stop] ++ bytesLE 2 tag ++ bytesLE 2 recs.length ++ recs.flatten
  let s1 := s.count Cn.STAEB_MESSAGES 1
  if q.transport = 3 then
    let l := if 0x10000 ≤ q.src then 0xFFFF else q.src % 16
    let s2 : State := { s1 with out := s1.out ++ [Response.mailbox q.port l 0xC000 0 bytes] }
    s2.tcount q.port Cn.MAILBOX_COMMANDS 1
  else { s1 with out := s1.out ++ [Response.staeb q bytes] }
/-- An operation is complete: its record; an error is logged (R425, R429). [DEDUCED, assumption 25] -/
def finishOp (q : Requester) (o : StaebOp) (r : Result) : State × List Nat :=
  let s1 := if r.code = 0 then r.st else r.st.logError q r.code r.detail (r.named.getD (o.index % 65536 * 256 + o.sub % 256))
  (s1, respRecord r.code o s1.dev.st.code r.detail r.data)
/-- The records of a message that is complete, or the message as it waits. -/
abbrev Progress := Sum (List (List Nat)) Message
/-- Runs the operations of a message in order until one waits (R425 to R427). -/
def runOps (q : Requester) (tag : Nat) (stop : Bool) : List StaebOp → Bool → List (List Nat) → State → State × Progress
  | [], _, recs, s => (s, .inl recs)
  | o :: rest, failed, recs, s =>
    if failed && stop then runOps q tag stop rest failed (recs ++ [respRecord 0xFF o s.dev.st.code 0 []]) s
    else match s.runOp q o with
      | .now r =>
        let f := finishOp q o r
        runOps q tag stop rest (failed || decide (r.code ≠ 0)) (recs ++ [f.2]) f.1
      | .later s1 w => (s1, .inr { req := q, tag := tag, stop := stop, failed := failed, done := recs, waiting := w, cur := o, rest := rest })
/-- Runs a message's operations, then answers it or keeps it waiting. [DESIGN CHOICE, assumption 26] -/
def State.proceed (s : State) (q : Requester) (tag : Nat) (stop : Bool) (ops : List StaebOp) (failed : Bool) (recs : List (List Nat)) : State :=
  match runOps q tag stop ops failed recs s with
  | (s1, .inl all) => s1.answer q tag stop all
  | (s1, .inr m) => { s1 with mgmt := { s1.mgmt with messages := s1.mgmt.messages ++ [m] } }
/-- The next message of a requester that has waited its turn (R426). [DESIGN CHOICE, assumption 26] -/
def State.nextTurn (s : State) : Option Message :=
  s.mgmt.messages.find? (fun m => decide (m.waiting = .turn) &&
    s.mgmt.messages.all (fun x => decide (x.req ≠ m.req) || decide (x.waiting = .turn)))
/-- Messages whose turn has come run, in order of arrival (R426). -/
def State.runTurns : Nat → State → State
  | 0, s => s
  | fuel + 1, s => match s.nextTurn with
    | none => s
    | some m =>
      let s1 : State := { s with mgmt := { s.mgmt with messages := s.mgmt.messages.erase m } }
      State.runTurns fuel (s1.proceed m.req m.tag m.stop (m.cur :: m.rest) false [])
/-- The waiting operation of a message has completed; the message goes on, then those that wait behind it (R426, R427). -/
def State.resume (s : State) (m : Message) : State :=
  let s1 : State := { s with mgmt := { s.mgmt with messages := s.mgmt.messages.erase m } }
  let done := m.done ++ [respRecord 0 m.cur s.dev.st.code 0 []]
  State.runTurns s.mgmt.messages.length (s1.proceed m.req m.tag m.stop m.rest m.failed done)
/-- Resumes every message with a condition. -/
def State.resumeAll (s : State) (f : Message → Bool) : State := s.each (s.mgmt.messages.filter f) State.resume
/-- Whether the server answers nothing but BUSY (R427, R477): firmware boots, or a takeover runs. -/
def State.serverBusy (s : State) : Bool :=
  (!s.mgmt.booted && decide (s.dev.st ≠ .halted)) || s.mgmt.takeover || decide (s.mgmt.update = 3)
/-- A message answered entirely with BUSY (R426, R427). [DEDUCED, assumption 25] -/
def State.busyAnswer (s : State) (q : Requester) (tag : Nat) (stop : Bool) (ops : List StaebOp) : State :=
  let s1 := s.each ops (fun s' o => s'.logError q Err.busy 0 (o.index % 65536 * 256 + o.sub % 256))
  (s1.answer q tag stop (ops.map (fun o => respRecord Err.busy o s.dev.st.code 0 []))).count Cn.STAEB_BUSY_MESSAGES 1
/-- Whether a requester can reach the server (R380, R424): a session that is up, a mailbox of a link that is up and may carry it. -/
def State.reachable (s : State) (q : Requester) : Bool :=
  match q.transport with
  | 1 | 2 => true
  | 3 => (s.port q.port).up && (decide (0x10000 ≤ q.src) || decide (s.cell (Ob.inst Ob.LD_MGMT (q.src % 128)) (bitNat (decide (q.src % 16 = 0))) = 1))
  | 4 => (s.sessionOf q).isSome
  | _ => false
/-- Whether the server is there to take a message (R518). [DEDUCED, assumption 27] -/
def State.serverUp (s : State) : Bool := decide (s.dev.st ≠ .unpowered) && s.mgmt.active.isSome
/-- A message of at least one operation arrives (R426). [DESIGN CHOICE, assumption 26] -/
def State.takeMessage (s : State) (q : Requester) (tag : Nat) (stop : Bool) (ops : List StaebOp) : State :=
  if !s.serverUp || !s.reachable q then s
  else if s.serverBusy || decide (16 ≤ s.mgmt.messages.length) then s.busyAnswer q tag stop ops
  else if s.mgmt.messages.any (fun m => decide (m.req = q)) then
    match ops with
    | [] => s
    | o :: rest => { s with mgmt := { s.mgmt with messages := s.mgmt.messages ++
        [{ req := q, tag := tag, stop := stop, failed := false, done := [], waiting := .turn, cur := o, rest := rest }] } }
  else s.proceed q tag stop ops false []
/-- A message of one operation. -/
def State.oneOp (s : State) (q : Requester) (op index sub : Nat) (value : List Nat) : State :=
  s.takeMessage q 0 false [{ op := op, sub := sub, index := index, value := value }]
/-- A write of a numeric object by its address. -/
def State.writeOb (s : State) (q : Requester) (key size v : Nat) : State := s.oneOp q 2 (key / 256) (key % 256) (bytesLE size v)

/-! ### The form of a message (R425) -/

/-- The bytes of a field. -/
def byteField (b : List Nat) (i k : Nat) : Nat := ofBytesLE ((b.drop i).take k)
/-- The operation records of a message; `none` when their lengths do not add up. -/
def takeRecords : Nat → List Nat → Option (List StaebOp)
  | 0, b => if b = [] then some [] else none
  | n + 1, b =>
    let len := byteField b 4 2
    let whole := 8 + (len + 3) / 4 * 4
    if b.length < 8 ∨ b.length < whole then none
    else match takeRecords n (b.drop whole) with
      | none => none
      | some l => some ({ op := byteField b 0 1, sub := byteField b 1 1, index := byteField b 2 2, value := (b.drop 8).take len } :: l)
/-- The operations of a request; `none` for one that is malformed. -/
def requestOps (b : List Nat) : Option (List StaebOp) :=
  if b.length < 8 ∨ byteField b 0 2 ≠ 0x0100 ∨ byteField b 2 1 ≠ 1 ∨ byteField b 6 2 = 0 ∨ 255 < byteField b 6 2 then none
  else takeRecords (byteField b 6 2) (b.drop 8)
/-- The answer to a malformed message: one record with TYPE (R425). [DEDUCED, assumption 25] -/
def State.malformed (s : State) (q : Requester) (b : List Nat) : State :=
  let o : StaebOp := { op := 0, sub := 0, index := 0, value := [] }
  if !s.serverUp || !s.reachable q then s
  else if s.serverBusy || decide (16 ≤ s.mgmt.messages.length) then s.busyAnswer q (byteField b 4 2) (byteField b 3 1 % 2 = 1) [o]
  else (s.logError q Err.type 0 0).answer q (byteField b 4 2) (byteField b 3 1 % 2 = 1) [respRecord Err.type o s.dev.st.code 0 []]
/-- A Staeb message as its bytes arrive (R424 to R426). [DEDUCED, assumption 25] -/
def State.message (s : State) (q : Requester) (b : List Nat) : State :=
  if 16384 < b.length then s
  else match requestOps b with
    | some ops => s.takeMessage q (byteField b 4 2) (byteField b 3 1 % 2 = 1) ops
    | none => s.malformed q b

end Sys2Proof.Machine
end

