-- ==== Sys2Proof/Machine/Staeb.lean ====
section
/-! DEFINITION. Commands that reach the dictionary: Staeb messages (R424 to R427), and each row of the table that is one operation of
a requester, as a message of that one operation. The steps at which waiting operations complete (R280, R450, R458). -/
namespace Sys2Proof.Machine
open Sys2Proof

/-! ### Messages and plain writes -/

/-- STAEB_MESSAGE (R424 to R427): a whole message over I3C, PCIe VDM or an SPDM session. [PRESUMED, assumption 62] -/
def execStaebMessage (q : Requester) (bytes : List Nat) (s : State) : Host.Outcome State Fault Refusal :=
  .next (if q.transport = 3 then s else s.message q bytes)
/-- OBJECT_WRITE (R420 to R422, R433): a write of an object. -/
def execObjectWrite (q : Requester) (index sub : Nat) (value : List Nat) (s : State) : Host.Outcome State Fault Refusal :=
  .next (s.oneOp q 2 index sub value)
/-- READ_STAGED (R422). -/
def execReadStaged (q : Requester) (index sub : Nat) (s : State) : Host.Outcome State Fault Refusal := .next (s.oneOp q 3 index sub [])
/-- W1C_WRITE (R437 to R439). -/
def execW1cWrite (q : Requester) (index sub v : Nat) (s : State) : Host.Outcome State Fault Refusal :=
  .next (s.oneOp q 2 index sub (bytesLE 4 v))
/-- STAGE_DISCARD (R433, R442). -/
def execStageDiscard (q : Requester) (v : Nat) (s : State) : Host.Outcome State Fault Refusal := .next (s.writeOb q Ob.STAGE_DISCARD 4 v)
/-- STAGE_EXPIRED (R433): no write or READ_STAGED of a set for 600 s. -/
def execStageExpired (q : Requester) (s : State) : Host.Outcome State Fault Refusal :=
  .next (match s.setOf q with
    | none => s
    | some x =>
      if s.serverUp = true ∧ x.touched + 600 * 10 ^ 9 ≤ s.pkgNow then
        ((s.dropSet q).raise Ob.DICT_STATUS 2 (Ob.DICT_OCC + 2)).pev Ev.STAGE_EXPIRED q.code [(4, x.items.length)]
      else s)

/-- The active core fails during a COMMIT (R436): `whole` when its journal is whole by then. A new core completes it or finds it torn; with
none, the next power-up does. No response goes out. [DEDUCED, assumption 48] -/
def State.cutCommit (s : State) (q : Requester) (items : Items) (whole : Bool) : State :=
  let s1 : State := { s with mgmt := { s.mgmt with journal := some { req := q, items := items, whole := whole } } }
  let s2 := s1.coreLost true
  if s2.mgmt.active.isSome then s2.settleJournal else s2
/-- The set of a requester, where a COMMIT of it would reach its journal (R434, R435). [DEDUCED, assumption 48] -/
def State.journalSet (s : State) (q : Requester) (expected : Nat) : Option Items :=
  match s.setOf q with
  | none => none
  | some x =>
    let items := sortItems x.items
    if s.inService ∧ (expected = 0xFFFFFFFF ∨ expected = s.cell Ob.CONFIG_GENERATION 0) ∧ s.validate items = none then some items else none
/-- COMMIT (R434 to R436): `cut` says where the active core fails: 0 not at all, 1 during validation, 2 before the journal is whole,
3 once it is whole. [DEDUCED, assumption 48] -/
def execCommit (q : Requester) (expected : Nat) (cut : Nat) (s : State) : Host.Outcome State Fault Refusal :=
  .next (
    if cut = 0 ∨ !s.serverUp ∨ !s.reachable q ∨ s.serverBusy ∨ s.mgmt.messages.any (fun m => decide (m.req = q)) then
      s.writeOb q Ob.COMMIT 4 expected
    else match s.journalSet q expected with
      | none => s.coreLost true
      | some items => if cut = 1 then s.coreLost true else s.cutCommit q items (decide (cut ≠ 2)))

/-! ### Medium, translation, patrol, fencing -/

/-- READ_SVC_CLEAR (R124). -/
def execReadSvcClear (q : Requester) (t v : Nat) (s : State) : Host.Outcome State Fault Refusal :=
  .next (s.writeOb q (Ob.inst Ob.READ_SVC_CLEAR t) 4 v)
/-- MIGRATE_REQUEST (R218). -/
def execMigrateRequest (q : Requester) (v : Nat) (s : State) : Host.Outcome State Fault Refusal := .next (s.writeOb q Ob.MIGRATE_REQUEST 4 v)
/-- QUARANTINE_ACK (R207). -/
def execQuarantineAck (q : Requester) (v : Nat) (s : State) : Host.Outcome State Fault Refusal := .next (s.writeOb q Ob.QUARANTINE_ACK 4 v)
/-- MAP_QUERY (R218). -/
def execMapQuery (q : Requester) (v : Nat) (s : State) : Host.Outcome State Fault Refusal := .next (s.writeOb q Ob.MAP_QUERY 4 v)
/-- SCRUB_START (R236). -/
def execScrubStart (q : Requester) (v : Nat) (s : State) : Host.Outcome State Fault Refusal := .next (s.writeOb q Ob.SCRUB_START 4 v)
/-- SCRUB_ABORT (R238). -/
def execScrubAbort (q : Requester) (v : Nat) (s : State) : Host.Outcome State Fault Refusal := .next (s.writeOb q Ob.SCRUB_ABORT 4 v)
/-- TILE_FENCE (R253). -/
def execTileFence (q : Requester) (v : Nat) (s : State) : Host.Outcome State Fault Refusal := .next (s.writeOb q Ob.TILE_FENCE 4 v)
/-- TILE_REJOIN (R269). -/
def execTileRejoin (q : Requester) (v : Nat) (s : State) : Host.Outcome State Fault Refusal := .next (s.writeOb q Ob.TILE_REJOIN 4 v)

/-! ### Keys, debug unlock, roots -/

/-- KEY_LOAD (R278 to R280): slot in bits 11:0, K1 from bit 64, K2 from bit 320. -/
def execKeyLoad (q : Requester) (slot : Nat) (k1 k2 : Key256) (s : State) : Host.Outcome State Fault Refusal :=
  .next (s.writeOb q Ob.KEY_LOAD 72 (slot + k1.toNat * 2 ^ 64 + k2.toNat * 2 ^ 320))
/-- KEY_ERASE (R279, R280). -/
def execKeyErase (q : Requester) (slot : Nat) (s : State) : Host.Outcome State Fault Refusal := .next (s.writeOb q Ob.KEY_ERASE 4 slot)
/-- KEY_PURGE_DONE (R280): the purge is complete, the slot is written or erased, held requests are released, the response goes out; a change that
Secure Erase has ended is answered too. [DEDUCED, assumption 35] -/
def execKeyPurgeDone (s : State) : Host.Outcome State Fault Refusal :=
  .next (match s.keys.change with
    | none => s.resumeAll (fun m => decide (m.waiting = .key))
    | some c =>
      if s.serverUp = true ∧ s.purged c.slot = true then
        ((s.purgeEntries c.slot).finishKey c).resumeAll (fun m => decide (m.waiting = .key))
      else s)
/-- KEY_QUERY (R311). -/
def execKeyQuery (q : Requester) (v : Nat) (s : State) : Host.Outcome State Fault Refusal := .next (s.writeOb q Ob.KEY_QUERY 4 v)
/-- DEBUG_UNLOCK (R286). -/
def execDebugUnlock (q : Requester) (token : Nat) (s : State) : Host.Outcome State Fault Refusal := .next (s.writeOb q Ob.DEBUG_UNLOCK 1024 token)
/-- DEBUG_LOCK (R286). -/
def execDebugLock (q : Requester) (v : Nat) (s : State) : Host.Outcome State Fault Refusal := .next (s.writeOb q Ob.DEBUG_LOCK 4 v)
/-- SEAL_ROOT_ADOPT (R306) of a partition, with a tile number. -/
def execSealRootAdopt (q : Requester) (part t : Nat) (s : State) : Host.Outcome State Fault Refusal :=
  .next (s.writeOb q (Ob.inst Ob.SEAL_ROOT_ADOPT part) 4 t)

/-! ### Scribe, Feed, counters -/

/-- SQ_RESTART (R329). -/
def execSqRestart (q : Requester) (t queue v : Nat) (s : State) : Host.Outcome State Fault Refusal :=
  .next (s.writeOb q (queueKey Ob.SQ_RESTART t queue) 4 v)
/-- CLASS_HELD_CLEAR (R343). -/
def execClassHeldClear (q : Requester) (c v : Nat) (s : State) : Host.Outcome State Fault Refusal :=
  .next (s.writeOb q (Ob.inst Ob.CLASS_HELD_CLEAR c) 4 v)
/-- CNT_SNAPSHOT (R450). -/
def execCntSnapshot (q : Requester) (v : Nat) (s : State) : Host.Outcome State Fault Refusal := .next (s.writeOb q Ob.CNT_SNAPSHOT 4 v)
/-- CNT_SNAPSHOT_LATCH (R450): what has reached T latches; once all of it has, the sequence becomes even and the response goes out. -/
def execCntSnapshotLatch (s : State) : Host.Outcome State Fault Refusal :=
  .next (let r := s.latchReached
    if r.2 then r.1.resumeAll (fun m => decide (m.waiting = .snapshot)) else r.1)

/-! ### The recorder (17) -/

/-- What a message still waits for once recorder `r` has published; FENCED tiles' recorders publish no more. -/
def State.publishLeft (s : State) (r : Nat) (m : Message) : Message :=
  match m.waiting with
  | .publish rs => { m with waiting := .publish (rs.filter (fun x => decide (x ≠ r) && (decide (x = 8) || decide ((s.tile x).fence.st ≠ .fenced)))) }
  | _ => m
/-- REC_PUBLISH (R458, R460, R463): recorder `r` (8 the package's) publishes; clears and releases that waited for it are answered. -/
def execRecPublish (r : Nat) (s : State) : Host.Outcome State Fault Refusal :=
  .next (if s.publishDue r then
      let s1 := s.publish r
      let s2 : State := { s1 with mgmt := { s1.mgmt with messages := s1.mgmt.messages.map (s1.publishLeft r) } }
      s2.resumeAll (fun m => decide (m.waiting = .publish []))
    else s)
/-- REC_CLEAR (R460). -/
def execRecClear (q : Requester) (v : Nat) (s : State) : Host.Outcome State Fault Refusal := .next (s.writeOb q Ob.REC_CLEAR 4 v)
/-- REC_NEXT (R464). -/
def execRecNext (q : Requester) (t seq : Nat) (s : State) : Host.Outcome State Fault Refusal := .next (s.writeOb q (Ob.inst Ob.REC_NEXT t) 4 seq)
/-- REC_RELEASE (R463). -/
def execRecRelease (q : Requester) (t seq : Nat) (s : State) : Host.Outcome State Fault Refusal :=
  .next (s.writeOb q (Ob.inst Ob.REC_RELEASE t) 4 seq)
/-- REC_PKG_NEXT (R464). -/
def execRecPkgNext (q : Requester) (seq : Nat) (s : State) : Host.Outcome State Fault Refusal := .next (s.writeOb q Ob.REC_PKG_NEXT 4 seq)
/-- REC_PKG_RELEASE (R463). -/
def execRecPkgRelease (q : Requester) (seq : Nat) (s : State) : Host.Outcome State Fault Refusal := .next (s.writeOb q Ob.REC_PKG_RELEASE 4 seq)

/-! ### Lifecycle (18) -/

/-- POWER_DOWN (R484). -/
def execPowerDown (q : Requester) (v : Nat) (s : State) : Host.Outcome State Fault Refusal := .next (s.writeOb q Ob.POWER_DOWN 4 v)
/-- POWER_UP (R484). -/
def execPowerUp (q : Requester) (v : Nat) (s : State) : Host.Outcome State Fault Refusal := .next (s.writeOb q Ob.POWER_UP 4 v)
/-- FW_ACTIVATE_LIVE (R489): `FW_ACTIVATE` with 1. -/
def execFwActivateLive (q : Requester) (s : State) : Host.Outcome State Fault Refusal := .next (s.writeOb q Ob.FW_ACTIVATE 4 1)
/-- FW_ACTIVATE_AT_RESET (R491): `FW_ACTIVATE` with 2. -/
def execFwActivateAtReset (q : Requester) (s : State) : Host.Outcome State Fault Refusal := .next (s.writeOb q Ob.FW_ACTIVATE 4 2)
/-- FW_SVN_COMMIT (R491). -/
def execFwSvnCommit (q : Requester) (v : Nat) (s : State) : Host.Outcome State Fault Refusal := .next (s.writeOb q Ob.FW_SVN_COMMIT 4 v)
/-- OWNER_INSTALL (R494): the certificate as the number its bytes spell. -/
def execOwnerInstall (q : Requester) (cert : Nat) (s : State) : Host.Outcome State Fault Refusal :=
  .next (s.writeOb q Ob.OWNER_INSTALL 1024 cert)
/-- DECOMMISSION (R498). -/
def execDecommission (q : Requester) (v : Nat) (s : State) : Host.Outcome State Fault Refusal := .next (s.writeOb q Ob.DECOMMISSION 4 v)

end Sys2Proof.Machine
end

