-- ==== Sys2Proof/Machine/Mailbox.lean ====
section
/-! DEFINITION. CXL mailboxes (R377 to R380): the form of every command, return codes, and the commands on identity, events, firmware, time, logs,
features, labels, health, alerts and shutdown state (R379, R381, R383 to R385, R488 to R491). -/
namespace Sys2Proof.Machine
open Sys2Proof

/-! ### Return codes and completions -/

/-- CXL return codes: Success, Background Command Started, Invalid Input, Unsupported, Internal Error, Retry Required, Busy, Media Disabled.
[PRESUMED, assumption 22] -/
def Rc.success : Nat := 0
/-- Background Command Started. -/
def Rc.background : Nat := 1
/-- Invalid Input. -/
def Rc.invalidInput : Nat := 2
/-- Unsupported. -/
def Rc.unsupported : Nat := 3
/-- Internal Error. -/
def Rc.internalError : Nat := 4
/-- Retry Required. -/
def Rc.retryRequired : Nat := 5
/-- Busy. -/
def Rc.busy : Nat := 6
/-- Media Disabled. -/
def Rc.mediaDisabled : Nat := 7
/-- Firmware transfer out of order. -/
def Rc.fwOutOfOrder : Nat := 9
/-- Firmware verification failed. -/
def Rc.fwVerifyFailed : Nat := 0xA
/-- Invalid firmware slot. -/
def Rc.invalidSlot : Nat := 0xB
/-- Invalid handle. -/
def Rc.invalidHandle : Nat := 0xE
/-- Invalid Security State. -/
def Rc.invalidSecurity : Nat := 0x13

/-- The return code of a dictionary error (R378). [PRESUMED, assumption 22] -/
def State.rcOf (s : State) (code : Nat) : Nat :=
  if code = 0 then Rc.success
  else if code = Err.noObject then Rc.unsupported
  else if code = Err.type ∨ code = Err.range ∨ code = Err.budget then Rc.invalidInput
  else if code = Err.state then (if s.inService then Rc.invalidInput else Rc.mediaDisabled)
  else if code = Err.busy then Rc.busy
  else if code = Err.notReady then Rc.retryRequired
  else if code = Err.torn then Rc.internalError
  else Rc.invalidSecurity

/-- How a mailbox command ends: the state it leaves, its return code, its output quantities. -/
structure MbEnd where
  st : State
  rc : Nat
  out : List Nat
/-- Success with an output. [PRESUMED, assumption 22] -/
def State.mbDone (s : State) (out : List Nat) : MbEnd := { st := s, rc := Rc.success, out := out }
/-- An end without output. -/
def State.mbRc (s : State) (rc : Nat) : MbEnd := { st := s, rc := rc, out := [] }
/-- A dictionary error: logged, and turned into a return code (R378, R429). -/
def State.mbError (s : State) (q : Requester) (code detail key : Nat) : MbEnd := (s.logError q code detail key).mbRc (s.rcOf code)
/-- What is wrong with one item as it is staged (R433): no such object, a value outside its range. -/
def State.itemFault (s : State) (x : Nat × Nat) : Option (Nat × Nat) :=
  match s.findOb (x.1 / 256) (x.1 % 256) with
  | none => some (Err.noObject, x.1)
  | some p => if s.inRange p x.2 then none else some (Err.range, x.1)
/-- Configuration that a command changes is staged in a set private to it and committed when it ends (R378, R433). -/
def State.mbCommit (s : State) (q : Requester) (items : Items) : MbEnd :=
  match items.findSome? s.itemFault with
  | some (code, key) => s.mbError q code 0 key
  | none =>
  if !s.inService then s.mbError q Err.state Detail.device Ob.COMMIT
  else if 8 ≤ s.mgmt.sets.length then s.mbError q Err.busy 0 ((items.map Prod.fst).headD Ob.COMMIT)
  else match s.commitSet q 0xFFFFFFFF items with
    | (s1, none) => s1.mbDone []
    | (s1, some e) => s1.mbError q e.code e.detail e.key

/-- The number of the FM-owned LD (R366). -/
def fmLd : Nat := 0xFFFF
/-- Whether a mailbox is there: its link is up and its LD exists; the FM-owned LD has one in MLD mode (R377). -/
def State.mailboxThere (s : State) (p l : Nat) : Bool :=
  (s.port p).up && (s.ldExists p l || (decide (l = fmLd ∧ (s.port p).ldMode = 1) && s.portUsed p))
/-- Whether a command of the mailbox is under way (R377, R518). -/
def State.mailboxBusy (s : State) (p l : Nat) : Bool :=
  (s.ld p l).mailboxBusy || s.mgmt.messages.any (fun m => decide (m.req = mailboxOf p l))
/-- Hands a completion to its mailbox. -/
def State.complete (s : State) (p l op : Nat) (d : MbEnd) : State :=
  let s1 : State := { d.st with out := d.st.out ++ [Response.mailbox p l op d.rc d.out] }
  if s.dev.st = .unpowered then s else s1.tcount p Cn.MAILBOX_COMMANDS 1
/-- What the objects behind a command need: nothing, an answer to a read above 0x2FFF, an answer to a write there (R432). -/
inductive Needs where
  | nothing | read | write
  deriving DecidableEq, Repr
/-- The error that the device state gives a command (R432). [DEDUCED, assumption 49] -/
def State.needsFault (s : State) (n : Needs) : Option Nat :=
  match n with
  | .nothing => none
  | .read => if s.notReady then some Err.notReady else none
  | .write => if s.notReady then some Err.notReady else if s.shutting then some Err.state else none
/-- Runs a mailbox command (R377, R378, R518). With no management core it stays in progress. [DEDUCED, assumption 49] -/
def State.mailbox (s : State) (p l op : Nat) (n : Needs) (f : State → MbEnd) : State :=
  if !s.mailboxThere p l ∨ s.mailboxBusy p l = true ∨ s.dev.st = .unpowered then s
  else if s.mgmt.active.isNone then s.modLd p l (fun d => { d with mailboxBusy := true })
  else if s.serverBusy then s.complete p l op (s.mbError (mailboxOf p l) Err.busy 0 0)
  else match s.needsFault n with
    | some e => s.complete p l op (s.mbError (mailboxOf p l) e 0 0)
    | none => s.complete p l op (f s)

/-- Whether the background command is under way (R377). [DEDUCED, assumption 49] -/
def State.bgRunning (s : State) : Bool :=
  if s.svc.bgOp = 0x4400 ∨ s.svc.bgOp = 0x4401 then decide (s.svc.eraseState = 1)
  else if s.svc.bgOp = 0x4304 then s.svc.scrubOn && decide (s.svc.scrubSource = 1)
  else if s.svc.bgOp = 0x0202 then decide (1 ≤ s.mgmt.update)
  else false
/-- A background command starts (R377). [DEDUCED, assumption 49] -/
def State.background (s : State) (op : Nat) : MbEnd :=
  { s with svc := { s.svc with bgOp := op } }.mbRc Rc.background

/-! ### Identity and background operations (R379) -/

/-- IDENTIFY (R379): vendor ID, the serial number's characters, the payload size as a power of two (R377). -/
def execIdentify (port ld : Nat) (s : State) : Host.Outcome State Fault Refusal :=
  .next (s.mailbox port ld 0x0001 .nothing (fun s =>
    s.mbDone ([Config.identity 0 % 65536] ++ (List.range 16).map (fun i => identityChar (16 + i)) ++ [14])))
/-- The share of the background command that is done, in percent (R379, R496). [DEDUCED, assumptions 49, 60] -/
def State.bgPercent (s : State) : Nat :=
  if !s.bgRunning then (if s.svc.bgOp = 0 then 0 else 100)
  else if s.svc.bgOp = 0x4400 ∨ s.svc.bgOp = 0x4401 then s.svc.erasePercent
  else 0
/-- BACKGROUND_OPERATION_STATUS (R379): opcode, percentage, whether it runs. -/
def execBackgroundOperationStatus (port ld : Nat) (s : State) : Host.Outcome State Fault Refusal :=
  .next (s.mailbox port ld 0x0002 .nothing (fun s => s.mbDone [s.svc.bgOp, s.bgPercent, bitNat s.bgRunning]))

/-! ### Event logs (R381) -/

/-- Quantities of a record. -/
def LogRecord.out (r : LogRecord) : List Nat := [r.handle, r.kind, r.code, r.ts, r.bytes]
/-- GET_EVENT_RECORDS (R381): the overflow of a log and its records, oldest first, as many as a payload holds. -/
def execGetEventRecords (port ld log : Nat) (s : State) : Host.Outcome State Fault Refusal :=
  .next (s.mailbox port ld 0x0100 .nothing (fun s =>
    if 4 < log then s.mbRc Rc.invalidInput
    else
      let x := (s.ld port ld).logs.getD log EventLog.reset
      s.mbDone ([bitNat (decide (x.overflow ≠ 0)), x.overflow, x.firstLost, x.lastLost, x.records.length] ++
        ((x.records.take 127).map LogRecord.out).flatten)))
/-- CLEAR_EVENT_RECORDS (R381): every record of a log, or the oldest ones by their handles; the recorder keeps its own. -/
def execClearEventRecords (port ld log : Nat) (all : Bool) (handles : List Nat) (s : State) : Host.Outcome State Fault Refusal :=
  .next (s.mailbox port ld 0x0101 .nothing (fun s =>
    let x := (s.ld port ld).logs.getD log EventLog.reset
    if 4 < log then s.mbRc Rc.invalidInput
    else if all = false ∧ (x.records.take handles.length).map LogRecord.handle ≠ handles then s.mbRc Rc.invalidHandle
    else
      let left := if all then [] else x.records.drop handles.length
      (s.modLd port ld (fun d => { d with logs := modAt d.logs log (fun y =>
        if left = [] then { y with records := [], overflow := 0, firstLost := 0, lastLost := 0 } else { y with records := left }) })).mbDone []))
/-- GET_EVENT_INTERRUPT_POLICY (R379). -/
def execGetEventInterruptPolicy (port ld : Nat) (s : State) : Host.Outcome State Fault Refusal :=
  .next (s.mailbox port ld 0x0102 .nothing (fun s => s.mbDone (s.ld port ld).intPolicy))
/-- SET_EVENT_INTERRUPT_POLICY (R379): one value for each log. [DEDUCED, assumption 50] -/
def execSetEventInterruptPolicy (port ld : Nat) (policy : List Nat) (s : State) : Host.Outcome State Fault Refusal :=
  .next (s.mailbox port ld 0x0103 .nothing (fun s =>
    if policy.length ≠ 5 then s.mbRc Rc.invalidInput else (s.modLd port ld (fun d => { d with intPolicy := policy })).mbDone []))

/-! ### Firmware (R488 to R491) -/

/-- GET_FW_INFO (R488): slots, running slot, slot of the boot record, states, versions. -/
def execGetFwInfo (port ld : Nat) (s : State) : Host.Outcome State Fault Refusal :=
  .next (s.mailbox port ld 0x0200 .nothing (fun s =>
    s.mbDone ([2, s.fw.running, s.fw.nextBoot] ++ s.fw.slots.map FwSlot.st ++ (s.fw.slots.map FwSlot.version))))
/-- The slot after a part that fits (R488). [DEDUCED, assumption 53] -/
def State.fwPart (s : State) (x : FwPart) : MbEnd :=
  let got := if x.first then x.bytes else (s.fw.slots.getD x.slot { st := 0, svn := 0, compat := false, version := 0, received := 0 }).received + x.bytes
  let ok := x.signed && decide (s.fw.svnMin ≤ x.svn)
  let slot : FwSlot := if x.last then { st := if ok then 1 else 2, svn := x.svn, compat := x.compat, version := x.version, received := got }
    else { st := 3, svn := 0, compat := false, version := 0, received := got }
  let s1 := { s with fw := { s.fw with slots := modAt s.fw.slots x.slot (fun _ => slot) } }
  if x.last && !ok then s1.mbRc Rc.fwVerifyFailed else s1.mbDone []
/-- TRANSFER_FW (R488): only the slot that does not run is written; a part that does not follow on is out of order. [DEDUCED, assumption 53] -/
def execTransferFw (port ld : Nat) (x : FwPart) (s : State) : Host.Outcome State Fault Refusal :=
  .next (s.mailbox port ld 0x0201 .nothing (fun s =>
    let cur := s.fw.slots.getD x.slot { st := 0, svn := 0, compat := false, version := 0, received := 0 }
    if 1 < x.slot ∨ x.slot = s.fw.running then s.mbRc Rc.invalidInput
    else if 1 ≤ s.mgmt.update then s.mbRc Rc.busy
    else if x.first then (if x.offset = 0 then s.fwPart x else s.mbRc Rc.fwOutOfOrder)
    else if cur.st = 3 ∧ x.offset = cur.received then s.fwPart x
    else s.mbRc Rc.fwOutOfOrder))
/-- ACTIVATE_FW (R489, R491): online, a live update in the background; else at the next reset. -/
def execActivateFw (port ld slot : Nat) (online : Bool) (s : State) : Host.Outcome State Fault Refusal :=
  .next (s.mailbox port ld 0x0202 .nothing (fun s =>
    if slot ≠ 1 - s.fw.running then s.mbRc Rc.invalidSlot
    else if online then
      if s.bgRunning then s.mbRc Rc.busy
      else if s.liveReady then s.startUpdate.background 0x0202
      else s.mbError (mailboxOf port ld) Err.state Detail.object Ob.FW_ACTIVATE
    else if s.otherReady then s.activateAtReset.mbDone []
    else s.mbError (mailboxOf port ld) Err.state Detail.object Ob.FW_ACTIVATE))

/-! ### Time, logs, features (R379, R384, R385) -/

/-- GET_TIMESTAMP (R384): the offset plus the timebase. [DEDUCED, assumption 50] -/
def execGetTimestamp (port ld : Nat) (s : State) : Host.Outcome State Fault Refusal :=
  .next (s.mailbox port ld 0x0300 .read (fun s => s.mbDone [(s.cell Ob.HOST_TIME_OFFSET 0 + s.pkgNow) % 2 ^ 64]))
/-- SET_TIMESTAMP (R384): the offset becomes what Get Timestamp needs to answer the host's time. [DEDUCED, assumption 50] -/
def execSetTimestamp (port ld time : Nat) (s : State) : Host.Outcome State Fault Refusal :=
  .next (s.mailbox port ld 0x0301 .write (fun s =>
    (s.setCell Ob.HOST_TIME_OFFSET ((time % 2 ^ 64 + 2 ^ 64 - s.pkgNow % 2 ^ 64) % 2 ^ 64)).mbDone []))
/-- The opcodes of the mailbox (R379). [PRESUMED, assumption 22] -/
def mailboxOpcodes : List Nat := [
  0x0001, 0x0002, 0x0100, 0x0101, 0x0102, 0x0103, 0x0200, 0x0201, 0x0202, 0x0300, 0x0301, 0x0400, 0x0401, 0x0500, 0x0501, 0x0502, 0x4000, 0x4100,
  0x4102, 0x4103, 0x4200, 0x4201, 0x4202, 0x4203, 0x4204, 0x4300, 0x4301, 0x4302, 0x4303, 0x4304, 0x4305, 0x4400, 0x4401, 0x4800, 0x4801, 0x4802,
  0x4803, 0xC000, 0xC001]
/-- GET_SUPPORTED_LOGS (R379): one log, number 0, the Command Effects Log. -/
def execGetSupportedLogs (port ld : Nat) (s : State) : Host.Outcome State Fault Refusal :=
  .next (s.mailbox port ld 0x0400 .nothing (fun s => s.mbDone [1, 0]))
/-- GET_LOG (R379): the Command Effects Log lists exactly the commands of R379. -/
def execGetLog (port ld log : Nat) (s : State) : Host.Outcome State Fault Refusal :=
  .next (s.mailbox port ld 0x0401 .nothing (fun s => if log = 0 then s.mbDone mailboxOpcodes else s.mbRc Rc.invalidInput))
/-- GET_SUPPORTED_FEATURES (R385): one feature, number 0, Patrol Scrub Control. -/
def execGetSupportedFeatures (port ld : Nat) (s : State) : Host.Outcome State Fault Refusal :=
  .next (s.mailbox port ld 0x0500 .nothing (fun s => s.mbDone [1, 0]))
/-- GET_FEATURE (R385): the patrol scrub cycle in hours. -/
def execGetFeature (port ld feature : Nat) (s : State) : Host.Outcome State Fault Refusal :=
  .next (s.mailbox port ld 0x0501 .read (fun s =>
    if feature = 0 then s.mbDone [s.cell Ob.PATROL_INTERVAL 96] else s.mbRc Rc.unsupported))
/-- SET_FEATURE (R385): commits a patrol scrub cycle; a request to disable the scrub is Invalid Input. -/
def execSetFeature (port ld feature cycle : Nat) (enable : Bool) (s : State) : Host.Outcome State Fault Refusal :=
  .next (s.mailbox port ld 0x0502 .write (fun s =>
    let q := mailboxOf port ld
    if feature ≠ 0 then s.mbRc Rc.unsupported
    else if !enable then s.mbRc Rc.invalidInput
    else if cycle < 6 ∨ 96 < cycle then s.mbError q Err.range 0 Ob.PATROL_INTERVAL
    else s.mbCommit q [(Ob.PATROL_INTERVAL, cycle)]))

/-! ### Memory device, labels (R379) -/

/-- Capacity of an LD in units of 256 MiB (R379). -/
def State.ldCapacity (s : State) (p l : Nat) : Nat := (s.alloc p l).2 / 2 ^ 28
/-- IDENTIFY_MEMORY_DEVICE (R379): total, volatile and persistent capacity, partition alignment, LSA size. -/
def execIdentifyMemoryDevice (port ld : Nat) (s : State) : Host.Outcome State Fault Refusal :=
  .next (s.mailbox port ld 0x4000 .read (fun s => s.mbDone [s.ldCapacity port ld, 0, s.ldCapacity port ld, 0, 8192]))
/-- GET_PARTITION_INFO (R379): no volatile capacity, now or next. -/
def execGetPartitionInfo (port ld : Nat) (s : State) : Host.Outcome State Fault Refusal :=
  .next (s.mailbox port ld 0x4100 .read (fun s => s.mbDone [0, s.ldCapacity port ld, 0, 0]))
/-- The tile that holds the label storage area of an LD, and the tile of its mirror copy (R379, R468). [DEDUCED, assumption 54] -/
def State.lsaTiles (s : State) (p l : Nat) : List Nat := [p + l / 8, (p + l / 8 + 1) % s.n]
/-- The label storage area of an LD: 8,192 bytes, zero where none was written. [PRESUMED, assumption 22; DEDUCED, assumption 54] -/
def State.lsaOf (s : State) (p l : Nat) : List Nat :=
  let t := if s.tileActive (p + l / 8) then p + l / 8 else (p + l / 8 + 1) % s.n
  (s.tile t).ps.lsa.getD (16 * p + l) (List.replicate 8192 0)
/-- GET_LSA (R379). -/
def execGetLsa (port ld offset len : Nat) (s : State) : Host.Outcome State Fault Refusal :=
  .next (s.mailbox port ld 0x4102 .read (fun s =>
    if 8192 < offset + len then s.mbRc Rc.invalidInput else s.mbDone (((s.lsaOf port ld).drop offset).take len)))
/-- The label storage area of an LD is written in one tile: a page commit for each of its pages touched (R468, R469). [DEDUCED, assumption 54] -/
def State.writeLsa (s : State) (t p l offset : Nat) (data : List Nat) : State :=
  let old := (s.tile t).ps.lsa.getD (16 * p + l) (List.replicate 8192 0)
  let new := old.take offset ++ data ++ old.drop (offset + data.length)
  let base := 1824 + (if t = p + l / 8 then 0 else 256) + (l % 8) * 32
  let pages := below 32 (fun k => decide (offset < 256 * (k + 1) ∧ 256 * k < offset + data.length))
  (s.each pages (fun s' k => s'.pageCommit t (base + k))).modPs t (fun x => { x with lsa := x.lsa.insert (16 * p + l) new })
/-- SET_LSA (R379): the port's tile and its mirror copy. -/
def execSetLsa (port ld offset : Nat) (data : List Nat) (s : State) : Host.Outcome State Fault Refusal :=
  .next (s.mailbox port ld 0x4103 .write (fun s =>
    if 8192 < offset + data.length then s.mbRc Rc.invalidInput
    else (s.each ((s.lsaTiles port ld).filter s.tileActive) (fun s' t => s'.writeLsa t port ld offset (data.map (fun b => b % 256)))).mbDone []))

/-! ### Health, alerts, shutdown state (R383, R384) -/

/-- Health status of Get Health Info: bit 0 Maintenance Needed, 1 Performance Degraded, 2 Hardware Replacement Needed (R383). -/
def State.healthBits (s : State) : Nat :=
  bitNat (decide (s.dev.health = .worn)) + 2 * bitNat (decide (s.dev.st = .degraded)) + 4 * bitNat (decide (s.dev.health = .critical))
/-- Media status of Get Health Info: 0 Normal, 1 Not Ready, 2 Disabled (R383). [PRESUMED, assumption 22] -/
def State.mediaStatus (s : State) : Nat :=
  match s.dev.st with
  | .ready | .degraded | .drain => 0
  | .safe | .halted => 2
  | _ => 1
/-- GET_HEALTH_INFO (R383). -/
def execGetHealthInfo (port ld : Nat) (s : State) : Host.Outcome State Fault Refusal :=
  .next (s.mailbox port ld 0x4200 .nothing (fun s => s.mbDone [s.healthBits, s.mediaStatus, s.lifeUsed, s32 s.hottest,
    s.cell Ob.DIRTY_SHUTDOWN_COUNT 0, s.cnt.resCorrected, s.cnt.corrected]))
/-- GET_ALERT_CONFIGURATION (R383). -/
def execGetAlertConfiguration (port ld : Nat) (s : State) : Host.Outcome State Fault Refusal :=
  .next (s.mailbox port ld 0x4201 .nothing (fun s => s.mbDone (s.ld port ld).alertCfg))
/-- SET_ALERT_CONFIGURATION (R383): life used in percent, over- and under-temperature, thresholds of both corrected error counts.
[DEDUCED, assumption 50] -/
def execSetAlertConfiguration (port ld life beyond under volatileErrs persistentErrs : Nat) (s : State) : Host.Outcome State Fault Refusal :=
  .next (s.mailbox port ld 0x4202 .nothing (fun s =>
    if life = 0 ∨ 99 < life then s.mbRc Rc.invalidInput
    else (s.modLd port ld (fun d => { d with alertCfg := [life, beyond, under, volatileErrs, persistentErrs] })).mbDone []))
/-- GET_SHUTDOWN_STATE (R384). -/
def execGetShutdownState (port ld : Nat) (s : State) : Host.Outcome State Fault Refusal :=
  .next (s.mailbox port ld 0x4203 .read (fun s => s.mbDone [s.cell Ob.SHUTDOWN_STATE 0]))
/-- Where `SHUTDOWN_STATE` lies. -/
def shutdownPlace : ObPlace := { row := obRow Ob.SHUTDOWN_STATE 0 .one 1 .rws (.between 0 1), i := 0, off := 0 }
/-- SET_SHUTDOWN_STATE (R384): `SHUTDOWN_STATE` at once. -/
def execSetShutdownState (port ld v : Nat) (s : State) : Host.Outcome State Fault Refusal :=
  .next (s.mailbox port ld 0x4204 .write (fun s =>
    if 1 < v then s.mbError (mailboxOf port ld) Err.range 0 Ob.SHUTDOWN_STATE else (s.writeNow shutdownPlace v).mbDone []))

/-! ### Vendor and unsupported opcodes (R379, R380) -/

/-- Whether the vendor opcodes are accepted on a mailbox (R380). -/
def State.vendorHere (s : State) (p l : Nat) : Bool :=
  decide (l = fmLd) || decide (s.cell (ldKey Ob.LD_MGMT p l) (bitNat (decide (l = 0))) = 1)
/-- STAEB_EXCHANGE (R380): one whole Staeb message; its response is the output. -/
def execStaebExchange (port ld : Nat) (bytes : List Nat) (s : State) : Host.Outcome State Fault Refusal :=
  .next (
    if s.mailboxThere port ld && !s.mailboxBusy port ld && s.mgmt.active.isSome && s.vendorHere port ld && (requestOps bytes).isSome
        && decide (bytes.length ≤ 16384) && decide (s.dev.st ≠ .unpowered) then
      s.message (mailboxOf port ld) bytes
    else s.mailbox port ld 0xC000 .nothing (fun s => if s.vendorHere port ld then s.mbRc Rc.invalidInput else s.mbRc Rc.unsupported))
/-- STAEB_LIMITS (R380): the largest message, the protocol version. -/
def execStaebLimits (port ld : Nat) (s : State) : Host.Outcome State Fault Refusal :=
  .next (s.mailbox port ld 0xC001 .nothing (fun s =>
    if s.vendorHere port ld then s.mbDone (bytesLE 4 16384 ++ bytesLE 2 0x0100) else s.mbRc Rc.unsupported))
end Sys2Proof.Machine
end

