-- ==== Sys2Proof/Machine/Media.lean ====
section
/-! DEFINITION. Mailbox commands on the medium: poison list, Inject and Clear Poison (R87, R363, R382), Scan Media (R239, R382), Sanitize and
Secure Erase (R495 to R497). -/
namespace Sys2Proof.Machine
open Sys2Proof

/-! ### The poison list -/

/-- A record of the poison list: package DPA, length in lines, source (R382). -/
structure PoisonRecord where
  dpa : Nat
  len : Nat
  source : Nat
/-- The LOST lines that a tile lists, at most 65,536, and its LOST logical segments (R382). [DEDUCED, assumption 51] -/
def State.poisonRecords (s : State) (t : Nat) : List PoisonRecord :=
  let m := (s.tile t).map
  let lines := (m.poison.take 65536).filterMap (fun p => (s.partOfSeg t (lsegOf p.lla)).bind (fun part =>
    if s.isDataLine part t p.lla then some { dpa := (s.partn part).dpaOf t p.lla, len := 1, source := p.source : PoisonRecord } else none))
  let segs := (m.map.filter (fun x => decide (x.2.st = .lost))).filterMap (fun x => (s.partOfSeg t x.1).map (fun part =>
    { dpa := (s.partn part).dpaOf t (x.1 * segLines), len := 16384, source := 2 : PoisonRecord }))
  lines ++ segs
/-- Records of every tile that meet a range of an LD's allocation, by rising DPA. -/
def State.poisonIn (s : State) (lo hi : Nat) : List PoisonRecord :=
  let all := ((s.tileNumbers.map s.poisonRecords).flatten).filter (fun r => decide (lo < r.dpa + 64 * r.len ∧ r.dpa < hi))
  all.mergeSort (fun a b => decide (a.dpa ≤ b.dpa))
/-- Whether a tile's list is full, and the time of the first line left out (R382). [DEDUCED, assumption 51] -/
def State.poisonOverflow (s : State) : Option Nat := s.tileNumbers.findSome? (fun t => (s.tile t).map.poisonFullAt)
/-- The quantities of poison records as LD DPAs. -/
def poisonOut (base : Nat) (l : List PoisonRecord) : List Nat := (l.map (fun r => [r.dpa - base, r.len, r.source])).flatten
/-- GET_POISON_LIST (R382): LOST lines in a range of LD DPAs; overflow flag and time; as many records as a payload holds. -/
def execGetPoisonList (port ld dpa len : Nat) (s : State) : Host.Outcome State Fault Refusal :=
  .next (s.mailbox port ld 0x4300 .read (fun s =>
    let a := s.alloc port ld
    if a.2 < dpa + len ∨ dpa % 64 ≠ 0 then s.mbRc Rc.invalidInput
    else
      let l := s.poisonIn (a.1 + dpa) (a.1 + dpa + len)
      s.mbDone ([bitNat s.poisonOverflow.isSome, s.poisonOverflow.getD 0, l.length] ++ poisonOut a.1 (l.take 1022))))

/-- A line write that the device makes for a mailbox: under a token of the port's slice, without an acknowledgement to a host. -/
def mailboxWrite (s : State) (p l kx dpa part tile lla : Nat) (data : Line) (poison : Bool) : Req :=
  { Req.none with
    iface := .maint, port := p, ld := l, cls := classOf p l, src := p, kx := kx, dpa := dpa, part := part, tile := tile, lla := lla, write := true,
    mask := fullMask, data := data, poison := poison, feedCls := classOf p l, decodedAt := s.now p, admittedAt := s.now p }
/-- Accepts such a write at the tile that serves the line (R126, R363, R382). [DEDUCED, assumption 51] -/
def State.mailboxAccept (s : State) (t : Nat) (r : Req) : State := (s.takeTokens t r).lookup t r 0
/-- The source of a line in the poison list. [DEDUCED, assumption 51] -/
def State.sourceOf (s : State) (t lla source : Nat) : State :=
  s.modMap t (fun m => { m with poison := m.poison.map (fun (p : Poison) => if p.lla = lla then { p with source := source } else p) })
/-- Where an LD DPA lies (R50, R51): partition, tile, LLA. -/
def State.locateLd (s : State) (p l dpa : Nat) : Option (Nat × Nat × Nat) :=
  let a := s.alloc p l
  if a.2 ≤ dpa ∨ dpa % 64 ≠ 0 then none
  else match s.routeDpa 0 (a.1 + dpa) with
    | .line _ _ part tile lla => some (part, tile, lla)
    | .violation _ _ _ => none
/-- INJECT_POISON (R382): while `TEST_PERMITTED` is 1, the line becomes LOST as R363 says, with source Injected. -/
def execInjectPoison (port ld dpa : Nat) (s : State) : Host.Outcome State Fault Refusal :=
  .next (s.mailbox port ld 0x4301 .write (fun s =>
    if !s.svc.testPermitted then s.mbError (mailboxOf port ld) Err.locked 0 Ob.TEST_PERMITTED
    else match s.locateLd port ld dpa with
      | none => s.mbRc Rc.invalidInput
      | some (part, tile, lla) =>
        match s.server part tile (lsegOf lla) with
        | none => s.mbRc Rc.mediaDisabled
        | some t =>
          let was := (s.tile tile).isLost lla
          let s1 := s.mailboxAccept t (mailboxWrite s port ld 0 ((s.alloc port ld).1 + dpa) part tile lla 0 true)
          (if was then s1 else s1.sourceOf tile lla 3).mbDone []))

/-- A LOST line leaves the poison list, and its entry, if it has one, is no longer poisoned (R87). [DEDUCED, assumption 51] -/
def State.clearLine (s : State) (t tile lla : Nat) : State :=
  let s1 := s.unpoisonLine tile lla
  match (s1.tile t).res.find lla tile with
  | some e => s1.modRes t (fun x => x.setEntry e.id (fun e => { e with poisoned := false }))
  | none => s1
/-- CLEAR_POISON (R87, R382): a write step of the supplied data under `LD_CLEAR_KX` by the LD's class. A line of a LOST logical segment stays LOST
(R208). -/
def execClearPoison (port ld dpa : Nat) (data : Line) (s : State) : Host.Outcome State Fault Refusal :=
  .next (s.mailbox port ld 0x4302 .write (fun s =>
    let q := mailboxOf port ld
    let kx := s.cell (ldKey Ob.LD_CLEAR_KX port ld) 0
    match s.locateLd port ld dpa with
    | none => s.mbRc Rc.invalidInput
    | some (part, tile, lla) =>
      if s.keyHeld kx then s.mbError q Err.busy 0 (ldKey Ob.LD_CLEAR_KX port ld)
      else if !s.hasRight (classOf port ld) kx true then s.mbError q Err.rights 0 (ldKey Ob.LD_CLEAR_KX port ld)
      else match s.server part tile (lsegOf lla) with
        | none => s.mbRc Rc.mediaDisabled
        | some t =>
          if ((s.tile tile).map.entry (lsegOf lla)).st = .lost then s.mbRc Rc.invalidInput
          else
            let s1 := s.clearLine t tile lla
            (s1.mailboxAccept t (mailboxWrite s port ld kx ((s.alloc port ld).1 + dpa) part tile lla data false)).mbDone []))

/-! ### Scan Media (R239, R382) -/

/-- Tiles that a range of DPAs touches. -/
def State.tilesIn (s : State) (dpa len : Nat) : Nat :=
  let sets := (s.parts.filter (fun x => decide (x.2.st = 1 ∧ x.2.base < dpa + len ∧ dpa < x.2.base + x.2.size))).map (fun x => x.2.tileSet)
  (tilesOf (sets.foldl (fun a b => a ||| b) 0)).length
/-- Whether a range lies inside an LD's allocation and enabled partitions (R382). -/
def State.scanRange (s : State) (p l dpa len : Nat) : Bool :=
  let a := s.alloc p l
  decide (len ≠ 0 ∧ dpa % 64 = 0 ∧ len % 64 = 0 ∧ dpa + len ≤ a.2) && s.rangeEnabled (a.1 + dpa) len
/-- GET_SCAN_MEDIA_CAPABILITIES (R239): the length over `SCRUB_RATE_MBS` and the tiles touched, in ms. -/
def execGetScanMediaCapabilities (port ld dpa len : Nat) (s : State) : Host.Outcome State Fault Refusal :=
  .next (s.mailbox port ld 0x4303 .read (fun s =>
    if !s.scanRange port ld dpa len then s.mbRc Rc.invalidInput
    else s.mbDone [ceilDiv len (s.cell Ob.SCRUB_RATE_MBS 1000 * 1000 * max 1 (s.tilesIn ((s.alloc port ld).1 + dpa) len))]))
/-- SCAN_MEDIA (R239, R382): a pass with SOURCE 1, in the background. -/
def execScanMedia (port ld dpa len : Nat) (noLog : Bool) (s : State) : Host.Outcome State Fault Refusal :=
  .next (s.mailbox port ld 0x4304 .write (fun s =>
    if s.svc.scrubOn ∨ s.bgRunning = true then s.mbRc Rc.busy
    else if !s.scanRange port ld dpa len then s.mbRc Rc.invalidInput
    else (s.beginScrub 1 ((s.alloc port ld).1 + dpa) len (16 * port + ld) noLog).background 0x4304))
/-- GET_SCAN_MEDIA_RESULTS (R239, R382): LOST lines of the range scanned; Scan Stopped Prematurely after an abort. [DEDUCED, assumption 51] -/
def execGetScanMediaResults (port ld : Nat) (s : State) : Host.Outcome State Fault Refusal :=
  .next (s.mailbox port ld 0x4305 .read (fun s =>
    let v := s.svc
    if v.scrubOn ∧ v.scrubSource = 1 then s.mbRc Rc.busy
    else if v.scrubSource ≠ 1 ∨ v.scrubBy ≠ 16 * port + ld then s.mbDone [0, 0]
    else
      let l := (s.poisonIn v.scrubDpa (v.scrubDpa + v.scrubLen))
      s.mbDone ([bitNat (decide (v.scrubCounts.getD 10 0 = 3)), l.length] ++ poisonOut (s.alloc port ld).1 (l.take 1022))))

/-! ### Erasure (R495 to R497) -/

/-- A Secure Erase or Sanitize starts in the background (R377, R497). -/
def State.eraseCommand (s : State) (p l op kind : Nat) : MbEnd :=
  if !s.eraseLegal then (s.logError (mailboxOf p l) Err.state Detail.device 0).mbRc Rc.invalidInput
  else if s.bgRunning ∨ s.svc.eraseState = 1 then s.mbError (mailboxOf p l) Err.busy 0 0
  else (s.startErase kind).background op
/-- SANITIZE (R496). -/
def execSanitize (port ld : Nat) (s : State) : Host.Outcome State Fault Refusal :=
  .next (s.mailbox port ld 0x4400 .nothing (fun s => s.eraseCommand port ld 0x4400 2))
/-- SECURE_ERASE (R495). -/
def execSecureErase (port ld : Nat) (s : State) : Host.Outcome State Fault Refusal :=
  .next (s.mailbox port ld 0x4401 .nothing (fun s => s.eraseCommand port ld 0x4401 1))

end Sys2Proof.Machine
end

