-- ==== Sys2Proof/Machine/Capacity.lean ====
section
/-! DEFINITION. Dynamic capacity (R369 to R373) and the FM API (R367, R379). -/
namespace Sys2Proof.Machine
open Sys2Proof

/-! ### Blocks and extents -/

/-- A range of blocks of an LD: first GiB of its allocation, length in GiB. -/
abbrev Extents := List (Nat × Nat)
/-- The GiB numbers of extents. -/
def gibsOf (x : Extents) : List Nat := (x.map (fun e => (List.range e.2).map (fun i => e.1 + i))).flatten
/-- Extents of GiB numbers: adjacent ones merge (R371). -/
def mergeGibs (l : List Nat) : Extents :=
  let l := l.eraseDups
  let starts := (l.filter (fun g => decide (g = 0) || !l.contains (g - 1))).mergeSort
  starts.map (fun g => (g, ((List.range l.length).takeWhile (fun i => l.contains (g + i))).length))
/-- The region of an LD that holds a GiB of its allocation. -/
def State.regionOf (s : State) (p l gib : Nat) : Option Nat :=
  (List.range 8).find? (fun r =>
    let g := s.region p l r
    g.on && decide (g.off ≤ gib ∧ gib < g.off + g.size))
/-- The GiB of the allocation that a block is. -/
def State.gibOf (s : State) (p l : Nat) (b : DcBlock) : Nat := (s.region p l b.region).off + b.block
/-- The block at a GiB of the allocation. -/
def State.blockAt (s : State) (p l tag gib : Nat) : Option DcBlock :=
  (s.regionOf p l gib).map (fun r => { region := r, block := gib - (s.region p l r).off, tag := tag })
/-- The GiB in DPA space of a GiB of an LD's allocation. -/
def State.dpaGib (s : State) (p l gib : Nat) : Nat := (s.alloc p l).1 / 2 ^ 30 + gib
/-- GiB numbers added for an LD, and those pending. -/
def State.gibsIn (s : State) (p l : Nat) (bs : List DcBlock) : List Nat := bs.map (s.gibOf p l)
/-- Whether an LD has a GiB of DPA space added or pending. -/
def State.holdsGib (s : State) (k g : Nat) : Bool :=
  let x := s.ld (k / 16) (k % 16)
  (s.gibsIn (k / 16) (k % 16) (x.blocks ++ x.pendingAdd)).any (fun b => decide (s.dpaGib (k / 16) (k % 16) b = g))
/-- Whether the region at a GiB of DPA space is SHAREABLE in an LD. -/
def State.sharesGib (s : State) (k g : Nat) : Bool :=
  let lo := (s.alloc (k / 16) (k % 16)).1 / 2 ^ 30
  match s.regionOf (k / 16) (k % 16) (g - lo) with
  | some r => (s.region (k / 16) (k % 16) r).shareable
  | none => false
/-- `DC_GENERATION` rises at every add or release (R372). -/
def State.raiseDc (s : State) : State := s.setCell Ob.DC_GENERATION ((s.cell Ob.DC_GENERATION 0 + 1) % 2 ^ 32)
/-- The quantities of an event that records blocks: start and length of each extent. -/
def extentQs (x : Extents) : List (Nat × Nat) := (x.map (fun e => [(4, e.1), (4, e.2)])).flatten

/-! ### Release and zeroing (R372, R373) -/

/-- GiB numbers of DPA space that the release of an LD's blocks leaves to no LD, in regions with SANITIZE set. [DEDUCED, assumption 52] -/
def State.toZero (s : State) (p l : Nat) (gibs : List Nat) : List Nat :=
  let k := 16 * p + l
  let others := (s.lds.map Prod.fst).filter (fun j => decide (j ≠ k ∧ j < 128))
  (gibs.filter (fun g => (match s.regionOf p l g with
      | some r => (s.region p l r).sanitize
      | none => false) && !(others.any (fun j => s.holdsGib j (s.dpaGib p l g))))).map (s.dpaGib p l)
/-- Releases blocks of an LD at one apply point (R372). [DEDUCED, assumption 52] -/
def State.releaseDc (s : State) (p l : Nat) (gibs : List Nat) (forced : Bool) : State :=
  let x := s.ld p l
  let zero := s.toZero p l (gibs.filter (fun g => (s.gibsIn p l x.blocks).contains g))
  let gone (b : DcBlock) : Bool := gibs.contains (s.gibOf p l b)
  let n := (x.blocks.filter gone).length
  let s1 := s.modLd p l (fun d => { d with
    blocks := d.blocks.filter (fun b => !gone b), pendingRel := d.pendingRel.filter (fun b => !gone b),
    pendingAdd := if forced then d.pendingAdd.filter (fun b => !gone b) else d.pendingAdd })
  let s2 := { s1 with svc := { s1.svc with sanitizing := s1.svc.sanitizing ++ zero } }
  (s2.raiseDc.count Cn.DC_BLOCKS_RELEASED n).pev Ev.DC_EXTENT_RELEASED (16 * p + l) ((1, bitNat forced) :: extentQs (mergeGibs gibs))
/-- Zeroes a line of a block, as ZERO does (R323, R373): a line of a FRESH segment that is not resident reads as zero already, a LOST line
stays LOST. [DEDUCED, assumption 52] -/
def State.zeroLine (s : State) (dpa : Nat) : State :=
  match s.partOf dpa with
  | none => s
  | some part =>
    let (tile, lla) := (s.partn part).locate dpa
    match s.server part tile (lsegOf lla) with
    | none => s
    | some t =>
      let x := s.tile tile
      if x.isLost lla ∨ (((s.tile t).res.find lla tile).isNone ∧ (x.map.entry (lsegOf lla)).st = .fresh) then s
      else
        let kx := s.cell Ob.MAINT_KX 0
        let r : Req := { Req.none with
          iface := .maint, port := tile, cls := maintClass, src := 8 + tile, kx := kx, dpa := dpa, part := part, tile := tile, lla := lla,
          write := true, mask := fullMask, zero := !(s.partn part).isSealed, feedCls := maintClass, decodedAt := s.now tile, admittedAt := s.now tile }
        s.mailboxAccept t r
/-- The lines of a block of 1 GiB (R373). -/
def blockLines : Nat := 16777216
/-- Writes zeros to `k` lines from a device physical address. [DEDUCED, assumption 52] -/
def State.zeroLines (s : State) (dpa k : Nat) : State := s.each (List.range k) (fun s' i => s'.zeroLine (dpa + 64 * i))
/-- A block is no longer being zeroed. -/
def State.zeroed (s : State) (gib : Nat) : State :=
  { s with svc := { s.svc with sanitizing := s.svc.sanitizing.filter (fun g => decide (g ≠ gib)) } }
/-- DC_SANITIZE_DONE (R373): every line of a block that its last LD released has been zeroed. [DEDUCED, assumption 52] -/
def execDcSanitizeDone (gib : Nat) (s : State) : Host.Outcome State Fault Refusal :=
  .next (if s.inService ∧ s.svc.sanitizing.contains gib then
      ((s.zeroLines (gib * 2 ^ 30) blockLines).zeroed gib).pev Ev.DC_SANITIZE_DONE gib [(4, 1)]
    else s)

/-! ### Host commands (R369 to R372) -/

/-- The enabled regions of an LD: number, offset, size, block size in GiB, SHAREABLE, SANITIZE (R369). -/
def State.dcRegions (s : State) (p l : Nat) : List Nat :=
  ((List.range 8).filter (fun r => (s.region p l r).on)).map (fun r =>
    let g := s.region p l r
    [r, g.off, g.size, 1, bitNat g.shareable, bitNat g.sanitize]) |>.flatten
/-- GET_DYNAMIC_CAPACITY_CONFIGURATION (R369). -/
def execGetDynamicCapacityConfiguration (port ld : Nat) (s : State) : Host.Outcome State Fault Refusal :=
  .next (s.mailbox port ld 0x4800 .read (fun s => s.mbDone (s.dcRegions port ld)))
/-- The extent list with its generation (R372). -/
def State.extentList (s : State) (p l : Nat) : List Nat :=
  let x := mergeGibs (s.gibsIn p l (s.ld p l).blocks)
  [s.cell Ob.DC_GENERATION 0, x.length] ++ (x.map (fun e => [e.1, e.2])).flatten
/-- GET_DYNAMIC_CAPACITY_EXTENT_LIST (R372). -/
def execGetDynamicCapacityExtentList (port ld : Nat) (s : State) : Host.Outcome State Fault Refusal :=
  .next (s.mailbox port ld 0x4801 .read (fun s => s.mbDone (s.extentList port ld)))
/-- Pending blocks that a host accepts become added at one apply point; the others return to not added (R371). [DEDUCED, assumption 52] -/
def State.acceptDc (s : State) (p l : Nat) (gibs : List Nat) : State :=
  let s1 := s.modLd p l (fun d => { d with
    blocks := d.blocks ++ d.pendingAdd.filter (fun b => gibs.contains (s.gibOf p l b)), pendingAdd := [] })
  if gibs = [] then s1
  else (s1.raiseDc.count Cn.DC_BLOCKS_ADDED gibs.length).pev Ev.DC_EXTENT_ADDED (16 * p + l) (extentQs (mergeGibs gibs))
/-- ADD_DYNAMIC_CAPACITY_RESPONSE (R371). -/
def execAddDynamicCapacityResponse (port ld : Nat) (extents : List (Nat × Nat)) (s : State) : Host.Outcome State Fault Refusal :=
  .next (s.mailbox port ld 0x4802 .write (fun s =>
    let gibs := (gibsOf extents).eraseDups
    let waiting := s.gibsIn port ld (s.ld port ld).pendingAdd
    if gibs.all (fun g => waiting.contains g) then (s.acceptDc port ld gibs).mbDone [] else s.mbRc Rc.invalidInput))
/-- RELEASE_DYNAMIC_CAPACITY (R372). -/
def execReleaseDynamicCapacity (port ld : Nat) (extents : List (Nat × Nat)) (s : State) : Host.Outcome State Fault Refusal :=
  .next (s.mailbox port ld 0x4803 .write (fun s =>
    let gibs := (gibsOf extents).eraseDups
    let added := s.gibsIn port ld (s.ld port ld).blocks
    if gibs ≠ [] ∧ gibs.all (fun g => added.contains g) = true then (s.releaseDc port ld gibs false).mbDone [] else s.mbRc Rc.invalidInput))

/-! ### The FM API (R367, R371, R372, R377, R379) -/

/-- Runs an FM API command for a port: over MCTP (I3C, PCIe VDM), or through the mailbox of its FM-owned LD in MLD mode (R366, R377). -/
def State.fm (s : State) (q : Requester) (p op : Nat) (n : Needs) (f : Requester → State → MbEnd) : State :=
  if q.transport = 3 then s.mailbox p fmLd op n (f (mailboxOf p fmLd))
  else if (q.transport ≠ 1 ∧ q.transport ≠ 2) ∨ !s.portUsed p ∨ !s.serverUp then s
  else
    let d := if s.serverBusy then s.mbError q Err.busy 0 0
      else match s.needsFault n with
        | some e => s.mbError q e 0 0
        | none => f q s
    { d.st with out := d.st.out ++ [Response.mailbox p fmLd op d.rc d.out] }
/-- Logical devices of a port (R366, R388). -/
def State.ldNumbers (s : State) (p : Nat) : List Nat := below 16 (s.ldExists p)
/-- GET_LD_INFO (R379): how many logical devices the port has, its LD mode. -/
def execGetLdInfo (q : Requester) (port : Nat) (s : State) : Host.Outcome State Fault Refusal :=
  .next (s.fm q port 0x5400 .read (fun _ s => s.mbDone [(s.ldNumbers port).length, (s.port port).ldMode]))
/-- GET_LD_ALLOCATIONS (R367). -/
def execGetLdAllocations (q : Requester) (port : Nat) (s : State) : Host.Outcome State Fault Refusal :=
  .next (s.fm q port 0x5401 .read (fun _ s => s.mbDone (((s.ldNumbers port).map (fun l =>
    [s.cell (ldKey Ob.LD_ALLOC_BASE port l) 0, s.cell (ldKey Ob.LD_ALLOC_SIZE port l) 0])).flatten)))
/-- SET_LD_ALLOCATIONS (R367): base and size of LDs, from LD `first` on, committed as one set. -/
def execSetLdAllocations (q : Requester) (port first : Nat) (allocs : List (Nat × Nat)) (s : State) : Host.Outcome State Fault Refusal :=
  .next (s.fm q port 0x5402 .write (fun q s =>
    if 16 < first + allocs.length then s.mbError q Err.noObject 0 Ob.LD_ALLOC_BASE
    else s.mbCommit q ((allocs.zipIdx.map (fun x =>
      [(ldKey Ob.LD_ALLOC_BASE port (first + x.2), x.1.1), (ldKey Ob.LD_ALLOC_SIZE port (first + x.2), x.1.2)])).flatten)))
/-- GET_DCD_INFO (R379): logical devices, regions of each, block size in GiB, capacity in GiB. -/
def execGetDcdInfo (q : Requester) (port : Nat) (s : State) : Host.Outcome State Fault Refusal :=
  .next (s.fm q port 0x5600 .read (fun _ s => s.mbDone [(s.ldNumbers port).length, 8, 1, s.part.capacity / 2 ^ 30]))
/-- GET_HOST_DC_REGION_CONFIGURATION (R379). -/
def execGetHostDcRegionConfiguration (q : Requester) (port ld : Nat) (s : State) : Host.Outcome State Fault Refusal :=
  .next (s.fm q port 0x5601 .read (fun _ s => if s.ldExists port ld then s.mbDone (s.dcRegions port ld) else s.mbRc Rc.invalidInput))
/-- The `DCR_CFG` value of a region. -/
def Region.cfg (g : Region) : Nat :=
  g.size % 2 ^ 14 + g.off % 2 ^ 14 * 2 ^ 14 + bitNat g.sanitize * 2 ^ 29 + bitNat g.shareable * 2 ^ 30 + bitNat g.on * 2 ^ 31
/-- SET_DC_REGION_CONFIGURATION (R369): commits the `DCR_CFG` of a region. -/
def execSetDcRegionConfiguration (q : Requester) (port ld region : Nat) (cfg : Region) (s : State) : Host.Outcome State Fault Refusal :=
  .next (s.fm q port 0x5602 .write (fun q s =>
    if 7 < region ∨ 15 < ld then s.mbError q Err.noObject 0 Ob.DCR_CFG
    else if 2 ^ 14 ≤ cfg.size ∨ 2 ^ 14 ≤ cfg.off then s.mbError q Err.range 0 (ldKey Ob.DCR_CFG port ld + region)
    else s.mbCommit q [(ldKey Ob.DCR_CFG port ld + region, cfg.cfg)]))
/-- GET_DC_REGION_EXTENT_LISTS (R379). -/
def execGetDcRegionExtentLists (q : Requester) (port ld : Nat) (s : State) : Host.Outcome State Fault Refusal :=
  .next (s.fm q port 0x5603 .read (fun _ s => if s.ldExists port ld then s.mbDone (s.extentList port ld) else s.mbRc Rc.invalidInput))

/-- Posts a record of a Dynamic Capacity Event Log (R371, R372): kind 3 Add Capacity, 4 Release Capacity. -/
def State.postDc (s : State) (p l kind tag : Nat) (x : Extents) : State :=
  s.postLog (16 * p + l) 4 kind 0 s.pkgNow (packPayload ((4, tag) :: extentQs x) 0)
/-- Whether an add is refused with Invalid Input (R371): a block outside the LD's regions, one it already has, one that another LD has where
a region is not SHAREABLE, too many extents. -/
def State.addBarred (s : State) (p l : Nat) (gibs : List Nat) : Bool :=
  let k := 16 * p + l
  let x := s.ld p l
  let others := (s.lds.map Prod.fst).filter (fun j => decide (j ≠ k ∧ j < 128))
  let waiting := s.gibsIn p l x.pendingAdd
  !s.ldExists p l || gibs.isEmpty || gibs.any (fun g =>
      (s.regionOf p l g).isNone || s.holdsGib k (s.dpaGib p l g) ||
      others.any (fun j => s.holdsGib j (s.dpaGib p l g) && !(s.sharesGib j (s.dpaGib p l g) && s.sharesGib k (s.dpaGib p l g))))
    || decide (256 < (mergeGibs (s.gibsIn p l x.blocks ++ waiting ++ gibs)).length) || decide (64 < (mergeGibs (waiting ++ gibs)).length)
/-- INITIATE_DYNAMIC_CAPACITY_ADD (R371): the blocks become pending, and the host is told. -/
def execInitiateDynamicCapacityAdd (q : Requester) (port ld tag : Nat) (extents : List (Nat × Nat)) (s : State) : Host.Outcome State Fault Refusal :=
  .next (s.fm q port 0x5604 .write (fun _ s =>
    let gibs := (gibsOf extents).eraseDups
    if s.addBarred port ld gibs then s.mbRc Rc.invalidInput
    else if gibs.any (fun g => s.svc.sanitizing.contains (s.dpaGib port ld g)) then s.mbRc Rc.busy
    else
      let s1 := s.modLd port ld (fun d => { d with pendingAdd := d.pendingAdd ++ gibs.filterMap (s.blockAt port ld tag) })
      (s1.postDc port ld 3 tag (mergeGibs gibs)).mbDone []))
/-- INITIATE_DYNAMIC_CAPACITY_RELEASE (R372): a request that the host confirms, or a forced release. -/
def execInitiateDynamicCapacityRelease (q : Requester) (port ld : Nat) (extents : List (Nat × Nat)) (forced : Bool) (s : State) :
    Host.Outcome State Fault Refusal :=
  .next (s.fm q port 0x5605 .write (fun _ s =>
    let gibs := (gibsOf extents).eraseDups
    let x := s.ld port ld
    let added := s.gibsIn port ld (if forced then x.blocks ++ x.pendingAdd else x.blocks)
    if !s.ldExists port ld ∨ gibs = [] ∨ !gibs.all (fun g => added.contains g) then s.mbRc Rc.invalidInput
    else if forced then (s.releaseDc port ld gibs true).mbDone []
    else
      let s1 := s.modLd port ld (fun d => { d with pendingRel := d.pendingRel ++ gibs.filterMap (s.blockAt port ld 0) })
      (s1.postDc port ld 4 0 (mergeGibs gibs)).mbDone []))

/-- The FM API commands that are supported (R379), by CXL opcode. [PRESUMED, assumption 22] -/
def fmOpcodes : List Nat := [0x5400, 0x5401, 0x5402, 0x5600, 0x5601, 0x5602, 0x5603, 0x5604, 0x5605]
/-- MAILBOX_UNSUPPORTED (R379, R380): every other opcode of a mailbox, or of the FM API (`fm`, by requester `q`). -/
def execMailboxUnsupported (fm : Bool) (q : Requester) (port ld op : Nat) (s : State) : Host.Outcome State Fault Refusal :=
  .next (
    if fm then (if fmOpcodes.contains op then s else s.fm q port op .nothing (fun _ s => s.mbRc Rc.unsupported))
    else if mailboxOpcodes.contains op then s
    else s.mailbox port ld op .nothing (fun s => s.mbRc Rc.unsupported))

end Sys2Proof.Machine
end

