-- ==== Sys2Proof/Machine/Dispatch.lean ====
section
/-! DEFINITION. Dispatch: each command calls its meaning. -/
namespace Sys2Proof.Machine
open Sys2Proof

/-- The effect of a command on everything but the queue. [DESIGN CHOICE, assumption 3] -/
def exec (i : Instr) (s : State) : Host.Outcome State Fault Refusal :=
  match i with
  | .ringLinkRetrain link replaysE replaysW => Sys2Proof.Machine.execRingLinkRetrain link replaysE replaysW s
  | .ringLinkDown link => Sys2Proof.Machine.execRingLinkDown link s
  | .alignmentMarker => Sys2Proof.Machine.execAlignmentMarker s
  | .timebaseHoldover t => Sys2Proof.Machine.execTimebaseHoldover t s
  | .timebaseRealigned t => Sys2Proof.Machine.execTimebaseRealigned t s
  | .refclkLost k => Sys2Proof.Machine.execRefclkLost k s
  | .refclkLocked t => Sys2Proof.Machine.execRefclkLocked t s
  | .coreTakeover => Sys2Proof.Machine.execCoreTakeover s
  | .standbyLost fails => Sys2Proof.Machine.execStandbyLost fails s
  | .memRd port id tag hpa pred => Sys2Proof.Machine.execMemRd port id tag hpa pred s
  | .memSpecRd port id tag hpa => Sys2Proof.Machine.execMemSpecRd port id tag hpa s
  | .memInv port id tag => Sys2Proof.Machine.execMemInv port id tag s
  | .memWr port id tag hpa data poison => Sys2Proof.Machine.execMemWr port id tag hpa data poison s
  | .memWrPtl port id tag hpa mask data poison pred => Sys2Proof.Machine.execMemWrPtl port id tag hpa mask data poison pred s
  | .memUndefinedOpcode port id tag hpa expectsData => Sys2Proof.Machine.execMemUndefinedOpcode port id tag hpa expectsData s
  | .mediumReadDone t rd pos err mute => Sys2Proof.Machine.execMediumReadDone t rd pos err mute s
  | .strokeLift t stroke => Sys2Proof.Machine.execStrokeLift t stroke s
  | .nibPositionFreed t pred => Sys2Proof.Machine.execNibPositionFreed t pred s
  | .readAroundDone t rd => Sys2Proof.Machine.execReadAroundDone t rd s
  | .lineRebuilt t rd errs => Sys2Proof.Machine.execLineRebuilt t rd errs s
  | .erasureRetry t rd errs => Sys2Proof.Machine.execErasureRetry t rd errs s
  | .fetchDone t rd => Sys2Proof.Machine.execFetchDone t rd s
  | .hotBank t die bank => Sys2Proof.Machine.execHotBank t die bank s
  | .readSvcClear q t v => Sys2Proof.Machine.execReadSvcClear q t v s
  | .mirrorMessage t => Sys2Proof.Machine.execMirrorMessage t s
  | .mirrorAck t => Sys2Proof.Machine.execMirrorAck t s
  | .mirrorRelease t => Sys2Proof.Machine.execMirrorRelease t s
  | .evictionStart t slice pred => Sys2Proof.Machine.execEvictionStart t slice pred s
  | .evictionPoint t id => Sys2Proof.Machine.execEvictionPoint t id s
  | .strokeStart t id => Sys2Proof.Machine.execStrokeStart t id s
  | .strokeVerified t id => Sys2Proof.Machine.execStrokeVerified t id s
  | .strokeVerifyFail t id mute => Sys2Proof.Machine.execStrokeVerifyFail t id mute s
  | .binding t lseg => Sys2Proof.Machine.execBinding t lseg s
  | .gpfPhase2 => Sys2Proof.Machine.execGpfPhase2 s
  | .drainFlushDone t => Sys2Proof.Machine.execDrainFlushDone t s
  | .shadowRecordWrite t => Sys2Proof.Machine.execShadowRecordWrite t s
  | .tileFlushSilence t => Sys2Proof.Machine.execTileFlushSilence t s
  | .resEccError t f => Sys2Proof.Machine.execResEccError t f s
  | .shadowResent t => Sys2Proof.Machine.execShadowResent t s
  | .ageEntryReset t p => Sys2Proof.Machine.execAgeEntryReset t p s
  | .rootRepaired t part => Sys2Proof.Machine.execRootRepaired t part s
  | .rotationMove t lseg fails => Sys2Proof.Machine.execRotationMove t lseg fails s
  | .blanking t => Sys2Proof.Machine.execBlanking t s
  | .wearThresholdUpdate => Sys2Proof.Machine.execWearThresholdUpdate s
  | .migrationStarted t => Sys2Proof.Machine.execMigrationStarted t s
  | .migrationStripeCopy t lseg fails => Sys2Proof.Machine.execMigrationStripeCopy t lseg fails s
  | .migrationDone t lseg => Sys2Proof.Machine.execMigrationDone t lseg s
  | .migrateRequest q v => Sys2Proof.Machine.execMigrateRequest q v s
  | .quarantineAck q v => Sys2Proof.Machine.execQuarantineAck q v s
  | .mapQuery q v => Sys2Proof.Machine.execMapQuery q v s
  | .evacuationSlot t fails => Sys2Proof.Machine.execEvacuationSlot t fails s
  | .temperatureSample temps => Sys2Proof.Machine.execTemperatureSample temps s
  | .driftClockSave t => Sys2Proof.Machine.execDriftClockSave t s
  | .patrolPace => Sys2Proof.Machine.execPatrolPace s
  | .patrolVisitMember t weakCells err => Sys2Proof.Machine.execPatrolVisitMember t weakCells err s
  | .patrolVisitEnd t bad0 bad1 => Sys2Proof.Machine.execPatrolVisitEnd t bad0 bad1 s
  | .refreshEscalated t => Sys2Proof.Machine.execRefreshEscalated t s
  | .patrolOverdue t p => Sys2Proof.Machine.execPatrolOverdue t p s
  | .accelPatrolDone t => Sys2Proof.Machine.execAccelPatrolDone t s
  | .scrubStart q v => Sys2Proof.Machine.execScrubStart q v s
  | .scrubAbort q v => Sys2Proof.Machine.execScrubAbort q v s
  | .scrubDone worst fails => Sys2Proof.Machine.execScrubDone worst fails s
  | .watchdogTrip issuer suspect block request => Sys2Proof.Machine.execWatchdogTrip issuer suspect block request s
  | .ringSilence t => Sys2Proof.Machine.execRingSilence t s
  | .tileSelfReport t => Sys2Proof.Machine.execTileSelfReport t s
  | .tileFence q v => Sys2Proof.Machine.execTileFence q v s
  | .fenceDecision t => Sys2Proof.Machine.execFenceDecision t s
  | .mirrorMoved w => Sys2Proof.Machine.execMirrorMoved w s
  | .isolationFlushEnd t => Sys2Proof.Machine.execIsolationFlushEnd t s
  | .spanDelta t => Sys2Proof.Machine.execSpanDelta t s
  | .reconstructionDone t rd => Sys2Proof.Machine.execReconstructionDone t rd s
  | .tileRejoin q v => Sys2Proof.Machine.execTileRejoin q v s
  | .autoRejoin t => Sys2Proof.Machine.execAutoRejoin t s
  | .rejoinStepDone t ok bad => Sys2Proof.Machine.execRejoinStepDone t ok bad s
  | .resyncSegment t lseg => Sys2Proof.Machine.execResyncSegment t lseg s
  | .keyLoad q slot k1 k2 => Sys2Proof.Machine.execKeyLoad q slot k1 k2 s
  | .keyErase q slot => Sys2Proof.Machine.execKeyErase q slot s
  | .keyPurgeDone => Sys2Proof.Machine.execKeyPurgeDone s
  | .keyQuery q v => Sys2Proof.Machine.execKeyQuery q v s
  | .debugUnlock q token => Sys2Proof.Machine.execDebugUnlock q token s
  | .debugLock q v => Sys2Proof.Machine.execDebugLock q v s
  | .spdmSessionEnd id => Sys2Proof.Machine.execSpdmSessionEnd id s
  | .sealRootAdopt q part t => Sys2Proof.Machine.execSealRootAdopt q part t s
  | .metaFetchDone t rd => Sys2Proof.Machine.execMetaFetchDone t rd s
  | .descIn port ld window word aligned => Sys2Proof.Machine.execDescIn port ld window word aligned s
  | .qFlush port ld window => Sys2Proof.Machine.execQFlush port ld window s
  | .qResync port ld window => Sys2Proof.Machine.execQResync port ld window s
  | .cqHeadWrite port ld window head => Sys2Proof.Machine.execCqHeadWrite port ld window head s
  | .descriptorStart t ecc => Sys2Proof.Machine.execDescriptorStart t ecc s
  | .copy t q desc => Sys2Proof.Machine.execCopy t q desc s
  | .fill t q desc => Sys2Proof.Machine.execFill t q desc s
  | .zero t q desc => Sys2Proof.Machine.execZero t q desc s
  | .crc32c t q desc => Sys2Proof.Machine.execCrc32c t q desc s
  | .compare t q desc => Sys2Proof.Machine.execCompare t q desc s
  | .cas64 t q desc => Sys2Proof.Machine.execCas64 t q desc s
  | .fadd64 t q desc => Sys2Proof.Machine.execFadd64 t q desc s
  | .logAppend t q desc => Sys2Proof.Machine.execLogAppend t q desc s
  | .barLd t q desc => Sys2Proof.Machine.execBarLd t q desc s
  | .barSt t q desc => Sys2Proof.Machine.execBarSt t q desc s
  | .barAll t q desc => Sys2Proof.Machine.execBarAll t q desc s
  | .notify t q desc => Sys2Proof.Machine.execNotify t q desc s
  | .scribeLineDone t q desc => Sys2Proof.Machine.execScribeLineDone t q desc s
  | .barrierComplete t q => Sys2Proof.Machine.execBarrierComplete t q s
  | .sqRestart q t queue v => Sys2Proof.Machine.execSqRestart q t queue v s
  | .feedAdmit slice engine pred => Sys2Proof.Machine.execFeedAdmit slice engine pred s
  | .epochEnd lost => Sys2Proof.Machine.execEpochEnd lost s
  | .urgencySample port level => Sys2Proof.Machine.execUrgencySample port level s
  | .reservationsScaled cause => Sys2Proof.Machine.execReservationsScaled cause s
  | .classHeldClear q c v => Sys2Proof.Machine.execClassHeldClear q c v s
  | .linkTrained port rate width flit cxl => Sys2Proof.Machine.execLinkTrained port rate width flit cxl s
  | .linkRetrained port rate width => Sys2Proof.Machine.execLinkRetrained port rate width s
  | .linkDown port cause => Sys2Proof.Machine.execLinkDown port cause s
  | .cxlLdReset port ld => Sys2Proof.Machine.execCxlLdReset port ld s
  | .functionLevelReset port ld => Sys2Proof.Machine.execFunctionLevelReset port ld s
  | .ideFailure port stream dpas => Sys2Proof.Machine.execIdeFailure port stream dpas s
  | .ideKeyRefresh port stream mode session key => Sys2Proof.Machine.execIdeKeyRefresh port stream mode session key s
  | .hdmDecoderCommit port ld dec base size ways gran skip lock => Sys2Proof.Machine.execHdmDecoderCommit port ld dec base size ways gran skip lock s
  | .identify port ld => Sys2Proof.Machine.execIdentify port ld s
  | .backgroundOperationStatus port ld => Sys2Proof.Machine.execBackgroundOperationStatus port ld s
  | .getEventRecords port ld log => Sys2Proof.Machine.execGetEventRecords port ld log s
  | .clearEventRecords port ld log all handles => Sys2Proof.Machine.execClearEventRecords port ld log all handles s
  | .getEventInterruptPolicy port ld => Sys2Proof.Machine.execGetEventInterruptPolicy port ld s
  | .setEventInterruptPolicy port ld policy => Sys2Proof.Machine.execSetEventInterruptPolicy port ld policy s
  | .getFwInfo port ld => Sys2Proof.Machine.execGetFwInfo port ld s
  | .transferFw port ld x => Sys2Proof.Machine.execTransferFw port ld x s
  | .activateFw port ld slot online => Sys2Proof.Machine.execActivateFw port ld slot online s
  | .getTimestamp port ld => Sys2Proof.Machine.execGetTimestamp port ld s
  | .setTimestamp port ld time => Sys2Proof.Machine.execSetTimestamp port ld time s
  | .getSupportedLogs port ld => Sys2Proof.Machine.execGetSupportedLogs port ld s
  | .getLog port ld log => Sys2Proof.Machine.execGetLog port ld log s
  | .getSupportedFeatures port ld => Sys2Proof.Machine.execGetSupportedFeatures port ld s
  | .getFeature port ld feature => Sys2Proof.Machine.execGetFeature port ld feature s
  | .setFeature port ld feature cycle enable => Sys2Proof.Machine.execSetFeature port ld feature cycle enable s
  | .identifyMemoryDevice port ld => Sys2Proof.Machine.execIdentifyMemoryDevice port ld s
  | .getPartitionInfo port ld => Sys2Proof.Machine.execGetPartitionInfo port ld s
  | .getLsa port ld offset len => Sys2Proof.Machine.execGetLsa port ld offset len s
  | .setLsa port ld offset data => Sys2Proof.Machine.execSetLsa port ld offset data s
  | .getHealthInfo port ld => Sys2Proof.Machine.execGetHealthInfo port ld s
  | .getAlertConfiguration port ld => Sys2Proof.Machine.execGetAlertConfiguration port ld s
  | .setAlertConfiguration port ld life beyond under volatileErrs persistentErrs => Sys2Proof.Machine.execSetAlertConfiguration port ld life beyond under volatileErrs persistentErrs s
  | .getShutdownState port ld => Sys2Proof.Machine.execGetShutdownState port ld s
  | .setShutdownState port ld v => Sys2Proof.Machine.execSetShutdownState port ld v s
  | .getPoisonList port ld dpa len => Sys2Proof.Machine.execGetPoisonList port ld dpa len s
  | .injectPoison port ld dpa => Sys2Proof.Machine.execInjectPoison port ld dpa s
  | .clearPoison port ld dpa data => Sys2Proof.Machine.execClearPoison port ld dpa data s
  | .getScanMediaCapabilities port ld dpa len => Sys2Proof.Machine.execGetScanMediaCapabilities port ld dpa len s
  | .scanMedia port ld dpa len noLog => Sys2Proof.Machine.execScanMedia port ld dpa len noLog s
  | .getScanMediaResults port ld => Sys2Proof.Machine.execGetScanMediaResults port ld s
  | .sanitize port ld => Sys2Proof.Machine.execSanitize port ld s
  | .secureErase port ld => Sys2Proof.Machine.execSecureErase port ld s
  | .eraseDone => Sys2Proof.Machine.execEraseDone s
  | .getDynamicCapacityConfiguration port ld => Sys2Proof.Machine.execGetDynamicCapacityConfiguration port ld s
  | .getDynamicCapacityExtentList port ld => Sys2Proof.Machine.execGetDynamicCapacityExtentList port ld s
  | .addDynamicCapacityResponse port ld extents => Sys2Proof.Machine.execAddDynamicCapacityResponse port ld extents s
  | .releaseDynamicCapacity port ld extents => Sys2Proof.Machine.execReleaseDynamicCapacity port ld extents s
  | .staebExchange port ld bytes => Sys2Proof.Machine.execStaebExchange port ld bytes s
  | .staebLimits port ld => Sys2Proof.Machine.execStaebLimits port ld s
  | .mailboxUnsupported fm q port ld op => Sys2Proof.Machine.execMailboxUnsupported fm q port ld op s
  | .getLdInfo q port => Sys2Proof.Machine.execGetLdInfo q port s
  | .getLdAllocations q port => Sys2Proof.Machine.execGetLdAllocations q port s
  | .setLdAllocations q port first allocs => Sys2Proof.Machine.execSetLdAllocations q port first allocs s
  | .getDcdInfo q port => Sys2Proof.Machine.execGetDcdInfo q port s
  | .getHostDcRegionConfiguration q port ld => Sys2Proof.Machine.execGetHostDcRegionConfiguration q port ld s
  | .setDcRegionConfiguration q port ld region cfg => Sys2Proof.Machine.execSetDcRegionConfiguration q port ld region cfg s
  | .getDcRegionExtentLists q port ld => Sys2Proof.Machine.execGetDcRegionExtentLists q port ld s
  | .initiateDynamicCapacityAdd q port ld tag extents => Sys2Proof.Machine.execInitiateDynamicCapacityAdd q port ld tag extents s
  | .initiateDynamicCapacityRelease q port ld extents forced => Sys2Proof.Machine.execInitiateDynamicCapacityRelease q port ld extents forced s
  | .dcSanitizeDone gib => Sys2Proof.Machine.execDcSanitizeDone gib s
  | .seqInAccepted => Sys2Proof.Machine.execSeqInAccepted s
  | .seqStepDone => Sys2Proof.Machine.execSeqStepDone s
  | .sequenceFailure point => Sys2Proof.Machine.execSequenceFailure point s
  | .seqRetry => Sys2Proof.Machine.execSeqRetry s
  | .haltedExit => Sys2Proof.Machine.execHaltedExit s
  | .seqInFallInSeq => Sys2Proof.Machine.execSeqInFallInSeq s
  | .railSample mv mw => Sys2Proof.Machine.execRailSample mv mw s
  | .vinComparatorTrip => Sys2Proof.Machine.execVinComparatorTrip s
  | .replicaMeasure t margin need => Sys2Proof.Machine.execReplicaMeasure t margin need s
  | .avsCommand => Sys2Proof.Machine.execAvsCommand s
  | .avsLinkLost => Sys2Proof.Machine.execAvsLinkLost s
  | .holdupMeasured dt stepUv => Sys2Proof.Machine.execHoldupMeasured dt stepUv s
  | .holdupFault reason esr => Sys2Proof.Machine.execHoldupFault reason esr s
  | .resetNLow => Sys2Proof.Machine.execResetNLow s
  | .pwrfailNLow => Sys2Proof.Machine.execPwrfailNLow s
  | .seqInLow => Sys2Proof.Machine.execSeqInLow s
  | .safeRestart cycled => Sys2Proof.Machine.execSafeRestart cycled s
  | .powerDown q v => Sys2Proof.Machine.execPowerDown q v s
  | .powerUp q v => Sys2Proof.Machine.execPowerUp q v s
  | .staebMessage q bytes => Sys2Proof.Machine.execStaebMessage q bytes s
  | .objectWrite q index sub value => Sys2Proof.Machine.execObjectWrite q index sub value s
  | .readStaged q index sub => Sys2Proof.Machine.execReadStaged q index sub s
  | .commit q expected cut => Sys2Proof.Machine.execCommit q expected cut s
  | .partitionReleased p => Sys2Proof.Machine.execPartitionReleased p s
  | .stageDiscard q v => Sys2Proof.Machine.execStageDiscard q v s
  | .stageExpired q => Sys2Proof.Machine.execStageExpired q s
  | .w1cWrite q index sub v => Sys2Proof.Machine.execW1cWrite q index sub v s
  | .cntSnapshot q v => Sys2Proof.Machine.execCntSnapshot q v s
  | .cntSnapshotLatch => Sys2Proof.Machine.execCntSnapshotLatch s
  | .recPublish r => Sys2Proof.Machine.execRecPublish r s
  | .recClear q v => Sys2Proof.Machine.execRecClear q v s
  | .recNext q t seq => Sys2Proof.Machine.execRecNext q t seq s
  | .recRelease q t seq => Sys2Proof.Machine.execRecRelease q t seq s
  | .recPkgNext q seq => Sys2Proof.Machine.execRecPkgNext q seq s
  | .recPkgRelease q seq => Sys2Proof.Machine.execRecPkgRelease q seq s
  | .recSave t => Sys2Proof.Machine.execRecSave t s
  | .pstoreRingSave t ring => Sys2Proof.Machine.execPstoreRingSave t ring s
  | .vauxOn => Sys2Proof.Machine.execVauxOn s
  | .firmwareBootDone a b => Sys2Proof.Machine.execFirmwareBootDone a b s
  | .vauxRemoved => Sys2Proof.Machine.execVauxRemoved s
  | .bringupStepDone found => Sys2Proof.Machine.execBringupStepDone found s
  | .degradedExit => Sys2Proof.Machine.execDegradedExit s
  | .fwActivateLive q => Sys2Proof.Machine.execFwActivateLive q s
  | .fwActivateAtReset q => Sys2Proof.Machine.execFwActivateAtReset q s
  | .liveUpdateStepDone ok => Sys2Proof.Machine.execLiveUpdateStepDone ok s
  | .fwSvnCommit q v => Sys2Proof.Machine.execFwSvnCommit q v s
  | .ownerInstall q cert => Sys2Proof.Machine.execOwnerInstall q cert s
  | .decommission q v => Sys2Proof.Machine.execDecommission q v s
  | .timebaseTick k => Sys2Proof.Machine.execTimebaseTick k s
  | .debugAccess session dpa kx write mask data pred => Sys2Proof.Machine.execDebugAccess session dpa kx write mask data pred s
  | .hdmDecoderUncommit port ld dec => Sys2Proof.Machine.execHdmDecoderUncommit port ld dec s
  | .spdmSessionEstablished id owner port => Sys2Proof.Machine.execSpdmSessionEstablished id owner port s
  | .standbyResynchronised => Sys2Proof.Machine.execStandbyResynchronised s
  | .pbrIdAssigned port id => Sys2Proof.Machine.execPbrIdAssigned port id s
  | .linkReplay port flits => Sys2Proof.Machine.execLinkReplay port flits s

end Sys2Proof.Machine
end

