-- ==== Sys2Proof/Safety.lean ====
section
/-! DEFINITION. The terms in which statements about the block are made: events that recorders hold, the sizes of a state's lists, the canonical
form of its stores, a dictionary server that takes a message at once, the rollback floor of the firmware. -/
namespace Sys2Proof.Machine
open Sys2Proof

/-! ### Events -/

/-- Recorder `r` (8 the package's) has an occurrence of an event code staged for its next publish (R456). -/
def State.reports (s : State) (r code : Nat) : Prop := ∃ o ∈ (s.recs.getD r Recorder.empty).staged, o.code = code
/-- Recorder of tile `t` has tile-local event `num` staged (R41, R456). -/
def State.tileReports (s : State) (t num : Nat) : Prop := s.reports t (t * 0xC0 + num)
/-- The package recorder has a package event staged (R41, R456). -/
def State.pkgReports (s : State) (code : Nat) : Prop := s.reports 8 code

/-! ### States of the right size -/

/-- The lists of a state have an element for every tile and port of the part, and for the package recorder (R14, R456). -/
structure State.Sized (s : State) : Prop where
  tiles : s.n ≤ s.tiles.length
  ports : s.n ≤ s.ports.length
  recs : s.recs.length = 9

/-! ### Stores in their canonical form -/

/-- The slots and headers of every tile, its map and its segments, the dictionary cells, the counters and the key table list their keys in
strictly rising order. [DESIGN CHOICE, assumption 61] -/
def Memory.wf (s : State) : Bool :=
  s.tiles.all (fun x => x.med.slots.wf && x.med.hdr.wf && x.map.map.wf && x.map.segs.wf) && s.obj.wf && s.cnt.live.wf && s.keys.slots.wf

/-! ### The dictionary server -/

/-- The server takes a message of requester `q` and runs it at once (R424 to R427): firmware up, the requester reached, no takeover, room
for a message, none of the same requester in progress. -/
structure State.Takes (s : State) (q : Requester) : Prop where
  up : s.serverUp = true
  reach : s.reachable q = true
  idle : s.serverBusy = false
  room : s.mgmt.messages.length < 16
  first : s.mgmt.messages.any (fun m => decide (m.req = q)) = false

/-- The bytes of a response with one record, of the object of key `key` (R425): status, object, device state, detail, data. -/
def oneRecord (s : State) (key status detail : Nat) (data : List Nat) : List Nat :=
  [0, 1, 2, 0] ++ bytesLE 2 0 ++ bytesLE 2 1 ++
    respRecord status { op := 0, sub := key % 256, index := key / 256, value := [] } s.dev.st.code detail data

/-! ### The rollback floor -/

/-- `FW_SVN_MIN` stands at `floor` or above (R491). -/
def State.KeepsFloor (s : State) (floor : Nat) : Prop := floor ≤ s.fw.svnMin

/-! ### Host requests -/

/-- The state after port `p` has taken a request flit to decode it (R45). -/
def State.decoded (s : State) (p : Nat) : State :=
  (s.modPort p (fun q => { q with order := q.order + 1 })).tcount p Cn.DECODES 1

/-- A request flit becomes request `r`, which the device admits at once at tile `t` (R45 to R56, R273, R281, R336): its line is one of
an enabled partition, its class holds the right, nothing holds it back, no earlier request of its observer to the line waits. -/
structure State.Admits (s : State) (f : Flit) (r : Req) (t : Nat) : Prop where
  port : s.memPort f.port = true
  active : s.dev.memActive = true
  request : ∃ kx dpa part tile lla, s.routeHpa f.port f.id f.hpa = .line kx dpa part tile lla ∧ r = s.reqOf f kx dpa part tile lla
  rights : (s.decoded f.port).rightsCause r = none
  server : (s.decoded f.port).serverOf r = some t
  room : (s.decoded f.port).admissible t r = true
  first : ((s.decoded f.port).waitingWith r).any (fun h => h.sameLine r) = false

/-- Between `s` and `t` the device has handed one CXL.mem response to request `r`'s port and nothing else to anyone (R362): read data, or
a completion without data. -/
def State.Answers (s t : State) (r : Req) (isData : Bool) (d : Line) (poison : Bool) : Prop :=
  ∃ load, t.out = s.out ++ [Response.mem r.port r.ld r.tag isData d poison load]

/-- Read `rd` of tile `t` is `r`, a host read of a line that is not LOST in a partition that is not sealed, and is not answered yet. -/
structure State.HostRead (s : State) (t rd : Nat) (r : Rd) : Prop where
  here : (s.tile t).rd.byId rd = some r
  tile : t < s.n
  sized : s.Sized
  why : r.why = .host
  open_ : r.answered = false
  cxl : r.req.iface = .cxl
  plainRead : r.req.atom = 0
  notSealed : (s.partn r.part).isSealed = false
  owner : r.req.tile = t
  notLost : (s.tile t).isLost r.req.lla = false
  up : (s.port r.req.port).up = true

/-- The plaintext that host read `r` answers with for DATA `d` of its line (R287, R84). -/
def State.plainOf (s : State) (r : Rd) (d : Line) : Line := s.openLine r.req.tile r.part r.lla r.req.kx r.req.dpa d

/-- No tile's medium and no segment map differs. -/
def State.SameMedium (s t : State) : Prop := ∀ u, (t.tile u).med = (s.tile u).med ∧ (t.tile u).map = (s.tile u).map

/-- No eviction of tile `t` is complete and still listed: what every command leaves behind (R140). -/
def State.NoneDone (s : State) (t : Nat) : Prop :=
  ∀ e ∈ (s.tile t).res.evicts, (e.formed && e.dataDone && e.parityDone && !e.copyData && !e.copyParity && !e.deltaWait) = false

/-! ### Mailboxes -/

/-- The mailbox of LD `l` of port `p` takes a command and the device runs it at once (R377, R427, R518): it is there and free, the device
is powered, a management core is active, the server does not answer BUSY. -/
structure State.MailboxFree (s : State) (p l : Nat) : Prop where
  here : s.mailboxThere p l = true
  free : s.mailboxBusy p l = false
  powered : s.dev.st ≠ .unpowered
  core : s.mgmt.active.isSome = true
  noBusy : s.serverBusy = false

/-- The state `s` after a mailbox has handed over the completion of a command: return code and output; the command is counted (R377, R378). -/
def State.completed (s : State) (p l op rc : Nat) (out : List Nat) : State :=
  ({ s with out := s.out ++ [Response.mailbox p l op rc out] }).tcount p Cn.MAILBOX_COMMANDS 1

/-- The FM API takes a command of `q` for port `p` and the device runs it at once: over MCTP, or over the mailbox of the FM-owned LD. -/
def State.FmFree (s : State) (q : Requester) (p : Nat) : Prop :=
  if q.transport = 3 then s.MailboxFree p fmLd
  else (q.transport = 1 ∨ q.transport = 2) ∧ s.portUsed p = true ∧ s.serverUp = true ∧ s.serverBusy = false

/-- The state `s` after an FM API command has been answered. -/
def State.fmCompleted (s : State) (q : Requester) (p op rc : Nat) (out : List Nat) : State :=
  if q.transport = 3 then s.completed p fmLd op rc out else { s with out := s.out ++ [Response.mailbox p fmLd op rc out] }

/-- The last thing that the device has handed over is the completion of a mailbox or FM API command. -/
def State.Completes (s : State) (p l op rc : Nat) (out : List Nat) : Prop := ∃ before, s.out = before ++ [Response.mailbox p l op rc out]

/-! ### Answers of the dictionary -/

/-- Where requester `q` gets an answer of the dictionary: a mailbox as the output of STAEB_EXCHANGE, else its transport (R380, R425). -/
def answerTo (q : Requester) (bytes : List Nat) : Response :=
  if q.transport = 3 then Response.mailbox q.port (if 0x10000 ≤ q.src then 0xFFFF else q.src % 16) 0xC000 0 bytes else Response.staeb q bytes
/-- Between `s` and `t` the server has handed requester `q` the answer to a message of one operation on the object of key `key`, and nothing
else to anyone. -/
def State.Replies (s t : State) (q : Requester) (key status detail : Nat) (data : List Nat) : Prop :=
  t.out = s.out ++ [answerTo q (oneRecord t key status detail data)]
/-- The message of requester `q` waits in the server for `w`, with the write of the object of key `key` as its operation in progress; no answer
has gone out (R427). -/
def State.Waits (s t : State) (q : Requester) (key : Nat) (w : Wait) : Prop :=
  t.out = s.out ∧ ∃ m, t.mgmt.messages = s.mgmt.messages ++ [m] ∧ m.req = q ∧ m.waiting = w ∧ m.cur.index = key / 256 ∧ m.cur.sub = key % 256 ∧
    m.rest = [] ∧ m.done = [] ∧ m.tag = 0 ∧ m.stop = false
/-- The one message in the server waits for `w`, with a write of the object of key `key` as its only operation. -/
def State.OnlyWaits (s : State) (q : Requester) (key : Nat) (w : Wait) : Prop :=
  ∃ m, s.mgmt.messages = [m] ∧ m.req = q ∧ m.waiting = w ∧ m.cur.index = key / 256 ∧ m.cur.sub = key % 256 ∧
    m.rest = [] ∧ m.done = [] ∧ m.tag = 0 ∧ m.stop = false

end Sys2Proof.Machine
end

