-- ==== Sys2Proof/Certificates/Slice0/Obligations.lean ====
section
/-! DEFINITION. Statements about the block, for the provers: the queue, every family of commands, every kind of state. -/
open Sys2Proof Sys2Proof.Machine

/-! ### Queue, reset, firmware floor -/

/-- The step takes the command at the front of the queue and runs it with the queue's rest; on an empty queue the block idles (the model's
choice, assumption 2). -/
def Obligations.StepRunsFront : Prop :=
  (∀ (c : Instr) (rest : List Instr) (s : State), s.pending = c :: rest → step s = exec c { s with pending := rest }) ∧
  (∀ s : State, s.pending = [] → step s = .next s)

/-- No step lowers `FW_SVN_MIN`, from whatever state (R491). -/
def Obligations.RollbackFloorNeverFalls : Prop :=
  ∀ (floor : Nat) (s t : State), s.KeepsFloor floor → step s = .next t → t.KeepsFloor floor

/-! ### Ring, timebase, management cores (01) -/

/-- R24: a ring link error that retrains is not a fault: both tiles record it, nothing else of the device changes but the replay counts. A ring
link that fails goes out of use at both its tiles and takes a READY device to DEGRADED; no line, port or key changes. -/
def Obligations.RingLinks : Prop :=
  (∀ (link e w : Nat) (s : State), link < s.n → s.Sized → ∃ t, exec (.ringLinkRetrain link e w) s = .next t ∧
    t.dev = s.dev ∧ t.tiles = s.tiles ∧ t.ports = s.ports ∧ t.obj = s.obj ∧ t.out = s.out ∧
    t.tileReports link Ev.RING_LINK_RETRAIN ∧ t.tileReports ((link + 1) % s.n) Ev.RING_LINK_RETRAIN) ∧
  (∀ (link : Nat) (s : State), link < s.n → s.Sized → s.dev.st = .ready → s.tileActive link = true →
    ∃ t, exec (.ringLinkDown link) s = .next t ∧
      (t.tile link).time.linkE = false ∧ (t.tile ((link + 1) % s.n)).time.linkW = false ∧ t.dev.st = .degraded ∧
      t.ports = s.ports ∧ t.keys = s.keys ∧ t.out = s.out ∧ (∀ u, (t.tile u).med = (s.tile u).med ∧ (t.tile u).res = (s.tile u).res))

/-- R18: in x8 mode the port of tile t is port t; in x16 mode the port of pair k is port 2k and port 2k + 1 is unused; the urgency pair of a
port moves that port's level only, and the urgency pins of an unused port are ignored. -/
def Obligations.PortNumbers : Prop :=
  (∀ (t : Nat) (s : State), t < s.n → s.pairX8 (t / 2) = true → s.portOfTile t = t ∧ s.portUsed t = true ∧ s.portTiles t = [t]) ∧
  (∀ (k : Nat) (s : State), 2 * k + 1 < s.n → s.pairX8 k = false →
    s.portOfTile (2 * k) = 2 * k ∧ s.portOfTile (2 * k + 1) = 2 * k ∧ s.portTiles (2 * k) = [2 * k, 2 * k + 1] ∧
    s.portUsed (2 * k) = true ∧ s.portUsed (2 * k + 1) = false) ∧
  (∀ (port level : Nat) (s : State), s.portUsed port = true → ∃ u, exec (.urgencySample port level) s = .next u ∧
    (∀ q, q ≠ port → u.port q = s.port q) ∧
    (s.Sized → (u.port port).urgSample = level % 4 ∧
      ((s.port port).urgSample = level % 4 → (u.port port).urg = level % 4))) ∧
  (∀ (port level : Nat) (s : State), s.portUsed port = false → exec (.urgencySample port level) s = .next s)

/-- R32 to R34: a marker aligns every tile that is not FENCED and not in holdover and steps no timebase backwards; 64 µs without a reference or a
marker take a tile into holdover; a tile within 4 ticks of the master's count leaves it. When the master loses its reference the other of tiles 0
and 1 becomes master if its own reference is present, else none; a returned reference makes a tile master; no timebase moves. The model asks that
the new master is ACTIVE (assumption 17). -/
def Obligations.Timebases : Prop :=
  (∀ (m : Nat) (s : State), s.master = some m → s.Sized → ∃ t, exec .alignmentMarker s = .next t ∧
    t.now m = s.now m ∧ (∀ u, s.now u ≤ t.now u) ∧
    (∀ u < s.n, u ≠ m → (s.tile u).fence.st ≠ .fenced → (s.tile u).time.holdover = false → t.now u = max (s.now u) (s.now m)) ∧
    (∀ u < s.n, (s.tile u).time.holdover = true → t.now u ≤ s.now u + 1)) ∧
  (∀ (u : Nat) (s : State), u < s.n → s.Sized → (s.tile u).time.lastSync + 64000 ≤ s.now u → (u < 2 → s.refOf u = false) →
    (s.tile u).time.holdover = false → ∃ t, exec (.timebaseHoldover u) s = .next t ∧
      (t.tile u).time.holdover = true ∧ t.now u = s.now u ∧ t.tileReports u Ev.TIMEBASE_HOLDOVER) ∧
  (∀ (u m : Nat) (s : State), s.master = some m → u < s.n → s.Sized → (s.tile u).time.holdover = true →
    s.now u < (s.tile u).time.lastSync + 64000 → s.now u ≤ s.now m → s.now m ≤ s.now u + 4 →
    ∃ t, exec (.timebaseRealigned u) s = .next t ∧ (t.tile u).time.holdover = false ∧ t.now u = s.now m ∧
      t.tileReports u Ev.TIMEBASE_REALIGNED) ∧
  (∀ s : State, s.part ≠ .a2 → s.master = some 0 → s.Sized → ∃ t, exec (.refclkLost 0) s = .next t ∧ t.refK0 = false ∧
    t.master = (if s.refK1 = true ∧ s.tileActive 1 = true then some 1 else none) ∧ (∀ u, t.now u = s.now u) ∧
    t.pkgReports Ev.TIMEBASE_MASTER_MOVED) ∧
  (∀ (m : Nat) (s : State), s.part = .a2 → s.master = some m → s.Sized → ∃ t, exec (.refclkLost 0) s = .next t ∧
    t.master = none ∧ (∀ u, t.now u = s.now u)) ∧
  (∀ (u : Nat) (s : State), u < 2 → s.master = none → s.tileActive u = true → s.Sized → ∃ t, exec (.refclkLocked u) s = .next t ∧
    t.master = some u ∧ (t.tile u).time.holdover = false ∧ (∀ v, t.now v = s.now v) ∧ t.pkgReports Ev.TIMEBASE_MASTER_MOVED)

/-- R38, R40, R518: the standby core takes over, with sessions and staged sets lost, or no core is active; losing the standby changes no
device state; a standby that is synchronised again clears the condition. -/
def Obligations.CoreRoles : Prop :=
  (∀ (a : Nat) (s : State), s.mgmt.active = some a → s.Sized → ∃ t, exec .coreTakeover s = .next t ∧
    t.mgmt.active = (if s.tileActive (1 - a) = true ∧ 1 - a ∉ s.mgmt.coreFailed then some (1 - a) else none) ∧
    (t.mgmt.active = some (1 - a) → t.mgmt.sessions = [] ∧ t.mgmt.sets = [] ∧ t.cell Ob.ACTIVE_CORE_TILE 0 = 1 - a ∧
      t.pkgReports Ev.CORE_TAKEOVER) ∧ t.dev = s.dev) ∧
  (∀ (a : Nat) (fails : Bool) (s : State), s.mgmt.active = some a → s.mgmt.standbySync = true → s.Sized →
    ∃ t, exec (.standbyLost fails) s = .next t ∧ t.mgmt.active = some a ∧ t.mgmt.standbySync = false ∧ t.mgmt.standbyLost = true ∧
      t.dev = s.dev ∧ t.pkgReports Ev.STANDBY_LOST) ∧
  (∀ (a : Nat) (s : State), s.mgmt.active = some a → s.tileActive (1 - a) = true → ∃ t, exec .standbyResynchronised s = .next t ∧
    t.mgmt.active = some a ∧ t.mgmt.standbySync = true ∧ t.mgmt.standbyLost = false ∧ t.dev = s.dev)

/-! ### Host requests and the read path (04, 05, 13) -/

/-- R55, R104, R105, R362, R364: a read of a line whose segment is FRESH answers 64 zero bytes; a read of a resident line answers the entry's
plaintext; neither changes the medium or the map. A speculative read has no effect. -/
def Obligations.HostReadsAnswer : Prop :=
  (∀ (port id tag hpa pred : Nat) (s : State) (r : Req) (t : Nat), s.Sized →
    s.Admits { port := port, id := id, tag := tag, hpa := hpa, write := false, mask := fullMask, data := 0, poison := false } r t →
    t = r.tile → (s.tile t).res.find r.lla t = none → s.rootLost t r.part = false → ((s.tile t).map.entry (lsegOf r.lla)).st = .fresh →
    ∃ u, exec (.memRd port id tag hpa pred) s = .next u ∧ s.Answers u r true 0 false ∧ s.SameMedium u) ∧
  (∀ (port id tag hpa pred : Nat) (s : State) (r : Req) (t : Nat) (e : Entry), s.Sized →
    s.Admits { port := port, id := id, tag := tag, hpa := hpa, write := false, mask := fullMask, data := 0, poison := false } r t →
    (s.tile t).res.find r.lla r.tile = some e → e.st ≠ .incomplete →
    ∃ u, exec (.memRd port id tag hpa pred) s = .next u ∧ s.SameMedium u ∧
      (if e.poisoned || (s.tile r.tile).isLost r.lla then s.Answers u r true 0 true
       else s.Answers u r true (s.entryPlain r.tile e r.kx) false)) ∧
  (∀ (port id tag hpa : Nat) (s : State), exec (.memSpecRd port id tag hpa) s = .next s)

/-- R126, R133, R135, R362: a full-line write that finds no entry makes a DIRTY entry with its data, under its key index, and is
completed; a partial write to a DIRTY entry under the same key index replaces its enabled bytes and no others, and is completed. -/
def Obligations.HostWritesMerge : Prop :=
  (∀ (port id tag hpa : Nat) (data : Line) (s : State) (r : Req) (t : Nat), s.Sized →
    s.Admits { port := port, id := id, tag := tag, hpa := hpa, write := true, mask := fullMask, data := data, poison := false } r t →
    t = r.tile → (s.tile t).res.find r.lla t = none → (s.tile t).isLost r.lla = false → s.rootLost t r.part = false →
    (s.partn r.part).spanned = false → (s.mirrorOf t < s.n → (s.tile (s.mirrorOf t)).fence.st ≠ .fencing) →
    ∃ u, exec (.memWr port id tag hpa data false) s = .next u ∧ s.Answers u r false 0 false ∧ s.SameMedium u ∧
      ∃ e, (u.tile t).res.find r.lla t = some e ∧ e.st = .dirty ∧ e.data = data ∧ e.mask = fullMask ∧ e.kx = r.kx) ∧
  (∀ (port id tag hpa pred : Nat) (mask : ByteMask) (data : Line) (s : State) (r : Req) (t : Nat) (e : Entry), s.Sized →
    s.Admits { port := port, id := id, tag := tag, hpa := hpa, write := true, mask := mask, data := data, poison := false } r t →
    t = r.tile → (s.tile t).res.find r.lla t = some e → e.st = .dirty → e.kx = r.kx → (s.tile t).isLost r.lla = false →
    s.rootLost t r.part = false → (s.partn r.part).spanned = false →
    ∃ u, exec (.memWrPtl port id tag hpa mask data false pred) s = .next u ∧ s.Answers u r false 0 false ∧ s.SameMedium u ∧
      ∃ f, (u.tile t).res.find r.lla t = some f ∧ f.id = e.id ∧ f.st = .dirty ∧
        f.data = mergeBytes mask data (s.entryPlain t e r.kx))

/-- R126, R157, R160: the data of a completed full-line write is what the next read of the line answers. -/
def Obligations.ReadReturnsTheWrite : Prop :=
  ∀ (port id tag tag2 hpa pred : Nat) (data : Line) (s u : State) (r r2 : Req) (t : Nat), s.Sized →
    s.Admits { port := port, id := id, tag := tag, hpa := hpa, write := true, mask := fullMask, data := data, poison := false } r t →
    t = r.tile → (s.tile t).res.find r.lla t = none → (s.tile t).isLost r.lla = false → s.rootLost t r.part = false →
    (s.partn r.part).spanned = false → (s.mirrorOf t < s.n → (s.tile (s.mirrorOf t)).fence.st ≠ .fencing) →
    exec (.memWr port id tag hpa data false) s = .next u →
    u.Admits { port := port, id := id, tag := tag2, hpa := hpa, write := false, mask := fullMask, data := 0, poison := false } r2 t →
    ∃ v, exec (.memRd port id tag2 hpa pred) u = .next v ∧ u.Answers v r2 true data false

/-- R50, R273, R274, R362: a request to an address that no LD covers is a violation, with cause 2 and no DPA in `LAST_VIOLATION`: a read
answers poison, a write is completed and changes no line. A request with an opcode that the device does not support is a violation with
cause 7. A MemInv is completed. None of them changes a line. -/
def Obligations.RefusedRequests : Prop :=
  (∀ (port id tag hpa pred q : Nat) (s : State), s.memPort port = true → s.routeHpa port id hpa = .violation 2 noDpa q →
    ∃ u load ld, exec (.memRd port id tag hpa pred) s = .next u ∧ u.out = s.out ++ [Response.mem port ld tag true 0 true load] ∧
      u.cell Ob.LAST_VIOLATION 0 % 256 = 2 ∧ u.cell Ob.LAST_VIOLATION 0 / 2 ^ 20 % 2 ^ 44 = 2 ^ 44 - 1 ∧
      (∀ v, (u.tile v).res = (s.tile v).res) ∧ s.SameMedium u) ∧
  (∀ (port id tag hpa q : Nat) (data : Line) (poison : Bool) (s : State), s.memPort port = true →
    s.routeHpa port id hpa = .violation 2 noDpa q →
    ∃ u load ld, exec (.memWr port id tag hpa data poison) s = .next u ∧ u.out = s.out ++ [Response.mem port ld tag false 0 false load] ∧
      u.cell Ob.LAST_VIOLATION 0 % 256 = 2 ∧ (∀ v, (u.tile v).res = (s.tile v).res) ∧ s.SameMedium u) ∧
  (∀ (port id tag hpa : Nat) (expectsData : Bool) (s : State), s.memPort port = true →
    ∃ u load ld, exec (.memUndefinedOpcode port id tag hpa expectsData) s = .next u ∧
      u.out = s.out ++ [Response.mem port ld tag expectsData 0 expectsData load] ∧
      u.cell Ob.LAST_VIOLATION 0 % 256 = 7 ∧ (∀ v, (u.tile v).res = (s.tile v).res) ∧ s.SameMedium u) ∧
  (∀ (port id tag : Nat) (s : State), s.memPort port = true →
    ∃ u load ld, exec (.memInv port id tag) s = .next u ∧ u.out = s.out ++ [Response.mem port ld tag false 0 false load] ∧
      u.tiles = s.tiles ∧ u.obj = s.obj)

/-- R75, R84, R85, R111, R114: a host read is answered with the DATA that its line's codeword decodes to, clean or corrected; with the XOR of
the eight other members when its read-around is complete; with the XOR of the eight other members when its own codeword was ERASED and they
all decode; with the DATA of the second try when its one ERASED codeword decodes then. -/
def Obligations.HostReadDelivery : Prop :=
  (∀ (t rd : Nat) (err : Codeword) (s : State) (r : Rd) (q : Sense) (d : Line), s.HostRead t rd r →
    (s.tile t).rd.senses.find? (fun z => decide (z.rd = rd ∧ z.pos = r.pos ∧ z.at_ = .service)) = some q → q.asMember = false →
    (let key := memberKey (lsegOf r.lla) (stripeOfLine (lineIndexOf r.lla)) r.stripe r.pos
     let dec := decodeLine key ((s.tile t).codeword q.slot key ^^^ err)
     dec = .clean d ∨ dec = .corrected d) →
    ∃ u, exec (.mediumReadDone t rd r.pos err false) s = .next u ∧ s.Answers u r.req true (s.plainOf r d) false) ∧
  (∀ (t rd : Nat) (s : State) (r : Rd), s.HostRead t rd r → r.around = true → r.phase = .gathered →
    ∃ u, exec (.readAroundDone t rd) s = .next u ∧ s.Answers u r.req true (s.plainOf r r.acc) false ∧ s.SameMedium u) ∧
  (∀ (t rd : Nat) (errs : List Codeword) (s : State) (r : Rd) (c : Copy), s.HostRead t rd r → r.phase = .erased → r.erased = [r.pos] →
    s.copyOfRd t r = some c →
    (let ds := s.decodeMembers t r c (((List.range 9).filter (fun j => decide (j ≠ r.pos))).map (fun j => (j, errs.getD j 0)))
     (∀ d ∈ ds, d.2.isSome) →
     ∃ u, exec (.lineRebuilt t rd errs) s = .next u ∧
       s.Answers u r.req true (s.plainOf r (xorLines (ds.filterMap (fun d => d.2)))) false ∧ u.tileReports t Ev.LINE_REBUILT)) ∧
  (∀ (t rd : Nat) (errs : List Codeword) (s : State) (r : Rd) (c : Copy) (d : Line), s.HostRead t rd r → r.phase = .retry →
    r.erased = [r.pos] → r.kept.find? (fun k => decide (k.1 = r.pos)) = none → s.copyOfRd t r = some c →
    s.decodeMembers t r c [(r.pos, errs.getD r.pos 0)] = [(r.pos, some d)] →
    ∃ u, exec (.erasureRetry t rd errs) s = .next u ∧ s.Answers u r.req true (s.plainOf r d) false ∧ u.tileReports t Ev.ERASURE_RETRY)

/-- R108, R112, R125: a lift releases the bank of its stroke, which goes on later; a freed position goes to the first waiting read when its
bank is idle; a bank whose waiting positions stay occupied is recorded. No entry of the reservoir changes. -/
def Obligations.BankPositions : Prop :=
  (∀ (t stroke : Nat) (s : State) (k : Stroke), t < s.tiles.length →
    (s.tile t).res.strokes.find? (fun k => k.running && decide (k.id = stroke)) = some k →
    (s.tile t).reading (bankOf k.slot) = false → (s.tile t).sensesAt (bankOf k.slot) .member ≠ [] →
    ∃ u, exec (.strokeLift t stroke) s = .next u ∧ (∀ c ∈ (u.tile t).res.strokes, c.id = stroke → c.lifted = true) ∧
      (u.tile t).reading (bankOf k.slot) = true ∧ (u.tile t).res.entries = (s.tile t).res.entries ∧ s.SameMedium u) ∧
  (∀ (t pred : Nat) (s : State) (r : Rd) (q : Sense) (rest : List Sense), t < s.tiles.length → (s.tile t).waitingReads = q :: rest →
    (s.tile t).rd.byId q.rd = some r → s.chooseRow t q.slot pred (s.membersOf t r) r.internal = 1 →
    ∃ u, exec (.nibPositionFreed t pred) s = .next u ∧
      (∃ z ∈ (u.tile t).rd.senses, z.rd = q.rd ∧ z.pos = r.pos ∧ z.slot = r.slot ∧ z.at_ = .service) ∧
      (u.tile t).res = (s.tile t).res ∧ s.SameMedium u) ∧
  (∀ (t die bank : Nat) (s : State), t < s.n → s.Sized → die < 16 → bank < 32 → (s.tile t).memberFree (die * 32 + bank) = false →
    (s.tile t).directFree (die * 32 + bank) = false →
    ∃ u, exec (.hotBank t die bank) s = .next u ∧ u.tileReports t Ev.HOT_BANK ∧ u.tiles = s.tiles ∧ u.out = s.out)

/-- R136: a fetch fills the bytes of its PARTIAL line that no write has changed; the line is DIRTY and whole. -/
def Obligations.FetchFillsPartial : Prop :=
  ∀ (t rd : Nat) (s : State) (r : Rd) (e : Entry), t < s.tiles.length → (s.tile t).rd.byId rd = some r → r.why = .fetch →
    r.phase = .decoded → r.lost = false → (s.tile t).res.byId r.link = some e → e.st = .incomplete →
    (s.tile t).res.pwaits.all (fun w => decide (w.entry ≠ r.link)) = true →
    ∃ u f, exec (.fetchDone t rd) s = .next u ∧ (u.tile t).res.byId r.link = some f ∧ f.st = .dirty ∧ f.mask = fullMask ∧
      f.data = mergeBytes e.mask e.data r.acc ∧ u.out = s.out ∧ s.SameMedium u

/-! ### The write path (05, 10) -/

/-- R129, R133, R250: a mirror message puts the bytes of its write into the MIRROR entry of its line at the mirror tile; its acknowledgement
completes the write; a release message removes the MIRROR entry. -/
def Obligations.MirrorMessages : Prop :=
  (∀ (t : Nat) (s : State) (r : Req) (rest : List Req), t < s.n → s.Sized → (s.tile t).res.mirrorOut = r :: rest → r.write = true →
    s.mirrorOf t < s.n → s.mirrorOf t ≠ t → (s.tile (s.mirrorOf t)).fence.st ≠ .fencing → (s.tile t).fence.remirror = false →
    ∃ u e old, exec (.mirrorMessage t) s = .next u ∧ (u.tile t).res.mirrorOut = rest ∧ e ∈ (u.tile (s.mirrorOf t)).res.entries ∧
      e.addr = r.lla ∧ e.owner = r.tile ∧ e.st = .mirror ∧ e.kx = r.kx ∧ e.data = mergeBytes r.mask r.data old ∧
      u.out = s.out ∧ s.SameMedium u) ∧
  (∀ (t : Nat) (s : State) (r : Req) (rest : List Req), t < s.n → s.Sized → (s.tile t).res.cmpWait = r :: rest → r.iface = .cxl →
    (s.port r.port).up = true → (s.tile t).res.unmirrored < (s.tile t).res.cmpWait.length →
    ∃ u, exec (.mirrorAck t) s = .next u ∧ (u.tile t).res.cmpWait = rest ∧ s.Answers u r false 0 false ∧
      (u.tile t).res.accLog.head? = some { port := r.port, ld := r.ld, tag := r.tag } ∧ s.SameMedium u) ∧
  (∀ (t : Nat) (s : State) (r : Req) (rest : List Req), t < s.n → s.Sized → (s.tile t).res.mirrorOut = r :: rest → r.write = false →
    s.mirrorOf t < s.n → (s.tile (s.mirrorOf t)).fence.st ≠ .fencing → (s.tile t).fence.remirror = false →
    ∃ u, exec (.mirrorRelease t) s = .next u ∧ (u.tile t).res.mirrorOut = rest ∧
      (∀ e ∈ (u.tile (s.mirrorOf t)).res.entries, ¬(e.addr = r.lla ∧ e.owner = t ∧ e.st = .mirror)) ∧ u.out = s.out ∧ s.SameMedium u)

/-- R138, R139: the eviction of a data line places a hold on its slot and on its stripe's parity slot and changes no entry; at its point a
plain line goes IN-FLIGHT, and the codeword of its encrypted data and the parity of its stripe wait to be stroked. -/
def Obligations.EvictionOfALine : Prop :=
  (∀ (t slice pred : Nat) (s : State) (e : Entry) (c : Copy), t < s.n → s.Sized → s.evictChoice t slice = some e → e.owner = t →
    e.kind = .data → (s.tile t).map.copyFor (lsegOf e.addr) (stripeOfLine (lineIndexOf e.addr)) = some c →
    ∃ u, exec (.evictionStart t slice pred) s = .next u ∧ (u.tile t).res.entries = (s.tile t).res.entries ∧
      (u.tile t).med.slots = (s.tile t).med.slots ∧ u.out = s.out ∧
      ∃ v ∈ (u.tile t).res.evicts, v.addr = e.addr ∧ v.owner = t ∧ v.formed = false ∧ v.stripe = c.stripe (stripeOfLine (lineIndexOf e.addr)) ∧
        (u.tile t).slotHeld v.dslot = true ∧ (u.tile t).slotHeld v.pslot = true) ∧
  (∀ (t id : Nat) (s : State) (v : Evict) (e : Entry) (c : Copy), t < s.n → s.Sized → s.NoneDone t →
    (s.tile t).res.evicts.find? (fun e => decide (e.id = id) && !e.formed) = some v → v.owner = t →
    (s.tile t).res.entries.find? (fun e => decide (e.addr = v.addr ∧ e.owner = t ∧ e.st = .dirty)) = some e →
    s.oldsReady t v = true → (s.tile t).res.inflightIn ((s.tile t).res.sliceOf .data v.addr) ≤ 254 → e.poisoned = false → e.kind = .data →
    (s.partn e.part).isSealed = false → (s.tile t).map.copyFor (lsegOf v.addr) (stripeOfLine (lineIndexOf v.addr)) = some c →
    (s.tile t).med.failedDies = [] → (s.tile t).med.failedBanks = [] →
    ∃ u, exec (.evictionPoint t id) s = .next u ∧ (u.tile t).med.slots = (s.tile t).med.slots ∧
      (∃ f ∈ (u.tile t).res.entries, f.id = e.id ∧ f.addr = v.addr ∧ f.st = .inflight) ∧
      (∃ k ∈ (u.tile t).res.strokes, k.addr = v.addr ∧ k.parity = false ∧
        k.word = encodeLine (dataKey v.addr) (if e.blank then 0 else s.encrypt e.part e.kx e.dpa e.data)) ∧
      (∃ k ∈ (u.tile t).res.strokes, k.addr = c.stripe (stripeOfLine (lineIndexOf v.addr)) ∧ k.parity = true))

/-- R140, R93, R94: a stroke that may start runs; one that verifies leaves its codeword in its slot and is done; one that fails verify is
redirected to a free spare line of its bank, its slot keeping what it held. -/
def Obligations.Strokes : Prop :=
  (∀ (t id : Nat) (s : State) (k : Stroke), t < s.n → s.Sized → (s.tile t).res.strokes.find? (fun k => decide (k.id = id)) = some k →
    s.canStart t k = true → (s.tile t).res.strokes.all (fun q => decide (k.priority ≤ q.priority) || !s.canStart t q) = true →
    ∃ u, exec (.strokeStart t id) s = .next u ∧ (u.tile t).med.slots = (s.tile t).med.slots ∧
      (u.tile t).med.strokes = (s.tile t).med.strokes + 1 ∧ u.out = s.out ∧
      ∃ q ∈ (u.tile t).res.strokes, q.id = id ∧ q.running = true ∧ q.startedAt = s.now t ∧ q.word = k.word) ∧
  (∀ (t id : Nat) (s : State) (k : Stroke), t < s.n → s.Sized →
    (s.tile t).res.strokes.find? (fun k => decide (k.id = id) && k.running) = some k →
    ∃ u, exec (.strokeVerified t id) s = .next u ∧ (u.tile t).med.slots.find k.slot = some (s.strokeWord t k) ∧
      (∀ a, a ≠ k.slot → (u.tile t).med.slots.find a = (s.tile t).med.slots.find a) ∧ (∀ q ∈ (u.tile t).res.strokes, q.id ≠ id)) ∧
  (∀ (t id j i : Nat) (s : State) (k : Stroke), t < s.n → s.Sized →
    (s.tile t).res.strokes.find? (fun k => decide (k.id = id) && k.running) = some k → k.masked = false → isSpare k.slot = false →
    (s.tile t).slotFailed k.slot = false → ((s.tile t).med.failHist.getD (bankOf k.slot) []).length < 7 →
    (s.tile t).med.freeSpare (slotDie k.slot) (slotBank k.slot) = some j → (s.tile t).med.freeRemap (slotDie k.slot) = some i →
    ∃ u, exec (.strokeVerifyFail t id false) s = .next u ∧ (u.tile t).med.slots = (s.tile t).med.slots ∧ u.tileReports t Ev.REMAP_ALLOCATED ∧
      (∃ x, (u.tile t).med.remap.find i = some x ∧ x.bank = slotBank k.slot ∧ x.slot = slotLine k.slot ∧ x.spare = j) ∧
      ∃ q ∈ (u.tile t).res.strokes, q.id = id ∧ q.running = false ∧ q.word = k.word ∧
        q.slot = spareSlot (slotDie k.slot) (slotBank k.slot) j)

/-- R183, R189, R197: the binding of a FRESH logical segment takes a blanked free segment, writes its headers and enters it in the map; no
other logical segment's entry changes, no line changes. -/
def Obligations.BindingTakesAFreeSegment : Prop :=
  ∀ (t lseg p q : Nat) (s : State), t < s.n → s.Sized → ((s.tile t).map.entry lseg).st = .fresh →
    (s.tile t).res.entries.any (fun e => decide (e.owner = t ∧ e.st = .dirty ∧ lsegOf e.addr = lseg)) = true →
    s.partOfSeg t lseg = some p → (s.tile t).map.pickFree true = some q →
    ∃ u, exec (.binding t lseg) s = .next u ∧ ((u.tile t).map.entry lseg).st = .bound ∧ ((u.tile t).map.entry lseg).pseg = q ∧
      ((u.tile t).map.seg q).cond = .bound ∧ ((u.tile t).med.header q 0).lseg = lseg ∧ ((u.tile t).med.header q 0).partition = p ∧
      ((u.tile t).med.header q 1).lseg = lseg ∧ (∀ l, l ≠ lseg → (u.tile t).map.entry l = (s.tile t).map.entry l) ∧
      (u.tile t).med.slots = (s.tile t).med.slots ∧ (u.tile t).res.entries = (s.tile t).res.entries

/-- R153, R148, R302, R303: a Global Persistent Flush lists the lines that every ACTIVE tile has to evict; a corrected reservoir error is
counted and recorded, and drops nothing; an uncorrectable error of a CLEAN entry drops that entry only; a resent address shadow stands at the
mirror tile. -/
def Obligations.ReservoirUpkeep : Prop :=
  (∀ s : State, s.inService = true → s.Sized → ∃ u, exec .gpfPhase2 s = .next u ∧ u.dev = s.dev ∧ u.out = s.out ∧
    ∀ t < s.n, (u.tile t).res.entries = (s.tile t).res.entries ∧
      (s.tileActive t = true → (u.tile t).res.gpf = (s.tile t).res.gpfList)) ∧
  (∀ (t sl set : Nat) (s : State), t < s.n → s.Sized → ∃ u, exec (.resEccError t (.corrected sl set)) s = .next u ∧
    u.tileReports t Ev.RES_ECC_CORRECTED ∧ (u.cell (Ob.inst Ob.RES_ECC_STATUS t) 0).testBit 0 = true ∧
    u.cell (Ob.inst Ob.RES_ECC_CORR_COUNT t) 0 = (s.cell (Ob.inst Ob.RES_ECC_CORR_COUNT t) 0 + 1) % 65536 ∧ u.tiles = s.tiles) ∧
  (∀ (t id : Nat) (s : State) (e : Entry), t < s.n → s.Sized → (s.tile t).res.byId id = some e → e.st = .clean →
    ∃ u, exec (.resEccError t (.entry id)) s = .next u ∧ (u.tile t).res.byId id = none ∧
      (∀ f ∈ (s.tile t).res.entries, f.id ≠ id → f ∈ (u.tile t).res.entries) ∧ s.SameMedium u ∧ u.out = s.out) ∧
  (∀ (t : Nat) (s : State), t < s.n → s.Sized → s.mirrorOf t < s.n → s.tileActive t = true → s.tileActive (s.mirrorOf t) = true →
    (s.tile t).fence.remirror = false → ∃ u, exec (.shadowResent t) s = .next u ∧
      (∀ e ∈ s.ownShadow t, e ∈ (u.tile (s.mirrorOf t)).res.shadow) ∧ u.tileReports (s.mirrorOf t) Ev.SHADOW_RESENT ∧ s.SameMedium u)

/-! ### Translation (07) -/

/-- R191, R192: a rotation move copies the codeword of the member at its source into the gap slot and raises MOVES by one; no other slot and
no map entry changes. -/
def Obligations.RotationMoveFillsTheGap : Prop :=
  ∀ (t lseg k pos : Nat) (s : State), t < s.n → s.Sized → s.dev.st ≠ .drain → lseg ∈ (s.tile t).map.movesDue →
    ((s.tile t).map.entry lseg).st = .bound →
    let e := (s.tile t).map.entry lseg
    let moves := ((s.tile t).map.seg e.pseg).moves
    let c : Copy := { pseg := e.pseg, omega := e.omega, moves := moves }
    let v := moveSpec moves
    let st := stripeOfRank e.pseg (144 * ((v.ring + 8 - e.omega) % 8) + k) v.die
    let S := c.stripe st
    let dest := (s.tile t).finalSlot (slotOfIndex v.die (ringSlotIndex e.pseg v.die (145 * v.ring + v.dest)))
    indexAtPos (ringMoves moves (ringNumber v.ring v.die)) v.source = some k →
    (List.range 9).find? (fun j => decide (dieOfPos S j = v.die)) = some pos →
    (s.tile t).memberImage lseg st S pos = none →
    S ∉ (s.tile t).res.opens → (∀ q ∈ (s.tile t).res.evicts, q.formed = false) → (s.tile t).slotFailed dest = false →
    ∃ u, exec (.rotationMove t lseg 0) s = .next u ∧
      (u.tile t).med.slots.find dest = some ((s.tile t).memberWord lseg st pos c (memberKey lseg st S pos)) ∧
      (∀ a, a ≠ dest → (u.tile t).med.slots.find a = (s.tile t).med.slots.find a) ∧
      ((u.tile t).map.seg e.pseg).moves = moves + 1 ∧ (u.tile t).map.map = (s.tile t).map.map

/-- R195, R221: blanking makes a free segment blanked: none of its slots holds a stroked codeword any more and both its headers say RELEASED
and BLANKED. R198: the firmware's wear threshold of a tile follows the mean MOVES of its segments. -/
def Obligations.BlankingAndWear : Prop :=
  (∀ (t p : Nat) (g : Seg) (s : State), t < s.n → s.Sized → s.dev.st ≠ .drain → (s.tile t).med.hdr.wf = true → (s.tile t).map.segs.wf = true →
    minBy (fun x => x.2.moves) ((s.tile t).map.segs.filter (fun x => decide (x.2.cond = .free) && !x.2.blanked)) = some (p, g) →
    ∃ u, exec (.blanking t) s = .next u ∧ ((u.tile t).map.seg p).blanked = true ∧
      (∀ x ∈ (u.tile t).med.slots, x ∈ (s.tile t).med.slots ∧ (s.tile t).med.segOf x.1 ≠ some p) ∧
      (∀ c, c < 2 → ((u.tile t).med.header p c).state = 2 ∧ ((u.tile t).med.header p c).blanked = true ∧
        ((u.tile t).med.header p c).lastRefresh = (s.tile t).pat.drift)) ∧
  (∀ s : State, s.mgmt.active ≠ none → s.Sized → ∃ u, exec .wearThresholdUpdate s = .next u ∧ u.dev = s.dev ∧ ∀ t < s.n,
    (u.tile t).map.wearThreshold = s.cell Ob.WEAR_MIGRATE_PCT 125 * (s.tile t).map.meanMoves.1 / (100 * max 1 (s.tile t).map.meanMoves.2)
      + 1048576 ∧ (u.tile t).map.map = (s.tile t).map.map)

/-- R199 to R202: a migration opens the free segment with the least MOVES as its target and marks the logical segment MIGRATING; a copied
stripe advances its pointer; when every stripe is copied the map entry names the target and the source is free, or retired when it failed. -/
def Obligations.Migrations : Prop :=
  (∀ (t b : Nat) (g : MigTrigger) (s : State), t < s.n → s.Sized → s.tileActive t = true → s.mgmt.active ≠ none → s.dev.st ≠ .drain →
    (s.tile t).map.migs.length < s.migrateMax → 0 < s.spares t → (s.tile t).map.nextTrigger = some g →
    (s.tile t).map.pickFree false = some b →
    ∃ u, exec (.migrationStarted t) s = .next u ∧ ((u.tile t).map.entry g.lseg).st = .migrating ∧
      ((u.tile t).map.entry g.lseg).pseg = ((s.tile t).map.entry g.lseg).pseg ∧ ((u.tile t).map.seg b).cond = .target ∧
      (∃ q ∈ (u.tile t).map.migs, q.lseg = g.lseg ∧ q.target = b ∧ q.ptr = 0 ∧ q.source = ((s.tile t).map.entry g.lseg).pseg) ∧
      (∀ q ∈ (u.tile t).map.triggers, q.lseg ≠ g.lseg)) ∧
  (∀ (t lseg : Nat) (g : Migration) (s : State), t < s.n → s.Sized → s.dev.st ≠ .drain →
    (s.tile t).map.migs.find? (fun g => decide (g.lseg = lseg)) = some g → g.step = 2 → g.ptr < segStripes →
    ∃ u, exec (.migrationStripeCopy t lseg 0) s = .next u ∧
      (u.tile t).map.migs = (s.tile t).map.migs.map (fun q => if q.lseg = lseg then { q with ptr := q.ptr + 1 } else q) ∧
      (u.tile t).map.map = (s.tile t).map.map) ∧
  (∀ (t lseg : Nat) (g : Migration) (s : State), t < s.n → s.Sized → (s.tile t).map.migs.find? (fun g => decide (g.lseg = lseg)) = some g →
    g.ptr = segStripes → g.source ≠ g.target → (s.tile t).segBusy t lseg = false →
    ∃ u, exec (.migrationDone t lseg) s = .next u ∧
      (u.tile t).map.entry lseg = { st := .bound, pseg := g.target, writes := 0, omega := g.tomega } ∧
      ((u.tile t).map.seg g.target).cond = .bound ∧
      ((u.tile t).map.seg g.source).cond = (if g.reason = 2 ∨ g.reason = 5 then .retired else .free) ∧
      ((u.tile t).med.header g.target 0).state = 1 ∧ (u.tile t).med.slots = (s.tile t).med.slots)

/-- R209: the evacuation of a failed bank strokes the codeword of the member that stands in its next slot into the donor slot that substitutes
it, and goes on by one slot. -/
def Obligations.EvacuationStep : Prop :=
  ∀ (t lseg st pos : Nat) (c : Copy) (e : Evac) (s : State), t < s.n → s.Sized → s.dev.st ≠ .drain →
    (s.tile t).map.evacs.find? (fun e => !e.complete) = some e →
    let a := slotAddr (e.bank / 32) (e.bank % 32) e.ptr
    let sub := donorSlot (e.donors.getD (e.ptr / 1120) 0) (e.bank / 32) (e.bank % 32) (e.ptr % 1120)
    (s.tile t).memberAt a = some (lseg, st, pos, c) → (s.tile t).slotFailed sub = false →
    ∃ u, exec (.evacuationSlot t 0) s = .next u ∧
      (u.tile t).med.slots.find sub = some ((s.tile t).memberWord lseg st pos c (memberKey lseg st (c.stripe st) pos)) ∧
      (∀ b, b ≠ sub → (u.tile t).med.slots.find b = (s.tile t).med.slots.find b) ∧
      (u.tile t).map.evacs = (s.tile t).map.evacs.map (fun q => if q.bank = e.bank then { q with ptr := q.ptr + 1 } else q)

/-! ### Patrol and drift (08) -/

/-- R229 to R231: a visit of a bound segment that reads a member cleanly queues a refresh stroke of the same codeword and goes on to the next
member; the end of a visit rewrites both headers with the drift clock at its start. -/
def Obligations.PatrolVisits : Prop :=
  (∀ (t p : Nat) (d : Line) (s : State), t < s.n → s.Sized → s.dev.st ≠ .drain → (s.tile t).res.refreshQueue < 4096 →
    (s.tile t).pat.visit = some p → (s.tile t).pat.nextStripe < segStripes → ((s.tile t).map.seg p).cond = .bound →
    let x := s.tile t
    let g := x.map.seg p
    let c : Copy := { pseg := p, omega := g.omega, moves := g.moves }
    let st := x.pat.nextStripe
    let pos := x.pat.nextMember
    let key := memberKey g.lseg st (c.stripe st) pos
    let slot := x.finalSlot (c.slot st pos)
    x.memberBusy g.lseg st pos c = false → x.slotFailed slot = false → decodeLine key (x.codeword slot key) = .clean d →
    ∃ u, exec (.patrolVisitMember t 0 0) s = .next u ∧ (u.tile t).pat.nextStripe = x.pat.step.nextStripe ∧
      (u.tile t).pat.nextMember = x.pat.step.nextMember ∧ (u.tile t).pat.visit = some p ∧ (u.tile t).med.slots = x.med.slots ∧
      ∃ k ∈ (u.tile t).res.strokes, k.kind = .refresh ∧ k.slot = slot ∧ k.word = encodeLine key d) ∧
  (∀ (t p : Nat) (bad0 bad1 : Bool) (s : State), t < s.n → s.Sized → s.dev.st ≠ .drain → (s.tile t).pat.visit = some p →
    segStripes ≤ (s.tile t).pat.nextStripe → (s.tile t).res.refreshes = [] → (s.tile t).med.hdr.wf = true →
    ∃ u, exec (.patrolVisitEnd t bad0 bad1) s = .next u ∧ (u.tile t).pat.visit = none ∧
      (∀ c, c < 2 → ((u.tile t).med.header p c).lastRefresh = (s.tile t).pat.d0 ∧
        ((u.tile t).med.header p c).moves = ((s.tile t).map.seg p).moves) ∧
      (u.tile t).med.slots = (s.tile t).med.slots ∧ (bad0 = true → u.tileReports t Ev.HEADER_REWRITTEN))

/-- R39, R219, R220, R228, R231, R235, R237, R239, R246: near the interval the patrol's strokes move to host write-back priority; at the
interval the segment is overdue and a READY device is DEGRADED; the end of an accelerated patrol is recorded; a segment whose age is lost is visited
first. The drift clock goes into its slot ring; the pace of every tile visits each of its segments in time, the 6 h rate while no core is active; a
tile keeps the readings of its dies; a finished pass leaves its summary. -/
def Obligations.PatrolPaces : Prop :=
  (∀ (t p : Nat) (s : State), t < s.n → s.Sized → (s.tile t).pat.visit = some p → s.ageReached t p 7 = true → 0 < (s.tile t).res.refreshQueue →
    ∃ u, exec (.refreshEscalated t) s = .next u ∧ (∀ k ∈ (u.tile t).res.strokes, k.kind = .refresh → k.priority ≠ 5) ∧
      (u.cell (Ob.inst Ob.PATROL_STATUS t) 0).testBit 1 = true ∧ u.tileReports t Ev.REFRESH_ESCALATED ∧ s.SameMedium u) ∧
  (∀ (t p : Nat) (s : State), t < s.n → s.Sized → (s.tile t).map.visitable p = true → s.ageReached t p 8 = true →
    ∃ u, exec (.patrolOverdue t p) s = .next u ∧ (u.tile t).pat.overdue = true ∧ (u.cell (Ob.inst Ob.PATROL_STATUS t) 0).testBit 0 = true ∧
      u.tileReports t Ev.PATROL_OVERDUE ∧ (s.dev.st = .ready → u.dev.st = .degraded) ∧ s.SameMedium u) ∧
  (∀ (t : Nat) (s : State), t < s.n → s.Sized → (s.tile t).pat.accelOn = true → (s.tile t).pat.accel = [] →
    ∃ u, exec (.accelPatrolDone t) s = .next u ∧ (u.tile t).pat.accelOn = false ∧ u.tileReports t Ev.ACCEL_PATROL_DONE ∧ s.SameMedium u) ∧
  (∀ (t p : Nat) (s : State), t < s.n → s.Sized → p < segsPerTile →
    ∃ u, exec (.ageEntryReset t p) s = .next u ∧ ((u.tile t).map.seg p).class11 = true ∧ p ∈ (u.tile t).pat.first ∧
      u.tileReports t Ev.AGE_ENTRY_RESET ∧ (u.tile t).med = (s.tile t).med) ∧
  (∀ (t : Nat) (s : State), t < s.n → s.Sized → 2 < (s.tile t).ps.rings.length → ∃ u, exec (.driftClockSave t) s = .next u ∧
    (u.tile t).ps.ringValue 2 = some (s.tile t).pat.drift ∧ (∀ r, r ≠ 2 → (u.tile t).ps.ringValue r = (s.tile t).ps.ringValue r) ∧
    (u.tile t).pat = (s.tile t).pat) ∧
  (∀ s : State, s.Sized → ∃ u, exec .patrolPace s = .next u ∧ u.dev = s.dev ∧ ∀ t < s.n, (u.tile t).pat.pace =
    (if s.mgmt.active.isSome then
      ceilDiv (8 * (s.tile t).map.visitCount * max (256 * 7800) (s.tile t).pat.rate) (7 * 256 * 7800 * s.patrolInterval)
     else ceilDiv (s.tile t).map.visitCount (6 * 3600))) ∧
  (∀ (temps : List (List Int)) (s : State), s.dev.st ≠ .unpowered → s.Sized →
    (∀ t < s.n, hottestOf (s.tile t).sup.temp (temps.getD t []) < 152) →
    ∃ u, exec (.temperatureSample temps) s = .next u ∧ u.dev.hotSince = none ∧ ∀ t < s.n, (u.tile t).sup.dieTemps = temps.getD t [] ∧
      (u.tile t).sup.temp = hottestOf (s.tile t).sup.temp (temps.getD t []) ∧ (u.tile t).med = (s.tile t).med) ∧
  (∀ (worst fails : Nat) (s : State), s.svc.scrubOn = true → ∃ u, exec (.scrubDone worst fails) s = .next u ∧ u.svc.scrubOn = false ∧
    u.svc.scrubCounts.getD 10 0 = 2 ∧ u.svc.scrubCounts.getD 7 0 = min worst 576)

/-! ### Fault containment (09) -/

/-- R253 to R257, R262: each way in which a tile becomes suspect makes an ACTIVE tile FENCING, with its cause, takes its ring links and its
port's link out of use and degrades a READY device. With every other tile ACTIVE and no request outstanding, the decision makes a FENCING tile FENCED,
with its mirror tile as its stand-in and its isolation flush running. -/
def Obligations.Fencing : Prop :=
  (∀ (issuer t block request : Nat) (s : State), issuer < s.n → t < s.n → s.Sized → s.fenceStates = true → s.tileActive t = true →
    ∃ u, exec (.watchdogTrip issuer t block request) s = .next u ∧ (u.tile t).fence.st = .fencing ∧ (u.tile t).fence.cause = 1 ∧
      (u.tile t).time.linkE = false ∧ (u.tile t).time.linkW = false ∧ (u.port (s.portOfTile t)).up = false ∧
      (s.dev.st = .ready → u.dev.st = .degraded) ∧ u.tileReports issuer Ev.WATCHDOG_TRIP) ∧
  (∀ (t : Nat) (s : State), t < s.n → s.Sized → s.fenceStates = true → s.tileActive t = true →
    ∃ u, exec (.ringSilence t) s = .next u ∧ (u.tile t).fence.st = .fencing ∧ (u.tile t).fence.cause = 3 ∧
      (u.tile t).time.linkE = false ∧ (u.tile t).time.linkW = false ∧ (u.port (s.portOfTile t)).up = false ∧
      (s.dev.st = .ready → u.dev.st = .degraded)) ∧
  (∀ (t : Nat) (s : State), t < s.n → s.Sized → s.fenceStates = true → s.tileActive t = true →
    ∃ u, exec (.tileSelfReport t) s = .next u ∧ (u.tile t).fence.st = .fencing ∧ (u.tile t).fence.cause = 4 ∧
      (u.tile t).time.linkE = false ∧ (u.tile t).time.linkW = false ∧ (u.port (s.portOfTile t)).up = false ∧
      (s.dev.st = .ready → u.dev.st = .degraded)) ∧
  (∀ (t : Nat) (s : State), t < s.n → s.Sized → (s.tile t).fence.st = .fencing → s.mirrorOf t < s.n → s.mirrorOf t ≠ t →
    (∀ u < s.n, u ≠ t → s.tileActive u = true) → (s.tile t).outstanding = [] →
    ∃ v, exec (.fenceDecision t) s = .next v ∧ (v.tile t).fence.st = .fenced ∧ (v.tile t).fence.standin = s.mirrorOf t ∧
      (v.tile t).fence.isoFlush = 1 ∧ (v.tile t).fence.doubleFault = false ∧
      (∀ e ∈ (v.tile t).res.entries, e.owner = t ∧ e.st ≠ .mirror) ∧ v.pkgReports Ev.TILE_FENCED)


/-- R250, R260, R262: a delta is added to the span-parity line of its group and leaves its sender; a tile whose resend is complete mirrors
again; an isolation flush ends done, or failed with its plain lines recorded as lost. -/
def Obligations.SpansMirrorsAndIsolation : Prop :=
  (∀ (t : Nat) (m : DeltaMsg) (rest : List DeltaMsg) (s : State), t < s.n → s.Sized → (s.tile t).res.deltaOut = m :: rest →
    (s.spanLine m.part m.owner m.lla).1 < s.n → (s.spanLine m.part m.owner m.lla).1 ≠ t →
    s.tileActive (s.spanLine m.part m.owner m.lla).1 = true →
    ∃ u, exec (.spanDelta t) s = .next u ∧ (u.tile t).res.deltaOut = rest ∧
      u.spanImage (s.spanLine m.part m.owner m.lla).1 (s.spanLine m.part m.owner m.lla).2 =
        s.spanImage (s.spanLine m.part m.owner m.lla).1 (s.spanLine m.part m.owner m.lla).2 ^^^ m.delta ∧ s.SameMedium u) ∧
  (∀ (w : Nat) (s : State), w < s.n → s.Sized → (s.tile w).fence.remirror = true → s.mirrorOf w < s.n → s.tileActive (s.mirrorOf w) = true →
    (s.tile (s.mirrorOf w)).res.dirty + (s.tile w).res.backlog.length ≤ (s.tile (s.mirrorOf w)).res.limit →
    ∃ u, exec (.mirrorMoved w) s = .next u ∧ (u.tile w).fence.remirror = false ∧ (u.tile w).res.backlog = [] ∧
      (∀ e ∈ s.ownShadow w, e ∈ (u.tile (s.mirrorOf w)).res.shadow) ∧ u.pkgReports Ev.MIRROR_MOVED ∧ s.SameMedium u) ∧
  (∀ (t : Nat) (s : State), t < s.n → s.Sized → (s.tile t).fence.st = .fenced → (s.tile t).fence.isoFlush = 1 →
    ∃ u, exec (.isolationFlushEnd t) s = .next u ∧ (u.tile t).fence.st = .fenced ∧
      (if (s.tile t).flushed = true then (u.tile t).fence.isoFlush = 2 ∧ u.tileReports t Ev.FLUSH_DONE_RECORDED
       else (u.tile t).fence.isoFlush = 3 ∧ u.pkgReports Ev.PLAIN_SHARE_LOST))

/-- R257, R248: the stand-in answers a host read of a fenced tile's line with the XOR of its span group. -/
def Obligations.ReconstructedReadAnswers : Prop :=
  ∀ (t rd : Nat) (s : State) (r : Rd), t < s.n → s.Sized → (s.tile t).rd.byId rd = some r → r.phase = .recon → r.why = .host →
    r.answered = false → r.req.iface = .cxl → r.req.atom = 0 → r.req.lla = r.lla → (s.partn r.part).isSealed = false →
    (s.port r.req.port).up = true → s.canReconstruct r.req.tile r.part r.lla = true →
    ∃ u, exec (.reconstructionDone t rd) s = .next u ∧ s.SameMedium u ∧
      s.Answers u r.req true (s.plainOf r (s.reconstruct r.req.tile r.part r.lla)) false

/-- R269, R270: a tile that is due rejoins with its domains reset; a step that completes leads to the next; one that fails fences the tile
again with cause 6; a segment that is resynchronised leaves the change list and the stand-in; after the last step the tile is ACTIVE. -/
def Obligations.RejoinSteps : Prop :=
  (∀ (t : Nat) (s : State), s.Sized → s.autoRejoinDue t = true → ∃ u, exec (.autoRejoin t) s = .next u ∧ (u.tile t).fence.st = .rejoining ∧
    (u.tile t).fence.rejoinStep = 1 ∧ (u.tile t).res.entries = [] ∧ (u.tile t).rd.rds = [] ∧ s.SameMedium u ∧
    (u.tile t).fence.autoTimes = s.recentRejoins t ++ [s.pkgNow]) ∧
  (∀ (t k : Nat) (bad : List Nat) (s : State), t < s.n → s.Sized → (s.tile t).fence.st = .rejoining → (s.tile t).fence.rejoinStep = k →
    k = 1 ∨ k = 4 ∨ (k = 5 ∧ (s.tile t).fence.changed = []) ∨ k = 6 →
    ∃ u, exec (.rejoinStepDone t true bad) s = .next u ∧ (u.tile t).fence.st = .rejoining ∧ (u.tile t).fence.rejoinStep = k + 1 ∧
      (k = 4 → (u.tile t).time.linkE = true ∧ (u.tile t).time.linkW = true) ∧ s.SameMedium u) ∧
  (∀ (t : Nat) (bad : List Nat) (s : State), t < s.n → s.Sized → (s.tile t).fence.st = .rejoining → (s.tile t).fence.rejoinStep = 7 →
    (∀ q < 64, (s.queue t q).st = 0) →
    ∃ u, exec (.rejoinStepDone t true bad) s = .next u ∧ u.tileActive t = true ∧ (u.tile t).fence.rejoinStep = 0 ∧
      u.pkgReports Ev.TILE_REJOINED ∧ s.SameMedium u) ∧
  (∀ (t : Nat) (bad : List Nat) (s : State), t < s.n → s.Sized → (s.tile t).fence.st = .rejoining →
    ∃ u, exec (.rejoinStepDone t false bad) s = .next u ∧ (u.tile t).fence.st = .fenced ∧ (u.tile t).fence.cause = 6 ∧
      (u.tile t).time.linkE = false ∧ u.pkgReports Ev.REJOIN_FAILED ∧ s.SameMedium u) ∧
  (∀ (t lseg : Nat) (s : State), t < s.n → s.Sized → (s.tile t).fence.st = .rejoining → (s.tile t).fence.rejoinStep = 5 →
    lseg ∈ (s.tile t).fence.changed → s.standinBusy t lseg = false → (∀ u < s.n, u ≠ t → s.tileActive u = true) →
    ∃ u, exec (.resyncSegment t lseg) s = .next u ∧ lseg ∉ (u.tile t).fence.changed ∧
      ∀ m < s.n, m ≠ t → ∀ e ∈ (u.tile m).res.entries, ¬(e.owner = t ∧ e.st ≠ .mirror ∧ lsegOf e.addr = lseg))

/-! ### Keys, sessions, sealing (10) -/

/-- R280, R281: when no line is held under a purging slot any more, the slot is LOADED with the new keys, or EMPTY, and no CLEAN line under
it stays in any ACTIVE tile. -/
def Obligations.KeyPurgeEnds : Prop :=
  ∀ (s : State) (c : KeyChange), s.Sized → s.keys.slots.wf = true → s.keys.change = some c → s.serverUp = true → s.purged c.slot = true →
    (∀ m ∈ s.mgmt.messages, m.waiting ≠ .key) →
    ∃ u, exec .keyPurgeDone s = .next u ∧ u.keys.change = none ∧
      u.key c.slot = (match c.load with
        | some (a, b) => { st := .loaded, k1 := a, k2 := b }
        | none => KeySlot.reset) ∧
      (∀ k, k ≠ c.slot → u.key k = s.key k) ∧
      (∀ t ∈ s.activeTiles, ∀ e ∈ (u.tile t).res.entries, ¬(e.kx = c.slot ∧ e.kind = .data ∧ e.st = .clean)) ∧
      u.pkgReports (if c.load.isSome then Ev.KEY_LOADED else Ev.KEY_ERASED)

/-- R286, R433: a session opens with the owner's role only where an owner is installed; when it ends, its staged set, its messages and the
debug unlock made in it are gone. -/
def Obligations.Sessions : Prop :=
  (∀ (id : Nat) (owner : Bool) (port : Option Nat) (s : State), s.mgmt.booted = true → (∀ x ∈ s.mgmt.sessions, x.id ≠ id) →
    ∃ u, exec (.spdmSessionEstablished id owner port) s = .next u ∧
      u.mgmt.sessions = s.mgmt.sessions ++ [{ id := id, owner := owner && s.svc.owner.isSome, port := port }] ∧ u.tiles = s.tiles ∧
      u.obj = s.obj ∧ u.dev = s.dev) ∧
  (∀ (id : Nat) (s : State), (∃ x ∈ s.mgmt.sessions, x.id = id) → ∃ u, exec (.spdmSessionEnd id) s = .next u ∧
    (∀ x, x ∈ u.mgmt.sessions ↔ x ∈ s.mgmt.sessions ∧ x.id ≠ id) ∧ (∀ x ∈ u.mgmt.sets, x.req ≠ { transport := 4, src := id }) ∧
    (∀ m ∈ u.mgmt.messages, m.req ≠ { transport := 4, src := id }) ∧ u.svc.unlock ≠ some { transport := 4, src := id } ∧
    (s.svc.unlock = some { transport := 4, src := id } → u.cell debugRightsKey 0 = 0))

/-- R286, R273, R55: a debug access without the unlock of its session is a violation with cause 9 and touches no line; with it, a read of a
line whose segment is FRESH answers zeros. -/
def Obligations.DebugAccesses : Prop :=
  (∀ (session dpa kx pred : Nat) (write : Bool) (mask : ByteMask) (data : Line) (s : State), (∃ x ∈ s.mgmt.sessions, x.id = session) →
    s.svc.unlock ≠ some { transport := 4, src := session } →
    ∃ u, exec (.debugAccess session dpa kx write mask data pred) s = .next u ∧ u.out = s.out ++ [Response.debug 0 true] ∧
      u.cell Ob.LAST_VIOLATION 0 % 256 = 9 ∧ u.tiles = s.tiles) ∧
  (∀ (session dpa kx pred k d part tile lla : Nat) (mask : ByteMask) (data : Line) (s : State), s.Sized →
    (∃ x ∈ s.mgmt.sessions, x.id = session) → s.svc.unlock = some { transport := 4, src := session } → s.svc.eraseState ≠ 1 →
    s.dev.memActive = true → s.routeDpa (kx % 4096) (dpa - dpa % 64) = .line k d part tile lla →
    let c := s.coreTile
    let r : Req := { Req.none with
      iface := .debug, port := c, cls := debugClass, src := 8 + c, kx := k, dpa := d, mask := mask, data := data, feedCls := s.payer part,
      decodedAt := s.now c, admittedAt := s.now c, part := part, tile := tile, lla := lla }
    s.rightsCause r = none → s.serverOf r = some tile → s.admissible tile r = true →
    (s.tile c).rd.waiting.any (fun h => h.sameLine r) = false → (s.tile tile).res.find lla tile = none → s.rootLost tile part = false →
    ((s.tile tile).map.entry (lsegOf lla)).st = .fresh →
    ∃ u, exec (.debugAccess session dpa kx false mask data pred) s = .next u ∧ u.out = s.out ++ [Response.debug 0 false] ∧ s.SameMedium u)

/-- R300, R297, R304: a fetched MAC line becomes resident; a fetched counter line becomes resident when it verifies against its parent; the
repair of a sealed root from its copy is recorded and changes no line. -/
def Obligations.SealingMetadata : Prop :=
  (∀ (t rd i : Nat) (s : State) (r : Rd), s.Sized → (s.tile t).rd.byId rd = some r → r.why = .metaLine → r.phase = .decoded →
    s.homeOf r.req.tile < s.n → (s.partn r.part).metaAt r.req.tile r.lla = some (.mac i) → (∀ q ∈ (s.tile t).rd.rds, q.phase ≠ .awaitMeta) →
    (s.tile (s.homeOf r.req.tile)).res.find r.lla r.req.tile = none →
    ∃ u e, exec (.metaFetchDone t rd) s = .next u ∧ (u.tile (s.homeOf r.req.tile)).res.find r.lla r.req.tile = some e ∧ e.kind = .metaLine ∧
      e.data = r.acc ∧ e.st = .clean ∧ s.SameMedium u ∧ u.out = s.out) ∧
  (∀ (t rd l i c : Nat) (ctr : Nat × Nat) (s : State) (r : Rd), s.Sized → (s.tile t).rd.byId rd = some r → r.why = .metaLine →
    r.phase = .decoded → r.lost = false → s.homeOf r.req.tile < s.n → (s.partn r.part).metaAt r.req.tile r.lla = some (.counter l i c) →
    s.lineCounter r.req.tile r.part l i = some ctr →
    s.verifyCounter r.req.tile r.part ((s.partn r.part).lineLla r.req.tile (.counter l i 0)) ctr r.acc = .valid →
    (∀ q ∈ (s.tile t).rd.rds, q.phase ≠ .awaitMeta) → (s.tile (s.homeOf r.req.tile)).res.find r.lla r.req.tile = none →
    ∃ u e, exec (.metaFetchDone t rd) s = .next u ∧ (u.tile (s.homeOf r.req.tile)).res.find r.lla r.req.tile = some e ∧ e.kind = .metaLine ∧
      e.data = r.acc ∧ e.st = .clean ∧ s.SameMedium u ∧ u.out = s.out) ∧
  (∀ (t part : Nat) (s : State), t < s.n → s.Sized → s.mirrorOf t < s.n →
    (s.tile t).sealing.any (fun x => decide (x.part = part) && !x.rootLost) = true →
    ∃ u, exec (.rootRepaired t part) s = .next u ∧ u.tileReports t Ev.ROOT_REPAIRED ∧ u.tiles = s.tiles ∧ u.out = s.out)

/-! ### Scribe queues (11) -/

/-- R315 to R317, R327: a word joins the descriptor being assembled, the eighth completes it; a resync ends an overrun
and closes the assembly as a torn descriptor; the head of the completion ring moves. -/
def Obligations.QueueWindows : Prop :=
  (∀ (port ld window word t q : Nat) (s : State), s.windowQueue port ld window = some (t, q) → s.inService = true →
    (s.queue t q).overrun = false → (s.queue t q).words < 256 →
    ∃ u, exec (.descIn port ld window word true) s = .next u ∧ u.tiles = s.tiles ∧ u.out = s.out ∧
      (if (s.queue t q).frame.length < 7 then (u.queue t q).frame = (s.queue t q).frame ++ [word % 2 ^ 64] ∧
          (u.queue t q).groups = (s.queue t q).groups
       else (u.queue t q).frame = [] ∧
          (u.queue t q).groups = (s.queue t q).groups ++ [{ words := (s.queue t q).frame ++ [word % 2 ^ 64], torn := false }] ∧
          (u.queue t q).received = ((s.queue t q).received + 1) % 2 ^ 32)) ∧
  (∀ (port ld window t q : Nat) (s : State), s.windowQueue port ld window = some (t, q) → s.inService = true →
    ∃ u, exec (.qResync port ld window) s = .next u ∧ u.tiles = s.tiles ∧ u.out = s.out ∧ (u.queue t q).overrun = false ∧
      (u.queue t q).frame = [] ∧ (u.queue t q).groups = (if (s.queue t q).frame = [] then (s.queue t q).groups
        else (s.queue t q).groups ++ [{ words := (s.queue t q).frame, torn := true }])) ∧
  (∀ (port ld window head t q : Nat) (s : State), s.windowQueue port ld window = some (t, q) → s.inService = true →
    ((s.queue t q).tail + 2 ^ 32 - head % 2 ^ 32) % 2 ^ 32 ≤ s.ringRecords t q →
    ∃ u, exec (.cqHeadWrite port ld window head) s = .next u ∧ u.tiles = s.tiles ∧ u.out = s.out ∧ (u.queue t q).head = head % 2 ^ 32 ∧
      (u.queue t q).tail = (s.queue t q).tail)

/-- R318: a flush discards every word of the queue, whole descriptors not taken and the part of one included, and clears OVERRUN, SIZE_ERR and
FRAME; the next word is word 0 of a descriptor; descriptors already taken stay as they are; it raises no notice and writes no record. -/
def Obligations.FlushDiscardsTheQueue : Prop :=
  ∀ (port ld window t q : Nat) (s : State), s.windowQueue port ld window = some (t, q) → s.inService = true →
    ∃ u, exec (.qFlush port ld window) s = .next u ∧ (u.queue t q).words = 0 ∧ (u.queue t q).groups = [] ∧ (u.queue t q).frame = [] ∧
      (u.queue t q).overrun = false ∧ (u.queue t q).sizeErr = false ∧ (u.queue t q).descs = (s.queue t q).descs ∧
      (u.queue t q).received = (s.queue t q).received ∧ (u.queue t q).tail = (s.queue t q).tail ∧
      (u.queue t q).st = (s.queue t q).st ∧ u.tiles = s.tiles ∧ u.recs = s.recs ∧ u.obj = s.obj ∧ u.out = s.out ∧
      (∀ word v, exec (.descIn port ld window word true) u = .next v → (v.queue t q).frame = [word % 2 ^ 64] ∧ (v.queue t q).groups = [])

/-- R325, R319, R321, R176: the engine takes the first complete descriptor of the queue next in turn; one whose words follow the operation
table, with its atomic operand aligned, is in execution and leaves the queue's words. -/
def Obligations.DescriptorTaken : Prop :=
  ∀ (t q : Nat) (ws : List Nat) (rest : List Group) (s : State), s.tileActive t = true → t < s.n → s.inService = true → s.executing t < 16 →
    minBy (fun q => (q + 127 - (s.tile t).rd.lastQueue) % 64) (below 64 (fun q => s.startable t q)) = some q →
    (s.queue t q).groups = { words := ws, torn := false } :: rest → headValid (ws.headD 0) = true → bodyValid ws = true →
    (∀ dpa, atomicOperand ws = some dpa → dpa % 8 = 0) →
    ∃ u, exec (.descriptorStart t []) s = .next u ∧ (u.queue t q).groups = rest ∧
      (u.queue t q).descs = (s.queue t q).descs ++ [Desc.fresh (s.queue t q).nextIndex ws] ∧
      (u.queue t q).nextIndex = (s.queue t q).nextIndex + 1 ∧ (u.queue t q).taken = ((s.queue t q).taken + 1) % 2 ^ 32 ∧
      u.out = s.out ∧ ∀ v, (u.tile v).med = (s.tile v).med ∧ (u.tile v).res = (s.tile v).res

/-- R322 to R324: the engine issues the next line access of a descriptor of each operation, in the order that its operation gives, and of no
other descriptor: COPY the read of its next source line, FILL and ZERO the write of their next line, CRC32C and COMPARE their next reads, CAS64,
FADD64 and NOTIFY their one access, LOG-APPEND first its pointer reads. -/
def Obligations.EngineIssues : Prop :=
  ∀ (t q i : Nat) (s : State) (d : Desc), (s.queue t q).desc i = some d → s.tileActive t = true → s.inService = true → s.engineOut t < 128 →
    d.stopped = false → d.ended = false →
    let issued (a : LineOp) (e : Desc) : State := (s.modQueue t q (fun x => x.setDesc i (fun _ => e))).issue t q i a
    let rd (e : Nat) : Desc := { d with nextRead := d.nextRead + e }
    let wr (e : Nat) : Desc := { d with nextWrite := d.nextWrite + e }
    (d.op = 1 → d.ready = [] → d.nextRead < d.total →
      exec (.copy t q i) s = .next (issued (LineOp.read (2 * d.nextRead) (d.w 1 + 64 * d.nextRead)) (rd 1))) ∧
    (∀ a rest, d.op = 1 → d.ready = a :: rest →
      exec (.copy t q i) s = .next (issued (LineOp.full (a.step + 1) (d.w 2 + 64 * (a.step / 2)) a.data) { d with ready := rest })) ∧
    (d.op = 2 → d.nextWrite < d.total →
      exec (.fill t q i) s = .next (issued (LineOp.full (2 * d.nextWrite + 1) (d.w 1 + 64 * d.nextWrite) (patternLine (d.w 2))) (wr 1))) ∧
    (d.op = 3 → d.nextWrite < d.total → exec (.zero t q i) s =
      .next (issued { LineOp.full (2 * d.nextWrite + 1) (d.w 1 + 64 * d.nextWrite) 0 with zero := true } (wr 1))) ∧
    (d.op = 4 → d.nextRead < d.total →
      exec (.crc32c t q i) s = .next (issued (LineOp.read (2 * d.nextRead) (d.w 1 + 64 * d.nextRead)) (rd 1))) ∧
    (d.op = 5 → d.nextRead < 2 * d.total → exec (.compare t q i) s =
      .next (issued (LineOp.read d.nextRead (d.w (1 + d.nextRead % 2) + 64 * (d.nextRead / 2))) (rd 1))) ∧
    (d.op = 6 → d.nextWrite = 0 → exec (.cas64 t q i) s = .next (issued (LineOp.atomic 1 (d.w 1) 1 (d.w 3) (d.w 2)) (wr 1))) ∧
    (d.op = 7 → d.nextWrite = 0 → exec (.fadd64 t q i) s = .next (issued (LineOp.atomic 1 (d.w 1) 2 (d.w 2) 0) (wr 1))) ∧
    (d.op = 8 → d.phase = 0 → d.nextRead < 2 → exec (.logAppend t q i) s =
      .next (issued (LineOp.read d.nextRead (d.w (4 + d.nextRead) - d.w (4 + d.nextRead) % 64)) (rd 1))) ∧
    (d.op = 0x20 → d.nextWrite = 0 → exec (.notify t q i) s = .next (issued (LineOp.field 1 (d.w 1) 8 (d.w 2)) (wr 1)))

/-- R312, R322, R323, R326: the line of a FILL or ZERO, admitted at once, finds no entry and becomes a DIRTY entry that holds the pattern, or
zeros; the engine's descriptor has an access back. -/
def Obligations.FillWritesTheLine : Prop :=
  ∀ (t q i : Nat) (zero : Bool) (kx dpa part lla : Nat) (s : State) (d : Desc), t < s.n → s.Sized → (s.queue t q).desc i = some d →
    d.op = (if zero then 3 else 2) → s.tileActive t = true → s.inService = true → s.engineOut t < 128 → d.stopped = false → d.ended = false →
    d.nextWrite < d.total →
    let line : Line := if zero then 0 else patternLine (d.w 2)
    s.routeDpa (s.queueKx t q) (d.w 1 + 64 * d.nextWrite) = .line kx dpa part t lla → (s.partn part).spanned = false →
    let r : Req := { Req.none with
      iface := .scribe, port := t, cls := s.queueOwner t q, feedCls := s.queueOwner t q, src := 8 + t, kx := kx, dpa := dpa, write := true,
      mask := fullMask, data := line, decodedAt := s.now t, admittedAt := s.now t, queue := 64 * t + q, desc := i,
      step := 2 * d.nextWrite + 1, part := part, tile := t, lla := lla, zero := zero && !(s.partn part).isSealed }
    s.rightsCause r = none → s.admissible t r = true → (s.tile t).rd.waiting.any (fun h => h.sameLine r) = false →
    (s.tile t).res.find lla t = none → (s.tile t).isLost lla = false → s.rootLost t part = false →
    (s.mirrorOf t < s.n → (s.tile (s.mirrorOf t)).fence.st ≠ .fencing) →
    ∃ u e f, exec (if zero then .zero t q i else .fill t q i) s = .next u ∧ s.SameMedium u ∧ (u.tile t).res.find lla t = some e ∧
      e.st = .dirty ∧ e.data = line ∧ e.mask = fullMask ∧ e.kx = kx ∧ (u.queue t q).desc i = some f ∧ f.nextWrite = d.nextWrite + 1 ∧
      f.outstanding = d.outstanding + 1 ∧ f.arrived.length = d.arrived.length + 1

/-- R170, R171: each barrier descriptor comes into force; when every earlier descriptor of its queue has ended without failure, the barrier
completes with status 0 (here with its record suppressed: R327). -/
def Obligations.Barriers : Prop :=
  (∀ (t q i : Nat) (s : State) (d : Desc), (s.queue t q).desc i = some d → d.ended = false → s.tileActive t = true →
    let armed : State := s.modQueue t q (fun x => x.setDesc i (fun d => { d with armed := true }))
    (d.op = 0x10 → exec (.barLd t q i) s = .next armed) ∧ (d.op = 0x11 → exec (.barSt t q i) s = .next armed) ∧
    (d.op = 0x12 → exec (.barAll t q i) s = .next armed)) ∧
  (∀ (t q : Nat) (s : State) (d : Desc), (s.queue t q).descs.find? (fun d => d.barrier && d.armed && !d.ended) = some d →
    (∀ e ∈ (s.queue t q).descs, e.index < d.index → e.ended = true) → (s.queue t q).failed = none → (d.w 0).testBit 49 = true →
    ∃ u, exec (.barrierComplete t q) s = .next u ∧ (u.queue t q).descs = (s.queue t q).descs.filter (fun e => decide (e.index ≠ d.index)) ∧
      (u.queue t q).descsDone = ((s.queue t q).descsDone + 1) % 2 ^ 32 ∧ (u.queue t q).failed = none ∧ u.tiles = s.tiles ∧ u.out = s.out)

/-- R322, R327, R328, R330: an access that comes back is taken up by its descriptor while others are outstanding; the last one of a complete
descriptor with a suppressed record ends it; when the record of a queue's only descriptor is accepted the ring's tail moves and the MSI-X message
asked for is sent. -/
def Obligations.LineAccessesComeBack : Prop :=
  (∀ (t q i : Nat) (s : State) (d : Desc) (a : Arrival) (rest : List Arrival), (s.queue t q).desc i = some d → d.arrived = a :: rest →
    d.ended = false → (Desc.absorb { d with arrived := rest } a).outstanding ≠ 0 →
    exec (.scribeLineDone t q i) s = .next (s.modQueue t q (fun x => x.setDesc i (fun _ => Desc.absorb { d with arrived := rest } a)))) ∧
  (∀ (t q i : Nat) (s : State) (d : Desc) (a : Arrival) (rest : List Arrival), (s.queue t q).desc i = some d → d.arrived = a :: rest →
    d.ended = false → (d.w 0).testBit 49 = true →
    let e := Desc.absorb { d with arrived := rest } a
    e.outstanding = 0 → e.complete = true → e.outcome = none → e.fails = [] →
    ∃ u, exec (.scribeLineDone t q i) s = .next u ∧ (∀ f ∈ (u.queue t q).descs, f.index ≠ i) ∧
      (u.queue t q).descsDone = ((s.queue t q).descsDone + 1) % 2 ^ 32 ∧ u.tiles = s.tiles ∧ u.out = s.out) ∧
  (∀ (t q : Nat) (s : State) (d : Desc) (a : Arrival) (rest : List Arrival), (s.queue t q).descs = [d] → d.arrived = a :: rest →
    d.ended = true → d.op ≠ 0xFF → a.cause = 0 →
    let h := s.classHome (s.queueOwner t q)
    let vec := s.cell (queueKey Ob.SQ_MSIX t q) 0xFFFF
    ∃ u, exec (.scribeLineDone t q d.index) s = .next u ∧ (u.queue t q).descs = [] ∧
      (u.queue t q).tail = ((s.queue t q).tail + 1) % 2 ^ 32 ∧ u.tiles = s.tiles ∧
      u.out = s.out ++ (if ((d.w 0).testBit 48 || statusError d.verdict.1) && decide (vec ≠ 0xFFFF) && (s.port h.1).up then
        [Response.msix h.1 h.2 vec] else []))

/-! ### The Feed and the arbiter (12) -/

/-- R336, R339, R341: a slice admits the request that it holds when nothing holds it back any more, and the read of a FRESH line is answered;
a level of the urgency pins takes effect at its second sample in a row. -/
def Obligations.SlicesDecide : Prop :=
  (∀ (port t pred : Nat) (s : State) (r : Req), s.Sized → port < s.n → (s.port port).held = [r] → (s.port port).up = true →
    (s.port port).withheld = false → r.port = port → r.iface = .cxl → r.write = false → r.atom = 0 → s.turnedAway r = none →
    s.serverOf r = some t → s.admissible t r = true → t = r.tile → (s.tile t).res.find r.lla t = none → s.rootLost t r.part = false →
    ((s.tile t).map.entry (lsegOf r.lla)).st = .fresh →
    ∃ u, exec (.feedAdmit port false pred) s = .next u ∧ (u.port port).held = [] ∧ s.Answers u r true 0 false ∧ s.SameMedium u) ∧
  (∀ (port level : Nat) (s : State), port < s.n → s.Sized → s.portUsed port = true → ∃ u, exec (.urgencySample port level) s = .next u ∧
    (u.port port).urgSample = level % 4 ∧ (u.port port).urg = (if level % 4 = (s.port port).urgSample then level % 4 else (s.port port).urg) ∧
    u.tiles = s.tiles ∧ u.out = s.out)

/-- R337, R345, R346, R350, R354: at the end of an epoch every ACTIVE tile has its read tokens allotted among the sources by the demand sampled, a tile
that the grant reaches has its reserve, and the device is over its cap when its power is; reservations are scaled by the factor of each class. -/
def Obligations.BudgetEpochs : Prop :=
  (∀ (lost : Nat) (s : State), s.dev.mainUp = true → s.Sized → s.n ≤ s.feed.reserveLeft.length → ∃ u, exec (.epochEnd lost) s = .next u ∧
    u.feed.overCap = decide (s.peff < s.pns) ∧ u.out = s.out ∧
    ∀ t < s.n, s.tileActive t = true →
      (u.tile t).rd.rdAllot = allot (if s.feed.emergency then 64 else 256) 4 s.sources ((s.tile t).rd.demand.getD 0 []) ((s.tile t).rd.demand.getD 1 []) ∧
      (s.mgmt.active ≠ none → lost.testBit t = false → u.feed.reserveLeft.getD t 0 =
        (let g := (s.peffArbiter - s.pns) / 18
         ceilDiv (2 * (if g = 0 then (s.peffArbiter - 1000 * s.part.power.2.2.2) / 18 else g)) (100 * max 1 s.nActive)))) ∧
  (∀ (cause : Nat) (s : State), ∃ u, exec (.reservationsScaled cause) s = .next u ∧
    (∀ c ∈ feedClasses, ∀ w : Bool, u.feed.scale.getD (2 * c + bitNat w) (1, 1) = s.classFactor c w) ∧
    u.feed.scaled = (feedClasses.any (fun c => decide (s.classFactor c false ≠ (1, 1)) || decide (s.classFactor c true ≠ (1, 1)))) ∧
    u.tiles = s.tiles)

/-! ### Links and logical devices (13) -/

/-- R358 to R360, R366: a port trains at the rate, width and flit mode agreed, in the LD mode that its objects hold, with CXL.mem enabled when
CXL is negotiated at 16 GT/s or more in 256-byte flits; a retrain moves rate and width, is counted and recorded and loses no request; a replay is
counted and is no fault; an edge port takes the PBR ID that the fabric manager assigns. -/
def Obligations.LinksTrain : Prop :=
  (∀ (p rate width flit : Nat) (s : State), p < s.n → s.Sized → s.canTrain p = true → (s.port p).up = false → s.linkLegal p rate width flit = true →
    (flit = 1 ∨ flit = 2) → 3 ≤ rate →
    ∃ u, exec (.linkTrained p rate width flit true) s = .next u ∧ (u.port p).up = true ∧ (u.port p).rate = rate ∧ (u.port p).width = width ∧
      (u.port p).flit = flit ∧ (u.port p).cxlMem = true ∧ (u.port p).ldMode = s.cell (Ob.inst Ob.PORT_LD_MODE p) 0 ∧
      (u.port p).held = (s.port p).held ∧ (∀ q, q ≠ p → u.port q = s.port q) ∧ u.tiles = s.tiles ∧ u.dev = s.dev ∧ u.obj = s.obj ∧ u.out = s.out) ∧
  (∀ (p rate width : Nat) (s : State), p < s.n → s.Sized → s.portUsed p = true → (s.port p).up = true →
    s.linkLegal p rate width (s.port p).flit = true → memEnabled true rate (s.port p).flit = true → s.dev.mainUp = true →
    ¬((s.port p).rate = rate ∧ (s.port p).width = width) →
    ∃ u, exec (.linkRetrained p rate width) s = .next u ∧ (u.port p).up = true ∧ (u.port p).rate = rate ∧ (u.port p).width = width ∧
      (u.port p).cxlMem = (s.port p).cxlMem ∧ (u.port p).held = (s.port p).held ∧ (u.port p).ingress = (s.port p).ingress ∧
      u.tileReports p Ev.LINK_RETRAINED ∧ (∀ q, q ≠ p → u.port q = s.port q) ∧ u.tiles = s.tiles ∧ u.out = s.out ∧
      u.counter (p * 0x400 + Cn.LINK_RETRAINS) = (s.counter (p * 0x400 + Cn.LINK_RETRAINS) + 1) % 2 ^ 48) ∧
  (∀ (p flits : Nat) (s : State), s.portUsed p = true → (s.port p).up = true → s.dev.mainUp = true →
    ∃ u, exec (.linkReplay p flits) s = .next u ∧ u.ports = s.ports ∧ u.tiles = s.tiles ∧ u.recs.length = s.recs.length ∧ u.dev = s.dev ∧
      u.counter (p * 0x400 + Cn.LINK_REPLAYS) = (s.counter (p * 0x400 + Cn.LINK_REPLAYS) + flits) % 2 ^ 48) ∧
  (∀ (p id : Nat) (s : State), p < s.n → s.Sized → s.portUsed p = true → (s.port p).ldMode = 2 → id ≤ 4095 →
    ∃ u, exec (.pbrIdAssigned p id) s = .next u ∧ (u.port p).pbrId = id ∧ (u.port p).up = (s.port p).up ∧
      (∀ q, q ≠ p → u.port q = s.port q) ∧ u.tiles = s.tiles ∧ u.out = s.out)

/-- R154, R376, R387, R482: a link that goes down leaves nothing of the link in force, is recorded, and keeps every accepted write; an
integrity failure is recorded and takes the link down; a reset of a logical device discards its requests that are not accepted and keeps the link
and every accepted write; a function level reset frees the mailbox of the LD and leaves CXL.mem alone. -/
def Obligations.LinksFall : Prop :=
  (∀ (p cause : Nat) (s : State), p < s.n → s.Sized → s.portUsed p = true → (s.port p).up = true → cause = 1 ∨ cause = 2 ∨ cause = 3 ∨ cause = 6 →
    ∃ u, exec (.linkDown p cause) s = .next u ∧ (u.port p).up = false ∧ (u.port p).cxlMem = false ∧ (u.port p).ideMem = false ∧
      (u.port p).ideIo = false ∧ (∀ r ∈ (u.port p).held, r.isOf p none = false) ∧ u.tileReports p Ev.LINK_DOWN ∧
      (∀ q, q ≠ p → u.port q = s.port q) ∧ s.SameMedium u ∧ (∀ t, (u.tile t).res.entries = (s.tile t).res.entries)) ∧
  (∀ (p stream : Nat) (dpas : List Nat) (s : State), p < s.n → s.Sized → s.portUsed p = true → (s.port p).up = true →
    (if stream = 0 then (s.port p).ideMem else (s.port p).ideIo) = true →
    ∃ u, exec (.ideFailure p stream dpas) s = .next u ∧ (u.port p).up = false ∧ (u.port p).ideMem = false ∧ (u.port p).ideIo = false ∧
      u.tileReports p Ev.IDE_FAILURE ∧ u.tileReports p Ev.LINK_DOWN ∧ s.SameMedium u ∧
      (∀ t, (u.tile t).res.entries = (s.tile t).res.entries)) ∧
  (∀ (p l : Nat) (s : State), p < s.n → s.Sized → s.ldExists p l = true →
    ∃ u, exec (.cxlLdReset p l) s = .next u ∧ (u.port p).up = (s.port p).up ∧ (∀ r ∈ (u.port p).held, r.isOf p (some l) = false) ∧
      (∀ r ∈ (s.port p).held, r.isOf p (some l) = false → r ∈ (u.port p).held) ∧ (u.ld p l).mailboxBusy = false ∧ s.SameMedium u ∧
      (∀ t, (u.tile t).res.entries = (s.tile t).res.entries)) ∧
  (∀ (p l : Nat) (s : State), s.ldExists p l = true →
    ∃ u, exec (.functionLevelReset p l) s = .next u ∧ (u.ld p l).mailboxBusy = false ∧ (∀ x ∈ u.mgmt.sets, x.req ≠ mailboxOf p l) ∧
      u.ports = s.ports ∧ u.tiles = s.tiles ∧ u.obj = s.obj ∧ u.out = s.out)

/-- R374, R368: inside an SPDM session, IDE_KM programs the key of a link's CXL.mem stream, which takes the mode asked for when the stream was not
Secure and keeps its mode at a refresh, or the key of its CXL.io stream. A decoder that keeps the limits and the order of the decoders commits with
the host's settings, one that does not reports Error Not Committed, and a committed decoder that was not locked can be uncommitted; no other
decoder changes. -/
def Obligations.StreamsAndDecoders : Prop :=
  (∀ (p mode session : Nat) (key : Key256) (s : State), p < s.n → s.Sized → s.portUsed p = true → (s.port p).up = true →
    (∃ x ∈ s.mgmt.sessions, x.id = session) → mode = 1 ∨ mode = 2 →
    ∃ u, exec (.ideKeyRefresh p 0 mode session key) s = .next u ∧ (u.port p).ideMem = true ∧ (u.port p).ideMemKey = key ∧
      (u.port p).ideMode = (if (s.port p).ideMem then (s.port p).ideMode else mode) ∧ (u.port p).ideIo = (s.port p).ideIo ∧
      (u.port p).held = (s.port p).held ∧ (∀ q, q ≠ p → u.port q = s.port q) ∧ u.tiles = s.tiles ∧ u.out = s.out) ∧
  (∀ (p mode session : Nat) (key : Key256) (s : State), p < s.n → s.Sized → s.portUsed p = true → (s.port p).up = true →
    (∃ x ∈ s.mgmt.sessions, x.id = session) →
    ∃ u, exec (.ideKeyRefresh p 1 mode session key) s = .next u ∧ (u.port p).ideIo = true ∧ (u.port p).ideIoKey = key ∧
      (u.port p).ideMem = (s.port p).ideMem ∧ (u.port p).held = (s.port p).held ∧ (∀ q, q ≠ p → u.port q = s.port q) ∧
      u.tiles = s.tiles ∧ u.out = s.out) ∧
  (∀ (p l i base size ways gran skip : Nat) (lock : Bool) (s : State), s.ldExists p l = true → (s.port p).up = true → i < 4 →
    (s.ld p l).decoders.length = 4 → ((s.ld p l).decoders.getD i Decoder.reset).committed = false → s.svc.eraseState ≠ 1 →
    let d : Decoder := { committed := true, locked := lock, err := false, base := base, size := size, ways := ways, gran := gran,
                         skip := skip, kxCfg := s.cell (ldKey Ob.HDM_KX_CFG p l + i) 0 }
    ∃ u, exec (.hdmDecoderCommit p l i base size ways gran skip lock) s = .next u ∧ u.tiles = s.tiles ∧ u.ports = s.ports ∧ u.out = s.out ∧
      (∀ j, j ≠ i → (u.ld p l).decoders.getD j Decoder.reset = (s.ld p l).decoders.getD j Decoder.reset) ∧
      (s.decoderFits p l i d = true → (u.ld p l).decoders.getD i Decoder.reset = d) ∧
      (s.decoderFits p l i d = false → (u.ld p l).decoders.getD i Decoder.reset =
        { (s.ld p l).decoders.getD i Decoder.reset with err := true })) ∧
  (∀ (p l i : Nat) (s : State), s.ldExists p l = true → (s.port p).up = true → i < 4 → (s.ld p l).decoders.length = 4 →
    ((s.ld p l).decoders.getD i Decoder.reset).committed = true → ((s.ld p l).decoders.getD i Decoder.reset).locked = false →
    ∃ u, exec (.hdmDecoderUncommit p l i) s = .next u ∧ u.tiles = s.tiles ∧ u.ports = s.ports ∧ u.out = s.out ∧
      ((u.ld p l).decoders.getD i Decoder.reset).committed = false ∧
      (∀ j, j ≠ i → (u.ld p l).decoders.getD j Decoder.reset = (s.ld p l).decoders.getD j Decoder.reset)) ∧
  (∀ (p l i : Nat) (s : State), s.ldExists p l = true → (s.port p).up = true → i < 4 →
    ((s.ld p l).decoders.getD i Decoder.reset).locked = true → exec (.hdmDecoderUncommit p l i) s = .next s)

/-! ### Mailboxes (13) -/

/-- R369, R372, R379 to R385, R432: the commands that only answer, each with its output; nothing else changes. In every device state Identify,
Background Operation Status, Get Event Records, Get Event Interrupt Policy, Get FW Info, Get Supported Logs, Get Log with the Command Effects Log, Get
Supported Features, Get Health Info, Get Alert Configuration, STAEB_LIMITS and the opcodes that are not supported; in every device state that answers
reads above 0x2FFF Get Timestamp, Get Feature, Identify Memory Device, Get Partition Info, Get LSA, Get Shutdown State, Get Poison List, Get Scan
Media Capabilities and Results, the dynamic capacity configuration and extent list; over the FM API Get LD Info, Get LD Allocations, Get DCD Info, Get
Host DC Region Configuration, Get DC Region Extent Lists, and the opcodes that are not supported. -/
def Obligations.MailboxAnswers : Prop :=
  (∀ (p l : Nat) (s : State), s.MailboxFree p l →
    exec (.identify p l) s = .next (s.completed p l 0x0001 Rc.success
      ([Config.identity 0 % 65536] ++ (List.range 16).map (fun i => identityChar (16 + i)) ++ [14])) ∧
    exec (.backgroundOperationStatus p l) s = .next (s.completed p l 0x0002 Rc.success [s.svc.bgOp, s.bgPercent, bitNat s.bgRunning]) ∧
    (∀ log, exec (.getEventRecords p l log) s = .next (if 4 < log then s.completed p l 0x0100 Rc.invalidInput [] else
      let x := (s.ld p l).logs.getD log EventLog.reset
      s.completed p l 0x0100 Rc.success ([bitNat (decide (x.overflow ≠ 0)), x.overflow, x.firstLost, x.lastLost, x.records.length] ++
        ((x.records.take 127).map LogRecord.out).flatten))) ∧
    exec (.getEventInterruptPolicy p l) s = .next (s.completed p l 0x0102 Rc.success (s.ld p l).intPolicy) ∧
    exec (.getFwInfo p l) s = .next (s.completed p l 0x0200 Rc.success
      ([2, s.fw.running, s.fw.nextBoot] ++ s.fw.slots.map FwSlot.st ++ s.fw.slots.map FwSlot.version)) ∧
    exec (.getSupportedLogs p l) s = .next (s.completed p l 0x0400 Rc.success [1, 0]) ∧
    exec (.getLog p l 0) s = .next (s.completed p l 0x0401 Rc.success mailboxOpcodes) ∧
    exec (.getSupportedFeatures p l) s = .next (s.completed p l 0x0500 Rc.success [1, 0]) ∧
    exec (.getHealthInfo p l) s = .next (s.completed p l 0x4200 Rc.success [s.healthBits, s.mediaStatus, s.lifeUsed, s32 s.hottest,
      s.cell Ob.DIRTY_SHUTDOWN_COUNT 0, s.cnt.resCorrected, s.cnt.corrected]) ∧
    exec (.getAlertConfiguration p l) s = .next (s.completed p l 0x4201 Rc.success (s.ld p l).alertCfg) ∧
    exec (.staebLimits p l) s = .next (if s.vendorHere p l then s.completed p l 0xC001 Rc.success (bytesLE 4 16384 ++ bytesLE 2 0x0100)
      else s.completed p l 0xC001 Rc.unsupported []) ∧
    (∀ bytes, s.vendorHere p l = false → exec (.staebExchange p l bytes) s = .next (s.completed p l 0xC000 Rc.unsupported [])) ∧
    (∀ q op, mailboxOpcodes.contains op = false →
      exec (.mailboxUnsupported false q p l op) s = .next (s.completed p l op Rc.unsupported []))) ∧
  (∀ (p l : Nat) (s : State), s.MailboxFree p l → s.notReady = false →
    exec (.getTimestamp p l) s = .next (s.completed p l 0x0300 Rc.success [(s.cell Ob.HOST_TIME_OFFSET 0 + s.pkgNow) % 2 ^ 64]) ∧
    exec (.getFeature p l 0) s = .next (s.completed p l 0x0501 Rc.success [s.cell Ob.PATROL_INTERVAL 96]) ∧
    exec (.identifyMemoryDevice p l) s = .next (s.completed p l 0x4000 Rc.success [s.ldCapacity p l, 0, s.ldCapacity p l, 0, 8192]) ∧
    exec (.getPartitionInfo p l) s = .next (s.completed p l 0x4100 Rc.success [0, s.ldCapacity p l, 0, 0]) ∧
    (∀ offset len, exec (.getLsa p l offset len) s = .next (if 8192 < offset + len then s.completed p l 0x4102 Rc.invalidInput []
      else s.completed p l 0x4102 Rc.success (((s.lsaOf p l).drop offset).take len))) ∧
    exec (.getShutdownState p l) s = .next (s.completed p l 0x4203 Rc.success [s.cell Ob.SHUTDOWN_STATE 0]) ∧
    (∀ dpa len, dpa + len ≤ (s.alloc p l).2 → dpa % 64 = 0 →
      let found := s.poisonIn ((s.alloc p l).1 + dpa) ((s.alloc p l).1 + dpa + len)
      exec (.getPoisonList p l dpa len) s = .next (s.completed p l 0x4300 Rc.success
        ([bitNat s.poisonOverflow.isSome, s.poisonOverflow.getD 0, found.length] ++ poisonOut (s.alloc p l).1 (found.take 1022)))) ∧
    (∀ dpa len, s.scanRange p l dpa len = true →
      exec (.getScanMediaCapabilities p l dpa len) s = .next (s.completed p l 0x4303 Rc.success
        [ceilDiv len (s.cell Ob.SCRUB_RATE_MBS 1000 * 1000 * max 1 (s.tilesIn ((s.alloc p l).1 + dpa) len))])) ∧
    (s.svc.scrubOn = false → s.svc.scrubSource = 1 → s.svc.scrubBy = 16 * p + l →
      let found := s.poisonIn s.svc.scrubDpa (s.svc.scrubDpa + s.svc.scrubLen)
      exec (.getScanMediaResults p l) s = .next (s.completed p l 0x4305 Rc.success
        ([bitNat (decide (s.svc.scrubCounts.getD 10 0 = 3)), found.length] ++ poisonOut (s.alloc p l).1 (found.take 1022)))) ∧
    exec (.getDynamicCapacityConfiguration p l) s = .next (s.completed p l 0x4800 Rc.success (s.dcRegions p l)) ∧
    exec (.getDynamicCapacityExtentList p l) s = .next (s.completed p l 0x4801 Rc.success (s.extentList p l))) ∧
  (∀ (q : Requester) (p l op : Nat) (s : State), s.FmFree q p → fmOpcodes.contains op = false →
    exec (.mailboxUnsupported true q p l op) s = .next (s.fmCompleted q p op Rc.unsupported [])) ∧
  (∀ (q : Requester) (p : Nat) (s : State), s.FmFree q p → s.notReady = false →
    exec (.getLdInfo q p) s = .next (s.fmCompleted q p 0x5400 Rc.success [(s.ldNumbers p).length, (s.port p).ldMode]) ∧
    exec (.getLdAllocations q p) s = .next (s.fmCompleted q p 0x5401 Rc.success (((s.ldNumbers p).map (fun l =>
      [s.cell (ldKey Ob.LD_ALLOC_BASE p l) 0, s.cell (ldKey Ob.LD_ALLOC_SIZE p l) 0])).flatten)) ∧
    exec (.getDcdInfo q p) s = .next (s.fmCompleted q p 0x5600 Rc.success [(s.ldNumbers p).length, 8, 1, s.part.capacity / 2 ^ 30]) ∧
    (∀ l, s.ldExists p l = true →
      exec (.getHostDcRegionConfiguration q p l) s = .next (s.fmCompleted q p 0x5601 Rc.success (s.dcRegions p l)) ∧
      exec (.getDcRegionExtentLists q p l) s = .next (s.fmCompleted q p 0x5603 Rc.success (s.extentList p l))))

/-- R379, R381, R383, R384, R488, R489, R491: commands that change what a mailbox owns. Clear Event Records takes records by their handles, oldest
first; the interrupt policy and the alert thresholds take the values given; Transfer FW writes the slot that does not run, which is valid when its
last part verifies with an SVN that the floor admits; Activate FW starts a live update, or names the other image for the next reset; after Set
Timestamp the device tells the host's time; Set LSA reaches the port's tile and its mirror copy; Set Shutdown State is kept in every tile. -/
def Obligations.MailboxChanges : Prop :=
  ∀ (p l : Nat) (s : State), s.MailboxFree p l →
    (∀ log all handles, log ≤ 4 → log < (s.ld p l).logs.length →
      let old := ((s.ld p l).logs.getD log EventLog.reset).records
      (all = true ∨ (old.take handles.length).map LogRecord.handle = handles) →
      ∃ u, exec (.clearEventRecords p l log all handles) s = .next u ∧ u.out = s.out ++ [Response.mailbox p l 0x0101 Rc.success []] ∧
        ((u.ld p l).logs.getD log EventLog.reset).records = (if all then [] else old.drop handles.length) ∧
        (∀ k, k ≠ log → (u.ld p l).logs.getD k EventLog.reset = (s.ld p l).logs.getD k EventLog.reset) ∧ u.recs = s.recs ∧ u.tiles = s.tiles) ∧
    (∀ policy, policy.length = 5 → ∃ u, exec (.setEventInterruptPolicy p l policy) s = .next u ∧ (u.ld p l).intPolicy = policy ∧
      u.out = s.out ++ [Response.mailbox p l 0x0103 Rc.success []] ∧ u.tiles = s.tiles ∧ u.recs = s.recs) ∧
    (∀ x : FwPart, x.slot = 1 - s.fw.running → s.fw.slots.length = 2 → s.fw.running ≤ 1 → s.mgmt.update = 0 → x.first = true → x.offset = 0 →
      let good := x.signed && decide (s.fw.svnMin ≤ x.svn)
      ∃ u d, exec (.transferFw p l x) s = .next u ∧ u.fw.slots[x.slot]? = some d ∧ u.fw.running = s.fw.running ∧ u.fw.svnMin = s.fw.svnMin ∧
        u.fw.slots[s.fw.running]? = s.fw.slots[s.fw.running]? ∧ d.st = (if x.last then (if good then 1 else 2) else 3) ∧ d.received = x.bytes ∧
        u.Completes p l 0x0201 (if x.last && !good then Rc.fwVerifyFailed else Rc.success) [] ∧ u.tiles = s.tiles) ∧
    (s.bgRunning = false → s.liveReady = true → ∃ u, exec (.activateFw p l (1 - s.fw.running) true) s = .next u ∧ u.mgmt.update = 1 ∧
      u.fw.activation = 1 ∧ u.fw.running = s.fw.running ∧ u.svc.bgOp = 0x0202 ∧ u.out = s.out ++ [Response.mailbox p l 0x0202 Rc.background []] ∧
      u.tiles = s.tiles) ∧
    (s.otherReady = true → ∃ u, exec (.activateFw p l (1 - s.fw.running) false) s = .next u ∧ u.fw.nextBoot = 1 - s.fw.running ∧
      u.fw.running = s.fw.running ∧ u.out = s.out ++ [Response.mailbox p l 0x0202 Rc.success []] ∧ u.tiles = s.tiles) ∧
    (∀ life o w ve pe, 1 ≤ life → life ≤ 99 → ∃ u, exec (.setAlertConfiguration p l life o w ve pe) s = .next u ∧
      (u.ld p l).alertCfg = [life, o, w, ve, pe] ∧ u.out = s.out ++ [Response.mailbox p l 0x4202 Rc.success []] ∧ u.tiles = s.tiles) ∧
    (s.inService = true → ∀ time, ∃ u, exec (.setTimestamp p l time) s = .next u ∧
      (u.cell Ob.HOST_TIME_OFFSET 0 + u.pkgNow) % 2 ^ 64 = time % 2 ^ 64 ∧ u.out = s.out ++ [Response.mailbox p l 0x0301 Rc.success []] ∧
      u.tiles = s.tiles) ∧
    (s.inService = true → ∀ offset data, offset + data.length ≤ 8192 → p + l / 8 < s.n → s.Sized → s.tileActive (p + l / 8) = true →
      ∃ u, exec (.setLsa p l offset data) s = .next u ∧ u.out = s.out ++ [Response.mailbox p l 0x4103 Rc.success []] ∧
        u.lsaOf p l = (s.lsaOf p l).take offset ++ data.map (fun b => b % 256) ++ (s.lsaOf p l).drop (offset + data.length) ∧
        u.ports = s.ports ∧ u.obj = s.obj ∧ ∀ v, (u.tile v).med = (s.tile v).med ∧ (u.tile v).res = (s.tile v).res) ∧
    (s.inService = true → ∀ v, v ≤ 1 → ∃ u, exec (.setShutdownState p l v) s = .next u ∧ u.cell Ob.SHUTDOWN_STATE 0 = v ∧
      (∀ t, t < s.n → t < s.tiles.length → (u.tile t).ps.config.getD Ob.SHUTDOWN_STATE 0 = v) ∧
      u.out = s.out ++ [Response.mailbox p l 0x4204 Rc.success []] ∧ u.ports = s.ports)

/-- R87, R363, R382: Inject Poison makes its line LOST with source Injected; Clear Poison takes a LOST line off the list and writes the data given
under `LD_CLEAR_KX`. R239, R495 to R497: Scan Media and the two erasures start in the background; an erasure empties every reservoir, key slot and
poison list at once, regenerates the device key, and is done at its own event. -/
def Obligations.MediumCommands : Prop :=
  (∀ (p l dpa part t lla : Nat) (s : State), s.MailboxFree p l → s.inService = true → s.Sized → t < s.n → s.svc.testPermitted = true →
    s.locateLd p l dpa = some (part, t, lla) → s.tileActive t = true → (s.partn part).spanned = false → (s.tile t).isLost lla = false →
    s.rootLost t part = false → (s.tile t).res.find lla t = none → (s.mirrorOf t < s.n → (s.tile (s.mirrorOf t)).fence.st ≠ .fencing) →
    ∃ u, exec (.injectPoison p l dpa) s = .next u ∧ u.Completes p l 0x4301 Rc.success [] ∧ (u.tile t).isLost lla = true ∧
      ({ lla := lla, source := 3 } : Poison) ∈ (u.tile t).map.poison ∧ (∀ v, (u.tile v).med = (s.tile v).med)) ∧
  (∀ (p l dpa part t lla : Nat) (data : Line) (s : State), s.MailboxFree p l → s.inService = true → s.Sized → t < s.n →
    s.locateLd p l dpa = some (part, t, lla) → s.tileActive t = true → (s.partn part).spanned = false →
    ((s.tile t).map.entry (lsegOf lla)).st ≠ .lost → s.rootLost t part = false → (s.tile t).res.find lla t = none →
    (s.mirrorOf t < s.n → (s.tile (s.mirrorOf t)).fence.st ≠ .fencing) →
    let kx := s.cell (ldKey Ob.LD_CLEAR_KX p l) 0
    s.keyHeld kx = false → s.hasRight (classOf p l) kx true = true →
    ∃ u e, exec (.clearPoison p l dpa data) s = .next u ∧ u.Completes p l 0x4302 Rc.success [] ∧ (u.tile t).isLost lla = false ∧
      (u.tile t).res.find lla t = some e ∧ e.st = .dirty ∧ e.data = data ∧ e.mask = fullMask ∧ e.kx = kx ∧
      (∀ v, (u.tile v).med = (s.tile v).med)) ∧
  (∀ (p l dpa len : Nat) (noLog : Bool) (s : State), s.MailboxFree p l → s.inService = true → s.svc.scrubOn = false → s.bgRunning = false →
    s.scanRange p l dpa len = true →
    ∃ u, exec (.scanMedia p l dpa len noLog) s = .next u ∧ u.out = s.out ++ [Response.mailbox p l 0x4304 Rc.background []] ∧
      u.svc.scrubOn = true ∧ u.svc.scrubSource = 1 ∧ u.svc.scrubDpa = (s.alloc p l).1 + dpa ∧ u.svc.scrubLen = len ∧ u.bgRunning = true ∧
      u.tiles = s.tiles ∧ u.obj = s.obj) ∧
  (∀ (p l : Nat) (s : State) (full : Bool), s.MailboxFree p l → s.Sized → s.eraseLegal = true → s.bgRunning = false → s.svc.eraseState ≠ 1 →
    ∃ u, exec (if full then .sanitize p l else .secureErase p l) s = .next u ∧
      u.Completes p l (if full then 0x4400 else 0x4401) Rc.background [] ∧ u.svc.eraseState = 1 ∧ u.svc.eraseKind = (if full then 2 else 1) ∧
      (u.key 0).st = .loaded ∧ (∀ k, k ≠ 0 → (u.key k).st = .empty) ∧ u.parts = s.parts ∧ u.queues = s.queues ∧
      ∀ t, t < s.n → (u.tile t).res.entries = [] ∧ (u.tile t).map.poison = [] ∧ ∀ seg, ((u.tile t).map.entry seg).st = .fresh) ∧
  (∀ s : State, s.inService = true → s.svc.eraseState = 1 → s.svc.eraseKind = 1 → s.Sized →
    ∃ u, exec .eraseDone s = .next u ∧ u.svc.eraseState = 2 ∧ u.svc.erasePercent = 100 ∧ u.pkgReports Ev.ERASE_DONE ∧ u.out = s.out ∧
      s.SameMedium u) ∧
  (∀ s : State, s.inService = true → s.svc.eraseState = 1 → s.svc.eraseKind = 2 → s.Sized →
    ∃ u, exec .eraseDone s = .next u ∧ u.svc.eraseState = 2 ∧ u.pkgReports Ev.ERASE_DONE ∧
      ∀ t, t < s.n → (u.tile t).ps.lsa = [] ∧ (u.tile t).ps.shadowRecs = [])

/-- R367, R369, R371, R372, R373, R385, R436: the commands that change dynamic capacity. An add becomes pending, its response makes the blocks
that the host accepts added, a release returns blocks, `DC_GENERATION` rises at each add and release, a block that is zeroed is no longer being
sanitized. Set Feature, Set LD Allocations and Set DC Region Configuration commit their values as a set of their own: the configuration generation
rises by one. -/
def Obligations.CapacityCommands : Prop :=
  (∀ (p l : Nat) (extents : Extents) (s : State), s.MailboxFree p l → s.inService = true → s.Sized →
    let gibs := (gibsOf extents).eraseDups
    gibs ≠ [] → gibs.all (fun g => (s.gibsIn p l (s.ld p l).pendingAdd).contains g) = true →
    ∃ u, exec (.addDynamicCapacityResponse p l extents) s = .next u ∧ u.Completes p l 0x4802 Rc.success [] ∧ (u.ld p l).pendingAdd = [] ∧
      (u.ld p l).blocks = (s.ld p l).blocks ++ (s.ld p l).pendingAdd.filter (fun b => gibs.contains (s.gibOf p l b)) ∧
      u.cell Ob.DC_GENERATION 0 = (s.cell Ob.DC_GENERATION 0 + 1) % 2 ^ 32 ∧ u.pkgReports Ev.DC_EXTENT_ADDED ∧ u.tiles = s.tiles) ∧
  (∀ (p l : Nat) (extents : Extents) (s : State), s.MailboxFree p l → s.inService = true → s.Sized →
    let gibs := (gibsOf extents).eraseDups
    gibs ≠ [] → gibs.all (fun g => (s.gibsIn p l (s.ld p l).blocks).contains g) = true →
    ∃ u, exec (.releaseDynamicCapacity p l extents) s = .next u ∧ u.Completes p l 0x4803 Rc.success [] ∧
      (u.ld p l).blocks = (s.ld p l).blocks.filter (fun b => !gibs.contains (s.gibOf p l b)) ∧
      u.cell Ob.DC_GENERATION 0 = (s.cell Ob.DC_GENERATION 0 + 1) % 2 ^ 32 ∧ u.pkgReports Ev.DC_EXTENT_RELEASED ∧ u.tiles = s.tiles) ∧
  (∀ (q : Requester) (p l tag : Nat) (extents : Extents) (s : State), s.FmFree q p → s.inService = true → l < 16 →
    let gibs := (gibsOf extents).eraseDups
    s.addBarred p l gibs = false → gibs.any (fun g => s.svc.sanitizing.contains (s.dpaGib p l g)) = false →
    ∃ u, exec (.initiateDynamicCapacityAdd q p l tag extents) s = .next u ∧ u.Completes p fmLd 0x5604 Rc.success [] ∧
      (u.ld p l).pendingAdd = (s.ld p l).pendingAdd ++ gibs.filterMap (s.blockAt p l tag) ∧ (u.ld p l).blocks = (s.ld p l).blocks ∧
      u.tiles = s.tiles) ∧
  (∀ (q : Requester) (p l : Nat) (extents : Extents) (s : State), s.FmFree q p → s.inService = true → s.ldExists p l = true → s.Sized →
    let gibs := (gibsOf extents).eraseDups
    gibs ≠ [] → gibs.all (fun g => (s.gibsIn p l (s.ld p l).blocks).contains g) = true →
    ∃ u, exec (.initiateDynamicCapacityRelease q p l extents true) s = .next u ∧ u.Completes p fmLd 0x5605 Rc.success [] ∧
      (u.ld p l).blocks = (s.ld p l).blocks.filter (fun b => !gibs.contains (s.gibOf p l b)) ∧
      u.cell Ob.DC_GENERATION 0 = (s.cell Ob.DC_GENERATION 0 + 1) % 2 ^ 32 ∧ u.tiles = s.tiles) ∧
  (∀ (gib : Nat) (s : State), s.inService = true → s.Sized → s.svc.sanitizing.contains gib = true →
    ∃ u, exec (.dcSanitizeDone gib) s = .next u ∧ u.svc.sanitizing = s.svc.sanitizing.filter (fun g => decide (g ≠ gib)) ∧
      u.pkgReports Ev.DC_SANITIZE_DONE) ∧
  (∀ (p l cycle : Nat) (s : State), s.MailboxFree p l → s.inService = true → s.Sized → 6 ≤ cycle → cycle ≤ 96 → s.mgmt.sets.length < 8 →
    s.validate (sortItems [(Ob.PATROL_INTERVAL, cycle)]) = none →
    ∃ u, exec (.setFeature p l 0 cycle true) s = .next u ∧ u.Completes p l 0x0502 Rc.success [] ∧ u.cell Ob.PATROL_INTERVAL 96 = cycle ∧
      u.cell Ob.CONFIG_GENERATION 0 = min 0xFFFFFFFE (s.cell Ob.CONFIG_GENERATION 0 + 1) ∧ u.pkgReports Ev.COMMIT_APPLIED) ∧
  (∀ (q : Requester) (p first : Nat) (allocs : List (Nat × Nat)) (s : State), s.FmFree q p → s.inService = true → s.Sized →
    s.mgmt.sets.length < 8 → first + allocs.length ≤ 16 → allocs ≠ [] →
    let items : Items := (allocs.zipIdx.map (fun x =>
      [(ldKey Ob.LD_ALLOC_BASE p (first + x.2), x.1.1), (ldKey Ob.LD_ALLOC_SIZE p (first + x.2), x.1.2)])).flatten
    items.findSome? s.itemFault = none → s.validate (sortItems items) = none →
    ∃ u, exec (.setLdAllocations q p first allocs) s = .next u ∧ u.Completes p fmLd 0x5402 Rc.success [] ∧
      u.cell Ob.CONFIG_GENERATION 0 = min 0xFFFFFFFE (s.cell Ob.CONFIG_GENERATION 0 + 1)) ∧
  (∀ (q : Requester) (p l region : Nat) (cfg : Region) (s : State), s.FmFree q p → s.inService = true → s.Sized → s.mgmt.sets.length < 8 →
    region < 8 → l < 16 → cfg.size < 2 ^ 14 → cfg.off < 2 ^ 14 → s.itemFault (ldKey Ob.DCR_CFG p l + region, cfg.cfg) = none →
    s.validate [(ldKey Ob.DCR_CFG p l + region, cfg.cfg)] = none →
    ∃ u, exec (.setDcRegionConfiguration q p l region cfg) s = .next u ∧ u.Completes p fmLd 0x5602 Rc.success [] ∧
      u.cell Ob.CONFIG_GENERATION 0 = min 0xFFFFFFFE (s.cell Ob.CONFIG_GENERATION 0 + 1))

/-! ### The object dictionary (15) -/

/-- R420 to R439: an object that acts at once takes the value written; a configuration object keeps its applied value while the written one is
staged, to be read back with READ_STAGED; a write that is refused leaves every object but the error records, and every tile, as they are; a write of
a status object clears exactly the W1C bits named; a staged set can be discarded and expires after 600 s. A message of one READ answers the object's
value over every transport; a malformed one answers TYPE. -/
def Obligations.ObjectsAreWritten : Prop :=
  (∀ (q : Requester) (index sub : Nat) (value : List Nat) (p : ObPlace) (s : State), s.Takes q → s.inService = true → sub < 256 →
    s.findOb index sub = some p → p.access = .rw → s.writeFault q index p value (s.writeMask p (ofBytesLE value)) = none →
    ∃ u, exec (.objectWrite q index sub value) s = .next u ∧ u.cell p.cell 0 = s.writeMask p (ofBytesLE value) ∧
      s.Replies u q (index * 256 + sub) 0 0 [] ∧ (∀ k d, k ≠ p.cell → u.cell k d = s.cell k d) ∧ u.tiles = s.tiles ∧ u.ports = s.ports ∧
      u.parts = s.parts ∧ u.mgmt = s.mgmt) ∧
  (∀ (q : Requester) (index sub : Nat) (value : List Nat) (p : ObPlace) (x : StagedSet) (s : State), s.Takes q → s.inService = true → sub < 256 →
    s.findOb index sub = some p → p.isConfig = true → s.writeFault q index p value (s.writeMask p (ofBytesLE value)) = none →
    s.setOf q = some x → x.items.length < 1024 →
    ∃ u y, exec (.objectWrite q index sub value) s = .next u ∧ u.setOf q = some y ∧
      Sparse.find y.items p.cell = some (s.writeMask p (ofBytesLE value)) ∧ (∀ k, k ≠ p.cell → Sparse.find y.items k = Sparse.find x.items k) ∧
      s.Replies u q (index * 256 + sub) 0 0 [] ∧ u.obj = s.obj ∧ u.tiles = s.tiles ∧ u.parts = s.parts) ∧
  (∀ (q : Requester) (index sub v : Nat) (p : ObPlace) (x : StagedSet) (s : State), s.Takes q → s.inService = true → sub < 256 →
    s.findOb index sub = some p → p.isConfig = true → s.setOf q = some x → Sparse.find x.items p.cell = some v →
    ∃ u, exec (.readStaged q index sub) s = .next u ∧ s.Replies u q (index * 256 + sub) 0 0 (bytesLE p.row.size v) ∧ u.obj = s.obj ∧
      u.tiles = s.tiles) ∧
  (∀ (q : Requester) (index sub code detail : Nat) (value : List Nat) (p : ObPlace) (s : State), s.Takes q → s.inService = true → s.Sized →
    sub < 256 → s.findOb index sub = some p → s.writeFault q index p value (s.writeMask p (ofBytesLE value)) = some (code, detail) →
    ∃ u, exec (.objectWrite q index sub value) s = .next u ∧ s.Replies u q (index * 256 + sub) code detail [] ∧ u.tiles = s.tiles ∧
      u.parts = s.parts ∧ u.mgmt = s.mgmt ∧ u.keys = s.keys ∧ u.pkgReports Ev.DICT_ERROR ∧
      (∀ k d, k ≠ Ob.DICT_LAST_ERROR → k ≠ Ob.DICT_STATUS → k ≠ Ob.DICT_OCC → u.cell k d = s.cell k d)) ∧
  (∀ (q : Requester) (index sub v lo count occ : Nat) (p : ObPlace) (s : State), s.Takes q → s.inService = true → sub < 256 → v < 2 ^ 32 →
    s.findOb index sub = some p → p.access = .w1c → s.writeFault q index p (bytesLE 4 v) (s.writeMask p v) = none → s.writeMask p v = v →
    w1cRows.find? (fun x => decide (x.1 = p.row.key)) = some (p.row.key, lo, count, occ) →
    ∃ u data, exec (.w1cWrite q index sub v) s = .next u ∧ s.Replies u q (index * 256 + sub) 0 0 data ∧
      data.take 4 = bytesLE 4 (s.applied p ||| s.liveBits p) ∧
      (∀ b, (u.cell p.cell 0).testBit b = ((s.applied p).testBit b && !(v.testBit b && decide (lo ≤ b ∧ b < lo + count)))) ∧
      (∀ k d, k ≠ p.cell → u.cell k d = s.cell k d) ∧ u.tiles = s.tiles) ∧
  (∀ (q : Requester) (x : StagedSet) (s : State), s.Takes q → s.inService = true → s.setOf q = some x →
    ∃ u, exec (.stageDiscard q 1) s = .next u ∧ u.setOf q = none ∧ (∀ r, r ≠ q → u.setOf r = s.setOf r) ∧
      s.Replies u q Ob.STAGE_DISCARD 0 0 [] ∧ u.obj = s.obj ∧ u.tiles = s.tiles) ∧
  (∀ (q : Requester) (x : StagedSet) (s : State), s.setOf q = some x → s.serverUp = true → x.touched + 600 * 10 ^ 9 ≤ s.pkgNow → s.Sized →
    ∃ u, exec (.stageExpired q) s = .next u ∧ u.setOf q = none ∧ (∀ r, r ≠ q → u.setOf r = s.setOf r) ∧ u.pkgReports Ev.STAGE_EXPIRED ∧
      (u.cell Ob.DICT_STATUS 0).testBit 2 = true ∧ u.tiles = s.tiles ∧ u.out = s.out) ∧
  (∀ (q : Requester) (index sub : Nat) (bytes : List Nat) (p : ObPlace) (s : State), q.transport ≠ 3 → s.Takes q → s.inService = true → sub < 256 →
    bytes.length ≤ 16384 → requestOps bytes = some [{ op := 1, sub := sub, index := index, value := [] }] → byteField bytes 4 2 = 0 →
    byteField bytes 3 1 = 0 → s.findOb index sub = some p → p.access.readable = true → s.recorderGone p = false → s.counterGone p = false →
    ∃ u, exec (.staebMessage q bytes) s = .next u ∧ s.Replies u q (index * 256 + sub) 0 0 (s.readOb q p) ∧ u.obj = s.obj ∧ u.tiles = s.tiles) ∧
  (∀ (port l index sub : Nat) (bytes : List Nat) (p : ObPlace) (s : State), s.MailboxFree port l → s.Takes (mailboxOf port l) →
    s.vendorHere port l = true → s.inService = true → sub < 256 → bytes.length ≤ 16384 →
    requestOps bytes = some [{ op := 1, sub := sub, index := index, value := [] }] → byteField bytes 4 2 = 0 → byteField bytes 3 1 = 0 →
    s.findOb index sub = some p → p.access.readable = true → s.recorderGone p = false → s.counterGone p = false →
    ∃ u, exec (.staebExchange port l bytes) s = .next u ∧
      s.Replies u (mailboxOf port l) (index * 256 + sub) 0 0 (s.readOb (mailboxOf port l) p) ∧ u.obj = s.obj ∧ u.tiles = s.tiles) ∧
  (∀ (q : Requester) (bytes : List Nat) (s : State), q.transport ≠ 3 → s.Takes q → bytes.length ≤ 16384 → requestOps bytes = none →
    byteField bytes 4 2 = 0 → byteField bytes 3 1 = 0 →
    ∃ u, exec (.staebMessage q bytes) s = .next u ∧ s.Replies u q 0 Err.type 0 [] ∧ u.tiles = s.tiles ∧ u.mgmt = s.mgmt)

/-- R434 to R436: a COMMIT of a set that breaks no rule puts its values in force, raises the configuration generation by one, writes
`COMMIT_STATUS`, records COMMIT_APPLIED and ends the set; a set that breaks a rule is refused whole; a COMMIT that expects another generation is
refused with STATE. R65: a partition that is disabled and has no access left is released. -/
def Obligations.CommitIsWhole : Prop :=
  (∀ (q : Requester) (expected : Nat) (x : StagedSet) (s : State), s.Takes q → s.inService = true → s.Sized → expected < 2 ^ 32 →
    s.setOf q = some x → x.items ≠ [] → expected = 0xFFFFFFFF ∨ expected = s.cell Ob.CONFIG_GENERATION 0 →
    s.validate (sortItems x.items) = none → (∀ v, (Ob.CONFIG_GENERATION, v) ∉ x.items) →
    ∃ u data, exec (.commit q expected 0) s = .next u ∧ u.setOf q = none ∧ s.Replies u q Ob.COMMIT 0 0 data ∧
      u.cell Ob.CONFIG_GENERATION 0 = min 0xFFFFFFFE (s.cell Ob.CONFIG_GENERATION 0 + 1) ∧ data = bytesLE 8 (u.cell Ob.COMMIT_STATUS 0) ∧
      u.pkgReports Ev.COMMIT_APPLIED ∧
      (∀ v, x.items = [(Ob.PATROL_INTERVAL, v)] → u.cell Ob.PATROL_INTERVAL 96 = v)) ∧
  (∀ (q : Requester) (expected : Nat) (x : StagedSet) (e : Refused) (s : State), s.Takes q → s.inService = true → s.Sized → expected < 2 ^ 32 →
    s.setOf q = some x → x.items ≠ [] → expected = 0xFFFFFFFF ∨ expected = s.cell Ob.CONFIG_GENERATION 0 →
    s.validate (sortItems x.items) = some e → e.code ≠ 0 →
    ∃ u, exec (.commit q expected 0) s = .next u ∧ u.setOf q = none ∧ s.Replies u q Ob.COMMIT e.code e.detail [] ∧ u.parts = s.parts ∧
      u.queues = s.queues ∧ u.feed = s.feed ∧ s.SameMedium u ∧ u.cell Ob.CONFIG_GENERATION 0 = s.cell Ob.CONFIG_GENERATION 0 ∧
      (∀ k d, k ≠ Ob.COMMIT_STATUS → k ≠ Ob.DICT_LAST_ERROR → k ≠ Ob.DICT_STATUS → k ≠ Ob.DICT_OCC → u.cell k d = s.cell k d)) ∧
  (∀ (q : Requester) (expected : Nat) (s : State), s.Takes q → s.inService = true → s.Sized → expected < 2 ^ 32 → expected ≠ 0xFFFFFFFF →
    expected ≠ s.cell Ob.CONFIG_GENERATION 0 →
    ∃ u, exec (.commit q expected 0) s = .next u ∧ u.setOf q = none ∧ s.Replies u q Ob.COMMIT Err.state Detail.generation [] ∧
      u.parts = s.parts ∧ u.queues = s.queues ∧ u.cell Ob.CONFIG_GENERATION 0 = s.cell Ob.CONFIG_GENERATION 0) ∧
  (∀ (p : Nat) (s : State), p < 64 → s.Sized → (s.partn p).st = 2 → s.activeTiles.all (fun t => !s.partBusy t p) = true →
    ∃ u, exec (.partitionReleased p) s = .next u ∧ (u.partn p).st = 0 ∧ u.pkgReports Ev.PARTITION_RELEASED ∧
      (∀ k, k ≠ p → u.partn k = s.partn k) ∧ u.out = s.out)

/-- R124, R206, R207, R218, R236, R238, R253, R269, R329, R343: commands on the medium, the map, the scrub, the tiles, the queues and the classes,
each with its effect and its answer. -/
def Obligations.MaintenanceCommands : Prop :=
  ∀ (q : Requester) (s : State), s.Takes q → s.inService = true → s.Sized →
    (∀ t, t < s.n → ∃ u, exec (.readSvcClear q t 1) s = .next u ∧ s.Replies u q (Ob.inst Ob.READ_SVC_CLEAR t) 0 0 [] ∧
      (u.tile t).rd.hist = List.replicate 16 0 ∧ (u.tile t).rd.max = 0 ∧ (u.tile t).rd.rds = (s.tile t).rd.rds ∧
      (∀ v, v ≠ t → u.tile v = s.tile v) ∧ u.obj = s.obj) ∧
    (∀ v, v < 2 ^ 32 → xlateTile v < s.n → xlateSeg v < poolSegs →
      ((s.tile (xlateTile v)).map.entry (xlateSeg v)).st = .bound → (s.tile (xlateTile v)).map.migs.length < s.migrateMax →
      ∃ u, exec (.migrateRequest q v) s = .next u ∧ s.Replies u q Ob.MIGRATE_REQUEST 0 0 [] ∧
        (∃ g ∈ (u.tile (xlateTile v)).map.triggers, g.lseg = xlateSeg v ∧ g.reason = 4) ∧
        (u.tile (xlateTile v)).map.map = (s.tile (xlateTile v)).map.map ∧ (∀ t, t ≠ xlateTile v → u.tile t = s.tile t)) ∧
    (∀ v x, v < 2 ^ 32 → xlateTile v < s.n → xlateSeg v < segsPerTile → xlateSwap v = false →
      (s.tile (xlateTile v)).map.quars.find? (fun y => decide (y.pseg = xlateSeg v)) = some x →
      ∃ u, exec (.quarantineAck q v) s = .next u ∧ s.Replies u q Ob.QUARANTINE_ACK 0 0 [] ∧
        (∀ y ∈ (u.tile (xlateTile v)).map.quars, y.pseg ≠ xlateSeg v) ∧ u.tileReports (xlateTile v) Ev.QUARANTINE_RELEASED ∧
        ((u.tile (xlateTile v)).map.seg (xlateSeg v)).cond = .free) ∧
    (∀ v, v < 2 ^ 32 → xlateTile v < s.n → xlateSeg v < poolSegs →
      ∃ u, exec (.mapQuery q v) s = .next u ∧ s.Replies u q Ob.MAP_QUERY 0 0 [] ∧
        u.cell Ob.MAP_QUERY_RESULT 0 = (s.tile (xlateTile v)).map.entryBits (xlateSeg v) ∧ u.tiles = s.tiles) ∧
    (s.svc.scrubOn = false → s.cell Ob.SCRUB_LENGTH 0 ≠ 0 → s.cell Ob.SCRUB_DPA 0 % 64 = 0 → s.cell Ob.SCRUB_LENGTH 0 % 64 = 0 →
      s.rangeEnabled (s.cell Ob.SCRUB_DPA 0) (s.cell Ob.SCRUB_LENGTH 0) = true →
      ∃ u, exec (.scrubStart q 1) s = .next u ∧ s.Replies u q Ob.SCRUB_START 0 0 [] ∧ u.svc.scrubOn = true ∧ u.svc.scrubSource = 0 ∧
        u.svc.scrubDpa = s.cell Ob.SCRUB_DPA 0 ∧ u.svc.scrubLen = s.cell Ob.SCRUB_LENGTH 0 ∧ u.tiles = s.tiles ∧ u.obj = s.obj) ∧
    (s.svc.scrubOn = true → ∃ u, exec (.scrubAbort q 1) s = .next u ∧ s.Replies u q Ob.SCRUB_ABORT 0 0 [] ∧ u.svc.scrubOn = false ∧
      u.pkgReports Ev.SCRUB_ABORTED ∧ u.tiles = s.tiles) ∧
    (∀ t, t < s.n → (∀ v, v < s.n → s.tileActive v = true) → ∃ u, exec (.tileFence q t) s = .next u ∧ s.Replies u q Ob.TILE_FENCE 0 0 [] ∧
      (u.tile t).fence.st = .fencing ∧ (u.tile t).fence.cause = 5 ∧ (u.tile t).time.linkE = false ∧ (u.tile t).time.linkW = false ∧
      (∀ v, (u.tile v).med = (s.tile v).med ∧ (u.tile v).res.entries = (s.tile v).res.entries)) ∧
    (∀ t, t < s.n → (s.tile t).fence.st = .fenced → (s.tile t).fence.isoFlush ≠ 1 →
      ∃ u, exec (.tileRejoin q t) s = .next u ∧ s.Replies u q Ob.TILE_REJOIN 0 0 [] ∧ (u.tile t).fence.st = .rejoining ∧
        (u.tile t).fence.rejoinStep = 1 ∧ (u.tile t).med.slots = (s.tile t).med.slots ∧ ∀ v, v ≠ t → u.tile v = s.tile v) ∧
    (∀ t k, t < s.n → k < 64 → (s.queue t k).st = 3 → (s.queue t k).descs.any (fun d => d.ended) = false →
      ∃ u, exec (.sqRestart q t k 1) s = .next u ∧ s.Replies u q (queueKey Ob.SQ_RESTART t k) 0 0 [] ∧
        u.queue t k = { s.queue t k with st := 1 } ∧ u.tiles = s.tiles) ∧
    (∀ c, c < 66 → c ≠ debugClass → ∃ u, exec (.classHeldClear q c 1) s = .next u ∧ s.Replies u q (Ob.inst Ob.CLASS_HELD_CLEAR c) 0 0 [] ∧
      (u.cls c).hist = List.replicate 16 0 ∧ (u.cls c).max = 0 ∧ (∀ k, k ≠ c → u.cls k = s.cls k) ∧ u.tiles = s.tiles)

/-- R278 to R280, R286, R306, R311: a key command over a path that may carry keys writes or erases a slot that holds no key at once, and holds a
loaded slot in PURGING until its purge ends; KEY_QUERY shows a slot's state; the owner unlocks debug with a token of the owner and locks it again;
the owner of a root-lost share of a sealed partition can adopt its root. -/
def Obligations.KeyAndSealCommands : Prop :=
  ∀ (q : Requester) (s : State), s.Takes q → s.inService = true → s.Sized →
    (∀ k k1 k2, s.keyPath q = true → 1 ≤ k → k ≤ 4095 → s.isSealKey k = false → s.keys.change = none → (s.key k).st = .empty →
      ∃ u, exec (.keyLoad q k k1 k2) s = .next u ∧ u.key k = { st := .loaded, k1 := k1, k2 := k2 } ∧ (∀ j, j ≠ k → u.key j = s.key j) ∧
        s.Replies u q Ob.KEY_LOAD 0 0 [] ∧ u.pkgReports Ev.KEY_LOADED ∧ s.SameMedium u) ∧
    (∀ k k1 k2, s.keyPath q = true → 1 ≤ k → k ≤ 4095 → s.isSealKey k = false → s.keys.change = none → (s.key k).st = .loaded →
      ∃ u, exec (.keyLoad q k k1 k2) s = .next u ∧ (u.key k).st = .purging ∧ u.keys.change = some { slot := k, load := some (k1, k2), req := q } ∧
        s.Waits u q Ob.KEY_LOAD .key ∧ u.tiles = s.tiles) ∧
    (∀ k, s.keyPath q = true → 1 ≤ k → k ≤ 4095 → s.isSealKey k = false → s.keys.change = none → (s.key k).st = .loaded →
      ∃ u, exec (.keyErase q k) s = .next u ∧ (u.key k).st = .purging ∧ u.keys.change = some { slot := k, load := none, req := q } ∧
        s.Waits u q Ob.KEY_ERASE .key ∧ u.tiles = s.tiles) ∧
    (∀ k, k ≤ 4095 → ∃ u, exec (.keyQuery q k) s = .next u ∧ s.Replies u q Ob.KEY_QUERY 0 0 [] ∧
      u.cell Ob.KEY_INFO 0 = (match (s.key k).st with | .empty => 0 | .loaded => 1 | .purging => 2) * 2 ^ 30 + (s.key k).kcv ∧
      u.keys = s.keys ∧ u.tiles = s.tiles) ∧
    (∀ token cert, token < 256 ^ 1024 → s.isOwner q = true → s.svc.owner = some cert →
      ∃ u, exec (.debugUnlock q token) s = .next u ∧ u.tiles.length = s.tiles.length ∧
        (if Config.tokenOk cert token = false then s.Replies u q Ob.DEBUG_UNLOCK Err.access 0 [] ∧ u.svc = s.svc ∧ u.tiles = s.tiles
          else if 16 < (Config.tokenRanges token).length then s.Replies u q Ob.DEBUG_UNLOCK Err.range 0 [] ∧ u.svc = s.svc ∧ u.tiles = s.tiles
          else s.Replies u q Ob.DEBUG_UNLOCK 0 0 [] ∧ u.svc.unlock = some q ∧
            u.cell debugRightsKey 0 = rangesMap (Config.tokenRanges token) ∧ u.pkgReports Ev.DEBUG_UNLOCKED)) ∧
    (∀ r, s.isOwner q = true → s.svc.unlock = some r → ∃ u, exec (.debugLock q 1) s = .next u ∧ s.Replies u q Ob.DEBUG_LOCK 0 0 [] ∧
      u.svc.unlock = none ∧ u.svc.testPermitted = false ∧ u.cell debugRightsKey 0 = 0 ∧ u.pkgReports Ev.DEBUG_RELOCKED ∧ ∀ v, (u.tile v).med.slots = (s.tile v).med.slots) ∧
    (∀ part t, part < 64 → t < s.n → s.rootLost t part = true →
      ∃ u, exec (.sealRootAdopt q part t) s = .next u ∧ s.Replies u q (Ob.inst Ob.SEAL_ROOT_ADOPT part) 0 0 [] ∧ u.rootLost t part = false ∧
        u.pkgReports Ev.ROOT_ADOPTED ∧ ∀ v, (u.tile v).med = (s.tile v).med)

/-- R450, R456 to R465, R470, R471: a snapshot opens with an odd sequence and waits for its latch, which copies the live counters and closes it; a
publish takes every occurrence staged; a clear and a release wait for the publish of their recorders and are answered by it; entries are returned
from a sequence number on; the recorder and the slot rings are saved. -/
def Obligations.CountersAndRecorders : Prop :=
  (∀ (q : Requester) (s : State), s.Takes q → s.inService = true → s.Sized →
    (∀ v, (v < s.n ∧ s.tileActive v = true) ∨ v = 0xFF → s.cnt.snapArg = none →
      ∃ u, exec (.cntSnapshot q v) s = .next u ∧ u.cnt.snapSeq = s.cnt.snapSeq + 1 ∧ u.cnt.snapArg = some v ∧
        u.cnt.snapAt = s.pkgNow + 10000 ∧ s.Waits u q Ob.CNT_SNAPSHOT .snapshot ∧ u.tiles = s.tiles) ∧
    (∀ t seq, t < s.n → (s.tile t).fence.st ≠ .fenced → seq < 2 ^ 32 → ∃ u, exec (.recNext q t seq) s = .next u ∧
      s.Replies u q (Ob.inst Ob.REC_NEXT t) 0 0 (s.recNext t seq) ∧ u.recs = s.recs ∧ u.tiles = s.tiles) ∧
    (∀ seq, seq < 2 ^ 32 → ∃ u, exec (.recPkgNext q seq) s = .next u ∧ s.Replies u q Ob.REC_PKG_NEXT 0 0 (s.recNext 8 seq) ∧
      u.recs = s.recs ∧ u.tiles = s.tiles) ∧
    (∀ t seq, t < s.n → (s.tile t).fence.st ≠ .fenced → seq ≤ (s.rec_ t).head → seq < 2 ^ 32 →
      ∃ u, exec (.recRelease q t seq) s = .next u ∧ (u.rec_ t).releaseTo = (s.rec_ t).releaseTo ++ [seq] ∧ (u.rec_ t).ring = (s.rec_ t).ring ∧
        s.Waits u q (Ob.inst Ob.REC_RELEASE t) (.publish [t]) ∧ u.tiles = s.tiles) ∧
    (∀ seq, seq ≤ (s.rec_ 8).head → seq < 2 ^ 32 → ∃ u, exec (.recPkgRelease q seq) s = .next u ∧
      (u.rec_ 8).releaseTo = (s.rec_ 8).releaseTo ++ [seq] ∧ (u.rec_ 8).ring = (s.rec_ 8).ring ∧
      s.Waits u q Ob.REC_PKG_RELEASE (.publish [8]) ∧ u.tiles = s.tiles) ∧
    (∃ u, exec (.recClear q 0x10) s = .next u ∧ (u.rec_ 8).clears = (s.rec_ 8).clears ++ [0x10] ∧ (u.rec_ 8).sums = (s.rec_ 8).sums ∧
      u.pkgReports Ev.REC_CLEARED ∧ s.Waits u q Ob.REC_CLEAR (.publish [8]) ∧ u.tiles = s.tiles)) ∧
  (∀ (q : Requester) (t : Nat) (s : State), t < s.n → s.Sized → s.tileActive t = true → s.cnt.snapArg = some t → s.cnt.snapDone = [] →
    s.cnt.snapAt ≤ s.now t → s.cnt.live.wf = true → s.OnlyWaits q Ob.CNT_SNAPSHOT .snapshot →
    ∃ u, exec .cntSnapshotLatch s = .next u ∧ u.cnt.snapArg = none ∧ u.cnt.snapSeq = s.cnt.snapSeq + 1 ∧ u.cnt.snapTime = s.cnt.snapAt ∧
      (∀ c, counterGroup c = t → u.cnt.snap.getD c 0 = s.cnt.live.getD c 0) ∧ s.Replies u q Ob.CNT_SNAPSHOT 0 0 [] ∧
      u.mgmt.messages = [] ∧ u.tiles = s.tiles) ∧
  (∀ (q : Requester) (r : Nat) (s : State), r ≤ 8 → s.Sized → s.publishDue r = true → (s.rec_ r).staged = [] → (s.rec_ r).clears ≠ [] →
    s.OnlyWaits q Ob.REC_CLEAR (.publish [r]) →
    ∃ u, exec (.recPublish r) s = .next u ∧ s.Replies u q Ob.REC_CLEAR 0 0 [] ∧ u.mgmt.messages = [] ∧ (u.rec_ r).clears = [] ∧
      (∀ x ∈ (u.rec_ r).sums, x.2.count = 0) ∧ (u.rec_ r).head = (s.rec_ r).head ∧ u.tiles = s.tiles) ∧
  (∀ (r : Nat) (o : Occ) (ring : List RecEntry) (s : State), r ≤ 8 → s.Sized → s.publishDue r = true → s.mgmt.messages = [] →
    (s.rec_ r).staged = [o] → (s.rec_ r).clears = [] → (s.rec_ r).releaseTo = [] → (∀ e ∈ (s.rec_ r).ring, e.seq ≠ 0) →
    r < 8 ∨ severity o.code < 3 → 10 ^ 9 ≤ (s.bucketAt (s.rec_ r) o.code o.ts).level →
    placeEntry (recRingSize r) (s.rec_ r).ring ((s.rec_ r).entryOf o) = some ring →
    ∃ u, exec (.recPublish r) s = .next u ∧ (u.rec_ r).ring = ring ∧ (u.rec_ r).staged = [] ∧ (u.rec_ r).head = (s.rec_ r).head + 1 ∧
      (u.rec_ r).sums.getD o.code (Summary.empty 0) = ((s.rec_ r).sums.getD o.code (Summary.empty 0)).add o ∧
      (u.rec_ (if r < 8 then r else 0)).changed = true ∧ u.tiles = s.tiles) ∧
  (∀ (t : Nat) (s : State), s.Sized → s.saveDue t = true → ∃ u, exec (.recSave t) s = .next u ∧
    (u.tile t).ps.recImage = some (s.recImages t).1 ∧ (t < 2 → (u.tile t).ps.pkgImage = some (s.recImages t).2) ∧ (u.rec_ t).changed = false ∧
    (u.rec_ t).lastSave = some (s.now t) ∧ (u.rec_ t).ring = (s.rec_ t).ring ∧ (∀ v, v ≠ t → u.tile v = s.tile v) ∧ u.out = s.out) ∧
  (∀ (t : Nat) (s : State), t < s.n → s.Sized → (s.tile t).sup.railsUp = true →
    (∃ u, exec (.pstoreRingSave t 2) s = .next u ∧ (u.tile t).ps = (s.tile t).ps.saveRing 2 (s.tile t).pat.drift ∧
      (∀ v, v ≠ t → u.tile v = s.tile v) ∧ u.out = s.out) ∧
    (∃ u, exec (.pstoreRingSave t 4) s = .next u ∧ (u.tile t).ps = (s.tile t).ps.saveRing 4 (s.tile t).med.strokes ∧ u.out = s.out) ∧
    (∃ u, exec (.pstoreRingSave t 5) s = .next u ∧ (u.tile t).ps = (s.tile t).ps.saveRing 5 ((s.tile t).time.onNs / 10 ^ 9) ∧ u.out = s.out) ∧
    (∃ u, exec (.pstoreRingSave t 6) s = .next u ∧
      (∀ v, v < s.n → s.tileActive v = true → (u.tile v).ps = (s.tile v).ps.saveRing 6 (s.cell Ob.TEMP_MAX_LIFE_C 0)) ∧ u.out = s.out))

/-! ### Power and lifecycle (14, 18) -/

/-- R477, R489 to R491, R494, R498: the cores run the image of the boot record when it may boot, else the other, else the device is HALTED; a live
update runs through its five steps and fails without harm in the first two; an activation at reset names the other image; FW_SVN_COMMIT raises the
floor to the running image's SVN; an owner's certificate is installed over a session; DECOMMISSION starts an erasure that ends with no owner. -/
def Obligations.FirmwareAndOwner : Prop :=
  (∀ (q : Requester) (s : State), s.Takes q → s.Sized →
    (s.liveReady = true → ∃ u, exec (.fwActivateLive q) s = .next u ∧ s.Replies u q Ob.FW_ACTIVATE 0 0 [] ∧ u.mgmt.update = 1 ∧
      u.mgmt.standbySync = false ∧ u.fw.activation = 1 ∧ u.fw.running = s.fw.running ∧ u.tiles = s.tiles) ∧
    (s.otherReady = true → ∃ u, exec (.fwActivateAtReset q) s = .next u ∧ s.Replies u q Ob.FW_ACTIVATE 0 0 [] ∧
      u.fw.nextBoot = 1 - s.fw.running ∧ u.fw.running = s.fw.running ∧ u.pkgReports Ev.FW_ACTIVATED ∧ u.tiles = s.tiles) ∧
    (s.ownerRights q = true → s.fw.svnMin < s.runningSlot.svn → ∃ u, exec (.fwSvnCommit q 1) s = .next u ∧
      s.Replies u q Ob.FW_SVN_COMMIT 0 0 [] ∧ u.fw.svnMin = s.runningSlot.svn ∧ u.fw.slots = s.fw.slots ∧ u.pkgReports Ev.FW_SVN_COMMITTED ∧
      u.tiles = s.tiles) ∧
    (∀ cert, cert < 256 ^ 1024 → (s.sessionOf q).isSome = true → s.ownerRights q = true →
      ∃ u, exec (.ownerInstall q cert) s = .next u ∧ u.tiles = s.tiles ∧ u.keys = s.keys ∧
        (if Config.certOk cert = true then s.Replies u q Ob.OWNER_INSTALL 0 0 [] ∧ u.svc.owner = some cert ∧
            (∀ x ∈ u.mgmt.sessions, x.owner = false) ∧ u.pkgReports Ev.OWNER_INSTALLED
          else s.Replies u q Ob.OWNER_INSTALL Err.range 0 [] ∧ u.svc = s.svc)) ∧
    (s.ownerRights q = true → s.eraseLegal = true → s.svc.eraseState ≠ 1 → ∃ u, exec (.decommission q 1) s = .next u ∧
      s.Replies u q Ob.DECOMMISSION 0 0 [] ∧ u.svc.eraseState = 1 ∧ u.svc.eraseKind = 3 ∧
      ∀ t, t < s.n → (u.tile t).res.entries = [] ∧ (u.tile t).map.poison = [])) ∧
  (∀ s : State, s.inService = true → s.svc.eraseState = 1 → s.svc.eraseKind = 3 → s.Sized →
    ∃ u, exec .eraseDone s = .next u ∧ u.svc.owner = none ∧ u.svc.eraseState = 2 ∧ u.pkgReports Ev.DECOMMISSIONED ∧
      ∀ r, r < 9 → (u.rec_ r).sums = [] ∧ (u.rec_ r).ring = []) ∧
  (∀ s : State, s.Sized →
    (s.mgmt.update = 1 → ∃ u, exec (.liveUpdateStepDone true) s = .next u ∧ u.mgmt.update = 2 ∧ u.fw = s.fw ∧ u.tiles = s.tiles) ∧
    (s.mgmt.update = 2 → ∃ u, exec (.liveUpdateStepDone true) s = .next u ∧ u.mgmt.update = 3 ∧ u.mgmt.standbySync = true ∧ u.fw = s.fw ∧
      u.tiles = s.tiles) ∧
    (∀ a, s.mgmt.update = 3 → s.mgmt.active = some a → ∃ u, exec (.liveUpdateStepDone true) s = .next u ∧ u.mgmt.update = 4 ∧
      u.mgmt.active = some (1 - a) ∧ u.mgmt.sessions = [] ∧ u.fw.running = 1 - s.fw.running ∧ u.fw.slots = s.fw.slots ∧
      u.pkgReports Ev.CORE_TAKEOVER) ∧
    (s.mgmt.update = 4 → ∃ u, exec (.liveUpdateStepDone true) s = .next u ∧ u.mgmt.update = 5 ∧ u.fw.nextBoot = s.fw.running ∧
      u.fw.running = s.fw.running ∧ u.pkgReports Ev.FW_ACTIVATED ∧ u.tiles = s.tiles) ∧
    (s.mgmt.update = 5 → ∃ u, exec (.liveUpdateStepDone true) s = .next u ∧ u.mgmt.update = 0 ∧ u.mgmt.standbySync = true ∧
      u.fw.activation = 3 ∧ u.tiles = s.tiles) ∧
    (s.mgmt.update = 1 ∨ s.mgmt.update = 2 → ∃ u, exec (.liveUpdateStepDone false) s = .next u ∧ u.mgmt.update = 0 ∧ u.fw.activation = 4 ∧
      u.fw.running = s.fw.running ∧ u.fw.nextBoot = s.fw.nextBoot ∧ u.pkgReports Ev.FW_ACTIVATION_FAILED ∧ u.tiles = s.tiles)) ∧
  (∀ (a b : Bool) (s : State), s.Sized → s.dev.st = .aux → s.mgmt.booted = false → s.fw.nextBoot ≤ 1 →
    let signed (i : Nat) : Bool := if i = 0 then a else b
    (s.bootable s.fw.nextBoot (signed s.fw.nextBoot) = true → ∃ u, exec (.firmwareBootDone a b) s = .next u ∧ u.mgmt.booted = true ∧
      u.fw.running = s.fw.nextBoot ∧ u.mgmt.active = some 0 ∧ u.dev.st = .aux ∧ u.tiles = s.tiles) ∧
    (s.bootable s.fw.nextBoot (signed s.fw.nextBoot) = false → s.bootable (1 - s.fw.nextBoot) (signed (1 - s.fw.nextBoot)) = true →
      ∃ u, exec (.firmwareBootDone a b) s = .next u ∧ u.mgmt.booted = true ∧ u.fw.running = 1 - s.fw.nextBoot ∧ u.dev.st = .aux ∧
        u.pkgReports Ev.FW_IMAGE_FALLBACK ∧ u.tiles = s.tiles) ∧
    (s.bootable 0 a = false → s.bootable 1 b = false → ∃ u, exec (.firmwareBootDone a b) s = .next u ∧ u.dev.st = .halted ∧
      u.mgmt.booted = false ∧ u.tiles = s.tiles))

/-- R409, R414, R475, R484: each cause starts a DRAIN from service: memory goes inactive, sessions end, the cause is kept and recorded, the main
domain is cut only for the causes that run from VHOLD, and no accepted write is lost (stated with no migration under way). RESET_N in SAFE reboots
the cores; a loss of VAUX out of service leaves the medium, the maps and the keys. -/
def Obligations.DrainBegins : Prop :=
  (∀ (s : State) (q : Requester) (c : Nat) (i : Instr), s.Sized → s.inService = true → (∃ t, t < s.n ∧ s.tileActive t = true) →
    (∀ t, t < s.n → (s.tile t).map.migs = []) →
    ((i = .resetNLow ∧ c = 1) ∨ (i = .powerDown q 1 ∧ c = 2 ∧ s.Takes q) ∨ (i = .seqInLow ∧ c = 3) ∨ (i = .pwrfailNLow ∧ c = 4) ∨
      (i = .vinComparatorTrip ∧ c = 5) ∨ (i = .vauxRemoved ∧ c = 6)) →
    ∃ u, exec i s = .next u ∧ u.dev.st = .drain ∧ u.dev.drainCause = c ∧ u.dev.memActive = false ∧ u.mgmt.sessions = [] ∧
      u.dev.mainUp = (s.dev.mainUp && !cutsMain c) ∧ u.pkgReports Ev.DRAIN_ENTERED ∧ (∀ p, p < 8 → (u.port p).up = false) ∧
      (∀ t, (u.tile t).med.slots = (s.tile t).med.slots ∧ (u.tile t).res.entries = (s.tile t).res.entries)) ∧
  (∀ s : State, s.Sized → s.dev.st = .safe → ∃ u, exec .resetNLow s = .next u ∧ u.dev.st = .aux ∧ u.mgmt.booted = false ∧ u.mgmt.sessions = [] ∧
    u.keys = s.keys ∧ ∀ t, (u.tile t).med.slots = (s.tile t).med.slots) ∧
  (∀ s : State, s.dev.st = .aux ∨ s.dev.st = .safe ∨ s.dev.st = .halted → ∃ u, exec .vauxRemoved s = .next u ∧ u.dev.st = .unpowered ∧
    u.keys.slots = s.keys.slots ∧ u.parts = s.parts ∧ u.mgmt.sessions = [] ∧ u.fw.svnMin = s.fw.svnMin ∧ u.svc.owner = s.svc.owner ∧ u.out = s.out ∧
    ∀ t, t < s.tiles.length → (u.tile t).med.slots = (s.tile t).med.slots ∧ (u.tile t).map = (s.tile t).map ∧ (u.tile t).ps = (s.tile t).ps)

/-- R149 to R151, R411 to R413, R484: in DRAIN a tile whose lines are all flushed saves its rings and commits FLUSH_DONE with the present
generation; a tile that falls silent is stopped and none of its slots changes but those of its running strokes; the mirror tile writes the shadow
record that is due; with nothing left the device is SAFE; from SAFE it starts again when the inputs are ready and its cause allows it. -/
def Obligations.DrainEnds : Prop :=
  (∀ (t v : Nat) (s : State), s.Sized → s.dev.st = .drain → s.reconciled = true → s.flushOpen.contains t = true → s.flushOpen.contains v = true →
    v ≠ t → (s.tile t).flushed = true → s.deltasToCome t = false →
    ∃ u, exec (.drainFlushDone t) s = .next u ∧ u.dev.st = .drain ∧ u.dev.flushDone = s.dev.flushDone ++ [t] ∧
      (u.tile t).ps.flushDone = (s.tile t).ps.ringValue 0 ∧ (u.tile t).res.flush = 2 ∧ u.tileReports t Ev.FLUSH_DONE_RECORDED ∧
      (∀ w, (u.tile w).med = (s.tile w).med) ∧ u.out = s.out) ∧
  (∀ (t v : Nat) (s : State), s.Sized → s.dev.st = .drain → s.flushOpen.contains t = true → s.flushOpen.contains v = true → v ≠ t →
    ∃ u, exec (.tileFlushSilence t) s = .next u ∧ u.dev.st = .drain ∧ u.dev.flushStop = s.dev.flushStop ++ [t] ∧ (u.tile t).res.strokes = [] ∧
      (u.tile t).res.entries = (s.tile t).res.entries ∧ (s.mirrorOf t < s.n → u.tileReports (s.mirrorOf t) Ev.FLUSH_STOPPED) ∧
      (∀ k, (∀ x ∈ (s.tile t).res.strokes, x.running = true → x.slot ≠ k) →
        Sparse.find (u.tile t).med.slots k = Sparse.find (s.tile t).med.slots k) ∧ (∀ w, w ≠ t → u.tile w = s.tile w)) ∧
  (∀ (t : Nat) (r : ShadowRec) (s : State), s.Sized → s.dev.st = .drain → s.dev.recordsDue.contains t = true → s.mirrorOf t < s.n →
    s.recordToWrite (s.mirrorOf t) t = some r → s.flushOpen ≠ [] →
    ∃ u, exec (.shadowRecordWrite t) s = .next u ∧ r ∈ (u.tile (s.mirrorOf t)).ps.shadowRecs ∧
      u.dev.recordsDue = s.dev.recordsDue.filter (fun w => decide (w ≠ t)) ∧ u.dev.st = .drain ∧
      (∀ w, (u.tile w).med = (s.tile w).med ∧ (u.tile w).res = (s.tile w).res) ∧ u.out = s.out) ∧
  (∀ (t : Nat) (s : State), s.Sized → s.dev.st = .drain → s.dev.recordsDue = [t] → s.flushOpen = [] → s.sup.vauxGone = false →
    ∃ u, exec (.shadowRecordWrite t) s = .next u ∧ u.dev.st = .safe ∧ u.dev.mainUp = false ∧ u.sup.seqOut = false ∧ u.dev.drainCause = s.dev.drainCause ∧
      ∀ w, w < s.n → (u.tile w).sup.railsUp = false) ∧
  (∀ (cycled : Bool) (s : State), s.dev.st = .safe → s.inputsReady = true → s.dev.drainCause ≠ 8 → s.dev.drainCause ≠ 2 ∨ cycled = true →
    ∃ u, exec (.safeRestart cycled) s = .next u ∧ u.dev.st = .seq ∧ u.sup.step = some 0 ∧ u.sup.attempts = 1 ∧ u.keys = s.keys ∧
      u.tiles = s.tiles) ∧
  (∀ (q : Requester) (s : State), s.Takes q → s.dev.st = .safe → s.dev.drainCause = 2 →
    ∃ u, exec (.powerUp q 1) s = .next u ∧ s.Replies u q Ob.POWER_UP 0 0 [] ∧ u.tiles = s.tiles ∧ u.keys = s.keys ∧
      (if s.inputsReady = true ∧ s.sup.seqIn = true ∧ s.sup.pwrfailN = true ∧ s.sup.resetN = true then u.dev.st = .seq ∧ u.sup.step = some 0
        else u.dev.st = .safe ∧ u.dev.upReq = true))

/-- R396 to R400, R406, R407, R475: VAUX takes the device to AUX; with its firmware up, SEQ_IN starts the sequence, whose steps follow one
another, with the persistence rails on after P3, SEQ_OUT high from P4, the main domain on after P5, and TEST after P9; a failure of a step turns the
rails off and tries again after 100 ms, or halts the device once the retries are used; a fall of SEQ_IN breaks the sequence off; the measurement of
the bank in P8 gives C, or 0 when the bank is out of its limits. -/
def Obligations.PowerSequence : Prop :=
  (∀ s : State, s.dev.st = .unpowered → ∃ u, exec .vauxOn s = .next u ∧ u.dev.st = .aux ∧ u.tiles = s.tiles ∧ u.keys = s.keys) ∧
  (∀ s : State, s.dev.st = .aux → s.mgmt.booted = true → ∃ u, exec .seqInAccepted s = .next u ∧ u.dev.st = .seq ∧ u.sup.step = some 0 ∧
    u.sup.attempts = 1 ∧ u.sup.seqIn = true ∧ u.tiles = s.tiles ∧ u.keys = s.keys ∧ u.out = s.out) ∧
  (∀ (k : Nat) (s : State), s.Sized → s.dev.st = .seq → s.sup.step = some k → s.sup.retryAt = none →
    (k < 8 ∨ (k = 8 ∧ s.sup.p8Done = true) → ∃ u, exec .seqStepDone s = .next u ∧ u.sup.step = some (k + 1) ∧ u.dev.st = .seq ∧
      (k = 3 → ∀ t, t < s.n → (u.tile t).sup.railsUp = true) ∧ (k = 4 → u.sup.seqOut = true) ∧ (k = 5 → u.dev.mainUp = true) ∧
      (∀ t, (u.tile t).med = (s.tile t).med) ∧ u.out = s.out) ∧
    (k = 9 → ∃ u, exec .seqStepDone s = .next u ∧ u.dev.st = .test ∧ u.dev.bringup = 1 ∧ u.sup.step = none ∧
      u.dev.portsMode = s.cell Ob.PAIR_PORT_MODE 0 ∧ (∀ t, (u.tile t).med = (s.tile t).med) ∧ u.out = s.out)) ∧
  (∀ (k point : Nat) (s : State), s.Sized → s.dev.st = .seq → s.sup.step = some k → s.sup.retryAt = none →
    ∃ u, exec (.sequenceFailure point) s = .next u ∧ u.cell Ob.SEQ_FAIL_STEP 0 = k ∧ u.cell Ob.SEQ_FAIL_POINT 0 = point ∧ u.dev.mainUp = false ∧
      (∀ t, t < s.n → (u.tile t).sup.railsUp = false) ∧ (∀ t, (u.tile t).med = (s.tile t).med) ∧
      (if s.sup.attempts ≤ s.cell Ob.SEQ_RETRIES 3 then u.dev.st = .seq ∧ u.sup.retryAt = some (s.pkgNow + 100000000) ∧ u.pkgReports Ev.SEQ_RETRY
        else u.dev.st = .halted ∧ u.sup.step = none ∧ u.sup.seqOut = true ∧ u.pkgReports Ev.SEQ_HALTED)) ∧
  (∀ (a : Nat) (s : State), s.dev.st = .seq → s.sup.retryAt = some a → a ≤ s.pkgNow → ∃ u, exec .seqRetry s = .next u ∧ u.sup.step = some 0 ∧
    u.sup.retryAt = none ∧ u.sup.attempts = s.sup.attempts + 1 ∧ u.cell Ob.SEQ_ATTEMPTS_LAST 0 = s.sup.attempts + 1 ∧ u.tiles = s.tiles) ∧
  (∀ s : State, s.dev.st = .halted → s.mgmt.booted = true → ∃ u, exec .haltedExit s = .next u ∧ u.dev.st = .aux ∧ u.sup.seqIn = true ∧
    u.tiles = s.tiles) ∧
  (∀ s : State, s.Sized → s.dev.st = .seq → ∃ u, exec .seqInFallInSeq s = .next u ∧ u.dev.st = .aux ∧ u.sup.step = none ∧ u.sup.seqOut = false ∧
    u.dev.mainUp = false ∧ (∀ t, t < s.n → (u.tile t).sup.railsUp = false) ∧ ∀ t, (u.tile t).med = (s.tile t).med) ∧
  (∀ (dt step : Nat) (s : State), s.Sized → s.dev.st = .seq → s.sup.step = some 8 → s.sup.p8Done = false →
    ∃ u, exec (.holdupMeasured dt step) s = .next u ∧ u.sup.p8Done = true ∧ u.tiles = s.tiles ∧
      (if 1000 * s.part.esrLimit < step * 2 then u.sup.cap = 0 ∧ u.sup.esrHigh = true ∧ u.pkgReports Ev.HOLDUP_FAULT
        else if dt < 4120000 then u.sup.cap = 0 ∧ u.sup.capLow = true ∧ u.pkgReports Ev.HOLDUP_FAULT
        else u.sup.cap = min (2425 * dt) (22 * 10 ^ 10) ∧ u.sup.esr = step * 2 / 1000 ∧ u.pkgReports Ev.HOLDUP_MEASURED)) ∧
  (∀ (reason esr : Nat) (s : State), s.Sized → s.dev.st = .seq → s.sup.step = some 8 → s.sup.p8Done = false →
    (reason = 1 ∧ s.sup.p4At + 650000000 ≤ s.pkgNow) ∨ reason = 2 ∨ reason = 3 →
    ∃ u, exec (.holdupFault reason esr) s = .next u ∧ u.sup.cap = 0 ∧ u.sup.p8Done = true ∧ u.pkgReports Ev.HOLDUP_FAULT ∧ u.tiles = s.tiles)

/-- R392 to R394, R401 to R404: the scan takes the samples of the sense points in turn, and its last sample completes the VIN power reading
(R345; that the reading comes with the last sample is the model's choice, assumption 23); a persistence rail out of its window in service makes its
tile a suspect, a running rail starts a DRAIN, a reference moves the scan to the other converter. A tile's VDDK follows its margin in steps of 5 mV
between 600 and 850 mV; VDDC follows the highest need by 10 mV; a lost AVS link is recorded and degrades the device. -/
def Obligations.SupplyIsWatched : Prop :=
  (∀ (mv mw : Nat) (s : State), s.dev.st ≠ .unpowered → s.dev.st ≠ .drain → s.sup.nextPoint < s.sup.sense.length →
    railOf s.n s.sup.nextPoint ≠ .vin → railOf s.n s.sup.nextPoint ≠ .vhold → s.inWindow (railOf s.n s.sup.nextPoint) mv = true →
    ∃ u, exec (.railSample mv mw) s = .next u ∧ u.sup.sense.getD s.sup.nextPoint 0 = mv ∧
      u.sup.nextPoint = (if s.sup.nextPoint + 1 < s.points then s.sup.nextPoint + 1 else 0) ∧ u.dev = s.dev ∧ u.tiles = s.tiles ∧ u.ports = s.ports ∧
      u.feed.powerNow = (if s.sup.nextPoint + 1 < s.points then s.feed.powerNow else mw)) ∧
  (∀ (mv mw t : Nat) (s : State), s.Sized → s.fenceStates = true → (railOf s.n s.sup.nextPoint).persistence = some t → t < s.n →
    s.inWindow (railOf s.n s.sup.nextPoint) mv = false → s.tileActive t = true → s.sup.scanTiles = [] →
    ∃ u, exec (.railSample mv mw) s = .next u ∧ (u.tile t).fence.st = .fencing ∧ (u.tile t).fence.cause = 2 ∧ u.tileReports t Ev.TILE_RAIL_FAULT ∧
      u.pkgReports Ev.RAIL_FAULT) ∧
  (∀ (mv mw t : Nat) (s : State), s.Sized → s.inService = true → railOf s.n s.sup.nextPoint = .vddp t ∨ railOf s.n s.sup.nextPoint = .vdda t ∨
      railOf s.n s.sup.nextPoint = .vddc t ∨ railOf s.n s.sup.nextPoint = .vddio →
    s.inWindow (railOf s.n s.sup.nextPoint) mv = false → (∃ v, v < s.n ∧ s.tileActive v = true) →
    ∃ u, exec (.railSample mv mw) s = .next u ∧ u.dev.st = .drain ∧ u.dev.drainCause = 6 ∧ u.dev.memActive = false ∧ u.pkgReports Ev.DRAIN_ENTERED) ∧
  (∀ (mv mw : Nat) (s : State), s.Sized → s.dev.st ≠ .unpowered → railOf s.n s.sup.nextPoint = .refLo ∨ railOf s.n s.sup.nextPoint = .refHi →
    s.inWindow (railOf s.n s.sup.nextPoint) mv = false →
    ∃ u, exec (.railSample mv mw) s = .next u ∧ u.sup.converter = 1 - s.sup.converter ∧ u.sup.convFault = true ∧ u.sup.nextPoint = 0 ∧
      u.pkgReports Ev.CONVERTER_FAULT ∧ u.tiles = s.tiles) ∧
  (∀ (t : Nat) (margin : Int) (need : Nat) (s : State), s.Sized → t < s.n → (s.tile t).sup.railsUp = true →
    ∃ u, exec (.replicaMeasure t margin need) s = .next u ∧ (u.tile t).sup.margin = margin ∧ (u.tile t).sup.need = need ∧
      (margin < 200 → (u.tile t).sup.vddk = min 850 ((s.tile t).sup.vddk + 5)) ∧
      (200 ≤ margin → margin ≤ 600 → (u.tile t).sup.vddk = (s.tile t).sup.vddk) ∧
      (∀ a, 600 < margin → (s.tile t).sup.above6 = some a → a + 100000 ≤ s.now t →
        (u.tile t).sup.vddk = max 600 ((s.tile t).sup.vddk - 5)) ∧
      (∀ v, v ≠ t → u.tile v = s.tile v) ∧ (u.tile t).med = (s.tile t).med) ∧
  (∀ s : State, s.dev.mainUp = true → s.sup.avsLost = false → s.sup.vddcCmd ≠ 0 → s.sup.vddcAt + 100000 ≤ s.pkgNow →
    let want := min 900 (max 650 ((s.activeTiles.map (fun t => (s.tile t).sup.need)).foldl max 0 + 10))
    want ≠ s.sup.vddcCmd →
    ∃ u, exec .avsCommand s = .next u ∧ u.sup.vddcCmd = want ∧ u.sup.vddcAt = s.pkgNow ∧ u.tiles = s.tiles ∧
      u.counter Cn.AVS_COMMANDS = (s.counter Cn.AVS_COMMANDS + 1) % 2 ^ 48) ∧
  (∀ s : State, s.Sized → s.dev.mainUp = true → s.sup.avsLost = false → ∃ u, exec .avsLinkLost s = .next u ∧ u.sup.avsLost = true ∧
    u.pkgReports Ev.AVS_LINK_LOST ∧ (s.dev.st = .ready → u.dev.st = .degraded) ∧ u.tiles = s.tiles)

/-- R31, R152, R384, R471, R475, R476, R478: the steps of the bring-up follow one another; the flush generation rises by one in every tile before
REBUILD; a dirty shutdown is counted; memory is active after the last. A device leaves DEGRADED when no condition holds. A tick moves every timebase. -/
def Obligations.BringUpAndTime : Prop :=
  (∀ (found : List Nat) (s : State), s.Sized → s.dev.st = .test → s.dev.bringup = 1 → ∃ u, exec (.bringupStepDone found) s = .next u ∧
    u.dev.bringup = 2 ∧ u.dev.st = .test ∧ (u.key 0).st ≠ .empty ∧ ∀ t, (u.tile t).med.slots = (s.tile t).med.slots) ∧
  (∀ s : State, s.Sized → s.dev.st = .test → s.dev.bringup = 2 → s.upTiles ≠ [] → ∃ u, exec (.bringupStepDone []) s = .next u ∧
    u.dev.bringup = 3 ∧ u.dev.st = .test ∧ ∀ t, (u.tile t).fence.st = (s.tile t).fence.st ∧ (u.tile t).med = (s.tile t).med) ∧
  (∀ (found : List Nat) (s : State), s.Sized → s.dev.st = .test → s.dev.bringup = 3 → ∃ u, exec (.bringupStepDone found) s = .next u ∧
    u.dev.bringup = 4 ∧ u.dev.st = .rebuild ∧ (∀ t, t < s.n → (s.tile t).fence.st ≠ .fenced → 0 < (s.tile t).ps.rings.length →
      (u.tile t).ps.ringValue 0 = some (s.generation + 1)) ∧ ∀ t, (u.tile t).med = (s.tile t).med) ∧
  (∀ (found : List Nat) (k : Nat) (s : State), s.Sized → s.dev.st = .rebuild → s.dev.bringup = k → 4 ≤ k → k ≤ 6 →
    ∃ u, exec (.bringupStepDone found) s = .next u ∧ u.dev.bringup = k + 1 ∧ u.dev.memActive = s.dev.memActive ∧
      (k = 6 → s.mgmt.journal = none → s.cell Ob.SHUTDOWN_STATE 0 = 1 →
        u.cell Ob.DIRTY_SHUTDOWN_COUNT 0 = s.cell Ob.DIRTY_SHUTDOWN_COUNT 0 + 1)) ∧
  (∀ (found : List Nat) (s : State), s.Sized → s.dev.st = .rebuild → s.dev.bringup = 7 → s.svc.eraseState ≠ 3 →
    ∃ u, exec (.bringupStepDone found) s = .next u ∧ u.dev.bringup = 8 ∧ u.dev.memActive = true ∧
      u.dev.st = (if s.degradedCondition then .degraded else .ready) ∧ u.pkgReports Ev.BRINGUP_DONE ∧ u.tiles = s.tiles) ∧
  (∀ s : State, s.Sized → s.dev.st = .degraded → s.degradedCondition = false → ∃ u, exec .degradedExit s = .next u ∧ u.dev.st = .ready ∧
    u.pkgReports Ev.DEVICE_STATE_CHANGED ∧ u.tiles = s.tiles ∧ u.ports = s.ports) ∧
  (∀ (k : Nat) (s : State), s.Sized → s.dev.st ≠ .unpowered → ∃ u, exec (.timebaseTick k) s = .next u ∧
    (∀ t, t < s.n → u.now t = s.now t + k ∧ (u.tile t).time.onNs = (s.tile t).time.onNs + k) ∧ s.SameMedium u ∧ u.dev = s.dev ∧
    u.ports.length = s.ports.length ∧ u.obj = s.obj ∧ u.out = s.out)

/-- Right after reset the device is in AUX with memory inactive, no command waiting and nothing handed out; no key is loaded, no partition is
enabled, every slot of the medium is as the last blanking left it, every line is FRESH, every object has its default, every counter is 0, the
firmware floor stands where it is kept, and the stores are in their canonical form. -/
def Obligations.ResetState : Prop :=
  State.reset.dev.st = .aux ∧ State.reset.dev.memActive = false ∧ State.reset.dev.mainUp = false ∧ State.reset.pending = [] ∧ State.reset.out = [] ∧
  (∀ k, (State.reset.key k).st = .empty) ∧ (∀ p, (State.reset.partn p).st = 0) ∧
  (∀ t, (State.reset.tile t).med.slots = [] ∧ (State.reset.tile t).res.entries = [] ∧ (State.reset.tile t).map.poison = []) ∧
  (∀ t l, ((State.reset.tile t).map.entry l).st = .fresh) ∧ (∀ t, t < 8 → State.reset.tileActive t = true) ∧
  (∀ p, State.reset.applied p = State.reset.default p) ∧ (∀ c, State.reset.counter c = 0) ∧ (∀ p, (State.reset.port p).up = false) ∧
  State.reset.mgmt.sessions = [] ∧ State.reset.mgmt.sets = [] ∧ State.reset.Sized ∧ Memory.wf State.reset = true ∧
  State.reset.KeepsFloor State.reset.fw.svnMin
end

