-- ==== Sys2Proof/Laws/LineCode.lean ====
section
/-! SUPPORT. The line code: the fields of a codeword, and that the decoder finds an encoded line clean. -/
set_option Elab.async false
open Sys2Proof Sys2Proof.Machine
namespace Sys2Proof.Machine
theorem mkCodeword_getLsbD (c : BitVec 16) (k : BitVec 32) (r : BitVec 16) (d : Line) (i : Nat) : (mkCodeword c k r d).getLsbD i =
    if i < 512 then d.getLsbD i else if i - 512 < 16 then r.getLsbD (i - 512) else if i - 528 < 32 then k.getLsbD (i - 528) else c.getLsbD (i - 560) := by
  have e : mkCodeword c k r d = BitVec.cast (m := 576) rfl (c ++ (k ++ (r ++ d))) := rfl
  rw [e, BitVec.getLsbD_cast, BitVec.getLsbD_append, BitVec.getLsbD_append, BitVec.getLsbD_append]
  by_cases h1 : i < 512
  · simp [h1, show i < 560 by omega, show i < 16 + 512 by omega]
  · by_cases h2 : i - 512 < 16
    · simp [h1, h2, show i < 560 by omega, show i < 16 + 512 by omega]
    · by_cases h3 : i - 528 < 32
      · simp [h1, h2, h3, show i < 560 by omega, show ¬ i < 16 + 512 by omega]
      · simp [h1, h2, h3, show ¬ i < 560 by omega]
theorem cwData_mkCodeword (c : BitVec 16) (k : BitVec 32) (r : BitVec 16) (d : Line) : cwData (mkCodeword c k r d) = d := by
  apply BitVec.eq_of_getLsbD_eq
  intro i hi
  rw [cwData, BitVec.getLsbD_extractLsb', mkCodeword_getLsbD]
  simp [hi]
theorem cwRow_mkCodeword (c : BitVec 16) (k : BitVec 32) (r : BitVec 16) (d : Line) : cwRow (mkCodeword c k r d) = r := by
  apply BitVec.eq_of_getLsbD_eq
  intro i hi
  rw [cwRow, BitVec.getLsbD_extractLsb', mkCodeword_getLsbD]
  simp [hi]
theorem cwCol_mkCodeword (c : BitVec 16) (k : BitVec 32) (r : BitVec 16) (d : Line) : cwCol (mkCodeword c k r d) = k := by
  apply BitVec.eq_of_getLsbD_eq
  intro i hi
  rw [cwCol, BitVec.getLsbD_extractLsb', mkCodeword_getLsbD]
  simp [hi, show ¬ 528 + i < 512 by omega, show ¬ 528 + i - 512 < 16 by omega]
theorem cwCrc_mkCodeword (c : BitVec 16) (k : BitVec 32) (r : BitVec 16) (d : Line) : cwCrc (mkCodeword c k r d) = c := by
  apply BitVec.eq_of_getLsbD_eq
  intro i hi
  rw [cwCrc, BitVec.getLsbD_extractLsb', mkCodeword_getLsbD]
  simp [hi, show ¬ 560 + i < 512 by omega, show ¬ 560 + i - 512 < 16 by omega, show ¬ 560 + i - 528 < 32 by omega]
theorem decodeLine_encodeLine (key : BitVec 48) (d : Line) : decodeLine key (encodeLine key d) = .clean d := by
  simp [decodeLine, encodeLine, cwData_mkCodeword, cwRow_mkCodeword, cwCol_mkCodeword, cwCrc_mkCodeword]
theorem xorBits_false (n : Nat) : xorBits (fun _ => false) n = false := by
  induction n with
  | zero => rfl
  | succ n ih => simp [xorBits, ih]
theorem packBits_false (n : Nat) : packBits (fun _ => false) n = 0 := by
  induction n with
  | zero => rfl
  | succ n ih => simp [packBits, ih]
theorem rowPar_zero : rowPar 0#512 = 0#16 := by
  unfold rowPar
  simp only [BitVec.getLsbD_zero, xorBits_false, packBits_false]
theorem colPar_zero : colPar 0#512 = 0#32 := by
  unfold colPar
  simp only [BitVec.getLsbD_zero, xorBits_false, packBits_false]
theorem blankWord_eq (key : BitVec 48) : blankWord key = encodeLine key 0#512 := by
  unfold blankWord encodeLine
  rw [rowPar_zero, colPar_zero]
theorem decodeLine_blankWord (key : BitVec 48) : decodeLine key (blankWord key) = .clean 0#512 := by
  rw [blankWord_eq, decodeLine_encodeLine]
end Sys2Proof.Machine
end

