-- ==== Sys2Proof/Laws/Sparse.lean ====
section
/-! SUPPORT. Laws of sparse stores: a read after a write gives the value written, a write leaves every other key alone, and every
operation keeps the canonical form. -/
set_option Elab.async false
namespace Sys2Proof.Sparse

variable {α : Type}

theorem find_insert_same (m : Sparse α) (k : Nat) (v : α) : find (insert m k v) k = some v := by
  induction m with
  | nil => simp [insert, find]
  | cons a m ih =>
    obtain ⟨j, w⟩ := a
    unfold insert
    split
    · simp [find]
    · split
      · simp [find]
      · rename_i h
        simp [find, h, ih]
theorem find_insert_ne (m : Sparse α) (k j : Nat) (v : α) (h : k ≠ j) : find (insert m k v) j = find m j := by
  induction m with
  | nil => simp [insert, find, h]
  | cons a m ih =>
    obtain ⟨i, w⟩ := a
    unfold insert
    split
    · simp [find, h]
    · split
      · rename_i h2
        subst h2
        simp [find, h]
      · simp only [find, ih]
theorem getD_insert_same (m : Sparse α) (k : Nat) (v d : α) : getD (insert m k v) k d = v := by simp [getD, find_insert_same]
theorem getD_insert_ne (m : Sparse α) (k j : Nat) (v d : α) (h : k ≠ j) : getD (insert m k v) j d = getD m j d := by
  simp [getD, find_insert_ne m k j v h]

theorem risingFrom_mono (m : Sparse α) (a b : Nat) (h : a ≤ b) (hm : risingFrom b m = true) : risingFrom a m = true := by
  cases m with
  | nil => rfl
  | cons x m =>
    obtain ⟨k, v⟩ := x
    simp only [risingFrom, Bool.and_eq_true, decide_eq_true_eq] at *
    exact ⟨by omega, hm.2⟩
theorem find_below (m : Sparse α) (lo k : Nat) (hm : risingFrom lo m = true) (h : k < lo) : find m k = none := by
  induction m generalizing lo with
  | nil => rfl
  | cons x m ih =>
    obtain ⟨j, v⟩ := x
    simp only [risingFrom, Bool.and_eq_true, decide_eq_true_eq] at hm
    simp only [find]
    rw [if_neg (by omega)]
    exact ih (j + 1) hm.2 (by omega)
theorem risingFrom_insert (m : Sparse α) (lo k : Nat) (v : α) (h : lo ≤ k) (hm : risingFrom lo m = true) : risingFrom lo (insert m k v) = true := by
  induction m generalizing lo with
  | nil => simp [insert, risingFrom, h]
  | cons x m ih =>
    obtain ⟨j, w⟩ := x
    simp only [risingFrom, Bool.and_eq_true, decide_eq_true_eq] at hm
    unfold insert
    split
    · simp only [risingFrom, Bool.and_eq_true, decide_eq_true_eq]
      exact ⟨h, by omega, hm.2⟩
    · split
      · subst_vars
        simp only [risingFrom, Bool.and_eq_true, decide_eq_true_eq]
        exact ⟨h, hm.2⟩
      · simp only [risingFrom, Bool.and_eq_true, decide_eq_true_eq]
        exact ⟨hm.1, ih (j + 1) (by omega) hm.2⟩
theorem risingFrom_erase (m : Sparse α) (lo k : Nat) (hm : risingFrom lo m = true) : risingFrom lo (erase m k) = true := by
  induction m generalizing lo with
  | nil => rfl
  | cons x m ih =>
    obtain ⟨j, w⟩ := x
    simp only [risingFrom, Bool.and_eq_true, decide_eq_true_eq] at hm
    unfold erase
    split
    · exact risingFrom_mono m lo (j + 1) (by omega) hm.2
    · simp only [risingFrom, Bool.and_eq_true, decide_eq_true_eq]
      exact ⟨hm.1, ih (j + 1) hm.2⟩
theorem risingFrom_filter (m : Sparse α) (lo : Nat) (p : Nat × α → Bool) (hm : risingFrom lo m = true) :
    risingFrom lo (List.filter p m) = true := by
  induction m generalizing lo with
  | nil => rfl
  | cons x m ih =>
    obtain ⟨j, w⟩ := x
    simp only [risingFrom, Bool.and_eq_true, decide_eq_true_eq] at hm
    rw [List.filter_cons]
    split
    · simp only [risingFrom, Bool.and_eq_true, decide_eq_true_eq]
      exact ⟨hm.1, ih (j + 1) hm.2⟩
    · exact risingFrom_mono _ lo (j + 1) (by omega) (ih (j + 1) hm.2)

/-- A write keeps the canonical form. -/
theorem wf_insert (m : Sparse α) (k : Nat) (v : α) (hm : wf m = true) : wf (insert m k v) = true := risingFrom_insert m 0 k v (Nat.zero_le k) hm
/-- Unlisting a key keeps the canonical form. -/
theorem wf_erase (m : Sparse α) (k : Nat) (hm : wf m = true) : wf (erase m k) = true := risingFrom_erase m 0 k hm
/-- A write that unlists the value of an unlisted key keeps the canonical form. -/
theorem wf_put [DecidableEq α] (m : Sparse α) (d : α) (k : Nat) (v : α) (hm : wf m = true) : wf (put m d k v) = true := by
  unfold put
  split
  · exact wf_erase m k hm
  · exact wf_insert m k v hm
/-- Unlisting the keys that fail a test keeps the canonical form. -/
theorem wf_filter (m : Sparse α) (p : Nat × α → Bool) (hm : wf m = true) : wf (List.filter p m) = true := risingFrom_filter m 0 p hm

theorem find_erase_same (m : Sparse α) (k : Nat) (hm : wf m = true) : find (erase m k) k = none := by
  unfold wf at hm
  generalize 0 = lo at hm
  induction m generalizing lo with
  | nil => rfl
  | cons x m ih =>
    obtain ⟨j, w⟩ := x
    simp only [risingFrom, Bool.and_eq_true, decide_eq_true_eq] at hm
    unfold erase
    split
    · exact find_below m (j + 1) k hm.2 (by omega)
    · rename_i h
      simp only [find]
      rw [if_neg h]
      exact ih (j + 1) hm.2
theorem find_erase_ne (m : Sparse α) (k j : Nat) (h : k ≠ j) : find (erase m k) j = find m j := by
  induction m with
  | nil => rfl
  | cons x m ih =>
    obtain ⟨i, w⟩ := x
    unfold erase
    split
    · rename_i h2
      subst h2
      simp [find, h]
    · simp only [find, ih]
/-- A read after a `put` gives the value put. -/
theorem getD_put_same [DecidableEq α] (m : Sparse α) (d : α) (k : Nat) (v : α) (hm : wf m = true) : getD (put m d k v) k d = v := by
  unfold put
  split
  · subst_vars
    simp [getD, find_erase_same m k hm]
  · exact getD_insert_same m k v d
/-- A `put` leaves every other key alone. -/
theorem getD_put_ne [DecidableEq α] (m : Sparse α) (d : α) (k j : Nat) (v : α) (h : k ≠ j) : getD (put m d k v) j d = getD m j d := by
  unfold put
  split
  · simp [getD, find_erase_ne m k j h]
  · exact getD_insert_ne m k j v d h

end Sys2Proof.Sparse
end

