-- ==== Sys2Proof/Laws/Memory.lean ====
section
/-! SUPPORT. The stores of the state keep their canonical form: what an update of a tile has to keep, and that the operations which write the
medium, its headers, the dictionary cells, the counters and the key table keep it. -/
set_option Elab.async false
open Sys2Proof Sys2Proof.Machine

namespace Sys2Proof.Machine

/-- The stores of one tile are in their canonical form. -/
theorem Memory.wf_iff (s : State) : Memory.wf s = true ↔
    (∀ x ∈ s.tiles, x.med.slots.wf = true ∧ x.med.hdr.wf = true ∧ x.map.map.wf = true ∧ x.map.segs.wf = true) ∧
      s.obj.wf = true ∧ s.cnt.live.wf = true ∧ s.keys.slots.wf = true := by
  simp [Memory.wf, and_assoc]

/-- A changed element of a list is an old one or the change of an old one. -/
theorem mem_modAt {α : Type} (l : List α) (i : Nat) (f : α → α) (y : α) (h : y ∈ modAt l i f) : y ∈ l ∨ ∃ x ∈ l, y = f x := by
  induction l generalizing i with
  | nil => simp [modAt] at h
  | cons a l ih =>
    cases i with
    | zero =>
      rcases List.mem_cons.1 h with h | h
      · exact .inr ⟨a, by simp, h⟩
      · exact .inl (by simp [h])
    | succ i =>
      rcases List.mem_cons.1 h with h | h
      · exact .inl (by simp [h])
      · rcases ih i h with h | ⟨x, hx, h⟩
        · exact .inl (by simp [h])
        · exact .inr ⟨x, by simp [hx], h⟩

/-- An update of a tile that keeps the stores of every tile keeps the canonical form. -/
theorem Memory.wf_modTile (s : State) (t : Nat) (f : Tile → Tile) (h : Memory.wf s = true)
    (hf : ∀ x : Tile, x.med.slots.wf = true → x.med.hdr.wf = true → x.map.map.wf = true → x.map.segs.wf = true →
      (f x).med.slots.wf = true ∧ (f x).med.hdr.wf = true ∧ (f x).map.map.wf = true ∧ (f x).map.segs.wf = true) :
    Memory.wf (s.modTile t f) = true := by
  rw [Memory.wf_iff] at h ⊢
  refine ⟨fun y hy => ?_, h.2⟩
  rcases mem_modAt _ _ _ _ hy with hy | ⟨x, hx, rfl⟩
  · exact h.1 y hy
  · obtain ⟨a, b, c, d⟩ := h.1 x hx
    exact hf x a b c d

/-- An update of the medium of a tile that keeps its slots and headers keeps the canonical form. -/
theorem Memory.wf_modMed (s : State) (t : Nat) (f : TileMed → TileMed) (h : Memory.wf s = true)
    (hf : ∀ m : TileMed, m.slots.wf = true → m.hdr.wf = true → (f m).slots.wf = true ∧ (f m).hdr.wf = true) :
    Memory.wf (s.modMed t f) = true :=
  Memory.wf_modTile s t _ h fun x a b c d => ⟨(hf x.med a b).1, (hf x.med a b).2, c, d⟩

/-- Writing a codeword into a slot keeps the canonical form. -/
theorem Memory.wf_storeSlot (s : State) (t slot : Nat) (w : Codeword) (h : Memory.wf s = true) :
    Memory.wf (s.modMed t (fun m => { m with slots := m.slots.insert slot w })) = true :=
  Memory.wf_modMed s t _ h fun m a b => ⟨Sparse.wf_insert m.slots slot w a, b⟩

/-- Blanking slots keeps the canonical form. -/
theorem Memory.wf_blankSlots (s : State) (t : Nat) (p : Nat × Codeword → Bool) (h : Memory.wf s = true) :
    Memory.wf (s.modMed t (fun m => { m with slots := m.slots.filter p })) = true :=
  Memory.wf_modMed s t _ h fun m a b => ⟨Sparse.wf_filter m.slots p a, b⟩

/-- Writing both header copies of a segment keeps the canonical form. -/
theorem Memory.wf_storeHeader (s : State) (t k : Nat) (x : Header) (h : Memory.wf s = true) :
    Memory.wf (s.modMed t (fun m => { m with hdr := (m.hdr.put Header.shipped (2 * k) x).put Header.shipped (2 * k + 1) x })) = true :=
  Memory.wf_modMed s t _ h fun _ a b => ⟨a, Sparse.wf_put _ _ _ _ (Sparse.wf_put _ _ _ _ b)⟩

/-- A stroke that is cut off keeps the canonical form. -/
theorem Memory.wf_tearStroke (s : State) (t : Nat) (k : Stroke) (h : Memory.wf s = true) : Memory.wf (s.tearStroke t k) = true :=
  Memory.wf_storeSlot s t k.slot _ h

/-- An update of the reservoir of a tile keeps the canonical form. -/
theorem Memory.wf_modRes (s : State) (t : Nat) (f : TileRes → TileRes) (h : Memory.wf s = true) : Memory.wf (s.modRes t f) = true :=
  Memory.wf_modTile s t _ h fun _ a b c d => ⟨a, b, c, d⟩

/-- Writing a dictionary cell keeps the canonical form. -/
theorem Memory.wf_setCell (s : State) (key v : Nat) (h : Memory.wf s = true) : Memory.wf (s.setCell key v) = true := by
  rw [Memory.wf_iff] at h ⊢
  exact ⟨h.1, Sparse.wf_insert s.obj key v h.2.1, h.2.2⟩

/-- Writing a key slot keeps the canonical form. -/
theorem Memory.wf_setKey (s : State) (k : Nat) (x : KeySlot) (change : Option KeyChange) (h : Memory.wf s = true) :
    Memory.wf { s with keys := { slots := s.keys.slots.insert k x, change := change } } = true := by
  rw [Memory.wf_iff] at h ⊢
  exact ⟨h.1, h.2.1, h.2.2.1, Sparse.wf_insert s.keys.slots k x h.2.2.2⟩

end Sys2Proof.Machine
end

