-- ==== Sys2Proof/WellFormed.lean ====
section
/-! DEFINITION. Commands that are well formed for a part: tile and port numbers that the part has, fields that fit their widths. -/
namespace Sys2Proof
open Sys2Proof.Machine

/-- A tile that the part has (R14). -/
def tileOk (p : Part) (t : Nat) : Bool := decide (t < p.tiles)
/-- A port number of the part (R17). -/
def portOk (p : Part) (n : Nat) : Bool := decide (n < p.tiles)
/-- No port, or a port of the part. -/
def optPortOk (p : Part) : Option Nat → Bool
  | none => true
  | some n => portOk p n
/-- An LD number, or the FM-owned LD's (R366). -/
def ldOk (l : Nat) : Bool := decide (l < 16 ∨ l = 0xFFFF)
/-- A die of a tile's stack (R70). -/
def dieOk (d : Nat) : Bool := decide (d < 16)
/-- A bank of a die (R70). -/
def bankOk (b : Nat) : Bool := decide (b < 32)
/-- An object index (R417). -/
def indexOk (i : Nat) : Bool := decide (i < 0x10000)
/-- A subindex (R417). -/
def subOk (i : Nat) : Bool := decide (i < 0x100)
/-- A key slot (R278). -/
def keySlotOk (k : Nat) : Bool := decide (k < 4096)
/-- An HDM decoder of an LD (R368). -/
def decoderOk (d : Nat) : Bool := decide (d < 4)
/-- A logical segment of a tile (R183). -/
def lsegOk (l : Nat) : Bool := decide (l < 1430528)
/-- A recorder: 0 to 7 the tiles', 8 the package's (R456). -/
def recorderOk (r : Nat) : Bool := decide (r < 9)
/-- A transport that R429 names. -/
def requesterOk (q : Requester) : Bool := decide (1 ≤ q.transport ∧ q.transport ≤ 4)
/-- A list of bytes. -/
def bytesOk (b : List Nat) : Bool := b.all (fun x => decide (x < 256))
/-- A part of an image goes to slot A or B (R488). -/
def fwPartOk (x : FwPart) : Bool := decide (x.slot < 2)
/-- Offset and size that fit their fields (R369). -/
def regionOk (g : Region) : Bool := decide (g.off < 2 ^ 14 ∧ g.size < 2 ^ 14)

/-- Whether a command is well formed for a part. [DESIGN CHOICE, assumption 16] -/
def Instr.wf (p : Part) : Instr → Bool
  | .ringLinkRetrain link _ _ => tileOk p link
  | .ringLinkDown link => tileOk p link
  | .alignmentMarker => true
  | .timebaseHoldover t => tileOk p t
  | .timebaseRealigned t => tileOk p t
  | .refclkLost _ => true
  | .refclkLocked t => tileOk p t
  | .coreTakeover => true
  | .standbyLost _ => true
  | .memRd port _ _ _ _ => portOk p port
  | .memSpecRd port _ _ _ => portOk p port
  | .memInv port _ _ => portOk p port
  | .memWr port _ _ _ _ _ => portOk p port
  | .memWrPtl port _ _ _ _ _ _ _ => portOk p port
  | .memUndefinedOpcode port _ _ _ _ => portOk p port
  | .mediumReadDone t _ _ _ _ => tileOk p t
  | .strokeLift t _ => tileOk p t
  | .nibPositionFreed t _ => tileOk p t
  | .readAroundDone t _ => tileOk p t
  | .lineRebuilt t _ _ => tileOk p t
  | .erasureRetry t _ _ => tileOk p t
  | .fetchDone t _ => tileOk p t
  | .hotBank t die bank => tileOk p t && dieOk die && bankOk bank
  | .readSvcClear q t _ => requesterOk q && tileOk p t
  | .mirrorMessage t => tileOk p t
  | .mirrorAck t => tileOk p t
  | .mirrorRelease t => tileOk p t
  | .evictionStart t _ _ => tileOk p t
  | .evictionPoint t _ => tileOk p t
  | .strokeStart t _ => tileOk p t
  | .strokeVerified t _ => tileOk p t
  | .strokeVerifyFail t _ _ => tileOk p t
  | .binding t lseg => tileOk p t && lsegOk lseg
  | .gpfPhase2 => true
  | .drainFlushDone t => tileOk p t
  | .shadowRecordWrite t => tileOk p t
  | .tileFlushSilence t => tileOk p t
  | .resEccError t _ => tileOk p t
  | .shadowResent t => tileOk p t
  | .ageEntryReset t _ => tileOk p t
  | .rootRepaired t _ => tileOk p t
  | .rotationMove t lseg _ => tileOk p t && lsegOk lseg
  | .blanking t => tileOk p t
  | .wearThresholdUpdate => true
  | .migrationStarted t => tileOk p t
  | .migrationStripeCopy t lseg _ => tileOk p t && lsegOk lseg
  | .migrationDone t lseg => tileOk p t && lsegOk lseg
  | .migrateRequest q _ => requesterOk q
  | .quarantineAck q _ => requesterOk q
  | .mapQuery q _ => requesterOk q
  | .evacuationSlot t _ => tileOk p t
  | .temperatureSample _ => true
  | .driftClockSave t => tileOk p t
  | .patrolPace => true
  | .patrolVisitMember t _ _ => tileOk p t
  | .patrolVisitEnd t _ _ => tileOk p t
  | .refreshEscalated t => tileOk p t
  | .patrolOverdue t _ => tileOk p t
  | .accelPatrolDone t => tileOk p t
  | .scrubStart q _ => requesterOk q
  | .scrubAbort q _ => requesterOk q
  | .scrubDone _ _ => true
  | .watchdogTrip issuer suspect _ _ => tileOk p issuer && tileOk p suspect
  | .ringSilence t => tileOk p t
  | .tileSelfReport t => tileOk p t
  | .tileFence q _ => requesterOk q
  | .fenceDecision t => tileOk p t
  | .mirrorMoved w => tileOk p w
  | .isolationFlushEnd t => tileOk p t
  | .spanDelta t => tileOk p t
  | .reconstructionDone t _ => tileOk p t
  | .tileRejoin q _ => requesterOk q
  | .autoRejoin t => tileOk p t
  | .rejoinStepDone t _ _ => tileOk p t
  | .resyncSegment t lseg => tileOk p t && lsegOk lseg
  | .keyLoad q slot _ _ => requesterOk q && keySlotOk slot
  | .keyErase q slot => requesterOk q && keySlotOk slot
  | .keyPurgeDone => true
  | .keyQuery q _ => requesterOk q
  | .debugUnlock q _ => requesterOk q
  | .debugLock q _ => requesterOk q
  | .spdmSessionEnd _ => true
  | .sealRootAdopt q _ t => requesterOk q && tileOk p t
  | .metaFetchDone t _ => tileOk p t
  | .descIn port ld _ _ _ => portOk p port && ldOk ld
  | .qFlush port ld _ => portOk p port && ldOk ld
  | .qResync port ld _ => portOk p port && ldOk ld
  | .cqHeadWrite port ld _ _ => portOk p port && ldOk ld
  | .descriptorStart t _ => tileOk p t
  | .copy t _ _ => tileOk p t
  | .fill t _ _ => tileOk p t
  | .zero t _ _ => tileOk p t
  | .crc32c t _ _ => tileOk p t
  | .compare t _ _ => tileOk p t
  | .cas64 t _ _ => tileOk p t
  | .fadd64 t _ _ => tileOk p t
  | .logAppend t _ _ => tileOk p t
  | .barLd t _ _ => tileOk p t
  | .barSt t _ _ => tileOk p t
  | .barAll t _ _ => tileOk p t
  | .notify t _ _ => tileOk p t
  | .scribeLineDone t _ _ => tileOk p t
  | .barrierComplete t _ => tileOk p t
  | .sqRestart q t _ _ => requesterOk q && tileOk p t
  | .feedAdmit _ _ _ => true
  | .epochEnd _ => true
  | .urgencySample port _ => portOk p port
  | .reservationsScaled _ => true
  | .classHeldClear q _ _ => requesterOk q
  | .linkTrained port _ _ _ _ => portOk p port
  | .linkRetrained port _ _ => portOk p port
  | .linkDown port _ => portOk p port
  | .cxlLdReset port ld => portOk p port && ldOk ld
  | .functionLevelReset port ld => portOk p port && ldOk ld
  | .ideFailure port _ _ => portOk p port
  | .ideKeyRefresh port _ _ _ _ => portOk p port
  | .hdmDecoderCommit port ld dec _ _ _ _ _ _ => portOk p port && ldOk ld && decoderOk dec
  | .identify port ld => portOk p port && ldOk ld
  | .backgroundOperationStatus port ld => portOk p port && ldOk ld
  | .getEventRecords port ld _ => portOk p port && ldOk ld
  | .clearEventRecords port ld _ _ _ => portOk p port && ldOk ld
  | .getEventInterruptPolicy port ld => portOk p port && ldOk ld
  | .setEventInterruptPolicy port ld _ => portOk p port && ldOk ld
  | .getFwInfo port ld => portOk p port && ldOk ld
  | .transferFw port ld x => portOk p port && ldOk ld && fwPartOk x
  | .activateFw port ld _ _ => portOk p port && ldOk ld
  | .getTimestamp port ld => portOk p port && ldOk ld
  | .setTimestamp port ld _ => portOk p port && ldOk ld
  | .getSupportedLogs port ld => portOk p port && ldOk ld
  | .getLog port ld _ => portOk p port && ldOk ld
  | .getSupportedFeatures port ld => portOk p port && ldOk ld
  | .getFeature port ld _ => portOk p port && ldOk ld
  | .setFeature port ld _ _ _ => portOk p port && ldOk ld
  | .identifyMemoryDevice port ld => portOk p port && ldOk ld
  | .getPartitionInfo port ld => portOk p port && ldOk ld
  | .getLsa port ld _ _ => portOk p port && ldOk ld
  | .setLsa port ld _ data => portOk p port && ldOk ld && bytesOk data
  | .getHealthInfo port ld => portOk p port && ldOk ld
  | .getAlertConfiguration port ld => portOk p port && ldOk ld
  | .setAlertConfiguration port ld _ _ _ _ _ => portOk p port && ldOk ld
  | .getShutdownState port ld => portOk p port && ldOk ld
  | .setShutdownState port ld _ => portOk p port && ldOk ld
  | .getPoisonList port ld _ _ => portOk p port && ldOk ld
  | .injectPoison port ld _ => portOk p port && ldOk ld
  | .clearPoison port ld _ _ => portOk p port && ldOk ld
  | .getScanMediaCapabilities port ld _ _ => portOk p port && ldOk ld
  | .scanMedia port ld _ _ _ => portOk p port && ldOk ld
  | .getScanMediaResults port ld => portOk p port && ldOk ld
  | .sanitize port ld => portOk p port && ldOk ld
  | .secureErase port ld => portOk p port && ldOk ld
  | .eraseDone => true
  | .getDynamicCapacityConfiguration port ld => portOk p port && ldOk ld
  | .getDynamicCapacityExtentList port ld => portOk p port && ldOk ld
  | .addDynamicCapacityResponse port ld _ => portOk p port && ldOk ld
  | .releaseDynamicCapacity port ld _ => portOk p port && ldOk ld
  | .staebExchange port ld bytes => portOk p port && ldOk ld && bytesOk bytes
  | .staebLimits port ld => portOk p port && ldOk ld
  | .mailboxUnsupported _ q port ld _ => requesterOk q && portOk p port && ldOk ld
  | .getLdInfo q port => requesterOk q && portOk p port
  | .getLdAllocations q port => requesterOk q && portOk p port
  | .setLdAllocations q port _ _ => requesterOk q && portOk p port
  | .getDcdInfo q port => requesterOk q && portOk p port
  | .getHostDcRegionConfiguration q port ld => requesterOk q && portOk p port && ldOk ld
  | .setDcRegionConfiguration q port ld _ cfg => requesterOk q && portOk p port && ldOk ld && regionOk cfg
  | .getDcRegionExtentLists q port ld => requesterOk q && portOk p port && ldOk ld
  | .initiateDynamicCapacityAdd q port ld _ _ => requesterOk q && portOk p port && ldOk ld
  | .initiateDynamicCapacityRelease q port ld _ _ => requesterOk q && portOk p port && ldOk ld
  | .dcSanitizeDone _ => true
  | .seqInAccepted => true
  | .seqStepDone => true
  | .sequenceFailure _ => true
  | .seqRetry => true
  | .haltedExit => true
  | .seqInFallInSeq => true
  | .railSample _ _ => true
  | .vinComparatorTrip => true
  | .replicaMeasure t _ _ => tileOk p t
  | .avsCommand => true
  | .avsLinkLost => true
  | .holdupMeasured _ _ => true
  | .holdupFault _ _ => true
  | .resetNLow => true
  | .pwrfailNLow => true
  | .seqInLow => true
  | .safeRestart _ => true
  | .powerDown q _ => requesterOk q
  | .powerUp q _ => requesterOk q
  | .staebMessage q bytes => requesterOk q && bytesOk bytes
  | .objectWrite q index sub value => requesterOk q && indexOk index && subOk sub && bytesOk value
  | .readStaged q index sub => requesterOk q && indexOk index && subOk sub
  | .commit q _ _ => requesterOk q
  | .partitionReleased _ => true
  | .stageDiscard q _ => requesterOk q
  | .stageExpired q => requesterOk q
  | .w1cWrite q index sub _ => requesterOk q && indexOk index && subOk sub
  | .cntSnapshot q _ => requesterOk q
  | .cntSnapshotLatch => true
  | .recPublish r => recorderOk r
  | .recClear q _ => requesterOk q
  | .recNext q t _ => requesterOk q && tileOk p t
  | .recRelease q t _ => requesterOk q && tileOk p t
  | .recPkgNext q _ => requesterOk q
  | .recPkgRelease q _ => requesterOk q
  | .recSave t => tileOk p t
  | .pstoreRingSave t _ => tileOk p t
  | .vauxOn => true
  | .firmwareBootDone _ _ => true
  | .vauxRemoved => true
  | .bringupStepDone _ => true
  | .degradedExit => true
  | .fwActivateLive q => requesterOk q
  | .fwActivateAtReset q => requesterOk q
  | .liveUpdateStepDone _ => true
  | .fwSvnCommit q _ => requesterOk q
  | .ownerInstall q _ => requesterOk q
  | .decommission q _ => requesterOk q
  | .timebaseTick _ => true
  | .debugAccess _ _ _ _ _ _ _ => true
  | .hdmDecoderUncommit port ld dec => portOk p port && ldOk ld && decoderOk dec
  | .spdmSessionEstablished _ _ port => optPortOk p port
  | .standbyResynchronised => true
  | .pbrIdAssigned port _ => portOk p port
  | .linkReplay port _ => portOk p port

end Sys2Proof
end

