-- ==== Sys2Proof/Laws/PerInstr.lean ====
section
/-! SUPPORT. Laws stated for each command: a command that is well formed for a part is well formed for the largest one. -/
namespace Sys2Proof.Laws.Bounds
set_option Elab.async false
open Sys2Proof Sys2Proof.Machine

/-- Every operand range of a part lies within those of the RMN-A8. -/
def Statement (i : Instr) : Prop := ∀ p : Part, i.wf p = true → i.wf .a8 = true

theorem tiles_le (p : Part) : p.tiles ≤ Part.tiles .a8 := by cases p <;> decide

theorem tileOk_mono {p : Part} {t : Nat} (h : tileOk p t = true) : tileOk .a8 t = true := by
  have := tiles_le p
  simp only [tileOk, decide_eq_true_eq] at *
  omega

theorem portOk_mono {p : Part} {t : Nat} (h : portOk p t = true) : portOk .a8 t = true := tileOk_mono h

theorem optPortOk_mono {p : Part} {t : Option Nat} (h : optPortOk p t = true) : optPortOk .a8 t = true := by
  cases t with
  | none => rfl
  | some n => exact portOk_mono h

theorem ringLinkRetrain (link : Nat) (replaysE : Nat) (replaysW : Nat) : Statement (.ringLinkRetrain link replaysE replaysW) := fun _ h => tileOk_mono h
theorem ringLinkDown (link : Nat) : Statement (.ringLinkDown link) := fun _ h => tileOk_mono h
theorem alignmentMarker : Statement (.alignmentMarker) := fun _ _ => rfl
theorem timebaseHoldover (t : Nat) : Statement (.timebaseHoldover t) := fun _ h => tileOk_mono h
theorem timebaseRealigned (t : Nat) : Statement (.timebaseRealigned t) := fun _ h => tileOk_mono h
theorem refclkLost (k : Nat) : Statement (.refclkLost k) := fun _ _ => rfl
theorem refclkLocked (t : Nat) : Statement (.refclkLocked t) := fun _ h => tileOk_mono h
theorem coreTakeover : Statement (.coreTakeover) := fun _ _ => rfl
theorem standbyLost (fails : Bool) : Statement (.standbyLost fails) := fun _ _ => rfl
theorem memRd (port : Nat) (id : Nat) (tag : Nat) (hpa : Nat) (pred : Nat) : Statement (.memRd port id tag hpa pred) := fun _ h => portOk_mono h
theorem memSpecRd (port : Nat) (id : Nat) (tag : Nat) (hpa : Nat) : Statement (.memSpecRd port id tag hpa) := fun _ h => portOk_mono h
theorem memInv (port : Nat) (id : Nat) (tag : Nat) : Statement (.memInv port id tag) := fun _ h => portOk_mono h
theorem memWr (port : Nat) (id : Nat) (tag : Nat) (hpa : Nat) (data : Line) (poison : Bool) : Statement (.memWr port id tag hpa data poison) := fun _ h => portOk_mono h
theorem memWrPtl (port : Nat) (id : Nat) (tag : Nat) (hpa : Nat) (mask : ByteMask) (data : Line) (poison : Bool) (pred : Nat) : Statement (.memWrPtl port id tag hpa mask data poison pred) := fun _ h => portOk_mono h
theorem memUndefinedOpcode (port : Nat) (id : Nat) (tag : Nat) (hpa : Nat) (expectsData : Bool) : Statement (.memUndefinedOpcode port id tag hpa expectsData) := fun _ h => portOk_mono h
theorem mediumReadDone (t : Nat) (rd : Nat) (pos : Nat) (err : Codeword) (mute : Bool) : Statement (.mediumReadDone t rd pos err mute) := fun _ h => tileOk_mono h
theorem strokeLift (t : Nat) (stroke : Nat) : Statement (.strokeLift t stroke) := fun _ h => tileOk_mono h
theorem nibPositionFreed (t : Nat) (pred : Nat) : Statement (.nibPositionFreed t pred) := fun _ h => tileOk_mono h
theorem readAroundDone (t : Nat) (rd : Nat) : Statement (.readAroundDone t rd) := fun _ h => tileOk_mono h
theorem lineRebuilt (t : Nat) (rd : Nat) (errs : List Codeword) : Statement (.lineRebuilt t rd errs) := fun _ h => tileOk_mono h
theorem erasureRetry (t : Nat) (rd : Nat) (errs : List Codeword) : Statement (.erasureRetry t rd errs) := fun _ h => tileOk_mono h
theorem fetchDone (t : Nat) (rd : Nat) : Statement (.fetchDone t rd) := fun _ h => tileOk_mono h
theorem hotBank (t : Nat) (die : Nat) (bank : Nat) : Statement (.hotBank t die bank) := fun _ h => by
  simp only [Instr.wf, Bool.and_eq_true] at h ⊢
  exact ⟨⟨tileOk_mono h.1.1, h.1.2⟩, h.2⟩
theorem readSvcClear (q : Requester) (t : Nat) (v : Nat) : Statement (.readSvcClear q t v) := fun _ h => by
  simp only [Instr.wf, Bool.and_eq_true] at h ⊢
  exact ⟨h.1, tileOk_mono h.2⟩
theorem mirrorMessage (t : Nat) : Statement (.mirrorMessage t) := fun _ h => tileOk_mono h
theorem mirrorAck (t : Nat) : Statement (.mirrorAck t) := fun _ h => tileOk_mono h
theorem mirrorRelease (t : Nat) : Statement (.mirrorRelease t) := fun _ h => tileOk_mono h
theorem evictionStart (t : Nat) (slice : Nat) (pred : Nat) : Statement (.evictionStart t slice pred) := fun _ h => tileOk_mono h
theorem evictionPoint (t : Nat) (id : Nat) : Statement (.evictionPoint t id) := fun _ h => tileOk_mono h
theorem strokeStart (t : Nat) (id : Nat) : Statement (.strokeStart t id) := fun _ h => tileOk_mono h
theorem strokeVerified (t : Nat) (id : Nat) : Statement (.strokeVerified t id) := fun _ h => tileOk_mono h
theorem strokeVerifyFail (t : Nat) (id : Nat) (mute : Bool) : Statement (.strokeVerifyFail t id mute) := fun _ h => tileOk_mono h
theorem binding (t : Nat) (lseg : Nat) : Statement (.binding t lseg) := fun _ h => by
  simp only [Instr.wf, Bool.and_eq_true] at h ⊢
  exact ⟨tileOk_mono h.1, h.2⟩
theorem gpfPhase2 : Statement (.gpfPhase2) := fun _ _ => rfl
theorem drainFlushDone (t : Nat) : Statement (.drainFlushDone t) := fun _ h => tileOk_mono h
theorem shadowRecordWrite (t : Nat) : Statement (.shadowRecordWrite t) := fun _ h => tileOk_mono h
theorem tileFlushSilence (t : Nat) : Statement (.tileFlushSilence t) := fun _ h => tileOk_mono h
theorem resEccError (t : Nat) (f : ResFault) : Statement (.resEccError t f) := fun _ h => tileOk_mono h
theorem shadowResent (t : Nat) : Statement (.shadowResent t) := fun _ h => tileOk_mono h
theorem ageEntryReset (t : Nat) (p_ : Nat) : Statement (.ageEntryReset t p_) := fun _ h => tileOk_mono h
theorem rootRepaired (t : Nat) (part : Nat) : Statement (.rootRepaired t part) := fun _ h => tileOk_mono h
theorem rotationMove (t : Nat) (lseg : Nat) (fails : Nat) : Statement (.rotationMove t lseg fails) := fun _ h => by
  simp only [Instr.wf, Bool.and_eq_true] at h ⊢
  exact ⟨tileOk_mono h.1, h.2⟩
theorem blanking (t : Nat) : Statement (.blanking t) := fun _ h => tileOk_mono h
theorem wearThresholdUpdate : Statement (.wearThresholdUpdate) := fun _ _ => rfl
theorem migrationStarted (t : Nat) : Statement (.migrationStarted t) := fun _ h => tileOk_mono h
theorem migrationStripeCopy (t : Nat) (lseg : Nat) (fails : Nat) : Statement (.migrationStripeCopy t lseg fails) := fun _ h => by
  simp only [Instr.wf, Bool.and_eq_true] at h ⊢
  exact ⟨tileOk_mono h.1, h.2⟩
theorem migrationDone (t : Nat) (lseg : Nat) : Statement (.migrationDone t lseg) := fun _ h => by
  simp only [Instr.wf, Bool.and_eq_true] at h ⊢
  exact ⟨tileOk_mono h.1, h.2⟩
theorem migrateRequest (q : Requester) (v : Nat) : Statement (.migrateRequest q v) := fun _ h => h
theorem quarantineAck (q : Requester) (v : Nat) : Statement (.quarantineAck q v) := fun _ h => h
theorem mapQuery (q : Requester) (v : Nat) : Statement (.mapQuery q v) := fun _ h => h
theorem evacuationSlot (t : Nat) (fails : Nat) : Statement (.evacuationSlot t fails) := fun _ h => tileOk_mono h
theorem temperatureSample (temps : List (List Int)) : Statement (.temperatureSample temps) := fun _ _ => rfl
theorem driftClockSave (t : Nat) : Statement (.driftClockSave t) := fun _ h => tileOk_mono h
theorem patrolPace : Statement (.patrolPace) := fun _ _ => rfl
theorem patrolVisitMember (t : Nat) (weakCells : Nat) (err : Codeword) : Statement (.patrolVisitMember t weakCells err) := fun _ h => tileOk_mono h
theorem patrolVisitEnd (t : Nat) (bad0 : Bool) (bad1 : Bool) : Statement (.patrolVisitEnd t bad0 bad1) := fun _ h => tileOk_mono h
theorem refreshEscalated (t : Nat) : Statement (.refreshEscalated t) := fun _ h => tileOk_mono h
theorem patrolOverdue (t : Nat) (p_ : Nat) : Statement (.patrolOverdue t p_) := fun _ h => tileOk_mono h
theorem accelPatrolDone (t : Nat) : Statement (.accelPatrolDone t) := fun _ h => tileOk_mono h
theorem scrubStart (q : Requester) (v : Nat) : Statement (.scrubStart q v) := fun _ h => h
theorem scrubAbort (q : Requester) (v : Nat) : Statement (.scrubAbort q v) := fun _ h => h
theorem scrubDone (worst : Nat) (fails : Nat) : Statement (.scrubDone worst fails) := fun _ _ => rfl
theorem watchdogTrip (issuer : Nat) (suspect : Nat) (block : Nat) (request : Nat) : Statement (.watchdogTrip issuer suspect block request) := fun _ h => by
  simp only [Instr.wf, Bool.and_eq_true] at h ⊢
  exact ⟨tileOk_mono h.1, tileOk_mono h.2⟩
theorem ringSilence (t : Nat) : Statement (.ringSilence t) := fun _ h => tileOk_mono h
theorem tileSelfReport (t : Nat) : Statement (.tileSelfReport t) := fun _ h => tileOk_mono h
theorem tileFence (q : Requester) (v : Nat) : Statement (.tileFence q v) := fun _ h => h
theorem fenceDecision (t : Nat) : Statement (.fenceDecision t) := fun _ h => tileOk_mono h
theorem mirrorMoved (w : Nat) : Statement (.mirrorMoved w) := fun _ h => tileOk_mono h
theorem isolationFlushEnd (t : Nat) : Statement (.isolationFlushEnd t) := fun _ h => tileOk_mono h
theorem spanDelta (t : Nat) : Statement (.spanDelta t) := fun _ h => tileOk_mono h
theorem reconstructionDone (t : Nat) (rd : Nat) : Statement (.reconstructionDone t rd) := fun _ h => tileOk_mono h
theorem tileRejoin (q : Requester) (v : Nat) : Statement (.tileRejoin q v) := fun _ h => h
theorem autoRejoin (t : Nat) : Statement (.autoRejoin t) := fun _ h => tileOk_mono h
theorem rejoinStepDone (t : Nat) (ok : Bool) (bad : List Nat) : Statement (.rejoinStepDone t ok bad) := fun _ h => tileOk_mono h
theorem resyncSegment (t : Nat) (lseg : Nat) : Statement (.resyncSegment t lseg) := fun _ h => by
  simp only [Instr.wf, Bool.and_eq_true] at h ⊢
  exact ⟨tileOk_mono h.1, h.2⟩
theorem keyLoad (q : Requester) (slot : Nat) (k1 : Key256) (k2 : Key256) : Statement (.keyLoad q slot k1 k2) := fun _ h => by
  simp only [Instr.wf, Bool.and_eq_true] at h ⊢
  exact ⟨h.1, h.2⟩
theorem keyErase (q : Requester) (slot : Nat) : Statement (.keyErase q slot) := fun _ h => by
  simp only [Instr.wf, Bool.and_eq_true] at h ⊢
  exact ⟨h.1, h.2⟩
theorem keyPurgeDone : Statement (.keyPurgeDone) := fun _ _ => rfl
theorem keyQuery (q : Requester) (v : Nat) : Statement (.keyQuery q v) := fun _ h => h
theorem debugUnlock (q : Requester) (token : Nat) : Statement (.debugUnlock q token) := fun _ h => h
theorem debugLock (q : Requester) (v : Nat) : Statement (.debugLock q v) := fun _ h => h
theorem spdmSessionEnd (id : Nat) : Statement (.spdmSessionEnd id) := fun _ _ => rfl
theorem sealRootAdopt (q : Requester) (part : Nat) (t : Nat) : Statement (.sealRootAdopt q part t) := fun _ h => by
  simp only [Instr.wf, Bool.and_eq_true] at h ⊢
  exact ⟨h.1, tileOk_mono h.2⟩
theorem metaFetchDone (t : Nat) (rd : Nat) : Statement (.metaFetchDone t rd) := fun _ h => tileOk_mono h
theorem descIn (port : Nat) (ld : Nat) (window : Nat) (word : Nat) (aligned : Bool) : Statement (.descIn port ld window word aligned) := fun _ h => by
  simp only [Instr.wf, Bool.and_eq_true] at h ⊢
  exact ⟨portOk_mono h.1, h.2⟩
theorem qFlush (port : Nat) (ld : Nat) (window : Nat) : Statement (.qFlush port ld window) := fun _ h => by
  simp only [Instr.wf, Bool.and_eq_true] at h ⊢
  exact ⟨portOk_mono h.1, h.2⟩
theorem qResync (port : Nat) (ld : Nat) (window : Nat) : Statement (.qResync port ld window) := fun _ h => by
  simp only [Instr.wf, Bool.and_eq_true] at h ⊢
  exact ⟨portOk_mono h.1, h.2⟩
theorem cqHeadWrite (port : Nat) (ld : Nat) (window : Nat) (head : Nat) : Statement (.cqHeadWrite port ld window head) := fun _ h => by
  simp only [Instr.wf, Bool.and_eq_true] at h ⊢
  exact ⟨portOk_mono h.1, h.2⟩
theorem descriptorStart (t : Nat) (ecc : List Nat) : Statement (.descriptorStart t ecc) := fun _ h => tileOk_mono h
theorem copy (t : Nat) (q : Nat) (desc : Nat) : Statement (.copy t q desc) := fun _ h => tileOk_mono h
theorem fill (t : Nat) (q : Nat) (desc : Nat) : Statement (.fill t q desc) := fun _ h => tileOk_mono h
theorem zero (t : Nat) (q : Nat) (desc : Nat) : Statement (.zero t q desc) := fun _ h => tileOk_mono h
theorem crc32c (t : Nat) (q : Nat) (desc : Nat) : Statement (.crc32c t q desc) := fun _ h => tileOk_mono h
theorem compare (t : Nat) (q : Nat) (desc : Nat) : Statement (.compare t q desc) := fun _ h => tileOk_mono h
theorem cas64 (t : Nat) (q : Nat) (desc : Nat) : Statement (.cas64 t q desc) := fun _ h => tileOk_mono h
theorem fadd64 (t : Nat) (q : Nat) (desc : Nat) : Statement (.fadd64 t q desc) := fun _ h => tileOk_mono h
theorem logAppend (t : Nat) (q : Nat) (desc : Nat) : Statement (.logAppend t q desc) := fun _ h => tileOk_mono h
theorem barLd (t : Nat) (q : Nat) (desc : Nat) : Statement (.barLd t q desc) := fun _ h => tileOk_mono h
theorem barSt (t : Nat) (q : Nat) (desc : Nat) : Statement (.barSt t q desc) := fun _ h => tileOk_mono h
theorem barAll (t : Nat) (q : Nat) (desc : Nat) : Statement (.barAll t q desc) := fun _ h => tileOk_mono h
theorem notify (t : Nat) (q : Nat) (desc : Nat) : Statement (.notify t q desc) := fun _ h => tileOk_mono h
theorem scribeLineDone (t : Nat) (q : Nat) (desc : Nat) : Statement (.scribeLineDone t q desc) := fun _ h => tileOk_mono h
theorem barrierComplete (t : Nat) (q : Nat) : Statement (.barrierComplete t q) := fun _ h => tileOk_mono h
theorem sqRestart (q : Requester) (t : Nat) (queue : Nat) (v : Nat) : Statement (.sqRestart q t queue v) := fun _ h => by
  simp only [Instr.wf, Bool.and_eq_true] at h ⊢
  exact ⟨h.1, tileOk_mono h.2⟩
theorem feedAdmit (slice : Nat) (engine : Bool) (pred : Nat) : Statement (.feedAdmit slice engine pred) := fun _ _ => rfl
theorem epochEnd (lost : Nat) : Statement (.epochEnd lost) := fun _ _ => rfl
theorem urgencySample (port : Nat) (level : Nat) : Statement (.urgencySample port level) := fun _ h => portOk_mono h
theorem reservationsScaled (cause : Nat) : Statement (.reservationsScaled cause) := fun _ _ => rfl
theorem classHeldClear (q : Requester) (c : Nat) (v : Nat) : Statement (.classHeldClear q c v) := fun _ h => h
theorem linkTrained (port : Nat) (rate : Nat) (width : Nat) (flit : Nat) (cxl : Bool) : Statement (.linkTrained port rate width flit cxl) := fun _ h => portOk_mono h
theorem linkRetrained (port : Nat) (rate : Nat) (width : Nat) : Statement (.linkRetrained port rate width) := fun _ h => portOk_mono h
theorem linkDown (port : Nat) (cause : Nat) : Statement (.linkDown port cause) := fun _ h => portOk_mono h
theorem cxlLdReset (port : Nat) (ld : Nat) : Statement (.cxlLdReset port ld) := fun _ h => by
  simp only [Instr.wf, Bool.and_eq_true] at h ⊢
  exact ⟨portOk_mono h.1, h.2⟩
theorem functionLevelReset (port : Nat) (ld : Nat) : Statement (.functionLevelReset port ld) := fun _ h => by
  simp only [Instr.wf, Bool.and_eq_true] at h ⊢
  exact ⟨portOk_mono h.1, h.2⟩
theorem ideFailure (port : Nat) (stream : Nat) (dpas : List Nat) : Statement (.ideFailure port stream dpas) := fun _ h => portOk_mono h
theorem ideKeyRefresh (port : Nat) (stream : Nat) (mode : Nat) (session : Nat) (key : Key256) : Statement (.ideKeyRefresh port stream mode session key) := fun _ h => portOk_mono h
theorem hdmDecoderCommit (port : Nat) (ld : Nat) (dec : Nat) (base : Nat) (size : Nat) (ways : Nat) (gran : Nat) (skip : Nat) (lock : Bool) : Statement (.hdmDecoderCommit port ld dec base size ways gran skip lock) := fun _ h => by
  simp only [Instr.wf, Bool.and_eq_true] at h ⊢
  exact ⟨⟨portOk_mono h.1.1, h.1.2⟩, h.2⟩
theorem identify (port : Nat) (ld : Nat) : Statement (.identify port ld) := fun _ h => by
  simp only [Instr.wf, Bool.and_eq_true] at h ⊢
  exact ⟨portOk_mono h.1, h.2⟩
theorem backgroundOperationStatus (port : Nat) (ld : Nat) : Statement (.backgroundOperationStatus port ld) := fun _ h => by
  simp only [Instr.wf, Bool.and_eq_true] at h ⊢
  exact ⟨portOk_mono h.1, h.2⟩
theorem getEventRecords (port : Nat) (ld : Nat) (log : Nat) : Statement (.getEventRecords port ld log) := fun _ h => by
  simp only [Instr.wf, Bool.and_eq_true] at h ⊢
  exact ⟨portOk_mono h.1, h.2⟩
theorem clearEventRecords (port : Nat) (ld : Nat) (log : Nat) (all : Bool) (handles : List Nat) : Statement (.clearEventRecords port ld log all handles) := fun _ h => by
  simp only [Instr.wf, Bool.and_eq_true] at h ⊢
  exact ⟨portOk_mono h.1, h.2⟩
theorem getEventInterruptPolicy (port : Nat) (ld : Nat) : Statement (.getEventInterruptPolicy port ld) := fun _ h => by
  simp only [Instr.wf, Bool.and_eq_true] at h ⊢
  exact ⟨portOk_mono h.1, h.2⟩
theorem setEventInterruptPolicy (port : Nat) (ld : Nat) (policy : List Nat) : Statement (.setEventInterruptPolicy port ld policy) := fun _ h => by
  simp only [Instr.wf, Bool.and_eq_true] at h ⊢
  exact ⟨portOk_mono h.1, h.2⟩
theorem getFwInfo (port : Nat) (ld : Nat) : Statement (.getFwInfo port ld) := fun _ h => by
  simp only [Instr.wf, Bool.and_eq_true] at h ⊢
  exact ⟨portOk_mono h.1, h.2⟩
theorem transferFw (port : Nat) (ld : Nat) (x : FwPart) : Statement (.transferFw port ld x) := fun _ h => by
  simp only [Instr.wf, Bool.and_eq_true] at h ⊢
  exact ⟨⟨portOk_mono h.1.1, h.1.2⟩, h.2⟩
theorem activateFw (port : Nat) (ld : Nat) (slot : Nat) (online : Bool) : Statement (.activateFw port ld slot online) := fun _ h => by
  simp only [Instr.wf, Bool.and_eq_true] at h ⊢
  exact ⟨portOk_mono h.1, h.2⟩
theorem getTimestamp (port : Nat) (ld : Nat) : Statement (.getTimestamp port ld) := fun _ h => by
  simp only [Instr.wf, Bool.and_eq_true] at h ⊢
  exact ⟨portOk_mono h.1, h.2⟩
theorem setTimestamp (port : Nat) (ld : Nat) (time : Nat) : Statement (.setTimestamp port ld time) := fun _ h => by
  simp only [Instr.wf, Bool.and_eq_true] at h ⊢
  exact ⟨portOk_mono h.1, h.2⟩
theorem getSupportedLogs (port : Nat) (ld : Nat) : Statement (.getSupportedLogs port ld) := fun _ h => by
  simp only [Instr.wf, Bool.and_eq_true] at h ⊢
  exact ⟨portOk_mono h.1, h.2⟩
theorem getLog (port : Nat) (ld : Nat) (log : Nat) : Statement (.getLog port ld log) := fun _ h => by
  simp only [Instr.wf, Bool.and_eq_true] at h ⊢
  exact ⟨portOk_mono h.1, h.2⟩
theorem getSupportedFeatures (port : Nat) (ld : Nat) : Statement (.getSupportedFeatures port ld) := fun _ h => by
  simp only [Instr.wf, Bool.and_eq_true] at h ⊢
  exact ⟨portOk_mono h.1, h.2⟩
theorem getFeature (port : Nat) (ld : Nat) (feature : Nat) : Statement (.getFeature port ld feature) := fun _ h => by
  simp only [Instr.wf, Bool.and_eq_true] at h ⊢
  exact ⟨portOk_mono h.1, h.2⟩
theorem setFeature (port : Nat) (ld : Nat) (feature : Nat) (cycle : Nat) (enable : Bool) : Statement (.setFeature port ld feature cycle enable) := fun _ h => by
  simp only [Instr.wf, Bool.and_eq_true] at h ⊢
  exact ⟨portOk_mono h.1, h.2⟩
theorem identifyMemoryDevice (port : Nat) (ld : Nat) : Statement (.identifyMemoryDevice port ld) := fun _ h => by
  simp only [Instr.wf, Bool.and_eq_true] at h ⊢
  exact ⟨portOk_mono h.1, h.2⟩
theorem getPartitionInfo (port : Nat) (ld : Nat) : Statement (.getPartitionInfo port ld) := fun _ h => by
  simp only [Instr.wf, Bool.and_eq_true] at h ⊢
  exact ⟨portOk_mono h.1, h.2⟩
theorem getLsa (port : Nat) (ld : Nat) (offset : Nat) (len : Nat) : Statement (.getLsa port ld offset len) := fun _ h => by
  simp only [Instr.wf, Bool.and_eq_true] at h ⊢
  exact ⟨portOk_mono h.1, h.2⟩
theorem setLsa (port : Nat) (ld : Nat) (offset : Nat) (data : List Nat) : Statement (.setLsa port ld offset data) := fun _ h => by
  simp only [Instr.wf, Bool.and_eq_true] at h ⊢
  exact ⟨⟨portOk_mono h.1.1, h.1.2⟩, h.2⟩
theorem getHealthInfo (port : Nat) (ld : Nat) : Statement (.getHealthInfo port ld) := fun _ h => by
  simp only [Instr.wf, Bool.and_eq_true] at h ⊢
  exact ⟨portOk_mono h.1, h.2⟩
theorem getAlertConfiguration (port : Nat) (ld : Nat) : Statement (.getAlertConfiguration port ld) := fun _ h => by
  simp only [Instr.wf, Bool.and_eq_true] at h ⊢
  exact ⟨portOk_mono h.1, h.2⟩
theorem setAlertConfiguration (port : Nat) (ld : Nat) (life : Nat) (beyond : Nat) (under : Nat) (volatileErrs : Nat) (persistentErrs : Nat) : Statement (.setAlertConfiguration port ld life beyond under volatileErrs persistentErrs) := fun _ h => by
  simp only [Instr.wf, Bool.and_eq_true] at h ⊢
  exact ⟨portOk_mono h.1, h.2⟩
theorem getShutdownState (port : Nat) (ld : Nat) : Statement (.getShutdownState port ld) := fun _ h => by
  simp only [Instr.wf, Bool.and_eq_true] at h ⊢
  exact ⟨portOk_mono h.1, h.2⟩
theorem setShutdownState (port : Nat) (ld : Nat) (v : Nat) : Statement (.setShutdownState port ld v) := fun _ h => by
  simp only [Instr.wf, Bool.and_eq_true] at h ⊢
  exact ⟨portOk_mono h.1, h.2⟩
theorem getPoisonList (port : Nat) (ld : Nat) (dpa : Nat) (len : Nat) : Statement (.getPoisonList port ld dpa len) := fun _ h => by
  simp only [Instr.wf, Bool.and_eq_true] at h ⊢
  exact ⟨portOk_mono h.1, h.2⟩
theorem injectPoison (port : Nat) (ld : Nat) (dpa : Nat) : Statement (.injectPoison port ld dpa) := fun _ h => by
  simp only [Instr.wf, Bool.and_eq_true] at h ⊢
  exact ⟨portOk_mono h.1, h.2⟩
theorem clearPoison (port : Nat) (ld : Nat) (dpa : Nat) (data : Line) : Statement (.clearPoison port ld dpa data) := fun _ h => by
  simp only [Instr.wf, Bool.and_eq_true] at h ⊢
  exact ⟨portOk_mono h.1, h.2⟩
theorem getScanMediaCapabilities (port : Nat) (ld : Nat) (dpa : Nat) (len : Nat) : Statement (.getScanMediaCapabilities port ld dpa len) := fun _ h => by
  simp only [Instr.wf, Bool.and_eq_true] at h ⊢
  exact ⟨portOk_mono h.1, h.2⟩
theorem scanMedia (port : Nat) (ld : Nat) (dpa : Nat) (len : Nat) (noLog : Bool) : Statement (.scanMedia port ld dpa len noLog) := fun _ h => by
  simp only [Instr.wf, Bool.and_eq_true] at h ⊢
  exact ⟨portOk_mono h.1, h.2⟩
theorem getScanMediaResults (port : Nat) (ld : Nat) : Statement (.getScanMediaResults port ld) := fun _ h => by
  simp only [Instr.wf, Bool.and_eq_true] at h ⊢
  exact ⟨portOk_mono h.1, h.2⟩
theorem sanitize (port : Nat) (ld : Nat) : Statement (.sanitize port ld) := fun _ h => by
  simp only [Instr.wf, Bool.and_eq_true] at h ⊢
  exact ⟨portOk_mono h.1, h.2⟩
theorem secureErase (port : Nat) (ld : Nat) : Statement (.secureErase port ld) := fun _ h => by
  simp only [Instr.wf, Bool.and_eq_true] at h ⊢
  exact ⟨portOk_mono h.1, h.2⟩
theorem eraseDone : Statement (.eraseDone) := fun _ _ => rfl
theorem getDynamicCapacityConfiguration (port : Nat) (ld : Nat) : Statement (.getDynamicCapacityConfiguration port ld) := fun _ h => by
  simp only [Instr.wf, Bool.and_eq_true] at h ⊢
  exact ⟨portOk_mono h.1, h.2⟩
theorem getDynamicCapacityExtentList (port : Nat) (ld : Nat) : Statement (.getDynamicCapacityExtentList port ld) := fun _ h => by
  simp only [Instr.wf, Bool.and_eq_true] at h ⊢
  exact ⟨portOk_mono h.1, h.2⟩
theorem addDynamicCapacityResponse (port : Nat) (ld : Nat) (extents : List (Nat × Nat)) : Statement (.addDynamicCapacityResponse port ld extents) := fun _ h => by
  simp only [Instr.wf, Bool.and_eq_true] at h ⊢
  exact ⟨portOk_mono h.1, h.2⟩
theorem releaseDynamicCapacity (port : Nat) (ld : Nat) (extents : List (Nat × Nat)) : Statement (.releaseDynamicCapacity port ld extents) := fun _ h => by
  simp only [Instr.wf, Bool.and_eq_true] at h ⊢
  exact ⟨portOk_mono h.1, h.2⟩
theorem staebExchange (port : Nat) (ld : Nat) (bytes : List Nat) : Statement (.staebExchange port ld bytes) := fun _ h => by
  simp only [Instr.wf, Bool.and_eq_true] at h ⊢
  exact ⟨⟨portOk_mono h.1.1, h.1.2⟩, h.2⟩
theorem staebLimits (port : Nat) (ld : Nat) : Statement (.staebLimits port ld) := fun _ h => by
  simp only [Instr.wf, Bool.and_eq_true] at h ⊢
  exact ⟨portOk_mono h.1, h.2⟩
theorem mailboxUnsupported (fm : Bool) (q : Requester) (port : Nat) (ld : Nat) (op : Nat) : Statement (.mailboxUnsupported fm q port ld op) := fun _ h => by
  simp only [Instr.wf, Bool.and_eq_true] at h ⊢
  exact ⟨⟨h.1.1, portOk_mono h.1.2⟩, h.2⟩
theorem getLdInfo (q : Requester) (port : Nat) : Statement (.getLdInfo q port) := fun _ h => by
  simp only [Instr.wf, Bool.and_eq_true] at h ⊢
  exact ⟨h.1, portOk_mono h.2⟩
theorem getLdAllocations (q : Requester) (port : Nat) : Statement (.getLdAllocations q port) := fun _ h => by
  simp only [Instr.wf, Bool.and_eq_true] at h ⊢
  exact ⟨h.1, portOk_mono h.2⟩
theorem setLdAllocations (q : Requester) (port : Nat) (first : Nat) (allocs : List (Nat × Nat)) : Statement (.setLdAllocations q port first allocs) := fun _ h => by
  simp only [Instr.wf, Bool.and_eq_true] at h ⊢
  exact ⟨h.1, portOk_mono h.2⟩
theorem getDcdInfo (q : Requester) (port : Nat) : Statement (.getDcdInfo q port) := fun _ h => by
  simp only [Instr.wf, Bool.and_eq_true] at h ⊢
  exact ⟨h.1, portOk_mono h.2⟩
theorem getHostDcRegionConfiguration (q : Requester) (port : Nat) (ld : Nat) : Statement (.getHostDcRegionConfiguration q port ld) := fun _ h => by
  simp only [Instr.wf, Bool.and_eq_true] at h ⊢
  exact ⟨⟨h.1.1, portOk_mono h.1.2⟩, h.2⟩
theorem setDcRegionConfiguration (q : Requester) (port : Nat) (ld : Nat) (region : Nat) (cfg : Region) : Statement (.setDcRegionConfiguration q port ld region cfg) := fun _ h => by
  simp only [Instr.wf, Bool.and_eq_true] at h ⊢
  exact ⟨⟨⟨h.1.1.1, portOk_mono h.1.1.2⟩, h.1.2⟩, h.2⟩
theorem getDcRegionExtentLists (q : Requester) (port : Nat) (ld : Nat) : Statement (.getDcRegionExtentLists q port ld) := fun _ h => by
  simp only [Instr.wf, Bool.and_eq_true] at h ⊢
  exact ⟨⟨h.1.1, portOk_mono h.1.2⟩, h.2⟩
theorem initiateDynamicCapacityAdd (q : Requester) (port : Nat) (ld : Nat) (tag : Nat) (extents : List (Nat × Nat)) : Statement (.initiateDynamicCapacityAdd q port ld tag extents) := fun _ h => by
  simp only [Instr.wf, Bool.and_eq_true] at h ⊢
  exact ⟨⟨h.1.1, portOk_mono h.1.2⟩, h.2⟩
theorem initiateDynamicCapacityRelease (q : Requester) (port : Nat) (ld : Nat) (extents : List (Nat × Nat)) (forced : Bool) : Statement (.initiateDynamicCapacityRelease q port ld extents forced) := fun _ h => by
  simp only [Instr.wf, Bool.and_eq_true] at h ⊢
  exact ⟨⟨h.1.1, portOk_mono h.1.2⟩, h.2⟩
theorem dcSanitizeDone (gib : Nat) : Statement (.dcSanitizeDone gib) := fun _ _ => rfl
theorem seqInAccepted : Statement (.seqInAccepted) := fun _ _ => rfl
theorem seqStepDone : Statement (.seqStepDone) := fun _ _ => rfl
theorem sequenceFailure (point : Nat) : Statement (.sequenceFailure point) := fun _ _ => rfl
theorem seqRetry : Statement (.seqRetry) := fun _ _ => rfl
theorem haltedExit : Statement (.haltedExit) := fun _ _ => rfl
theorem seqInFallInSeq : Statement (.seqInFallInSeq) := fun _ _ => rfl
theorem railSample (mv : Nat) (mw : Nat) : Statement (.railSample mv mw) := fun _ _ => rfl
theorem vinComparatorTrip : Statement (.vinComparatorTrip) := fun _ _ => rfl
theorem replicaMeasure (t : Nat) (margin : Int) (need : Nat) : Statement (.replicaMeasure t margin need) := fun _ h => tileOk_mono h
theorem avsCommand : Statement (.avsCommand) := fun _ _ => rfl
theorem avsLinkLost : Statement (.avsLinkLost) := fun _ _ => rfl
theorem holdupMeasured (dt : Nat) (stepUv : Nat) : Statement (.holdupMeasured dt stepUv) := fun _ _ => rfl
theorem holdupFault (reason : Nat) (esr : Nat) : Statement (.holdupFault reason esr) := fun _ _ => rfl
theorem resetNLow : Statement (.resetNLow) := fun _ _ => rfl
theorem pwrfailNLow : Statement (.pwrfailNLow) := fun _ _ => rfl
theorem seqInLow : Statement (.seqInLow) := fun _ _ => rfl
theorem safeRestart (cycled : Bool) : Statement (.safeRestart cycled) := fun _ _ => rfl
theorem powerDown (q : Requester) (v : Nat) : Statement (.powerDown q v) := fun _ h => h
theorem powerUp (q : Requester) (v : Nat) : Statement (.powerUp q v) := fun _ h => h
theorem staebMessage (q : Requester) (bytes : List Nat) : Statement (.staebMessage q bytes) := fun _ h => by
  simp only [Instr.wf, Bool.and_eq_true] at h ⊢
  exact ⟨h.1, h.2⟩
theorem objectWrite (q : Requester) (index : Nat) (sub : Nat) (value : List Nat) : Statement (.objectWrite q index sub value) := fun _ h => by
  simp only [Instr.wf, Bool.and_eq_true] at h ⊢
  exact ⟨⟨⟨h.1.1.1, h.1.1.2⟩, h.1.2⟩, h.2⟩
theorem readStaged (q : Requester) (index : Nat) (sub : Nat) : Statement (.readStaged q index sub) := fun _ h => by
  simp only [Instr.wf, Bool.and_eq_true] at h ⊢
  exact ⟨⟨h.1.1, h.1.2⟩, h.2⟩
theorem commit (q : Requester) (expected : Nat) (cut : Nat) : Statement (.commit q expected cut) := fun _ h => h
theorem partitionReleased (p_ : Nat) : Statement (.partitionReleased p_) := fun _ _ => rfl
theorem stageDiscard (q : Requester) (v : Nat) : Statement (.stageDiscard q v) := fun _ h => h
theorem stageExpired (q : Requester) : Statement (.stageExpired q) := fun _ h => h
theorem w1cWrite (q : Requester) (index : Nat) (sub : Nat) (v : Nat) : Statement (.w1cWrite q index sub v) := fun _ h => by
  simp only [Instr.wf, Bool.and_eq_true] at h ⊢
  exact ⟨⟨h.1.1, h.1.2⟩, h.2⟩
theorem cntSnapshot (q : Requester) (v : Nat) : Statement (.cntSnapshot q v) := fun _ h => h
theorem cntSnapshotLatch : Statement (.cntSnapshotLatch) := fun _ _ => rfl
theorem recPublish (r : Nat) : Statement (.recPublish r) := fun _ h => h
theorem recClear (q : Requester) (v : Nat) : Statement (.recClear q v) := fun _ h => h
theorem recNext (q : Requester) (t : Nat) (seq : Nat) : Statement (.recNext q t seq) := fun _ h => by
  simp only [Instr.wf, Bool.and_eq_true] at h ⊢
  exact ⟨h.1, tileOk_mono h.2⟩
theorem recRelease (q : Requester) (t : Nat) (seq : Nat) : Statement (.recRelease q t seq) := fun _ h => by
  simp only [Instr.wf, Bool.and_eq_true] at h ⊢
  exact ⟨h.1, tileOk_mono h.2⟩
theorem recPkgNext (q : Requester) (seq : Nat) : Statement (.recPkgNext q seq) := fun _ h => h
theorem recPkgRelease (q : Requester) (seq : Nat) : Statement (.recPkgRelease q seq) := fun _ h => h
theorem recSave (t : Nat) : Statement (.recSave t) := fun _ h => tileOk_mono h
theorem pstoreRingSave (t : Nat) (ring : Nat) : Statement (.pstoreRingSave t ring) := fun _ h => tileOk_mono h
theorem vauxOn : Statement (.vauxOn) := fun _ _ => rfl
theorem firmwareBootDone (a : Bool) (b : Bool) : Statement (.firmwareBootDone a b) := fun _ _ => rfl
theorem vauxRemoved : Statement (.vauxRemoved) := fun _ _ => rfl
theorem bringupStepDone (found : List Nat) : Statement (.bringupStepDone found) := fun _ _ => rfl
theorem degradedExit : Statement (.degradedExit) := fun _ _ => rfl
theorem fwActivateLive (q : Requester) : Statement (.fwActivateLive q) := fun _ h => h
theorem fwActivateAtReset (q : Requester) : Statement (.fwActivateAtReset q) := fun _ h => h
theorem liveUpdateStepDone (ok : Bool) : Statement (.liveUpdateStepDone ok) := fun _ _ => rfl
theorem fwSvnCommit (q : Requester) (v : Nat) : Statement (.fwSvnCommit q v) := fun _ h => h
theorem ownerInstall (q : Requester) (cert : Nat) : Statement (.ownerInstall q cert) := fun _ h => h
theorem decommission (q : Requester) (v : Nat) : Statement (.decommission q v) := fun _ h => h
theorem timebaseTick (k : Nat) : Statement (.timebaseTick k) := fun _ _ => rfl
theorem debugAccess (session : Nat) (dpa : Nat) (kx : Nat) (write : Bool) (mask : ByteMask) (data : Line) (pred : Nat) : Statement (.debugAccess session dpa kx write mask data pred) := fun _ _ => rfl
theorem hdmDecoderUncommit (port : Nat) (ld : Nat) (dec : Nat) : Statement (.hdmDecoderUncommit port ld dec) := fun _ h => by
  simp only [Instr.wf, Bool.and_eq_true] at h ⊢
  exact ⟨⟨portOk_mono h.1.1, h.1.2⟩, h.2⟩
theorem spdmSessionEstablished (id : Nat) (owner : Bool) (port : Option Nat) : Statement (.spdmSessionEstablished id owner port) := fun _ h => optPortOk_mono h
theorem standbyResynchronised : Statement (.standbyResynchronised) := fun _ _ => rfl
theorem pbrIdAssigned (port : Nat) (id : Nat) : Statement (.pbrIdAssigned port id) := fun _ h => portOk_mono h
theorem linkReplay (port : Nat) (flits : Nat) : Statement (.linkReplay port flits) := fun _ h => portOk_mono h

end Sys2Proof.Laws.Bounds
end

