-- ==== Sys2Proof/Laws/State.lean ====
section
/-! SUPPORT. What the shared updates leave unchanged: one lemma per field per update; what they make of the field they write; what reads of the
updated state give. -/
set_option Elab.async false
namespace Sys2Proof.Machine
open Sys2Proof

/-! ### `modTile` -/

@[simp] theorem State.modTile_pending (s : State) (t : Nat) (f : Tile → Tile) : (s.modTile t f).pending = s.pending := rfl
@[simp] theorem State.modTile_part (s : State) (t : Nat) (f : Tile → Tile) : (s.modTile t f).part = s.part := rfl
@[simp] theorem State.modTile_dev (s : State) (t : Nat) (f : Tile → Tile) : (s.modTile t f).dev = s.dev := rfl
@[simp] theorem State.modTile_sup (s : State) (t : Nat) (f : Tile → Tile) : (s.modTile t f).sup = s.sup := rfl
@[simp] theorem State.modTile_mgmt (s : State) (t : Nat) (f : Tile → Tile) : (s.modTile t f).mgmt = s.mgmt := rfl
@[simp] theorem State.modTile_fw (s : State) (t : Nat) (f : Tile → Tile) : (s.modTile t f).fw = s.fw := rfl
@[simp] theorem State.modTile_svc (s : State) (t : Nat) (f : Tile → Tile) : (s.modTile t f).svc = s.svc := rfl
@[simp] theorem State.modTile_obj (s : State) (t : Nat) (f : Tile → Tile) : (s.modTile t f).obj = s.obj := rfl
@[simp] theorem State.modTile_cnt (s : State) (t : Nat) (f : Tile → Tile) : (s.modTile t f).cnt = s.cnt := rfl
@[simp] theorem State.modTile_recs (s : State) (t : Nat) (f : Tile → Tile) : (s.modTile t f).recs = s.recs := rfl
@[simp] theorem State.modTile_ports (s : State) (t : Nat) (f : Tile → Tile) : (s.modTile t f).ports = s.ports := rfl
@[simp] theorem State.modTile_lds (s : State) (t : Nat) (f : Tile → Tile) : (s.modTile t f).lds = s.lds := rfl
@[simp] theorem State.modTile_feed (s : State) (t : Nat) (f : Tile → Tile) : (s.modTile t f).feed = s.feed := rfl
@[simp] theorem State.modTile_keys (s : State) (t : Nat) (f : Tile → Tile) : (s.modTile t f).keys = s.keys := rfl
@[simp] theorem State.modTile_parts (s : State) (t : Nat) (f : Tile → Tile) : (s.modTile t f).parts = s.parts := rfl
@[simp] theorem State.modTile_queues (s : State) (t : Nat) (f : Tile → Tile) : (s.modTile t f).queues = s.queues := rfl
@[simp] theorem State.modTile_refK0 (s : State) (t : Nat) (f : Tile → Tile) : (s.modTile t f).refK0 = s.refK0 := rfl
@[simp] theorem State.modTile_refK1 (s : State) (t : Nat) (f : Tile → Tile) : (s.modTile t f).refK1 = s.refK1 := rfl
@[simp] theorem State.modTile_master (s : State) (t : Nat) (f : Tile → Tile) : (s.modTile t f).master = s.master := rfl
@[simp] theorem State.modTile_out (s : State) (t : Nat) (f : Tile → Tile) : (s.modTile t f).out = s.out := rfl
@[simp] theorem State.modTile_freeCtr (s : State) (t : Nat) (f : Tile → Tile) : (s.modTile t f).freeCtr = s.freeCtr := rfl
@[simp] theorem State.modTile_n (s : State) (t : Nat) (f : Tile → Tile) : (s.modTile t f).n = s.n := rfl
@[simp] theorem State.modTile_tileNumbers (s : State) (t : Nat) (f : Tile → Tile) : (s.modTile t f).tileNumbers = s.tileNumbers := rfl
@[simp] theorem State.modTile_port (s : State) (t : Nat) (f : Tile → Tile) (u : Nat) : (s.modTile t f).port u = s.port u := rfl
@[simp] theorem State.modTile_ld (s : State) (t : Nat) (f : Tile → Tile) (u v : Nat) : (s.modTile t f).ld u v = s.ld u v := rfl
@[simp] theorem State.modTile_cls (s : State) (t : Nat) (f : Tile → Tile) (u : Nat) : (s.modTile t f).cls u = s.cls u := rfl
@[simp] theorem State.modTile_queue (s : State) (t : Nat) (f : Tile → Tile) (u v : Nat) : (s.modTile t f).queue u v = s.queue u v := rfl
@[simp] theorem State.modTile_cell (s : State) (t : Nat) (f : Tile → Tile) (u v : Nat) : (s.modTile t f).cell u v = s.cell u v := rfl
@[simp] theorem State.modTile_counter (s : State) (t : Nat) (f : Tile → Tile) (u : Nat) : (s.modTile t f).counter u = s.counter u := rfl
@[simp] theorem State.modTile_inService (s : State) (t : Nat) (f : Tile → Tile) : (s.modTile t f).inService = s.inService := rfl
@[simp] theorem State.modTile_coreTile (s : State) (t : Nat) (f : Tile → Tile) : (s.modTile t f).coreTile = s.coreTile := rfl

/-! ### A change of one part of a tile is a change of the tile -/

@[simp] theorem State.modTime_eq (s : State) (t : Nat) (f : TileTime → TileTime) : s.modTime t f = s.modTile t (fun x => { x with time := f x.time }) := rfl
@[simp] theorem State.modSup_eq (s : State) (t : Nat) (f : TileSup → TileSup) : s.modSup t f = s.modTile t (fun x => { x with sup := f x.sup }) := rfl
@[simp] theorem State.modMed_eq (s : State) (t : Nat) (f : TileMed → TileMed) : s.modMed t f = s.modTile t (fun x => { x with med := f x.med }) := rfl
@[simp] theorem State.modRes_eq (s : State) (t : Nat) (f : TileRes → TileRes) : s.modRes t f = s.modTile t (fun x => { x with res := f x.res }) := rfl
@[simp] theorem State.modRd_eq (s : State) (t : Nat) (f : TileRead → TileRead) : s.modRd t f = s.modTile t (fun x => { x with rd := f x.rd }) := rfl
@[simp] theorem State.modMap_eq (s : State) (t : Nat) (f : TileMap → TileMap) : s.modMap t f = s.modTile t (fun x => { x with map := f x.map }) := rfl
@[simp] theorem State.modPat_eq (s : State) (t : Nat) (f : TilePat → TilePat) : s.modPat t f = s.modTile t (fun x => { x with pat := f x.pat }) := rfl
@[simp] theorem State.modFence_eq (s : State) (t : Nat) (f : TileFence → TileFence) : s.modFence t f = s.modTile t (fun x => { x with fence := f x.fence }) := rfl
@[simp] theorem State.modPs_eq (s : State) (t : Nat) (f : PStore → PStore) : s.modPs t f = s.modTile t (fun x => { x with ps := f x.ps }) := rfl

/-! ### `modPort` -/

@[simp] theorem State.modPort_pending (s : State) (p : Nat) (f : Port → Port) : (s.modPort p f).pending = s.pending := rfl
@[simp] theorem State.modPort_part (s : State) (p : Nat) (f : Port → Port) : (s.modPort p f).part = s.part := rfl
@[simp] theorem State.modPort_dev (s : State) (p : Nat) (f : Port → Port) : (s.modPort p f).dev = s.dev := rfl
@[simp] theorem State.modPort_sup (s : State) (p : Nat) (f : Port → Port) : (s.modPort p f).sup = s.sup := rfl
@[simp] theorem State.modPort_mgmt (s : State) (p : Nat) (f : Port → Port) : (s.modPort p f).mgmt = s.mgmt := rfl
@[simp] theorem State.modPort_fw (s : State) (p : Nat) (f : Port → Port) : (s.modPort p f).fw = s.fw := rfl
@[simp] theorem State.modPort_svc (s : State) (p : Nat) (f : Port → Port) : (s.modPort p f).svc = s.svc := rfl
@[simp] theorem State.modPort_obj (s : State) (p : Nat) (f : Port → Port) : (s.modPort p f).obj = s.obj := rfl
@[simp] theorem State.modPort_cnt (s : State) (p : Nat) (f : Port → Port) : (s.modPort p f).cnt = s.cnt := rfl
@[simp] theorem State.modPort_recs (s : State) (p : Nat) (f : Port → Port) : (s.modPort p f).recs = s.recs := rfl
@[simp] theorem State.modPort_tiles (s : State) (p : Nat) (f : Port → Port) : (s.modPort p f).tiles = s.tiles := rfl
@[simp] theorem State.modPort_lds (s : State) (p : Nat) (f : Port → Port) : (s.modPort p f).lds = s.lds := rfl
@[simp] theorem State.modPort_feed (s : State) (p : Nat) (f : Port → Port) : (s.modPort p f).feed = s.feed := rfl
@[simp] theorem State.modPort_keys (s : State) (p : Nat) (f : Port → Port) : (s.modPort p f).keys = s.keys := rfl
@[simp] theorem State.modPort_parts (s : State) (p : Nat) (f : Port → Port) : (s.modPort p f).parts = s.parts := rfl
@[simp] theorem State.modPort_queues (s : State) (p : Nat) (f : Port → Port) : (s.modPort p f).queues = s.queues := rfl
@[simp] theorem State.modPort_refK0 (s : State) (p : Nat) (f : Port → Port) : (s.modPort p f).refK0 = s.refK0 := rfl
@[simp] theorem State.modPort_refK1 (s : State) (p : Nat) (f : Port → Port) : (s.modPort p f).refK1 = s.refK1 := rfl
@[simp] theorem State.modPort_master (s : State) (p : Nat) (f : Port → Port) : (s.modPort p f).master = s.master := rfl
@[simp] theorem State.modPort_out (s : State) (p : Nat) (f : Port → Port) : (s.modPort p f).out = s.out := rfl
@[simp] theorem State.modPort_freeCtr (s : State) (p : Nat) (f : Port → Port) : (s.modPort p f).freeCtr = s.freeCtr := rfl
@[simp] theorem State.modPort_n (s : State) (p : Nat) (f : Port → Port) : (s.modPort p f).n = s.n := rfl
@[simp] theorem State.modPort_tileNumbers (s : State) (p : Nat) (f : Port → Port) : (s.modPort p f).tileNumbers = s.tileNumbers := rfl
@[simp] theorem State.modPort_tile (s : State) (p : Nat) (f : Port → Port) (u : Nat) : (s.modPort p f).tile u = s.tile u := rfl
@[simp] theorem State.modPort_ld (s : State) (p : Nat) (f : Port → Port) (u v : Nat) : (s.modPort p f).ld u v = s.ld u v := rfl
@[simp] theorem State.modPort_cls (s : State) (p : Nat) (f : Port → Port) (u : Nat) : (s.modPort p f).cls u = s.cls u := rfl
@[simp] theorem State.modPort_queue (s : State) (p : Nat) (f : Port → Port) (u v : Nat) : (s.modPort p f).queue u v = s.queue u v := rfl
@[simp] theorem State.modPort_cell (s : State) (p : Nat) (f : Port → Port) (u v : Nat) : (s.modPort p f).cell u v = s.cell u v := rfl
@[simp] theorem State.modPort_now (s : State) (p : Nat) (f : Port → Port) (u : Nat) : (s.modPort p f).now u = s.now u := rfl
@[simp] theorem State.modPort_counter (s : State) (p : Nat) (f : Port → Port) (u : Nat) : (s.modPort p f).counter u = s.counter u := rfl
@[simp] theorem State.modPort_tileActive (s : State) (p : Nat) (f : Port → Port) (u : Nat) : (s.modPort p f).tileActive u = s.tileActive u := rfl
@[simp] theorem State.modPort_activeTiles (s : State) (p : Nat) (f : Port → Port) : (s.modPort p f).activeTiles = s.activeTiles := rfl
@[simp] theorem State.modPort_inService (s : State) (p : Nat) (f : Port → Port) : (s.modPort p f).inService = s.inService := rfl
@[simp] theorem State.modPort_coreTile (s : State) (p : Nat) (f : Port → Port) : (s.modPort p f).coreTile = s.coreTile := rfl
@[simp] theorem State.modPort_pkgNow (s : State) (p : Nat) (f : Port → Port) : (s.modPort p f).pkgNow = s.pkgNow := rfl

/-! ### `modLd` -/

@[simp] theorem State.modLd_pending (s : State) (p l : Nat) (f : LD → LD) : (s.modLd p l f).pending = s.pending := rfl
@[simp] theorem State.modLd_part (s : State) (p l : Nat) (f : LD → LD) : (s.modLd p l f).part = s.part := rfl
@[simp] theorem State.modLd_dev (s : State) (p l : Nat) (f : LD → LD) : (s.modLd p l f).dev = s.dev := rfl
@[simp] theorem State.modLd_sup (s : State) (p l : Nat) (f : LD → LD) : (s.modLd p l f).sup = s.sup := rfl
@[simp] theorem State.modLd_mgmt (s : State) (p l : Nat) (f : LD → LD) : (s.modLd p l f).mgmt = s.mgmt := rfl
@[simp] theorem State.modLd_fw (s : State) (p l : Nat) (f : LD → LD) : (s.modLd p l f).fw = s.fw := rfl
@[simp] theorem State.modLd_svc (s : State) (p l : Nat) (f : LD → LD) : (s.modLd p l f).svc = s.svc := rfl
@[simp] theorem State.modLd_obj (s : State) (p l : Nat) (f : LD → LD) : (s.modLd p l f).obj = s.obj := rfl
@[simp] theorem State.modLd_cnt (s : State) (p l : Nat) (f : LD → LD) : (s.modLd p l f).cnt = s.cnt := rfl
@[simp] theorem State.modLd_recs (s : State) (p l : Nat) (f : LD → LD) : (s.modLd p l f).recs = s.recs := rfl
@[simp] theorem State.modLd_tiles (s : State) (p l : Nat) (f : LD → LD) : (s.modLd p l f).tiles = s.tiles := rfl
@[simp] theorem State.modLd_ports (s : State) (p l : Nat) (f : LD → LD) : (s.modLd p l f).ports = s.ports := rfl
@[simp] theorem State.modLd_feed (s : State) (p l : Nat) (f : LD → LD) : (s.modLd p l f).feed = s.feed := rfl
@[simp] theorem State.modLd_keys (s : State) (p l : Nat) (f : LD → LD) : (s.modLd p l f).keys = s.keys := rfl
@[simp] theorem State.modLd_parts (s : State) (p l : Nat) (f : LD → LD) : (s.modLd p l f).parts = s.parts := rfl
@[simp] theorem State.modLd_queues (s : State) (p l : Nat) (f : LD → LD) : (s.modLd p l f).queues = s.queues := rfl
@[simp] theorem State.modLd_refK0 (s : State) (p l : Nat) (f : LD → LD) : (s.modLd p l f).refK0 = s.refK0 := rfl
@[simp] theorem State.modLd_refK1 (s : State) (p l : Nat) (f : LD → LD) : (s.modLd p l f).refK1 = s.refK1 := rfl
@[simp] theorem State.modLd_master (s : State) (p l : Nat) (f : LD → LD) : (s.modLd p l f).master = s.master := rfl
@[simp] theorem State.modLd_out (s : State) (p l : Nat) (f : LD → LD) : (s.modLd p l f).out = s.out := rfl
@[simp] theorem State.modLd_freeCtr (s : State) (p l : Nat) (f : LD → LD) : (s.modLd p l f).freeCtr = s.freeCtr := rfl
@[simp] theorem State.modLd_n (s : State) (p l : Nat) (f : LD → LD) : (s.modLd p l f).n = s.n := rfl
@[simp] theorem State.modLd_tileNumbers (s : State) (p l : Nat) (f : LD → LD) : (s.modLd p l f).tileNumbers = s.tileNumbers := rfl
@[simp] theorem State.modLd_tile (s : State) (p l : Nat) (f : LD → LD) (u : Nat) : (s.modLd p l f).tile u = s.tile u := rfl
@[simp] theorem State.modLd_port (s : State) (p l : Nat) (f : LD → LD) (u : Nat) : (s.modLd p l f).port u = s.port u := rfl
@[simp] theorem State.modLd_cls (s : State) (p l : Nat) (f : LD → LD) (u : Nat) : (s.modLd p l f).cls u = s.cls u := rfl
@[simp] theorem State.modLd_queue (s : State) (p l : Nat) (f : LD → LD) (u v : Nat) : (s.modLd p l f).queue u v = s.queue u v := rfl
@[simp] theorem State.modLd_cell (s : State) (p l : Nat) (f : LD → LD) (u v : Nat) : (s.modLd p l f).cell u v = s.cell u v := rfl
@[simp] theorem State.modLd_now (s : State) (p l : Nat) (f : LD → LD) (u : Nat) : (s.modLd p l f).now u = s.now u := rfl
@[simp] theorem State.modLd_counter (s : State) (p l : Nat) (f : LD → LD) (u : Nat) : (s.modLd p l f).counter u = s.counter u := rfl
@[simp] theorem State.modLd_tileActive (s : State) (p l : Nat) (f : LD → LD) (u : Nat) : (s.modLd p l f).tileActive u = s.tileActive u := rfl
@[simp] theorem State.modLd_activeTiles (s : State) (p l : Nat) (f : LD → LD) : (s.modLd p l f).activeTiles = s.activeTiles := rfl
@[simp] theorem State.modLd_inService (s : State) (p l : Nat) (f : LD → LD) : (s.modLd p l f).inService = s.inService := rfl
@[simp] theorem State.modLd_coreTile (s : State) (p l : Nat) (f : LD → LD) : (s.modLd p l f).coreTile = s.coreTile := rfl
@[simp] theorem State.modLd_pkgNow (s : State) (p l : Nat) (f : LD → LD) : (s.modLd p l f).pkgNow = s.pkgNow := rfl

/-! ### `modCls` -/

@[simp] theorem State.modCls_pending (s : State) (c : Nat) (f : FeedClass → FeedClass) : (s.modCls c f).pending = s.pending := rfl
@[simp] theorem State.modCls_part (s : State) (c : Nat) (f : FeedClass → FeedClass) : (s.modCls c f).part = s.part := rfl
@[simp] theorem State.modCls_dev (s : State) (c : Nat) (f : FeedClass → FeedClass) : (s.modCls c f).dev = s.dev := rfl
@[simp] theorem State.modCls_sup (s : State) (c : Nat) (f : FeedClass → FeedClass) : (s.modCls c f).sup = s.sup := rfl
@[simp] theorem State.modCls_mgmt (s : State) (c : Nat) (f : FeedClass → FeedClass) : (s.modCls c f).mgmt = s.mgmt := rfl
@[simp] theorem State.modCls_fw (s : State) (c : Nat) (f : FeedClass → FeedClass) : (s.modCls c f).fw = s.fw := rfl
@[simp] theorem State.modCls_svc (s : State) (c : Nat) (f : FeedClass → FeedClass) : (s.modCls c f).svc = s.svc := rfl
@[simp] theorem State.modCls_obj (s : State) (c : Nat) (f : FeedClass → FeedClass) : (s.modCls c f).obj = s.obj := rfl
@[simp] theorem State.modCls_cnt (s : State) (c : Nat) (f : FeedClass → FeedClass) : (s.modCls c f).cnt = s.cnt := rfl
@[simp] theorem State.modCls_recs (s : State) (c : Nat) (f : FeedClass → FeedClass) : (s.modCls c f).recs = s.recs := rfl
@[simp] theorem State.modCls_tiles (s : State) (c : Nat) (f : FeedClass → FeedClass) : (s.modCls c f).tiles = s.tiles := rfl
@[simp] theorem State.modCls_ports (s : State) (c : Nat) (f : FeedClass → FeedClass) : (s.modCls c f).ports = s.ports := rfl
@[simp] theorem State.modCls_lds (s : State) (c : Nat) (f : FeedClass → FeedClass) : (s.modCls c f).lds = s.lds := rfl
@[simp] theorem State.modCls_keys (s : State) (c : Nat) (f : FeedClass → FeedClass) : (s.modCls c f).keys = s.keys := rfl
@[simp] theorem State.modCls_parts (s : State) (c : Nat) (f : FeedClass → FeedClass) : (s.modCls c f).parts = s.parts := rfl
@[simp] theorem State.modCls_queues (s : State) (c : Nat) (f : FeedClass → FeedClass) : (s.modCls c f).queues = s.queues := rfl
@[simp] theorem State.modCls_refK0 (s : State) (c : Nat) (f : FeedClass → FeedClass) : (s.modCls c f).refK0 = s.refK0 := rfl
@[simp] theorem State.modCls_refK1 (s : State) (c : Nat) (f : FeedClass → FeedClass) : (s.modCls c f).refK1 = s.refK1 := rfl
@[simp] theorem State.modCls_master (s : State) (c : Nat) (f : FeedClass → FeedClass) : (s.modCls c f).master = s.master := rfl
@[simp] theorem State.modCls_out (s : State) (c : Nat) (f : FeedClass → FeedClass) : (s.modCls c f).out = s.out := rfl
@[simp] theorem State.modCls_freeCtr (s : State) (c : Nat) (f : FeedClass → FeedClass) : (s.modCls c f).freeCtr = s.freeCtr := rfl
@[simp] theorem State.modCls_n (s : State) (c : Nat) (f : FeedClass → FeedClass) : (s.modCls c f).n = s.n := rfl
@[simp] theorem State.modCls_tileNumbers (s : State) (c : Nat) (f : FeedClass → FeedClass) : (s.modCls c f).tileNumbers = s.tileNumbers := rfl
@[simp] theorem State.modCls_tile (s : State) (c : Nat) (f : FeedClass → FeedClass) (u : Nat) : (s.modCls c f).tile u = s.tile u := rfl
@[simp] theorem State.modCls_port (s : State) (c : Nat) (f : FeedClass → FeedClass) (u : Nat) : (s.modCls c f).port u = s.port u := rfl
@[simp] theorem State.modCls_ld (s : State) (c : Nat) (f : FeedClass → FeedClass) (u v : Nat) : (s.modCls c f).ld u v = s.ld u v := rfl
@[simp] theorem State.modCls_queue (s : State) (c : Nat) (f : FeedClass → FeedClass) (u v : Nat) : (s.modCls c f).queue u v = s.queue u v := rfl
@[simp] theorem State.modCls_cell (s : State) (c : Nat) (f : FeedClass → FeedClass) (u v : Nat) : (s.modCls c f).cell u v = s.cell u v := rfl
@[simp] theorem State.modCls_now (s : State) (c : Nat) (f : FeedClass → FeedClass) (u : Nat) : (s.modCls c f).now u = s.now u := rfl
@[simp] theorem State.modCls_counter (s : State) (c : Nat) (f : FeedClass → FeedClass) (u : Nat) : (s.modCls c f).counter u = s.counter u := rfl
@[simp] theorem State.modCls_tileActive (s : State) (c : Nat) (f : FeedClass → FeedClass) (u : Nat) : (s.modCls c f).tileActive u = s.tileActive u := rfl
@[simp] theorem State.modCls_activeTiles (s : State) (c : Nat) (f : FeedClass → FeedClass) : (s.modCls c f).activeTiles = s.activeTiles := rfl
@[simp] theorem State.modCls_inService (s : State) (c : Nat) (f : FeedClass → FeedClass) : (s.modCls c f).inService = s.inService := rfl
@[simp] theorem State.modCls_coreTile (s : State) (c : Nat) (f : FeedClass → FeedClass) : (s.modCls c f).coreTile = s.coreTile := rfl
@[simp] theorem State.modCls_pkgNow (s : State) (c : Nat) (f : FeedClass → FeedClass) : (s.modCls c f).pkgNow = s.pkgNow := rfl

/-! ### `modQueue` -/

@[simp] theorem State.modQueue_pending (s : State) (t q : Nat) (f : Queue → Queue) : (s.modQueue t q f).pending = s.pending := rfl
@[simp] theorem State.modQueue_part (s : State) (t q : Nat) (f : Queue → Queue) : (s.modQueue t q f).part = s.part := rfl
@[simp] theorem State.modQueue_dev (s : State) (t q : Nat) (f : Queue → Queue) : (s.modQueue t q f).dev = s.dev := rfl
@[simp] theorem State.modQueue_sup (s : State) (t q : Nat) (f : Queue → Queue) : (s.modQueue t q f).sup = s.sup := rfl
@[simp] theorem State.modQueue_mgmt (s : State) (t q : Nat) (f : Queue → Queue) : (s.modQueue t q f).mgmt = s.mgmt := rfl
@[simp] theorem State.modQueue_fw (s : State) (t q : Nat) (f : Queue → Queue) : (s.modQueue t q f).fw = s.fw := rfl
@[simp] theorem State.modQueue_svc (s : State) (t q : Nat) (f : Queue → Queue) : (s.modQueue t q f).svc = s.svc := rfl
@[simp] theorem State.modQueue_obj (s : State) (t q : Nat) (f : Queue → Queue) : (s.modQueue t q f).obj = s.obj := rfl
@[simp] theorem State.modQueue_cnt (s : State) (t q : Nat) (f : Queue → Queue) : (s.modQueue t q f).cnt = s.cnt := rfl
@[simp] theorem State.modQueue_recs (s : State) (t q : Nat) (f : Queue → Queue) : (s.modQueue t q f).recs = s.recs := rfl
@[simp] theorem State.modQueue_tiles (s : State) (t q : Nat) (f : Queue → Queue) : (s.modQueue t q f).tiles = s.tiles := rfl
@[simp] theorem State.modQueue_ports (s : State) (t q : Nat) (f : Queue → Queue) : (s.modQueue t q f).ports = s.ports := rfl
@[simp] theorem State.modQueue_lds (s : State) (t q : Nat) (f : Queue → Queue) : (s.modQueue t q f).lds = s.lds := rfl
@[simp] theorem State.modQueue_feed (s : State) (t q : Nat) (f : Queue → Queue) : (s.modQueue t q f).feed = s.feed := rfl
@[simp] theorem State.modQueue_keys (s : State) (t q : Nat) (f : Queue → Queue) : (s.modQueue t q f).keys = s.keys := rfl
@[simp] theorem State.modQueue_parts (s : State) (t q : Nat) (f : Queue → Queue) : (s.modQueue t q f).parts = s.parts := rfl
@[simp] theorem State.modQueue_refK0 (s : State) (t q : Nat) (f : Queue → Queue) : (s.modQueue t q f).refK0 = s.refK0 := rfl
@[simp] theorem State.modQueue_refK1 (s : State) (t q : Nat) (f : Queue → Queue) : (s.modQueue t q f).refK1 = s.refK1 := rfl
@[simp] theorem State.modQueue_master (s : State) (t q : Nat) (f : Queue → Queue) : (s.modQueue t q f).master = s.master := rfl
@[simp] theorem State.modQueue_out (s : State) (t q : Nat) (f : Queue → Queue) : (s.modQueue t q f).out = s.out := rfl
@[simp] theorem State.modQueue_freeCtr (s : State) (t q : Nat) (f : Queue → Queue) : (s.modQueue t q f).freeCtr = s.freeCtr := rfl
@[simp] theorem State.modQueue_n (s : State) (t q : Nat) (f : Queue → Queue) : (s.modQueue t q f).n = s.n := rfl
@[simp] theorem State.modQueue_tileNumbers (s : State) (t q : Nat) (f : Queue → Queue) : (s.modQueue t q f).tileNumbers = s.tileNumbers := rfl
@[simp] theorem State.modQueue_tile (s : State) (t q : Nat) (f : Queue → Queue) (u : Nat) : (s.modQueue t q f).tile u = s.tile u := rfl
@[simp] theorem State.modQueue_port (s : State) (t q : Nat) (f : Queue → Queue) (u : Nat) : (s.modQueue t q f).port u = s.port u := rfl
@[simp] theorem State.modQueue_ld (s : State) (t q : Nat) (f : Queue → Queue) (u v : Nat) : (s.modQueue t q f).ld u v = s.ld u v := rfl
@[simp] theorem State.modQueue_cls (s : State) (t q : Nat) (f : Queue → Queue) (u : Nat) : (s.modQueue t q f).cls u = s.cls u := rfl
@[simp] theorem State.modQueue_cell (s : State) (t q : Nat) (f : Queue → Queue) (u v : Nat) : (s.modQueue t q f).cell u v = s.cell u v := rfl
@[simp] theorem State.modQueue_now (s : State) (t q : Nat) (f : Queue → Queue) (u : Nat) : (s.modQueue t q f).now u = s.now u := rfl
@[simp] theorem State.modQueue_counter (s : State) (t q : Nat) (f : Queue → Queue) (u : Nat) : (s.modQueue t q f).counter u = s.counter u := rfl
@[simp] theorem State.modQueue_tileActive (s : State) (t q : Nat) (f : Queue → Queue) (u : Nat) : (s.modQueue t q f).tileActive u = s.tileActive u := rfl
@[simp] theorem State.modQueue_activeTiles (s : State) (t q : Nat) (f : Queue → Queue) : (s.modQueue t q f).activeTiles = s.activeTiles := rfl
@[simp] theorem State.modQueue_inService (s : State) (t q : Nat) (f : Queue → Queue) : (s.modQueue t q f).inService = s.inService := rfl
@[simp] theorem State.modQueue_coreTile (s : State) (t q : Nat) (f : Queue → Queue) : (s.modQueue t q f).coreTile = s.coreTile := rfl
@[simp] theorem State.modQueue_pkgNow (s : State) (t q : Nat) (f : Queue → Queue) : (s.modQueue t q f).pkgNow = s.pkgNow := rfl

/-! ### `setCell` -/

@[simp] theorem State.setCell_pending (s : State) (k x : Nat) : (s.setCell k x).pending = s.pending := rfl
@[simp] theorem State.setCell_part (s : State) (k x : Nat) : (s.setCell k x).part = s.part := rfl
@[simp] theorem State.setCell_dev (s : State) (k x : Nat) : (s.setCell k x).dev = s.dev := rfl
@[simp] theorem State.setCell_sup (s : State) (k x : Nat) : (s.setCell k x).sup = s.sup := rfl
@[simp] theorem State.setCell_mgmt (s : State) (k x : Nat) : (s.setCell k x).mgmt = s.mgmt := rfl
@[simp] theorem State.setCell_fw (s : State) (k x : Nat) : (s.setCell k x).fw = s.fw := rfl
@[simp] theorem State.setCell_svc (s : State) (k x : Nat) : (s.setCell k x).svc = s.svc := rfl
@[simp] theorem State.setCell_cnt (s : State) (k x : Nat) : (s.setCell k x).cnt = s.cnt := rfl
@[simp] theorem State.setCell_recs (s : State) (k x : Nat) : (s.setCell k x).recs = s.recs := rfl
@[simp] theorem State.setCell_tiles (s : State) (k x : Nat) : (s.setCell k x).tiles = s.tiles := rfl
@[simp] theorem State.setCell_ports (s : State) (k x : Nat) : (s.setCell k x).ports = s.ports := rfl
@[simp] theorem State.setCell_lds (s : State) (k x : Nat) : (s.setCell k x).lds = s.lds := rfl
@[simp] theorem State.setCell_feed (s : State) (k x : Nat) : (s.setCell k x).feed = s.feed := rfl
@[simp] theorem State.setCell_keys (s : State) (k x : Nat) : (s.setCell k x).keys = s.keys := rfl
@[simp] theorem State.setCell_parts (s : State) (k x : Nat) : (s.setCell k x).parts = s.parts := rfl
@[simp] theorem State.setCell_queues (s : State) (k x : Nat) : (s.setCell k x).queues = s.queues := rfl
@[simp] theorem State.setCell_refK0 (s : State) (k x : Nat) : (s.setCell k x).refK0 = s.refK0 := rfl
@[simp] theorem State.setCell_refK1 (s : State) (k x : Nat) : (s.setCell k x).refK1 = s.refK1 := rfl
@[simp] theorem State.setCell_master (s : State) (k x : Nat) : (s.setCell k x).master = s.master := rfl
@[simp] theorem State.setCell_out (s : State) (k x : Nat) : (s.setCell k x).out = s.out := rfl
@[simp] theorem State.setCell_freeCtr (s : State) (k x : Nat) : (s.setCell k x).freeCtr = s.freeCtr := rfl
@[simp] theorem State.setCell_n (s : State) (k x : Nat) : (s.setCell k x).n = s.n := rfl
@[simp] theorem State.setCell_tileNumbers (s : State) (k x : Nat) : (s.setCell k x).tileNumbers = s.tileNumbers := rfl
@[simp] theorem State.setCell_tile (s : State) (k x : Nat) (u : Nat) : (s.setCell k x).tile u = s.tile u := rfl
@[simp] theorem State.setCell_port (s : State) (k x : Nat) (u : Nat) : (s.setCell k x).port u = s.port u := rfl
@[simp] theorem State.setCell_ld (s : State) (k x : Nat) (u v : Nat) : (s.setCell k x).ld u v = s.ld u v := rfl
@[simp] theorem State.setCell_cls (s : State) (k x : Nat) (u : Nat) : (s.setCell k x).cls u = s.cls u := rfl
@[simp] theorem State.setCell_queue (s : State) (k x : Nat) (u v : Nat) : (s.setCell k x).queue u v = s.queue u v := rfl
@[simp] theorem State.setCell_now (s : State) (k x : Nat) (u : Nat) : (s.setCell k x).now u = s.now u := rfl
@[simp] theorem State.setCell_counter (s : State) (k x : Nat) (u : Nat) : (s.setCell k x).counter u = s.counter u := rfl
@[simp] theorem State.setCell_tileActive (s : State) (k x : Nat) (u : Nat) : (s.setCell k x).tileActive u = s.tileActive u := rfl
@[simp] theorem State.setCell_activeTiles (s : State) (k x : Nat) : (s.setCell k x).activeTiles = s.activeTiles := rfl
@[simp] theorem State.setCell_inService (s : State) (k x : Nat) : (s.setCell k x).inService = s.inService := rfl

/-! ### `bumpFree` -/

@[simp] theorem State.bumpFree_pending (s : State) : (s.bumpFree).pending = s.pending := rfl
@[simp] theorem State.bumpFree_part (s : State) : (s.bumpFree).part = s.part := rfl
@[simp] theorem State.bumpFree_dev (s : State) : (s.bumpFree).dev = s.dev := rfl
@[simp] theorem State.bumpFree_sup (s : State) : (s.bumpFree).sup = s.sup := rfl
@[simp] theorem State.bumpFree_mgmt (s : State) : (s.bumpFree).mgmt = s.mgmt := rfl
@[simp] theorem State.bumpFree_fw (s : State) : (s.bumpFree).fw = s.fw := rfl
@[simp] theorem State.bumpFree_svc (s : State) : (s.bumpFree).svc = s.svc := rfl
@[simp] theorem State.bumpFree_obj (s : State) : (s.bumpFree).obj = s.obj := rfl
@[simp] theorem State.bumpFree_cnt (s : State) : (s.bumpFree).cnt = s.cnt := rfl
@[simp] theorem State.bumpFree_recs (s : State) : (s.bumpFree).recs = s.recs := rfl
@[simp] theorem State.bumpFree_tiles (s : State) : (s.bumpFree).tiles = s.tiles := rfl
@[simp] theorem State.bumpFree_ports (s : State) : (s.bumpFree).ports = s.ports := rfl
@[simp] theorem State.bumpFree_lds (s : State) : (s.bumpFree).lds = s.lds := rfl
@[simp] theorem State.bumpFree_feed (s : State) : (s.bumpFree).feed = s.feed := rfl
@[simp] theorem State.bumpFree_keys (s : State) : (s.bumpFree).keys = s.keys := rfl
@[simp] theorem State.bumpFree_parts (s : State) : (s.bumpFree).parts = s.parts := rfl
@[simp] theorem State.bumpFree_queues (s : State) : (s.bumpFree).queues = s.queues := rfl
@[simp] theorem State.bumpFree_refK0 (s : State) : (s.bumpFree).refK0 = s.refK0 := rfl
@[simp] theorem State.bumpFree_refK1 (s : State) : (s.bumpFree).refK1 = s.refK1 := rfl
@[simp] theorem State.bumpFree_master (s : State) : (s.bumpFree).master = s.master := rfl
@[simp] theorem State.bumpFree_out (s : State) : (s.bumpFree).out = s.out := rfl
@[simp] theorem State.bumpFree_n (s : State)  : (s.bumpFree).n = s.n := rfl
@[simp] theorem State.bumpFree_tileNumbers (s : State)  : (s.bumpFree).tileNumbers = s.tileNumbers := rfl
@[simp] theorem State.bumpFree_tile (s : State) (u : Nat) : (s.bumpFree).tile u = s.tile u := rfl
@[simp] theorem State.bumpFree_port (s : State) (u : Nat) : (s.bumpFree).port u = s.port u := rfl
@[simp] theorem State.bumpFree_ld (s : State) (u v : Nat) : (s.bumpFree).ld u v = s.ld u v := rfl
@[simp] theorem State.bumpFree_cls (s : State) (u : Nat) : (s.bumpFree).cls u = s.cls u := rfl
@[simp] theorem State.bumpFree_queue (s : State) (u v : Nat) : (s.bumpFree).queue u v = s.queue u v := rfl
@[simp] theorem State.bumpFree_cell (s : State) (u v : Nat) : (s.bumpFree).cell u v = s.cell u v := rfl
@[simp] theorem State.bumpFree_now (s : State) (u : Nat) : (s.bumpFree).now u = s.now u := rfl
@[simp] theorem State.bumpFree_counter (s : State) (u : Nat) : (s.bumpFree).counter u = s.counter u := rfl
@[simp] theorem State.bumpFree_tileActive (s : State) (u : Nat) : (s.bumpFree).tileActive u = s.tileActive u := rfl
@[simp] theorem State.bumpFree_activeTiles (s : State)  : (s.bumpFree).activeTiles = s.activeTiles := rfl
@[simp] theorem State.bumpFree_inService (s : State)  : (s.bumpFree).inService = s.inService := rfl
@[simp] theorem State.bumpFree_coreTile (s : State)  : (s.bumpFree).coreTile = s.coreTile := rfl
@[simp] theorem State.bumpFree_pkgNow (s : State)  : (s.bumpFree).pkgNow = s.pkgNow := rfl

/-! ### `transfer` -/

@[simp] theorem State.transfer_pending (s : State) (t die cls k : Nat) : (s.transfer t die cls k).pending = s.pending := rfl
@[simp] theorem State.transfer_part (s : State) (t die cls k : Nat) : (s.transfer t die cls k).part = s.part := rfl
@[simp] theorem State.transfer_dev (s : State) (t die cls k : Nat) : (s.transfer t die cls k).dev = s.dev := rfl
@[simp] theorem State.transfer_sup (s : State) (t die cls k : Nat) : (s.transfer t die cls k).sup = s.sup := rfl
@[simp] theorem State.transfer_mgmt (s : State) (t die cls k : Nat) : (s.transfer t die cls k).mgmt = s.mgmt := rfl
@[simp] theorem State.transfer_fw (s : State) (t die cls k : Nat) : (s.transfer t die cls k).fw = s.fw := rfl
@[simp] theorem State.transfer_svc (s : State) (t die cls k : Nat) : (s.transfer t die cls k).svc = s.svc := rfl
@[simp] theorem State.transfer_obj (s : State) (t die cls k : Nat) : (s.transfer t die cls k).obj = s.obj := rfl
@[simp] theorem State.transfer_recs (s : State) (t die cls k : Nat) : (s.transfer t die cls k).recs = s.recs := rfl
@[simp] theorem State.transfer_tiles (s : State) (t die cls k : Nat) : (s.transfer t die cls k).tiles = s.tiles := rfl
@[simp] theorem State.transfer_ports (s : State) (t die cls k : Nat) : (s.transfer t die cls k).ports = s.ports := rfl
@[simp] theorem State.transfer_lds (s : State) (t die cls k : Nat) : (s.transfer t die cls k).lds = s.lds := rfl
@[simp] theorem State.transfer_feed (s : State) (t die cls k : Nat) : (s.transfer t die cls k).feed = s.feed := rfl
@[simp] theorem State.transfer_keys (s : State) (t die cls k : Nat) : (s.transfer t die cls k).keys = s.keys := rfl
@[simp] theorem State.transfer_parts (s : State) (t die cls k : Nat) : (s.transfer t die cls k).parts = s.parts := rfl
@[simp] theorem State.transfer_queues (s : State) (t die cls k : Nat) : (s.transfer t die cls k).queues = s.queues := rfl
@[simp] theorem State.transfer_refK0 (s : State) (t die cls k : Nat) : (s.transfer t die cls k).refK0 = s.refK0 := rfl
@[simp] theorem State.transfer_refK1 (s : State) (t die cls k : Nat) : (s.transfer t die cls k).refK1 = s.refK1 := rfl
@[simp] theorem State.transfer_master (s : State) (t die cls k : Nat) : (s.transfer t die cls k).master = s.master := rfl
@[simp] theorem State.transfer_out (s : State) (t die cls k : Nat) : (s.transfer t die cls k).out = s.out := rfl
@[simp] theorem State.transfer_n (s : State) (t die cls k : Nat)  : (s.transfer t die cls k).n = s.n := rfl
@[simp] theorem State.transfer_tileNumbers (s : State) (t die cls k : Nat)  : (s.transfer t die cls k).tileNumbers = s.tileNumbers := rfl
@[simp] theorem State.transfer_tile (s : State) (t die cls k : Nat) (u : Nat) : (s.transfer t die cls k).tile u = s.tile u := rfl
@[simp] theorem State.transfer_port (s : State) (t die cls k : Nat) (u : Nat) : (s.transfer t die cls k).port u = s.port u := rfl
@[simp] theorem State.transfer_ld (s : State) (t die cls k : Nat) (u v : Nat) : (s.transfer t die cls k).ld u v = s.ld u v := rfl
@[simp] theorem State.transfer_cls (s : State) (t die cls k : Nat) (u : Nat) : (s.transfer t die cls k).cls u = s.cls u := rfl
@[simp] theorem State.transfer_queue (s : State) (t die cls k : Nat) (u v : Nat) : (s.transfer t die cls k).queue u v = s.queue u v := rfl
@[simp] theorem State.transfer_cell (s : State) (t die cls k : Nat) (u v : Nat) : (s.transfer t die cls k).cell u v = s.cell u v := rfl
@[simp] theorem State.transfer_now (s : State) (t die cls k : Nat) (u : Nat) : (s.transfer t die cls k).now u = s.now u := rfl
@[simp] theorem State.transfer_counter (s : State) (t die cls k : Nat) (u : Nat) : (s.transfer t die cls k).counter u = s.counter u := rfl
@[simp] theorem State.transfer_tileActive (s : State) (t die cls k : Nat) (u : Nat) : (s.transfer t die cls k).tileActive u = s.tileActive u := rfl
@[simp] theorem State.transfer_activeTiles (s : State) (t die cls k : Nat)  : (s.transfer t die cls k).activeTiles = s.activeTiles := rfl
@[simp] theorem State.transfer_inService (s : State) (t die cls k : Nat)  : (s.transfer t die cls k).inService = s.inService := rfl
@[simp] theorem State.transfer_coreTile (s : State) (t die cls k : Nat)  : (s.transfer t die cls k).coreTile = s.coreTile := rfl
@[simp] theorem State.transfer_pkgNow (s : State) (t die cls k : Nat)  : (s.transfer t die cls k).pkgNow = s.pkgNow := rfl
@[simp] theorem State.transfer_live (s : State) (t die cls k : Nat) : (s.transfer t die cls k).cnt.live = s.cnt.live := rfl

/-! ### `count` -/

@[simp] theorem State.count_pending (s : State) (num k : Nat) : (s.count num k).pending = s.pending := by unfold State.count; split <;> rfl
@[simp] theorem State.count_part (s : State) (num k : Nat) : (s.count num k).part = s.part := by unfold State.count; split <;> rfl
@[simp] theorem State.count_dev (s : State) (num k : Nat) : (s.count num k).dev = s.dev := by unfold State.count; split <;> rfl
@[simp] theorem State.count_sup (s : State) (num k : Nat) : (s.count num k).sup = s.sup := by unfold State.count; split <;> rfl
@[simp] theorem State.count_mgmt (s : State) (num k : Nat) : (s.count num k).mgmt = s.mgmt := by unfold State.count; split <;> rfl
@[simp] theorem State.count_fw (s : State) (num k : Nat) : (s.count num k).fw = s.fw := by unfold State.count; split <;> rfl
@[simp] theorem State.count_svc (s : State) (num k : Nat) : (s.count num k).svc = s.svc := by unfold State.count; split <;> rfl
@[simp] theorem State.count_obj (s : State) (num k : Nat) : (s.count num k).obj = s.obj := by unfold State.count; split <;> rfl
@[simp] theorem State.count_recs (s : State) (num k : Nat) : (s.count num k).recs = s.recs := by unfold State.count; split <;> rfl
@[simp] theorem State.count_tiles (s : State) (num k : Nat) : (s.count num k).tiles = s.tiles := by unfold State.count; split <;> rfl
@[simp] theorem State.count_ports (s : State) (num k : Nat) : (s.count num k).ports = s.ports := by unfold State.count; split <;> rfl
@[simp] theorem State.count_lds (s : State) (num k : Nat) : (s.count num k).lds = s.lds := by unfold State.count; split <;> rfl
@[simp] theorem State.count_feed (s : State) (num k : Nat) : (s.count num k).feed = s.feed := by unfold State.count; split <;> rfl
@[simp] theorem State.count_keys (s : State) (num k : Nat) : (s.count num k).keys = s.keys := by unfold State.count; split <;> rfl
@[simp] theorem State.count_parts (s : State) (num k : Nat) : (s.count num k).parts = s.parts := by unfold State.count; split <;> rfl
@[simp] theorem State.count_queues (s : State) (num k : Nat) : (s.count num k).queues = s.queues := by unfold State.count; split <;> rfl
@[simp] theorem State.count_refK0 (s : State) (num k : Nat) : (s.count num k).refK0 = s.refK0 := by unfold State.count; split <;> rfl
@[simp] theorem State.count_refK1 (s : State) (num k : Nat) : (s.count num k).refK1 = s.refK1 := by unfold State.count; split <;> rfl
@[simp] theorem State.count_master (s : State) (num k : Nat) : (s.count num k).master = s.master := by unfold State.count; split <;> rfl
@[simp] theorem State.count_out (s : State) (num k : Nat) : (s.count num k).out = s.out := by unfold State.count; split <;> rfl
@[simp] theorem State.count_freeCtr (s : State) (num k : Nat) : (s.count num k).freeCtr = s.freeCtr := by unfold State.count; split <;> rfl
@[simp] theorem State.count_n (s : State) (num k : Nat) : (s.count num k).n = s.n := by simp [State.n]
@[simp] theorem State.count_tileNumbers (s : State) (num k : Nat) : (s.count num k).tileNumbers = s.tileNumbers := by simp [State.tileNumbers]
@[simp] theorem State.count_tile (s : State) (num k : Nat) (u : Nat) : (s.count num k).tile u = s.tile u := by simp [State.tile]
@[simp] theorem State.count_port (s : State) (num k : Nat) (u : Nat) : (s.count num k).port u = s.port u := by simp [State.port]
@[simp] theorem State.count_ld (s : State) (num k : Nat) (u v : Nat) : (s.count num k).ld u v = s.ld u v := by simp [State.ld]
@[simp] theorem State.count_cls (s : State) (num k : Nat) (u : Nat) : (s.count num k).cls u = s.cls u := by simp [State.cls]
@[simp] theorem State.count_queue (s : State) (num k : Nat) (u v : Nat) : (s.count num k).queue u v = s.queue u v := by simp [State.queue]
@[simp] theorem State.count_cell (s : State) (num k : Nat) (u v : Nat) : (s.count num k).cell u v = s.cell u v := by simp [State.cell]
@[simp] theorem State.count_now (s : State) (num k : Nat) (u : Nat) : (s.count num k).now u = s.now u := by simp [State.now]
@[simp] theorem State.count_tileActive (s : State) (num k : Nat) (u : Nat) : (s.count num k).tileActive u = s.tileActive u := by simp [State.tileActive]
@[simp] theorem State.count_activeTiles (s : State) (num k : Nat) : (s.count num k).activeTiles = s.activeTiles := by
 unfold State.activeTiles
 rw [show (s.count num k).tileActive = s.tileActive from funext fun _ => by simp]
 simp
@[simp] theorem State.count_inService (s : State) (num k : Nat) : (s.count num k).inService = s.inService := by simp [State.inService]
@[simp] theorem State.count_coreTile (s : State) (num k : Nat) : (s.count num k).coreTile = s.coreTile := by simp [State.coreTile]
@[simp] theorem State.count_pkgNow (s : State) (num k : Nat) : (s.count num k).pkgNow = s.pkgNow := by simp [State.pkgNow]

/-! ### `tcount` -/

@[simp] theorem State.tcount_pending (s : State) (t num k : Nat) : (s.tcount t num k).pending = s.pending := by simp [State.tcount]
@[simp] theorem State.tcount_part (s : State) (t num k : Nat) : (s.tcount t num k).part = s.part := by simp [State.tcount]
@[simp] theorem State.tcount_dev (s : State) (t num k : Nat) : (s.tcount t num k).dev = s.dev := by simp [State.tcount]
@[simp] theorem State.tcount_sup (s : State) (t num k : Nat) : (s.tcount t num k).sup = s.sup := by simp [State.tcount]
@[simp] theorem State.tcount_mgmt (s : State) (t num k : Nat) : (s.tcount t num k).mgmt = s.mgmt := by simp [State.tcount]
@[simp] theorem State.tcount_fw (s : State) (t num k : Nat) : (s.tcount t num k).fw = s.fw := by simp [State.tcount]
@[simp] theorem State.tcount_svc (s : State) (t num k : Nat) : (s.tcount t num k).svc = s.svc := by simp [State.tcount]
@[simp] theorem State.tcount_obj (s : State) (t num k : Nat) : (s.tcount t num k).obj = s.obj := by simp [State.tcount]
@[simp] theorem State.tcount_recs (s : State) (t num k : Nat) : (s.tcount t num k).recs = s.recs := by simp [State.tcount]
@[simp] theorem State.tcount_tiles (s : State) (t num k : Nat) : (s.tcount t num k).tiles = s.tiles := by simp [State.tcount]
@[simp] theorem State.tcount_ports (s : State) (t num k : Nat) : (s.tcount t num k).ports = s.ports := by simp [State.tcount]
@[simp] theorem State.tcount_lds (s : State) (t num k : Nat) : (s.tcount t num k).lds = s.lds := by simp [State.tcount]
@[simp] theorem State.tcount_feed (s : State) (t num k : Nat) : (s.tcount t num k).feed = s.feed := by simp [State.tcount]
@[simp] theorem State.tcount_keys (s : State) (t num k : Nat) : (s.tcount t num k).keys = s.keys := by simp [State.tcount]
@[simp] theorem State.tcount_parts (s : State) (t num k : Nat) : (s.tcount t num k).parts = s.parts := by simp [State.tcount]
@[simp] theorem State.tcount_queues (s : State) (t num k : Nat) : (s.tcount t num k).queues = s.queues := by simp [State.tcount]
@[simp] theorem State.tcount_refK0 (s : State) (t num k : Nat) : (s.tcount t num k).refK0 = s.refK0 := by simp [State.tcount]
@[simp] theorem State.tcount_refK1 (s : State) (t num k : Nat) : (s.tcount t num k).refK1 = s.refK1 := by simp [State.tcount]
@[simp] theorem State.tcount_master (s : State) (t num k : Nat) : (s.tcount t num k).master = s.master := by simp [State.tcount]
@[simp] theorem State.tcount_out (s : State) (t num k : Nat) : (s.tcount t num k).out = s.out := by simp [State.tcount]
@[simp] theorem State.tcount_freeCtr (s : State) (t num k : Nat) : (s.tcount t num k).freeCtr = s.freeCtr := by simp [State.tcount]
@[simp] theorem State.tcount_n (s : State) (t num k : Nat) : (s.tcount t num k).n = s.n := by simp [State.n]
@[simp] theorem State.tcount_tileNumbers (s : State) (t num k : Nat) : (s.tcount t num k).tileNumbers = s.tileNumbers := by simp [State.tileNumbers]
@[simp] theorem State.tcount_tile (s : State) (t num k : Nat) (u : Nat) : (s.tcount t num k).tile u = s.tile u := by simp [State.tile]
@[simp] theorem State.tcount_port (s : State) (t num k : Nat) (u : Nat) : (s.tcount t num k).port u = s.port u := by simp [State.port]
@[simp] theorem State.tcount_ld (s : State) (t num k : Nat) (u v : Nat) : (s.tcount t num k).ld u v = s.ld u v := by simp [State.ld]
@[simp] theorem State.tcount_cls (s : State) (t num k : Nat) (u : Nat) : (s.tcount t num k).cls u = s.cls u := by simp [State.cls]
@[simp] theorem State.tcount_queue (s : State) (t num k : Nat) (u v : Nat) : (s.tcount t num k).queue u v = s.queue u v := by simp [State.queue]
@[simp] theorem State.tcount_cell (s : State) (t num k : Nat) (u v : Nat) : (s.tcount t num k).cell u v = s.cell u v := by simp [State.cell]
@[simp] theorem State.tcount_now (s : State) (t num k : Nat) (u : Nat) : (s.tcount t num k).now u = s.now u := by simp [State.now]
@[simp] theorem State.tcount_tileActive (s : State) (t num k : Nat) (u : Nat) : (s.tcount t num k).tileActive u = s.tileActive u := by simp [State.tileActive]
@[simp] theorem State.tcount_activeTiles (s : State) (t num k : Nat) : (s.tcount t num k).activeTiles = s.activeTiles := by
 unfold State.activeTiles
 rw [show (s.tcount t num k).tileActive = s.tileActive from funext fun _ => by simp]
 simp
@[simp] theorem State.tcount_inService (s : State) (t num k : Nat) : (s.tcount t num k).inService = s.inService := by simp [State.inService]
@[simp] theorem State.tcount_coreTile (s : State) (t num k : Nat) : (s.tcount t num k).coreTile = s.coreTile := by simp [State.coreTile]
@[simp] theorem State.tcount_pkgNow (s : State) (t num k : Nat) : (s.tcount t num k).pkgNow = s.pkgNow := by simp [State.pkgNow]

/-! ### `stage` -/

@[simp] theorem State.stage_pending (s : State) (r : Nat) (o : Occ) : (s.stage r o).pending = s.pending := by simp [State.stage]
@[simp] theorem State.stage_part (s : State) (r : Nat) (o : Occ) : (s.stage r o).part = s.part := by simp [State.stage]
@[simp] theorem State.stage_dev (s : State) (r : Nat) (o : Occ) : (s.stage r o).dev = s.dev := by simp [State.stage]
@[simp] theorem State.stage_sup (s : State) (r : Nat) (o : Occ) : (s.stage r o).sup = s.sup := by simp [State.stage]
@[simp] theorem State.stage_mgmt (s : State) (r : Nat) (o : Occ) : (s.stage r o).mgmt = s.mgmt := by simp [State.stage]
@[simp] theorem State.stage_fw (s : State) (r : Nat) (o : Occ) : (s.stage r o).fw = s.fw := by simp [State.stage]
@[simp] theorem State.stage_svc (s : State) (r : Nat) (o : Occ) : (s.stage r o).svc = s.svc := by simp [State.stage]
@[simp] theorem State.stage_obj (s : State) (r : Nat) (o : Occ) : (s.stage r o).obj = s.obj := by simp [State.stage]
@[simp] theorem State.stage_tiles (s : State) (r : Nat) (o : Occ) : (s.stage r o).tiles = s.tiles := by simp [State.stage]
@[simp] theorem State.stage_ports (s : State) (r : Nat) (o : Occ) : (s.stage r o).ports = s.ports := by simp [State.stage]
@[simp] theorem State.stage_lds (s : State) (r : Nat) (o : Occ) : (s.stage r o).lds = s.lds := by simp [State.stage]
@[simp] theorem State.stage_feed (s : State) (r : Nat) (o : Occ) : (s.stage r o).feed = s.feed := by simp [State.stage]
@[simp] theorem State.stage_keys (s : State) (r : Nat) (o : Occ) : (s.stage r o).keys = s.keys := by simp [State.stage]
@[simp] theorem State.stage_parts (s : State) (r : Nat) (o : Occ) : (s.stage r o).parts = s.parts := by simp [State.stage]
@[simp] theorem State.stage_queues (s : State) (r : Nat) (o : Occ) : (s.stage r o).queues = s.queues := by simp [State.stage]
@[simp] theorem State.stage_refK0 (s : State) (r : Nat) (o : Occ) : (s.stage r o).refK0 = s.refK0 := by simp [State.stage]
@[simp] theorem State.stage_refK1 (s : State) (r : Nat) (o : Occ) : (s.stage r o).refK1 = s.refK1 := by simp [State.stage]
@[simp] theorem State.stage_master (s : State) (r : Nat) (o : Occ) : (s.stage r o).master = s.master := by simp [State.stage]
@[simp] theorem State.stage_out (s : State) (r : Nat) (o : Occ) : (s.stage r o).out = s.out := by simp [State.stage]
@[simp] theorem State.stage_freeCtr (s : State) (r : Nat) (o : Occ) : (s.stage r o).freeCtr = s.freeCtr := by simp [State.stage]
@[simp] theorem State.stage_n (s : State) (r : Nat) (o : Occ) : (s.stage r o).n = s.n := by simp [State.n]
@[simp] theorem State.stage_tileNumbers (s : State) (r : Nat) (o : Occ) : (s.stage r o).tileNumbers = s.tileNumbers := by simp [State.tileNumbers]
@[simp] theorem State.stage_tile (s : State) (r : Nat) (o : Occ) (u : Nat) : (s.stage r o).tile u = s.tile u := by simp [State.tile]
@[simp] theorem State.stage_port (s : State) (r : Nat) (o : Occ) (u : Nat) : (s.stage r o).port u = s.port u := by simp [State.port]
@[simp] theorem State.stage_ld (s : State) (r : Nat) (o : Occ) (u v : Nat) : (s.stage r o).ld u v = s.ld u v := by simp [State.ld]
@[simp] theorem State.stage_cls (s : State) (r : Nat) (o : Occ) (u : Nat) : (s.stage r o).cls u = s.cls u := by simp [State.cls]
@[simp] theorem State.stage_queue (s : State) (r : Nat) (o : Occ) (u v : Nat) : (s.stage r o).queue u v = s.queue u v := by simp [State.queue]
@[simp] theorem State.stage_cell (s : State) (r : Nat) (o : Occ) (u v : Nat) : (s.stage r o).cell u v = s.cell u v := by simp [State.cell]
@[simp] theorem State.stage_now (s : State) (r : Nat) (o : Occ) (u : Nat) : (s.stage r o).now u = s.now u := by simp [State.now]
@[simp] theorem State.stage_tileActive (s : State) (r : Nat) (o : Occ) (u : Nat) : (s.stage r o).tileActive u = s.tileActive u := by simp [State.tileActive]
@[simp] theorem State.stage_activeTiles (s : State) (r : Nat) (o : Occ) : (s.stage r o).activeTiles = s.activeTiles := by
 unfold State.activeTiles
 rw [show (s.stage r o).tileActive = s.tileActive from funext fun _ => by simp]
 simp
@[simp] theorem State.stage_inService (s : State) (r : Nat) (o : Occ) : (s.stage r o).inService = s.inService := by simp [State.inService]
@[simp] theorem State.stage_coreTile (s : State) (r : Nat) (o : Occ) : (s.stage r o).coreTile = s.coreTile := by simp [State.coreTile]
@[simp] theorem State.stage_pkgNow (s : State) (r : Nat) (o : Occ) : (s.stage r o).pkgNow = s.pkgNow := by simp [State.pkgNow]

/-! ### `tev` -/

@[simp] theorem State.tev_pending (s : State) (t num cls value : Nat) (qs : List (Nat × Nat)) : (s.tev t num cls value qs).pending = s.pending := by simp [State.tev]
@[simp] theorem State.tev_part (s : State) (t num cls value : Nat) (qs : List (Nat × Nat)) : (s.tev t num cls value qs).part = s.part := by simp [State.tev]
@[simp] theorem State.tev_dev (s : State) (t num cls value : Nat) (qs : List (Nat × Nat)) : (s.tev t num cls value qs).dev = s.dev := by simp [State.tev]
@[simp] theorem State.tev_sup (s : State) (t num cls value : Nat) (qs : List (Nat × Nat)) : (s.tev t num cls value qs).sup = s.sup := by simp [State.tev]
@[simp] theorem State.tev_mgmt (s : State) (t num cls value : Nat) (qs : List (Nat × Nat)) : (s.tev t num cls value qs).mgmt = s.mgmt := by simp [State.tev]
@[simp] theorem State.tev_fw (s : State) (t num cls value : Nat) (qs : List (Nat × Nat)) : (s.tev t num cls value qs).fw = s.fw := by simp [State.tev]
@[simp] theorem State.tev_svc (s : State) (t num cls value : Nat) (qs : List (Nat × Nat)) : (s.tev t num cls value qs).svc = s.svc := by simp [State.tev]
@[simp] theorem State.tev_obj (s : State) (t num cls value : Nat) (qs : List (Nat × Nat)) : (s.tev t num cls value qs).obj = s.obj := by simp [State.tev]
@[simp] theorem State.tev_tiles (s : State) (t num cls value : Nat) (qs : List (Nat × Nat)) : (s.tev t num cls value qs).tiles = s.tiles := by simp [State.tev]
@[simp] theorem State.tev_ports (s : State) (t num cls value : Nat) (qs : List (Nat × Nat)) : (s.tev t num cls value qs).ports = s.ports := by simp [State.tev]
@[simp] theorem State.tev_lds (s : State) (t num cls value : Nat) (qs : List (Nat × Nat)) : (s.tev t num cls value qs).lds = s.lds := by simp [State.tev]
@[simp] theorem State.tev_feed (s : State) (t num cls value : Nat) (qs : List (Nat × Nat)) : (s.tev t num cls value qs).feed = s.feed := by simp [State.tev]
@[simp] theorem State.tev_keys (s : State) (t num cls value : Nat) (qs : List (Nat × Nat)) : (s.tev t num cls value qs).keys = s.keys := by simp [State.tev]
@[simp] theorem State.tev_parts (s : State) (t num cls value : Nat) (qs : List (Nat × Nat)) : (s.tev t num cls value qs).parts = s.parts := by simp [State.tev]
@[simp] theorem State.tev_queues (s : State) (t num cls value : Nat) (qs : List (Nat × Nat)) : (s.tev t num cls value qs).queues = s.queues := by simp [State.tev]
@[simp] theorem State.tev_refK0 (s : State) (t num cls value : Nat) (qs : List (Nat × Nat)) : (s.tev t num cls value qs).refK0 = s.refK0 := by simp [State.tev]
@[simp] theorem State.tev_refK1 (s : State) (t num cls value : Nat) (qs : List (Nat × Nat)) : (s.tev t num cls value qs).refK1 = s.refK1 := by simp [State.tev]
@[simp] theorem State.tev_master (s : State) (t num cls value : Nat) (qs : List (Nat × Nat)) : (s.tev t num cls value qs).master = s.master := by simp [State.tev]
@[simp] theorem State.tev_out (s : State) (t num cls value : Nat) (qs : List (Nat × Nat)) : (s.tev t num cls value qs).out = s.out := by simp [State.tev]
@[simp] theorem State.tev_freeCtr (s : State) (t num cls value : Nat) (qs : List (Nat × Nat)) : (s.tev t num cls value qs).freeCtr = s.freeCtr := by simp [State.tev]
@[simp] theorem State.tev_n (s : State) (t num cls value : Nat) (qs : List (Nat × Nat)) : (s.tev t num cls value qs).n = s.n := by simp [State.n]
@[simp] theorem State.tev_tileNumbers (s : State) (t num cls value : Nat) (qs : List (Nat × Nat)) : (s.tev t num cls value qs).tileNumbers = s.tileNumbers := by simp [State.tileNumbers]
@[simp] theorem State.tev_tile (s : State) (t num cls value : Nat) (qs : List (Nat × Nat)) (u : Nat) : (s.tev t num cls value qs).tile u = s.tile u := by simp [State.tile]
@[simp] theorem State.tev_port (s : State) (t num cls value : Nat) (qs : List (Nat × Nat)) (u : Nat) : (s.tev t num cls value qs).port u = s.port u := by simp [State.port]
@[simp] theorem State.tev_ld (s : State) (t num cls value : Nat) (qs : List (Nat × Nat)) (u v : Nat) : (s.tev t num cls value qs).ld u v = s.ld u v := by simp [State.ld]
@[simp] theorem State.tev_cls (s : State) (t num cls value : Nat) (qs : List (Nat × Nat)) (u : Nat) : (s.tev t num cls value qs).cls u = s.cls u := by simp [State.cls]
@[simp] theorem State.tev_queue (s : State) (t num cls value : Nat) (qs : List (Nat × Nat)) (u v : Nat) : (s.tev t num cls value qs).queue u v = s.queue u v := by simp [State.queue]
@[simp] theorem State.tev_cell (s : State) (t num cls value : Nat) (qs : List (Nat × Nat)) (u v : Nat) : (s.tev t num cls value qs).cell u v = s.cell u v := by simp [State.cell]
@[simp] theorem State.tev_now (s : State) (t num cls value : Nat) (qs : List (Nat × Nat)) (u : Nat) : (s.tev t num cls value qs).now u = s.now u := by simp [State.now]
@[simp] theorem State.tev_tileActive (s : State) (t num cls value : Nat) (qs : List (Nat × Nat)) (u : Nat) : (s.tev t num cls value qs).tileActive u = s.tileActive u := by simp [State.tileActive]
@[simp] theorem State.tev_activeTiles (s : State) (t num cls value : Nat) (qs : List (Nat × Nat)) : (s.tev t num cls value qs).activeTiles = s.activeTiles := by
 unfold State.activeTiles
 rw [show (s.tev t num cls value qs).tileActive = s.tileActive from funext fun _ => by simp]
 simp
@[simp] theorem State.tev_inService (s : State) (t num cls value : Nat) (qs : List (Nat × Nat)) : (s.tev t num cls value qs).inService = s.inService := by simp [State.inService]
@[simp] theorem State.tev_coreTile (s : State) (t num cls value : Nat) (qs : List (Nat × Nat)) : (s.tev t num cls value qs).coreTile = s.coreTile := by simp [State.coreTile]
@[simp] theorem State.tev_pkgNow (s : State) (t num cls value : Nat) (qs : List (Nat × Nat)) : (s.tev t num cls value qs).pkgNow = s.pkgNow := by simp [State.pkgNow]

/-! ### `pevAt` -/

@[simp] theorem State.pevAt_pending (s : State) (t code cls value : Nat) (qs : List (Nat × Nat)) : (s.pevAt t code cls value qs).pending = s.pending := by simp [State.pevAt]
@[simp] theorem State.pevAt_part (s : State) (t code cls value : Nat) (qs : List (Nat × Nat)) : (s.pevAt t code cls value qs).part = s.part := by simp [State.pevAt]
@[simp] theorem State.pevAt_dev (s : State) (t code cls value : Nat) (qs : List (Nat × Nat)) : (s.pevAt t code cls value qs).dev = s.dev := by simp [State.pevAt]
@[simp] theorem State.pevAt_sup (s : State) (t code cls value : Nat) (qs : List (Nat × Nat)) : (s.pevAt t code cls value qs).sup = s.sup := by simp [State.pevAt]
@[simp] theorem State.pevAt_mgmt (s : State) (t code cls value : Nat) (qs : List (Nat × Nat)) : (s.pevAt t code cls value qs).mgmt = s.mgmt := by simp [State.pevAt]
@[simp] theorem State.pevAt_fw (s : State) (t code cls value : Nat) (qs : List (Nat × Nat)) : (s.pevAt t code cls value qs).fw = s.fw := by simp [State.pevAt]
@[simp] theorem State.pevAt_svc (s : State) (t code cls value : Nat) (qs : List (Nat × Nat)) : (s.pevAt t code cls value qs).svc = s.svc := by simp [State.pevAt]
@[simp] theorem State.pevAt_obj (s : State) (t code cls value : Nat) (qs : List (Nat × Nat)) : (s.pevAt t code cls value qs).obj = s.obj := by simp [State.pevAt]
@[simp] theorem State.pevAt_tiles (s : State) (t code cls value : Nat) (qs : List (Nat × Nat)) : (s.pevAt t code cls value qs).tiles = s.tiles := by simp [State.pevAt]
@[simp] theorem State.pevAt_ports (s : State) (t code cls value : Nat) (qs : List (Nat × Nat)) : (s.pevAt t code cls value qs).ports = s.ports := by simp [State.pevAt]
@[simp] theorem State.pevAt_lds (s : State) (t code cls value : Nat) (qs : List (Nat × Nat)) : (s.pevAt t code cls value qs).lds = s.lds := by simp [State.pevAt]
@[simp] theorem State.pevAt_feed (s : State) (t code cls value : Nat) (qs : List (Nat × Nat)) : (s.pevAt t code cls value qs).feed = s.feed := by simp [State.pevAt]
@[simp] theorem State.pevAt_keys (s : State) (t code cls value : Nat) (qs : List (Nat × Nat)) : (s.pevAt t code cls value qs).keys = s.keys := by simp [State.pevAt]
@[simp] theorem State.pevAt_parts (s : State) (t code cls value : Nat) (qs : List (Nat × Nat)) : (s.pevAt t code cls value qs).parts = s.parts := by simp [State.pevAt]
@[simp] theorem State.pevAt_queues (s : State) (t code cls value : Nat) (qs : List (Nat × Nat)) : (s.pevAt t code cls value qs).queues = s.queues := by simp [State.pevAt]
@[simp] theorem State.pevAt_refK0 (s : State) (t code cls value : Nat) (qs : List (Nat × Nat)) : (s.pevAt t code cls value qs).refK0 = s.refK0 := by simp [State.pevAt]
@[simp] theorem State.pevAt_refK1 (s : State) (t code cls value : Nat) (qs : List (Nat × Nat)) : (s.pevAt t code cls value qs).refK1 = s.refK1 := by simp [State.pevAt]
@[simp] theorem State.pevAt_master (s : State) (t code cls value : Nat) (qs : List (Nat × Nat)) : (s.pevAt t code cls value qs).master = s.master := by simp [State.pevAt]
@[simp] theorem State.pevAt_out (s : State) (t code cls value : Nat) (qs : List (Nat × Nat)) : (s.pevAt t code cls value qs).out = s.out := by simp [State.pevAt]
@[simp] theorem State.pevAt_freeCtr (s : State) (t code cls value : Nat) (qs : List (Nat × Nat)) : (s.pevAt t code cls value qs).freeCtr = s.freeCtr := by simp [State.pevAt]
@[simp] theorem State.pevAt_n (s : State) (t code cls value : Nat) (qs : List (Nat × Nat)) : (s.pevAt t code cls value qs).n = s.n := by simp [State.n]
@[simp] theorem State.pevAt_tileNumbers (s : State) (t code cls value : Nat) (qs : List (Nat × Nat)) : (s.pevAt t code cls value qs).tileNumbers = s.tileNumbers := by simp [State.tileNumbers]
@[simp] theorem State.pevAt_tile (s : State) (t code cls value : Nat) (qs : List (Nat × Nat)) (u : Nat) : (s.pevAt t code cls value qs).tile u = s.tile u := by simp [State.tile]
@[simp] theorem State.pevAt_port (s : State) (t code cls value : Nat) (qs : List (Nat × Nat)) (u : Nat) : (s.pevAt t code cls value qs).port u = s.port u := by simp [State.port]
@[simp] theorem State.pevAt_ld (s : State) (t code cls value : Nat) (qs : List (Nat × Nat)) (u v : Nat) : (s.pevAt t code cls value qs).ld u v = s.ld u v := by simp [State.ld]
@[simp] theorem State.pevAt_cls (s : State) (t code cls value : Nat) (qs : List (Nat × Nat)) (u : Nat) : (s.pevAt t code cls value qs).cls u = s.cls u := by simp [State.cls]
@[simp] theorem State.pevAt_queue (s : State) (t code cls value : Nat) (qs : List (Nat × Nat)) (u v : Nat) : (s.pevAt t code cls value qs).queue u v = s.queue u v := by simp [State.queue]
@[simp] theorem State.pevAt_cell (s : State) (t code cls value : Nat) (qs : List (Nat × Nat)) (u v : Nat) : (s.pevAt t code cls value qs).cell u v = s.cell u v := by simp [State.cell]
@[simp] theorem State.pevAt_now (s : State) (t code cls value : Nat) (qs : List (Nat × Nat)) (u : Nat) : (s.pevAt t code cls value qs).now u = s.now u := by simp [State.now]
@[simp] theorem State.pevAt_tileActive (s : State) (t code cls value : Nat) (qs : List (Nat × Nat)) (u : Nat) : (s.pevAt t code cls value qs).tileActive u = s.tileActive u := by simp [State.tileActive]
@[simp] theorem State.pevAt_activeTiles (s : State) (t code cls value : Nat) (qs : List (Nat × Nat)) : (s.pevAt t code cls value qs).activeTiles = s.activeTiles := by
 unfold State.activeTiles
 rw [show (s.pevAt t code cls value qs).tileActive = s.tileActive from funext fun _ => by simp]
 simp
@[simp] theorem State.pevAt_inService (s : State) (t code cls value : Nat) (qs : List (Nat × Nat)) : (s.pevAt t code cls value qs).inService = s.inService := by simp [State.inService]
@[simp] theorem State.pevAt_coreTile (s : State) (t code cls value : Nat) (qs : List (Nat × Nat)) : (s.pevAt t code cls value qs).coreTile = s.coreTile := by simp [State.coreTile]
@[simp] theorem State.pevAt_pkgNow (s : State) (t code cls value : Nat) (qs : List (Nat × Nat)) : (s.pevAt t code cls value qs).pkgNow = s.pkgNow := by simp [State.pkgNow]

/-! ### `pev` -/

@[simp] theorem State.pev_pending (s : State) (code value : Nat) (qs : List (Nat × Nat)) : (s.pev code value qs).pending = s.pending := by simp [State.pev]
@[simp] theorem State.pev_part (s : State) (code value : Nat) (qs : List (Nat × Nat)) : (s.pev code value qs).part = s.part := by simp [State.pev]
@[simp] theorem State.pev_dev (s : State) (code value : Nat) (qs : List (Nat × Nat)) : (s.pev code value qs).dev = s.dev := by simp [State.pev]
@[simp] theorem State.pev_sup (s : State) (code value : Nat) (qs : List (Nat × Nat)) : (s.pev code value qs).sup = s.sup := by simp [State.pev]
@[simp] theorem State.pev_mgmt (s : State) (code value : Nat) (qs : List (Nat × Nat)) : (s.pev code value qs).mgmt = s.mgmt := by simp [State.pev]
@[simp] theorem State.pev_fw (s : State) (code value : Nat) (qs : List (Nat × Nat)) : (s.pev code value qs).fw = s.fw := by simp [State.pev]
@[simp] theorem State.pev_svc (s : State) (code value : Nat) (qs : List (Nat × Nat)) : (s.pev code value qs).svc = s.svc := by simp [State.pev]
@[simp] theorem State.pev_obj (s : State) (code value : Nat) (qs : List (Nat × Nat)) : (s.pev code value qs).obj = s.obj := by simp [State.pev]
@[simp] theorem State.pev_tiles (s : State) (code value : Nat) (qs : List (Nat × Nat)) : (s.pev code value qs).tiles = s.tiles := by simp [State.pev]
@[simp] theorem State.pev_ports (s : State) (code value : Nat) (qs : List (Nat × Nat)) : (s.pev code value qs).ports = s.ports := by simp [State.pev]
@[simp] theorem State.pev_lds (s : State) (code value : Nat) (qs : List (Nat × Nat)) : (s.pev code value qs).lds = s.lds := by simp [State.pev]
@[simp] theorem State.pev_feed (s : State) (code value : Nat) (qs : List (Nat × Nat)) : (s.pev code value qs).feed = s.feed := by simp [State.pev]
@[simp] theorem State.pev_keys (s : State) (code value : Nat) (qs : List (Nat × Nat)) : (s.pev code value qs).keys = s.keys := by simp [State.pev]
@[simp] theorem State.pev_parts (s : State) (code value : Nat) (qs : List (Nat × Nat)) : (s.pev code value qs).parts = s.parts := by simp [State.pev]
@[simp] theorem State.pev_queues (s : State) (code value : Nat) (qs : List (Nat × Nat)) : (s.pev code value qs).queues = s.queues := by simp [State.pev]
@[simp] theorem State.pev_refK0 (s : State) (code value : Nat) (qs : List (Nat × Nat)) : (s.pev code value qs).refK0 = s.refK0 := by simp [State.pev]
@[simp] theorem State.pev_refK1 (s : State) (code value : Nat) (qs : List (Nat × Nat)) : (s.pev code value qs).refK1 = s.refK1 := by simp [State.pev]
@[simp] theorem State.pev_master (s : State) (code value : Nat) (qs : List (Nat × Nat)) : (s.pev code value qs).master = s.master := by simp [State.pev]
@[simp] theorem State.pev_out (s : State) (code value : Nat) (qs : List (Nat × Nat)) : (s.pev code value qs).out = s.out := by simp [State.pev]
@[simp] theorem State.pev_freeCtr (s : State) (code value : Nat) (qs : List (Nat × Nat)) : (s.pev code value qs).freeCtr = s.freeCtr := by simp [State.pev]
@[simp] theorem State.pev_n (s : State) (code value : Nat) (qs : List (Nat × Nat)) : (s.pev code value qs).n = s.n := by simp [State.n]
@[simp] theorem State.pev_tileNumbers (s : State) (code value : Nat) (qs : List (Nat × Nat)) : (s.pev code value qs).tileNumbers = s.tileNumbers := by simp [State.tileNumbers]
@[simp] theorem State.pev_tile (s : State) (code value : Nat) (qs : List (Nat × Nat)) (u : Nat) : (s.pev code value qs).tile u = s.tile u := by simp [State.tile]
@[simp] theorem State.pev_port (s : State) (code value : Nat) (qs : List (Nat × Nat)) (u : Nat) : (s.pev code value qs).port u = s.port u := by simp [State.port]
@[simp] theorem State.pev_ld (s : State) (code value : Nat) (qs : List (Nat × Nat)) (u v : Nat) : (s.pev code value qs).ld u v = s.ld u v := by simp [State.ld]
@[simp] theorem State.pev_cls (s : State) (code value : Nat) (qs : List (Nat × Nat)) (u : Nat) : (s.pev code value qs).cls u = s.cls u := by simp [State.cls]
@[simp] theorem State.pev_queue (s : State) (code value : Nat) (qs : List (Nat × Nat)) (u v : Nat) : (s.pev code value qs).queue u v = s.queue u v := by simp [State.queue]
@[simp] theorem State.pev_cell (s : State) (code value : Nat) (qs : List (Nat × Nat)) (u v : Nat) : (s.pev code value qs).cell u v = s.cell u v := by simp [State.cell]
@[simp] theorem State.pev_now (s : State) (code value : Nat) (qs : List (Nat × Nat)) (u : Nat) : (s.pev code value qs).now u = s.now u := by simp [State.now]
@[simp] theorem State.pev_tileActive (s : State) (code value : Nat) (qs : List (Nat × Nat)) (u : Nat) : (s.pev code value qs).tileActive u = s.tileActive u := by simp [State.tileActive]
@[simp] theorem State.pev_activeTiles (s : State) (code value : Nat) (qs : List (Nat × Nat)) : (s.pev code value qs).activeTiles = s.activeTiles := by
 unfold State.activeTiles
 rw [show (s.pev code value qs).tileActive = s.tileActive from funext fun _ => by simp]
 simp
@[simp] theorem State.pev_inService (s : State) (code value : Nat) (qs : List (Nat × Nat)) : (s.pev code value qs).inService = s.inService := by simp [State.inService]
@[simp] theorem State.pev_coreTile (s : State) (code value : Nat) (qs : List (Nat × Nat)) : (s.pev code value qs).coreTile = s.coreTile := by simp [State.coreTile]
@[simp] theorem State.pev_pkgNow (s : State) (code value : Nat) (qs : List (Nat × Nat)) : (s.pev code value qs).pkgNow = s.pkgNow := by simp [State.pkgNow]

/-! ### `raise` -/

@[simp] theorem State.raise_pending (s : State) (a b c : Nat) : (s.raise a b c).pending = s.pending := by simp [State.raise]
@[simp] theorem State.raise_part (s : State) (a b c : Nat) : (s.raise a b c).part = s.part := by simp [State.raise]
@[simp] theorem State.raise_dev (s : State) (a b c : Nat) : (s.raise a b c).dev = s.dev := by simp [State.raise]
@[simp] theorem State.raise_sup (s : State) (a b c : Nat) : (s.raise a b c).sup = s.sup := by simp [State.raise]
@[simp] theorem State.raise_mgmt (s : State) (a b c : Nat) : (s.raise a b c).mgmt = s.mgmt := by simp [State.raise]
@[simp] theorem State.raise_fw (s : State) (a b c : Nat) : (s.raise a b c).fw = s.fw := by simp [State.raise]
@[simp] theorem State.raise_svc (s : State) (a b c : Nat) : (s.raise a b c).svc = s.svc := by simp [State.raise]
@[simp] theorem State.raise_cnt (s : State) (a b c : Nat) : (s.raise a b c).cnt = s.cnt := by simp [State.raise]
@[simp] theorem State.raise_recs (s : State) (a b c : Nat) : (s.raise a b c).recs = s.recs := by simp [State.raise]
@[simp] theorem State.raise_tiles (s : State) (a b c : Nat) : (s.raise a b c).tiles = s.tiles := by simp [State.raise]
@[simp] theorem State.raise_ports (s : State) (a b c : Nat) : (s.raise a b c).ports = s.ports := by simp [State.raise]
@[simp] theorem State.raise_lds (s : State) (a b c : Nat) : (s.raise a b c).lds = s.lds := by simp [State.raise]
@[simp] theorem State.raise_feed (s : State) (a b c : Nat) : (s.raise a b c).feed = s.feed := by simp [State.raise]
@[simp] theorem State.raise_keys (s : State) (a b c : Nat) : (s.raise a b c).keys = s.keys := by simp [State.raise]
@[simp] theorem State.raise_parts (s : State) (a b c : Nat) : (s.raise a b c).parts = s.parts := by simp [State.raise]
@[simp] theorem State.raise_queues (s : State) (a b c : Nat) : (s.raise a b c).queues = s.queues := by simp [State.raise]
@[simp] theorem State.raise_refK0 (s : State) (a b c : Nat) : (s.raise a b c).refK0 = s.refK0 := by simp [State.raise]
@[simp] theorem State.raise_refK1 (s : State) (a b c : Nat) : (s.raise a b c).refK1 = s.refK1 := by simp [State.raise]
@[simp] theorem State.raise_master (s : State) (a b c : Nat) : (s.raise a b c).master = s.master := by simp [State.raise]
@[simp] theorem State.raise_out (s : State) (a b c : Nat) : (s.raise a b c).out = s.out := by simp [State.raise]
@[simp] theorem State.raise_freeCtr (s : State) (a b c : Nat) : (s.raise a b c).freeCtr = s.freeCtr := by simp [State.raise]
@[simp] theorem State.raise_n (s : State) (a b c : Nat) : (s.raise a b c).n = s.n := by simp [State.n]
@[simp] theorem State.raise_tileNumbers (s : State) (a b c : Nat) : (s.raise a b c).tileNumbers = s.tileNumbers := by simp [State.tileNumbers]
@[simp] theorem State.raise_tile (s : State) (a b c : Nat) (u : Nat) : (s.raise a b c).tile u = s.tile u := by simp [State.tile]
@[simp] theorem State.raise_port (s : State) (a b c : Nat) (u : Nat) : (s.raise a b c).port u = s.port u := by simp [State.port]
@[simp] theorem State.raise_ld (s : State) (a b c : Nat) (u v : Nat) : (s.raise a b c).ld u v = s.ld u v := by simp [State.ld]
@[simp] theorem State.raise_cls (s : State) (a b c : Nat) (u : Nat) : (s.raise a b c).cls u = s.cls u := by simp [State.cls]
@[simp] theorem State.raise_queue (s : State) (a b c : Nat) (u v : Nat) : (s.raise a b c).queue u v = s.queue u v := by simp [State.queue]
@[simp] theorem State.raise_now (s : State) (a b c : Nat) (u : Nat) : (s.raise a b c).now u = s.now u := by simp [State.now]
@[simp] theorem State.raise_counter (s : State) (a b c : Nat) (u : Nat) : (s.raise a b c).counter u = s.counter u := by simp [State.counter]
@[simp] theorem State.raise_tileActive (s : State) (a b c : Nat) (u : Nat) : (s.raise a b c).tileActive u = s.tileActive u := by simp [State.tileActive]
@[simp] theorem State.raise_activeTiles (s : State) (a b c : Nat) : (s.raise a b c).activeTiles = s.activeTiles := by
 unfold State.activeTiles
 rw [show (s.raise a b c).tileActive = s.tileActive from funext fun _ => by simp]
 simp
@[simp] theorem State.raise_inService (s : State) (a b c : Nat) : (s.raise a b c).inService = s.inService := by simp [State.inService]

/-! ### `supplyBit` -/

@[simp] theorem State.supplyBit_pending (s : State) (b : Nat) : (s.supplyBit b).pending = s.pending := by simp [State.supplyBit]
@[simp] theorem State.supplyBit_part (s : State) (b : Nat) : (s.supplyBit b).part = s.part := by simp [State.supplyBit]
@[simp] theorem State.supplyBit_dev (s : State) (b : Nat) : (s.supplyBit b).dev = s.dev := by simp [State.supplyBit]
@[simp] theorem State.supplyBit_sup (s : State) (b : Nat) : (s.supplyBit b).sup = s.sup := by simp [State.supplyBit]
@[simp] theorem State.supplyBit_mgmt (s : State) (b : Nat) : (s.supplyBit b).mgmt = s.mgmt := by simp [State.supplyBit]
@[simp] theorem State.supplyBit_fw (s : State) (b : Nat) : (s.supplyBit b).fw = s.fw := by simp [State.supplyBit]
@[simp] theorem State.supplyBit_svc (s : State) (b : Nat) : (s.supplyBit b).svc = s.svc := by simp [State.supplyBit]
@[simp] theorem State.supplyBit_cnt (s : State) (b : Nat) : (s.supplyBit b).cnt = s.cnt := by simp [State.supplyBit]
@[simp] theorem State.supplyBit_recs (s : State) (b : Nat) : (s.supplyBit b).recs = s.recs := by simp [State.supplyBit]
@[simp] theorem State.supplyBit_tiles (s : State) (b : Nat) : (s.supplyBit b).tiles = s.tiles := by simp [State.supplyBit]
@[simp] theorem State.supplyBit_ports (s : State) (b : Nat) : (s.supplyBit b).ports = s.ports := by simp [State.supplyBit]
@[simp] theorem State.supplyBit_lds (s : State) (b : Nat) : (s.supplyBit b).lds = s.lds := by simp [State.supplyBit]
@[simp] theorem State.supplyBit_feed (s : State) (b : Nat) : (s.supplyBit b).feed = s.feed := by simp [State.supplyBit]
@[simp] theorem State.supplyBit_keys (s : State) (b : Nat) : (s.supplyBit b).keys = s.keys := by simp [State.supplyBit]
@[simp] theorem State.supplyBit_parts (s : State) (b : Nat) : (s.supplyBit b).parts = s.parts := by simp [State.supplyBit]
@[simp] theorem State.supplyBit_queues (s : State) (b : Nat) : (s.supplyBit b).queues = s.queues := by simp [State.supplyBit]
@[simp] theorem State.supplyBit_refK0 (s : State) (b : Nat) : (s.supplyBit b).refK0 = s.refK0 := by simp [State.supplyBit]
@[simp] theorem State.supplyBit_refK1 (s : State) (b : Nat) : (s.supplyBit b).refK1 = s.refK1 := by simp [State.supplyBit]
@[simp] theorem State.supplyBit_master (s : State) (b : Nat) : (s.supplyBit b).master = s.master := by simp [State.supplyBit]
@[simp] theorem State.supplyBit_out (s : State) (b : Nat) : (s.supplyBit b).out = s.out := by simp [State.supplyBit]
@[simp] theorem State.supplyBit_freeCtr (s : State) (b : Nat) : (s.supplyBit b).freeCtr = s.freeCtr := by simp [State.supplyBit]
@[simp] theorem State.supplyBit_n (s : State) (b : Nat) : (s.supplyBit b).n = s.n := by simp [State.n]
@[simp] theorem State.supplyBit_tileNumbers (s : State) (b : Nat) : (s.supplyBit b).tileNumbers = s.tileNumbers := by simp [State.tileNumbers]
@[simp] theorem State.supplyBit_tile (s : State) (b : Nat) (u : Nat) : (s.supplyBit b).tile u = s.tile u := by simp [State.tile]
@[simp] theorem State.supplyBit_port (s : State) (b : Nat) (u : Nat) : (s.supplyBit b).port u = s.port u := by simp [State.port]
@[simp] theorem State.supplyBit_ld (s : State) (b : Nat) (u v : Nat) : (s.supplyBit b).ld u v = s.ld u v := by simp [State.ld]
@[simp] theorem State.supplyBit_cls (s : State) (b : Nat) (u : Nat) : (s.supplyBit b).cls u = s.cls u := by simp [State.cls]
@[simp] theorem State.supplyBit_queue (s : State) (b : Nat) (u v : Nat) : (s.supplyBit b).queue u v = s.queue u v := by simp [State.queue]
@[simp] theorem State.supplyBit_now (s : State) (b : Nat) (u : Nat) : (s.supplyBit b).now u = s.now u := by simp [State.now]
@[simp] theorem State.supplyBit_counter (s : State) (b : Nat) (u : Nat) : (s.supplyBit b).counter u = s.counter u := by simp [State.counter]
@[simp] theorem State.supplyBit_tileActive (s : State) (b : Nat) (u : Nat) : (s.supplyBit b).tileActive u = s.tileActive u := by simp [State.tileActive]
@[simp] theorem State.supplyBit_activeTiles (s : State) (b : Nat) : (s.supplyBit b).activeTiles = s.activeTiles := by
 unfold State.activeTiles
 rw [show (s.supplyBit b).tileActive = s.tileActive from funext fun _ => by simp]
 simp
@[simp] theorem State.supplyBit_inService (s : State) (b : Nat) : (s.supplyBit b).inService = s.inService := by simp [State.inService]

/-! ### `alert` -/

@[simp] theorem State.alert_pending (s : State) (b : Nat) : (s.alert b).pending = s.pending := by unfold State.alert; simp only []; split <;> simp
@[simp] theorem State.alert_part (s : State) (b : Nat) : (s.alert b).part = s.part := by unfold State.alert; simp only []; split <;> simp
@[simp] theorem State.alert_dev (s : State) (b : Nat) : (s.alert b).dev = s.dev := by unfold State.alert; simp only []; split <;> simp
@[simp] theorem State.alert_sup (s : State) (b : Nat) : (s.alert b).sup = s.sup := by unfold State.alert; simp only []; split <;> simp
@[simp] theorem State.alert_mgmt (s : State) (b : Nat) : (s.alert b).mgmt = s.mgmt := by unfold State.alert; simp only []; split <;> simp
@[simp] theorem State.alert_fw (s : State) (b : Nat) : (s.alert b).fw = s.fw := by unfold State.alert; simp only []; split <;> simp
@[simp] theorem State.alert_svc (s : State) (b : Nat) : (s.alert b).svc = s.svc := by unfold State.alert; simp only []; split <;> simp
@[simp] theorem State.alert_tiles (s : State) (b : Nat) : (s.alert b).tiles = s.tiles := by unfold State.alert; simp only []; split <;> simp
@[simp] theorem State.alert_ports (s : State) (b : Nat) : (s.alert b).ports = s.ports := by unfold State.alert; simp only []; split <;> simp
@[simp] theorem State.alert_lds (s : State) (b : Nat) : (s.alert b).lds = s.lds := by unfold State.alert; simp only []; split <;> simp
@[simp] theorem State.alert_feed (s : State) (b : Nat) : (s.alert b).feed = s.feed := by unfold State.alert; simp only []; split <;> simp
@[simp] theorem State.alert_keys (s : State) (b : Nat) : (s.alert b).keys = s.keys := by unfold State.alert; simp only []; split <;> simp
@[simp] theorem State.alert_parts (s : State) (b : Nat) : (s.alert b).parts = s.parts := by unfold State.alert; simp only []; split <;> simp
@[simp] theorem State.alert_queues (s : State) (b : Nat) : (s.alert b).queues = s.queues := by unfold State.alert; simp only []; split <;> simp
@[simp] theorem State.alert_refK0 (s : State) (b : Nat) : (s.alert b).refK0 = s.refK0 := by unfold State.alert; simp only []; split <;> simp
@[simp] theorem State.alert_refK1 (s : State) (b : Nat) : (s.alert b).refK1 = s.refK1 := by unfold State.alert; simp only []; split <;> simp
@[simp] theorem State.alert_master (s : State) (b : Nat) : (s.alert b).master = s.master := by unfold State.alert; simp only []; split <;> simp
@[simp] theorem State.alert_out (s : State) (b : Nat) : (s.alert b).out = s.out := by unfold State.alert; simp only []; split <;> simp
@[simp] theorem State.alert_freeCtr (s : State) (b : Nat) : (s.alert b).freeCtr = s.freeCtr := by unfold State.alert; simp only []; split <;> simp
@[simp] theorem State.alert_n (s : State) (b : Nat) : (s.alert b).n = s.n := by simp [State.n]
@[simp] theorem State.alert_tileNumbers (s : State) (b : Nat) : (s.alert b).tileNumbers = s.tileNumbers := by simp [State.tileNumbers]
@[simp] theorem State.alert_tile (s : State) (b : Nat) (u : Nat) : (s.alert b).tile u = s.tile u := by simp [State.tile]
@[simp] theorem State.alert_port (s : State) (b : Nat) (u : Nat) : (s.alert b).port u = s.port u := by simp [State.port]
@[simp] theorem State.alert_ld (s : State) (b : Nat) (u v : Nat) : (s.alert b).ld u v = s.ld u v := by simp [State.ld]
@[simp] theorem State.alert_cls (s : State) (b : Nat) (u : Nat) : (s.alert b).cls u = s.cls u := by simp [State.cls]
@[simp] theorem State.alert_queue (s : State) (b : Nat) (u v : Nat) : (s.alert b).queue u v = s.queue u v := by simp [State.queue]
@[simp] theorem State.alert_now (s : State) (b : Nat) (u : Nat) : (s.alert b).now u = s.now u := by simp [State.now]
@[simp] theorem State.alert_tileActive (s : State) (b : Nat) (u : Nat) : (s.alert b).tileActive u = s.tileActive u := by simp [State.tileActive]
@[simp] theorem State.alert_activeTiles (s : State) (b : Nat) : (s.alert b).activeTiles = s.activeTiles := by
 unfold State.activeTiles
 rw [show (s.alert b).tileActive = s.tileActive from funext fun _ => by simp]
 simp
@[simp] theorem State.alert_inService (s : State) (b : Nat) : (s.alert b).inService = s.inService := by simp [State.inService]

/-! ### `pageCommit` -/

@[simp] theorem State.pageCommit_pending (s : State) (t page : Nat) : (s.pageCommit t page).pending = s.pending := by simp [State.pageCommit]
@[simp] theorem State.pageCommit_part (s : State) (t page : Nat) : (s.pageCommit t page).part = s.part := by simp [State.pageCommit]
@[simp] theorem State.pageCommit_dev (s : State) (t page : Nat) : (s.pageCommit t page).dev = s.dev := by simp [State.pageCommit]
@[simp] theorem State.pageCommit_sup (s : State) (t page : Nat) : (s.pageCommit t page).sup = s.sup := by simp [State.pageCommit]
@[simp] theorem State.pageCommit_mgmt (s : State) (t page : Nat) : (s.pageCommit t page).mgmt = s.mgmt := by simp [State.pageCommit]
@[simp] theorem State.pageCommit_fw (s : State) (t page : Nat) : (s.pageCommit t page).fw = s.fw := by simp [State.pageCommit]
@[simp] theorem State.pageCommit_svc (s : State) (t page : Nat) : (s.pageCommit t page).svc = s.svc := by simp [State.pageCommit]
@[simp] theorem State.pageCommit_obj (s : State) (t page : Nat) : (s.pageCommit t page).obj = s.obj := by simp [State.pageCommit]
@[simp] theorem State.pageCommit_recs (s : State) (t page : Nat) : (s.pageCommit t page).recs = s.recs := by simp [State.pageCommit]
@[simp] theorem State.pageCommit_ports (s : State) (t page : Nat) : (s.pageCommit t page).ports = s.ports := by simp [State.pageCommit]
@[simp] theorem State.pageCommit_lds (s : State) (t page : Nat) : (s.pageCommit t page).lds = s.lds := by simp [State.pageCommit]
@[simp] theorem State.pageCommit_feed (s : State) (t page : Nat) : (s.pageCommit t page).feed = s.feed := by simp [State.pageCommit]
@[simp] theorem State.pageCommit_keys (s : State) (t page : Nat) : (s.pageCommit t page).keys = s.keys := by simp [State.pageCommit]
@[simp] theorem State.pageCommit_parts (s : State) (t page : Nat) : (s.pageCommit t page).parts = s.parts := by simp [State.pageCommit]
@[simp] theorem State.pageCommit_queues (s : State) (t page : Nat) : (s.pageCommit t page).queues = s.queues := by simp [State.pageCommit]
@[simp] theorem State.pageCommit_refK0 (s : State) (t page : Nat) : (s.pageCommit t page).refK0 = s.refK0 := by simp [State.pageCommit]
@[simp] theorem State.pageCommit_refK1 (s : State) (t page : Nat) : (s.pageCommit t page).refK1 = s.refK1 := by simp [State.pageCommit]
@[simp] theorem State.pageCommit_master (s : State) (t page : Nat) : (s.pageCommit t page).master = s.master := by simp [State.pageCommit]
@[simp] theorem State.pageCommit_out (s : State) (t page : Nat) : (s.pageCommit t page).out = s.out := by simp [State.pageCommit]
@[simp] theorem State.pageCommit_freeCtr (s : State) (t page : Nat) : (s.pageCommit t page).freeCtr = s.freeCtr := by simp [State.pageCommit]
@[simp] theorem State.pageCommit_n (s : State) (t page : Nat) : (s.pageCommit t page).n = s.n := by simp [State.n]
@[simp] theorem State.pageCommit_tileNumbers (s : State) (t page : Nat) : (s.pageCommit t page).tileNumbers = s.tileNumbers := by simp [State.tileNumbers]
@[simp] theorem State.pageCommit_port (s : State) (t page : Nat) (u : Nat) : (s.pageCommit t page).port u = s.port u := by simp [State.port]
@[simp] theorem State.pageCommit_ld (s : State) (t page : Nat) (u v : Nat) : (s.pageCommit t page).ld u v = s.ld u v := by simp [State.ld]
@[simp] theorem State.pageCommit_cls (s : State) (t page : Nat) (u : Nat) : (s.pageCommit t page).cls u = s.cls u := by simp [State.cls]
@[simp] theorem State.pageCommit_queue (s : State) (t page : Nat) (u v : Nat) : (s.pageCommit t page).queue u v = s.queue u v := by simp [State.queue]
@[simp] theorem State.pageCommit_cell (s : State) (t page : Nat) (u v : Nat) : (s.pageCommit t page).cell u v = s.cell u v := by simp [State.cell]
@[simp] theorem State.pageCommit_inService (s : State) (t page : Nat) : (s.pageCommit t page).inService = s.inService := by simp [State.inService]
@[simp] theorem State.pageCommit_coreTile (s : State) (t page : Nat) : (s.pageCommit t page).coreTile = s.coreTile := by simp [State.coreTile]

/-! ### `goto` -/

@[simp] theorem State.goto_pending (s : State) (new : DevState) (row : Nat) : (s.goto new row).pending = s.pending := by unfold State.goto; cases new <;> simp
@[simp] theorem State.goto_part (s : State) (new : DevState) (row : Nat) : (s.goto new row).part = s.part := by unfold State.goto; cases new <;> simp
@[simp] theorem State.goto_sup (s : State) (new : DevState) (row : Nat) : (s.goto new row).sup = s.sup := by unfold State.goto; cases new <;> simp
@[simp] theorem State.goto_mgmt (s : State) (new : DevState) (row : Nat) : (s.goto new row).mgmt = s.mgmt := by unfold State.goto; cases new <;> simp
@[simp] theorem State.goto_fw (s : State) (new : DevState) (row : Nat) : (s.goto new row).fw = s.fw := by unfold State.goto; cases new <;> simp
@[simp] theorem State.goto_svc (s : State) (new : DevState) (row : Nat) : (s.goto new row).svc = s.svc := by unfold State.goto; cases new <;> simp
@[simp] theorem State.goto_tiles (s : State) (new : DevState) (row : Nat) : (s.goto new row).tiles = s.tiles := by unfold State.goto; cases new <;> simp
@[simp] theorem State.goto_ports (s : State) (new : DevState) (row : Nat) : (s.goto new row).ports = s.ports := by unfold State.goto; cases new <;> simp
@[simp] theorem State.goto_lds (s : State) (new : DevState) (row : Nat) : (s.goto new row).lds = s.lds := by unfold State.goto; cases new <;> simp
@[simp] theorem State.goto_feed (s : State) (new : DevState) (row : Nat) : (s.goto new row).feed = s.feed := by unfold State.goto; cases new <;> simp
@[simp] theorem State.goto_keys (s : State) (new : DevState) (row : Nat) : (s.goto new row).keys = s.keys := by unfold State.goto; cases new <;> simp
@[simp] theorem State.goto_parts (s : State) (new : DevState) (row : Nat) : (s.goto new row).parts = s.parts := by unfold State.goto; cases new <;> simp
@[simp] theorem State.goto_queues (s : State) (new : DevState) (row : Nat) : (s.goto new row).queues = s.queues := by unfold State.goto; cases new <;> simp
@[simp] theorem State.goto_refK0 (s : State) (new : DevState) (row : Nat) : (s.goto new row).refK0 = s.refK0 := by unfold State.goto; cases new <;> simp
@[simp] theorem State.goto_refK1 (s : State) (new : DevState) (row : Nat) : (s.goto new row).refK1 = s.refK1 := by unfold State.goto; cases new <;> simp
@[simp] theorem State.goto_master (s : State) (new : DevState) (row : Nat) : (s.goto new row).master = s.master := by unfold State.goto; cases new <;> simp
@[simp] theorem State.goto_out (s : State) (new : DevState) (row : Nat) : (s.goto new row).out = s.out := by unfold State.goto; cases new <;> simp
@[simp] theorem State.goto_freeCtr (s : State) (new : DevState) (row : Nat) : (s.goto new row).freeCtr = s.freeCtr := by unfold State.goto; cases new <;> simp
@[simp] theorem State.goto_n (s : State) (new : DevState) (row : Nat) : (s.goto new row).n = s.n := by simp [State.n]
@[simp] theorem State.goto_tileNumbers (s : State) (new : DevState) (row : Nat) : (s.goto new row).tileNumbers = s.tileNumbers := by simp [State.tileNumbers]
@[simp] theorem State.goto_tile (s : State) (new : DevState) (row : Nat) (u : Nat) : (s.goto new row).tile u = s.tile u := by simp [State.tile]
@[simp] theorem State.goto_port (s : State) (new : DevState) (row : Nat) (u : Nat) : (s.goto new row).port u = s.port u := by simp [State.port]
@[simp] theorem State.goto_ld (s : State) (new : DevState) (row : Nat) (u v : Nat) : (s.goto new row).ld u v = s.ld u v := by simp [State.ld]
@[simp] theorem State.goto_cls (s : State) (new : DevState) (row : Nat) (u : Nat) : (s.goto new row).cls u = s.cls u := by simp [State.cls]
@[simp] theorem State.goto_queue (s : State) (new : DevState) (row : Nat) (u v : Nat) : (s.goto new row).queue u v = s.queue u v := by simp [State.queue]
@[simp] theorem State.goto_now (s : State) (new : DevState) (row : Nat) (u : Nat) : (s.goto new row).now u = s.now u := by simp [State.now]
@[simp] theorem State.goto_tileActive (s : State) (new : DevState) (row : Nat) (u : Nat) : (s.goto new row).tileActive u = s.tileActive u := by simp [State.tileActive]
@[simp] theorem State.goto_activeTiles (s : State) (new : DevState) (row : Nat) : (s.goto new row).activeTiles = s.activeTiles := by
 unfold State.activeTiles
 rw [show (s.goto new row).tileActive = s.tileActive from funext fun _ => by simp]
 simp

/-! ### `degrade` -/

@[simp] theorem State.degrade_pending (s : State) : (s.degrade).pending = s.pending := by unfold State.degrade; split <;> simp
@[simp] theorem State.degrade_part (s : State) : (s.degrade).part = s.part := by unfold State.degrade; split <;> simp
@[simp] theorem State.degrade_sup (s : State) : (s.degrade).sup = s.sup := by unfold State.degrade; split <;> simp
@[simp] theorem State.degrade_mgmt (s : State) : (s.degrade).mgmt = s.mgmt := by unfold State.degrade; split <;> simp
@[simp] theorem State.degrade_fw (s : State) : (s.degrade).fw = s.fw := by unfold State.degrade; split <;> simp
@[simp] theorem State.degrade_svc (s : State) : (s.degrade).svc = s.svc := by unfold State.degrade; split <;> simp
@[simp] theorem State.degrade_tiles (s : State) : (s.degrade).tiles = s.tiles := by unfold State.degrade; split <;> simp
@[simp] theorem State.degrade_ports (s : State) : (s.degrade).ports = s.ports := by unfold State.degrade; split <;> simp
@[simp] theorem State.degrade_lds (s : State) : (s.degrade).lds = s.lds := by unfold State.degrade; split <;> simp
@[simp] theorem State.degrade_feed (s : State) : (s.degrade).feed = s.feed := by unfold State.degrade; split <;> simp
@[simp] theorem State.degrade_keys (s : State) : (s.degrade).keys = s.keys := by unfold State.degrade; split <;> simp
@[simp] theorem State.degrade_parts (s : State) : (s.degrade).parts = s.parts := by unfold State.degrade; split <;> simp
@[simp] theorem State.degrade_queues (s : State) : (s.degrade).queues = s.queues := by unfold State.degrade; split <;> simp
@[simp] theorem State.degrade_refK0 (s : State) : (s.degrade).refK0 = s.refK0 := by unfold State.degrade; split <;> simp
@[simp] theorem State.degrade_refK1 (s : State) : (s.degrade).refK1 = s.refK1 := by unfold State.degrade; split <;> simp
@[simp] theorem State.degrade_master (s : State) : (s.degrade).master = s.master := by unfold State.degrade; split <;> simp
@[simp] theorem State.degrade_out (s : State) : (s.degrade).out = s.out := by unfold State.degrade; split <;> simp
@[simp] theorem State.degrade_freeCtr (s : State) : (s.degrade).freeCtr = s.freeCtr := by unfold State.degrade; split <;> simp
@[simp] theorem State.degrade_n (s : State)  : (s.degrade).n = s.n := by simp [State.n]
@[simp] theorem State.degrade_tileNumbers (s : State)  : (s.degrade).tileNumbers = s.tileNumbers := by simp [State.tileNumbers]
@[simp] theorem State.degrade_tile (s : State) (u : Nat) : (s.degrade).tile u = s.tile u := by simp [State.tile]
@[simp] theorem State.degrade_port (s : State) (u : Nat) : (s.degrade).port u = s.port u := by simp [State.port]
@[simp] theorem State.degrade_ld (s : State) (u v : Nat) : (s.degrade).ld u v = s.ld u v := by simp [State.ld]
@[simp] theorem State.degrade_cls (s : State) (u : Nat) : (s.degrade).cls u = s.cls u := by simp [State.cls]
@[simp] theorem State.degrade_queue (s : State) (u v : Nat) : (s.degrade).queue u v = s.queue u v := by simp [State.queue]
@[simp] theorem State.degrade_now (s : State) (u : Nat) : (s.degrade).now u = s.now u := by simp [State.now]
@[simp] theorem State.degrade_tileActive (s : State) (u : Nat) : (s.degrade).tileActive u = s.tileActive u := by simp [State.tileActive]
@[simp] theorem State.degrade_activeTiles (s : State)  : (s.degrade).activeTiles = s.activeTiles := by
 unfold State.activeTiles
 rw [show (s.degrade).tileActive = s.tileActive from funext fun _ => by simp]
 simp


/-! ### Lists -/

theorem length_modAt {α : Type} (l : List α) (i : Nat) (f : α → α) : (modAt l i f).length = l.length := by
  induction l generalizing i with
  | nil => rfl
  | cons a l ih => cases i <;> simp [modAt, ih]
theorem getElem?_modAt_same {α : Type} (l : List α) (i : Nat) (f : α → α) : (modAt l i f)[i]? = l[i]?.map f := by
  induction l generalizing i with
  | nil => simp [modAt]
  | cons a l ih => cases i <;> simp [modAt, ih]
theorem getElem?_modAt_ne {α : Type} (l : List α) (i j : Nat) (f : α → α) (h : i ≠ j) : (modAt l i f)[j]? = l[j]? := by
  induction l generalizing i j with
  | nil => simp [modAt]
  | cons a l ih =>
    cases i with
    | zero => cases j with
      | zero => exact absurd rfl h
      | succ j => simp [modAt]
    | succ i => cases j with
      | zero => simp [modAt]
      | succ j => simpa [modAt] using ih i j (by omega)
theorem getD_modAt_same {α : Type} (l : List α) (i : Nat) (f : α → α) (d : α) (h : i < l.length) : (modAt l i f).getD i d = f (l.getD i d) := by
  simp [List.getD, getElem?_modAt_same, h]
theorem getD_modAt_ne {α : Type} (l : List α) (i j : Nat) (f : α → α) (d : α) (h : i ≠ j) : (modAt l i f).getD j d = l.getD j d := by
  simp [List.getD, getElem?_modAt_ne l i j f h]

/-! ### What an update makes of the field it writes -/

@[simp] theorem State.modTile_tiles_length (s : State) (t : Nat) (f : Tile → Tile) : (s.modTile t f).tiles.length = s.tiles.length := length_modAt ..
theorem State.tile_modTile_same (s : State) (t : Nat) (f : Tile → Tile) (h : t < s.tiles.length) : (s.modTile t f).tile t = f (s.tile t) :=
  getD_modAt_same _ _ _ _ h
theorem State.tile_modTile_ne (s : State) (t u : Nat) (f : Tile → Tile) (h : t ≠ u) : (s.modTile t f).tile u = s.tile u :=
  getD_modAt_ne _ _ _ _ _ h
theorem State.port_modPort_same (s : State) (p : Nat) (f : Port → Port) (h : p < s.ports.length) : (s.modPort p f).port p = f (s.port p) :=
  getD_modAt_same _ _ _ _ h
theorem State.port_modPort_ne (s : State) (p u : Nat) (f : Port → Port) (h : p ≠ u) : (s.modPort p f).port u = s.port u :=
  getD_modAt_ne _ _ _ _ _ h
@[simp] theorem State.modPort_ports_length (s : State) (p : Nat) (f : Port → Port) : (s.modPort p f).ports.length = s.ports.length := length_modAt ..
@[simp] theorem State.cell_setCell_same (s : State) (k x d : Nat) : (s.setCell k x).cell k d = x := Sparse.getD_insert_same ..
theorem State.cell_setCell_ne (s : State) (k u x d : Nat) (h : k ≠ u) : (s.setCell k x).cell u d = s.cell u d := Sparse.getD_insert_ne _ _ _ _ _ h
@[simp] theorem State.ld_modLd_same (s : State) (p l : Nat) (f : LD → LD) : (s.modLd p l f).ld p l = f (s.ld p l) := Sparse.getD_insert_same ..
theorem State.ld_modLd_ne (s : State) (p l q m : Nat) (f : LD → LD) (h : 16 * p + l ≠ 16 * q + m) : (s.modLd p l f).ld q m = s.ld q m :=
  Sparse.getD_insert_ne _ _ _ _ _ h
@[simp] theorem State.queue_modQueue_same (s : State) (t q : Nat) (f : Queue → Queue) : (s.modQueue t q f).queue t q = f (s.queue t q) := Sparse.getD_insert_same ..
theorem State.queue_modQueue_ne (s : State) (t q u v : Nat) (f : Queue → Queue) (h : 64 * t + q ≠ 64 * u + v) : (s.modQueue t q f).queue u v = s.queue u v :=
  Sparse.getD_insert_ne _ _ _ _ _ h
@[simp] theorem State.cls_modCls_same (s : State) (c : Nat) (f : FeedClass → FeedClass) : (s.modCls c f).cls c = f (s.cls c) := Sparse.getD_insert_same ..
theorem State.counter_count_same (s : State) (num k : Nat) (h : s.dev.mainUp = true) : (s.count num k).counter num = (s.counter num + k) % 2 ^ 48 := by
  simp [State.count, State.counter, h, Sparse.getD_insert_same]
theorem State.counter_count_ne (s : State) (num k m : Nat) (h : num ≠ m) : (s.count num k).counter m = s.counter m := by
  unfold State.count State.counter
  split
  · exact Sparse.getD_insert_ne _ _ _ _ _ h
  · rfl
/-- Counters stand still while the main domain is off (R445). -/
theorem State.count_off (s : State) (num k : Nat) (h : s.dev.mainUp = false) : s.count num k = s := by simp [State.count, h]
@[simp] theorem State.stage_recs (s : State) (r : Nat) (o : Occ) : (s.stage r o).recs = modAt s.recs r (fun x => { x with staged := x.staged ++ [o] }) := by
  simp [State.stage]
@[simp] theorem State.goto_dev (s : State) (new : DevState) (row : Nat) : (s.goto new row).dev = { s.dev with st := new } := by
  unfold State.goto; cases new <;> simp
/-- Only READY becomes DEGRADED, and only while a condition of R476 holds. -/
theorem State.degrade_dev (s : State) :
    s.degrade.dev = { s.dev with st := if s.dev.st = .ready ∧ s.degradedCondition = true then .degraded else s.dev.st } := by
  unfold State.degrade; split <;> simp_all
@[simp] theorem State.degrade_mainUp (s : State) : s.degrade.dev.mainUp = s.dev.mainUp := by simp [State.degrade_dev]
theorem State.raise_status (s : State) (a b c : Nat) (h : a ≠ c) : (s.raise a b c).cell a 0 = setBit (s.cell a 0) b := by
  simp [State.raise, State.cell_setCell_ne _ _ _ _ _ (Ne.symm h)]
theorem State.raise_occ (s : State) (a b c : Nat) (h : a ≠ c) : (s.raise a b c).cell c 0 = (s.cell c 0 + 1) % 65536 := by
  simp [State.raise, State.cell_setCell_ne _ _ _ _ _ h]
theorem State.raise_cell_ne (s : State) (a b c u d : Nat) (h : a ≠ u) (g : c ≠ u) : (s.raise a b c).cell u d = s.cell u d := by
  simp [State.raise, State.cell_setCell_ne _ _ _ _ _ h, State.cell_setCell_ne _ _ _ _ _ g]

/-! ### Changes made one after the other -/

/-- What every change of a list keeps, the whole list keeps. -/
theorem State.each_keeps {α β : Type} (g : State → β) (s : State) (l : List α) (f : State → α → State) (h : ∀ s x, g (f s x) = g s) :
    g (s.each l f) = g s := by
  unfold State.each
  induction l generalizing s with
  | nil => rfl
  | cons a l ih => simp only [List.foldl_cons]; rw [ih, h]
theorem State.each_induct {α : Type} (P : State → Prop) (s : State) (l : List α) (f : State → α → State) (h0 : P s)
    (h : ∀ s x, x ∈ l → P s → P (f s x)) : P (s.each l f) := by
  unfold State.each
  induction l generalizing s with
  | nil => exact h0
  | cons a l ih => exact ih (f s a) (h s a (List.mem_cons_self ..) h0) (fun s x hx => h s x (List.mem_cons_of_mem _ hx))
/-- A list of changes, each of one tile of its own, makes each of these changes. -/
theorem State.tile_each (s : State) (l : List Nat) (F : State → Nat → State) (f : Nat → Tile → Tile) (hl : l.Nodup)
    (hlen : ∀ t ∈ l, t < s.tiles.length)
    (hne : ∀ s t u, u ≠ t → (F s t).tile u = s.tile u) (hsame : ∀ s t, t < s.tiles.length → (F s t).tile t = f t (s.tile t))
    (hk : ∀ s t, (F s t).tiles.length = s.tiles.length) (u : Nat) :
    (s.each l F).tile u = if u ∈ l then f u (s.tile u) else s.tile u := by
  unfold State.each
  induction l generalizing s with
  | nil => simp
  | cons a l ih =>
    rw [List.nodup_cons] at hl
    rw [List.foldl_cons, ih (F s a) hl.2 (fun t ht => by rw [hk]; exact hlen t (List.mem_cons_of_mem _ ht))]
    by_cases hu : u = a
    · subst hu
      rw [if_neg hl.1, if_pos (List.mem_cons_self ..), hsame _ _ (hlen u (List.mem_cons_self ..))]
    · rw [hne _ _ _ hu]
      simp [hu]
@[simp] theorem State.each_nil {α : Type} (s : State) (f : State → α → State) : s.each [] f = s := rfl
@[simp] theorem State.each_cons {α : Type} (s : State) (a : α) (l : List α) (f : State → α → State) : s.each (a :: l) f = (f s a).each l f := rfl

end Sys2Proof.Machine
end

