-- ==== Sys2Proof/Laws/Reports.lean ====
section
/-! SUPPORT. What recorders hold after an update: an event recorded is staged, and no update of the shared operations takes a staged event away. -/
set_option Elab.async false
namespace Sys2Proof.Machine
open Sys2Proof

theorem State.reports_of_recs (s s' : State) (r c : Nat) (h : s'.recs = s.recs) (hr : s.reports r c) : s'.reports r c := by
  unfold State.reports at *
  rwa [h]
theorem State.stage_reports (s : State) (r : Nat) (o : Occ) (h : r < s.recs.length) : (s.stage r o).reports r o.code := by
  refine ⟨o, ?_, rfl⟩
  rw [State.stage_recs, getD_modAt_same _ _ _ _ h]
  simp
theorem State.reports_stage (s : State) (r c q : Nat) (o : Occ) (h : s.reports r c) : (s.stage q o).reports r c := by
  obtain ⟨x, hx, hc⟩ := h
  refine ⟨x, ?_, hc⟩
  rw [State.stage_recs]
  by_cases hq : q = r
  · subst hq
    by_cases hl : q < s.recs.length
    · rw [getD_modAt_same _ _ _ _ hl]
      exact List.mem_append_left _ hx
    · have : s.recs.getD q Recorder.empty = Recorder.empty := by simp [List.getD, List.getElem?_eq_none (by omega : s.recs.length ≤ q)]
      rw [this] at hx
      cases hx
  · rw [getD_modAt_ne _ _ _ _ _ hq]
    exact hx
theorem State.tev_reports (s : State) (t num cls value : Nat) (qs : List (Nat × Nat)) (h : t < s.recs.length) :
    (s.tev t num cls value qs).tileReports t num := State.stage_reports s t _ h
theorem State.pevAt_reports (s : State) (t code cls value : Nat) (qs : List (Nat × Nat)) (h : 8 < s.recs.length) :
    (s.pevAt t code cls value qs).pkgReports code := State.stage_reports s 8 _ h
theorem State.pev_reports (s : State) (code value : Nat) (qs : List (Nat × Nat)) (h : 8 < s.recs.length) :
    (s.pev code value qs).pkgReports code := State.stage_reports s 8 _ h
theorem State.reports_tev (s : State) (r c t num cls value : Nat) (qs : List (Nat × Nat)) (h : s.reports r c) :
    (s.tev t num cls value qs).reports r c := State.reports_stage s r c t _ h
theorem State.reports_pevAt (s : State) (r c t code cls value : Nat) (qs : List (Nat × Nat)) (h : s.reports r c) :
    (s.pevAt t code cls value qs).reports r c := State.reports_stage s r c 8 _ h
theorem State.reports_pev (s : State) (r c code value : Nat) (qs : List (Nat × Nat)) (h : s.reports r c) :
    (s.pev code value qs).reports r c := State.reports_stage s r c 8 _ h
theorem State.reports_count (s : State) (r c num k : Nat) (h : s.reports r c) : (s.count num k).reports r c :=
  State.reports_of_recs _ _ _ _ (State.count_recs ..) h
theorem State.reports_tcount (s : State) (r c t num k : Nat) (h : s.reports r c) : (s.tcount t num k).reports r c :=
  State.reports_of_recs _ _ _ _ (State.tcount_recs ..) h
theorem State.reports_raise (s : State) (r c a b d : Nat) (h : s.reports r c) : (s.raise a b d).reports r c :=
  State.reports_of_recs _ _ _ _ (State.raise_recs ..) h
theorem State.reports_alert (s : State) (r c b : Nat) (h : s.reports r c) : (s.alert b).reports r c := by
  unfold State.alert
  simp only []
  split
  · exact State.reports_pev _ _ _ _ _ _ (State.reports_raise _ _ _ _ _ _ h)
  · exact State.reports_raise _ _ _ _ _ _ h
theorem State.reports_goto (s : State) (r c : Nat) (new : DevState) (row : Nat) (h : s.reports r c) : (s.goto new row).reports r c := by
  have h1 : ∀ s' : State, s'.recs = s.recs → ∀ a b l, ((s'.count Cn.STATE_CHANGES 1).pev a b l).reports r c := fun s' hs a b l =>
    State.reports_pev _ _ _ _ _ _ (State.reports_count _ _ _ _ _ (State.reports_of_recs s s' r c hs h))
  unfold State.goto
  simp only []
  cases new <;> first
    | (refine State.reports_alert _ _ _ _ (h1 _ ?_ _ _ _); rfl)
    | (refine h1 _ ?_ _ _ _; rfl)
theorem State.reports_degrade (s : State) (r c : Nat) (h : s.reports r c) : s.degrade.reports r c := by
  unfold State.degrade
  split
  · exact State.reports_goto _ _ _ _ _ h
  · exact h
/-- A transition records DEVICE_STATE_CHANGED (R475). -/
theorem State.goto_reports (s : State) (new : DevState) (row : Nat) (h : 8 < s.recs.length) : (s.goto new row).pkgReports Ev.DEVICE_STATE_CHANGED := by
  have h1 : ∀ s' : State, s'.recs = s.recs → ∀ b l, ((s'.count Cn.STATE_CHANGES 1).pev Ev.DEVICE_STATE_CHANGED b l).reports 8 Ev.DEVICE_STATE_CHANGED :=
    fun s' hs b l => State.pev_reports _ _ _ _ (by rw [State.count_recs, hs]; exact h)
  unfold State.goto
  simp only []
  cases new <;> first
    | (refine State.reports_alert _ _ _ _ (h1 _ ?_ _ _); rfl)
    | (refine h1 _ ?_ _ _; rfl)
/-- No shared operation changes how many recorders there are. -/
@[simp] theorem State.stage_recs_length (s : State) (r : Nat) (o : Occ) : (s.stage r o).recs.length = s.recs.length := by
  rw [State.stage_recs, length_modAt]
@[simp] theorem State.tev_recs_length (s : State) (t num cls value : Nat) (qs : List (Nat × Nat)) :
    (s.tev t num cls value qs).recs.length = s.recs.length := State.stage_recs_length ..
@[simp] theorem State.pev_recs_length (s : State) (code value : Nat) (qs : List (Nat × Nat)) :
    (s.pev code value qs).recs.length = s.recs.length := State.stage_recs_length ..

end Sys2Proof.Machine
end

