-- ==== Sys2Proof/Laws/Server.lean ====
section
/-! SUPPORT. The dictionary server: where an object lies, what a message of one operation comes to, what handing over an answer leaves alone, the bytes
of numbers. -/
set_option Elab.async false
namespace Sys2Proof

/-! ### Bytes of numbers -/

@[simp] theorem bytesLE_length (n v : Nat) : (bytesLE n v).length = n := by
  induction n generalizing v with
  | zero => rfl
  | succ n ih => simp [bytesLE, ih]
theorem ofBytesLE_bytesLE (n v : Nat) : ofBytesLE (bytesLE n v) = v % 256 ^ n := by
  induction n generalizing v with
  | zero => simp [bytesLE, ofBytesLE, Nat.mod_one]
  | succ n ih =>
    simp only [bytesLE, ofBytesLE, ih]
    rw [pow_succ', Nat.mod_mul, Nat.mod_mod]
theorem ofBytesLE_bytesLE_of_lt (n v : Nat) (h : v < 256 ^ n) : ofBytesLE (bytesLE n v) = v := by
  rw [ofBytesLE_bytesLE, Nat.mod_eq_of_lt h]

end Sys2Proof

namespace Sys2Proof.Machine
open Sys2Proof

/-! ### Where an object lies -/

/-- Whether two rows have no address in common. -/
def ObRow.apart (a b : ObRow) : Bool :=
  Nat.ble (a.key / 256 + a.inst.span) (b.key / 256) || Nat.ble (b.key / 256 + b.inst.span) (a.key / 256) ||
    Nat.blt (a.key % 256 + a.more) (b.key % 256) || Nat.blt (b.key % 256 + b.more) (a.key % 256)
theorem ObRow.apart_iff (a b : ObRow) : a.apart b = true ↔
    (a.key / 256 + a.inst.span ≤ b.key / 256 ∨ b.key / 256 + b.inst.span ≤ a.key / 256 ∨
      a.key % 256 + a.more < b.key % 256 ∨ b.key % 256 + b.more < a.key % 256) := by
  simp only [ObRow.apart, Bool.or_eq_true, Nat.ble_eq, Nat.blt_eq, or_assoc]
/-- Whether no two rows of a list have an address in common. -/
def allApart : List ObRow → Bool
  | [] => true
  | a :: rest => rest.all a.apart && allApart rest
theorem allApart_obRows : allApart obRows = true := by decide +kernel
theorem pairwise_of_allApart (l : List ObRow) (h : allApart l = true) : l.Pairwise (fun a b => a.apart b = true) := by
  induction l with
  | nil => exact .nil
  | cons a l ih =>
    simp only [allApart, Bool.and_eq_true, List.all_eq_true] at h
    exact .cons (fun b hb => h.1 b hb) (ih h.2)
theorem obRows_apart : obRows.Pairwise (fun a b => a.apart b = true) := pairwise_of_allApart _ allApart_obRows
theorem ObRow.place_some {row : ObRow} {index sub : Nat} {p : ObPlace} (h : row.place index sub = some p) :
    row.key / 256 ≤ index ∧ index < row.key / 256 + row.inst.span ∧ row.key % 256 ≤ sub ∧ sub ≤ row.key % 256 + row.more := by
  simp only [ObRow.place] at h
  split at h
  · assumption
  · cases h
/-- An address spells the object of at most one row. -/
theorem place_unique (rows : List ObRow) (h : rows.Pairwise (fun a b => a.apart b = true)) (row : ObRow) (hr : row ∈ rows) (index sub : Nat)
    (p : ObPlace) (hp : row.place index sub = some p) : rows.findSome? (fun r => r.place index sub) = some p := by
  induction rows with
  | nil => cases hr
  | cons a rows ih =>
    rw [List.pairwise_cons] at h
    rw [List.findSome?_cons]
    cases ha : a.place index sub with
    | none =>
      cases hr with
      | head => rw [hp] at ha; cases ha
      | tail _ hr => exact ih h.2 hr
    | some q =>
      cases hr with
      | head => rw [hp] at ha; exact ha.symm
      | tail _ hr =>
        have h1 := ObRow.place_some ha
        have h2 := ObRow.place_some hp
        have h3 := h.1 _ hr
        rw [ObRow.apart_iff] at h3
        omega
/-- An instance of a row that the part has is what its address spells. -/
theorem State.findOb_of_row (s : State) (row : ObRow) (i off : Nat) (hr : row ∈ obRows) (hi : i < row.inst.span) (ho : off ≤ row.more)
    (hh : s.instHere row i = true) (hs : row.key ≠ Ob.PART_SEG_BASE ∨ off < s.n) :
    s.findOb (row.key / 256 + i) (row.key % 256 + off) = some { row := row, i := i, off := off } := by
  have hp : row.place (row.key / 256 + i) (row.key % 256 + off) = some { row := row, i := i, off := off } := by
    simp only [ObRow.place]
    rw [if_pos (by omega)]
    simp
  unfold State.findOb
  rw [place_unique obRows obRows_apart row hr _ _ _ hp]
  simp only [hh, Bool.true_and]
  rw [if_pos (by simpa using hs)]

/-! ### Answers -/

theorem State.answer_frame (s : State) (q : Requester) (tag : Nat) (stop : Bool) (recs : List (List Nat)) :
    ∃ out cnt, s.answer q tag stop recs = { s with out := out, cnt := cnt } := by
  unfold State.answer
  split
  · exact ⟨_, ((({ (s.count Cn.STAEB_MESSAGES 1) with out := _ } : State)).tcount _ _ _).cnt, by
      simp only [State.tcount, State.count]
      split <;> rfl⟩
  · exact ⟨_, (s.count Cn.STAEB_MESSAGES 1).cnt, by
      simp only [State.count]
      split <;> rfl⟩
@[simp] theorem State.answer_tiles (s : State) (q : Requester) (tag : Nat) (stop : Bool) (recs : List (List Nat)) :
    (s.answer q tag stop recs).tiles = s.tiles := by obtain ⟨a, b, h⟩ := s.answer_frame q tag stop recs; rw [h]
@[simp] theorem State.answer_ports (s : State) (q : Requester) (tag : Nat) (stop : Bool) (recs : List (List Nat)) :
    (s.answer q tag stop recs).ports = s.ports := by obtain ⟨a, b, h⟩ := s.answer_frame q tag stop recs; rw [h]
@[simp] theorem State.answer_dev (s : State) (q : Requester) (tag : Nat) (stop : Bool) (recs : List (List Nat)) :
    (s.answer q tag stop recs).dev = s.dev := by obtain ⟨a, b, h⟩ := s.answer_frame q tag stop recs; rw [h]
@[simp] theorem State.answer_obj (s : State) (q : Requester) (tag : Nat) (stop : Bool) (recs : List (List Nat)) :
    (s.answer q tag stop recs).obj = s.obj := by obtain ⟨a, b, h⟩ := s.answer_frame q tag stop recs; rw [h]
@[simp] theorem State.answer_mgmt (s : State) (q : Requester) (tag : Nat) (stop : Bool) (recs : List (List Nat)) :
    (s.answer q tag stop recs).mgmt = s.mgmt := by obtain ⟨a, b, h⟩ := s.answer_frame q tag stop recs; rw [h]
@[simp] theorem State.answer_recs (s : State) (q : Requester) (tag : Nat) (stop : Bool) (recs : List (List Nat)) :
    (s.answer q tag stop recs).recs = s.recs := by obtain ⟨a, b, h⟩ := s.answer_frame q tag stop recs; rw [h]
@[simp] theorem State.answer_svc (s : State) (q : Requester) (tag : Nat) (stop : Bool) (recs : List (List Nat)) :
    (s.answer q tag stop recs).svc = s.svc := by obtain ⟨a, b, h⟩ := s.answer_frame q tag stop recs; rw [h]
@[simp] theorem State.answer_fw (s : State) (q : Requester) (tag : Nat) (stop : Bool) (recs : List (List Nat)) :
    (s.answer q tag stop recs).fw = s.fw := by obtain ⟨a, b, h⟩ := s.answer_frame q tag stop recs; rw [h]
@[simp] theorem State.answer_keys (s : State) (q : Requester) (tag : Nat) (stop : Bool) (recs : List (List Nat)) :
    (s.answer q tag stop recs).keys = s.keys := by obtain ⟨a, b, h⟩ := s.answer_frame q tag stop recs; rw [h]
@[simp] theorem State.answer_parts (s : State) (q : Requester) (tag : Nat) (stop : Bool) (recs : List (List Nat)) :
    (s.answer q tag stop recs).parts = s.parts := by obtain ⟨a, b, h⟩ := s.answer_frame q tag stop recs; rw [h]
@[simp] theorem State.answer_queues (s : State) (q : Requester) (tag : Nat) (stop : Bool) (recs : List (List Nat)) :
    (s.answer q tag stop recs).queues = s.queues := by obtain ⟨a, b, h⟩ := s.answer_frame q tag stop recs; rw [h]
@[simp] theorem State.answer_feed (s : State) (q : Requester) (tag : Nat) (stop : Bool) (recs : List (List Nat)) :
    (s.answer q tag stop recs).feed = s.feed := by obtain ⟨a, b, h⟩ := s.answer_frame q tag stop recs; rw [h]
@[simp] theorem State.answer_lds (s : State) (q : Requester) (tag : Nat) (stop : Bool) (recs : List (List Nat)) :
    (s.answer q tag stop recs).lds = s.lds := by obtain ⟨a, b, h⟩ := s.answer_frame q tag stop recs; rw [h]
@[simp] theorem State.answer_sup (s : State) (q : Requester) (tag : Nat) (stop : Bool) (recs : List (List Nat)) :
    (s.answer q tag stop recs).sup = s.sup := by obtain ⟨a, b, h⟩ := s.answer_frame q tag stop recs; rw [h]
/-- The answer goes to the requester and is the last thing handed over. -/
theorem State.answer_out (s : State) (q : Requester) (tag : Nat) (stop : Bool) (recs : List (List Nat)) :
    (s.answer q tag stop recs).out = s.out ++ [answerTo q ([0, 1, 2, bitNat stop] ++ bytesLE 2 tag ++ bytesLE 2 recs.length ++ recs.flatten)] := by
  unfold State.answer answerTo
  split <;> simp
/-- The answer to a message of one operation. -/
theorem State.answer_one (s : State) (q : Requester) (key code detail : Nat) (data : List Nat) :
    (s.answer q 0 false [respRecord code { op := 0, sub := key % 256, index := key / 256, value := [] } s.dev.st.code detail data]).out =
      s.out ++ [answerTo q (oneRecord s key code detail data)] := by
  rw [State.answer_out]
  simp [oneRecord, bitNat]

/-! ### Messages of one operation -/

/-- An operation that ends at once: its effect, the log of its error if it has one, its answer. -/
theorem State.oneOp_now (s : State) (q : Requester) (op index sub : Nat) (value : List Nat) (r : Result) (h : s.Takes q)
    (hr : s.runOp q { op := op, sub := sub, index := index, value := value } = .now r) :
    s.oneOp q op index sub value =
      (finishOp q { op := op, sub := sub, index := index, value := value } r).1.answer q 0 false
        [(finishOp q { op := op, sub := sub, index := index, value := value } r).2] := by
  have h1 := h.up
  have h2 := h.reach
  have h3 := h.idle
  have h4 := h.room
  have h5 := h.first
  unfold State.oneOp State.takeMessage
  simp only [h1, h2, h3, h5, Bool.not_true, Bool.or_self, Bool.false_eq_true, if_false, Bool.false_or, decide_eq_true_eq]
  rw [if_neg (by omega)]
  simp [State.proceed, runOps, hr]
/-- An operation that ends at a later step: its message waits. -/
theorem State.oneOp_later (s s1 : State) (q : Requester) (op index sub : Nat) (value : List Nat) (w : Wait) (h : s.Takes q)
    (hr : s.runOp q { op := op, sub := sub, index := index, value := value } = .later s1 w) :
    s.oneOp q op index sub value = { s1 with mgmt := { s1.mgmt with messages := s1.mgmt.messages ++
      [{ req := q, tag := 0, stop := false, failed := false, done := [], waiting := w,
         cur := { op := op, sub := sub, index := index, value := value }, rest := [] }] } } := by
  have h1 := h.up
  have h2 := h.reach
  have h3 := h.idle
  have h4 := h.room
  have h5 := h.first
  unfold State.oneOp State.takeMessage
  simp only [h1, h2, h3, h5, Bool.not_true, Bool.or_self, Bool.false_eq_true, if_false, Bool.false_or, decide_eq_true_eq]
  rw [if_neg (by omega)]
  simp [State.proceed, runOps, hr]
/-- A successful operation logs nothing. -/
theorem finishOp_ok (q : Requester) (o : StaebOp) (r : Result) (h : r.code = 0) :
    finishOp q o r = (r.st, respRecord 0 o r.st.dev.st.code r.detail r.data) := by
  simp [finishOp, h]
/-- In service a write of an object is the object's write. -/
theorem State.runOp_write (s : State) (q : Requester) (index sub : Nat) (value : List Nat) (p : ObPlace) (hs : s.inService = true)
    (hp : s.findOb index sub = some p) :
    s.runOp q { op := 2, sub := sub, index := index, value := value } = s.writeOp q index p value := by
  have hn : s.notReady = false := by simp [State.notReady, hs]
  simp [State.runOp, hn, hp]
/-- A write that nothing bars, of a command, runs the command. -/
theorem State.writeOp_command (s : State) (q : Requester) (index : Nat) (p : ObPlace) (value : List Nat)
    (hf : s.writeFault q index p value (s.writeMask p (ofBytesLE value)) = none) (hc : p.isConfig = false) (ha : p.access = .cmd ∨ p.access = .wo) :
    s.writeOp q index p value = s.command q p (s.writeMask p (ofBytesLE value)) := by
  unfold State.writeOp
  simp only [hf, hc]
  rcases ha with h | h <;> simp [h]

end Sys2Proof.Machine
end

