-- ==== Sys2Proof/Laws/Slots.lean ====
section
/-! SUPPORT. What the transfers of the nib channels do (R447): they change the ticks that the slot counters have still to count, and nothing else. -/
set_option Elab.async false
namespace Sys2Proof.Machine
open Sys2Proof

theorem State.transfer_only (s : State) (t die cls k : Nat) : ∃ m, s.transfer t die cls k = { s with cnt := { s.cnt with owed := m } } := ⟨_, rfl⟩
theorem State.ownRead_only (s : State) (t part lseg st pos base : Nat) (c : Copy) :
    ∃ m, s.ownRead t part lseg st pos base c = { s with cnt := { s.cnt with owed := m } } := by
  unfold State.ownRead
  simp only []
  split
  · exact ⟨_, rfl⟩
  · exact State.transfer_only ..
/-- A change of `owed` alone for each element of a list is one change of `owed` alone. -/
theorem State.each_only {α : Type} (s : State) (l : List α) (f : State → α → State)
    (h : ∀ s a, ∃ m, f s a = { s with cnt := { s.cnt with owed := m } }) : ∃ m, s.each l f = { s with cnt := { s.cnt with owed := m } } := by
  unfold State.each
  induction l generalizing s with
  | nil => exact ⟨_, rfl⟩
  | cons a l ih =>
    obtain ⟨m, hm⟩ := h s a
    obtain ⟨k, hk⟩ := ih (f s a)
    exact ⟨k, by rw [List.foldl_cons, hk, hm]⟩
theorem State.ownReads_only (s : State) (t part lseg st base : Nat) (c : Copy) (skip : List Nat) :
    ∃ m, s.ownReads t part lseg st base c skip = { s with cnt := { s.cnt with owed := m } } :=
  State.each_only _ _ _ fun _ _ => State.ownRead_only ..
theorem State.lineRead_only (s : State) (t part lla base : Nat) :
    ∃ m, s.lineRead t part lla base = { s with cnt := { s.cnt with owed := m } } := by
  unfold State.lineRead
  simp only []
  split
  · exact ⟨_, rfl⟩
  · exact State.ownRead_only ..
theorem State.allNibs_only (s : State) (t cls k : Nat) : ∃ m, s.allNibs t cls k = { s with cnt := { s.cnt with owed := m } } :=
  State.each_only _ _ _ fun _ _ => State.transfer_only ..
theorem State.headerTransfers_only (s : State) (t p k : Nat) : ∃ m, s.headerTransfers t p k = { s with cnt := { s.cnt with owed := m } } := ⟨_, rfl⟩
theorem State.groupReads_only (s : State) (owner part lla base : Nat) :
    ∃ m, s.groupReads owner part lla base = { s with cnt := { s.cnt with owed := m } } := by
  unfold State.groupReads
  simp only []
  have h (s1 : State) (h1 : ∃ m, s1 = { s with cnt := { s.cnt with owed := m } }) (l : List (Nat × Nat)) :
      ∃ m, s1.each l (fun s' m => s'.lineRead m.1 part m.2 base) = { s with cnt := { s.cnt with owed := m } } := by
    obtain ⟨m, rfl⟩ := h1
    obtain ⟨k, hk⟩ := State.each_only { s with cnt := { s.cnt with owed := m } } l _
      (fun s' (x : Nat × Nat) => State.lineRead_only s' x.1 part x.2 base)
    exact ⟨k, hk⟩
  apply h
  repeat' split
  all_goals first
    | exact ⟨_, rfl⟩
    | exact State.lineRead_only ..

end Sys2Proof.Machine
end

