-- ==== Sys2Proof/Laws/SvnMin.lean ====
section
/-! SUPPORT. What each command and operation does to the firmware floor: no command lowers it, only FW_SVN_COMMIT moves it (R491).
One lemma for every operation and every meaning. -/
set_option Elab.async false
set_option linter.unusedTactic false
set_option linter.unreachableTactic false
set_option linter.unusedSimpArgs false
set_option linter.unusedVariables false
namespace Sys2Proof.Machine
open Sys2Proof
theorem each_svnMin {α : Type} (s : State) (l : List α) (f : State → α → State) (h : ∀ s x, (f s x).fw.svnMin = s.fw.svnMin) : (s.each l f).fw.svnMin = s.fw.svnMin := by
  unfold State.each
  induction l generalizing s with
  | nil => rfl
  | cons a l ih => simp only [List.foldl_cons]; rw [ih, h]
theorem foldl_svnMin {α : Type} (s : State) (l : List α) (f : State → α → State) (h : ∀ s x, (f s x).fw.svnMin = s.fw.svnMin) : (l.foldl f s).fw.svnMin = s.fw.svnMin := each_svnMin s l f h
theorem foldl1_svnMin {α β : Type} (s : State × β) (l : List α) (f : State × β → α → State × β) (h : ∀ s x, (f s x).1.fw.svnMin = s.1.fw.svnMin) : (l.foldl f s).1.fw.svnMin = s.1.fw.svnMin := by
  induction l generalizing s with
  | nil => rfl
  | cons a l ih => simp only [List.foldl_cons]; rw [ih, h]
theorem when_svnMin (s : State) (c : Bool) (f : State → State) (h : (f s).fw.svnMin = s.fw.svnMin) : (s.when c f).fw.svnMin = s.fw.svnMin := by unfold State.when; split <;> simp [h]
theorem ite_svnMin (c : Prop) [Decidable c] (a b : State) : (if c then a else b).fw.svnMin = if c then a.fw.svnMin else b.fw.svnMin := by split <;> rfl
theorem ite_fst_svnMin {β : Type} (c : Prop) [Decidable c] (a b : State × β) : (if c then a else b).1.fw.svnMin = if c then a.1.fw.svnMin else b.1.fw.svnMin := by split <;> rfl
theorem ite_result_svnMin (c : Prop) [Decidable c] (a b : Result) : (if c then a else b).st.fw.svnMin = if c then a.st.fw.svnMin else b.st.fw.svnMin := by split <;> rfl
theorem ite_mbEnd_svnMin (c : Prop) [Decidable c] (a b : MbEnd) : (if c then a else b).st.fw.svnMin = if c then a.st.fw.svnMin else b.st.fw.svnMin := by split <;> rfl
def OpEnd.after (s : State) : OpEnd → State
  | .now r => r.st
  | .later t _ => t
theorem State.modTile_svnMin (s : State) (t : Nat) (f : Tile → Tile) : (State.modTile s t f).fw.svnMin = s.fw.svnMin := by
  unfold State.modTile
  simp only []
theorem State.modTime_svnMin (s : State) (t : Nat) (f : TileTime → TileTime) : (State.modTime s t f).fw.svnMin = s.fw.svnMin := by
  unfold State.modTime
  simp only [State.modTile_svnMin]
theorem State.modSup_svnMin (s : State) (t : Nat) (f : TileSup → TileSup) : (State.modSup s t f).fw.svnMin = s.fw.svnMin := by
  unfold State.modSup
  simp only [State.modTile_svnMin]
theorem State.modMed_svnMin (s : State) (t : Nat) (f : TileMed → TileMed) : (State.modMed s t f).fw.svnMin = s.fw.svnMin := by
  unfold State.modMed
  simp only [State.modTile_svnMin]
theorem State.modRes_svnMin (s : State) (t : Nat) (f : TileRes → TileRes) : (State.modRes s t f).fw.svnMin = s.fw.svnMin := by
  unfold State.modRes
  simp only [State.modTile_svnMin]
theorem State.modRd_svnMin (s : State) (t : Nat) (f : TileRead → TileRead) : (State.modRd s t f).fw.svnMin = s.fw.svnMin := by
  unfold State.modRd
  simp only [State.modTile_svnMin]
theorem State.modMap_svnMin (s : State) (t : Nat) (f : TileMap → TileMap) : (State.modMap s t f).fw.svnMin = s.fw.svnMin := by
  unfold State.modMap
  simp only [State.modTile_svnMin]
theorem State.modPat_svnMin (s : State) (t : Nat) (f : TilePat → TilePat) : (State.modPat s t f).fw.svnMin = s.fw.svnMin := by
  unfold State.modPat
  simp only [State.modTile_svnMin]
theorem State.modFence_svnMin (s : State) (t : Nat) (f : TileFence → TileFence) : (State.modFence s t f).fw.svnMin = s.fw.svnMin := by
  unfold State.modFence
  simp only [State.modTile_svnMin]
theorem State.modPs_svnMin (s : State) (t : Nat) (f : PStore → PStore) : (State.modPs s t f).fw.svnMin = s.fw.svnMin := by
  unfold State.modPs
  simp only [State.modTile_svnMin]
theorem State.modPort_svnMin (s : State) (p : Nat) (f : Port → Port) : (State.modPort s p f).fw.svnMin = s.fw.svnMin := by
  unfold State.modPort
  simp only []
theorem State.modLd_svnMin (s : State) (p : Nat) (l : Nat) (f : LD → LD) : (State.modLd s p l f).fw.svnMin = s.fw.svnMin := by
  unfold State.modLd
  simp only []
theorem State.modCls_svnMin (s : State) (c : Nat) (f : FeedClass → FeedClass) : (State.modCls s c f).fw.svnMin = s.fw.svnMin := by
  unfold State.modCls
  simp only []
theorem State.modQueue_svnMin (s : State) (t : Nat) (q : Nat) (f : Queue → Queue) : (State.modQueue s t q f).fw.svnMin = s.fw.svnMin := by
  unfold State.modQueue
  simp only []
theorem State.setCell_svnMin (s : State) (key : Nat) (v : Nat) : (State.setCell s key v).fw.svnMin = s.fw.svnMin := by
  unfold State.setCell
  simp only []
theorem State.bumpFree_svnMin (s : State) : (State.bumpFree s).fw.svnMin = s.fw.svnMin := by
  unfold State.bumpFree
  simp only []
theorem State.count_svnMin (s : State) (num : Nat) (k : Nat) : (State.count s num k).fw.svnMin = s.fw.svnMin := by
  unfold State.count
  simp only [ite_svnMin, ite_self]
theorem State.tcount_svnMin (s : State) (t : Nat) (num : Nat) (k : Nat) : (State.tcount s t num k).fw.svnMin = s.fw.svnMin := by
  unfold State.tcount
  simp only [State.count_svnMin]
theorem State.transfer_svnMin (s : State) (t die cls k : Nat) : (State.transfer s t die cls k).fw.svnMin = s.fw.svnMin := rfl
theorem State.ownRead_svnMin (s : State) (t part lseg st pos base : Nat) (c : Copy) : (s.ownRead t part lseg st pos base c).fw.svnMin = s.fw.svnMin := by
  unfold State.ownRead
  simp only [ite_svnMin, State.transfer_svnMin, ite_self]
theorem State.ownReads_svnMin (s : State) (t part lseg st base : Nat) (c : Copy) (skip : List Nat) : (s.ownReads t part lseg st base c skip).fw.svnMin = s.fw.svnMin :=
  each_svnMin _ _ _ (fun _ _ => State.ownRead_svnMin ..)
theorem State.lineRead_svnMin (s : State) (t part lla base : Nat) : (s.lineRead t part lla base).fw.svnMin = s.fw.svnMin := by
  unfold State.lineRead
  simp only []
  split
  · rfl
  · exact State.ownRead_svnMin ..
theorem State.groupReads_svnMin (s : State) (owner part lla base : Nat) : (s.groupReads owner part lla base).fw.svnMin = s.fw.svnMin := by
  unfold State.groupReads
  simp only []
  rw [each_svnMin _ _ _ (fun _ _ => State.lineRead_svnMin ..)]
  simp only [ite_svnMin, State.lineRead_svnMin, ite_self]
theorem State.headerTransfers_svnMin (s : State) (t p k : Nat) : (s.headerTransfers t p k).fw.svnMin = s.fw.svnMin := rfl
theorem State.allNibs_svnMin (s : State) (t cls k : Nat) : (s.allNibs t cls k).fw.svnMin = s.fw.svnMin :=
  each_svnMin _ _ _ (fun _ _ => rfl)
theorem State.stage_svnMin (s : State) (r : Nat) (o : Occ) : (State.stage s r o).fw.svnMin = s.fw.svnMin := by
  unfold State.stage
  simp only [State.count_svnMin]
theorem State.tev_svnMin (s : State) (t : Nat) (num : Nat) (cls : Nat) (value : Nat) (qs : List (Nat × Nat)) : (State.tev s t num cls value qs).fw.svnMin = s.fw.svnMin := by
  unfold State.tev
  simp only [State.stage_svnMin]
theorem State.pevAt_svnMin (s : State) (tile : Nat) (code : Nat) (cls : Nat) (value : Nat) (qs : List (Nat × Nat)) : (State.pevAt s tile code cls value qs).fw.svnMin = s.fw.svnMin := by
  unfold State.pevAt
  simp only [State.stage_svnMin]
theorem State.pev_svnMin (s : State) (code : Nat) (value : Nat) (qs : List (Nat × Nat)) : (State.pev s code value qs).fw.svnMin = s.fw.svnMin := by
  unfold State.pev
  simp only [State.pevAt_svnMin]
theorem State.pevQ_svnMin (s : State) (code : Nat) (a2 : List (Nat × Nat)) : (State.pevQ s code a2).fw.svnMin = s.fw.svnMin := by
  unfold State.pevQ
  (repeat' split) <;> simp only [State.pev_svnMin]
theorem State.raise_svnMin (s : State) (statusKey : Nat) (b : Nat) (occKey : Nat) : (State.raise s statusKey b occKey).fw.svnMin = s.fw.svnMin := by
  unfold State.raise
  simp only [State.setCell_svnMin]
theorem State.alert_svnMin (s : State) (b : Nat) : (State.alert s b).fw.svnMin = s.fw.svnMin := by
  unfold State.alert
  simp only [ite_svnMin, ite_self, State.raise_svnMin, State.pev_svnMin]
theorem State.supplyBit_svnMin (s : State) (b : Nat) : (State.supplyBit s b).fw.svnMin = s.fw.svnMin := by
  unfold State.supplyBit
  simp only [State.raise_svnMin]
theorem State.pageCommit_svnMin (s : State) (t : Nat) (page : Nat) : (State.pageCommit s t page).fw.svnMin = s.fw.svnMin := by
  unfold State.pageCommit
  simp only [State.count_svnMin, State.modPs_svnMin]
theorem State.goto_svnMin (s : State) (new : DevState) (row : Nat) : (State.goto s new row).fw.svnMin = s.fw.svnMin := by
  unfold State.goto
  (repeat' split) <;> simp only [State.pev_svnMin, State.count_svnMin, State.alert_svnMin]
theorem State.degrade_svnMin (s : State) : (State.degrade s).fw.svnMin = s.fw.svnMin := by
  unfold State.degrade
  simp only [ite_svnMin, ite_self, State.goto_svnMin]
theorem State.countRedirect_svnMin (s : State) (t : Nat) (a : Nat) : (State.countRedirect s t a).fw.svnMin = s.fw.svnMin := by
  unfold State.countRedirect
  (try simp only []); (repeat' (first | with_reducible rfl | (simp only [State.tcount_svnMin, State.modMed_svnMin]; done) | (apply each_svnMin; intro _ _) | (rw [each_svnMin] <;> (try intro _ _)) | split))
theorem State.ringSend_svnMin (s : State) (a : Nat) (d : Nat) (k : Nat) : (State.ringSend s a d k).fw.svnMin = s.fw.svnMin := by
  unfold State.ringSend
  (try simp only [each_svnMin, foldl_svnMin, when_svnMin, ite_svnMin, ite_fst_svnMin, ite_result_svnMin, ite_mbEnd_svnMin, ite_self, State.tcount_svnMin]); (repeat' (first | with_reducible rfl | (simp only [State.tcount_svnMin]; done) | (apply each_svnMin; intro _ _)))
theorem State.ringRequest_svnMin (s : State) (p : Nat) (d : Nat) : (State.ringRequest s p d).fw.svnMin = s.fw.svnMin := by
  unfold State.ringRequest
  simp only [ite_svnMin, ite_self, State.ringSend_svnMin]
theorem State.noteGate_svnMin (s : State) (t : Nat) : (State.noteGate s t).fw.svnMin = s.fw.svnMin := by
  unfold State.noteGate
  simp only [ite_svnMin, ite_self, State.modRes_svnMin, State.tev_svnMin]
theorem State.shadowFor_svnMin (s : State) (t : Nat) (owner : Nat) (add : Bool) (kind : Nat) (addr : Nat) : (State.shadowFor s t owner add kind addr).fw.svnMin = s.fw.svnMin := by
  unfold State.shadowFor
  simp only [ite_svnMin, ite_self, State.modRes_svnMin, State.ringSend_svnMin]
theorem State.shadow_svnMin (s : State) (t : Nat) (add : Bool) (kind : Nat) (addr : Nat) : (State.shadow s t add kind addr).fw.svnMin = s.fw.svnMin := by
  unfold State.shadow
  simp only [State.shadowFor_svnMin]
theorem State.violate_svnMin (s : State) (tile : Nat) (cls : Nat) (iface : Nat) (cause : Nat) (dpa : Nat) (quantity : Nat) : (State.violate s tile cls iface cause dpa quantity).fw.svnMin = s.fw.svnMin := by
  unfold State.violate
  (repeat' split) <;> simp only [State.raise_svnMin, State.setCell_svnMin, State.tev_svnMin, State.tcount_svnMin]
theorem State.violateReq_svnMin (s : State) (tile : Nat) (r : Req) (cause : Nat) : (State.violateReq s tile r cause).fw.svnMin = s.fw.svnMin := by
  unfold State.violateReq
  simp only [State.tcount_svnMin, State.violate_svnMin]
theorem State.poisonLine_svnMin (s : State) (t : Nat) (lla : Nat) (source : Nat) : (State.poisonLine s t lla source).fw.svnMin = s.fw.svnMin := by
  unfold State.poisonLine
  simp only [State.modMap_svnMin]
theorem State.unpoisonLine_svnMin (s : State) (t : Nat) (lla : Nat) : (State.unpoisonLine s t lla).fw.svnMin = s.fw.svnMin := by
  unfold State.unpoisonLine
  simp only [State.modMap_svnMin]
theorem State.chargeOne_svnMin (s : State) (r : Req) (reserved : Bool) (w : Bool) : (State.chargeOne s r reserved w).fw.svnMin = s.fw.svnMin := by
  unfold State.chargeOne
  simp only [State.modCls_svnMin]
theorem State.takeTokens_svnMin (s : State) (t : Nat) (r : Req) : (State.takeTokens s t r).fw.svnMin = s.fw.svnMin := by
  unfold State.takeTokens
  simp only [State.modRd_svnMin]
theorem State.giveNibs_svnMin (s : State) (t : Nat) (r : Req) : (State.giveNibs s t r).fw.svnMin = s.fw.svnMin := by
  unfold State.giveNibs
  simp only [ite_svnMin, ite_self, State.modRd_svnMin]
theorem State.giveOtherNib_svnMin (s : State) (t : Nat) (r : Req) (die : Nat) : (State.giveOtherNib s t r die).fw.svnMin = s.fw.svnMin := by
  unfold State.giveOtherNib
  simp only [ite_svnMin, ite_self, State.modRd_svnMin]
theorem State.admitFeed_svnMin (s : State) (t : Nat) (r : Req) : (State.admitFeed s t r).1.fw.svnMin = s.fw.svnMin := by
  unfold State.admitFeed
  (try simp only [ite_svnMin, ite_self, State.takeTokens_svnMin, State.modCls_svnMin, State.modPort_svnMin, State.tcount_svnMin, State.ringSend_svnMin]); (repeat' (first | with_reducible rfl | (simp only [State.chargeOne_svnMin]; done) | (apply each_svnMin; intro _ _)))
theorem State.noteCredits_svnMin (s : State) (p : Nat) : (State.noteCredits s p).fw.svnMin = s.fw.svnMin := by
  unfold State.noteCredits
  (try simp only [ite_svnMin, ite_self, State.modPort_svnMin]); (repeat' (first | with_reducible rfl | (simp only [State.modPort_svnMin, State.tev_svnMin]; done) | (apply each_svnMin; intro _ _) | (rw [each_svnMin] <;> (try intro _ _)) | split))
theorem State.hold_svnMin (s : State) (r : Req) : (State.hold s r).fw.svnMin = s.fw.svnMin := by
  unfold State.hold
  simp only [ite_svnMin, ite_self, State.tcount_svnMin, State.noteCredits_svnMin, State.modPort_svnMin, State.modRd_svnMin]
theorem State.respondMem_svnMin (s : State) (r : Req) (isData : Bool) (d : Line) (poison : Bool) : (State.respondMem s r isData d poison).fw.svnMin = s.fw.svnMin := by
  unfold State.respondMem
  simp only [ite_svnMin, ite_self, State.tcount_svnMin, State.modCls_svnMin]
theorem State.leaveIngress_svnMin (s : State) (r : Req) : (State.leaveIngress s r).fw.svnMin = s.fw.svnMin := by
  unfold State.leaveIngress
  simp only [ite_svnMin, ite_self, State.noteCredits_svnMin, State.modPort_svnMin]
theorem State.capture_svnMin (s : State) (t : Nat) (id : Nat) (ms : List Member) : (State.capture s t id ms).fw.svnMin = s.fw.svnMin := by
  unfold State.capture
  (try simp only []); (repeat' (first | with_reducible rfl | (simp only [State.modRd_svnMin, State.countRedirect_svnMin]; done) | (apply each_svnMin; intro _ _)))
theorem State.endNib_svnMin (s : State) (t : Nat) (id : Nat) : (State.endNib s t id).fw.svnMin = s.fw.svnMin := by
  unfold State.endNib
  (repeat' split) <;> simp only [State.modRd_svnMin]
theorem State.takeRow_svnMin (s : State) (t : Nat) (id : Nat) (row : Nat) (ms : List Member) : (State.takeRow s t id row ms).fw.svnMin = s.fw.svnMin := by
  unfold State.takeRow
  (repeat' split) <;> simp only [ite_svnMin, ite_self, State.modRd_svnMin, State.endNib_svnMin, State.tcount_svnMin, State.capture_svnMin]
theorem State.startRead_svnMin (s : State) (t : Nat) (r0 : Rd) (pred : Nat) : (State.startRead s t r0 pred).1.fw.svnMin = s.fw.svnMin := by
  unfold State.startRead
  simp only [ite_svnMin, ite_fst_svnMin, ite_self, State.modRd_svnMin, State.tcount_svnMin, State.endNib_svnMin, State.countRedirect_svnMin, State.tev_svnMin, State.takeRow_svnMin]
theorem State.promote_svnMin (s : State) (t : Nat) (b : Nat) : (State.promote s t b).fw.svnMin = s.fw.svnMin := by
  unfold State.promote
  (try simp only [ite_svnMin]); (repeat' (first | with_reducible rfl | (simp only [State.modRd_svnMin]; done) | (apply each_svnMin; intro _ _) | (rw [each_svnMin] <;> (try intro _ _)) | split))
theorem State.promoteIdle_svnMin (s : State) (t : Nat) (b : Nat) : (State.promoteIdle s t b).fw.svnMin = s.fw.svnMin := by
  unfold State.promoteIdle
  simp only [ite_svnMin, ite_self, State.promote_svnMin]
theorem State.strokeLeaves_svnMin (s : State) (t : Nat) (b : Nat) : (State.strokeLeaves s t b).fw.svnMin = s.fw.svnMin := by
  unfold State.strokeLeaves
  simp only [State.promote_svnMin, State.modRd_svnMin]
theorem State.tryWaiting_svnMin (s : State) (t pred : Nat) (q : Sense) (s1 : State) (h : s.tryWaiting t pred q = some s1) : s1.fw.svnMin = s.fw.svnMin := by
  unfold State.tryWaiting at h
  split at h
  · cases h
  · simp only [] at h
    split at h
    · cases h
    · injection h with h
      subst h
      simp only [State.takeRow_svnMin, State.modRd_svnMin]
theorem State.freedPosition_svnMin (s : State) (t pred : Nat) (l : List Sense) : (s.freedPosition t pred l).fw.svnMin = s.fw.svnMin := by
  induction l with
  | nil => rfl
  | cons q rest ih =>
    unfold State.freedPosition
    split
    · exact State.tryWaiting_svnMin _ _ _ _ _ (by assumption)
    · exact ih
theorem State.modSeal_svnMin (s : State) (t : Nat) (part : Nat) (f : Sealed → Sealed) : (State.modSeal s t part f).fw.svnMin = s.fw.svnMin := by
  unfold State.modSeal
  simp only [State.modTile_svnMin]
theorem State.noteDecode_svnMin (s : State) (t : Nat) (slot : Nat) (part : Nat) (lla : Option Nat) (d : Decoded) : (State.noteDecode s t slot part lla d).fw.svnMin = s.fw.svnMin := by
  unfold State.noteDecode
  (repeat' split) <;> simp only [State.tcount_svnMin, State.tev_svnMin]
theorem State.queueStroke_svnMin (s : State) (t : Nat) (k : Stroke) : (State.queueStroke s t k).fw.svnMin = s.fw.svnMin := by
  unfold State.queueStroke
  simp only [ite_svnMin, ite_self, State.modRes_svnMin, State.tcount_svnMin]
theorem State.supersede_svnMin (s : State) (t : Nat) (parity : Bool) (addr : Nat) (ver : Nat) : (State.supersede s t parity addr ver).fw.svnMin = s.fw.svnMin := by
  unfold State.supersede
  simp only [ite_svnMin, ite_self, State.modRes_svnMin, State.tcount_svnMin]
theorem State.openStripe_svnMin (s : State) (t : Nat) (S : Nat) : (State.openStripe s t S).fw.svnMin = s.fw.svnMin := by
  unfold State.openStripe
  simp only [ite_svnMin, ite_self, State.shadow_svnMin, State.modRes_svnMin]
theorem State.closeStripe_svnMin (s : State) (t : Nat) (S : Nat) : (State.closeStripe s t S).fw.svnMin = s.fw.svnMin := by
  unfold State.closeStripe
  simp only [ite_svnMin, ite_self, State.shadow_svnMin, State.modRes_svnMin]
theorem State.update_svnMin (s : State) (t : Nat) (u : Update) : (State.update s t u).fw.svnMin = s.fw.svnMin := by
  unfold State.update
  (try simp only []); (repeat' (first | with_reducible rfl | (simp only [ite_svnMin, ite_self, State.modRes_svnMin, State.openStripe_svnMin, State.supersede_svnMin, State.queueStroke_svnMin]; done) | (apply each_svnMin; intro _ _) | (rw [each_svnMin] <;> (try intro _ _)) | split))
theorem State.shadowLine_svnMin (s : State) (t : Nat) (lla : Nat) : (State.shadowLine s t lla).fw.svnMin = s.fw.svnMin := by
  unfold State.shadowLine
  simp only [State.shadow_svnMin]
theorem State.unshadowLine_svnMin (s : State) (t : Nat) (lla : Nat) : (State.unshadowLine s t lla).fw.svnMin = s.fw.svnMin := by
  unfold State.unshadowLine
  simp only [State.shadow_svnMin]
theorem State.lineLanded_svnMin (s : State) (t : Nat) (owner : Nat) (lla : Nat) : (State.lineLanded s t owner lla).fw.svnMin = s.fw.svnMin := by
  unfold State.lineLanded
  (try simp only []); (repeat' (first | with_reducible rfl | (simp only [ite_svnMin, ite_self, State.shadowFor_svnMin, State.modRes_svnMin]; done) | (apply each_svnMin; intro _ _) | (rw [each_svnMin] <;> (try intro _ _)) | split))
theorem State.forgetClean_svnMin (s : State) (t : Nat) (lla : Nat) : (State.forgetClean s t lla).fw.svnMin = s.fw.svnMin := by
  unfold State.forgetClean
  simp only [State.modRes_svnMin]
theorem State.completeEvicts_svnMin (s : State) (t : Nat) : (State.completeEvicts s t).fw.svnMin = s.fw.svnMin := by
  unfold State.completeEvicts
  (try simp only []); (repeat' (first | with_reducible rfl | (simp only [ite_svnMin, ite_self, State.modRes_svnMin, State.lineLanded_svnMin, State.forgetClean_svnMin, State.closeStripe_svnMin]; done) | (apply each_svnMin; intro _ _)))
theorem State.repairMember_svnMin (s : State) (t : Nat) (part : Nat) (lseg : Nat) (st : Nat) (pos : Nat) (c : Copy) (d : Line) (prio : Nat) : (State.repairMember s t part lseg st pos c d prio).fw.svnMin = s.fw.svnMin := by
  unfold State.repairMember
  (try simp only [ite_svnMin]); (repeat' (first | with_reducible rfl | (simp only [ite_svnMin, ite_self, State.tcount_svnMin, State.queueStroke_svnMin, State.modRes_svnMin, State.shadowLine_svnMin]; done) | (apply each_svnMin; intro _ _) | (rw [each_svnMin] <;> (try intro _ _)) | split))
theorem State.loseLine_svnMin (s : State) (t : Nat) (part : Nat) (lla : Nat) (slot : Nat) (source : Nat) : (State.loseLine s t part lla slot source).fw.svnMin = s.fw.svnMin := by
  unfold State.loseLine
  simp only [State.poisonLine_svnMin, State.tev_svnMin, State.tcount_svnMin]
theorem State.poisonStripe_svnMin (s : State) (t : Nat) (part : Nat) (lseg : Nat) (st : Nat) (c : Copy) (ps : List Nat) (flush : Bool) : (State.poisonStripe s t part lseg st c ps flush).fw.svnMin = s.fw.svnMin := by
  unfold State.poisonStripe
  (try simp only []); (repeat' (first | with_reducible rfl | (simp only [State.queueStroke_svnMin, State.supersede_svnMin, State.modRes_svnMin, State.update_svnMin]; done) | (apply each_svnMin; intro _ _) | (rw [each_svnMin] <;> (try intro _ _)) | split))
theorem State.makeLost_svnMin (s : State) (t : Nat) (part : Nat) (lla : Nat) (source : Nat) (flush : Bool) : (State.makeLost s t part lla source flush).fw.svnMin = s.fw.svnMin := by
  unfold State.makeLost
  (try simp only []); (repeat' (first | with_reducible rfl | (simp only [State.forgetClean_svnMin, State.loseLine_svnMin, State.poisonStripe_svnMin]; done) | (apply each_svnMin; intro _ _) | (rw [each_svnMin] <;> (try intro _ _)) | split))
theorem State.evalHealth_svnMin (s : State) : (State.evalHealth s).fw.svnMin = s.fw.svnMin := by
  unfold State.evalHealth
  simp only [ite_svnMin, ite_self, State.alert_svnMin, State.pev_svnMin]
theorem State.xlateBit_svnMin (s : State) (t : Nat) (b : Nat) : (State.xlateBit s t b).fw.svnMin = s.fw.svnMin := by
  unfold State.xlateBit
  simp only [State.raise_svnMin]
theorem State.noteSpares_svnMin (s : State) (t : Nat) (before : Nat) : (State.noteSpares s t before).fw.svnMin = s.fw.svnMin := by
  unfold State.noteSpares
  simp only [ite_svnMin, ite_self, State.tev_svnMin, State.xlateBit_svnMin, State.evalHealth_svnMin]
theorem State.beginEvacuation_svnMin (s : State) (t : Nat) (b : Nat) : (State.beginEvacuation s t b).fw.svnMin = s.fw.svnMin := by
  unfold State.beginEvacuation
  simp only [ite_svnMin, ite_self, State.tev_svnMin, State.modMap_svnMin, State.noteSpares_svnMin, State.pageCommit_svnMin]
theorem State.failDie_svnMin (s : State) (t : Nat) (d : Nat) : (State.failDie s t d).fw.svnMin = s.fw.svnMin := by
  unfold State.failDie
  simp only [ite_svnMin, ite_self, State.tev_svnMin, State.modMed_svnMin, State.degrade_svnMin, State.evalHealth_svnMin]
theorem State.failBank_svnMin (s : State) (t : Nat) (b : Nat) : (State.failBank s t b).fw.svnMin = s.fw.svnMin := by
  unfold State.failBank
  simp only [ite_svnMin, ite_self, State.tev_svnMin, State.modMed_svnMin, State.evalHealth_svnMin, State.beginEvacuation_svnMin, State.degrade_svnMin, State.failDie_svnMin]
theorem State.noteRead_svnMin (s : State) (t : Nat) (slot : Nat) (erased : Bool) : (State.noteRead s t slot erased).fw.svnMin = s.fw.svnMin := by
  unfold State.noteRead
  simp only [ite_svnMin, ite_self, State.modMed_svnMin, State.failBank_svnMin]
theorem State.noteVerifyFail_svnMin (s : State) (t : Nat) (slot : Nat) : (State.noteVerifyFail s t slot).fw.svnMin = s.fw.svnMin := by
  unfold State.noteVerifyFail
  simp only [ite_svnMin, ite_self, State.modMed_svnMin, State.failBank_svnMin]
theorem State.noteAnswer_svnMin (s : State) (t die : Nat) (mute : Bool) : (State.noteAnswer s t die mute).fw.svnMin = s.fw.svnMin := by
  unfold State.noteAnswer
  simp only [ite_svnMin, ite_self, State.modMed_svnMin, State.failDie_svnMin]
theorem State.arrive_svnMin (s : State) (r : Req) (d : Line) (poison : Bool) (cause : Nat) : (State.arrive s r d poison cause).fw.svnMin = s.fw.svnMin := by
  unfold State.arrive
  simp only [State.modQueue_svnMin]
theorem State.ackWrite_svnMin (s : State) (t : Nat) (r : Req) : (State.ackWrite s t r).fw.svnMin = s.fw.svnMin := by
  unfold State.ackWrite
  (repeat' split) <;> simp only [State.leaveIngress_svnMin, State.modRd_svnMin, State.respondMem_svnMin, State.arrive_svnMin]
theorem State.accepted_svnMin (s : State) (t : Nat) (r : Req) (new : Req) (created : Bool) : (State.accepted s t r new created).fw.svnMin = s.fw.svnMin := by
  unfold State.accepted
  simp only [ite_svnMin, ite_self, State.modRes_svnMin, State.tcount_svnMin, State.ackWrite_svnMin]
theorem State.shadowWrite_svnMin (s : State) (t : Nat) (owner : Nat) (lla : Nat) : (State.shadowWrite s t owner lla).fw.svnMin = s.fw.svnMin := by
  unfold State.shadowWrite
  simp only [State.shadowFor_svnMin]
theorem State.countMerge_svnMin (s : State) (t : Nat) (e : Entry) (full : Bool) : (State.countMerge s t e full).fw.svnMin = s.fw.svnMin := by
  unfold State.countMerge
  simp only [ite_svnMin, ite_self, State.tcount_svnMin]
theorem State.poisonWritten_svnMin (s : State) (t : Nat) (r : Req) : (State.poisonWritten s t r).fw.svnMin = s.fw.svnMin := by
  unfold State.poisonWritten
  simp only [ite_svnMin, ite_self, State.poisonLine_svnMin, State.raise_svnMin, State.tev_svnMin, State.tcount_svnMin]
theorem State.mergeInto_svnMin (s : State) (t : Nat) (e : Entry) (r : Req) : (State.mergeInto s t e r).fw.svnMin = s.fw.svnMin := by
  unfold State.mergeInto
  simp only [ite_svnMin, ite_self, State.modRes_svnMin, State.shadowWrite_svnMin, State.poisonWritten_svnMin, State.noteGate_svnMin, State.accepted_svnMin, State.countMerge_svnMin]
theorem State.mergeNew_svnMin (s : State) (t : Nat) (r : Req) : (State.mergeNew s t r).fw.svnMin = s.fw.svnMin := by
  unfold State.mergeNew
  simp only [ite_svnMin, ite_self, State.modRes_svnMin, State.tcount_svnMin, State.shadowWrite_svnMin, State.poisonWritten_svnMin, State.noteGate_svnMin, State.accepted_svnMin]
theorem State.atomicInto_svnMin (s : State) (t : Nat) (e : Entry) (r : Req) : (State.atomicInto s t e r).fw.svnMin = s.fw.svnMin := by
  unfold State.atomicInto
  simp only [ite_svnMin, ite_self, State.modRes_svnMin, State.shadowWrite_svnMin, State.noteGate_svnMin, State.accepted_svnMin, State.countMerge_svnMin, State.tcount_svnMin]
theorem State.checkBound_svnMin (s : State) (r : Req) (path : Nat) (slot : Nat) (hops : Nat) : (State.checkBound s r path slot hops).fw.svnMin = s.fw.svnMin := by
  unfold State.checkBound
  simp only [ite_svnMin, ite_self, State.degrade_svnMin, State.tev_svnMin, State.raise_svnMin]
theorem State.answerViolation_svnMin (s : State) (r : Req) (cause : Nat) : (State.answerViolation s r cause).fw.svnMin = s.fw.svnMin := by
  unfold State.answerViolation
  (repeat' split) <;> simp only [State.respondMem_svnMin, State.arrive_svnMin]
theorem State.violateAt_svnMin (s : State) (t : Nat) (r : Req) (cause : Nat) : (State.violateAt s t r cause).fw.svnMin = s.fw.svnMin := by
  unfold State.violateAt
  simp only [State.leaveIngress_svnMin, State.modRd_svnMin, State.answerViolation_svnMin, State.violateReq_svnMin]
theorem State.countPath_svnMin (s : State) (t : Nat) (path : Nat) : (State.countPath s t path).fw.svnMin = s.fw.svnMin := by
  unfold State.countPath
  (repeat' split) <;> simp only [State.tcount_svnMin]
theorem State.answerRead_svnMin (s : State) (t : Nat) (r : Req) (path : Nat) (slot : Nat) (hops : Nat) (d : Line) (poison : Bool) : (State.answerRead s t r path slot hops d poison).fw.svnMin = s.fw.svnMin := by
  unfold State.answerRead
  (repeat' split) <;> simp only [State.modRd_svnMin, State.leaveIngress_svnMin, State.checkBound_svnMin, State.countPath_svnMin, State.respondMem_svnMin, State.arrive_svnMin]
theorem State.fillRead_svnMin (s : State) (t : Nat) (r : Req) (d : Line) (blank : Bool) : (State.fillRead s t r d blank).fw.svnMin = s.fw.svnMin := by
  unfold State.fillRead
  simp only [State.modRes_svnMin]
theorem State.readLine_svnMin (s : State) (t : Nat) (why : RdFor) (req : Req) (kind : EKind) (part : Nat) (lla : Nat) (link : Nat) (hops : Nat) (pred : Nat) : (State.readLine s t why req kind part lla link hops pred).1.fw.svnMin = s.fw.svnMin := by
  unfold State.readLine
  (try simp only []); (repeat' (first | with_reducible rfl | (simp only [State.modRd_svnMin, State.startRead_svnMin]; done) | (apply each_svnMin; intro _ _) | (rw [each_svnMin] <;> (try intro _ _)) | split))
theorem State.fetchMeta_svnMin (s : State) (owner : Nat) (part : Nat) (xs : List MetaLine) : (State.fetchMeta s owner part xs).fw.svnMin = s.fw.svnMin := by
  unfold State.fetchMeta
  (try simp only []); (repeat' (first | with_reducible rfl | (simp only [ite_svnMin, ite_self, State.tcount_svnMin, State.readLine_svnMin, State.modRd_svnMin]; done) | (apply each_svnMin; intro _ _)))
theorem State.retireRd_svnMin (s : State) (t : Nat) (id : Nat) : (State.retireRd s t id).fw.svnMin = s.fw.svnMin := by
  unfold State.retireRd
  simp only [ite_svnMin, ite_self, State.modRd_svnMin]
theorem State.finishAtomic_svnMin (s : State) (t : Nat) (r : Req) (d : Line) (lost : Bool) : (State.finishAtomic s t r d lost).fw.svnMin = s.fw.svnMin := by
  unfold State.finishAtomic
  (try simp only [ite_svnMin, State.violateAt_svnMin]); (repeat' (first | with_reducible rfl | (simp only [ite_svnMin, ite_self, State.modRes_svnMin, State.atomicInto_svnMin]; done) | (apply each_svnMin; intro _ _) | (rw [each_svnMin] <;> (try intro _ _)) | split))
theorem State.finishHost_svnMin (s : State) (t : Nat) (rd : Rd) (d : Line) (blank : Bool) (poison : Bool) : (State.finishHost s t rd d blank poison).fw.svnMin = s.fw.svnMin := by
  unfold State.finishHost
  simp only [ite_svnMin, ite_self, State.modRd_svnMin, State.fillRead_svnMin, State.tcount_svnMin, State.retireRd_svnMin, State.finishAtomic_svnMin, State.answerRead_svnMin]
theorem State.integrityFail_svnMin (s : State) (t : Nat) (rd : Rd) : (State.integrityFail s t rd).fw.svnMin = s.fw.svnMin := by
  unfold State.integrityFail
  simp only [ite_svnMin, ite_self, State.tcount_svnMin, State.modRd_svnMin, State.tev_svnMin, State.raise_svnMin, State.makeLost_svnMin, State.finishHost_svnMin]
theorem State.deliver_svnMin (s : State) (t : Nat) (id : Nat) (d : Line) (lost : Bool) : (State.deliver s t id d lost).fw.svnMin = s.fw.svnMin := by
  unfold State.deliver
  (try simp only []); (repeat' (first | with_reducible rfl | (simp only [ite_svnMin, ite_self, State.retireRd_svnMin, State.tcount_svnMin, State.modRd_svnMin, State.modRes_svnMin, State.integrityFail_svnMin, State.finishHost_svnMin]; done) | (apply each_svnMin; intro _ _) | (rw [each_svnMin] <;> (try intro _ _)) | split))
theorem State.retryAwaiting_svnMin (s : State) (t : Nat) : (State.retryAwaiting s t).fw.svnMin = s.fw.svnMin := by
  unfold State.retryAwaiting
  (try simp only [each_svnMin, foldl_svnMin, when_svnMin, ite_svnMin, ite_fst_svnMin, ite_result_svnMin, ite_mbEnd_svnMin, ite_self, State.deliver_svnMin]); (repeat' (first | with_reducible rfl | (simp only [State.deliver_svnMin]; done) | (apply each_svnMin; intro _ _)))
theorem State.hit_svnMin (s : State) (t : Nat) (r : Req) (e : Entry) : (State.hit s t r e).fw.svnMin = s.fw.svnMin := by
  unfold State.hit
  simp only [ite_svnMin, ite_self, State.giveNibs_svnMin, State.modRes_svnMin, State.tcount_svnMin, State.answerRead_svnMin]
theorem State.lookupRead_svnMin (s : State) (t : Nat) (r : Req) (pred : Nat) : (State.lookupRead s t r pred).fw.svnMin = s.fw.svnMin := by
  unfold State.lookupRead
  (try simp only []); (repeat' (first | with_reducible rfl | (simp only [ite_svnMin, ite_self, State.hit_svnMin, State.tcount_svnMin, State.answerRead_svnMin, State.giveNibs_svnMin, State.modRd_svnMin, State.fetchMeta_svnMin, State.giveOtherNib_svnMin, State.startRead_svnMin]; done) | (apply each_svnMin; intro _ _) | (rw [each_svnMin] <;> (try intro _ _)) | split))
theorem State.startFetch_svnMin (s : State) (t : Nat) (r : Req) (entry : Nat) (pred : Nat) : (State.startFetch s t r entry pred).fw.svnMin = s.fw.svnMin := by
  unfold State.startFetch
  (try simp only [ite_svnMin, State.tcount_svnMin, State.modRd_svnMin, State.giveNibs_svnMin]); (repeat' (first | with_reducible rfl | (simp only [State.tcount_svnMin, State.giveNibs_svnMin, State.readLine_svnMin, State.startRead_svnMin, State.giveOtherNib_svnMin]; done) | (apply each_svnMin; intro _ _) | (rw [each_svnMin] <;> (try intro _ _)) | split))
theorem State.placePartial_svnMin (s : State) (t : Nat) (r : Req) (mask : ByteMask) (foreign : Bool) : (State.placePartial s t r mask foreign).1.fw.svnMin = s.fw.svnMin := by
  unfold State.placePartial
  simp only [ite_svnMin, ite_self, State.modRes_svnMin, State.tcount_svnMin, State.shadowWrite_svnMin]
theorem State.partialNew_svnMin (s : State) (t : Nat) (r : Req) (pred : Nat) : (State.partialNew s t r pred).fw.svnMin = s.fw.svnMin := by
  unfold State.partialNew
  simp only [ite_svnMin, ite_self, State.placePartial_svnMin, State.startFetch_svnMin, State.tcount_svnMin, State.fetchMeta_svnMin, State.noteGate_svnMin, State.accepted_svnMin]
theorem State.foreignPartial_svnMin (s : State) (t : Nat) (e : Entry) (r : Req) : (State.foreignPartial s t e r).fw.svnMin = s.fw.svnMin := by
  unfold State.foreignPartial
  simp only [ite_svnMin, ite_self, State.placePartial_svnMin, State.tcount_svnMin, State.modRd_svnMin, State.modRes_svnMin, State.noteGate_svnMin, State.accepted_svnMin]
theorem State.lookupWrite_svnMin (s : State) (t : Nat) (r0 : Req) (pred : Nat) : (State.lookupWrite s t r0 pred).fw.svnMin = s.fw.svnMin := by
  unfold State.lookupWrite
  (try simp only [ite_svnMin, State.violateAt_svnMin, State.giveNibs_svnMin]); (repeat' (first | with_reducible rfl | (simp only [ite_svnMin, ite_self, State.giveNibs_svnMin, State.foreignPartial_svnMin, State.tcount_svnMin, State.modRes_svnMin, State.atomicInto_svnMin, State.mergeInto_svnMin, State.lookupRead_svnMin, State.mergeNew_svnMin, State.partialNew_svnMin]; done) | (apply each_svnMin; intro _ _) | (rw [each_svnMin] <;> (try intro _ _)) | split))
theorem State.servePartial_svnMin (s : State) (t : Nat) (w : PartialWait) (fetched : Line) (lost : Bool) : (State.servePartial s t w fetched lost).fw.svnMin = s.fw.svnMin := by
  unfold State.servePartial
  (repeat' split) <;> simp only [State.violateAt_svnMin, State.atomicInto_svnMin, State.answerRead_svnMin]
theorem State.mergeFetch_svnMin (s : State) (t : Nat) (rd : Rd) : (s.mergeFetch t rd).fw.svnMin = s.fw.svnMin := by
  unfold State.mergeFetch
  simp only []
  split
  · simp only [State.modRd_svnMin, State.modRes_svnMin]
  · split
    · simp only [State.modRd_svnMin, State.modRes_svnMin, State.shadowFor_svnMin]
      rw [each_svnMin]
      · simp only [State.tev_svnMin, State.poisonLine_svnMin]
      · intro s w; simp only [State.servePartial_svnMin]
    · simp only [State.modRd_svnMin, State.modRes_svnMin]
      rw [each_svnMin]
      · simp only [State.modRes_svnMin, ite_svnMin, ite_self]
      · intro s w; simp only [State.servePartial_svnMin]
theorem State.lookup_svnMin (s : State) (t : Nat) (r : Req) (pred : Nat) : (State.lookup s t r pred).fw.svnMin = s.fw.svnMin := by
  unfold State.lookup
  simp only [ite_svnMin, ite_self, State.noteGate_svnMin, State.lookupWrite_svnMin, State.lookupRead_svnMin]
theorem State.refuse_svnMin (s : State) (r : Req) (cause : Nat) (dpa : Nat) (quantity : Nat) : (State.refuse s r cause dpa quantity).fw.svnMin = s.fw.svnMin := by
  unfold State.refuse
  simp only [State.answerViolation_svnMin, State.tcount_svnMin, State.violate_svnMin]
theorem State.offer_svnMin (s : State) (r : Req) (pred : Nat) : (State.offer s r pred).fw.svnMin = s.fw.svnMin := by
  unfold State.offer
  (try simp only []); (repeat' (first | with_reducible rfl | (simp only [ite_svnMin, ite_self, State.refuse_svnMin, State.admitFeed_svnMin, State.lookup_svnMin, State.hold_svnMin]; done) | (apply each_svnMin; intro _ _) | (rw [each_svnMin] <;> (try intro _ _)) | split))
theorem State.decodeFlit_svnMin (s : State) (f : Flit) (pred : Nat) : (State.decodeFlit s f pred).fw.svnMin = s.fw.svnMin := by
  unfold State.decodeFlit
  (repeat' split) <;> simp only [State.tcount_svnMin, State.modPort_svnMin, State.refuse_svnMin, State.offer_svnMin]
theorem State.freshSeq_svnMin (s : State) (t : Nat) : (State.freshSeq s t).1.fw.svnMin = s.fw.svnMin := by
  unfold State.freshSeq
  simp only [ite_svnMin, ite_self, State.modPs_svnMin, State.modMap_svnMin]
theorem State.residueSeq_svnMin (s : State) (t : Nat) (omega : Nat) : (State.residueSeq s t omega).1.fw.svnMin = s.fw.svnMin := by
  unfold State.residueSeq
  simp only [State.freshSeq_svnMin, State.modMap_svnMin]
theorem State.writeHeader_svnMin (s : State) (t : Nat) (p : Nat) (h : Header) : (State.writeHeader s t p h).fw.svnMin = s.fw.svnMin := by
  unfold State.writeHeader
  simp only [State.modMap_svnMin, State.modMed_svnMin, State.headerTransfers_svnMin]
theorem State.blank_svnMin (s : State) (t : Nat) (p : Nat) : (State.blank s t p).fw.svnMin = s.fw.svnMin := by
  unfold State.blank
  simp only [State.allNibs_svnMin, State.modMed_svnMin, State.modMap_svnMin, State.tcount_svnMin, State.writeHeader_svnMin]
theorem State.forgetParity_svnMin (s : State) (t : Nat) (p : Nat) : (State.forgetParity s t p).fw.svnMin = s.fw.svnMin := by
  unfold State.forgetParity
  simp only [State.modRes_svnMin]
theorem State.retire_svnMin (s : State) (t : Nat) (p : Nat) (reason : Nat) : (State.retire s t p reason).fw.svnMin = s.fw.svnMin := by
  unfold State.retire
  simp only [State.writeHeader_svnMin, State.modMap_svnMin, State.tev_svnMin, State.modMed_svnMin, State.forgetParity_svnMin]
theorem State.release_svnMin (s : State) (t : Nat) (p : Nat) : (State.release s t p).fw.svnMin = s.fw.svnMin := by
  unfold State.release
  simp only [State.writeHeader_svnMin, State.modMap_svnMin, State.forgetParity_svnMin]
theorem State.trigger_svnMin (s : State) (t : Nat) (lseg : Nat) (reason : Nat) : (State.trigger s t lseg reason).fw.svnMin = s.fw.svnMin := by
  unfold State.trigger
  simp only [State.modMap_svnMin]
theorem State.abandonMigration_svnMin (s : State) (t : Nat) (lseg : Nat) (cause : Nat) : (State.abandonMigration s t lseg cause).fw.svnMin = s.fw.svnMin := by
  unfold State.abandonMigration
  (repeat' split) <;> simp only [State.modMap_svnMin, State.modRes_svnMin, State.tev_svnMin, State.trigger_svnMin, State.retire_svnMin, State.noteSpares_svnMin, State.completeEvicts_svnMin]
theorem State.startEvict_svnMin (s : State) (t : Nat) (e : Entry) (pred : Nat) : (State.startEvict s t e pred).fw.svnMin = s.fw.svnMin := by
  unfold State.startEvict
  (try simp only [ite_svnMin, State.modRes_svnMin, State.modRd_svnMin]); (repeat' (first | with_reducible rfl | (simp only [ite_svnMin, ite_self, State.modRes_svnMin, State.modRd_svnMin, State.tcount_svnMin, State.startRead_svnMin]; done) | (apply each_svnMin; intro _ _) | (rw [each_svnMin] <;> (try intro _ _)) | split))
theorem State.startPair_svnMin (s : State) (t : Nat) (e : Entry) (pred : Nat) : (State.startPair s t e pred).fw.svnMin = s.fw.svnMin := by
  unfold State.startPair
  (try simp only []); (repeat' (first | with_reducible rfl | (simp only [ite_svnMin, ite_self, State.startEvict_svnMin]; done) | (apply each_svnMin; intro _ _) | (rw [each_svnMin] <;> (try intro _ _)) | split))
theorem State.form_svnMin (s : State) (t : Nat) (f : Form) : (State.form s t f).fw.svnMin = s.fw.svnMin := by
  unfold State.form
  (try simp only [ite_svnMin, ite_self, State.ringSend_svnMin, State.modRes_svnMin, State.modFence_svnMin]); (repeat' (first | with_reducible rfl | (simp only [ite_svnMin, ite_self, State.ringSend_svnMin, State.modRes_svnMin, State.update_svnMin, State.tcount_svnMin]; done) | (apply each_svnMin; intro _ _) | (rw [each_svnMin] <;> (try intro _ _)) | split))
theorem State.dirtyMeta_svnMin (s : State) (owner : Nat) (part : Nat) (x : MetaLine) (d : Line) : (State.dirtyMeta s owner part x d).fw.svnMin = s.fw.svnMin := by
  unfold State.dirtyMeta
  (try simp only []); (repeat' (first | with_reducible rfl | (simp only [ite_svnMin, ite_self, State.shadowFor_svnMin, State.modRes_svnMin]; done) | (apply each_svnMin; intro _ _) | (rw [each_svnMin] <;> (try intro _ _)) | split))
theorem State.dirtyCounter_svnMin (s : State) (owner : Nat) (part : Nat) (level : Nat) (index : Nat) (d : Line) : (State.dirtyCounter s owner part level index d).fw.svnMin = s.fw.svnMin := by
  unfold State.dirtyCounter
  simp only [ite_svnMin, ite_self, State.dirtyMeta_svnMin]
theorem State.setParent_svnMin (s : State) (owner : Nat) (part : Nat) (p : Option (Nat × Nat)) (d : Line) : (State.setParent s owner part p d).fw.svnMin = s.fw.svnMin := by
  unfold State.setParent
  (repeat' split) <;> simp only [State.modSeal_svnMin, State.dirtyCounter_svnMin]
theorem State.placeRepad_svnMin (s : State) (owner : Nat) (part : Nat) (kind : EKind) (lla : Nat) (old : Line) (new : Line) : (State.placeRepad s owner part kind lla old new).fw.svnMin = s.fw.svnMin := by
  unfold State.placeRepad
  (try simp only [State.shadowFor_svnMin, State.form_svnMin]); (repeat' (first | with_reducible rfl | (simp only [State.modRes_svnMin]; done) | (apply each_svnMin; intro _ _) | (rw [each_svnMin] <;> (try intro _ _)) | split))
theorem State.unverifiable_svnMin (s : State) (owner : Nat) (part : Nat) (level : Nat) (index : Nat) : (State.unverifiable s owner part level index).fw.svnMin = s.fw.svnMin := by
  unfold State.unverifiable
  (repeat' (first | with_reducible rfl | (simp only [implies_true, each_svnMin, ite_svnMin, ite_self, State.makeLost_svnMin, State.poisonLine_svnMin, State.freshSeq_svnMin, State.dirtyCounter_svnMin, State.tev_svnMin, State.raise_svnMin]; done)))
theorem State.integrityLost_svnMin (s : State) (owner part lla : Nat) : (s.integrityLost owner part lla).fw.svnMin = s.fw.svnMin := by
  unfold State.integrityLost
  simp only [ite_svnMin, ite_self, State.makeLost_svnMin, State.poisonLine_svnMin, State.tev_svnMin, State.raise_svnMin]
theorem State.noteMended_svnMin (s : State) (owner lla version : Nat) : (s.noteMended owner lla version).fw.svnMin = s.fw.svnMin := by
  unfold State.noteMended
  simp only [ite_svnMin, ite_self, State.tev_svnMin, State.tcount_svnMin]
theorem State.repadChild_svnMin (s : State) (owner : Nat) (part : Nat) (x : Option (Nat × Nat)) (j : Nat) (old : Line) (new : Line) : (State.repadChild s owner part x j old new).1.fw.svnMin = s.fw.svnMin := by
  unfold State.repadChild
  (try simp only [ite_fst_svnMin]); (repeat' (first | with_reducible rfl | (simp only [State.integrityLost_svnMin, State.unverifiable_svnMin, State.noteMended_svnMin, State.tcount_svnMin, State.dirtyMeta_svnMin, State.placeRepad_svnMin]; done) | (apply each_svnMin; intro _ _) | (rw [each_svnMin] <;> (try intro _ _)) | split))
theorem State.formEvict_svnMin (s : State) (t : Nat) (ev : Evict) (e : Entry) (new : Line) (lost : Bool) : (State.formEvict s t ev e new lost).fw.svnMin = s.fw.svnMin := by
  unfold State.formEvict
  simp only [ite_svnMin, ite_self, State.modRd_svnMin, State.modRes_svnMin, State.form_svnMin, State.tcount_svnMin, State.completeEvicts_svnMin]
theorem State.dropEvict_svnMin (s : State) (t : Nat) (ev : Evict) : (State.dropEvict s t ev).fw.svnMin = s.fw.svnMin := by
  unfold State.dropEvict
  simp only [State.modRd_svnMin, State.modRes_svnMin]
theorem State.overflow_svnMin (s : State) (o p : Nat) (x : Option (Nat × Nat)) (j : Nat) (d : Line) (s1 : State) (h : s.overflow o p x j d = some s1) : s1.fw.svnMin = s.fw.svnMin := by
  unfold State.overflow at h
  simp only [] at h
  split at h
  · cases h
  · injection h with h
    subst h
    simp only [State.tev_svnMin, State.tcount_svnMin]
    rw [foldl1_svnMin]
    · simp only [State.setParent_svnMin]
    · intro y i; simp only [State.repadChild_svnMin]
theorem State.raiseMinor_svnMin (s : State) (o p : Nat) (x : Option (Nat × Nat)) (j : Nat) (r : State × (Nat × Nat)) (h : s.raiseMinor o p x j = some r) : r.1.fw.svnMin = s.fw.svnMin := by
  unfold State.raiseMinor at h
  split at h
  · cases h
  · simp only [] at h
    split at h
    · rw [Option.map_eq_some_iff] at h
      obtain ⟨s1, h1, rfl⟩ := h
      exact State.overflow_svnMin _ _ _ _ _ _ _ h1
    · injection h with h
      subst h
      simp only [State.setParent_svnMin]
theorem State.pointSealed_svnMin (s : State) (t : Nat) (ev : Evict) (e : Entry) : (s.pointSealed t ev e).fw.svnMin = s.fw.svnMin := by
  unfold State.pointSealed
  simp only []
  split
  · simp only [State.fetchMeta_svnMin]
  · split
    · rfl
    · rename_i h
      simp only [State.formEvict_svnMin, State.dirtyMeta_svnMin]
      exact State.raiseMinor_svnMin _ _ _ _ _ _ h
theorem State.pointCounter_svnMin (s : State) (t : Nat) (ev : Evict) (e : Entry) (l i c : Nat) : (s.pointCounter t ev e l i c).fw.svnMin = s.fw.svnMin := by
  unfold State.pointCounter
  simp only []
  repeat' split
  all_goals first
    | with_reducible rfl
    | simp only [State.fetchMeta_svnMin]
    | (simp only [State.formEvict_svnMin, State.modRes_svnMin]; exact State.raiseMinor_svnMin _ _ _ _ _ _ ‹_›)
theorem State.evictPoint_svnMin (s : State) (t : Nat) (ev : Evict) : (State.evictPoint s t ev).fw.svnMin = s.fw.svnMin := by
  unfold State.evictPoint
  (try simp only []); (repeat' (first | with_reducible rfl | (simp only [ite_svnMin, ite_self, State.dropEvict_svnMin, State.formEvict_svnMin, State.pointSealed_svnMin, State.pointCounter_svnMin]; done) | (apply each_svnMin; intro _ _) | (rw [each_svnMin] <;> (try intro _ _)) | split))
theorem State.fillMeta_svnMin (s : State) (owner : Nat) (part : Nat) (lla : Nat) (d : Line) : (State.fillMeta s owner part lla d).fw.svnMin = s.fw.svnMin := by
  unfold State.fillMeta
  simp only [State.modRes_svnMin]
theorem State.repairLine_svnMin (s : State) (t : Nat) (part : Nat) (lla : Nat) (d : Line) : (State.repairLine s t part lla d).fw.svnMin = s.fw.svnMin := by
  unfold State.repairLine
  (try simp only []); (repeat' (first | with_reducible rfl | (simp only [State.repairMember_svnMin]; done) | (apply each_svnMin; intro _ _) | (rw [each_svnMin] <;> (try intro _ _)) | split))
theorem State.counterFailed_svnMin (s : State) (owner : Nat) (part : Nat) (level : Nat) (index : Nat) (copy : Nat) (ctr : Nat × Nat) : (State.counterFailed s owner part level index copy ctr).fw.svnMin = s.fw.svnMin := by
  unfold State.counterFailed
  (try simp only []); (repeat' (first | with_reducible rfl | (simp only [ite_svnMin, ite_self, State.tcount_svnMin, State.repairLine_svnMin, State.tev_svnMin, State.fillMeta_svnMin, State.unverifiable_svnMin]; done) | (apply each_svnMin; intro _ _) | (rw [each_svnMin] <;> (try intro _ _)) | split))
theorem execMetaFetchDone_svnMin (t : Nat) (rd : Nat) (s : State) : ∃ u, execMetaFetchDone t rd s = .next u ∧ u.fw.svnMin = s.fw.svnMin := by
  unfold execMetaFetchDone
  refine ⟨_, rfl, ?_⟩
  try simp only []
  (repeat' (first | with_reducible rfl | (simp only [ite_svnMin, ite_self, State.retryAwaiting_svnMin, State.modRd_svnMin, State.fillMeta_svnMin, State.tcount_svnMin, State.counterFailed_svnMin]; done) | (apply each_svnMin; intro _ _) | (rw [each_svnMin] <;> (try intro _ _)) | split))
theorem State.metaEntryLost_svnMin (s : State) (t : Nat) (e : Entry) : (s.metaEntryLost t e).fw.svnMin = s.fw.svnMin := by
  unfold State.metaEntryLost
  simp only []
  split
  · rfl
  · simp only [State.tev_svnMin, ite_svnMin, State.raise_svnMin, State.modRes_svnMin, ite_self]
    apply each_svnMin
    intro s n
    simp only [State.makeLost_svnMin]
  · split
    · split <;> simp only [State.modRes_svnMin, State.unverifiable_svnMin]
    · simp only [State.unverifiable_svnMin]
theorem State.poisonEntry_svnMin (s : State) (t : Nat) (e : Entry) : (State.poisonEntry s t e).fw.svnMin = s.fw.svnMin := by
  unfold State.poisonEntry
  simp only [State.poisonLine_svnMin, State.modRes_svnMin, State.tev_svnMin, State.tcount_svnMin, State.raise_svnMin]
theorem State.entryFault_svnMin (s : State) (t : Nat) (e : Entry) : (State.entryFault s t e).fw.svnMin = s.fw.svnMin := by
  unfold State.entryFault
  (repeat' split) <;> simp only [State.groupReads_svnMin, State.modRes_svnMin, State.metaEntryLost_svnMin, State.poisonEntry_svnMin, State.tev_svnMin]
theorem State.tagFault_svnMin (s : State) (t : Nat) (e : Entry) : (State.tagFault s t e).fw.svnMin = s.fw.svnMin := by
  unfold State.tagFault
  (try simp only [ite_svnMin, ite_self, State.raise_svnMin, State.tev_svnMin]); (repeat' (first | with_reducible rfl | (simp only [ite_svnMin, ite_self, State.makeLost_svnMin, State.poisonLine_svnMin, State.shadowFor_svnMin]; done) | (apply each_svnMin; intro _ _)))
theorem execResEccError_svnMin (t : Nat) (f : ResFault) (s : State) : ∃ u, execResEccError t f s = .next u ∧ u.fw.svnMin = s.fw.svnMin := by
  unfold execResEccError
  refine ⟨_, rfl, ?_⟩
  try simp only []
  (repeat' (first | with_reducible rfl | (simp only [ite_svnMin, State.tev_svnMin, State.raise_svnMin, State.entryFault_svnMin, State.modRes_svnMin, State.tagFault_svnMin]; done) | (apply each_svnMin; intro _ _) | (rw [each_svnMin] <;> (try intro _ _)) | split))
theorem State.mergeMirror_svnMin (s : State) (m : Nat) (r : Req) : (State.mergeMirror s m r).fw.svnMin = s.fw.svnMin := by
  unfold State.mergeMirror
  (repeat' split) <;> simp only [State.modRes_svnMin]
theorem execMirrorMessage_svnMin (t : Nat) (s : State) : ∃ u, execMirrorMessage t s = .next u ∧ u.fw.svnMin = s.fw.svnMin := by
  unfold execMirrorMessage
  refine ⟨_, rfl, ?_⟩
  try simp only []
  (repeat' (first | with_reducible rfl | (simp only [ite_svnMin, ite_self, State.noteGate_svnMin, State.ringSend_svnMin, State.mergeMirror_svnMin, State.modRes_svnMin]; done) | (apply each_svnMin; intro _ _) | (rw [each_svnMin] <;> (try intro _ _)) | split))
theorem execMirrorAck_svnMin (t : Nat) (s : State) : ∃ u, execMirrorAck t s = .next u ∧ u.fw.svnMin = s.fw.svnMin := by
  unfold execMirrorAck
  refine ⟨_, rfl, ?_⟩
  try simp only []
  (repeat' (first | with_reducible rfl | (simp only [ite_svnMin, ite_self, State.modRes_svnMin, State.noteGate_svnMin, State.ackWrite_svnMin, State.ringSend_svnMin, State.tcount_svnMin]; done) | (apply each_svnMin; intro _ _) | (rw [each_svnMin] <;> (try intro _ _)) | split))
theorem execMirrorRelease_svnMin (t : Nat) (s : State) : ∃ u, execMirrorRelease t s = .next u ∧ u.fw.svnMin = s.fw.svnMin := by
  unfold execMirrorRelease
  refine ⟨_, rfl, ?_⟩
  try simp only []
  (repeat' (first | with_reducible rfl | (simp only [ite_svnMin, ite_self, State.modRes_svnMin, State.noteGate_svnMin, State.ringSend_svnMin]; done) | (apply each_svnMin; intro _ _) | (rw [each_svnMin] <;> (try intro _ _)) | split))
theorem execEvictionStart_svnMin (t : Nat) (slice : Nat) (pred : Nat) (s : State) : ∃ u, execEvictionStart t slice pred s = .next u ∧ u.fw.svnMin = s.fw.svnMin := by
  unfold execEvictionStart
  refine ⟨_, rfl, ?_⟩
  try simp only []
  (repeat' (first | with_reducible rfl | (simp only [ite_svnMin, ite_self, State.startPair_svnMin]; done) | (apply each_svnMin; intro _ _) | (rw [each_svnMin] <;> (try intro _ _)) | split))
theorem execEvictionPoint_svnMin (t : Nat) (id : Nat) (s : State) : ∃ u, execEvictionPoint t id s = .next u ∧ u.fw.svnMin = s.fw.svnMin := by
  unfold execEvictionPoint
  refine ⟨_, rfl, ?_⟩
  try simp only []
  (repeat' (first | with_reducible rfl | (simp only [State.noteGate_svnMin, State.evictPoint_svnMin]; done) | (apply each_svnMin; intro _ _) | (rw [each_svnMin] <;> (try intro _ _)) | split))
theorem State.mergeDelta_svnMin (s : State) (pt : Nat) (part : Nat) (plla : Nat) (delta : Line) : (State.mergeDelta s pt part plla delta).fw.svnMin = s.fw.svnMin := by
  unfold State.mergeDelta
  (try simp only []); (repeat' (first | with_reducible rfl | (simp only [ite_svnMin, ite_self, State.modRes_svnMin, State.shadowFor_svnMin]; done) | (apply each_svnMin; intro _ _) | (rw [each_svnMin] <;> (try intro _ _)) | split))
theorem execSpanDelta_svnMin (t : Nat) (s : State) : ∃ u, execSpanDelta t s = .next u ∧ u.fw.svnMin = s.fw.svnMin := by
  unfold execSpanDelta
  refine ⟨_, rfl, ?_⟩
  try simp only []
  (repeat' (first | with_reducible rfl | (simp only [ite_svnMin, ite_self, State.modRes_svnMin, State.tcount_svnMin, State.mergeDelta_svnMin, State.modFence_svnMin, State.noteGate_svnMin, State.completeEvicts_svnMin]; done) | (apply each_svnMin; intro _ _) | (rw [each_svnMin] <;> (try intro _ _)) | split))
theorem State.takeCredit_svnMin (s : State) (t : Nat) (k : Stroke) : (State.takeCredit s t k).fw.svnMin = s.fw.svnMin := by
  unfold State.takeCredit
  simp only [ite_svnMin, ite_self]
theorem State.noteSpare_svnMin (s : State) (t : Nat) (slot : Nat) : (State.noteSpare s t slot).fw.svnMin = s.fw.svnMin := by
  unfold State.noteSpare
  (try simp only [ite_svnMin]); (repeat' (first | with_reducible rfl | (simp only [State.tcount_svnMin, State.modMed_svnMin]; done) | (apply each_svnMin; intro _ _) | (rw [each_svnMin] <;> (try intro _ _)) | split))
theorem State.startStroke_svnMin (s : State) (t : Nat) (k : Stroke) : (State.startStroke s t k).fw.svnMin = s.fw.svnMin := by
  unfold State.startStroke
  simp only [ite_svnMin, ite_self, State.modMed_svnMin, State.modRes_svnMin, State.noteSpare_svnMin, State.tcount_svnMin, State.takeCredit_svnMin]
theorem execStrokeStart_svnMin (t : Nat) (id : Nat) (s : State) : ∃ u, execStrokeStart t id s = .next u ∧ u.fw.svnMin = s.fw.svnMin := by
  unfold execStrokeStart
  refine ⟨_, rfl, ?_⟩
  try simp only []
  (repeat' (first | with_reducible rfl | (simp only [ite_svnMin, ite_self, State.startStroke_svnMin, State.tcount_svnMin, State.modRes_svnMin]; done) | (apply each_svnMin; intro _ _) | (rw [each_svnMin] <;> (try intro _ _)) | split))
theorem State.countWrite_svnMin (s : State) (t : Nat) (lla : Nat) : (State.countWrite s t lla).fw.svnMin = s.fw.svnMin := by
  unfold State.countWrite
  simp only [State.modMap_svnMin]
theorem State.flipApplied_svnMin (s : State) (t : Nat) (k : Stroke) : (State.flipApplied s t k).fw.svnMin = s.fw.svnMin := by
  unfold State.flipApplied
  simp only [ite_svnMin, ite_self, State.modMed_svnMin, State.setCell_svnMin, State.raise_svnMin, State.tev_svnMin]
theorem State.repairLanded_svnMin (s : State) (t : Nat) (k : Stroke) : (State.repairLanded s t k).fw.svnMin = s.fw.svnMin := by
  unfold State.repairLanded
  simp only [ite_svnMin, ite_self, State.lineLanded_svnMin]
theorem execStrokeVerified_svnMin (t : Nat) (id : Nat) (s : State) : ∃ u, execStrokeVerified t id s = .next u ∧ u.fw.svnMin = s.fw.svnMin := by
  unfold execStrokeVerified
  refine ⟨_, rfl, ?_⟩
  try simp only []
  (repeat' (first | with_reducible rfl | (simp only [State.transfer_svnMin, ite_svnMin, ite_self, State.modMed_svnMin, State.noteAnswer_svnMin, State.modRes_svnMin, State.countWrite_svnMin, State.noteGate_svnMin, State.completeEvicts_svnMin, State.strokeLeaves_svnMin, State.repairLanded_svnMin, State.flipApplied_svnMin]; done) | (apply each_svnMin; intro _ _) | (rw [each_svnMin] <;> (try intro _ _)) | split))
theorem State.giveUpStroke_svnMin (s : State) (t : Nat) (k : Stroke) : (State.giveUpStroke s t k).fw.svnMin = s.fw.svnMin := by
  unfold State.giveUpStroke
  simp only [State.modRes_svnMin]
theorem State.pinLine_svnMin (s : State) (t : Nat) (k : Stroke) : (State.pinLine s t k).fw.svnMin = s.fw.svnMin := by
  unfold State.pinLine
  (try simp only [ite_svnMin, State.giveUpStroke_svnMin, State.completeEvicts_svnMin]); (repeat' (first | with_reducible rfl | (simp only [ite_svnMin, ite_self, State.giveUpStroke_svnMin, State.completeEvicts_svnMin, State.shadow_svnMin, State.modRes_svnMin, State.evalHealth_svnMin, State.tev_svnMin, State.xlateBit_svnMin, State.loseLine_svnMin, State.pageCommit_svnMin, State.modPs_svnMin]; done) | (apply each_svnMin; intro _ _) | (rw [each_svnMin] <;> (try intro _ _)) | split))
theorem State.remapFull_svnMin (s : State) (t : Nat) (k : Stroke) : (State.remapFull s t k).fw.svnMin = s.fw.svnMin := by
  unfold State.remapFull
  (repeat' split) <;> simp only [ite_svnMin, ite_self, State.tev_svnMin, State.giveUpStroke_svnMin, State.abandonMigration_svnMin, State.completeEvicts_svnMin, State.trigger_svnMin, State.modRes_svnMin, State.pinLine_svnMin]
theorem State.allocSpare_svnMin (s : State) (t : Nat) (slot : Nat) : (State.allocSpare s t slot).1.fw.svnMin = s.fw.svnMin := by
  unfold State.allocSpare
  generalize 54251936 = z
  simp only []
  repeat' split
  all_goals simp only [State.tev_svnMin, State.modMed_svnMin, State.pageCommit_svnMin, State.tcount_svnMin]
theorem State.remedy_svnMin (s : State) (t : Nat) (k : Stroke) : (s.remedy t k).fw.svnMin = s.fw.svnMin := by
  unfold State.remedy
  split
  · rename_i h
    have := congrArg (fun r => r.1.fw.svnMin) h
    simp only [State.transfer_svnMin, State.allocSpare_svnMin] at this
    simp only [State.transfer_svnMin, State.modRes_svnMin, ← this]
  · rename_i h
    have := congrArg (fun r => r.1.fw.svnMin) h
    simp only [State.transfer_svnMin, State.allocSpare_svnMin] at this
    simp only [State.transfer_svnMin, State.remapFull_svnMin, ← this]
theorem execStrokeVerifyFail_svnMin (t : Nat) (id : Nat) (mute : Bool) (s : State) : ∃ u, execStrokeVerifyFail t id mute s = .next u ∧ u.fw.svnMin = s.fw.svnMin := by
  unfold execStrokeVerifyFail
  refine ⟨_, rfl, ?_⟩
  try simp only []
  (repeat' (first | with_reducible rfl | (simp only [State.transfer_svnMin, ite_svnMin, ite_self, State.noteAnswer_svnMin, State.modRes_svnMin, State.tcount_svnMin, State.noteVerifyFail_svnMin, State.strokeLeaves_svnMin, State.noteGate_svnMin, State.completeEvicts_svnMin, State.giveUpStroke_svnMin, State.remedy_svnMin]; done) | (apply each_svnMin; intro _ _) | (rw [each_svnMin] <;> (try intro _ _)) | split))
theorem State.bind_svnMin (s : State) (t : Nat) (part : Nat) (lseg : Nat) : (State.bind s t part lseg).fw.svnMin = s.fw.svnMin := by
  unfold State.bind
  (try simp only []); (repeat' (first | with_reducible rfl | (simp only [State.freshSeq_svnMin, State.writeHeader_svnMin, State.modPs_svnMin, State.tcount_svnMin, State.modMap_svnMin, State.pageCommit_svnMin, State.blank_svnMin]; done) | (apply each_svnMin; intro _ _) | (rw [each_svnMin] <;> (try intro _ _)) | split))
theorem execBinding_svnMin (t : Nat) (lseg : Nat) (s : State) : ∃ u, execBinding t lseg s = .next u ∧ u.fw.svnMin = s.fw.svnMin := by
  unfold execBinding
  refine ⟨_, rfl, ?_⟩
  try simp only []
  (repeat' (first | with_reducible rfl | (simp only [ite_svnMin, State.bind_svnMin]; done) | (apply each_svnMin; intro _ _) | (rw [each_svnMin] <;> (try intro _ _)) | split))
theorem execGpfPhase2_svnMin (s : State) : ∃ u, execGpfPhase2 s = .next u ∧ u.fw.svnMin = s.fw.svnMin := by
  unfold execGpfPhase2
  refine ⟨_, rfl, ?_⟩
  try simp only []
  (repeat' (first | with_reducible rfl | (simp only [ite_svnMin, State.modRes_svnMin]; done) | (apply each_svnMin; intro _ _) | (rw [each_svnMin] <;> (try intro _ _)) | split))
theorem State.done_svnMin (s : State) (data : List Nat) : (State.done s data).st.fw.svnMin = s.fw.svnMin := by
  unfold State.done
  simp only []
theorem State.ok_svnMin (s : State) : (State.ok s).st.fw.svnMin = s.fw.svnMin := by
  unfold State.ok
  simp only [State.done_svnMin]
theorem State.refused_svnMin (s : State) (code : Nat) (detail : Nat) : (State.refused s code detail).st.fw.svnMin = s.fw.svnMin := by
  unfold State.refused
  simp only []
theorem State.spendCredits_svnMin (s : State) (t : Nat) (n : Nat) : (State.spendCredits s t n).fw.svnMin = s.fw.svnMin := by
  unfold State.spendCredits
  simp only []
theorem State.strokeNow_svnMin (s : State) (t slot cls : Nat) (w : Codeword) (f : Nat) : (s.strokeNow t slot cls w f).1.fw.svnMin = s.fw.svnMin := by
  induction f generalizing s slot with
  | zero => unfold State.strokeNow; split <;> simp only [State.transfer_svnMin, State.modMed_svnMin]
  | succ f ih =>
    unfold State.strokeNow
    simp only []
    split
    · simp only [State.transfer_svnMin, State.noteVerifyFail_svnMin, State.tcount_svnMin]
    · split
      · rename_i h
        rw [ih]
        have := congrArg (fun r => r.1.fw.svnMin) h
        simp only [State.transfer_svnMin, State.allocSpare_svnMin, State.noteVerifyFail_svnMin, State.tcount_svnMin] at this
        exact this.symm
      · rename_i h
        have := congrArg (fun r => r.1.fw.svnMin) h
        simp only [State.transfer_svnMin, State.allocSpare_svnMin, State.noteVerifyFail_svnMin, State.tcount_svnMin] at this
        simp only [State.transfer_svnMin, State.tev_svnMin, ← this]
theorem State.relievePins_svnMin (s : State) (t : Nat) (before : Nat) : (State.relievePins s t before).fw.svnMin = s.fw.svnMin := by
  unfold State.relievePins
  (try simp only [ite_svnMin]); (repeat' (first | with_reducible rfl | (simp only [ite_self, State.trigger_svnMin]; done) | (apply each_svnMin; intro _ _) | (rw [each_svnMin] <;> (try intro _ _))))
theorem State.afterMove_svnMin (s : State) (t : Nat) (lseg : Nat) (p : Nat) : (State.afterMove s t lseg p).fw.svnMin = s.fw.svnMin := by
  unfold State.afterMove
  simp only [ite_svnMin, ite_self, State.tcount_svnMin, State.writeHeader_svnMin, State.trigger_svnMin, State.evalHealth_svnMin]
theorem State.needMigration_svnMin (s : State) (t lseg : Nat) : (s.needMigration t lseg).fw.svnMin = s.fw.svnMin := by
  unfold State.needMigration
  simp only [ite_svnMin, ite_self, State.trigger_svnMin]
theorem execRotationMove_svnMin (t : Nat) (lseg : Nat) (fails : Nat) (s : State) : ∃ u, execRotationMove t lseg fails s = .next u ∧ u.fw.svnMin = s.fw.svnMin := by
  unfold execRotationMove
  refine ⟨_, rfl, ?_⟩
  simp only []
  generalize movedMember _ _ _ = mm
  split
  · cases mm with
    | none => rfl
    | some q =>
      obtain ⟨st, pos, slot⟩ := q
      simp only [State.ownRead_svnMin, ite_svnMin, State.needMigration_svnMin, State.afterMove_svnMin, State.tcount_svnMin, State.modMap_svnMin,
        State.strokeNow_svnMin, State.spendCredits_svnMin, ite_self]
  · rfl
theorem execBlanking_svnMin (t : Nat) (s : State) : ∃ u, execBlanking t s = .next u ∧ u.fw.svnMin = s.fw.svnMin := by
  unfold execBlanking
  refine ⟨_, rfl, ?_⟩
  try simp only []
  (repeat' (first | with_reducible rfl | (simp only [ite_svnMin, ite_self, State.spendCredits_svnMin, State.blank_svnMin]; done) | (apply each_svnMin; intro _ _) | (rw [each_svnMin] <;> (try intro _ _)) | split))
theorem execWearThresholdUpdate_svnMin (s : State) : ∃ u, execWearThresholdUpdate s = .next u ∧ u.fw.svnMin = s.fw.svnMin := by
  unfold execWearThresholdUpdate
  refine ⟨_, rfl, ?_⟩
  try simp only []
  (repeat' (first | with_reducible rfl | (simp only [ite_svnMin, State.modMap_svnMin]; done) | (apply each_svnMin; intro _ _) | (rw [each_svnMin] <;> (try intro _ _)) | split))
theorem State.openMigration_svnMin (s : State) (t : Nat) (lseg : Nat) (reason : Nat) (b : Nat) : (State.openMigration s t lseg reason b).fw.svnMin = s.fw.svnMin := by
  unfold State.openMigration
  simp only [State.allNibs_svnMin, State.freshSeq_svnMin, State.writeHeader_svnMin, State.modMed_svnMin, State.modMap_svnMin, State.noteSpares_svnMin, State.tev_svnMin]
theorem execMigrationStarted_svnMin (t : Nat) (s : State) : ∃ u, execMigrationStarted t s = .next u ∧ u.fw.svnMin = s.fw.svnMin := by
  unfold execMigrationStarted
  refine ⟨_, rfl, ?_⟩
  try simp only []
  (repeat' (first | with_reducible rfl | (simp only [ite_svnMin, State.openMigration_svnMin]; done) | (apply each_svnMin; intro _ _) | (rw [each_svnMin] <;> (try intro _ _)) | split))
theorem State.copyStripe_svnMin (s : State) (t lseg st : Nat) (src dst : Copy) (fails : Nat) : (s.copyStripe t lseg st src dst fails).1.fw.svnMin = s.fw.svnMin := by
  unfold State.copyStripe
  simp only []
  rw [foldl1_svnMin, State.ownReads_svnMin]
  intro y i
  simp only [State.strokeNow_svnMin]
theorem State.coveredByCopy_svnMin (s : State) (t lseg st S : Nat) : (State.coveredByCopy s t lseg st S).fw.svnMin = s.fw.svnMin := by
  unfold State.coveredByCopy
  simp only []
  rw [each_svnMin, State.completeEvicts_svnMin, State.modRes_svnMin]
  intro u l
  rw [State.lineLanded_svnMin, State.modRes_svnMin]
theorem execMigrationStripeCopy_svnMin (t : Nat) (lseg : Nat) (fails : Nat) (s : State) : ∃ u, execMigrationStripeCopy t lseg fails s = .next u ∧ u.fw.svnMin = s.fw.svnMin := by
  unfold execMigrationStripeCopy
  refine ⟨_, rfl, ?_⟩
  try simp only []
  (repeat' (first | with_reducible rfl | (simp only [ite_svnMin, ite_self, State.copyStripe_svnMin, State.spendCredits_svnMin, State.modMap_svnMin, State.coveredByCopy_svnMin, State.tcount_svnMin, State.abandonMigration_svnMin]; done) | (apply each_svnMin; intro _ _) | (rw [each_svnMin] <;> (try intro _ _)) | split))
theorem State.closeMigration_svnMin (s : State) (t : Nat) (g : Migration) : (State.closeMigration s t g).fw.svnMin = s.fw.svnMin := by
  unfold State.closeMigration
  (try simp only [ite_svnMin, ite_self, State.noteSpares_svnMin, State.tev_svnMin, State.tcount_svnMin, State.relievePins_svnMin, State.evalHealth_svnMin]); (repeat' (first | with_reducible rfl | (simp only [ite_svnMin, ite_self, State.writeHeader_svnMin, State.modMap_svnMin, State.retire_svnMin, State.release_svnMin, State.shadow_svnMin, State.modRes_svnMin]; done) | (apply each_svnMin; intro _ _) | (rw [each_svnMin] <;> (try intro _ _))))
theorem execMigrationDone_svnMin (t : Nat) (lseg : Nat) (s : State) : ∃ u, execMigrationDone t lseg s = .next u ∧ u.fw.svnMin = s.fw.svnMin := by
  unfold execMigrationDone
  refine ⟨_, rfl, ?_⟩
  try simp only []
  (repeat' (first | with_reducible rfl | (simp only [ite_svnMin, ite_self, State.closeMigration_svnMin]; done) | (apply each_svnMin; intro _ _) | (rw [each_svnMin] <;> (try intro _ _)) | split))
theorem State.migrateRequest_svnMin (s : State) (v : Nat) : (State.migrateRequest s v).st.fw.svnMin = s.fw.svnMin := by
  unfold State.migrateRequest
  simp only [ite_result_svnMin, ite_self, State.refused_svnMin, State.ok_svnMin, State.trigger_svnMin]
theorem State.mapQuery_svnMin (s : State) (v : Nat) : (State.mapQuery s v).st.fw.svnMin = s.fw.svnMin := by
  unfold State.mapQuery
  simp only [ite_result_svnMin, ite_self, State.refused_svnMin, State.ok_svnMin, State.setCell_svnMin]
theorem State.quarantine_svnMin (s : State) (t : Nat) (p : Nat) (lseg : Nat) (reason : Nat) : (State.quarantine s t p lseg reason).fw.svnMin = s.fw.svnMin := by
  unfold State.quarantine
  simp only [State.noteSpares_svnMin, State.xlateBit_svnMin, State.modMap_svnMin]
theorem State.quarantineAck_svnMin (s : State) (v : Nat) : (State.quarantineAck s v).st.fw.svnMin = s.fw.svnMin := by
  unfold State.quarantineAck
  (try simp only [ite_result_svnMin, State.refused_svnMin]); (repeat' (first | with_reducible rfl | (simp only [ite_result_svnMin, ite_self, State.refused_svnMin, State.modMap_svnMin, State.tev_svnMin, State.residueSeq_svnMin, State.writeHeader_svnMin, State.modRes_svnMin, State.ok_svnMin, State.quarantine_svnMin, State.forgetParity_svnMin, State.release_svnMin, State.relievePins_svnMin, State.noteSpares_svnMin]; done) | (apply each_svnMin; intro _ _) | (rw [each_svnMin] <;> (try intro _ _)) | split))
theorem execEvacuationSlot_svnMin (t fails : Nat) (s : State) : ∃ u, execEvacuationSlot t fails s = .next u ∧ u.fw.svnMin = s.fw.svnMin := by
  unfold execEvacuationSlot
  generalize 54251936 = top
  refine ⟨_, rfl, ?_⟩
  split
  · rfl
  · split
    · have h : ∀ (u v : State) (m : TileMap → TileMap) (c : Prop) [Decidable c] (val : Nat) (qs : List (Nat × Nat)), u.fw.svnMin = v.fw.svnMin →
          (if c then ((u.modMap t m).tev t Ev.BANK_EVACUATED 0xFF val qs).evalHealth else u.modMap t m).fw.svnMin = v.fw.svnMin := by
        intro u v m c _ val qs h
        split
        · rw [State.evalHealth_svnMin, State.tev_svnMin, State.modMap_svnMin, h]
        · rw [State.modMap_svnMin, h]
      apply h
      simp only []
      split
      · split
        · rw [State.tcount_svnMin, State.strokeNow_svnMin, State.spendCredits_svnMin, State.ownReads_svnMin]
        · rw [State.needMigration_svnMin, State.tcount_svnMin, State.strokeNow_svnMin, State.spendCredits_svnMin, State.ownReads_svnMin]
      · split
        · rw [State.tcount_svnMin, State.transfer_svnMin, State.spendCredits_svnMin]
        · split
          · rw [State.tcount_svnMin, State.strokeNow_svnMin, State.spendCredits_svnMin]
          · rfl
    · rfl
theorem State.treatErased_svnMin (s : State) (t part lseg st pos : Nat) (c : Copy) : (s.treatErased t part lseg st pos c).fw.svnMin = s.fw.svnMin := by
  unfold State.treatErased
  simp only []
  split
  · simp only [State.ownReads_svnMin, State.repairMember_svnMin, State.tev_svnMin, State.tcount_svnMin]
  · rw [State.poisonStripe_svnMin, each_svnMin, State.ownReads_svnMin]
    intro s j
    split <;> simp only [State.forgetClean_svnMin, State.loseLine_svnMin]
theorem State.refreshMember_svnMin (s : State) (t : Nat) (part : Nat) (lseg : Nat) (st : Nat) (pos : Nat) (c : Copy) (w : Codeword) (prio : Nat) : (State.refreshMember s t part lseg st pos c w prio).fw.svnMin = s.fw.svnMin := by
  unfold State.refreshMember
  (try simp only []); (repeat' (first | with_reducible rfl | (simp only [ite_svnMin, ite_self, State.queueStroke_svnMin, State.modRes_svnMin, State.shadowLine_svnMin]; done) | (apply each_svnMin; intro _ _) | (rw [each_svnMin] <;> (try intro _ _)) | split))
theorem State.startVisit_svnMin (s : State) (t : Nat) : (State.startVisit s t).fw.svnMin = s.fw.svnMin := by
  unfold State.startVisit
  (repeat' split) <;> simp only [State.modPat_svnMin]
theorem State.noteWeak_svnMin (s : State) (t : Nat) (p : Nat) (lseg : Nat) (before : Nat × Nat) : (State.noteWeak s t p lseg before).fw.svnMin = s.fw.svnMin := by
  unfold State.noteWeak
  simp only [ite_svnMin, ite_self, State.trigger_svnMin, State.tev_svnMin, State.raise_svnMin]
theorem State.visitMember_svnMin (s : State) (t : Nat) (p : Nat) (weakCells : Nat) (err : Codeword) : (State.visitMember s t p weakCells err).fw.svnMin = s.fw.svnMin := by
  unfold State.visitMember
  (try simp only [State.ownRead_svnMin, ite_svnMin, State.modPat_svnMin, State.tcount_svnMin, State.treatErased_svnMin, State.noteWeak_svnMin]); (repeat' (first | with_reducible rfl | (simp only [State.ownRead_svnMin, ite_svnMin, ite_self, State.modPat_svnMin, State.tcount_svnMin, State.treatErased_svnMin, State.noteDecode_svnMin, State.refreshMember_svnMin]; done) | (apply each_svnMin; intro _ _) | (rw [each_svnMin] <;> (try intro _ _)) | split))
theorem execPatrolVisitMember_svnMin (t : Nat) (weakCells : Nat) (err : Codeword) (s : State) : ∃ u, execPatrolVisitMember t weakCells err s = .next u ∧ u.fw.svnMin = s.fw.svnMin := by
  unfold execPatrolVisitMember
  refine ⟨_, rfl, ?_⟩
  try simp only []
  (repeat' (first | with_reducible rfl | (simp only [State.transfer_svnMin, ite_svnMin, ite_self, State.startVisit_svnMin, State.visitMember_svnMin, State.modPat_svnMin, State.tcount_svnMin]; done) | (apply each_svnMin; intro _ _) | (rw [each_svnMin] <;> (try intro _ _)) | split))
theorem State.visitHeaders_svnMin (s : State) (t : Nat) (p : Nat) (d0 : Nat) (bad0 : Bool) (bad1 : Bool) : (State.visitHeaders s t p d0 bad0 bad1).fw.svnMin = s.fw.svnMin := by
  unfold State.visitHeaders
  simp only [ite_svnMin, ite_self, State.tev_svnMin, State.residueSeq_svnMin, State.writeHeader_svnMin]
theorem State.clearOverdue_svnMin (s : State) (t : Nat) : (State.clearOverdue s t).fw.svnMin = s.fw.svnMin := by
  unfold State.clearOverdue
  simp only [ite_svnMin, ite_self, State.modPat_svnMin]
theorem execPatrolVisitEnd_svnMin (t : Nat) (bad0 : Bool) (bad1 : Bool) (s : State) : ∃ u, execPatrolVisitEnd t bad0 bad1 s = .next u ∧ u.fw.svnMin = s.fw.svnMin := by
  unfold execPatrolVisitEnd
  refine ⟨_, rfl, ?_⟩
  try simp only []
  (repeat' (first | with_reducible rfl | (simp only [State.headerTransfers_svnMin, ite_svnMin, ite_self, State.visitHeaders_svnMin, State.modMap_svnMin, State.modPat_svnMin, State.clearOverdue_svnMin, State.tcount_svnMin]; done) | (apply each_svnMin; intro _ _) | (rw [each_svnMin] <;> (try intro _ _)) | split))
theorem execRefreshEscalated_svnMin (t : Nat) (s : State) : ∃ u, execRefreshEscalated t s = .next u ∧ u.fw.svnMin = s.fw.svnMin := by
  unfold execRefreshEscalated
  refine ⟨_, rfl, ?_⟩
  try simp only []
  (repeat' (first | with_reducible rfl | (simp only [ite_svnMin, ite_self, State.modRes_svnMin, State.tcount_svnMin, State.tev_svnMin, State.raise_svnMin]; done) | (apply each_svnMin; intro _ _) | (rw [each_svnMin] <;> (try intro _ _)) | split))
theorem execPatrolOverdue_svnMin (t : Nat) (p : Nat) (s : State) : ∃ u, execPatrolOverdue t p s = .next u ∧ u.fw.svnMin = s.fw.svnMin := by
  unfold execPatrolOverdue
  refine ⟨_, rfl, ?_⟩
  simp only [ite_svnMin, ite_self, State.raise_svnMin, State.degrade_svnMin, State.tev_svnMin, State.modPat_svnMin]
theorem execPatrolPace_svnMin (s : State) : ∃ u, execPatrolPace s = .next u ∧ u.fw.svnMin = s.fw.svnMin := by
  unfold execPatrolPace
  refine ⟨_, rfl, ?_⟩
  try simp only []
  (repeat' (first | with_reducible rfl | (simp only [State.modPat_svnMin]; done) | (apply each_svnMin; intro _ _)))
theorem execAccelPatrolDone_svnMin (t : Nat) (s : State) : ∃ u, execAccelPatrolDone t s = .next u ∧ u.fw.svnMin = s.fw.svnMin := by
  unfold execAccelPatrolDone
  refine ⟨_, rfl, ?_⟩
  simp only [ite_svnMin, ite_self, State.tev_svnMin, State.modPat_svnMin]
theorem execDriftClockSave_svnMin (t : Nat) (s : State) : ∃ u, execDriftClockSave t s = .next u ∧ u.fw.svnMin = s.fw.svnMin := by
  unfold execDriftClockSave
  refine ⟨_, rfl, ?_⟩
  simp only [ite_svnMin, ite_self, State.modPs_svnMin]
theorem execAgeEntryReset_svnMin (t : Nat) (p : Nat) (s : State) : ∃ u, execAgeEntryReset t p s = .next u ∧ u.fw.svnMin = s.fw.svnMin := by
  unfold execAgeEntryReset
  refine ⟨_, rfl, ?_⟩
  simp only [ite_svnMin, ite_self, State.modPat_svnMin, State.modMap_svnMin, State.tev_svnMin]
theorem State.beginScrub_svnMin (s : State) (source : Nat) (dpa : Nat) (len : Nat) (by_ : Nat) (quiet : Bool) : (State.beginScrub s source dpa len by_ quiet).fw.svnMin = s.fw.svnMin := by
  unfold State.beginScrub
  simp only []
theorem State.scrubStart_svnMin (s : State) (v : Nat) : (State.scrubStart s v).st.fw.svnMin = s.fw.svnMin := by
  unfold State.scrubStart
  simp only [ite_result_svnMin, ite_self, State.refused_svnMin, State.ok_svnMin, State.beginScrub_svnMin]
theorem State.endScrub_svnMin (s : State) (status : Nat) (counts : List Nat) : (State.endScrub s status counts).fw.svnMin = s.fw.svnMin := by
  unfold State.endScrub
  simp only []
theorem State.abortScrub_svnMin (s : State) (cause : Nat) : (State.abortScrub s cause).fw.svnMin = s.fw.svnMin := by
  unfold State.abortScrub
  simp only [ite_svnMin, ite_self, State.pev_svnMin, State.endScrub_svnMin]
theorem State.scrubAbort_svnMin (s : State) (v : Nat) : (State.scrubAbort s v).st.fw.svnMin = s.fw.svnMin := by
  unfold State.scrubAbort
  simp only [ite_result_svnMin, ite_self, State.refused_svnMin, State.ok_svnMin, State.abortScrub_svnMin]
theorem State.scrubStroke_svnMin (s : State) (y : Tally) (t lseg slot cls : Nat) (w : Codeword) : (s.scrubStroke y t lseg slot cls w).1.fw.svnMin = s.fw.svnMin := by
  unfold State.scrubStroke
  simp only []
  split <;> simp only [State.needMigration_svnMin, State.tcount_svnMin, State.strokeNow_svnMin, State.spendCredits_svnMin]
theorem State.scrubMember_svnMin (s : State) (y : Tally) (t : Nat) (part : Nat) (lseg : Nat) (st : Nat) (pos : Nat) (c : Copy) : (State.scrubMember s y t part lseg st pos c).1.fw.svnMin = s.fw.svnMin := by
  unfold State.scrubMember
  (try simp only [State.ownRead_svnMin, ite_fst_svnMin, State.tcount_svnMin, State.treatErased_svnMin]); (repeat' (first | with_reducible rfl | (simp only [State.ownRead_svnMin, State.scrubStroke_svnMin, State.tcount_svnMin, State.treatErased_svnMin, State.noteDecode_svnMin, State.strokeNow_svnMin, State.spendCredits_svnMin]; done) | (apply each_svnMin; intro _ _) | (rw [each_svnMin] <;> (try intro _ _)) | split))
theorem State.scrubLine_svnMin (s : State) (y : Tally) (dpa : Nat) : (State.scrubLine s y dpa).1.fw.svnMin = s.fw.svnMin := by
  unfold State.scrubLine
  (try simp only []); (repeat' (first | with_reducible rfl | (simp only [ite_fst_svnMin, ite_self, State.scrubMember_svnMin]; done) | (apply each_svnMin; intro _ _) | (rw [each_svnMin] <;> (try intro _ _)) | split))
theorem State.quieted_svnMin (s : State) (before : State) : (State.quieted s before).fw.svnMin = s.fw.svnMin := by
  unfold State.quieted
  simp only []
theorem execScrubDone_svnMin (worst fails : Nat) (s : State) : ∃ u, execScrubDone worst fails s = .next u ∧ u.fw.svnMin = s.fw.svnMin := by
  have h : ∀ (l : List Nat) (z : State × Tally), (l.foldl (fun acc d => acc.1.scrubLine acc.2 d) z).1.fw.svnMin = z.1.fw.svnMin :=
    fun l z => foldl1_svnMin z l _ (fun _ _ => State.scrubLine_svnMin ..)
  unfold execScrubDone
  refine ⟨_, rfl, ?_⟩
  split
  · rw [State.pev_svnMin]
    split
    · rw [State.quieted_svnMin, State.endScrub_svnMin]; exact h ..
    · rw [State.endScrub_svnMin]; exact h ..
  · rfl
theorem State.segLost_svnMin (s : State) (t : Nat) (lseg : Nat) : (State.segLost s t lseg).fw.svnMin = s.fw.svnMin := by
  unfold State.segLost
  simp only [State.modMap_svnMin, State.tev_svnMin, State.xlateBit_svnMin]
theorem State.undecidedMove_svnMin (s : State) (t code : Nat) : (s.undecidedMove t code).fw.svnMin = s.fw.svnMin := by
  unfold State.undecidedMove
  simp only []
  generalize movedMember _ _ _ = mm
  split
  · rfl
  · cases mm with
    | none => rfl
    | some q =>
      obtain ⟨st, pos, slot⟩ := q
      simp only [State.ownReads_svnMin, State.tev_svnMin, State.tcount_svnMin, State.modMap_svnMin, State.strokeNow_svnMin]
theorem State.rebuildMap_svnMin (s : State) (t : Nat) (damage : List Nat) : (State.rebuildMap s t damage).fw.svnMin = s.fw.svnMin := by
  unfold State.rebuildMap
  simp only [State.tev_svnMin, State.tcount_svnMin]
  rw [each_svnMin _ _ _ (fun _ _ => State.undecidedMove_svnMin ..), State.modPs_svnMin, each_svnMin _ _ _ (fun _ _ => State.segLost_svnMin ..),
    each_svnMin, State.modMap_svnMin]
  intro u c
  (repeat' (first | with_reducible rfl | (simp only [State.modMap_svnMin, State.tev_svnMin, State.quarantine_svnMin, State.release_svnMin]; done) | split))
theorem State.driftProbe_svnMin (s : State) (t : Nat) (best : Nat) : (State.driftProbe s t best).fw.svnMin = s.fw.svnMin := by
  unfold State.driftProbe
  simp only [ite_svnMin, ite_self, State.modPat_svnMin, State.tev_svnMin, State.raise_svnMin]
theorem State.restorePins_svnMin (s : State) (t : Nat) (pins : List Entry) : (State.restorePins s t pins).fw.svnMin = s.fw.svnMin := by
  unfold State.restorePins
  (try simp only [each_svnMin, foldl_svnMin, when_svnMin, ite_svnMin, ite_fst_svnMin, ite_result_svnMin, ite_mbEnd_svnMin, ite_self, State.shadow_svnMin, State.modRes_svnMin]); (repeat' (first | with_reducible rfl | (simp only [State.shadow_svnMin, State.modRes_svnMin]; done) | (apply each_svnMin; intro _ _)))
theorem State.reparity_svnMin (s : State) (t : Nat) (S : Nat) : (State.reparity s t S).fw.svnMin = s.fw.svnMin := by
  unfold State.reparity
  (try simp only [State.ownReads_svnMin, ite_svnMin, ite_self, State.strokeNow_svnMin]); (repeat' (first | with_reducible rfl | (simp only [State.ownReads_svnMin, ite_self, State.loseLine_svnMin, State.strokeNow_svnMin]; done) | (apply each_svnMin; intro _ _) | (rw [each_svnMin] <;> (try intro _ _)) | split))
theorem State.loseShadowed_svnMin (s : State) (t : Nat) (lla : Nat) : (State.loseShadowed s t lla).fw.svnMin = s.fw.svnMin := by
  unfold State.loseShadowed
  (repeat' split) <;> simp only [State.bind_svnMin, State.makeLost_svnMin]
theorem State.reconcile_svnMin (s : State) (t gen : Nat) : (s.reconcile t gen).fw.svnMin = s.fw.svnMin := by
  have r : ∀ (s : State) (l : List Nat), (s.each l (fun s' S => s'.reparity t S)).fw.svnMin = s.fw.svnMin :=
    fun s l => each_svnMin s l _ (fun _ _ => State.reparity_svnMin ..)
  have r2 : ∀ (s : State) (l m : List Nat), (s.each l (fun s' p => s'.each m (fun s'' st => s''.reparity t (stripeAddr p st)))).fw.svnMin = s.fw.svnMin :=
    fun s l m => each_svnMin s l _ (fun s p => each_svnMin s m _ (fun _ _ => State.reparity_svnMin ..))
  have l : ∀ (s : State) (l : List Nat), (s.each l (fun s' S => s'.loseShadowed t S)).fw.svnMin = s.fw.svnMin :=
    fun s l => each_svnMin s l _ (fun _ _ => State.loseShadowed_svnMin ..)
  unfold State.reconcile
  simp only []
  split
  · split <;> simp only [State.restorePins_svnMin]
  · split
    · split
      · rw [State.setCell_svnMin, State.restorePins_svnMin, each_svnMin, l, r]
        intro s e; simp only [State.shadow_svnMin, State.modRes_svnMin]
      · rw [State.tev_svnMin, State.setCell_svnMin, State.restorePins_svnMin, each_svnMin, l, r]
        intro s e; simp only [State.shadow_svnMin, State.modRes_svnMin]
    · rw [r2, State.tev_svnMin]
theorem execRingLinkRetrain_svnMin (link : Nat) (replaysE : Nat) (replaysW : Nat) (s : State) : ∃ u, execRingLinkRetrain link replaysE replaysW s = .next u ∧ u.fw.svnMin = s.fw.svnMin := by
  unfold execRingLinkRetrain
  refine ⟨_, rfl, ?_⟩
  simp only [ite_svnMin, ite_self, State.tev_svnMin, State.tcount_svnMin]
theorem execRingLinkDown_svnMin (link : Nat) (s : State) : ∃ u, execRingLinkDown link s = .next u ∧ u.fw.svnMin = s.fw.svnMin := by
  unfold execRingLinkDown
  refine ⟨_, rfl, ?_⟩
  (repeat' (first | with_reducible rfl | (simp only [implies_true, each_svnMin, ite_svnMin, ite_self, State.tcount_svnMin, State.modTime_svnMin, State.degrade_svnMin, State.tev_svnMin]; done)))
theorem execAlignmentMarker_svnMin (s : State) : ∃ u, execAlignmentMarker s = .next u ∧ u.fw.svnMin = s.fw.svnMin := by
  unfold execAlignmentMarker
  refine ⟨_, rfl, ?_⟩
  try simp only []
  (repeat' (first | with_reducible rfl | (simp only [State.ringSend_svnMin, State.modTime_svnMin]; done) | (apply each_svnMin; intro _ _) | (rw [each_svnMin] <;> (try intro _ _)) | split))
theorem execTimebaseHoldover_svnMin (t : Nat) (s : State) : ∃ u, execTimebaseHoldover t s = .next u ∧ u.fw.svnMin = s.fw.svnMin := by
  unfold execTimebaseHoldover
  refine ⟨_, rfl, ?_⟩
  simp only [ite_svnMin, ite_self, State.tev_svnMin, State.modTime_svnMin]
theorem execTimebaseRealigned_svnMin (t : Nat) (s : State) : ∃ u, execTimebaseRealigned t s = .next u ∧ u.fw.svnMin = s.fw.svnMin := by
  unfold execTimebaseRealigned
  refine ⟨_, rfl, ?_⟩
  try simp only []
  (repeat' (first | with_reducible rfl | (simp only [ite_svnMin, ite_self, State.tev_svnMin, State.modTime_svnMin]; done) | (apply each_svnMin; intro _ _) | (rw [each_svnMin] <;> (try intro _ _)) | split))
theorem State.moveMaster_svnMin (s : State) : (State.moveMaster s).fw.svnMin = s.fw.svnMin := by
  unfold State.moveMaster
  (repeat' split) <;> simp only [ite_svnMin, ite_self, State.pev_svnMin, State.modTime_svnMin]
theorem execRefclkLost_svnMin (k : Nat) (s : State) : ∃ u, execRefclkLost k s = .next u ∧ u.fw.svnMin = s.fw.svnMin := by
  unfold execRefclkLost
  refine ⟨_, rfl, ?_⟩
  try simp only []
  (repeat' (first | with_reducible rfl | (simp only [ite_svnMin, ite_self, State.modTime_svnMin, State.moveMaster_svnMin]; done) | (apply each_svnMin; intro _ _) | (rw [each_svnMin] <;> (try intro _ _)) | split))
theorem State.lockToReference_svnMin (s : State) (t : Nat) : (State.lockToReference s t).fw.svnMin = s.fw.svnMin := by
  unfold State.lockToReference
  simp only [ite_svnMin, ite_self, State.tev_svnMin, State.modTime_svnMin]
theorem execRefclkLocked_svnMin (t : Nat) (s : State) : ∃ u, execRefclkLocked t s = .next u ∧ u.fw.svnMin = s.fw.svnMin := by
  unfold execRefclkLocked
  refine ⟨_, rfl, ?_⟩
  simp only [ite_svnMin, ite_self, State.lockToReference_svnMin, State.pev_svnMin, State.modTime_svnMin]
theorem State.discardFlip_svnMin (s : State) (t : Nat) (cause : Nat) : (State.discardFlip s t cause).fw.svnMin = s.fw.svnMin := by
  unfold State.discardFlip
  simp only [ite_svnMin, ite_self, State.tev_svnMin, State.raise_svnMin, State.modMed_svnMin]
theorem State.permitTest_svnMin (s : State) (on : Bool) : (State.permitTest s on).fw.svnMin = s.fw.svnMin := by
  unfold State.permitTest
  (try simp only [ite_svnMin]); (repeat' (first | with_reducible rfl | (simp only [ite_self, State.discardFlip_svnMin]; done) | (apply each_svnMin; intro _ _) | (rw [each_svnMin] <;> (try intro _ _))))
theorem State.relock_svnMin (s : State) (cause : Nat) : (State.relock s cause).fw.svnMin = s.fw.svnMin := by
  unfold State.relock
  (repeat' split) <;> simp only [State.pev_svnMin, State.permitTest_svnMin]
theorem State.endSessions_svnMin (s : State) (cause : Nat) : (State.endSessions s cause).fw.svnMin = s.fw.svnMin := by
  unfold State.endSessions
  simp only [State.relock_svnMin]
theorem State.endSession_svnMin (s : State) (id : Nat) : (State.endSession s id).fw.svnMin = s.fw.svnMin := by
  unfold State.endSession
  simp only [ite_svnMin, ite_self, State.relock_svnMin]
theorem State.takeOver_svnMin (s : State) (o : Nat) : (State.takeOver s o).fw.svnMin = s.fw.svnMin := by
  unfold State.takeOver
  simp only [State.endSessions_svnMin, State.pev_svnMin, State.count_svnMin, State.setCell_svnMin]
theorem State.coreLost_svnMin (s : State) (coreFails : Bool) : (State.coreLost s coreFails).fw.svnMin = s.fw.svnMin := by
  unfold State.coreLost
  (repeat' split) <;> simp only [ite_svnMin, ite_self, State.takeOver_svnMin]
theorem execCoreTakeover_svnMin (s : State) : ∃ u, execCoreTakeover s = .next u ∧ u.fw.svnMin = s.fw.svnMin := by
  unfold execCoreTakeover
  refine ⟨_, rfl, ?_⟩
  simp only [State.coreLost_svnMin]
theorem State.standbyGone_svnMin (s : State) : (State.standbyGone s).fw.svnMin = s.fw.svnMin := by
  unfold State.standbyGone
  simp only [State.pev_svnMin]
theorem execStandbyLost_svnMin (fails : Bool) (s : State) : ∃ u, execStandbyLost fails s = .next u ∧ u.fw.svnMin = s.fw.svnMin := by
  unfold execStandbyLost
  refine ⟨_, rfl, ?_⟩
  try simp only []
  (repeat' (first | with_reducible rfl | (simp only [ite_svnMin, ite_self, State.standbyGone_svnMin]; done) | (apply each_svnMin; intro _ _) | (rw [each_svnMin] <;> (try intro _ _)) | split))
theorem execStandbyResynchronised_svnMin (s : State) : ∃ u, execStandbyResynchronised s = .next u ∧ u.fw.svnMin = s.fw.svnMin := by
  unfold execStandbyResynchronised
  refine ⟨_, rfl, ?_⟩
  try simp only []
  (repeat' (first | with_reducible rfl | (simp only [ite_svnMin, ite_self]; done) | (apply each_svnMin; intro _ _) | (rw [each_svnMin] <;> (try intro _ _)) | split))
theorem State.discardReads_svnMin (s : State) (t : Nat) (p : Nat) (l : Option Nat) : (State.discardReads s t p l).fw.svnMin = s.fw.svnMin := by
  unfold State.discardReads
  (try simp only [State.modRes_svnMin]); (repeat' (first | with_reducible rfl | (simp only [State.retireRd_svnMin, State.modRd_svnMin, State.endNib_svnMin]; done) | (apply each_svnMin; intro _ _) | (rw [each_svnMin] <;> (try intro _ _))))
theorem State.flushOwned_svnMin (s : State) (p : Nat) (l : Option Nat) : (State.flushOwned s p l).fw.svnMin = s.fw.svnMin := by
  unfold State.flushOwned
  simp only []
theorem State.discard_svnMin (s : State) (p : Nat) (l : Option Nat) : (State.discard s p l).fw.svnMin = s.fw.svnMin := by
  unfold State.discard
  (try simp only []); (repeat' (first | with_reducible rfl | (simp only [State.discardReads_svnMin, State.modPort_svnMin, State.tev_svnMin]; done) | (apply each_svnMin; intro _ _) | (rw [each_svnMin] <;> (try intro _ _))))
theorem State.dropRequesters_svnMin (s : State) (f : Requester → Bool) : (State.dropRequesters s f).fw.svnMin = s.fw.svnMin := by
  unfold State.dropRequesters
  simp only []
theorem State.dropMailbox_svnMin (s : State) (p : Nat) (l : Nat) : (State.dropMailbox s p l).fw.svnMin = s.fw.svnMin := by
  unfold State.dropMailbox
  simp only [State.dropRequesters_svnMin, State.modLd_svnMin]
theorem State.freeMailboxes_svnMin (s : State) (p : Option Nat) : (State.freeMailboxes s p).fw.svnMin = s.fw.svnMin := by
  unfold State.freeMailboxes
  simp only []
theorem State.linkDown_svnMin (s : State) (p : Nat) (cause : Nat) : (State.linkDown s p cause).fw.svnMin = s.fw.svnMin := by
  unfold State.linkDown
  (try simp only [ite_svnMin, State.tev_svnMin, State.raise_svnMin]); (repeat' (first | with_reducible rfl | (simp only [ite_self, State.discard_svnMin, State.modPort_svnMin, State.dropRequesters_svnMin, State.freeMailboxes_svnMin, State.endSession_svnMin]; done) | (apply each_svnMin; intro _ _) | (rw [each_svnMin] <;> (try intro _ _))))
theorem State.rejoinFailed_svnMin (s : State) (t : Nat) : (State.rejoinFailed s t).fw.svnMin = s.fw.svnMin := by
  unfold State.rejoinFailed
  simp only [State.modFence_svnMin, State.evalHealth_svnMin, State.pevAt_svnMin, State.modTime_svnMin]
theorem State.abandonQueues_svnMin (s : State) (t : Nat) : (State.abandonQueues s t).fw.svnMin = s.fw.svnMin := by
  unfold State.abandonQueues
  simp only [State.modRd_svnMin]
theorem State.suspect_svnMin (s : State) (t : Nat) (cause : Nat) : (State.suspect s t cause).fw.svnMin = s.fw.svnMin := by
  unfold State.suspect
  (repeat' split) <;> simp only [State.modFence_svnMin, State.setCell_svnMin, State.pevAt_svnMin, State.count_svnMin, State.modTime_svnMin, State.degrade_svnMin, State.abandonQueues_svnMin, State.linkDown_svnMin, State.rejoinFailed_svnMin]
theorem execWatchdogTrip_svnMin (issuer : Nat) (suspect : Nat) (block : Nat) (request : Nat) (s : State) : ∃ u, execWatchdogTrip issuer suspect block request s = .next u ∧ u.fw.svnMin = s.fw.svnMin := by
  unfold execWatchdogTrip
  refine ⟨_, rfl, ?_⟩
  simp only [ite_svnMin, ite_self, State.suspect_svnMin, State.tev_svnMin, State.tcount_svnMin]
theorem execRingSilence_svnMin (t : Nat) (s : State) : ∃ u, execRingSilence t s = .next u ∧ u.fw.svnMin = s.fw.svnMin := by
  unfold execRingSilence
  refine ⟨_, rfl, ?_⟩
  simp only [State.suspect_svnMin]
theorem execTileSelfReport_svnMin (t : Nat) (s : State) : ∃ u, execTileSelfReport t s = .next u ∧ u.fw.svnMin = s.fw.svnMin := by
  unfold execTileSelfReport
  refine ⟨_, rfl, ?_⟩
  simp only [State.suspect_svnMin]
theorem State.tileFence_svnMin (s : State) (t : Nat) : (State.tileFence s t).st.fw.svnMin = s.fw.svnMin := by
  unfold State.tileFence
  simp only [ite_result_svnMin, ite_self, State.refused_svnMin, State.ok_svnMin, State.suspect_svnMin]
theorem State.adoptMirror_svnMin (s : State) (m : Nat) (t : Nat) : (State.adoptMirror s m t).fw.svnMin = s.fw.svnMin := by
  unfold State.adoptMirror
  (try simp only []); (repeat' (first | with_reducible rfl | (simp only [ite_svnMin, ite_self, State.modRes_svnMin, State.shadowFor_svnMin, State.modRd_svnMin, State.tcount_svnMin]; done) | (apply each_svnMin; intro _ _)))
theorem State.takeNibsOf_svnMin (s : State) (u : Nat) (r : Req) : (State.takeNibsOf s u r).fw.svnMin = s.fw.svnMin := by
  unfold State.takeNibsOf
  simp only [ite_svnMin, ite_self, State.modRd_svnMin]
theorem State.replay_svnMin (s : State) (t : Nat) (mirrored : Bool) (r : Req) : (State.replay s t mirrored r).fw.svnMin = s.fw.svnMin := by
  unfold State.replay
  (try simp only []); (repeat' (first | with_reducible rfl | (simp only [ite_svnMin, ite_self, State.tcount_svnMin, State.refuse_svnMin, State.leaveIngress_svnMin, State.modRd_svnMin, State.ackWrite_svnMin, State.modRes_svnMin, State.lookup_svnMin, State.takeNibsOf_svnMin]; done) | (apply each_svnMin; intro _ _) | (rw [each_svnMin] <;> (try intro _ _)) | split))
theorem State.keepPlain_svnMin (s : State) (t : Nat) : (State.keepPlain s t).fw.svnMin = s.fw.svnMin := by
  unfold State.keepPlain
  simp only [State.modRes_svnMin, State.modRd_svnMin, State.modPat_svnMin]
theorem State.moveMirror_svnMin (s : State) (w : Nat) (m : Nat) : (State.moveMirror s w m).fw.svnMin = s.fw.svnMin := by
  unfold State.moveMirror
  (try simp only []); (repeat' (first | with_reducible rfl | (simp only [State.modRes_svnMin, State.ackWrite_svnMin, State.tcount_svnMin]; done) | (apply each_svnMin; intro _ _) | (rw [each_svnMin] <;> (try intro _ _))))
theorem State.loseWith_svnMin (s : State) (t : Nat) (alive : Bool) : (State.loseWith s t alive).fw.svnMin = s.fw.svnMin := by
  unfold State.loseWith
  (try simp only [ite_svnMin]); (repeat' (first | with_reducible rfl | (simp only [ite_self, State.loseLine_svnMin]; done) | (apply each_svnMin; intro _ _) | (rw [each_svnMin] <;> (try intro _ _))))
theorem State.fenceDecide_svnMin (s : State) (t : Nat) : (State.fenceDecide s t).fw.svnMin = s.fw.svnMin := by
  unfold State.fenceDecide
  (repeat' (first | with_reducible rfl | (simp only [implies_true, each_svnMin, ite_svnMin, ite_self, State.modPs_svnMin, State.modFence_svnMin, State.loseWith_svnMin, State.abandonMigration_svnMin, State.modRes_svnMin, State.adoptMirror_svnMin, State.keepPlain_svnMin, State.moveMirror_svnMin, State.moveMaster_svnMin, State.coreLost_svnMin, State.standbyGone_svnMin, State.pevAt_svnMin, State.replay_svnMin, State.degrade_svnMin, State.evalHealth_svnMin]; done)))
theorem execFenceDecision_svnMin (t : Nat) (s : State) : ∃ u, execFenceDecision t s = .next u ∧ u.fw.svnMin = s.fw.svnMin := by
  unfold execFenceDecision
  refine ⟨_, rfl, ?_⟩
  simp only [ite_svnMin, ite_self, State.fenceDecide_svnMin]
theorem State.resend_svnMin (s : State) (w : Nat) : (State.resend s w).fw.svnMin = s.fw.svnMin := by
  unfold State.resend
  (try simp only []); (repeat' (first | with_reducible rfl | (simp only [State.modRes_svnMin]; done) | (apply each_svnMin; intro _ _) | (rw [each_svnMin] <;> (try intro _ _))))
theorem execMirrorMoved_svnMin (w : Nat) (s : State) : ∃ u, execMirrorMoved w s = .next u ∧ u.fw.svnMin = s.fw.svnMin := by
  unfold execMirrorMoved
  refine ⟨_, rfl, ?_⟩
  simp only [ite_svnMin, ite_self, State.modFence_svnMin, State.resend_svnMin, State.noteGate_svnMin, State.pevAt_svnMin, State.modRes_svnMin]
theorem execShadowResent_svnMin (t : Nat) (s : State) : ∃ u, execShadowResent t s = .next u ∧ u.fw.svnMin = s.fw.svnMin := by
  unfold execShadowResent
  refine ⟨_, rfl, ?_⟩
  simp only [ite_svnMin, ite_self, State.tev_svnMin, State.modRes_svnMin]
theorem execReconstructionDone_svnMin (t : Nat) (rd : Nat) (s : State) : ∃ u, execReconstructionDone t rd s = .next u ∧ u.fw.svnMin = s.fw.svnMin := by
  unfold execReconstructionDone
  refine ⟨_, rfl, ?_⟩
  try simp only []
  (repeat' (first | with_reducible rfl | (simp only [State.groupReads_svnMin, ite_svnMin, ite_self, State.modRd_svnMin, State.tcount_svnMin, State.deliver_svnMin, State.ringSend_svnMin]; done) | (apply each_svnMin; intro _ _) | (rw [each_svnMin] <;> (try intro _ _)) | split))
theorem execSpdmSessionEstablished_svnMin (id : Nat) (owner : Bool) (port : Option Nat) (s : State) : ∃ u, execSpdmSessionEstablished id owner port s = .next u ∧ u.fw.svnMin = s.fw.svnMin := by
  unfold execSpdmSessionEstablished
  refine ⟨_, rfl, ?_⟩
  simp only [ite_svnMin, ite_self]
theorem execSpdmSessionEnd_svnMin (id : Nat) (s : State) : ∃ u, execSpdmSessionEnd id s = .next u ∧ u.fw.svnMin = s.fw.svnMin := by
  unfold execSpdmSessionEnd
  refine ⟨_, rfl, ?_⟩
  simp only [ite_svnMin, ite_self, State.endSession_svnMin]
theorem State.finishKey_svnMin (s : State) (c : KeyChange) : (State.finishKey s c).fw.svnMin = s.fw.svnMin := by
  unfold State.finishKey
  (repeat' (first | with_reducible rfl | (simp only [implies_true, foldl_svnMin, State.count_svnMin, State.pageCommit_svnMin, State.pev_svnMin]; done) | split))
theorem State.keyCommand_svnMin (s : State) (q : Requester) (slot : Nat) (load : Option (Key256 × Key256)) : (OpEnd.after s (s.keyCommand q slot load)).fw.svnMin = s.fw.svnMin := by
  unfold State.keyCommand
  simp only []
  repeat' split
  all_goals first
    | exact State.refused_svnMin ..
    | exact (State.ok_svnMin ..).trans (State.finishKey_svnMin ..)
    | with_reducible rfl
    | rfl
theorem State.purgeEntries_svnMin (s : State) (k : Nat) : (State.purgeEntries s k).fw.svnMin = s.fw.svnMin := by
  unfold State.purgeEntries
  (try simp only [each_svnMin, foldl_svnMin, when_svnMin, ite_svnMin, ite_fst_svnMin, ite_result_svnMin, ite_mbEnd_svnMin, ite_self, State.modRes_svnMin]); (repeat' (first | with_reducible rfl | (simp only [State.modRes_svnMin]; done) | (apply each_svnMin; intro _ _)))
theorem State.keyQuery_svnMin (s : State) (v : Nat) : (State.keyQuery s v).st.fw.svnMin = s.fw.svnMin := by
  unfold State.keyQuery
  simp only [ite_result_svnMin, ite_self, State.refused_svnMin, State.ok_svnMin, State.setCell_svnMin]
theorem State.debugUnlock_svnMin (s : State) (q : Requester) (token : Nat) : (State.debugUnlock s q token).st.fw.svnMin = s.fw.svnMin := by
  unfold State.debugUnlock
  simp only [ite_result_svnMin, ite_self, State.refused_svnMin, State.ok_svnMin, State.pevQ_svnMin, State.permitTest_svnMin]
theorem State.debugLock_svnMin (s : State) (v : Nat) : (State.debugLock s v).st.fw.svnMin = s.fw.svnMin := by
  unfold State.debugLock
  simp only [ite_result_svnMin, ite_self, State.refused_svnMin, State.ok_svnMin, State.relock_svnMin]
theorem execRootRepaired_svnMin (t : Nat) (part : Nat) (s : State) : ∃ u, execRootRepaired t part s = .next u ∧ u.fw.svnMin = s.fw.svnMin := by
  unfold execRootRepaired
  refine ⟨_, rfl, ?_⟩
  simp only [ite_svnMin, ite_self, State.tev_svnMin]
theorem State.adoptRoot_svnMin (s : State) (t : Nat) (part : Nat) : (State.adoptRoot s t part).fw.svnMin = s.fw.svnMin := by
  unfold State.adoptRoot
  (try simp only [State.pev_svnMin]); (repeat' (first | with_reducible rfl | (simp only [State.freshSeq_svnMin, State.modSeal_svnMin, State.dirtyCounter_svnMin]; done) | (apply each_svnMin; intro _ _) | (rw [each_svnMin] <;> (try intro _ _))))
theorem State.sealRootAdopt_svnMin (s : State) (part : Nat) (t : Nat) : (State.sealRootAdopt s part t).st.fw.svnMin = s.fw.svnMin := by
  unfold State.sealRootAdopt
  simp only [ite_result_svnMin, ite_self, State.refused_svnMin, State.ok_svnMin, State.adoptRoot_svnMin]
theorem State.unhold_svnMin (s : State) (r : Req) (slice : Nat) : (State.unhold s r slice).fw.svnMin = s.fw.svnMin := by
  unfold State.unhold
  simp only [ite_svnMin, ite_self, State.noteCredits_svnMin, State.modPort_svnMin, State.modRd_svnMin]
theorem execFeedAdmit_svnMin (slice : Nat) (engine : Bool) (pred : Nat) (s : State) : ∃ u, execFeedAdmit slice engine pred s = .next u ∧ u.fw.svnMin = s.fw.svnMin := by
  unfold execFeedAdmit
  refine ⟨_, rfl, ?_⟩
  try simp only []
  (repeat' (first | with_reducible rfl | (simp only [State.refuse_svnMin, State.unhold_svnMin, State.admitFeed_svnMin, State.lookup_svnMin]; done) | (apply each_svnMin; intro _ _) | (rw [each_svnMin] <;> (try intro _ _)) | split))
theorem execDebugAccess_svnMin (session : Nat) (dpa : Nat) (kx : Nat) (write : Bool) (mask : ByteMask) (data : Line) (pred : Nat) (s : State) : ∃ u, execDebugAccess session dpa kx write mask data pred s = .next u ∧ u.fw.svnMin = s.fw.svnMin := by
  unfold execDebugAccess
  refine ⟨_, rfl, ?_⟩
  try simp only []
  (repeat' (first | with_reducible rfl | (simp only [ite_svnMin, State.refuse_svnMin, State.offer_svnMin]; done) | (apply each_svnMin; intro _ _) | (rw [each_svnMin] <;> (try intro _ _)) | split))
theorem execUrgencySample_svnMin (port : Nat) (level : Nat) (s : State) : ∃ u, execUrgencySample port level s = .next u ∧ u.fw.svnMin = s.fw.svnMin := by
  unfold execUrgencySample
  refine ⟨_, rfl, ?_⟩
  simp only [ite_svnMin, ite_self, State.modPort_svnMin]
theorem State.classHeldClear_svnMin (s : State) (c : Nat) (v : Nat) : (State.classHeldClear s c v).st.fw.svnMin = s.fw.svnMin := by
  unfold State.classHeldClear
  simp only [ite_result_svnMin, ite_self, State.refused_svnMin, State.ok_svnMin, State.modCls_svnMin]
theorem State.sampleDemand_svnMin (s : State) (t : Nat) (k : Nat) : (State.sampleDemand s t k).fw.svnMin = s.fw.svnMin := by
  unfold State.sampleDemand
  simp only [State.modRd_svnMin]
theorem State.reallot_svnMin (s : State) (t : Nat) : (State.reallot s t).fw.svnMin = s.fw.svnMin := by
  unfold State.reallot
  simp only [State.modRd_svnMin]
theorem State.giveGrant_svnMin (s : State) (t : Nat) (total : Nat) (reserve : Nat) (lost : Nat) : (State.giveGrant s t total reserve lost).fw.svnMin = s.fw.svnMin := by
  unfold State.giveGrant
  simp only [State.tcount_svnMin]
theorem State.noGrantFor_svnMin (s : State) (t : Nat) : (State.noGrantFor s t).fw.svnMin = s.fw.svnMin := by
  unfold State.noGrantFor
  simp only [ite_svnMin, ite_self, State.giveGrant_svnMin, State.tev_svnMin, State.raise_svnMin]
theorem execEpochEnd_svnMin (lost : Nat) (s : State) : ∃ u, execEpochEnd lost s = .next u ∧ u.fw.svnMin = s.fw.svnMin := by
  unfold execEpochEnd
  refine ⟨_, rfl, ?_⟩
  (repeat' (first | with_reducible rfl | (simp only [implies_true, each_svnMin, ite_svnMin, ite_self, State.tcount_svnMin, State.giveGrant_svnMin, State.noGrantFor_svnMin, State.pev_svnMin, State.raise_svnMin, State.reallot_svnMin]; done)))
theorem execReservationsScaled_svnMin (cause : Nat) (s : State) : ∃ u, execReservationsScaled cause s = .next u ∧ u.fw.svnMin = s.fw.svnMin := by
  unfold execReservationsScaled
  refine ⟨_, rfl, ?_⟩
  simp only [ite_svnMin, ite_self, State.pev_svnMin, State.raise_svnMin, State.degrade_svnMin]
theorem execMemRd_svnMin (port : Nat) (id : Nat) (tag : Nat) (hpa : Nat) (pred : Nat) (s : State) : ∃ u, execMemRd port id tag hpa pred s = .next u ∧ u.fw.svnMin = s.fw.svnMin := by
  unfold execMemRd
  refine ⟨_, rfl, ?_⟩
  simp only [State.decodeFlit_svnMin]
theorem execMemSpecRd_svnMin (_port : Nat) (_id : Nat) (_tag : Nat) (_hpa : Nat) (s : State) : ∃ u, execMemSpecRd _port _id _tag _hpa s = .next u ∧ u.fw.svnMin = s.fw.svnMin := by
  unfold execMemSpecRd
  refine ⟨_, rfl, ?_⟩
  simp only []
theorem execMemInv_svnMin (port : Nat) (id : Nat) (tag : Nat) (s : State) : ∃ u, execMemInv port id tag s = .next u ∧ u.fw.svnMin = s.fw.svnMin := by
  unfold execMemInv
  refine ⟨_, rfl, ?_⟩
  simp only [ite_svnMin, ite_self, State.respondMem_svnMin, State.tcount_svnMin]
theorem execMemWr_svnMin (port : Nat) (id : Nat) (tag : Nat) (hpa : Nat) (data : Line) (poison : Bool) (s : State) : ∃ u, execMemWr port id tag hpa data poison s = .next u ∧ u.fw.svnMin = s.fw.svnMin := by
  unfold execMemWr
  refine ⟨_, rfl, ?_⟩
  simp only [State.decodeFlit_svnMin]
theorem execMemWrPtl_svnMin (port : Nat) (id : Nat) (tag : Nat) (hpa : Nat) (mask : ByteMask) (data : Line) (poison : Bool) (pred : Nat) (s : State) : ∃ u, execMemWrPtl port id tag hpa mask data poison pred s = .next u ∧ u.fw.svnMin = s.fw.svnMin := by
  unfold execMemWrPtl
  refine ⟨_, rfl, ?_⟩
  simp only [State.decodeFlit_svnMin]
theorem execMemUndefinedOpcode_svnMin (port : Nat) (id : Nat) (tag : Nat) (hpa : Nat) (expectsData : Bool) (s : State) : ∃ u, execMemUndefinedOpcode port id tag hpa expectsData s = .next u ∧ u.fw.svnMin = s.fw.svnMin := by
  unfold execMemUndefinedOpcode
  refine ⟨_, rfl, ?_⟩
  simp only [ite_svnMin, ite_self, State.refuse_svnMin, State.tcount_svnMin]
theorem State.directAfterAround_svnMin (s : State) (t : Nat) (rd : Rd) : (State.directAfterAround s t rd).fw.svnMin = s.fw.svnMin := by
  unfold State.directAfterAround
  simp only [ite_svnMin, ite_self, State.modRd_svnMin]
theorem State.toRebuild_svnMin (s : State) (t : Nat) (id : Nat) : (State.toRebuild s t id).fw.svnMin = s.fw.svnMin := by
  unfold State.toRebuild
  (repeat' split) <;> simp only [State.modRd_svnMin]
theorem State.readTransfer_svnMin (s : State) (t : Nat) (r : Rd) (q : Sense) : (s.readTransfer t r q).fw.svnMin = s.fw.svnMin := by
  unfold State.readTransfer
  simp only [ite_svnMin, State.transfer_svnMin, State.modRd_svnMin, ite_self]
theorem State.settleSpec_svnMin (s : State) (t : Nat) (r : Rd) (discarded : Bool) : (s.settleSpec t r discarded).fw.svnMin = s.fw.svnMin := by
  unfold State.settleSpec
  rw [State.modRd_svnMin, each_svnMin _ _ _ (fun _ _ => State.transfer_svnMin ..)]
theorem State.memberArrived_svnMin (s : State) (t : Nat) (rd : Rd) (pos : Nat) (d : Option Line) : (State.memberArrived s t rd pos d).fw.svnMin = s.fw.svnMin := by
  unfold State.memberArrived
  (repeat' split) <;> simp only [State.modRd_svnMin, State.directAfterAround_svnMin]
theorem State.targetArrived_svnMin (s : State) (t : Nat) (rd : Rd) (d : Option Line) (lost : Bool) : (State.targetArrived s t rd d lost).fw.svnMin = s.fw.svnMin := by
  unfold State.targetArrived
  (repeat' split) <;> simp only [ite_svnMin, ite_self, State.settleSpec_svnMin, State.deliver_svnMin, State.modRd_svnMin]
theorem execMediumReadDone_svnMin (t : Nat) (rd : Nat) (pos : Nat) (err : Codeword) (mute : Bool) (s : State) : ∃ u, execMediumReadDone t rd pos err mute s = .next u ∧ u.fw.svnMin = s.fw.svnMin := by
  unfold execMediumReadDone
  refine ⟨_, rfl, ?_⟩
  try simp only []
  (repeat' (first | with_reducible rfl | (simp only [State.readTransfer_svnMin, ite_svnMin, ite_self, State.modRd_svnMin, State.promote_svnMin, State.noteAnswer_svnMin, State.modRes_svnMin, State.noteDecode_svnMin, State.noteRead_svnMin, State.memberArrived_svnMin, State.targetArrived_svnMin, State.toRebuild_svnMin]; done) | (apply each_svnMin; intro _ _) | (rw [each_svnMin] <;> (try intro _ _)) | split))
theorem execStrokeLift_svnMin (t : Nat) (stroke : Nat) (s : State) : ∃ u, execStrokeLift t stroke s = .next u ∧ u.fw.svnMin = s.fw.svnMin := by
  unfold execStrokeLift
  refine ⟨_, rfl, ?_⟩
  try simp only []
  (repeat' (first | with_reducible rfl | (simp only [ite_svnMin, ite_self, State.tcount_svnMin, State.modRes_svnMin, State.promote_svnMin, State.modRd_svnMin]; done) | (apply each_svnMin; intro _ _) | (rw [each_svnMin] <;> (try intro _ _)) | split))
theorem execNibPositionFreed_svnMin (t : Nat) (pred : Nat) (s : State) : ∃ u, execNibPositionFreed t pred s = .next u ∧ u.fw.svnMin = s.fw.svnMin := by
  unfold execNibPositionFreed
  refine ⟨_, rfl, ?_⟩
  simp only [State.freedPosition_svnMin]
theorem execReadAroundDone_svnMin (t : Nat) (rd : Nat) (s : State) : ∃ u, execReadAroundDone t rd s = .next u ∧ u.fw.svnMin = s.fw.svnMin := by
  unfold execReadAroundDone
  refine ⟨_, rfl, ?_⟩
  try simp only []
  (repeat' (first | with_reducible rfl | (simp only [State.settleSpec_svnMin, ite_svnMin, ite_self, State.modRd_svnMin, State.deliver_svnMin]; done) | (apply each_svnMin; intro _ _) | (rw [each_svnMin] <;> (try intro _ _)) | split))
theorem State.noteMembers_svnMin (s : State) (t : Nat) (r : Rd) (c : Copy) (retry : Bool) (ps : List (Nat × Codeword)) : (State.noteMembers s t r c retry ps).fw.svnMin = s.fw.svnMin := by
  unfold State.noteMembers
  apply each_svnMin
  intro _ _
  simp only [State.transfer_svnMin, ite_svnMin, ite_self, State.noteRead_svnMin, State.noteDecode_svnMin]
theorem State.rebuilt_svnMin (s : State) (t : Nat) (r : Rd) (c : Copy) (pos : Nat) (d : Line) : (State.rebuilt s t r c pos d).fw.svnMin = s.fw.svnMin := by
  unfold State.rebuilt
  (repeat' split) <;> simp only [State.tev_svnMin, State.tcount_svnMin, State.modRd_svnMin, State.deliver_svnMin, State.repairMember_svnMin, State.integrityFail_svnMin, State.retireRd_svnMin]
theorem execLineRebuilt_svnMin (t : Nat) (rd : Nat) (errs : List Codeword) (s : State) : ∃ u, execLineRebuilt t rd errs s = .next u ∧ u.fw.svnMin = s.fw.svnMin := by
  unfold execLineRebuilt
  refine ⟨_, rfl, ?_⟩
  try simp only []
  (repeat' (first | with_reducible rfl | (simp only [State.settleSpec_svnMin, ite_svnMin, ite_self, State.noteMembers_svnMin, State.rebuilt_svnMin, State.modRd_svnMin]; done) | (apply each_svnMin; intro _ _) | (rw [each_svnMin] <;> (try intro _ _)) | split))
theorem State.retryWhole_svnMin (s : State) (t : Nat) (rd : Nat) (r : Rd) (target : Option Line) : (State.retryWhole s t rd r target).fw.svnMin = s.fw.svnMin := by
  unfold State.retryWhole
  (repeat' split) <;> simp only [State.modRd_svnMin, State.tev_svnMin, State.retireRd_svnMin, State.deliver_svnMin]
theorem State.retryOne_svnMin (s : State) (t : Nat) (rd : Nat) (r : Rd) (c : Copy) (p : Nat) (d : Line) (target : Option Line) : (State.retryOne s t rd r c p d target).fw.svnMin = s.fw.svnMin := by
  unfold State.retryOne
  (repeat' split) <;> simp only [State.modRd_svnMin, State.tev_svnMin, State.rebuilt_svnMin, State.deliver_svnMin]
theorem State.loseMembers_svnMin (s : State) (t : Nat) (r : Rd) (c : Copy) (lost : List Nat) : (State.loseMembers s t r c lost).fw.svnMin = s.fw.svnMin := by
  unfold State.loseMembers
  (try simp only []); (repeat' (first | with_reducible rfl | (simp only [State.forgetClean_svnMin, State.loseLine_svnMin]; done) | (apply each_svnMin; intro _ _) | (rw [each_svnMin] <;> (try intro _ _)) | split))
theorem State.retryBroken_svnMin (s : State) (t : Nat) (rd : Nat) (r : Rd) (c : Copy) (still : List Nat) (target : Option Line) : (State.retryBroken s t rd r c still target).fw.svnMin = s.fw.svnMin := by
  unfold State.retryBroken
  (repeat' split) <;> simp only [when_svnMin, State.poisonStripe_svnMin, State.loseMembers_svnMin, State.modRd_svnMin, State.modRes_svnMin, State.retireRd_svnMin, State.deliver_svnMin]
theorem execErasureRetry_svnMin (t rd : Nat) (errs : List Codeword) (s : State) : ∃ u, execErasureRetry t rd errs s = .next u ∧ u.fw.svnMin = s.fw.svnMin := by
  unfold execErasureRetry
  refine ⟨_, rfl, ?_⟩
  split
  · rfl
  · split
    · rfl
    · split
      · rfl
      · simp only []
        split
        · rw [State.retryWhole_svnMin, State.tcount_svnMin, State.noteMembers_svnMin]
        · rw [State.retryOne_svnMin, State.tcount_svnMin, State.noteMembers_svnMin]
        · rw [State.retryBroken_svnMin, State.tcount_svnMin, State.noteMembers_svnMin]
theorem execFetchDone_svnMin (t : Nat) (rd : Nat) (s : State) : ∃ u, execFetchDone t rd s = .next u ∧ u.fw.svnMin = s.fw.svnMin := by
  unfold execFetchDone
  refine ⟨_, rfl, ?_⟩
  try simp only []
  (repeat' (first | with_reducible rfl | (simp only [ite_svnMin, ite_self, State.noteGate_svnMin, State.mergeFetch_svnMin]; done) | (apply each_svnMin; intro _ _) | (rw [each_svnMin] <;> (try intro _ _)) | split))
theorem execHotBank_svnMin (t : Nat) (die : Nat) (bank : Nat) (s : State) : ∃ u, execHotBank t die bank s = .next u ∧ u.fw.svnMin = s.fw.svnMin := by
  unfold execHotBank
  refine ⟨_, rfl, ?_⟩
  simp only [ite_svnMin, ite_self, State.tev_svnMin]
theorem State.readSvcClear_svnMin (s : State) (t : Nat) : (State.readSvcClear s t).fw.svnMin = s.fw.svnMin := by
  unfold State.readSvcClear
  simp only [State.modRd_svnMin]
theorem State.noteNoMem_svnMin (s : State) (p : Nat) (rate : Nat) (width : Nat) (flit : Nat) (cxl : Bool) : (State.noteNoMem s p rate width flit cxl).fw.svnMin = s.fw.svnMin := by
  unfold State.noteNoMem
  simp only [ite_svnMin, ite_self, State.degrade_svnMin, State.tev_svnMin]
theorem execLinkTrained_svnMin (port : Nat) (rate : Nat) (width : Nat) (flit : Nat) (cxl : Bool) (s : State) : ∃ u, execLinkTrained port rate width flit cxl s = .next u ∧ u.fw.svnMin = s.fw.svnMin := by
  unfold execLinkTrained
  refine ⟨_, rfl, ?_⟩
  simp only [ite_svnMin, ite_self, State.modPort_svnMin, State.noteNoMem_svnMin]
theorem execLinkRetrained_svnMin (port : Nat) (rate : Nat) (width : Nat) (s : State) : ∃ u, execLinkRetrained port rate width s = .next u ∧ u.fw.svnMin = s.fw.svnMin := by
  unfold execLinkRetrained
  refine ⟨_, rfl, ?_⟩
  simp only [ite_svnMin, ite_self, State.tcount_svnMin, State.modPort_svnMin, State.tev_svnMin, State.raise_svnMin, State.noteNoMem_svnMin]
theorem execLinkDown_svnMin (port : Nat) (cause : Nat) (s : State) : ∃ u, execLinkDown port cause s = .next u ∧ u.fw.svnMin = s.fw.svnMin := by
  unfold execLinkDown
  refine ⟨_, rfl, ?_⟩
  simp only [ite_svnMin, ite_self, State.linkDown_svnMin]
theorem execLinkReplay_svnMin (port : Nat) (flits : Nat) (s : State) : ∃ u, execLinkReplay port flits s = .next u ∧ u.fw.svnMin = s.fw.svnMin := by
  unfold execLinkReplay
  refine ⟨_, rfl, ?_⟩
  simp only [ite_svnMin, ite_self, State.tcount_svnMin]
theorem execPbrIdAssigned_svnMin (port : Nat) (id : Nat) (s : State) : ∃ u, execPbrIdAssigned port id s = .next u ∧ u.fw.svnMin = s.fw.svnMin := by
  unfold execPbrIdAssigned
  refine ⟨_, rfl, ?_⟩
  simp only [ite_svnMin, ite_self, State.modPort_svnMin]
theorem execCxlLdReset_svnMin (port : Nat) (ld : Nat) (s : State) : ∃ u, execCxlLdReset port ld s = .next u ∧ u.fw.svnMin = s.fw.svnMin := by
  unfold execCxlLdReset
  refine ⟨_, rfl, ?_⟩
  simp only [ite_svnMin, ite_self, State.dropMailbox_svnMin, State.discard_svnMin]
theorem execFunctionLevelReset_svnMin (port : Nat) (ld : Nat) (s : State) : ∃ u, execFunctionLevelReset port ld s = .next u ∧ u.fw.svnMin = s.fw.svnMin := by
  unfold execFunctionLevelReset
  refine ⟨_, rfl, ?_⟩
  simp only [ite_svnMin, ite_self, State.dropMailbox_svnMin]
theorem execIdeKeyRefresh_svnMin (port : Nat) (stream : Nat) (mode : Nat) (session : Nat) (key : Key256) (s : State) : ∃ u, execIdeKeyRefresh port stream mode session key s = .next u ∧ u.fw.svnMin = s.fw.svnMin := by
  unfold execIdeKeyRefresh
  refine ⟨_, rfl, ?_⟩
  simp only [ite_svnMin, ite_self, State.modPort_svnMin]
theorem execIdeFailure_svnMin (port : Nat) (stream : Nat) (dpas : List Nat) (s : State) : ∃ u, execIdeFailure port stream dpas s = .next u ∧ u.fw.svnMin = s.fw.svnMin := by
  unfold execIdeFailure
  refine ⟨_, rfl, ?_⟩
  simp only [ite_svnMin, ite_self, State.tev_svnMin, State.raise_svnMin, State.linkDown_svnMin]
theorem State.modDecoder_svnMin (s : State) (p : Nat) (l : Nat) (i : Nat) (f : Decoder → Decoder) : (State.modDecoder s p l i f).fw.svnMin = s.fw.svnMin := by
  unfold State.modDecoder
  simp only [State.modLd_svnMin]
theorem execHdmDecoderCommit_svnMin (port : Nat) (ld : Nat) (dec : Nat) (base : Nat) (size : Nat) (ways : Nat) (gran : Nat) (skip : Nat) (lock : Bool) (s : State) : ∃ u, execHdmDecoderCommit port ld dec base size ways gran skip lock s = .next u ∧ u.fw.svnMin = s.fw.svnMin := by
  unfold execHdmDecoderCommit
  refine ⟨_, rfl, ?_⟩
  simp only [ite_svnMin, ite_self, State.modDecoder_svnMin]
theorem execHdmDecoderUncommit_svnMin (port : Nat) (ld : Nat) (dec : Nat) (s : State) : ∃ u, execHdmDecoderUncommit port ld dec s = .next u ∧ u.fw.svnMin = s.fw.svnMin := by
  unfold execHdmDecoderUncommit
  refine ⟨_, rfl, ?_⟩
  simp only [ite_svnMin, ite_self, State.modDecoder_svnMin]
theorem State.modRec_svnMin (s : State) (r : Nat) (f : Recorder → Recorder) : (State.modRec s r f).fw.svnMin = s.fw.svnMin := by
  unfold State.modRec
  simp only []
theorem State.mergeOcc_svnMin (s : State) (r : Nat) (o : Occ) : (State.mergeOcc s r o).1.fw.svnMin = s.fw.svnMin := by
  unfold State.mergeOcc
  (try simp only [ite_fst_svnMin, State.count_svnMin, State.modRec_svnMin]); (repeat' (first | with_reducible rfl | (simp only [ite_svnMin, ite_self, State.count_svnMin, State.modRec_svnMin, State.raise_svnMin]; done) | (apply each_svnMin; intro _ _) | (rw [each_svnMin] <;> (try intro _ _)) | split))
theorem State.postLog_svnMin (s : State) (k : Nat) (log : Nat) (kind : Nat) (code : Nat) (ts : Nat) (bytes : Nat) : (State.postLog s k log kind code ts bytes).fw.svnMin = s.fw.svnMin := by
  unfold State.postLog
  simp only [ite_svnMin, ite_self, State.modLd_svnMin]
theorem State.post_svnMin (s : State) (o : Occ) (bytes : List Nat) : (State.post s o bytes).fw.svnMin = s.fw.svnMin := by
  unfold State.post
  (repeat' (first | with_reducible rfl | (simp only [implies_true, each_svnMin, ite_svnMin, ite_self, State.postLog_svnMin]; done) | split))
theorem State.wantSave_svnMin (s : State) (r : Nat) (grave : Bool) : (State.wantSave s r grave).fw.svnMin = s.fw.svnMin := by
  unfold State.wantSave
  (try simp only [each_svnMin, foldl_svnMin, when_svnMin, ite_svnMin, ite_fst_svnMin, ite_result_svnMin, ite_mbEnd_svnMin, ite_self, State.modRec_svnMin]); (repeat' (first | with_reducible rfl | (simp only [State.modRec_svnMin]; done) | (apply each_svnMin; intro _ _)))
theorem State.publish_svnMin (s : State) (r : Nat) : (State.publish s r).fw.svnMin = s.fw.svnMin := by
  unfold State.publish
  (try simp only [ite_svnMin, ite_self, State.alert_svnMin, State.wantSave_svnMin]); (repeat' (first | with_reducible rfl | (simp only [ite_svnMin, ite_self, State.mergeOcc_svnMin, State.post_svnMin]; done) | (apply each_svnMin; intro _ _)))
theorem State.saveRecorder_svnMin (s : State) (t : Nat) : (State.saveRecorder s t).fw.svnMin = s.fw.svnMin := by
  unfold State.saveRecorder
  simp only [State.modPs_svnMin, State.count_svnMin, State.modRec_svnMin]
theorem execRecSave_svnMin (t : Nat) (s : State) : ∃ u, execRecSave t s = .next u ∧ u.fw.svnMin = s.fw.svnMin := by
  unfold execRecSave
  refine ⟨_, rfl, ?_⟩
  simp only [ite_svnMin, ite_self, State.modRec_svnMin, State.saveRecorder_svnMin]
theorem State.loadRecorder_svnMin (s : State) (t : Nat) (torn : List Nat) : (State.loadRecorder s t torn).fw.svnMin = s.fw.svnMin := by
  unfold State.loadRecorder
  simp only [ite_svnMin, ite_self, State.modRec_svnMin, State.tev_svnMin, State.raise_svnMin]
theorem State.loadPackage_svnMin (s : State) : (State.loadPackage s).fw.svnMin = s.fw.svnMin := by
  unfold State.loadPackage
  simp only [State.modRec_svnMin]
theorem State.recClear_svnMin (s : State) (v : Nat) : (OpEnd.after s (s.recClear v)).fw.svnMin = s.fw.svnMin := by
  unfold State.recClear
  split
  · exact State.refused_svnMin ..
  · simp only []
    split
    · exact State.refused_svnMin ..
    · exact (State.pev_svnMin ..).trans (each_svnMin _ _ _ (fun _ _ => State.modRec_svnMin ..))
theorem State.recRelease_svnMin (s : State) (r v : Nat) : (OpEnd.after s (s.recRelease r v)).fw.svnMin = s.fw.svnMin := by
  unfold State.recRelease
  repeat' split
  all_goals first
    | exact State.refused_svnMin ..
    | exact State.modRec_svnMin ..
theorem State.enablePart_svnMin (s : State) (p : Nat) (x : PartInfo) : (State.enablePart s p x).fw.svnMin = s.fw.svnMin := by
  unfold State.enablePart
  (try simp only [ite_svnMin, State.pev_svnMin]); (repeat' (first | with_reducible rfl | (simp only [ite_self, State.modTile_svnMin]; done) | (apply each_svnMin; intro _ _) | (rw [each_svnMin] <;> (try intro _ _))))
theorem State.dropPart_svnMin (s : State) (t : Nat) (p : Nat) (x : PartInfo) : (State.dropPart s t p x).fw.svnMin = s.fw.svnMin := by
  unfold State.dropPart
  (try simp only [ite_svnMin, ite_self, State.modMap_svnMin, State.discardFlip_svnMin]); (repeat' (first | with_reducible rfl | (simp only [State.shadowFor_svnMin, State.modRes_svnMin, State.abandonMigration_svnMin]; done) | (apply each_svnMin; intro _ _) | (rw [each_svnMin] <;> (try intro _ _))))
theorem State.disablePart_svnMin (s : State) (p : Nat) : (State.disablePart s p).fw.svnMin = s.fw.svnMin := by
  unfold State.disablePart
  (try simp only [ite_svnMin, ite_self, State.abortScrub_svnMin]); (repeat' (first | with_reducible rfl | (simp only [State.dropPart_svnMin]; done) | (apply each_svnMin; intro _ _)))
theorem State.releaseIn_svnMin (s : State) (t : Nat) (p : Nat) : (State.releaseIn s t p).fw.svnMin = s.fw.svnMin := by
  unfold State.releaseIn
  (try simp only [State.modMap_svnMin, State.modRes_svnMin, State.modPs_svnMin, State.noteSpares_svnMin, State.modTile_svnMin]); (repeat' (first | with_reducible rfl | (simp only [ite_svnMin, ite_self, State.release_svnMin]; done) | (apply each_svnMin; intro _ _)))
theorem execPartitionReleased_svnMin (p : Nat) (s : State) : ∃ u, execPartitionReleased p s = .next u ∧ u.fw.svnMin = s.fw.svnMin := by
  unfold execPartitionReleased
  refine ⟨_, rfl, ?_⟩
  (repeat' (first | with_reducible rfl | (simp only [implies_true, each_svnMin, ite_svnMin, ite_self, State.releaseIn_svnMin, State.pev_svnMin]; done)))
theorem State.atWindow_svnMin (s : State) (p l w : Nat) (f : State → Nat → Nat → State) (h : ∀ t q, (f s t q).fw.svnMin = s.fw.svnMin) : (s.atWindow p l w f).fw.svnMin = s.fw.svnMin := by
  unfold State.atWindow
  split
  · rfl
  · split
    · exact h ..
    · rfl
theorem State.scribeBit_svnMin (s : State) (t : Nat) (b : Nat) : (State.scribeBit s t b).fw.svnMin = s.fw.svnMin := by
  unfold State.scribeBit
  simp only [State.raise_svnMin]
theorem State.descIn_svnMin (s : State) (aligned : Bool) (word : Nat) (t : Nat) (q : Nat) : (State.descIn s aligned word t q).fw.svnMin = s.fw.svnMin := by
  unfold State.descIn
  simp only [ite_svnMin, ite_self, State.tcount_svnMin, State.modQueue_svnMin, State.tev_svnMin, State.scribeBit_svnMin]
theorem execDescIn_svnMin (port : Nat) (ld : Nat) (window : Nat) (word : Nat) (aligned : Bool) (s : State) : ∃ u, execDescIn port ld window word aligned s = .next u ∧ u.fw.svnMin = s.fw.svnMin := by
  unfold execDescIn
  refine ⟨_, rfl, ?_⟩
  try simp only []
  (repeat' (first | with_reducible rfl | (simp only [State.descIn_svnMin]; done) | (apply each_svnMin; intro _ _) | (rw [each_svnMin] <;> (try intro _ _)) | split | (refine State.atWindow_svnMin _ _ _ _ _ (fun _ _ => ?_))))
theorem execQFlush_svnMin (port : Nat) (ld : Nat) (window : Nat) (s : State) : ∃ u, execQFlush port ld window s = .next u ∧ u.fw.svnMin = s.fw.svnMin := by
  unfold execQFlush
  refine ⟨_, rfl, ?_⟩
  try simp only []
  (repeat' (first | with_reducible rfl | (simp only [State.tcount_svnMin, State.modQueue_svnMin]; done) | (apply each_svnMin; intro _ _) | (rw [each_svnMin] <;> (try intro _ _)) | split | (refine State.atWindow_svnMin _ _ _ _ _ (fun _ _ => ?_))))
theorem execQResync_svnMin (port : Nat) (ld : Nat) (window : Nat) (s : State) : ∃ u, execQResync port ld window s = .next u ∧ u.fw.svnMin = s.fw.svnMin := by
  unfold execQResync
  refine ⟨_, rfl, ?_⟩
  try simp only []
  (repeat' (first | with_reducible rfl | (simp only [State.tcount_svnMin, State.modQueue_svnMin]; done) | (apply each_svnMin; intro _ _) | (rw [each_svnMin] <;> (try intro _ _)) | split | (refine State.atWindow_svnMin _ _ _ _ _ (fun _ _ => ?_))))
theorem State.moveHead_svnMin (head : Nat) (s : State) (t q : Nat) : (State.moveHead head s t q).fw.svnMin = s.fw.svnMin := by
  have h : ∀ (c : Prop) [Decidable c] (f : Queue → Queue), (if c then s.modQueue t q f else s).fw.svnMin = s.fw.svnMin := by
    intro c _ f
    split
    · rw [State.modQueue_svnMin]
    · rfl
  exact h ..
theorem execCqHeadWrite_svnMin (port ld window head : Nat) (s : State) : ∃ u, execCqHeadWrite port ld window head s = .next u ∧ u.fw.svnMin = s.fw.svnMin := by
  exact ⟨_, rfl, State.atWindow_svnMin _ _ _ _ _ (State.moveHead_svnMin head s)⟩
theorem State.issue_svnMin (s : State) (t : Nat) (q : Nat) (i : Nat) (a : LineOp) : (State.issue s t q i a).fw.svnMin = s.fw.svnMin := by
  unfold State.issue
  (try simp only []); (repeat' (first | with_reducible rfl | (simp only [State.modQueue_svnMin, State.tcount_svnMin, State.refuse_svnMin, State.offer_svnMin]; done) | (apply each_svnMin; intro _ _) | (rw [each_svnMin] <;> (try intro _ _)) | split))
theorem State.tryRecord_svnMin (s : State) (t : Nat) (q : Nat) : (State.tryRecord s t q).fw.svnMin = s.fw.svnMin := by
  unfold State.tryRecord
  (try simp only [ite_svnMin]); (repeat' (first | with_reducible rfl | (simp only [State.modQueue_svnMin, State.issue_svnMin]; done) | (apply each_svnMin; intro _ _) | (rw [each_svnMin] <;> (try intro _ _)) | split))
theorem State.endDesc_svnMin (s : State) (t : Nat) (q : Nat) (d : Desc) : (State.endDesc s t q d).fw.svnMin = s.fw.svnMin := by
  unfold State.endDesc
  simp only [ite_svnMin, ite_self, State.tcount_svnMin, State.tev_svnMin, State.modQueue_svnMin, State.tryRecord_svnMin]
theorem State.queueMsix_svnMin (s : State) (t : Nat) (q : Nat) (d : Desc) : (State.queueMsix s t q d).fw.svnMin = s.fw.svnMin := by
  unfold State.queueMsix
  simp only [ite_svnMin, ite_self, State.tcount_svnMin]
theorem State.recordDone_svnMin (s : State) (t : Nat) (q : Nat) (d : Desc) (a : Arrival) : (State.recordDone s t q d a).fw.svnMin = s.fw.svnMin := by
  unfold State.recordDone
  simp only [ite_svnMin, ite_self, State.modQueue_svnMin, State.tcount_svnMin, State.tev_svnMin, State.tryRecord_svnMin, State.queueMsix_svnMin, State.scribeBit_svnMin]
theorem State.descViolation_svnMin (s : State) (t : Nat) (q : Nat) (tile : Nat) (cause : Nat) (dpa : Nat) : (State.descViolation s t q tile cause dpa).fw.svnMin = s.fw.svnMin := by
  unfold State.descViolation
  simp only [State.violate_svnMin]
theorem State.startDesc_svnMin (s : State) (t : Nat) (q : Nat) (g : Group) (ecc : List Nat) : (State.startDesc s t q g ecc).fw.svnMin = s.fw.svnMin := by
  unfold State.startDesc
  (repeat' (first | with_reducible rfl | (simp only [implies_true, each_svnMin, ite_svnMin, ite_self, State.modRd_svnMin, State.modQueue_svnMin, State.tcount_svnMin, State.endDesc_svnMin, State.tev_svnMin, State.scribeBit_svnMin, State.descViolation_svnMin, State.raise_svnMin]; done) | split))
theorem execDescriptorStart_svnMin (t : Nat) (ecc : List Nat) (s : State) : ∃ u, execDescriptorStart t ecc s = .next u ∧ u.fw.svnMin = s.fw.svnMin := by
  unfold execDescriptorStart
  refine ⟨_, rfl, ?_⟩
  try simp only []
  (repeat' (first | with_reducible rfl | (simp only [ite_svnMin, State.startDesc_svnMin]; done) | (apply each_svnMin; intro _ _) | (rw [each_svnMin] <;> (try intro _ _)) | split))
theorem State.engineStep_svnMin (s : State) (t : Nat) (q : Nat) (i : Nat) (op : Nat) : (State.engineStep s t q i op).fw.svnMin = s.fw.svnMin := by
  unfold State.engineStep
  (repeat' split) <;> simp only [State.issue_svnMin, State.modQueue_svnMin]
theorem execCopy_svnMin (t : Nat) (q : Nat) (desc : Nat) (s : State) : ∃ u, execCopy t q desc s = .next u ∧ u.fw.svnMin = s.fw.svnMin := by
  unfold execCopy
  refine ⟨_, rfl, ?_⟩
  simp only [State.engineStep_svnMin]
theorem execFill_svnMin (t : Nat) (q : Nat) (desc : Nat) (s : State) : ∃ u, execFill t q desc s = .next u ∧ u.fw.svnMin = s.fw.svnMin := by
  unfold execFill
  refine ⟨_, rfl, ?_⟩
  simp only [State.engineStep_svnMin]
theorem execZero_svnMin (t : Nat) (q : Nat) (desc : Nat) (s : State) : ∃ u, execZero t q desc s = .next u ∧ u.fw.svnMin = s.fw.svnMin := by
  unfold execZero
  refine ⟨_, rfl, ?_⟩
  simp only [State.engineStep_svnMin]
theorem execCrc32c_svnMin (t : Nat) (q : Nat) (desc : Nat) (s : State) : ∃ u, execCrc32c t q desc s = .next u ∧ u.fw.svnMin = s.fw.svnMin := by
  unfold execCrc32c
  refine ⟨_, rfl, ?_⟩
  simp only [State.engineStep_svnMin]
theorem execCompare_svnMin (t : Nat) (q : Nat) (desc : Nat) (s : State) : ∃ u, execCompare t q desc s = .next u ∧ u.fw.svnMin = s.fw.svnMin := by
  unfold execCompare
  refine ⟨_, rfl, ?_⟩
  simp only [State.engineStep_svnMin]
theorem execCas64_svnMin (t : Nat) (q : Nat) (desc : Nat) (s : State) : ∃ u, execCas64 t q desc s = .next u ∧ u.fw.svnMin = s.fw.svnMin := by
  unfold execCas64
  refine ⟨_, rfl, ?_⟩
  simp only [State.engineStep_svnMin]
theorem execFadd64_svnMin (t : Nat) (q : Nat) (desc : Nat) (s : State) : ∃ u, execFadd64 t q desc s = .next u ∧ u.fw.svnMin = s.fw.svnMin := by
  unfold execFadd64
  refine ⟨_, rfl, ?_⟩
  simp only [State.engineStep_svnMin]
theorem execLogAppend_svnMin (t : Nat) (q : Nat) (desc : Nat) (s : State) : ∃ u, execLogAppend t q desc s = .next u ∧ u.fw.svnMin = s.fw.svnMin := by
  unfold execLogAppend
  refine ⟨_, rfl, ?_⟩
  simp only [State.engineStep_svnMin]
theorem execNotify_svnMin (t : Nat) (q : Nat) (desc : Nat) (s : State) : ∃ u, execNotify t q desc s = .next u ∧ u.fw.svnMin = s.fw.svnMin := by
  unfold execNotify
  refine ⟨_, rfl, ?_⟩
  simp only [State.engineStep_svnMin]
theorem State.armBarrier_svnMin (s : State) (t : Nat) (q : Nat) (i : Nat) (op : Nat) : (State.armBarrier s t q i op).fw.svnMin = s.fw.svnMin := by
  unfold State.armBarrier
  (repeat' split) <;> simp only [State.modQueue_svnMin]
theorem execBarLd_svnMin (t : Nat) (q : Nat) (desc : Nat) (s : State) : ∃ u, execBarLd t q desc s = .next u ∧ u.fw.svnMin = s.fw.svnMin := by
  unfold execBarLd
  refine ⟨_, rfl, ?_⟩
  simp only [State.armBarrier_svnMin]
theorem execBarSt_svnMin (t : Nat) (q : Nat) (desc : Nat) (s : State) : ∃ u, execBarSt t q desc s = .next u ∧ u.fw.svnMin = s.fw.svnMin := by
  unfold execBarSt
  refine ⟨_, rfl, ?_⟩
  simp only [State.armBarrier_svnMin]
theorem execBarAll_svnMin (t : Nat) (q : Nat) (desc : Nat) (s : State) : ∃ u, execBarAll t q desc s = .next u ∧ u.fw.svnMin = s.fw.svnMin := by
  unfold execBarAll
  refine ⟨_, rfl, ?_⟩
  simp only [State.armBarrier_svnMin]
theorem execScribeLineDone_svnMin (t : Nat) (q : Nat) (desc : Nat) (s : State) : ∃ u, execScribeLineDone t q desc s = .next u ∧ u.fw.svnMin = s.fw.svnMin := by
  unfold execScribeLineDone
  refine ⟨_, rfl, ?_⟩
  try simp only []
  (repeat' (first | with_reducible rfl | (simp only [ite_svnMin, ite_self, State.recordDone_svnMin, State.modQueue_svnMin, State.endDesc_svnMin]; done) | (apply each_svnMin; intro _ _) | (rw [each_svnMin] <;> (try intro _ _)) | split))
theorem execBarrierComplete_svnMin (t : Nat) (q : Nat) (s : State) : ∃ u, execBarrierComplete t q s = .next u ∧ u.fw.svnMin = s.fw.svnMin := by
  unfold execBarrierComplete
  refine ⟨_, rfl, ?_⟩
  try simp only []
  (repeat' (first | with_reducible rfl | (simp only [ite_svnMin, State.tcount_svnMin, State.endDesc_svnMin, State.tev_svnMin, State.raise_svnMin, State.modQueue_svnMin]; done) | (apply each_svnMin; intro _ _) | (rw [each_svnMin] <;> (try intro _ _)) | split))
theorem State.sqRestart_svnMin (s : State) (t : Nat) (q : Nat) (v : Nat) : (State.sqRestart s t q v).st.fw.svnMin = s.fw.svnMin := by
  unfold State.sqRestart
  simp only [ite_result_svnMin, ite_self, State.refused_svnMin, State.ok_svnMin, State.tryRecord_svnMin, State.modQueue_svnMin]
theorem State.abandonRecord_svnMin (s : State) (t : Nat) (q : Nat) : (State.abandonRecord s t q).fw.svnMin = s.fw.svnMin := by
  unfold State.abandonRecord
  simp only [State.tryRecord_svnMin, State.modQueue_svnMin]
theorem State.stopQueues_svnMin (s : State) : (State.stopQueues s).fw.svnMin = s.fw.svnMin := by
  unfold State.stopQueues
  (try simp only [each_svnMin, foldl_svnMin, when_svnMin, ite_svnMin, ite_fst_svnMin, ite_result_svnMin, ite_mbEnd_svnMin, ite_self, State.abandonQueues_svnMin]); (repeat' (first | with_reducible rfl | (simp only [State.abandonQueues_svnMin]; done) | (apply each_svnMin; intro _ _)))
theorem State.overlay_svnMin (s : State) (items : Items) : (State.overlay s items).fw.svnMin = s.fw.svnMin := by
  unfold State.overlay
  simp only []
theorem State.setLimits_svnMin (s : State) : (State.setLimits s).fw.svnMin = s.fw.svnMin := by
  unfold State.setLimits
  (try simp only [State.degrade_svnMin]); (repeat' (first | with_reducible rfl | (simp only [ite_svnMin, ite_self, State.modRes_svnMin, State.tev_svnMin, State.noteGate_svnMin]; done) | (apply each_svnMin; intro _ _)))
theorem State.noteCdat_svnMin (s : State) (before : State) : (State.noteCdat s before).fw.svnMin = s.fw.svnMin := by
  unfold State.noteCdat
  simp only [ite_svnMin, ite_self, State.setCell_svnMin]
theorem State.applyQueue_svnMin (s : State) (i : Nat) (v : Nat) : (State.applyQueue s i v).fw.svnMin = s.fw.svnMin := by
  unfold State.applyQueue
  simp only [ite_svnMin, ite_self, State.modQueue_svnMin]
theorem State.saveConfig_svnMin (s : State) (t : Nat) (items : Items) : (State.saveConfig s t items).fw.svnMin = s.fw.svnMin := by
  unfold State.saveConfig
  simp only [State.modPs_svnMin, State.pageCommit_svnMin]
theorem State.applySet_svnMin (s : State) (items : Items) : (State.applySet s items).fw.svnMin = s.fw.svnMin := by
  unfold State.applySet
  (repeat' (first | with_reducible rfl | (simp only [implies_true, each_svnMin, ite_svnMin, ite_self, State.overlay_svnMin, State.disablePart_svnMin, State.enablePart_svnMin, State.applyQueue_svnMin, State.modCls_svnMin, State.setLimits_svnMin, State.saveConfig_svnMin, State.noteCdat_svnMin]; done)))
theorem State.setCommitStatus_svnMin (s : State) (result : Nat) (q : Requester) : (State.setCommitStatus s result q).fw.svnMin = s.fw.svnMin := by
  unfold State.setCommitStatus
  (try simp only []); (repeat' (first | with_reducible rfl | (simp only [State.modPs_svnMin]; done) | (apply each_svnMin; intro _ _)))
theorem State.commitWhole_svnMin (s : State) (q : Requester) (items : Items) : (State.commitWhole s q items).fw.svnMin = s.fw.svnMin := by
  unfold State.commitWhole
  (try simp only [State.applySet_svnMin, State.setCommitStatus_svnMin, State.setCell_svnMin, State.pev_svnMin, State.count_svnMin]); (repeat' (first | with_reducible rfl | (simp only [State.pageCommit_svnMin]; done) | (apply each_svnMin; intro _ _)))
theorem State.commitSet_svnMin (s : State) (q : Requester) (expected : Nat) (set : Items) : (State.commitSet s q expected set).1.fw.svnMin = s.fw.svnMin := by
  unfold State.commitSet
  (try simp only [ite_fst_svnMin, State.count_svnMin, State.setCommitStatus_svnMin]); (repeat' (first | with_reducible rfl | (simp only [ite_svnMin, ite_self, State.count_svnMin, State.setCommitStatus_svnMin, State.commitWhole_svnMin, State.pev_svnMin]; done) | (apply each_svnMin; intro _ _) | (rw [each_svnMin] <;> (try intro _ _)) | split))
theorem State.commitTorn_svnMin (s : State) (q : Requester) : (State.commitTorn s q).fw.svnMin = s.fw.svnMin := by
  unfold State.commitTorn
  simp only [State.pev_svnMin, State.raise_svnMin, State.setCommitStatus_svnMin]
theorem State.settleJournal_svnMin (s : State) : (State.settleJournal s).fw.svnMin = s.fw.svnMin := by
  unfold State.settleJournal
  (repeat' split) <;> simp only [State.commitWhole_svnMin, State.commitTorn_svnMin]
theorem State.cutMain_svnMin (s : State) : (State.cutMain s).fw.svnMin = s.fw.svnMin := by
  unfold State.cutMain
  simp only []
theorem State.saveRoots_svnMin (s : State) (t : Nat) : (State.saveRoots s t).fw.svnMin = s.fw.svnMin := by
  unfold State.saveRoots
  simp only [State.modPs_svnMin, State.pageCommit_svnMin]
theorem State.isoDone_svnMin (s : State) (t : Nat) : (State.isoDone s t).fw.svnMin = s.fw.svnMin := by
  unfold State.isoDone
  simp only [ite_svnMin, ite_self, State.modPs_svnMin, State.pageCommit_svnMin, State.saveRoots_svnMin, State.saveRecorder_svnMin, State.tev_svnMin, State.modFence_svnMin]
theorem State.isoFail_svnMin (s : State) (t : Nat) : (State.isoFail s t).fw.svnMin = s.fw.svnMin := by
  unfold State.isoFail
  (try simp only [State.modFence_svnMin, State.pevAt_svnMin]); (repeat' (first | with_reducible rfl | (simp only [State.loseLine_svnMin]; done) | (apply each_svnMin; intro _ _)))
theorem execIsolationFlushEnd_svnMin (t : Nat) (s : State) : ∃ u, execIsolationFlushEnd t s = .next u ∧ u.fw.svnMin = s.fw.svnMin := by
  unfold execIsolationFlushEnd
  refine ⟨_, rfl, ?_⟩
  simp only [ite_svnMin, ite_self, State.isoDone_svnMin, State.isoFail_svnMin]
theorem State.idlePort_svnMin (s : State) (cause : Nat) (p : Nat) : (State.idlePort s cause p).fw.svnMin = s.fw.svnMin := by
  unfold State.idlePort
  simp only [ite_svnMin, ite_self, State.linkDown_svnMin, State.raise_svnMin, State.discard_svnMin, State.modPort_svnMin]
theorem State.drainTile_svnMin (s : State) (t : Nat) : (State.drainTile s t).fw.svnMin = s.fw.svnMin := by
  unfold State.drainTile
  (try simp only [State.modRd_svnMin, State.modRes_svnMin, State.modPat_svnMin]); (repeat' (first | with_reducible rfl | (simp only [State.discardFlip_svnMin, State.abandonMigration_svnMin]; done) | (apply each_svnMin; intro _ _) | (rw [each_svnMin] <;> (try intro _ _))))
theorem State.abandonUpdate_svnMin (s : State) : (State.abandonUpdate s).fw.svnMin = s.fw.svnMin := by
  unfold State.abandonUpdate
  simp only [ite_svnMin, ite_self, State.pev_svnMin, State.alert_svnMin]
theorem State.keepErase_svnMin (s : State) : (State.keepErase s).fw.svnMin = s.fw.svnMin := by
  unfold State.keepErase
  (try simp only [ite_svnMin]); (repeat' (first | with_reducible rfl | (simp only [ite_self, State.modPs_svnMin]; done) | (apply each_svnMin; intro _ _) | (rw [each_svnMin] <;> (try intro _ _))))
theorem State.dropKeyChange_svnMin (s : State) : (State.dropKeyChange s).fw.svnMin = s.fw.svnMin := by
  unfold State.dropKeyChange
  (repeat' split) <;> simp only []
theorem State.noteSeen_svnMin (s : State) (c : Nat) : (State.noteSeen s c).fw.svnMin = s.fw.svnMin := by
  unfold State.noteSeen
  simp only []
theorem State.enterDrain_svnMin (s : State) (c : Nat) : (State.enterDrain s c).fw.svnMin = s.fw.svnMin := by
  unfold State.enterDrain
  (try simp only [ite_svnMin, ite_self, State.cutMain_svnMin]); (repeat' (first | with_reducible rfl | (simp only [ite_svnMin, ite_self, State.count_svnMin, State.pev_svnMin, State.goto_svnMin, State.keepErase_svnMin, State.abandonUpdate_svnMin, State.abortScrub_svnMin, State.endSessions_svnMin, State.dropKeyChange_svnMin, State.stopQueues_svnMin, State.idlePort_svnMin, State.modFence_svnMin, State.drainTile_svnMin]; done) | (apply each_svnMin; intro _ _) | (rw [each_svnMin] <;> (try intro _ _))))
theorem State.railsOff_svnMin (s : State) : (State.railsOff s).fw.svnMin = s.fw.svnMin := by
  unfold State.railsOff
  simp only []
theorem State.resetPorts_svnMin (s : State) : (State.resetPorts s).fw.svnMin = s.fw.svnMin := by
  unfold State.resetPorts
  simp only []
theorem State.thermtrip_svnMin (s : State) (die : Nat) : (State.thermtrip s die).fw.svnMin = s.fw.svnMin := by
  unfold State.thermtrip
  simp only [ite_svnMin, ite_self, State.pev_svnMin, State.alert_svnMin, State.supplyBit_svnMin]
theorem State.keepCause_svnMin (s : State) : (State.keepCause s).fw.svnMin = s.fw.svnMin := by
  unfold State.keepCause
  (try simp only [each_svnMin, foldl_svnMin, when_svnMin, ite_svnMin, ite_fst_svnMin, ite_result_svnMin, ite_mbEnd_svnMin, ite_self, State.modPs_svnMin]); (repeat' (first | with_reducible rfl | (simp only [State.modPs_svnMin]; done) | (apply each_svnMin; intro _ _)))
theorem State.enterSafe_svnMin (s : State) : (State.enterSafe s).fw.svnMin = s.fw.svnMin := by
  unfold State.enterSafe
  (try simp only [ite_svnMin, ite_self, State.setCell_svnMin, State.goto_svnMin, State.keepCause_svnMin, State.thermtrip_svnMin, State.cutMain_svnMin, State.railsOff_svnMin, State.resetPorts_svnMin]); (repeat' (first | with_reducible rfl | (simp only [ite_svnMin, ite_self, State.isoFail_svnMin]; done) | (apply each_svnMin; intro _ _)))
theorem State.unpower_svnMin (s : State) : (State.unpower s).fw.svnMin = s.fw.svnMin := by
  unfold State.unpower
  simp only []
theorem State.settleDrain_svnMin (s : State) : (State.settleDrain s).fw.svnMin = s.fw.svnMin := by
  unfold State.settleDrain
  simp only [ite_svnMin, ite_self, State.unpower_svnMin, State.enterSafe_svnMin]
theorem State.drainTrigger_svnMin (s : State) (c : Nat) : (State.drainTrigger s c).fw.svnMin = s.fw.svnMin := by
  unfold State.drainTrigger
  simp only [ite_svnMin, ite_self, State.settleDrain_svnMin, State.enterDrain_svnMin, State.noteSeen_svnMin, State.cutMain_svnMin]
theorem State.saveRings_svnMin (s : State) (t : Nat) : (State.saveRings s t).fw.svnMin = s.fw.svnMin := by
  unfold State.saveRings
  simp only [State.modPs_svnMin]
theorem State.noteClean_svnMin (s : State) : (State.noteClean s).fw.svnMin = s.fw.svnMin := by
  unfold State.noteClean
  (try simp only [ite_svnMin]); (repeat' (first | with_reducible rfl | (simp only [ite_self, State.setCell_svnMin, State.modPs_svnMin]; done) | (apply each_svnMin; intro _ _) | (rw [each_svnMin] <;> (try intro _ _))))
theorem State.owe_svnMin (s : State) (t : Nat) : (State.owe s t).fw.svnMin = s.fw.svnMin := by
  unfold State.owe
  simp only [ite_svnMin, ite_self]
theorem State.flushComplete_svnMin (s : State) (t : Nat) : (State.flushComplete s t).fw.svnMin = s.fw.svnMin := by
  unfold State.flushComplete
  simp only [ite_svnMin, ite_self, State.saveRings_svnMin, State.saveRoots_svnMin, State.saveRecorder_svnMin, State.tev_svnMin, State.modPs_svnMin, State.pageCommit_svnMin, State.modRes_svnMin, State.settleDrain_svnMin, State.noteClean_svnMin, State.owe_svnMin]
theorem execDrainFlushDone_svnMin (t : Nat) (s : State) : ∃ u, execDrainFlushDone t s = .next u ∧ u.fw.svnMin = s.fw.svnMin := by
  unfold execDrainFlushDone
  refine ⟨_, rfl, ?_⟩
  simp only [ite_svnMin, ite_self, State.flushComplete_svnMin]
theorem State.tearStroke_svnMin (s : State) (t : Nat) (k : Stroke) : (State.tearStroke s t k).fw.svnMin = s.fw.svnMin := by
  unfold State.tearStroke
  simp only [State.bumpFree_svnMin, State.modMed_svnMin]
theorem State.stopFlush_svnMin (s : State) (t : Nat) : (State.stopFlush s t).fw.svnMin = s.fw.svnMin := by
  unfold State.stopFlush
  (try simp only [ite_svnMin, ite_self, State.modRd_svnMin, State.modRes_svnMin, State.tev_svnMin, State.settleDrain_svnMin, State.owe_svnMin]); (repeat' (first | with_reducible rfl | (simp only [ite_self, State.tearStroke_svnMin]; done) | (apply each_svnMin; intro _ _) | (rw [each_svnMin] <;> (try intro _ _))))
theorem execTileFlushSilence_svnMin (t : Nat) (s : State) : ∃ u, execTileFlushSilence t s = .next u ∧ u.fw.svnMin = s.fw.svnMin := by
  unfold execTileFlushSilence
  refine ⟨_, rfl, ?_⟩
  simp only [State.stopFlush_svnMin]
theorem execShadowRecordWrite_svnMin (t : Nat) (s : State) : ∃ u, execShadowRecordWrite t s = .next u ∧ u.fw.svnMin = s.fw.svnMin := by
  unfold execShadowRecordWrite
  refine ⟨_, rfl, ?_⟩
  try simp only []
  (repeat' (first | with_reducible rfl | (simp only [ite_svnMin, State.modPs_svnMin, State.settleDrain_svnMin]; done) | (apply each_svnMin; intro _ _) | (rw [each_svnMin] <;> (try intro _ _)) | split))
theorem State.freshCells_svnMin (s : State) : (State.freshCells s).fw.svnMin = s.fw.svnMin := by
  unfold State.freshCells
  simp only []
theorem State.powerUpRoles_svnMin (s : State) : (State.powerUpRoles s).fw.svnMin = s.fw.svnMin := by
  unfold State.powerUpRoles
  simp only [ite_svnMin, ite_self, State.setCell_svnMin]
theorem State.beginSeq_svnMin (s : State) (row : Nat) : (s.beginSeq row).fw.svnMin = s.fw.svnMin := by
  unfold State.beginSeq
  simp only [State.powerUpRoles_svnMin, State.setCell_svnMin]
  exact (State.goto_svnMin ..).trans (State.freshCells_svnMin ..)
theorem execSeqInAccepted_svnMin (s : State) : ∃ u, execSeqInAccepted s = .next u ∧ u.fw.svnMin = s.fw.svnMin := by
  unfold execSeqInAccepted
  refine ⟨_, rfl, ?_⟩
  simp only [ite_svnMin, ite_self, State.beginSeq_svnMin]
theorem State.seqOff_svnMin (s : State) : (State.seqOff s).fw.svnMin = s.fw.svnMin := by
  unfold State.seqOff
  simp only []
theorem State.seqFail_svnMin (s : State) (k : Nat) (point : Nat) : (State.seqFail s k point).fw.svnMin = s.fw.svnMin := by
  unfold State.seqFail
  simp only [ite_svnMin, ite_self, State.setCell_svnMin, State.seqOff_svnMin, State.pev_svnMin, State.goto_svnMin]
theorem execSequenceFailure_svnMin (point : Nat) (s : State) : ∃ u, execSequenceFailure point s = .next u ∧ u.fw.svnMin = s.fw.svnMin := by
  unfold execSequenceFailure
  refine ⟨_, rfl, ?_⟩
  try simp only []
  (repeat' (first | with_reducible rfl | (simp only [State.seqFail_svnMin]; done) | (apply each_svnMin; intro _ _) | (rw [each_svnMin] <;> (try intro _ _)) | split))
theorem execSeqRetry_svnMin (s : State) : ∃ u, execSeqRetry s = .next u ∧ u.fw.svnMin = s.fw.svnMin := by
  unfold execSeqRetry
  refine ⟨_, rfl, ?_⟩
  try simp only []
  (repeat' (first | with_reducible rfl | (simp only [ite_svnMin, ite_self, State.setCell_svnMin]; done) | (apply each_svnMin; intro _ _) | (rw [each_svnMin] <;> (try intro _ _)) | split))
theorem execHaltedExit_svnMin (s : State) : ∃ u, execHaltedExit s = .next u ∧ u.fw.svnMin = s.fw.svnMin := by
  unfold execHaltedExit
  refine ⟨_, rfl, ?_⟩
  simp only [ite_svnMin, ite_self, State.goto_svnMin]
theorem State.seqAbort_svnMin (s : State) : (State.seqAbort s).fw.svnMin = s.fw.svnMin := by
  unfold State.seqAbort
  simp only [State.seqOff_svnMin, State.goto_svnMin]
theorem execSeqInFallInSeq_svnMin (s : State) : ∃ u, execSeqInFallInSeq s = .next u ∧ u.fw.svnMin = s.fw.svnMin := by
  unfold execSeqInFallInSeq
  refine ⟨_, rfl, ?_⟩
  simp only [ite_svnMin, ite_self, State.seqAbort_svnMin]
theorem State.holdupFault_svnMin (s : State) (reason : Nat) (esr : Nat) : (State.holdupFault s reason esr).fw.svnMin = s.fw.svnMin := by
  unfold State.holdupFault
  simp only [State.pev_svnMin, State.supplyBit_svnMin]
theorem execHoldupMeasured_svnMin (dt : Nat) (stepUv : Nat) (s : State) : ∃ u, execHoldupMeasured dt stepUv s = .next u ∧ u.fw.svnMin = s.fw.svnMin := by
  unfold execHoldupMeasured
  refine ⟨_, rfl, ?_⟩
  simp only [ite_svnMin, ite_self, State.holdupFault_svnMin, State.pev_svnMin]
theorem execHoldupFault_svnMin (reason : Nat) (esr : Nat) (s : State) : ∃ u, execHoldupFault reason esr s = .next u ∧ u.fw.svnMin = s.fw.svnMin := by
  unfold execHoldupFault
  refine ⟨_, rfl, ?_⟩
  simp only [ite_svnMin, ite_self, State.holdupFault_svnMin]
theorem State.unfence_svnMin (s : State) : (State.unfence s).fw.svnMin = s.fw.svnMin := by
  unfold State.unfence
  (try simp only [each_svnMin, foldl_svnMin, when_svnMin, ite_svnMin, ite_fst_svnMin, ite_result_svnMin, ite_mbEnd_svnMin, ite_self, State.modFence_svnMin]); (repeat' (first | with_reducible rfl | (simp only [State.modFence_svnMin]; done) | (apply each_svnMin; intro _ _)))
theorem State.mainOn_svnMin (s : State) : (State.mainOn s).fw.svnMin = s.fw.svnMin := by
  unfold State.mainOn
  (try simp only []); (repeat' (first | with_reducible rfl | (simp only [State.tev_svnMin]; done) | (apply each_svnMin; intro _ _)))
theorem State.enterTest_svnMin (s : State) : (State.enterTest s).fw.svnMin = s.fw.svnMin := by
  unfold State.enterTest
  (try simp only [State.unfence_svnMin]); (repeat' (first | with_reducible rfl | (simp only [State.setCell_svnMin, State.goto_svnMin, State.modTime_svnMin, State.bumpFree_svnMin, State.modRes_svnMin]; done) | (apply each_svnMin; intro _ _) | (rw [each_svnMin] <;> (try intro _ _))))
theorem State.seqStep_svnMin (s : State) (k : Nat) : (State.seqStep s k).fw.svnMin = s.fw.svnMin := by
  unfold State.seqStep
  (repeat' split) <;> simp only [State.mainOn_svnMin, State.holdupFault_svnMin, State.enterTest_svnMin]
theorem execSeqStepDone_svnMin (s : State) : ∃ u, execSeqStepDone s = .next u ∧ u.fw.svnMin = s.fw.svnMin := by
  unfold execSeqStepDone
  refine ⟨_, rfl, ?_⟩
  try simp only []
  (repeat' (first | with_reducible rfl | (simp only [State.seqStep_svnMin]; done) | (apply each_svnMin; intro _ _) | (rw [each_svnMin] <;> (try intro _ _)) | split))
theorem execReplicaMeasure_svnMin (t : Nat) (margin : Int) (need : Nat) (s : State) : ∃ u, execReplicaMeasure t margin need s = .next u ∧ u.fw.svnMin = s.fw.svnMin := by
  unfold execReplicaMeasure
  refine ⟨_, rfl, ?_⟩
  simp only [ite_svnMin, ite_self, State.modSup_svnMin, State.tcount_svnMin, State.degrade_svnMin, State.supplyBit_svnMin, State.tev_svnMin]
theorem execAvsCommand_svnMin (s : State) : ∃ u, execAvsCommand s = .next u ∧ u.fw.svnMin = s.fw.svnMin := by
  unfold execAvsCommand
  refine ⟨_, rfl, ?_⟩
  simp only [ite_svnMin, ite_self, State.count_svnMin]
theorem execAvsLinkLost_svnMin (s : State) : ∃ u, execAvsLinkLost s = .next u ∧ u.fw.svnMin = s.fw.svnMin := by
  unfold execAvsLinkLost
  refine ⟨_, rfl, ?_⟩
  simp only [ite_svnMin, ite_self, State.degrade_svnMin, State.pev_svnMin, State.supplyBit_svnMin]
theorem State.railEvent_svnMin (s : State) (k : Nat) (mv : Nat) (reaction : Nat) : (State.railEvent s k mv reaction).fw.svnMin = s.fw.svnMin := by
  unfold State.railEvent
  simp only [State.pev_svnMin]
theorem State.railFault_svnMin (s : State) (r : Rail) (k : Nat) (mv : Nat) : (State.railFault s r k mv).fw.svnMin = s.fw.svnMin := by
  unfold State.railFault
  (repeat' split) <;> simp only [ite_svnMin, ite_self, State.drainTrigger_svnMin, State.supplyBit_svnMin, State.railEvent_svnMin, State.suspect_svnMin, State.tev_svnMin]
theorem State.railInDrain_svnMin (s : State) (r : Rail) (k : Nat) (mv : Nat) : (State.railInDrain s r k mv).fw.svnMin = s.fw.svnMin := by
  unfold State.railInDrain
  (repeat' split) <;> simp only [ite_svnMin, ite_self, State.noteSeen_svnMin, State.stopFlush_svnMin, State.tev_svnMin, State.railEvent_svnMin]
theorem State.holdEmpty_svnMin (s : State) : (State.holdEmpty s).fw.svnMin = s.fw.svnMin := by
  unfold State.holdEmpty
  (try simp only [each_svnMin, foldl_svnMin, when_svnMin, ite_svnMin, ite_fst_svnMin, ite_result_svnMin, ite_mbEnd_svnMin, ite_self, State.stopFlush_svnMin]); (repeat' (first | with_reducible rfl | (simp only [State.stopFlush_svnMin]; done) | (apply each_svnMin; intro _ _)))
theorem State.converterFault_svnMin (s : State) (mv : Nat) : (State.converterFault s mv).fw.svnMin = s.fw.svnMin := by
  unfold State.converterFault
  simp only [State.degrade_svnMin, State.pev_svnMin, State.supplyBit_svnMin]
theorem State.noteVin_svnMin (s : State) : (State.noteVin s).fw.svnMin = s.fw.svnMin := by
  unfold State.noteVin
  (repeat' split) <;> simp only [State.pev_svnMin]
theorem State.scanOn_svnMin (s : State) : (State.scanOn s).fw.svnMin = s.fw.svnMin := by
  unfold State.scanOn
  simp only [ite_svnMin, ite_self, State.count_svnMin, State.setCell_svnMin]
theorem State.seeRail_svnMin (s : State) (r : Rail) (mv : Nat) : (State.seeRail s r mv).fw.svnMin = s.fw.svnMin := by
  unfold State.seeRail
  (repeat' split) <;> simp only [State.noteVin_svnMin]
theorem State.badRail_svnMin (s : State) (r : Rail) (k : Nat) (mv : Nat) : (State.badRail s r k mv).fw.svnMin = s.fw.svnMin := by
  unfold State.badRail
  (repeat' split) <;> simp only [State.railFault_svnMin, State.railInDrain_svnMin, State.seqFail_svnMin]
theorem State.scanPower_svnMin (s : State) (k mw : Nat) : (State.scanPower s k mw).fw.svnMin = s.fw.svnMin := by
  unfold State.scanPower
  simp only [ite_svnMin, ite_self]
theorem State.scanPast_svnMin (s : State) (r : Rail) (mv : Nat) : (State.scanPast s r mv).fw.svnMin = s.fw.svnMin := by
  unfold State.scanPast
  simp only [ite_svnMin, ite_self, State.scanOn_svnMin, State.holdEmpty_svnMin]
theorem execRailSample_svnMin (mv mw : Nat) (s : State) : ∃ u, execRailSample mv mw s = .next u ∧ u.fw.svnMin = s.fw.svnMin := by
  unfold execRailSample
  refine ⟨_, rfl, ?_⟩
  simp only [ite_svnMin, ite_self, State.seeRail_svnMin, State.scanPower_svnMin, State.scanPast_svnMin, State.converterFault_svnMin, State.badRail_svnMin]
theorem execVinComparatorTrip_svnMin (s : State) : ∃ u, execVinComparatorTrip s = .next u ∧ u.fw.svnMin = s.fw.svnMin := by
  unfold execVinComparatorTrip
  refine ⟨_, rfl, ?_⟩
  simp only [ite_svnMin, ite_self, State.supplyBit_svnMin, State.drainTrigger_svnMin]
theorem State.rebootCores_svnMin (s : State) : (State.rebootCores s).fw.svnMin = s.fw.svnMin := by
  unfold State.rebootCores
  simp only [State.goto_svnMin, State.freeMailboxes_svnMin, State.endSessions_svnMin]
theorem execResetNLow_svnMin (s : State) : ∃ u, execResetNLow s = .next u ∧ u.fw.svnMin = s.fw.svnMin := by
  unfold execResetNLow
  refine ⟨_, rfl, ?_⟩
  try simp only []
  (repeat' (first | with_reducible rfl | (simp only [State.seqAbort_svnMin, State.rebootCores_svnMin, State.drainTrigger_svnMin]; done) | (apply each_svnMin; intro _ _) | (rw [each_svnMin] <;> (try intro _ _)) | split))
theorem execPwrfailNLow_svnMin (s : State) : ∃ u, execPwrfailNLow s = .next u ∧ u.fw.svnMin = s.fw.svnMin := by
  unfold execPwrfailNLow
  refine ⟨_, rfl, ?_⟩
  try simp only []
  (repeat' (first | with_reducible rfl | (simp only [State.supplyBit_svnMin, State.seqAbort_svnMin, State.drainTrigger_svnMin]; done) | (apply each_svnMin; intro _ _) | (rw [each_svnMin] <;> (try intro _ _)) | split))
theorem execSeqInLow_svnMin (s : State) : ∃ u, execSeqInLow s = .next u ∧ u.fw.svnMin = s.fw.svnMin := by
  unfold execSeqInLow
  refine ⟨_, rfl, ?_⟩
  try simp only []
  (repeat' (first | with_reducible rfl | (simp only [State.seqAbort_svnMin, State.drainTrigger_svnMin]; done) | (apply each_svnMin; intro _ _) | (rw [each_svnMin] <;> (try intro _ _)) | split))
theorem execSafeRestart_svnMin (cycled : Bool) (s : State) : ∃ u, execSafeRestart cycled s = .next u ∧ u.fw.svnMin = s.fw.svnMin := by
  unfold execSafeRestart
  refine ⟨_, rfl, ?_⟩
  simp only [ite_svnMin, ite_self, State.beginSeq_svnMin]
theorem State.powerDown_svnMin (s : State) (q : Requester) (v : Nat) : (State.powerDown s q v).st.fw.svnMin = s.fw.svnMin := by
  unfold State.powerDown
  simp only [ite_result_svnMin, ite_self, State.refused_svnMin, State.ok_svnMin, State.drainTrigger_svnMin, State.pev_svnMin]
theorem State.powerUp_svnMin (s : State) (v : Nat) : (State.powerUp s v).st.fw.svnMin = s.fw.svnMin := by
  unfold State.powerUp
  simp only [ite_svnMin, ite_result_svnMin, ite_self, State.refused_svnMin, State.ok_svnMin, State.beginSeq_svnMin]
theorem execVauxOn_svnMin (s : State) : ∃ u, execVauxOn s = .next u ∧ u.fw.svnMin = s.fw.svnMin := by
  unfold execVauxOn
  refine ⟨_, rfl, ?_⟩
  simp only [ite_svnMin, ite_self, State.goto_svnMin]
theorem execVauxRemoved_svnMin (s : State) : ∃ u, execVauxRemoved s = .next u ∧ u.fw.svnMin = s.fw.svnMin := by
  unfold execVauxRemoved
  refine ⟨_, rfl, ?_⟩
  simp only [ite_svnMin, ite_self, State.drainTrigger_svnMin, State.supplyBit_svnMin, State.railEvent_svnMin, State.unpower_svnMin]
theorem State.boot_svnMin (s : State) (i : Nat) : (s.boot i).fw.svnMin = s.fw.svnMin := by
  unfold State.boot
  exact (State.setCell_svnMin ..).trans rfl
theorem execFirmwareBootDone_svnMin (a b : Bool) (s : State) : ∃ u, execFirmwareBootDone a b s = .next u ∧ u.fw.svnMin = s.fw.svnMin := by
  unfold execFirmwareBootDone
  refine ⟨_, rfl, ?_⟩
  simp only [ite_svnMin, State.boot_svnMin, State.pev_svnMin, State.alert_svnMin, State.goto_svnMin, Firmware.invalid]
  repeat' split
  all_goals rfl
theorem State.newDeviceKey_svnMin (s : State) : (State.newDeviceKey s).fw.svnMin = s.fw.svnMin := by
  unfold State.newDeviceKey
  simp only []
theorem State.eraseTile_svnMin (s : State) (t : Nat) : (State.eraseTile s t).fw.svnMin = s.fw.svnMin := by
  unfold State.eraseTile
  (try simp only [State.modMap_svnMin, State.modTile_svnMin, State.noteSpares_svnMin]); (repeat' (first | with_reducible rfl | (simp only [State.release_svnMin]; done) | (apply each_svnMin; intro _ _)))
theorem State.secureErase_svnMin (s : State) : s.secureErase.fw.svnMin = s.fw.svnMin := by
  unfold State.secureErase
  simp only []
  rw [State.evalHealth_svnMin, each_svnMin]
  · exact State.newDeviceKey_svnMin ..
  · intro s t; simp only [State.eraseTile_svnMin]
theorem State.sanitizeTile_svnMin (s : State) (t : Nat) : (State.sanitizeTile s t).fw.svnMin = s.fw.svnMin := by
  unfold State.sanitizeTile
  (try simp only [State.allNibs_svnMin, State.modTile_svnMin, State.count_svnMin]); (repeat' (first | with_reducible rfl | (simp only [State.allNibs_svnMin, State.blank_svnMin]; done) | (apply each_svnMin; intro _ _)))
theorem State.startErase_svnMin (s : State) (kind : Nat) : (State.startErase s kind).fw.svnMin = s.fw.svnMin := by
  unfold State.startErase
  simp only [State.secureErase_svnMin]
theorem State.decommission_svnMin (s : State) : (State.decommission s).fw.svnMin = s.fw.svnMin := by
  unfold State.decommission
  simp only [State.commitWhole_svnMin, State.pev_svnMin]
theorem execEraseDone_svnMin (s : State) : ∃ u, execEraseDone s = .next u ∧ u.fw.svnMin = s.fw.svnMin := by
  have he : ∀ (s v : State) (l : List Nat), (s.each l (fun s' t => s'.modPs t (fun p => { p with eraseKind := 0 }))).fw.svnMin = s.fw.svnMin :=
    fun s v l => each_svnMin s l _ (fun _ _ => State.modPs_svnMin ..)
  have hz : ∀ (s : State) (l : List Nat), (s.each l (fun s' t => s'.sanitizeTile t)).fw.svnMin = s.fw.svnMin :=
    fun s l => each_svnMin s l _ (fun _ _ => State.sanitizeTile_svnMin ..)
  unfold execEraseDone
  refine ⟨_, rfl, ?_⟩
  split
  · simp only []
    have h : ∀ (k : Nat), (if k = 1 then s else s.each s.tileNumbers (fun s' t => s'.sanitizeTile t)).fw.svnMin = s.fw.svnMin := by
      intro k
      split
      · rfl
      · exact hz ..
    split
    · rw [State.decommission_svnMin, State.pev_svnMin]
      exact (he _ s _).trans (h _)
    · rw [State.pev_svnMin]
      exact (he _ s _).trans (h _)
  · rfl
theorem State.decommissionCmd_svnMin (s : State) (q : Requester) (v : Nat) : (State.decommissionCmd s q v).st.fw.svnMin = s.fw.svnMin := by
  unfold State.decommissionCmd
  simp only [ite_result_svnMin, ite_self, State.refused_svnMin, State.ok_svnMin, State.startErase_svnMin]
theorem State.ownerInstall_svnMin (s : State) (q : Requester) (cert : Nat) : (State.ownerInstall s q cert).st.fw.svnMin = s.fw.svnMin := by
  unfold State.ownerInstall
  simp only [ite_result_svnMin, ite_self, State.refused_svnMin, State.ok_svnMin, State.pev_svnMin]
theorem State.startUpdate_svnMin (s : State) : (State.startUpdate s).fw.svnMin = s.fw.svnMin := by
  unfold State.startUpdate
  simp only []
theorem State.activateAtReset_svnMin (s : State) : (State.activateAtReset s).fw.svnMin = s.fw.svnMin := by
  unfold State.activateAtReset
  simp only [State.pev_svnMin]
theorem State.fwActivate_svnMin (s : State) (v : Nat) : (State.fwActivate s v).st.fw.svnMin = s.fw.svnMin := by
  unfold State.fwActivate
  simp only [ite_result_svnMin, ite_self, State.ok_svnMin, State.startUpdate_svnMin, State.refused_svnMin, State.activateAtReset_svnMin]
theorem State.fwSvnCommit_svnMin_le (s : State) (q : Requester) (v : Nat) : s.fw.svnMin ≤ (s.fwSvnCommit q v).st.fw.svnMin := by
  unfold State.fwSvnCommit
  split
  · simp only [State.refused_svnMin, le_refl]
  · split
    · simp only [State.refused_svnMin, le_refl]
    · split
      · simp only [State.refused_svnMin, le_refl]
      · rename_i h
        simp only [State.ok_svnMin, State.pev_svnMin]
        omega
theorem execLiveUpdateStepDone_svnMin (ok : Bool) (s : State) : ∃ u, execLiveUpdateStepDone ok s = .next u ∧ u.fw.svnMin = s.fw.svnMin := by
  unfold execLiveUpdateStepDone
  refine ⟨_, rfl, ?_⟩
  try simp only []
  (repeat' (first | with_reducible rfl | (simp only [ite_svnMin, ite_self, State.pev_svnMin, State.alert_svnMin, State.takeOver_svnMin]; done) | (apply each_svnMin; intro _ _) | (rw [each_svnMin] <;> (try intro _ _)) | split))
theorem State.recoverRings_svnMin (s : State) (t : Nat) (torn : List Nat) : (State.recoverRings s t torn).fw.svnMin = s.fw.svnMin := by
  unfold State.recoverRings
  (try simp only [ite_svnMin, ite_self, State.setCell_svnMin, State.raise_svnMin, State.modTile_svnMin]); (repeat' (first | with_reducible rfl | (simp only [ite_svnMin, ite_self, State.modPs_svnMin, State.tev_svnMin]; done) | (apply each_svnMin; intro _ _)))
theorem State.shareRing_svnMin (s : State) (r : Nat) (ts : List Nat) : (State.shareRing s r ts).fw.svnMin = s.fw.svnMin := by
  unfold State.shareRing
  (try simp only []); (repeat' (first | with_reducible rfl | (simp only [ite_svnMin, ite_self, State.modPs_svnMin]; done) | (apply each_svnMin; intro _ _) | (rw [each_svnMin] <;> (try intro _ _)) | split))
theorem State.recoverStore_svnMin (s : State) (t : Nat) (found : List Nat) : (State.recoverStore s t found).fw.svnMin = s.fw.svnMin := by
  unfold State.recoverStore
  (try simp only [State.setCell_svnMin, State.loadRecorder_svnMin, State.recoverRings_svnMin]); (repeat' (first | with_reducible rfl | (simp only [State.raise_svnMin, State.tev_svnMin]; done) | (apply each_svnMin; intro _ _) | (rw [each_svnMin] <;> (try intro _ _))))
theorem State.bringStores_svnMin (s : State) (found : List Nat) : (State.bringStores s found).fw.svnMin = s.fw.svnMin := by
  unfold State.bringStores
  (try simp only [ite_svnMin, ite_self, State.shareRing_svnMin, State.setCell_svnMin, State.newDeviceKey_svnMin, State.loadPackage_svnMin]); (repeat' (first | with_reducible rfl | (simp only [State.recoverStore_svnMin]; done) | (apply each_svnMin; intro _ _)))
theorem State.arrangeTiles_svnMin (s : State) : (State.arrangeTiles s).fw.svnMin = s.fw.svnMin := by
  unfold State.arrangeTiles
  (try simp only []); (repeat' (first | with_reducible rfl | (simp only [State.modFence_svnMin]; done) | (apply each_svnMin; intro _ _)))
theorem State.bringFail_svnMin (s : State) (t : Nat) : (State.bringFail s t).fw.svnMin = s.fw.svnMin := by
  unfold State.bringFail
  simp only [ite_svnMin, ite_self, State.modFence_svnMin, State.setCell_svnMin, State.modTime_svnMin, State.count_svnMin, State.moveMaster_svnMin, State.coreLost_svnMin, State.standbyGone_svnMin]
theorem State.selfTest_svnMin (s : State) (bad : List Nat) : (State.selfTest s bad).fw.svnMin = s.fw.svnMin := by
  unfold State.selfTest
  (repeat' (first | with_reducible rfl | (simp only [implies_true, each_svnMin, ite_svnMin, ite_self, State.goto_svnMin, State.seqFail_svnMin, State.arrangeTiles_svnMin, State.bringFail_svnMin, State.pevAt_svnMin]; done)))
theorem State.loadRoot_svnMin (s : State) (t : Nat) (p : Nat) (last : Nat) : (State.loadRoot s t p last).fw.svnMin = s.fw.svnMin := by
  unfold State.loadRoot
  simp only [ite_svnMin, ite_self, State.modTile_svnMin, State.tev_svnMin, State.raise_svnMin]
theorem State.loadRoots_svnMin (s : State) (t : Nat) (last : Nat) : (State.loadRoots s t last).fw.svnMin = s.fw.svnMin := by
  unfold State.loadRoots
  (try simp only []); (repeat' (first | with_reducible rfl | (simp only [State.loadRoot_svnMin]; done) | (apply each_svnMin; intro _ _)))
theorem State.adoptDump_svnMin (s : State) (t : Nat) : (State.adoptDump s t).fw.svnMin = s.fw.svnMin := by
  unfold State.adoptDump
  (try simp only []); (repeat' (first | with_reducible rfl | (simp only [ite_svnMin, State.shadowFor_svnMin, State.modRes_svnMin]; done) | (apply each_svnMin; intro _ _) | (rw [each_svnMin] <;> (try intro _ _)) | split))
theorem State.bringReconcile_svnMin (s : State) : (State.bringReconcile s).fw.svnMin = s.fw.svnMin := by
  unfold State.bringReconcile
  (repeat' (first | with_reducible rfl | (simp only [implies_true, each_svnMin, ite_svnMin, ite_self, State.setCell_svnMin, State.loadRoots_svnMin, State.reconcile_svnMin, State.adoptDump_svnMin, State.modPs_svnMin, State.evalHealth_svnMin, State.settleJournal_svnMin, State.setLimits_svnMin]; done)))
theorem State.resumeErase_svnMin (s : State) : (State.resumeErase s).fw.svnMin = s.fw.svnMin := by
  unfold State.resumeErase
  simp only [ite_svnMin, ite_self, State.startErase_svnMin]
theorem State.openMemory_svnMin (s : State) : (State.openMemory s).fw.svnMin = s.fw.svnMin := by
  unfold State.openMemory
  simp only [State.setCell_svnMin]
theorem State.bringActive_svnMin (s : State) : (State.bringActive s).fw.svnMin = s.fw.svnMin := by
  unfold State.bringActive
  simp only [State.openMemory_svnMin, State.goto_svnMin, State.resumeErase_svnMin, State.pev_svnMin]
theorem execBringupStepDone_svnMin (found : List Nat) (s : State) : ∃ u, execBringupStepDone found s = .next u ∧ u.fw.svnMin = s.fw.svnMin := by
  unfold execBringupStepDone
  refine ⟨_, rfl, ?_⟩
  (repeat' (first | with_reducible rfl | (simp only [implies_true, each_svnMin, State.bringStores_svnMin, State.selfTest_svnMin, State.goto_svnMin, State.modPs_svnMin, State.rebuildMap_svnMin, State.driftProbe_svnMin, State.bringReconcile_svnMin, State.bringActive_svnMin]; done)  | split))
theorem execDegradedExit_svnMin (s : State) : ∃ u, execDegradedExit s = .next u ∧ u.fw.svnMin = s.fw.svnMin := by
  unfold execDegradedExit
  refine ⟨_, rfl, ?_⟩
  simp only [ite_svnMin, ite_self, State.goto_svnMin]
theorem execPstoreRingSave_svnMin (t : Nat) (ring : Nat) (s : State) : ∃ u, execPstoreRingSave t ring s = .next u ∧ u.fw.svnMin = s.fw.svnMin := by
  unfold execPstoreRingSave
  refine ⟨_, rfl, ?_⟩
  try simp only []
  (repeat' (first | with_reducible rfl | (simp only [ite_svnMin, State.modPs_svnMin]; done) | (apply each_svnMin; intro _ _) | (rw [each_svnMin] <;> (try intro _ _)) | split))
theorem State.thermal_svnMin (s : State) : (State.thermal s).fw.svnMin = s.fw.svnMin := by
  unfold State.thermal
  simp only [ite_svnMin, ite_self, State.tev_svnMin, State.alert_svnMin, State.raise_svnMin, State.pev_svnMin, State.degrade_svnMin]
theorem State.lifeTemp_svnMin (s : State) : (State.lifeTemp s).fw.svnMin = s.fw.svnMin := by
  unfold State.lifeTemp
  simp only [State.setCell_svnMin]
theorem State.overheat_svnMin (s : State) : (State.overheat s).fw.svnMin = s.fw.svnMin := by
  unfold State.overheat
  (repeat' split) <;> simp only [State.drainTrigger_svnMin]
theorem execTemperatureSample_svnMin (temps : List (List Int)) (s : State) : ∃ u, execTemperatureSample temps s = .next u ∧ u.fw.svnMin = s.fw.svnMin := by
  unfold execTemperatureSample
  refine ⟨_, rfl, ?_⟩
  (repeat' (first | with_reducible rfl | (simp only [implies_true, each_svnMin, ite_svnMin, ite_self, State.modTile_svnMin, State.lifeTemp_svnMin, State.thermal_svnMin, State.thermtrip_svnMin, State.overheat_svnMin]; done)))
theorem State.takeTransfers_svnMin (s : State) (t die : Nat) (cs : List Nat) (k : Nat) : (s.takeTransfers t die cs k).1.fw.svnMin = s.fw.svnMin := by
  induction cs generalizing s k with
  | nil => rfl
  | cons c cs ih =>
    unfold State.takeTransfers
    simp only [ih, ite_svnMin, State.count_svnMin, ite_self]
theorem State.countSlots_svnMin (s : State) (t : Nat) (die : Nat) (k : Nat) : (State.countSlots s t die k).fw.svnMin = s.fw.svnMin := by
  unfold State.countSlots
  simp only [ite_svnMin, State.takeTransfers_svnMin, State.tcount_svnMin, ite_self]
theorem State.countLevels_svnMin (s : State) (k : Nat) : (s.countLevels k).fw.svnMin = s.fw.svnMin := by
  unfold State.countLevels
  simp only []
  rw [each_svnMin, each_svnMin]
  · intro s t
    rw [each_svnMin, each_svnMin]
    · intro s c; simp only [State.tcount_svnMin]
    · intro s d; simp only [State.countSlots_svnMin]
  · intro s c; simp only [State.count_svnMin]
theorem State.fillFeed_svnMin (s : State) (k : Nat) : (State.fillFeed s k).fw.svnMin = s.fw.svnMin := by
  unfold State.fillFeed
  simp only []
theorem execTimebaseTick_svnMin (k : Nat) (s : State) : ∃ u, execTimebaseTick k s = .next u ∧ u.fw.svnMin = s.fw.svnMin := by
  unfold execTimebaseTick
  refine ⟨_, rfl, ?_⟩
  (repeat' (first | with_reducible rfl | (simp only [implies_true, each_svnMin, ite_svnMin, ite_self, State.countLevels_svnMin, State.fillFeed_svnMin, State.sampleDemand_svnMin, State.modTile_svnMin]; done)))
theorem State.cntSnapshot_svnMin (s : State) (v : Nat) : (OpEnd.after s (s.cntSnapshot v)).fw.svnMin = s.fw.svnMin := by
  unfold State.cntSnapshot
  repeat' split
  all_goals first
    | exact State.refused_svnMin ..
    | rfl
theorem State.latchReached_svnMin (s : State) : (State.latchReached s).1.fw.svnMin = s.fw.svnMin := by
  unfold State.latchReached
  (try simp only [ite_fst_svnMin, ite_self, State.count_svnMin]); (repeat' (first | with_reducible rfl | (simp only [each_svnMin, foldl_svnMin, when_svnMin, ite_svnMin, ite_fst_svnMin, ite_result_svnMin, ite_mbEnd_svnMin, ite_self, State.count_svnMin]; done) | (apply each_svnMin; intro _ _)))
theorem State.restartCounters_svnMin (s : State) (t : Nat) (cause : Nat) : (State.restartCounters s t cause).fw.svnMin = s.fw.svnMin := by
  unfold State.restartCounters
  simp only [State.tev_svnMin]
theorem State.startRejoin_svnMin (s : State) (t : Nat) : (State.startRejoin s t).fw.svnMin = s.fw.svnMin := by
  unfold State.startRejoin
  simp only [ite_svnMin, ite_self, State.modTile_svnMin, State.restartCounters_svnMin, State.modRec_svnMin, State.loadRecorder_svnMin]
theorem State.tileRejoin_svnMin (s : State) (t : Nat) : (State.tileRejoin s t).st.fw.svnMin = s.fw.svnMin := by
  unfold State.tileRejoin
  simp only [ite_result_svnMin, ite_self, State.refused_svnMin, State.ok_svnMin, State.startRejoin_svnMin]
theorem execAutoRejoin_svnMin (t : Nat) (s : State) : ∃ u, execAutoRejoin t s = .next u ∧ u.fw.svnMin = s.fw.svnMin := by
  unfold execAutoRejoin
  refine ⟨_, rfl, ?_⟩
  simp only [ite_svnMin, ite_self, State.startRejoin_svnMin, State.modFence_svnMin]
theorem State.rejoinRoots_svnMin (s : State) (t : Nat) (gen : Nat) : (State.rejoinRoots s t gen).fw.svnMin = s.fw.svnMin := by
  unfold State.rejoinRoots
  (try simp only [ite_svnMin]); (repeat' (first | with_reducible rfl | (simp only [ite_self, State.loadRoot_svnMin]; done) | (apply each_svnMin; intro _ _) | (rw [each_svnMin] <;> (try intro _ _))))
theorem State.rejoinReconcile_svnMin (s : State) (t gen : Nat) : (s.rejoinReconcile t gen).fw.svnMin = s.fw.svnMin := by
  have r : ∀ (s : State) (l : List Nat), (s.each l (fun s' S => s'.reparity t S)).fw.svnMin = s.fw.svnMin :=
    fun s l => each_svnMin s l _ (fun _ _ => State.reparity_svnMin ..)
  have r2 : ∀ (s : State) (l m : List Nat), (s.each l (fun s' p => s'.each m (fun s'' st => s''.reparity t (stripeAddr p st)))).fw.svnMin = s.fw.svnMin :=
    fun s l m => each_svnMin s l _ (fun s p => each_svnMin s m _ (fun _ _ => State.reparity_svnMin ..))
  have l : ∀ (s : State) (l : List Nat), (s.each l (fun s' S => s'.loseShadowed t S)).fw.svnMin = s.fw.svnMin :=
    fun s l => each_svnMin s l _ (fun _ _ => State.loseShadowed_svnMin ..)
  unfold State.rejoinReconcile
  simp only []
  rw [State.rejoinRoots_svnMin, State.restorePins_svnMin, each_svnMin]
  · split
    · rfl
    · split
      · split
        · rw [l, r]
        · rw [State.tev_svnMin, l, r]
      · rw [r2, State.tev_svnMin]
  · intro s e; simp only [State.shadow_svnMin, State.modRes_svnMin]
theorem State.listStandin_svnMin (s : State) (t : Nat) : (State.listStandin s t).fw.svnMin = s.fw.svnMin := by
  unfold State.listStandin
  simp only [ite_svnMin, ite_self, State.modFence_svnMin, State.modRes_svnMin]
theorem State.rejoinLinks_svnMin (s : State) (t : Nat) : (State.rejoinLinks s t).fw.svnMin = s.fw.svnMin := by
  unfold State.rejoinLinks
  simp only [State.modTime_svnMin, State.modPs_svnMin, State.listStandin_svnMin]
theorem State.resyncStripe_svnMin (s : State) (t part lseg st : Nat) : (s.resyncStripe t part lseg st).fw.svnMin = s.fw.svnMin := by
  unfold State.resyncStripe
  split
  · rfl
  · simp only []
    rw [State.tcount_svnMin, State.strokeNow_svnMin, each_svnMin, each_svnMin _ _ _ (fun _ _ => State.groupReads_svnMin ..), State.spendCredits_svnMin]
    intro s k; simp only [State.strokeNow_svnMin]
theorem State.handBack_svnMin (s : State) (t : Nat) (lseg : Nat) : (State.handBack s t lseg).fw.svnMin = s.fw.svnMin := by
  unfold State.handBack
  (try simp only [State.modFence_svnMin]); (repeat' (first | with_reducible rfl | (simp only [ite_svnMin, ite_self, State.modRes_svnMin]; done) | (apply each_svnMin; intro _ _)))
theorem execResyncSegment_svnMin (t lseg : Nat) (s : State) : ∃ u, execResyncSegment t lseg s = .next u ∧ u.fw.svnMin = s.fw.svnMin := by
  have hr : ∀ (s : State) (p : Nat) (l : List Nat), (s.each l (fun s' st => s'.resyncStripe t p lseg st)).fw.svnMin = s.fw.svnMin :=
    fun s p l => each_svnMin s l _ (fun _ _ => State.resyncStripe_svnMin ..)
  unfold execResyncSegment
  generalize List.range _ = l
  refine ⟨_, rfl, ?_⟩
  simp only []
  split
  · split
    · rw [State.handBack_svnMin]
    · rw [State.handBack_svnMin, hr]
      split
      · rw [State.bind_svnMin]
      · rfl
  · rfl
theorem State.endDouble_svnMin (s : State) (t : Nat) : (State.endDouble s t).fw.svnMin = s.fw.svnMin := by
  unfold State.endDouble
  (try simp only []); (repeat' (first | with_reducible rfl | (simp only [State.modFence_svnMin]; done) | (apply each_svnMin; intro _ _) | (rw [each_svnMin] <;> (try intro _ _)) | split))
theorem State.rejoined_svnMin (s : State) (t : Nat) : (State.rejoined s t).fw.svnMin = s.fw.svnMin := by
  unfold State.rejoined
  (try simp only [ite_svnMin, ite_self, State.modFence_svnMin, State.moveMirror_svnMin, State.pevAt_svnMin, State.endDouble_svnMin, State.evalHealth_svnMin]); (repeat' (first | with_reducible rfl | (simp only [ite_svnMin, ite_self, State.modRes_svnMin, State.abandonRecord_svnMin]; done) | (apply each_svnMin; intro _ _) | (rw [each_svnMin] <;> (try intro _ _))))
theorem execRejoinStepDone_svnMin (t : Nat) (ok : Bool) (bad : List Nat) (s : State) : ∃ u, execRejoinStepDone t ok bad s = .next u ∧ u.fw.svnMin = s.fw.svnMin := by
  unfold execRejoinStepDone
  refine ⟨_, rfl, ?_⟩
  try simp only []
  (repeat' (first | with_reducible rfl | (simp only [ite_svnMin, ite_self, State.modFence_svnMin, State.rejoinFailed_svnMin, State.rebuildMap_svnMin, State.rejoinReconcile_svnMin, State.rejoinLinks_svnMin, State.rejoined_svnMin]; done) | (apply each_svnMin; intro _ _) | (rw [each_svnMin] <;> (try intro _ _)) | split))
theorem State.logError_svnMin (s : State) (q : Requester) (code : Nat) (detail : Nat) (key : Nat) : (State.logError s q code detail key).fw.svnMin = s.fw.svnMin := by
  unfold State.logError
  simp only [State.pev_svnMin, State.count_svnMin, State.raise_svnMin, State.setCell_svnMin]
theorem State.readOp_svnMin (s : State) (q : Requester) (p : ObPlace) (value : List Nat) : (State.readOp s q p value).st.fw.svnMin = s.fw.svnMin := by
  unfold State.readOp
  simp only [ite_result_svnMin, ite_self, State.refused_svnMin, State.done_svnMin]
theorem State.modSet_svnMin (s : State) (q : Requester) (f : StagedSet → StagedSet) : (State.modSet s q f).fw.svnMin = s.fw.svnMin := by
  unfold State.modSet
  simp only []
theorem State.dropSet_svnMin (s : State) (q : Requester) : (State.dropSet s q).fw.svnMin = s.fw.svnMin := by
  unfold State.dropSet
  simp only []
theorem State.readStagedOp_svnMin (s : State) (q : Requester) (p : ObPlace) (value : List Nat) : (State.readStagedOp s q p value).st.fw.svnMin = s.fw.svnMin := by
  unfold State.readStagedOp
  simp only [ite_result_svnMin, ite_self, State.refused_svnMin, State.done_svnMin, State.modSet_svnMin]
theorem State.stageWrite_svnMin (s : State) (q : Requester) (p : ObPlace) (v : Nat) : (State.stageWrite s q p v).st.fw.svnMin = s.fw.svnMin := by
  unfold State.stageWrite
  (repeat' split) <;> simp only [State.refused_svnMin, State.ok_svnMin, State.modSet_svnMin]
theorem State.w1cWrite_svnMin (s : State) (p : ObPlace) (v : Nat) : (State.w1cWrite s p v).st.fw.svnMin = s.fw.svnMin := by
  unfold State.w1cWrite
  (repeat' split) <;> simp only [State.done_svnMin, State.setCell_svnMin]
theorem State.commitOp_svnMin (s : State) (q : Requester) (expected : Nat) : (s.commitOp q expected).st.fw.svnMin = s.fw.svnMin := by
  unfold State.commitOp
  split
  · simp only [State.refused_svnMin, State.dropSet_svnMin, State.setCommitStatus_svnMin]
  · simp only []
    split
    · rename_i h
      have := congrArg (fun r => r.1.fw.svnMin) h
      simp only [State.commitSet_svnMin] at this
      simp only [State.done_svnMin, State.dropSet_svnMin, ← this]
    · rename_i h
      have := congrArg (fun r => r.1.fw.svnMin) h
      simp only [State.commitSet_svnMin] at this
      simp only [State.refused_svnMin, State.dropSet_svnMin, ← this]
theorem State.dropOwnSet_svnMin (s : State) (q : Requester) : (State.dropOwnSet s q).st.fw.svnMin = s.fw.svnMin := by
  unfold State.dropOwnSet
  simp only [ite_result_svnMin, ite_self, State.ok_svnMin, State.dropSet_svnMin, State.refused_svnMin]
theorem State.flipArm_svnMin (s : State) (t : Nat) (v : Nat) : (State.flipArm s t v).st.fw.svnMin = s.fw.svnMin := by
  unfold State.flipArm
  simp only [ite_result_svnMin, ite_self, State.ok_svnMin, State.modMed_svnMin, State.discardFlip_svnMin]
theorem State.keyLoad_svnMin (s : State) (q : Requester) (v : Nat) : (OpEnd.after s (State.keyLoad s q v)).fw.svnMin = s.fw.svnMin := by
  unfold State.keyLoad
  simp only [State.keyCommand_svnMin]
theorem nowCommands_svnMin_le (c : Nat × (State → Requester → Nat → Nat → Result)) (hc : c ∈ nowCommands) (s : State) (q : Requester) (i v : Nat) : s.fw.svnMin ≤ (c.2 s q i v).st.fw.svnMin := by
  simp only [nowCommands, List.mem_cons, List.not_mem_nil, or_false] at hc
  rcases hc with rfl | rfl | rfl | rfl | rfl | rfl | rfl | rfl | rfl | rfl | rfl | rfl | rfl | rfl | rfl | rfl | rfl | rfl | rfl | rfl | rfl | rfl | rfl | rfl | rfl <;>
    first
    | exact State.fwSvnCommit_svnMin_le ..
    | (simp only [State.ok_svnMin, State.done_svnMin, State.readSvcClear_svnMin, State.migrateRequest_svnMin, State.quarantineAck_svnMin, State.mapQuery_svnMin, State.scrubStart_svnMin, State.scrubAbort_svnMin, State.tileFence_svnMin, State.tileRejoin_svnMin, State.keyQuery_svnMin, State.debugUnlock_svnMin, State.debugLock_svnMin, State.sealRootAdopt_svnMin, State.sqRestart_svnMin, State.classHeldClear_svnMin, State.commitOp_svnMin, State.dropOwnSet_svnMin, State.flipArm_svnMin, State.fwActivate_svnMin, State.ownerInstall_svnMin, State.decommissionCmd_svnMin, State.powerDown_svnMin, State.powerUp_svnMin]; exact le_refl _)
theorem State.command_svnMin_le (s : State) (q : Requester) (p : ObPlace) (v : Nat) : s.fw.svnMin ≤ (OpEnd.after s (s.command q p v)).fw.svnMin := by
  unfold State.command
  repeat' split
  · exact (State.keyLoad_svnMin ..).ge
  · exact (State.keyCommand_svnMin ..).ge
  · exact (State.cntSnapshot_svnMin ..).ge
  · exact (State.recClear_svnMin ..).ge
  · exact (State.recRelease_svnMin ..).ge
  · exact (State.recRelease_svnMin ..).ge
  · rename_i h
    exact nowCommands_svnMin_le _ (List.mem_of_find?_eq_some h) ..
  · exact (State.ok_svnMin ..).ge
theorem State.writeNow_svnMin (s : State) (p : ObPlace) (v : Nat) : (State.writeNow s p v).fw.svnMin = s.fw.svnMin := by
  unfold State.writeNow
  (try simp only [ite_svnMin, State.setCell_svnMin]); (repeat' (first | with_reducible rfl | (simp only [ite_self, State.setCell_svnMin, State.modPs_svnMin]; done) | (apply each_svnMin; intro _ _) | (rw [each_svnMin] <;> (try intro _ _))))
theorem State.writeOp_svnMin_le (s : State) (q : Requester) (index : Nat) (p : ObPlace) (value : List Nat) : s.fw.svnMin ≤ (OpEnd.after s (s.writeOp q index p value)).fw.svnMin := by
  unfold State.writeOp
  simp only []
  split
  · exact (State.refused_svnMin ..).ge
  · split
    · exact (State.stageWrite_svnMin ..).ge
    · split
      · exact (State.w1cWrite_svnMin ..).ge
      · exact State.command_svnMin_le ..
      · exact State.command_svnMin_le ..
      · exact ((State.ok_svnMin ..).trans (State.writeNow_svnMin ..)).ge
theorem State.runOp_svnMin_le (s : State) (q : Requester) (o : StaebOp) : s.fw.svnMin ≤ (OpEnd.after s (s.runOp q o)).fw.svnMin := by
  unfold State.runOp
  split
  · exact (State.refused_svnMin ..).ge
  · split
    · exact (State.refused_svnMin ..).ge
    · split
      · exact (State.readOp_svnMin ..).ge
      · split
        · exact State.writeOp_svnMin_le ..
        · split
          · exact (State.readStagedOp_svnMin ..).ge
          · exact (State.refused_svnMin ..).ge
theorem State.answer_svnMin (s : State) (q : Requester) (tag : Nat) (stop : Bool) (recs : List (List Nat)) : (State.answer s q tag stop recs).fw.svnMin = s.fw.svnMin := by
  unfold State.answer
  simp only [ite_svnMin, ite_self, State.count_svnMin, State.tcount_svnMin]
theorem finishOp_svnMin (q : Requester) (o : StaebOp) (r : Result) : (finishOp q o r).1.fw.svnMin = r.st.fw.svnMin := by
  unfold finishOp
  simp only []
  split
  · rfl
  · exact State.logError_svnMin ..
theorem runOps_svnMin_le (q : Requester) (tag : Nat) (stop : Bool) (ops : List StaebOp) (failed : Bool) (recs : List (List Nat)) (s : State) : s.fw.svnMin ≤ (runOps q tag stop ops failed recs s).1.fw.svnMin := by
  induction ops generalizing failed recs s with
  | nil => exact le_refl _
  | cons o rest ih =>
    unfold runOps
    split
    · exact ih ..
    · have h := State.runOp_svnMin_le s q o
      split
      · rename_i r hr
        rw [hr] at h
        exact le_trans h (le_trans (finishOp_svnMin q o r).ge (ih ..))
      · rename_i s1 w hr
        rw [hr] at h
        exact h
theorem State.proceed_svnMin_le (s : State) (q : Requester) (tag : Nat) (stop : Bool) (ops : List StaebOp) (failed : Bool) (recs : List (List Nat)) : s.fw.svnMin ≤ (s.proceed q tag stop ops failed recs).fw.svnMin := by
  have h := runOps_svnMin_le q tag stop ops failed recs s
  unfold State.proceed
  split
  · rename_i hr
    rw [hr] at h
    exact le_trans h (State.answer_svnMin ..).ge
  · rename_i hr
    rw [hr] at h
    exact h
theorem State.runTurns_svnMin_le (n : Nat) (s : State) : s.fw.svnMin ≤ (State.runTurns n s).fw.svnMin := by
  induction n generalizing s with
  | zero => exact le_refl _
  | succ n ih =>
    unfold State.runTurns
    split
    · exact le_refl _
    · refine le_trans ?_ (ih _)
      refine le_trans ?_ (State.proceed_svnMin_le ..)
      exact le_refl _
theorem State.resume_svnMin_le (s : State) (m : Message) : s.fw.svnMin ≤ (s.resume m).fw.svnMin := by
  unfold State.resume
  refine le_trans ?_ (State.runTurns_svnMin_le ..)
  refine le_trans ?_ (State.proceed_svnMin_le ..)
  exact le_refl _
theorem State.resumeAll_svnMin_le (s : State) (f : Message → Bool) : s.fw.svnMin ≤ (s.resumeAll f).fw.svnMin := by
  unfold State.resumeAll State.each
  generalize s.mgmt.messages.filter f = l
  induction l generalizing s with
  | nil => exact le_refl _
  | cons m l ih => exact le_trans (State.resume_svnMin_le s m) (ih _)
theorem State.busyAnswer_svnMin (s : State) (q : Requester) (tag : Nat) (stop : Bool) (ops : List StaebOp) : (State.busyAnswer s q tag stop ops).fw.svnMin = s.fw.svnMin := by
  unfold State.busyAnswer
  (try simp only [State.count_svnMin, State.answer_svnMin]); (repeat' (first | with_reducible rfl | (simp only [State.logError_svnMin]; done) | (apply each_svnMin; intro _ _)))
theorem State.takeMessage_svnMin_le (s : State) (q : Requester) (tag : Nat) (stop : Bool) (ops : List StaebOp) : s.fw.svnMin ≤ (s.takeMessage q tag stop ops).fw.svnMin := by
  unfold State.takeMessage
  split
  · exact le_refl _
  · split
    · exact (State.busyAnswer_svnMin ..).ge
    · split
      · split <;> exact le_refl _
      · exact State.proceed_svnMin_le ..
theorem State.oneOp_svnMin_le (s : State) (q : Requester) (op index sub : Nat) (value : List Nat) : s.fw.svnMin ≤ (s.oneOp q op index sub value).fw.svnMin := by
  exact State.takeMessage_svnMin_le ..
theorem State.writeOb_svnMin_le (s : State) (q : Requester) (key size v : Nat) : s.fw.svnMin ≤ (s.writeOb q key size v).fw.svnMin := by
  exact State.oneOp_svnMin_le ..
theorem State.malformed_svnMin (s : State) (q : Requester) (b : List Nat) : (State.malformed s q b).fw.svnMin = s.fw.svnMin := by
  unfold State.malformed
  simp only [ite_svnMin, ite_self, State.busyAnswer_svnMin, State.answer_svnMin, State.logError_svnMin]
theorem State.message_svnMin_le (s : State) (q : Requester) (b : List Nat) : s.fw.svnMin ≤ (s.message q b).fw.svnMin := by
  unfold State.message
  split
  · exact le_refl _
  · split
    · exact State.takeMessage_svnMin_le ..
    · exact (State.malformed_svnMin ..).ge
theorem execStaebMessage_svnMin_le (q : Requester) (bytes : List Nat) (s : State) : ∃ u, execStaebMessage q bytes s = .next u ∧ s.fw.svnMin ≤ u.fw.svnMin := by
  refine ⟨_, rfl, ?_⟩
  try simp only []
  (repeat' (first | exact le_refl _ | (simp only [ite_svnMin]; exact le_refl _) | exact State.message_svnMin_le .. | (refine le_trans ?_ (State.message_svnMin_le ..)) | split))
theorem execObjectWrite_svnMin_le (q : Requester) (index : Nat) (sub : Nat) (value : List Nat) (s : State) : ∃ u, execObjectWrite q index sub value s = .next u ∧ s.fw.svnMin ≤ u.fw.svnMin := by
  refine ⟨_, rfl, ?_⟩
  try simp only []
  (repeat' (first | exact le_refl _ | (simp only [each_svnMin, foldl_svnMin, when_svnMin, ite_svnMin, ite_fst_svnMin, ite_result_svnMin, ite_mbEnd_svnMin, ite_self]; exact le_refl _) | exact State.oneOp_svnMin_le ..))
theorem execReadStaged_svnMin_le (q : Requester) (index : Nat) (sub : Nat) (s : State) : ∃ u, execReadStaged q index sub s = .next u ∧ s.fw.svnMin ≤ u.fw.svnMin := by
  refine ⟨_, rfl, ?_⟩
  try simp only []
  (repeat' (first | exact le_refl _ | (simp only [each_svnMin, foldl_svnMin, when_svnMin, ite_svnMin, ite_fst_svnMin, ite_result_svnMin, ite_mbEnd_svnMin, ite_self]; exact le_refl _) | exact State.oneOp_svnMin_le ..))
theorem execW1cWrite_svnMin_le (q : Requester) (index : Nat) (sub : Nat) (v : Nat) (s : State) : ∃ u, execW1cWrite q index sub v s = .next u ∧ s.fw.svnMin ≤ u.fw.svnMin := by
  refine ⟨_, rfl, ?_⟩
  try simp only []
  (repeat' (first | exact le_refl _ | (simp only [each_svnMin, foldl_svnMin, when_svnMin, ite_svnMin, ite_fst_svnMin, ite_result_svnMin, ite_mbEnd_svnMin, ite_self]; exact le_refl _) | exact State.oneOp_svnMin_le ..))
theorem execStageDiscard_svnMin_le (q : Requester) (v : Nat) (s : State) : ∃ u, execStageDiscard q v s = .next u ∧ s.fw.svnMin ≤ u.fw.svnMin := by
  refine ⟨_, rfl, ?_⟩
  try simp only []
  (repeat' (first | exact le_refl _ | (simp only [each_svnMin, foldl_svnMin, when_svnMin, ite_svnMin, ite_fst_svnMin, ite_result_svnMin, ite_mbEnd_svnMin, ite_self]; exact le_refl _) | exact State.writeOb_svnMin_le ..))
theorem execStageExpired_svnMin (q : Requester) (s : State) : ∃ u, execStageExpired q s = .next u ∧ u.fw.svnMin = s.fw.svnMin := by
  unfold execStageExpired
  refine ⟨_, rfl, ?_⟩
  try simp only []
  (repeat' (first | with_reducible rfl | (simp only [ite_svnMin, ite_self, State.pev_svnMin, State.raise_svnMin, State.dropSet_svnMin]; done) | (apply each_svnMin; intro _ _) | (rw [each_svnMin] <;> (try intro _ _)) | split))
theorem State.cutCommit_svnMin (s : State) (q : Requester) (items : Items) (whole : Bool) : (State.cutCommit s q items whole).fw.svnMin = s.fw.svnMin := by
  unfold State.cutCommit
  simp only [ite_svnMin, ite_self, State.coreLost_svnMin, State.settleJournal_svnMin]
theorem execCommit_svnMin_le (q : Requester) (expected : Nat) (cut : Nat) (s : State) : ∃ u, execCommit q expected cut s = .next u ∧ s.fw.svnMin ≤ u.fw.svnMin := by
  refine ⟨_, rfl, ?_⟩
  try simp only []
  (repeat' (first | exact le_refl _ | (simp only [ite_svnMin, ite_self, State.coreLost_svnMin, State.cutCommit_svnMin]; exact le_refl _) | exact State.writeOb_svnMin_le .. | (refine le_trans ?_ (State.writeOb_svnMin_le ..)) | split))
theorem execReadSvcClear_svnMin_le (q : Requester) (t : Nat) (v : Nat) (s : State) : ∃ u, execReadSvcClear q t v s = .next u ∧ s.fw.svnMin ≤ u.fw.svnMin := by
  refine ⟨_, rfl, ?_⟩
  try simp only []
  (repeat' (first | exact le_refl _ | (simp only [each_svnMin, foldl_svnMin, when_svnMin, ite_svnMin, ite_fst_svnMin, ite_result_svnMin, ite_mbEnd_svnMin, ite_self]; exact le_refl _) | exact State.writeOb_svnMin_le ..))
theorem execMigrateRequest_svnMin_le (q : Requester) (v : Nat) (s : State) : ∃ u, execMigrateRequest q v s = .next u ∧ s.fw.svnMin ≤ u.fw.svnMin := by
  refine ⟨_, rfl, ?_⟩
  try simp only []
  (repeat' (first | exact le_refl _ | (simp only [each_svnMin, foldl_svnMin, when_svnMin, ite_svnMin, ite_fst_svnMin, ite_result_svnMin, ite_mbEnd_svnMin, ite_self]; exact le_refl _) | exact State.writeOb_svnMin_le ..))
theorem execQuarantineAck_svnMin_le (q : Requester) (v : Nat) (s : State) : ∃ u, execQuarantineAck q v s = .next u ∧ s.fw.svnMin ≤ u.fw.svnMin := by
  refine ⟨_, rfl, ?_⟩
  try simp only []
  (repeat' (first | exact le_refl _ | (simp only [each_svnMin, foldl_svnMin, when_svnMin, ite_svnMin, ite_fst_svnMin, ite_result_svnMin, ite_mbEnd_svnMin, ite_self]; exact le_refl _) | exact State.writeOb_svnMin_le ..))
theorem execMapQuery_svnMin_le (q : Requester) (v : Nat) (s : State) : ∃ u, execMapQuery q v s = .next u ∧ s.fw.svnMin ≤ u.fw.svnMin := by
  refine ⟨_, rfl, ?_⟩
  try simp only []
  (repeat' (first | exact le_refl _ | (simp only [each_svnMin, foldl_svnMin, when_svnMin, ite_svnMin, ite_fst_svnMin, ite_result_svnMin, ite_mbEnd_svnMin, ite_self]; exact le_refl _) | exact State.writeOb_svnMin_le ..))
theorem execScrubStart_svnMin_le (q : Requester) (v : Nat) (s : State) : ∃ u, execScrubStart q v s = .next u ∧ s.fw.svnMin ≤ u.fw.svnMin := by
  refine ⟨_, rfl, ?_⟩
  try simp only []
  (repeat' (first | exact le_refl _ | (simp only [each_svnMin, foldl_svnMin, when_svnMin, ite_svnMin, ite_fst_svnMin, ite_result_svnMin, ite_mbEnd_svnMin, ite_self]; exact le_refl _) | exact State.writeOb_svnMin_le ..))
theorem execScrubAbort_svnMin_le (q : Requester) (v : Nat) (s : State) : ∃ u, execScrubAbort q v s = .next u ∧ s.fw.svnMin ≤ u.fw.svnMin := by
  refine ⟨_, rfl, ?_⟩
  try simp only []
  (repeat' (first | exact le_refl _ | (simp only [each_svnMin, foldl_svnMin, when_svnMin, ite_svnMin, ite_fst_svnMin, ite_result_svnMin, ite_mbEnd_svnMin, ite_self]; exact le_refl _) | exact State.writeOb_svnMin_le ..))
theorem execTileFence_svnMin_le (q : Requester) (v : Nat) (s : State) : ∃ u, execTileFence q v s = .next u ∧ s.fw.svnMin ≤ u.fw.svnMin := by
  refine ⟨_, rfl, ?_⟩
  try simp only []
  (repeat' (first | exact le_refl _ | (simp only [each_svnMin, foldl_svnMin, when_svnMin, ite_svnMin, ite_fst_svnMin, ite_result_svnMin, ite_mbEnd_svnMin, ite_self]; exact le_refl _) | exact State.writeOb_svnMin_le ..))
theorem execTileRejoin_svnMin_le (q : Requester) (v : Nat) (s : State) : ∃ u, execTileRejoin q v s = .next u ∧ s.fw.svnMin ≤ u.fw.svnMin := by
  refine ⟨_, rfl, ?_⟩
  try simp only []
  (repeat' (first | exact le_refl _ | (simp only [each_svnMin, foldl_svnMin, when_svnMin, ite_svnMin, ite_fst_svnMin, ite_result_svnMin, ite_mbEnd_svnMin, ite_self]; exact le_refl _) | exact State.writeOb_svnMin_le ..))
theorem execKeyLoad_svnMin_le (q : Requester) (slot : Nat) (k1 : Key256) (k2 : Key256) (s : State) : ∃ u, execKeyLoad q slot k1 k2 s = .next u ∧ s.fw.svnMin ≤ u.fw.svnMin := by
  refine ⟨_, rfl, ?_⟩
  try simp only []
  (repeat' (first | exact le_refl _ | (simp only [each_svnMin, foldl_svnMin, when_svnMin, ite_svnMin, ite_fst_svnMin, ite_result_svnMin, ite_mbEnd_svnMin, ite_self]; exact le_refl _) | exact State.writeOb_svnMin_le ..))
theorem execKeyErase_svnMin_le (q : Requester) (slot : Nat) (s : State) : ∃ u, execKeyErase q slot s = .next u ∧ s.fw.svnMin ≤ u.fw.svnMin := by
  refine ⟨_, rfl, ?_⟩
  try simp only []
  (repeat' (first | exact le_refl _ | (simp only [each_svnMin, foldl_svnMin, when_svnMin, ite_svnMin, ite_fst_svnMin, ite_result_svnMin, ite_mbEnd_svnMin, ite_self]; exact le_refl _) | exact State.writeOb_svnMin_le ..))
theorem execKeyPurgeDone_svnMin_le (s : State) : ∃ u, execKeyPurgeDone s = .next u ∧ s.fw.svnMin ≤ u.fw.svnMin := by
  refine ⟨_, rfl, ?_⟩
  try simp only []
  (repeat' (first | exact le_refl _ | (simp only [ite_svnMin, State.finishKey_svnMin, State.purgeEntries_svnMin]; exact le_refl _) | exact State.resumeAll_svnMin_le .. | (refine le_trans ?_ (State.resumeAll_svnMin_le ..)) | split))
theorem execKeyQuery_svnMin_le (q : Requester) (v : Nat) (s : State) : ∃ u, execKeyQuery q v s = .next u ∧ s.fw.svnMin ≤ u.fw.svnMin := by
  refine ⟨_, rfl, ?_⟩
  try simp only []
  (repeat' (first | exact le_refl _ | (simp only [each_svnMin, foldl_svnMin, when_svnMin, ite_svnMin, ite_fst_svnMin, ite_result_svnMin, ite_mbEnd_svnMin, ite_self]; exact le_refl _) | exact State.writeOb_svnMin_le ..))
theorem execDebugUnlock_svnMin_le (q : Requester) (token : Nat) (s : State) : ∃ u, execDebugUnlock q token s = .next u ∧ s.fw.svnMin ≤ u.fw.svnMin := by
  refine ⟨_, rfl, ?_⟩
  try simp only []
  (repeat' (first | exact le_refl _ | (simp only [each_svnMin, foldl_svnMin, when_svnMin, ite_svnMin, ite_fst_svnMin, ite_result_svnMin, ite_mbEnd_svnMin, ite_self]; exact le_refl _) | exact State.writeOb_svnMin_le ..))
theorem execDebugLock_svnMin_le (q : Requester) (v : Nat) (s : State) : ∃ u, execDebugLock q v s = .next u ∧ s.fw.svnMin ≤ u.fw.svnMin := by
  refine ⟨_, rfl, ?_⟩
  try simp only []
  (repeat' (first | exact le_refl _ | (simp only [each_svnMin, foldl_svnMin, when_svnMin, ite_svnMin, ite_fst_svnMin, ite_result_svnMin, ite_mbEnd_svnMin, ite_self]; exact le_refl _) | exact State.writeOb_svnMin_le ..))
theorem execSealRootAdopt_svnMin_le (q : Requester) (part : Nat) (t : Nat) (s : State) : ∃ u, execSealRootAdopt q part t s = .next u ∧ s.fw.svnMin ≤ u.fw.svnMin := by
  refine ⟨_, rfl, ?_⟩
  try simp only []
  (repeat' (first | exact le_refl _ | (simp only [each_svnMin, foldl_svnMin, when_svnMin, ite_svnMin, ite_fst_svnMin, ite_result_svnMin, ite_mbEnd_svnMin, ite_self]; exact le_refl _) | exact State.writeOb_svnMin_le ..))
theorem execSqRestart_svnMin_le (q : Requester) (t : Nat) (queue : Nat) (v : Nat) (s : State) : ∃ u, execSqRestart q t queue v s = .next u ∧ s.fw.svnMin ≤ u.fw.svnMin := by
  refine ⟨_, rfl, ?_⟩
  try simp only []
  (repeat' (first | exact le_refl _ | (simp only [each_svnMin, foldl_svnMin, when_svnMin, ite_svnMin, ite_fst_svnMin, ite_result_svnMin, ite_mbEnd_svnMin, ite_self]; exact le_refl _) | exact State.writeOb_svnMin_le ..))
theorem execClassHeldClear_svnMin_le (q : Requester) (c : Nat) (v : Nat) (s : State) : ∃ u, execClassHeldClear q c v s = .next u ∧ s.fw.svnMin ≤ u.fw.svnMin := by
  refine ⟨_, rfl, ?_⟩
  try simp only []
  (repeat' (first | exact le_refl _ | (simp only [each_svnMin, foldl_svnMin, when_svnMin, ite_svnMin, ite_fst_svnMin, ite_result_svnMin, ite_mbEnd_svnMin, ite_self]; exact le_refl _) | exact State.writeOb_svnMin_le ..))
theorem execCntSnapshot_svnMin_le (q : Requester) (v : Nat) (s : State) : ∃ u, execCntSnapshot q v s = .next u ∧ s.fw.svnMin ≤ u.fw.svnMin := by
  refine ⟨_, rfl, ?_⟩
  try simp only []
  (repeat' (first | exact le_refl _ | (simp only [each_svnMin, foldl_svnMin, when_svnMin, ite_svnMin, ite_fst_svnMin, ite_result_svnMin, ite_mbEnd_svnMin, ite_self]; exact le_refl _) | exact State.writeOb_svnMin_le ..))
theorem execCntSnapshotLatch_svnMin_le (s : State) : ∃ u, execCntSnapshotLatch s = .next u ∧ s.fw.svnMin ≤ u.fw.svnMin := by
  refine ⟨_, rfl, ?_⟩
  try simp only []
  (repeat' (first | exact le_refl _ | (simp only [ite_svnMin, State.latchReached_svnMin]; exact le_refl _) | exact State.resumeAll_svnMin_le .. | (refine le_trans ?_ (State.resumeAll_svnMin_le ..)) | split))
theorem execRecPublish_svnMin_le (r : Nat) (s : State) : ∃ u, execRecPublish r s = .next u ∧ s.fw.svnMin ≤ u.fw.svnMin := by
  refine ⟨_, rfl, ?_⟩
  try simp only []
  (repeat' (first | exact le_refl _ | (simp only [ite_svnMin, State.publish_svnMin]; exact le_refl _) | exact State.resumeAll_svnMin_le .. | (refine le_trans ?_ (State.resumeAll_svnMin_le ..)) | split))
theorem execRecClear_svnMin_le (q : Requester) (v : Nat) (s : State) : ∃ u, execRecClear q v s = .next u ∧ s.fw.svnMin ≤ u.fw.svnMin := by
  refine ⟨_, rfl, ?_⟩
  try simp only []
  (repeat' (first | exact le_refl _ | (simp only [each_svnMin, foldl_svnMin, when_svnMin, ite_svnMin, ite_fst_svnMin, ite_result_svnMin, ite_mbEnd_svnMin, ite_self]; exact le_refl _) | exact State.writeOb_svnMin_le ..))
theorem execRecNext_svnMin_le (q : Requester) (t : Nat) (seq : Nat) (s : State) : ∃ u, execRecNext q t seq s = .next u ∧ s.fw.svnMin ≤ u.fw.svnMin := by
  refine ⟨_, rfl, ?_⟩
  try simp only []
  (repeat' (first | exact le_refl _ | (simp only [each_svnMin, foldl_svnMin, when_svnMin, ite_svnMin, ite_fst_svnMin, ite_result_svnMin, ite_mbEnd_svnMin, ite_self]; exact le_refl _) | exact State.writeOb_svnMin_le ..))
theorem execRecRelease_svnMin_le (q : Requester) (t : Nat) (seq : Nat) (s : State) : ∃ u, execRecRelease q t seq s = .next u ∧ s.fw.svnMin ≤ u.fw.svnMin := by
  refine ⟨_, rfl, ?_⟩
  try simp only []
  (repeat' (first | exact le_refl _ | (simp only [each_svnMin, foldl_svnMin, when_svnMin, ite_svnMin, ite_fst_svnMin, ite_result_svnMin, ite_mbEnd_svnMin, ite_self]; exact le_refl _) | exact State.writeOb_svnMin_le ..))
theorem execRecPkgNext_svnMin_le (q : Requester) (seq : Nat) (s : State) : ∃ u, execRecPkgNext q seq s = .next u ∧ s.fw.svnMin ≤ u.fw.svnMin := by
  refine ⟨_, rfl, ?_⟩
  try simp only []
  (repeat' (first | exact le_refl _ | (simp only [each_svnMin, foldl_svnMin, when_svnMin, ite_svnMin, ite_fst_svnMin, ite_result_svnMin, ite_mbEnd_svnMin, ite_self]; exact le_refl _) | exact State.writeOb_svnMin_le ..))
theorem execRecPkgRelease_svnMin_le (q : Requester) (seq : Nat) (s : State) : ∃ u, execRecPkgRelease q seq s = .next u ∧ s.fw.svnMin ≤ u.fw.svnMin := by
  refine ⟨_, rfl, ?_⟩
  try simp only []
  (repeat' (first | exact le_refl _ | (simp only [each_svnMin, foldl_svnMin, when_svnMin, ite_svnMin, ite_fst_svnMin, ite_result_svnMin, ite_mbEnd_svnMin, ite_self]; exact le_refl _) | exact State.writeOb_svnMin_le ..))
theorem execPowerDown_svnMin_le (q : Requester) (v : Nat) (s : State) : ∃ u, execPowerDown q v s = .next u ∧ s.fw.svnMin ≤ u.fw.svnMin := by
  refine ⟨_, rfl, ?_⟩
  try simp only []
  (repeat' (first | exact le_refl _ | (simp only [each_svnMin, foldl_svnMin, when_svnMin, ite_svnMin, ite_fst_svnMin, ite_result_svnMin, ite_mbEnd_svnMin, ite_self]; exact le_refl _) | exact State.writeOb_svnMin_le ..))
theorem execPowerUp_svnMin_le (q : Requester) (v : Nat) (s : State) : ∃ u, execPowerUp q v s = .next u ∧ s.fw.svnMin ≤ u.fw.svnMin := by
  refine ⟨_, rfl, ?_⟩
  try simp only []
  (repeat' (first | exact le_refl _ | (simp only [each_svnMin, foldl_svnMin, when_svnMin, ite_svnMin, ite_fst_svnMin, ite_result_svnMin, ite_mbEnd_svnMin, ite_self]; exact le_refl _) | exact State.writeOb_svnMin_le ..))
theorem execFwActivateLive_svnMin_le (q : Requester) (s : State) : ∃ u, execFwActivateLive q s = .next u ∧ s.fw.svnMin ≤ u.fw.svnMin := by
  refine ⟨_, rfl, ?_⟩
  try simp only []
  (repeat' (first | exact le_refl _ | (simp only [each_svnMin, foldl_svnMin, when_svnMin, ite_svnMin, ite_fst_svnMin, ite_result_svnMin, ite_mbEnd_svnMin, ite_self]; exact le_refl _) | exact State.writeOb_svnMin_le ..))
theorem execFwActivateAtReset_svnMin_le (q : Requester) (s : State) : ∃ u, execFwActivateAtReset q s = .next u ∧ s.fw.svnMin ≤ u.fw.svnMin := by
  refine ⟨_, rfl, ?_⟩
  try simp only []
  (repeat' (first | exact le_refl _ | (simp only [each_svnMin, foldl_svnMin, when_svnMin, ite_svnMin, ite_fst_svnMin, ite_result_svnMin, ite_mbEnd_svnMin, ite_self]; exact le_refl _) | exact State.writeOb_svnMin_le ..))
theorem execFwSvnCommit_svnMin_le (q : Requester) (v : Nat) (s : State) : ∃ u, execFwSvnCommit q v s = .next u ∧ s.fw.svnMin ≤ u.fw.svnMin := by
  refine ⟨_, rfl, ?_⟩
  try simp only []
  (repeat' (first | exact le_refl _ | (simp only [each_svnMin, foldl_svnMin, when_svnMin, ite_svnMin, ite_fst_svnMin, ite_result_svnMin, ite_mbEnd_svnMin, ite_self]; exact le_refl _) | exact State.writeOb_svnMin_le ..))
theorem execOwnerInstall_svnMin_le (q : Requester) (cert : Nat) (s : State) : ∃ u, execOwnerInstall q cert s = .next u ∧ s.fw.svnMin ≤ u.fw.svnMin := by
  refine ⟨_, rfl, ?_⟩
  try simp only []
  (repeat' (first | exact le_refl _ | (simp only [each_svnMin, foldl_svnMin, when_svnMin, ite_svnMin, ite_fst_svnMin, ite_result_svnMin, ite_mbEnd_svnMin, ite_self]; exact le_refl _) | exact State.writeOb_svnMin_le ..))
theorem execDecommission_svnMin_le (q : Requester) (v : Nat) (s : State) : ∃ u, execDecommission q v s = .next u ∧ s.fw.svnMin ≤ u.fw.svnMin := by
  refine ⟨_, rfl, ?_⟩
  try simp only []
  (repeat' (first | exact le_refl _ | (simp only [each_svnMin, foldl_svnMin, when_svnMin, ite_svnMin, ite_fst_svnMin, ite_result_svnMin, ite_mbEnd_svnMin, ite_self]; exact le_refl _) | exact State.writeOb_svnMin_le ..))
theorem State.mbDone_svnMin (s : State) (out : List Nat) : (State.mbDone s out).st.fw.svnMin = s.fw.svnMin := by
  unfold State.mbDone
  simp only []
theorem State.mbRc_svnMin (s : State) (rc : Nat) : (State.mbRc s rc).st.fw.svnMin = s.fw.svnMin := by
  unfold State.mbRc
  simp only []
theorem State.mbError_svnMin (s : State) (q : Requester) (code : Nat) (detail : Nat) (key : Nat) : (State.mbError s q code detail key).st.fw.svnMin = s.fw.svnMin := by
  unfold State.mbError
  simp only [State.mbRc_svnMin, State.logError_svnMin]
theorem State.mbCommit_svnMin (s : State) (q : Requester) (items : Items) : (s.mbCommit q items).st.fw.svnMin = s.fw.svnMin := by
  unfold State.mbCommit
  split
  · simp only [State.mbError_svnMin]
  · split
    · simp only [State.mbError_svnMin]
    · split
      · simp only [State.mbError_svnMin]
      · split
        · rename_i h
          have := congrArg (fun r => r.1.fw.svnMin) h
          simp only [State.commitSet_svnMin] at this
          simp only [State.mbDone_svnMin, ← this]
        · rename_i h
          have := congrArg (fun r => r.1.fw.svnMin) h
          simp only [State.commitSet_svnMin] at this
          simp only [State.mbError_svnMin, ← this]
theorem State.complete_svnMin (s : State) (p l op : Nat) (d : MbEnd) (h : d.st.fw.svnMin = s.fw.svnMin) : (s.complete p l op d).fw.svnMin = s.fw.svnMin := by
  unfold State.complete
  simp only []
  split
  · rfl
  · simp only [State.tcount_svnMin]; exact h
theorem State.mailbox_svnMin (s : State) (p l op : Nat) (n : Needs) (f : State → MbEnd) (h : (f s).st.fw.svnMin = s.fw.svnMin) : (s.mailbox p l op n f).fw.svnMin = s.fw.svnMin := by
  unfold State.mailbox
  split
  · rfl
  · split
    · simp only [State.modLd_svnMin]
    · split
      · exact State.complete_svnMin _ _ _ _ _ (State.mbError_svnMin ..)
      · split
        · exact State.complete_svnMin _ _ _ _ _ (State.mbError_svnMin ..)
        · exact State.complete_svnMin _ _ _ _ _ h
theorem State.background_svnMin (s : State) (op : Nat) : (State.background s op).st.fw.svnMin = s.fw.svnMin := by
  unfold State.background
  simp only [State.mbRc_svnMin]
theorem execIdentify_svnMin (port : Nat) (ld : Nat) (s : State) : ∃ u, execIdentify port ld s = .next u ∧ u.fw.svnMin = s.fw.svnMin := by
  unfold execIdentify
  refine ⟨_, rfl, ?_⟩
  simp only [State.mailbox_svnMin, State.mbDone_svnMin]
theorem execBackgroundOperationStatus_svnMin (port : Nat) (ld : Nat) (s : State) : ∃ u, execBackgroundOperationStatus port ld s = .next u ∧ u.fw.svnMin = s.fw.svnMin := by
  unfold execBackgroundOperationStatus
  refine ⟨_, rfl, ?_⟩
  simp only [State.mailbox_svnMin, State.mbDone_svnMin]
theorem execGetEventRecords_svnMin (port : Nat) (ld : Nat) (log : Nat) (s : State) : ∃ u, execGetEventRecords port ld log s = .next u ∧ u.fw.svnMin = s.fw.svnMin := by
  unfold execGetEventRecords
  refine ⟨_, rfl, ?_⟩
  simp only [ite_mbEnd_svnMin, ite_self, State.mailbox_svnMin, State.mbRc_svnMin, State.mbDone_svnMin]
theorem execClearEventRecords_svnMin (port : Nat) (ld : Nat) (log : Nat) (all : Bool) (handles : List Nat) (s : State) : ∃ u, execClearEventRecords port ld log all handles s = .next u ∧ u.fw.svnMin = s.fw.svnMin := by
  unfold execClearEventRecords
  refine ⟨_, rfl, ?_⟩
  simp only [ite_mbEnd_svnMin, ite_self, State.mailbox_svnMin, State.mbRc_svnMin, State.mbDone_svnMin, State.modLd_svnMin]
theorem execGetEventInterruptPolicy_svnMin (port : Nat) (ld : Nat) (s : State) : ∃ u, execGetEventInterruptPolicy port ld s = .next u ∧ u.fw.svnMin = s.fw.svnMin := by
  unfold execGetEventInterruptPolicy
  refine ⟨_, rfl, ?_⟩
  simp only [State.mailbox_svnMin, State.mbDone_svnMin]
theorem execSetEventInterruptPolicy_svnMin (port : Nat) (ld : Nat) (policy : List Nat) (s : State) : ∃ u, execSetEventInterruptPolicy port ld policy s = .next u ∧ u.fw.svnMin = s.fw.svnMin := by
  unfold execSetEventInterruptPolicy
  refine ⟨_, rfl, ?_⟩
  simp only [ite_mbEnd_svnMin, ite_self, State.mailbox_svnMin, State.mbRc_svnMin, State.mbDone_svnMin, State.modLd_svnMin]
theorem execGetFwInfo_svnMin (port : Nat) (ld : Nat) (s : State) : ∃ u, execGetFwInfo port ld s = .next u ∧ u.fw.svnMin = s.fw.svnMin := by
  unfold execGetFwInfo
  refine ⟨_, rfl, ?_⟩
  simp only [State.mailbox_svnMin, State.mbDone_svnMin]
theorem State.fwPart_svnMin (s : State) (x : FwPart) : (State.fwPart s x).st.fw.svnMin = s.fw.svnMin := by
  unfold State.fwPart
  simp only [ite_mbEnd_svnMin, ite_self, State.mbRc_svnMin, State.mbDone_svnMin]
theorem execTransferFw_svnMin (port : Nat) (ld : Nat) (x : FwPart) (s : State) : ∃ u, execTransferFw port ld x s = .next u ∧ u.fw.svnMin = s.fw.svnMin := by
  unfold execTransferFw
  refine ⟨_, rfl, ?_⟩
  simp only [ite_mbEnd_svnMin, ite_self, State.mailbox_svnMin, State.mbRc_svnMin, State.fwPart_svnMin]
theorem execActivateFw_svnMin (port : Nat) (ld : Nat) (slot : Nat) (online : Bool) (s : State) : ∃ u, execActivateFw port ld slot online s = .next u ∧ u.fw.svnMin = s.fw.svnMin := by
  unfold execActivateFw
  refine ⟨_, rfl, ?_⟩
  simp only [ite_mbEnd_svnMin, ite_self, State.mailbox_svnMin, State.mbRc_svnMin, State.background_svnMin, State.startUpdate_svnMin, State.mbError_svnMin, State.mbDone_svnMin, State.activateAtReset_svnMin]
theorem execGetTimestamp_svnMin (port : Nat) (ld : Nat) (s : State) : ∃ u, execGetTimestamp port ld s = .next u ∧ u.fw.svnMin = s.fw.svnMin := by
  unfold execGetTimestamp
  refine ⟨_, rfl, ?_⟩
  simp only [State.mailbox_svnMin, State.mbDone_svnMin]
theorem execSetTimestamp_svnMin (port : Nat) (ld : Nat) (time : Nat) (s : State) : ∃ u, execSetTimestamp port ld time s = .next u ∧ u.fw.svnMin = s.fw.svnMin := by
  unfold execSetTimestamp
  refine ⟨_, rfl, ?_⟩
  simp only [State.mailbox_svnMin, State.mbDone_svnMin, State.setCell_svnMin]
theorem execGetSupportedLogs_svnMin (port : Nat) (ld : Nat) (s : State) : ∃ u, execGetSupportedLogs port ld s = .next u ∧ u.fw.svnMin = s.fw.svnMin := by
  unfold execGetSupportedLogs
  refine ⟨_, rfl, ?_⟩
  simp only [State.mailbox_svnMin, State.mbDone_svnMin]
theorem execGetLog_svnMin (port : Nat) (ld : Nat) (log : Nat) (s : State) : ∃ u, execGetLog port ld log s = .next u ∧ u.fw.svnMin = s.fw.svnMin := by
  unfold execGetLog
  refine ⟨_, rfl, ?_⟩
  simp only [ite_mbEnd_svnMin, ite_self, State.mailbox_svnMin, State.mbDone_svnMin, State.mbRc_svnMin]
theorem execGetSupportedFeatures_svnMin (port : Nat) (ld : Nat) (s : State) : ∃ u, execGetSupportedFeatures port ld s = .next u ∧ u.fw.svnMin = s.fw.svnMin := by
  unfold execGetSupportedFeatures
  refine ⟨_, rfl, ?_⟩
  simp only [State.mailbox_svnMin, State.mbDone_svnMin]
theorem execGetFeature_svnMin (port : Nat) (ld : Nat) (feature : Nat) (s : State) : ∃ u, execGetFeature port ld feature s = .next u ∧ u.fw.svnMin = s.fw.svnMin := by
  unfold execGetFeature
  refine ⟨_, rfl, ?_⟩
  simp only [ite_mbEnd_svnMin, ite_self, State.mailbox_svnMin, State.mbDone_svnMin, State.mbRc_svnMin]
theorem execSetFeature_svnMin (port : Nat) (ld : Nat) (feature : Nat) (cycle : Nat) (enable : Bool) (s : State) : ∃ u, execSetFeature port ld feature cycle enable s = .next u ∧ u.fw.svnMin = s.fw.svnMin := by
  unfold execSetFeature
  refine ⟨_, rfl, ?_⟩
  simp only [ite_mbEnd_svnMin, ite_self, State.mailbox_svnMin, State.mbRc_svnMin, State.mbError_svnMin, State.mbCommit_svnMin]
theorem execIdentifyMemoryDevice_svnMin (port : Nat) (ld : Nat) (s : State) : ∃ u, execIdentifyMemoryDevice port ld s = .next u ∧ u.fw.svnMin = s.fw.svnMin := by
  unfold execIdentifyMemoryDevice
  refine ⟨_, rfl, ?_⟩
  simp only [State.mailbox_svnMin, State.mbDone_svnMin]
theorem execGetPartitionInfo_svnMin (port : Nat) (ld : Nat) (s : State) : ∃ u, execGetPartitionInfo port ld s = .next u ∧ u.fw.svnMin = s.fw.svnMin := by
  unfold execGetPartitionInfo
  refine ⟨_, rfl, ?_⟩
  simp only [State.mailbox_svnMin, State.mbDone_svnMin]
theorem execGetLsa_svnMin (port : Nat) (ld : Nat) (offset : Nat) (len : Nat) (s : State) : ∃ u, execGetLsa port ld offset len s = .next u ∧ u.fw.svnMin = s.fw.svnMin := by
  unfold execGetLsa
  refine ⟨_, rfl, ?_⟩
  simp only [ite_mbEnd_svnMin, ite_self, State.mailbox_svnMin, State.mbRc_svnMin, State.mbDone_svnMin]
theorem State.writeLsa_svnMin (s : State) (t : Nat) (p : Nat) (l : Nat) (offset : Nat) (data : List Nat) : (State.writeLsa s t p l offset data).fw.svnMin = s.fw.svnMin := by
  unfold State.writeLsa
  (try simp only [State.modPs_svnMin]); (repeat' (first | with_reducible rfl | (simp only [State.pageCommit_svnMin]; done) | (apply each_svnMin; intro _ _)))
theorem execSetLsa_svnMin (port : Nat) (ld : Nat) (offset : Nat) (data : List Nat) (s : State) : ∃ u, execSetLsa port ld offset data s = .next u ∧ u.fw.svnMin = s.fw.svnMin := by
  unfold execSetLsa
  refine ⟨_, rfl, ?_⟩
  try simp only []
  (repeat' (first | with_reducible rfl | (simp only [State.mailbox_svnMin, State.mbRc_svnMin, State.mbDone_svnMin, State.writeLsa_svnMin]; done) | (apply each_svnMin; intro _ _) | (rw [each_svnMin] <;> (try intro _ _)) | split | (refine State.mailbox_svnMin _ _ _ _ _ _ ?_)))
theorem execGetHealthInfo_svnMin (port : Nat) (ld : Nat) (s : State) : ∃ u, execGetHealthInfo port ld s = .next u ∧ u.fw.svnMin = s.fw.svnMin := by
  unfold execGetHealthInfo
  refine ⟨_, rfl, ?_⟩
  simp only [State.mailbox_svnMin, State.mbDone_svnMin]
theorem execGetAlertConfiguration_svnMin (port : Nat) (ld : Nat) (s : State) : ∃ u, execGetAlertConfiguration port ld s = .next u ∧ u.fw.svnMin = s.fw.svnMin := by
  unfold execGetAlertConfiguration
  refine ⟨_, rfl, ?_⟩
  simp only [State.mailbox_svnMin, State.mbDone_svnMin]
theorem execSetAlertConfiguration_svnMin (port : Nat) (ld : Nat) (life : Nat) (over_ : Nat) (under : Nat) (volatileErrs : Nat) (persistentErrs : Nat) (s : State) : ∃ u, execSetAlertConfiguration port ld life over_ under volatileErrs persistentErrs s = .next u ∧ u.fw.svnMin = s.fw.svnMin := by
  unfold execSetAlertConfiguration
  refine ⟨_, rfl, ?_⟩
  simp only [ite_mbEnd_svnMin, ite_self, State.mailbox_svnMin, State.mbRc_svnMin, State.mbDone_svnMin, State.modLd_svnMin]
theorem execGetShutdownState_svnMin (port : Nat) (ld : Nat) (s : State) : ∃ u, execGetShutdownState port ld s = .next u ∧ u.fw.svnMin = s.fw.svnMin := by
  unfold execGetShutdownState
  refine ⟨_, rfl, ?_⟩
  simp only [State.mailbox_svnMin, State.mbDone_svnMin]
theorem execSetShutdownState_svnMin (port : Nat) (ld : Nat) (v : Nat) (s : State) : ∃ u, execSetShutdownState port ld v s = .next u ∧ u.fw.svnMin = s.fw.svnMin := by
  unfold execSetShutdownState
  refine ⟨_, rfl, ?_⟩
  simp only [ite_mbEnd_svnMin, ite_self, State.mailbox_svnMin, State.mbError_svnMin, State.mbDone_svnMin, State.writeNow_svnMin]
theorem execStaebExchange_svnMin_le (port : Nat) (ld : Nat) (bytes : List Nat) (s : State) : ∃ u, execStaebExchange port ld bytes s = .next u ∧ s.fw.svnMin ≤ u.fw.svnMin := by
  refine ⟨_, rfl, ?_⟩
  try simp only []
  (repeat' (first | exact le_refl _ | (simp only [ite_svnMin, ite_mbEnd_svnMin, ite_self, State.mailbox_svnMin, State.mbRc_svnMin]; exact le_refl _) | exact State.message_svnMin_le .. | (refine le_trans ?_ (State.message_svnMin_le ..)) | split))
theorem execStaebLimits_svnMin (port : Nat) (ld : Nat) (s : State) : ∃ u, execStaebLimits port ld s = .next u ∧ u.fw.svnMin = s.fw.svnMin := by
  unfold execStaebLimits
  refine ⟨_, rfl, ?_⟩
  simp only [ite_mbEnd_svnMin, ite_self, State.mailbox_svnMin, State.mbDone_svnMin, State.mbRc_svnMin]
theorem execGetPoisonList_svnMin (port : Nat) (ld : Nat) (dpa : Nat) (len : Nat) (s : State) : ∃ u, execGetPoisonList port ld dpa len s = .next u ∧ u.fw.svnMin = s.fw.svnMin := by
  unfold execGetPoisonList
  refine ⟨_, rfl, ?_⟩
  simp only [ite_mbEnd_svnMin, ite_self, State.mailbox_svnMin, State.mbRc_svnMin, State.mbDone_svnMin]
theorem State.mailboxAccept_svnMin (s : State) (t : Nat) (r : Req) : (State.mailboxAccept s t r).fw.svnMin = s.fw.svnMin := by
  unfold State.mailboxAccept
  simp only [State.lookup_svnMin, State.takeTokens_svnMin]
theorem State.sourceOf_svnMin (s : State) (t : Nat) (lla : Nat) (source : Nat) : (State.sourceOf s t lla source).fw.svnMin = s.fw.svnMin := by
  unfold State.sourceOf
  simp only [State.modMap_svnMin]
theorem execInjectPoison_svnMin (port : Nat) (ld : Nat) (dpa : Nat) (s : State) : ∃ u, execInjectPoison port ld dpa s = .next u ∧ u.fw.svnMin = s.fw.svnMin := by
  unfold execInjectPoison
  refine ⟨_, rfl, ?_⟩
  try simp only []
  (repeat' (first | with_reducible rfl | (simp only [ite_svnMin, ite_mbEnd_svnMin, ite_self, State.mbError_svnMin, State.mbRc_svnMin, State.mailboxAccept_svnMin, State.mbDone_svnMin, State.sourceOf_svnMin]; done) | (apply each_svnMin; intro _ _) | (rw [each_svnMin] <;> (try intro _ _)) | split | (refine State.mailbox_svnMin _ _ _ _ _ _ ?_)))
theorem State.clearLine_svnMin (s : State) (t : Nat) (tile : Nat) (lla : Nat) : (State.clearLine s t tile lla).fw.svnMin = s.fw.svnMin := by
  unfold State.clearLine
  (try simp only []); (repeat' (first | with_reducible rfl | (simp only [State.unpoisonLine_svnMin, State.modRes_svnMin]; done) | (apply each_svnMin; intro _ _) | (rw [each_svnMin] <;> (try intro _ _)) | split))
theorem execClearPoison_svnMin (port : Nat) (ld : Nat) (dpa : Nat) (data : Line) (s : State) : ∃ u, execClearPoison port ld dpa data s = .next u ∧ u.fw.svnMin = s.fw.svnMin := by
  unfold execClearPoison
  refine ⟨_, rfl, ?_⟩
  try simp only []
  (repeat' (first | with_reducible rfl | (simp only [ite_mbEnd_svnMin, ite_self, State.mbRc_svnMin, State.mbError_svnMin, State.clearLine_svnMin, State.mbDone_svnMin, State.mailboxAccept_svnMin]; done) | (apply each_svnMin; intro _ _) | (rw [each_svnMin] <;> (try intro _ _)) | split | (refine State.mailbox_svnMin _ _ _ _ _ _ ?_)))
theorem execGetScanMediaCapabilities_svnMin (port : Nat) (ld : Nat) (dpa : Nat) (len : Nat) (s : State) : ∃ u, execGetScanMediaCapabilities port ld dpa len s = .next u ∧ u.fw.svnMin = s.fw.svnMin := by
  unfold execGetScanMediaCapabilities
  refine ⟨_, rfl, ?_⟩
  simp only [ite_mbEnd_svnMin, ite_self, State.mailbox_svnMin, State.mbRc_svnMin, State.mbDone_svnMin]
theorem execScanMedia_svnMin (port : Nat) (ld : Nat) (dpa : Nat) (len : Nat) (noLog : Bool) (s : State) : ∃ u, execScanMedia port ld dpa len noLog s = .next u ∧ u.fw.svnMin = s.fw.svnMin := by
  unfold execScanMedia
  refine ⟨_, rfl, ?_⟩
  simp only [ite_mbEnd_svnMin, ite_self, State.mailbox_svnMin, State.mbRc_svnMin, State.background_svnMin, State.beginScrub_svnMin]
theorem execGetScanMediaResults_svnMin (port : Nat) (ld : Nat) (s : State) : ∃ u, execGetScanMediaResults port ld s = .next u ∧ u.fw.svnMin = s.fw.svnMin := by
  unfold execGetScanMediaResults
  refine ⟨_, rfl, ?_⟩
  simp only [ite_mbEnd_svnMin, ite_self, State.mailbox_svnMin, State.mbRc_svnMin, State.mbDone_svnMin]
theorem State.eraseCommand_svnMin (s : State) (p : Nat) (l : Nat) (op : Nat) (kind : Nat) : (State.eraseCommand s p l op kind).st.fw.svnMin = s.fw.svnMin := by
  unfold State.eraseCommand
  simp only [ite_mbEnd_svnMin, ite_self, State.mbRc_svnMin, State.logError_svnMin, State.mbError_svnMin, State.background_svnMin, State.startErase_svnMin]
theorem execSanitize_svnMin (port : Nat) (ld : Nat) (s : State) : ∃ u, execSanitize port ld s = .next u ∧ u.fw.svnMin = s.fw.svnMin := by
  unfold execSanitize
  refine ⟨_, rfl, ?_⟩
  simp only [State.mailbox_svnMin, State.eraseCommand_svnMin]
theorem execSecureErase_svnMin (port : Nat) (ld : Nat) (s : State) : ∃ u, execSecureErase port ld s = .next u ∧ u.fw.svnMin = s.fw.svnMin := by
  unfold execSecureErase
  refine ⟨_, rfl, ?_⟩
  simp only [State.mailbox_svnMin, State.eraseCommand_svnMin]
theorem State.raiseDc_svnMin (s : State) : (State.raiseDc s).fw.svnMin = s.fw.svnMin := by
  unfold State.raiseDc
  simp only [State.setCell_svnMin]
theorem State.releaseDc_svnMin (s : State) (p : Nat) (l : Nat) (gibs : List Nat) (forced : Bool) : (State.releaseDc s p l gibs forced).fw.svnMin = s.fw.svnMin := by
  unfold State.releaseDc
  simp only [State.modLd_svnMin, State.pev_svnMin, State.count_svnMin, State.raiseDc_svnMin]
theorem State.zeroLine_svnMin (s : State) (dpa : Nat) : (State.zeroLine s dpa).fw.svnMin = s.fw.svnMin := by
  unfold State.zeroLine
  (repeat' split) <;> simp only [ite_svnMin, ite_self, State.mailboxAccept_svnMin]
theorem State.zeroLines_svnMin (s : State) (dpa : Nat) (k : Nat) : (State.zeroLines s dpa k).fw.svnMin = s.fw.svnMin := by
  unfold State.zeroLines
  (try simp only [each_svnMin, foldl_svnMin, when_svnMin, ite_svnMin, ite_fst_svnMin, ite_result_svnMin, ite_mbEnd_svnMin, ite_self, State.zeroLine_svnMin]); (repeat' (first | with_reducible rfl | (simp only [State.zeroLine_svnMin]; done) | (apply each_svnMin; intro _ _)))
theorem State.zeroed_svnMin (s : State) (gib : Nat) : (State.zeroed s gib).fw.svnMin = s.fw.svnMin := by
  unfold State.zeroed
  simp only []
theorem execDcSanitizeDone_svnMin (gib : Nat) (s : State) : ∃ u, execDcSanitizeDone gib s = .next u ∧ u.fw.svnMin = s.fw.svnMin := by
  unfold execDcSanitizeDone
  refine ⟨_, rfl, ?_⟩
  simp only [ite_svnMin, ite_self, State.pev_svnMin, State.zeroed_svnMin, State.zeroLines_svnMin]
theorem execGetDynamicCapacityConfiguration_svnMin (port : Nat) (ld : Nat) (s : State) : ∃ u, execGetDynamicCapacityConfiguration port ld s = .next u ∧ u.fw.svnMin = s.fw.svnMin := by
  unfold execGetDynamicCapacityConfiguration
  refine ⟨_, rfl, ?_⟩
  simp only [State.mailbox_svnMin, State.mbDone_svnMin]
theorem execGetDynamicCapacityExtentList_svnMin (port : Nat) (ld : Nat) (s : State) : ∃ u, execGetDynamicCapacityExtentList port ld s = .next u ∧ u.fw.svnMin = s.fw.svnMin := by
  unfold execGetDynamicCapacityExtentList
  refine ⟨_, rfl, ?_⟩
  simp only [State.mailbox_svnMin, State.mbDone_svnMin]
theorem State.acceptDc_svnMin (s : State) (p : Nat) (l : Nat) (gibs : List Nat) : (State.acceptDc s p l gibs).fw.svnMin = s.fw.svnMin := by
  unfold State.acceptDc
  simp only [ite_svnMin, ite_self, State.modLd_svnMin, State.pev_svnMin, State.count_svnMin, State.raiseDc_svnMin]
theorem execAddDynamicCapacityResponse_svnMin (port : Nat) (ld : Nat) (extents : List (Nat × Nat)) (s : State) : ∃ u, execAddDynamicCapacityResponse port ld extents s = .next u ∧ u.fw.svnMin = s.fw.svnMin := by
  unfold execAddDynamicCapacityResponse
  refine ⟨_, rfl, ?_⟩
  simp only [ite_mbEnd_svnMin, ite_self, State.mailbox_svnMin, State.mbDone_svnMin, State.acceptDc_svnMin, State.mbRc_svnMin]
theorem execReleaseDynamicCapacity_svnMin (port : Nat) (ld : Nat) (extents : List (Nat × Nat)) (s : State) : ∃ u, execReleaseDynamicCapacity port ld extents s = .next u ∧ u.fw.svnMin = s.fw.svnMin := by
  unfold execReleaseDynamicCapacity
  refine ⟨_, rfl, ?_⟩
  simp only [ite_mbEnd_svnMin, ite_self, State.mailbox_svnMin, State.mbDone_svnMin, State.releaseDc_svnMin, State.mbRc_svnMin]
theorem State.fm_svnMin (s : State) (q : Requester) (p op : Nat) (n : Needs) (f : Requester → State → MbEnd) (h : ∀ q, (f q s).st.fw.svnMin = s.fw.svnMin) : (s.fm q p op n f).fw.svnMin = s.fw.svnMin := by
  unfold State.fm
  split
  · exact State.mailbox_svnMin _ _ _ _ _ _ (h _)
  · split
    · rfl
    · simp only []
      split
      · simp only [State.mbError_svnMin]
      · split
        · simp only [State.mbError_svnMin]
        · exact h q
theorem execGetLdInfo_svnMin (q : Requester) (port : Nat) (s : State) : ∃ u, execGetLdInfo q port s = .next u ∧ u.fw.svnMin = s.fw.svnMin := by
  unfold execGetLdInfo
  refine ⟨_, rfl, ?_⟩
  try simp only []
  (repeat' (first | with_reducible rfl | (simp only [State.mbDone_svnMin]; done) | (apply each_svnMin; intro _ _) | (rw [each_svnMin] <;> (try intro _ _)) | split | (refine State.fm_svnMin _ _ _ _ _ _ (fun _ => ?_))))
theorem execGetLdAllocations_svnMin (q : Requester) (port : Nat) (s : State) : ∃ u, execGetLdAllocations q port s = .next u ∧ u.fw.svnMin = s.fw.svnMin := by
  unfold execGetLdAllocations
  refine ⟨_, rfl, ?_⟩
  try simp only []
  (repeat' (first | with_reducible rfl | (simp only [State.mbDone_svnMin]; done) | (apply each_svnMin; intro _ _) | (rw [each_svnMin] <;> (try intro _ _)) | split | (refine State.fm_svnMin _ _ _ _ _ _ (fun _ => ?_))))
theorem execSetLdAllocations_svnMin (q : Requester) (port : Nat) (first : Nat) (allocs : List (Nat × Nat)) (s : State) : ∃ u, execSetLdAllocations q port first allocs s = .next u ∧ u.fw.svnMin = s.fw.svnMin := by
  unfold execSetLdAllocations
  refine ⟨_, rfl, ?_⟩
  try simp only []
  (repeat' (first | with_reducible rfl | (simp only [State.mbError_svnMin, State.mbCommit_svnMin]; done) | (apply each_svnMin; intro _ _) | (rw [each_svnMin] <;> (try intro _ _)) | split | (refine State.fm_svnMin _ _ _ _ _ _ (fun _ => ?_))))
theorem execGetDcdInfo_svnMin (q : Requester) (port : Nat) (s : State) : ∃ u, execGetDcdInfo q port s = .next u ∧ u.fw.svnMin = s.fw.svnMin := by
  unfold execGetDcdInfo
  refine ⟨_, rfl, ?_⟩
  try simp only []
  (repeat' (first | with_reducible rfl | (simp only [State.mbDone_svnMin]; done) | (apply each_svnMin; intro _ _) | (rw [each_svnMin] <;> (try intro _ _)) | split | (refine State.fm_svnMin _ _ _ _ _ _ (fun _ => ?_))))
theorem execGetHostDcRegionConfiguration_svnMin (q : Requester) (port : Nat) (ld : Nat) (s : State) : ∃ u, execGetHostDcRegionConfiguration q port ld s = .next u ∧ u.fw.svnMin = s.fw.svnMin := by
  unfold execGetHostDcRegionConfiguration
  refine ⟨_, rfl, ?_⟩
  try simp only []
  (repeat' (first | with_reducible rfl | (simp only [ite_mbEnd_svnMin, ite_self, State.mbDone_svnMin, State.mbRc_svnMin]; done) | (apply each_svnMin; intro _ _) | (rw [each_svnMin] <;> (try intro _ _)) | split | (refine State.fm_svnMin _ _ _ _ _ _ (fun _ => ?_))))
theorem execSetDcRegionConfiguration_svnMin (q : Requester) (port : Nat) (ld : Nat) (region : Nat) (cfg : Region) (s : State) : ∃ u, execSetDcRegionConfiguration q port ld region cfg s = .next u ∧ u.fw.svnMin = s.fw.svnMin := by
  unfold execSetDcRegionConfiguration
  refine ⟨_, rfl, ?_⟩
  try simp only []
  (repeat' (first | with_reducible rfl | (simp only [State.mbError_svnMin, State.mbCommit_svnMin]; done) | (apply each_svnMin; intro _ _) | (rw [each_svnMin] <;> (try intro _ _)) | split | (refine State.fm_svnMin _ _ _ _ _ _ (fun _ => ?_))))
theorem execGetDcRegionExtentLists_svnMin (q : Requester) (port : Nat) (ld : Nat) (s : State) : ∃ u, execGetDcRegionExtentLists q port ld s = .next u ∧ u.fw.svnMin = s.fw.svnMin := by
  unfold execGetDcRegionExtentLists
  refine ⟨_, rfl, ?_⟩
  try simp only []
  (repeat' (first | with_reducible rfl | (simp only [ite_mbEnd_svnMin, ite_self, State.mbDone_svnMin, State.mbRc_svnMin]; done) | (apply each_svnMin; intro _ _) | (rw [each_svnMin] <;> (try intro _ _)) | split | (refine State.fm_svnMin _ _ _ _ _ _ (fun _ => ?_))))
theorem State.postDc_svnMin (s : State) (p : Nat) (l : Nat) (kind : Nat) (tag : Nat) (x : Extents) : (State.postDc s p l kind tag x).fw.svnMin = s.fw.svnMin := by
  unfold State.postDc
  simp only [State.postLog_svnMin]
theorem execInitiateDynamicCapacityAdd_svnMin (q : Requester) (port : Nat) (ld : Nat) (tag : Nat) (extents : List (Nat × Nat)) (s : State) : ∃ u, execInitiateDynamicCapacityAdd q port ld tag extents s = .next u ∧ u.fw.svnMin = s.fw.svnMin := by
  unfold execInitiateDynamicCapacityAdd
  refine ⟨_, rfl, ?_⟩
  try simp only []
  (repeat' (first | with_reducible rfl | (simp only [ite_mbEnd_svnMin, ite_self, State.mbRc_svnMin, State.modLd_svnMin, State.mbDone_svnMin, State.postDc_svnMin]; done) | (apply each_svnMin; intro _ _) | (rw [each_svnMin] <;> (try intro _ _)) | split | (refine State.fm_svnMin _ _ _ _ _ _ (fun _ => ?_))))
theorem execInitiateDynamicCapacityRelease_svnMin (q : Requester) (port : Nat) (ld : Nat) (extents : List (Nat × Nat)) (forced : Bool) (s : State) : ∃ u, execInitiateDynamicCapacityRelease q port ld extents forced s = .next u ∧ u.fw.svnMin = s.fw.svnMin := by
  unfold execInitiateDynamicCapacityRelease
  refine ⟨_, rfl, ?_⟩
  try simp only []
  (repeat' (first | with_reducible rfl | (simp only [ite_mbEnd_svnMin, ite_self, State.mbRc_svnMin, State.mbDone_svnMin, State.releaseDc_svnMin, State.modLd_svnMin, State.postDc_svnMin]; done) | (apply each_svnMin; intro _ _) | (rw [each_svnMin] <;> (try intro _ _)) | split | (refine State.fm_svnMin _ _ _ _ _ _ (fun _ => ?_))))
theorem execMailboxUnsupported_svnMin (fm : Bool) (q : Requester) (port : Nat) (ld : Nat) (op : Nat) (s : State) : ∃ u, execMailboxUnsupported fm q port ld op s = .next u ∧ u.fw.svnMin = s.fw.svnMin := by
  unfold execMailboxUnsupported
  refine ⟨_, rfl, ?_⟩
  try simp only []
  (repeat' (first | with_reducible rfl | (simp only [ite_svnMin, ite_self, State.mbRc_svnMin, State.mailbox_svnMin]; done) | (apply each_svnMin; intro _ _) | (rw [each_svnMin] <;> (try intro _ _)) | split | (refine State.mailbox_svnMin _ _ _ _ _ _ ?_) | (refine State.fm_svnMin _ _ _ _ _ _ (fun _ => ?_))))
theorem State.withFetchWord_svnMin (s : State) (nbits : Nat) (w : Nat) : (State.withFetchWord s nbits w).fw.svnMin = s.fw.svnMin := by
  unfold State.withFetchWord
  (repeat' split) <;> simp only []
end Sys2Proof.Machine
end

