-- ==== Sys2Proof/Tests/Slice0.lean ====
section
/-! SUPPORT. Tests: small states that meet the hypotheses of every statement together, the manual's worked examples, commands that the
well-formedness checks refuse. -/
set_option Elab.async false
open Sys2Proof Sys2Proof.Machine
namespace Sys2Proof.Tests
/-- Partition 0: tile 0 alone, 16 GiB at DPA 0, plain. -/
def part0 : PartInfo :=
  { PartInfo.free with st := 1, size := 2 ^ 34, tileSet := 1, data := 16384, meta_ := 16384, total := 16384, segBase := List.replicate 8 0 }
/-- Port 0's LD 0 with one decoder of 256 MiB at HPA 0. -/
def ld0 : LD := { LD.reset with decoders := { Decoder.reset with committed := true, size := 2 ^ 28 } :: List.replicate 3 Decoder.reset }
/-- An RMN-A2 in READY: links up at port 0, partition 0 enabled, key slot 0 loaded, class 0 with every right under key index 0. -/
def ready : State :=
  { State.reset with
    part := .a2
    tiles := (List.range 2).map (fun t => { Tile.reset 2 t with
      sup := { TileSup.reset with railsUp := true }
      res := { TileRes.reset with limit := 1000 }
      rd := { TileRead.reset with rdAllot := List.replicate 16 64, wrAllot := List.replicate 16 64, nibAllot := List.replicate 256 64 } })
    ports := { Port.reset with up := true, cxlMem := true, rate := 5, width := 8, flit := 2 } :: List.replicate 7 Port.reset
    dev := { State.reset.dev with st := .ready, mainUp := true, memActive := true, bringup := 8 }
    sup := { State.reset.sup with cap := 15 * 10 ^ 10, measured := true, charged := true, seqIn := true }
    mgmt := { State.reset.mgmt with booted := true, standbySync := true }
    parts := [(0, part0)]
    lds := [(0, ld0)]
    keys := { slots := [(0, { st := .loaded, k1 := 1, k2 := 2 })], change := none }
    obj := [(Ob.inst Ob.PART_ENABLE 0, 1), (Ob.inst Ob.PART_SIZE 0, 2 ^ 34), (Ob.inst Ob.PART_TILE_SET 0, 1), (Ob.inst Ob.RIGHTS_MAP 0, 3)]
    feed := { State.reset.feed with left := List.replicate 8 100000, grant := List.replicate 8 100000 } }

/-- A state is of the right size when three comparisons hold. -/
theorem sized {s : State} (h : (decide (s.n ≤ s.tiles.length) && decide (s.n ≤ s.ports.length) && decide (s.recs.length = 9)) = true) :
    s.Sized := by
  simp only [Bool.and_eq_true, decide_eq_true_eq] at h
  exact ⟨h.1.1, h.1.2, h.2⟩
/-- `ready` with logical segment 0 of tile 0 bound to physical segment 0. -/
def bound : State :=
  ready.modTile 0 (fun x => { x with map := { x.map with
    map := [(0, { MapEntry.fresh with st := .bound })], segs := [(0, { Seg.shipped with cond := .bound, lseg := 0 })] } })
/-- A host read of line 64 of tile 0 with its slot sensed. -/
def hreq : Req := { Req.none with iface := .cxl, tag := 9, dpa := 0x1000, lla := 64, mask := fullMask }

/-! ### The statements' hypotheses can be met together -/

theorem witness_StepRunsFront : ({ ready with pending := [.gpfPhase2] } : State).pending = .gpfPhase2 :: [] ∧ ready.pending = [] := ⟨rfl, rfl⟩
theorem witness_RollbackFloorNeverFalls :
    ({ ready with pending := [.memSpecRd 0 0 1 0] } : State).KeepsFloor 0 ∧ step { ready with pending := [.memSpecRd 0 0 1 0] } = .next ready :=
  ⟨Nat.le_refl 0, rfl⟩

/-- Tile 1's timebase at `n`, in holdover or not. -/
def late (n : Nat) (h : Bool) : State := ready.modTime 1 (fun x => { x with tb := n, holdover := h })
/-- An RMN-A8 right after reset with both references present. -/
def twoRefs : State := { State.reset with refK0 := true, refK1 := true }

theorem witness_RingLinks : 0 < ready.n ∧ ready.Sized ∧ ready.dev.st = .ready ∧ ready.tileActive 0 = true :=
  ⟨by decide +kernel, sized (by decide), by decide +kernel, by decide +kernel⟩
theorem witness_PortNumbers : ∀ s ∈ [({ State.reset with dev := { State.reset.dev with portsMode := 0b1101 } } : State)],
    0 < s.n ∧ s.pairX8 (0 / 2) = true ∧ 2 * 1 + 1 < s.n ∧ s.pairX8 1 = false ∧ s.portUsed 2 = true ∧ s.portUsed 3 = false := by decide +kernel
theorem witness_Timebases :
    (ready.master = some 0 ∧ ready.Sized) ∧
    ((late 64000 false).Sized ∧ ((late 64000 false).tile 1).time.lastSync + 64000 ≤ (late 64000 false).now 1 ∧
      (1 < 2 → (late 64000 false).refOf 1 = false) ∧ ((late 64000 false).tile 1).time.holdover = false) ∧
    ((late 0 true).Sized ∧ (late 0 true).master = some 0 ∧ ((late 0 true).tile 1).time.holdover = true ∧
      (late 0 true).now 1 < ((late 0 true).tile 1).time.lastSync + 64000 ∧ (late 0 true).now 1 ≤ (late 0 true).now 0 ∧
      (late 0 true).now 0 ≤ (late 0 true).now 1 + 4) ∧
    (twoRefs.part ≠ .a2 ∧ twoRefs.master = some 0 ∧ twoRefs.Sized) ∧ (ready.part = .a2 ∧ ready.master = some 0) ∧
    (({ ready with master := none } : State).Sized ∧ ({ ready with master := none } : State).tileActive 1 = true) :=
  ⟨⟨by decide +kernel, sized (by decide)⟩, ⟨sized (by decide), by decide +kernel⟩, ⟨sized (by decide), by decide +kernel⟩,
    ⟨by decide +kernel, by decide +kernel, sized (by decide)⟩, by decide +kernel, sized (by decide), by decide +kernel⟩
theorem witness_CoreRoles :
    (ready.mgmt.active = some 0 ∧ ready.Sized ∧ ready.mgmt.standbySync = true) ∧ ready.tileActive (1 - 0) = true :=
  ⟨⟨rfl, sized (by decide), rfl⟩, by decide +kernel⟩

/-- A read flit for line 64 of tile 0. -/
def readFlit : Flit := { port := 0, id := 0, tag := 9, hpa := 0x1000, write := false, mask := fullMask, data := 0, poison := false }
/-- The request that a flit for line 64 of tile 0 becomes in `s`. -/
def reqIn (s : State) (f : Flit) : Req := s.reqOf f 0 0x1000 0 0 64
/-- A DIRTY entry of line 64. -/
def dirty64 : Entry :=
  { id := 0, kind := .data, addr := 64, part := 0, dpa := 0x1000, kx := 0, st := .dirty, mask := fullMask, redirty := false, data := 0x1234,
    storedOnly := none, poisoned := false, blank := false, overflow := false, owner := 0, stamp := 0, used := 0 }
/-- `ready` with an entry in the reservoir of tile 0. -/
def holding (e : Entry) : State := ready.modRes 0 (fun x => { x with entries := [e] })

/-- What `Admits` asks of a flit for line 64. -/
theorem admits {s : State} {f : Flit} (h : (s.memPort f.port && s.dev.memActive &&
    decide (s.routeHpa f.port f.id f.hpa = .line 0 0x1000 0 0 64) && decide ((s.decoded f.port).rightsCause (reqIn s f) = none) &&
    decide ((s.decoded f.port).serverOf (reqIn s f) = some 0) && (s.decoded f.port).admissible 0 (reqIn s f) &&
    !((s.decoded f.port).waitingWith (reqIn s f)).any (fun h => h.sameLine (reqIn s f))) = true) : s.Admits f (reqIn s f) 0 := by
  simp only [Bool.and_eq_true, decide_eq_true_eq, Bool.not_eq_true'] at h
  obtain ⟨⟨⟨⟨⟨⟨a, b⟩, c⟩, d⟩, e⟩, g⟩, k⟩ := h
  exact ⟨a, b, ⟨_, _, _, _, _, c, rfl⟩, d, e, g, k⟩

/-- The next state of an outcome, `s` when it has none. -/
def after (s : State) : Host.Outcome State Fault Refusal → State
  | .next u => u
  | _ => s
/-- Whether an outcome has a next state. -/
def goesOn : Host.Outcome State Fault Refusal → Bool
  | .next _ => true
  | _ => false
theorem eq_after {s : State} {o : Host.Outcome State Fault Refusal} (h : goesOn o = true) : o = .next (after s o) := by
  cases o <;> first | rfl | cases h
/-- `ready` after a completed full-line write of line 64. -/
def wrote : State := after ready (exec (.memWr 0 0 5 0x1000 0x1234 false) ready)

theorem witness_HostReadsAnswer :
    (ready.Sized ∧ ready.Admits readFlit (reqIn ready readFlit) 0 ∧ (ready.tile 0).res.find 64 0 = none ∧ ready.rootLost 0 0 = false ∧
      ((ready.tile 0).map.entry (lsegOf 64)).st = .fresh) ∧
    ((holding dirty64).Sized ∧ (holding dirty64).Admits readFlit (reqIn (holding dirty64) readFlit) 0 ∧
      ((holding dirty64).tile 0).res.find 64 0 = some dirty64 ∧ dirty64.st ≠ .incomplete) :=
  ⟨⟨sized (by decide), admits (by decide +kernel), by decide +kernel⟩, sized (by decide), admits (by decide +kernel), by decide +kernel⟩
theorem witness_HostWritesMerge :
    let f : Flit := { readFlit with write := true, data := 0x1234 }
    let g : Flit := { readFlit with write := true, data := 0xFF, mask := 1 }
    (ready.Sized ∧ ready.Admits f (reqIn ready f) 0 ∧ (ready.tile 0).res.find 64 0 = none ∧ (ready.tile 0).isLost 64 = false ∧
      ready.rootLost 0 0 = false ∧ (ready.partn 0).spanned = false ∧ (ready.tile (ready.mirrorOf 0)).fence.st ≠ .fencing) ∧
    ((holding dirty64).Sized ∧ (holding dirty64).Admits g (reqIn (holding dirty64) g) 0 ∧
      ((holding dirty64).tile 0).res.find 64 0 = some dirty64 ∧ dirty64.st = .dirty ∧ dirty64.kx = (reqIn (holding dirty64) g).kx ∧
      ((holding dirty64).tile 0).isLost 64 = false ∧ (holding dirty64).rootLost 0 0 = false ∧ ((holding dirty64).partn 0).spanned = false) :=
  ⟨⟨sized (by decide), admits (by decide +kernel), by decide +kernel⟩, sized (by decide), admits (by decide +kernel), by decide +kernel⟩
theorem witness_ReadReturnsTheWrite :
    let f : Flit := { readFlit with tag := 5, write := true, data := 0x1234 }
    ready.Sized ∧ ready.Admits f (reqIn ready f) 0 ∧ (ready.tile 0).res.find 64 0 = none ∧ (ready.tile 0).isLost 64 = false ∧
      ready.rootLost 0 0 = false ∧ (ready.partn 0).spanned = false ∧ (ready.tile (ready.mirrorOf 0)).fence.st ≠ .fencing ∧
      exec (.memWr 0 0 5 0x1000 0x1234 false) ready = .next wrote ∧ wrote.Admits readFlit (reqIn wrote readFlit) 0 :=
  ⟨sized (by decide), admits (by decide +kernel), by decide +kernel, by decide +kernel, by decide +kernel, by decide +kernel, by decide +kernel, eq_after (by decide +kernel),
    admits (by decide +kernel)⟩
theorem witness_RefusedRequests : ready.memPort 0 = true ∧ ready.routeHpa 0 0 0x20000000 = .violation 2 noDpa 0x20000000 := by decide +kernel

/-- `bound` with one read under way in tile 0, and its senses. -/
def readOf (r : Rd) (senses : List Sense) : State := bound.modRd 0 (fun x => { x with rds := [r], senses := senses })
/-- The slot of line 64 when logical segment 0 stands in physical segment 0. -/
def slot64 : Nat := 17515413504
/-- The host read of line 64. -/
def read64 : Rd := Rd.make .host hreq .data 0 64 8 0 slot64 0 0
/-- The sense of line 64 at the bank. -/
def sense64 (p : SensePos) : Sense := { rd := 0, pos := 0, slot := slot64, at_ := p, asMember := p == .member, order := 0 }
theorem hostRead {s : State} {r : Rd} (h : (decide ((s.tile 0).rd.byId 0 = some r) && decide (0 < s.n) && decide (s.n ≤ s.tiles.length) &&
    decide (s.n ≤ s.ports.length) && decide (s.recs.length = 9) && decide (r.why = .host) && decide (r.answered = false) &&
    decide (r.req.iface = .cxl) && decide (r.req.atom = 0) && decide ((s.partn r.part).isSealed = false) && decide (r.req.tile = 0) &&
    decide ((s.tile 0).isLost r.req.lla = false) && (s.port r.req.port).up) = true) : s.HostRead 0 0 r := by
  simp only [Bool.and_eq_true, decide_eq_true_eq] at h
  obtain ⟨⟨⟨⟨⟨⟨⟨⟨⟨⟨⟨⟨a, b⟩, c⟩, d⟩, e⟩, f⟩, g⟩, i⟩, j⟩, k⟩, l⟩, m⟩, n⟩ := h
  exact ⟨a, b, ⟨c, d, e⟩, f, g, i, j, k, l, m, n⟩

/-- A slot that no stroke has written, that is no spare line and does not lie in a gap. -/
def blankAt (x : Tile) (a : Nat) : Bool :=
  (x.med.slots.find a).isNone && decide (¬ 54251936 ≤ slotLine a) &&
    !isGapSlot (x.map.seg (segOfIndex (slotDie a) (indexOfSlot a))).blankMoves a
theorem codeword_blank {x : Tile} {a : Nat} (h : blankAt x a = true) (key : BitVec 48) : x.codeword a key = blankWord key := by
  simp only [blankAt, Bool.and_eq_true, decide_eq_true_eq, Bool.not_eq_true', Option.isNone_iff_eq_none] at h
  obtain ⟨⟨h1, h2⟩, h3⟩ := h
  simp only [Tile.codeword, h1, h2, h3, if_false, Bool.false_and, Bool.false_eq_true]
theorem decode_blank {x : Tile} {a : Nat} (h : blankAt x a = true) (key : BitVec 48) :
    decodeLine key (x.codeword a key ^^^ 0) = .clean 0#512 := by
  rw [codeword_blank h, show (blankWord key ^^^ 0 : Codeword) = blankWord key from BitVec.xor_zero, decodeLine_blankWord]
theorem decodeMember_blank {x : Tile} {lseg st pos : Nat} {c : Copy} (h : blankAt x (x.finalSlot (c.slot st pos)) = true) :
    x.decodeMember lseg st pos c 0 = .clean 0#512 := decode_blank h _
/-- A member whose codeword is blank decodes to zeros. -/
theorem decodeMembers_blank {s : State} {r : Rd} {c : Copy} (ps : List Nat) (h : ps.all (fun j =>
    ((s.tile 0).memberImage (lsegOf r.lla) (stripeOfLine (lineIndexOf r.lla)) (c.stripe (stripeOfLine (lineIndexOf r.lla))) j).isNone &&
    !(s.tile 0).slotFailed ((s.tile 0).finalSlot (c.slot (stripeOfLine (lineIndexOf r.lla)) j)) &&
    blankAt (s.tile 0) ((s.tile 0).finalSlot (c.slot (stripeOfLine (lineIndexOf r.lla)) j))) = true) :
    s.decodeMembers 0 r c (ps.map (fun j => (j, 0))) = ps.map (fun j => (j, some 0#512)) := by
  simp only [List.all_eq_true, Bool.and_eq_true, Bool.not_eq_true', Option.isNone_iff_eq_none] at h
  simp only [State.decodeMembers, List.map_map]
  apply List.map_congr_left
  intro j hj
  obtain ⟨⟨h1, h2⟩, h3⟩ := h j hj
  simp only [Function.comp, h1, h2, decodeMember_blank h3, Decoded.member, Bool.false_eq_true, if_false]

theorem witness_HostReadDelivery :
    let c : Copy := { pseg := 0, omega := 0, moves := 0 }
    let s1 := readOf read64 [sense64 .service]
    let r2 : Rd := { read64 with around := true, phase := .gathered, acc := 5 }
    let r3 : Rd := { read64 with phase := .erased, erased := [0] }
    let r4 : Rd := { read64 with phase := .retry, erased := [0] }
    let key := memberKey (lsegOf 64) (stripeOfLine (lineIndexOf 64)) 8 0
    (s1.HostRead 0 0 read64 ∧ (s1.tile 0).rd.senses.find? (fun z => decide (z.rd = 0 ∧ z.pos = read64.pos ∧ z.at_ = .service)) =
        some (sense64 .service) ∧ decodeLine key ((s1.tile 0).codeword slot64 key ^^^ 0) = .clean 0#512) ∧
    ((readOf r2 []).HostRead 0 0 r2 ∧ r2.phase = .gathered) ∧
    ((readOf r3 []).HostRead 0 0 r3 ∧ (readOf r3 []).copyOfRd 0 r3 = some c ∧
      (readOf r3 []).decodeMembers 0 r3 c ((([1, 2, 3, 4, 5, 6, 7, 8] : List Nat)).map (fun j => (j, 0))) =
        [1, 2, 3, 4, 5, 6, 7, 8].map (fun j => (j, some 0#512))) ∧
    ((readOf r4 []).HostRead 0 0 r4 ∧ r4.kept.find? (fun k => decide (k.1 = r4.pos)) = none ∧ (readOf r4 []).copyOfRd 0 r4 = some c ∧
      (readOf r4 []).decodeMembers 0 r4 c ([0].map (fun j => (j, 0))) = [0].map (fun j => (j, some 0#512))) :=
  ⟨⟨hostRead (by decide +kernel), by decide +kernel, decode_blank (by decide +kernel) _⟩, ⟨hostRead (by decide +kernel), by decide +kernel⟩,
    ⟨hostRead (by decide +kernel), by decide +kernel, decodeMembers_blank _ (by decide +kernel)⟩,
    hostRead (by decide +kernel), by decide +kernel, by decide +kernel, decodeMembers_blank _ (by decide +kernel)⟩

/-- A stroke of line 64 that runs. -/
def stroke64 : Stroke :=
  { id := 3, kind := .evictData, parity := false, addr := 64, slot := slot64, word := 0x77, ver := 0, evict := 0, target := false, flush := false,
    priority := 3, running := true, lifted := false, held := false, masked := false, startedAt := 0, remap := none }
/-- A read whose member sense waits behind the running stroke of its bank. -/
def lifting : State := (readOf read64 [sense64 .member]).modRes 0 (fun x => { x with strokes := [stroke64] })

theorem witness_BankPositions :
    ((lifting.tile 0).res.strokes.find? (fun k => k.running && decide (k.id = 3)) = some stroke64 ∧
      (lifting.tile 0).reading (bankOf slot64) = false ∧ (lifting.tile 0).sensesAt (bankOf slot64) .member ≠ []) ∧
    (((readOf read64 [sense64 .entry]).tile 0).waitingReads = [sense64 .entry] ∧
      ((readOf read64 [sense64 .entry]).tile 0).rd.byId 0 = some read64 ∧ (readOf read64 [sense64 .entry]).chooseRow 0 slot64 0
        ((readOf read64 [sense64 .entry]).membersOf 0 read64) false = 1) ∧
    (let s := readOf read64 [sense64 .member, sense64 .direct]
     s.Sized ∧ bankOf slot64 / 32 < 16 ∧ (s.tile 0).memberFree (bankOf slot64 / 32 * 32 + bankOf slot64 % 32) = false ∧
      (s.tile 0).directFree (bankOf slot64 / 32 * 32 + bankOf slot64 % 32) = false) :=
  ⟨by decide +kernel, by decide +kernel, sized (by decide +kernel), by decide +kernel⟩

/-- A PARTIAL entry of line 64 with its low byte written. -/
def partial64 : Entry := { dirty64 with st := .incomplete, mask := 1, data := 0xFF }
/-- The fetch of line 64, decoded. -/
def fetch64 : Rd := { read64 with why := .fetch, phase := .decoded, acc := 0x1200 }
/-- The fetch with its PARTIAL line. -/
def fetching : State := (readOf fetch64 []).modRes 0 (fun x => { x with entries := [partial64] })
theorem witness_FetchFillsPartial : (fetching.tile 0).rd.byId 0 = some fetch64 ∧ fetch64.lost = false ∧
    (fetching.tile 0).res.byId fetch64.link = some partial64 ∧
    (fetching.tile 0).res.pwaits.all (fun w => decide (w.entry ≠ fetch64.link)) = true := by decide +kernel

/-- A write of line 64 that its mirror message carries. -/
def mwrite : Req := { hreq with write := true, data := 0x99, tag := 4 }
/-- `ready` with a write on its way to the mirror tile. -/
def mirroring : State := ready.modRes 0 (fun x => { x with entries := [dirty64], mirrorOut := [mwrite], cmpWait := [mwrite] })
/-- The state after its mirror message. -/
def mirrored : State := after mirroring (exec (.mirrorMessage 0) mirroring)
/-- `ready` with a release message on its way. -/
def releasing : State := ready.modRes 0 (fun x => { x with mirrorOut := [{ mwrite with write := false }] })
theorem witness_MirrorMessages :
    (mirroring.Sized ∧ (mirroring.tile 0).res.mirrorOut = [mwrite] ∧ mwrite.write = true ∧ mirroring.mirrorOf 0 = 1 ∧
      (mirroring.tile 1).fence.st ≠ .fencing ∧ (mirroring.tile 0).fence.remirror = false) ∧
    (mirrored.Sized ∧ (mirrored.tile 0).res.cmpWait = [mwrite] ∧ mwrite.iface = .cxl ∧ (mirrored.port mwrite.port).up = true ∧
      (mirrored.tile 0).res.unmirrored < (mirrored.tile 0).res.cmpWait.length) ∧
    (releasing.Sized ∧ (releasing.tile 0).res.mirrorOut = [{ mwrite with write := false }]) :=
  ⟨⟨sized (by decide +kernel), by decide +kernel⟩, ⟨sized (by decide +kernel), by decide +kernel⟩, sized (by decide +kernel), by decide +kernel⟩

/-- `bound` with line 64 DIRTY and every DIRTY line to be written back. -/
def backing : State := bound.modRes 0 (fun x => { x with entries := [dirty64], limit := 1 })
/-- Its eviction, with the old images of its data and parity slots known. -/
def evict64 : Evict :=
  { id := 2, addr := 64, kind := .data, part := 0, stripe := 8, dslot := slot64, pslot := 0, oldD := some 0, oldP := some 0, fromMembers := false,
    formed := false, lost := false, deltaWait := false, delta := 0, owner := 0, masked := false, ver := 0, dataDone := false,
    parityDone := false, copyData := false, copyParity := false, flush := false }
/-- `backing` with that eviction at its point. -/
def atPoint : State := backing.modRes 0 (fun x => { x with evicts := [evict64] })
theorem evictChoice_backing : backing.evictChoice 0 ((backing.tile 0).res.sliceOf .data 64) = some dirty64 := by
  have h : (backing.tile 0).res.entries = [dirty64] := rfl
  have m : backing.mayEvict 0 dirty64 = true := by decide +kernel
  have l : decide (backing.cell Ob.WB_LOW 50 * (backing.tile 0).res.limit < 100 * (backing.tile 0).res.dirty) = true := by decide +kernel
  have b : decide ((backing.tile 0).res.bankCap < 2 * backing.lineCharges 0 dirty64) = true := by decide +kernel
  have f : [dirty64].filter (fun e => decide ((backing.tile 0).res.sliceOf e.kind e.addr = (backing.tile 0).res.sliceOf .data 64) && backing.mayEvict 0 e)
      = [dirty64] := by
    rw [List.filter_cons_of_pos (by rw [m, Bool.and_true]; exact decide_eq_true rfl), List.filter_nil]
  simp only [State.evictChoice, h, f, l, List.filter_cons, List.filter_nil, b, show dirty64.overflow = false from rfl, if_true, Bool.false_eq_true, if_false]
  rfl

theorem witness_EvictionOfALine :
    (backing.Sized ∧ backing.evictChoice 0 ((backing.tile 0).res.sliceOf .data 64) = some dirty64 ∧ dirty64.owner = 0 ∧ dirty64.kind = .data ∧
      (backing.tile 0).map.copyFor (lsegOf 64) (stripeOfLine (lineIndexOf 64)) = some { pseg := 0, omega := 0, moves := 0 }) ∧
    (atPoint.Sized ∧ atPoint.NoneDone 0 ∧ (atPoint.tile 0).res.evicts.find? (fun e => decide (e.id = 2) && !e.formed) = some evict64 ∧
      (atPoint.tile 0).res.entries.find? (fun e => decide (e.addr = evict64.addr ∧ e.owner = 0 ∧ e.st = .dirty)) = some dirty64 ∧
      atPoint.oldsReady 0 evict64 = true ∧ (atPoint.tile 0).res.inflightIn ((atPoint.tile 0).res.sliceOf .data evict64.addr) ≤ 254 ∧
      dirty64.poisoned = false ∧ (atPoint.partn dirty64.part).isSealed = false ∧
      (atPoint.tile 0).map.copyFor (lsegOf 64) (stripeOfLine (lineIndexOf 64)) = some { pseg := 0, omega := 0, moves := 0 } ∧
      (atPoint.tile 0).med.failedDies = [] ∧ (atPoint.tile 0).med.failedBanks = []) :=
  ⟨⟨sized (by decide +kernel), evictChoice_backing, by decide +kernel⟩, sized (by decide +kernel), by unfold State.NoneDone; decide +kernel, by decide +kernel⟩

/-- `ready` with a stroke in tile 0. -/
def stroking (k : Stroke) : State := ready.modRes 0 (fun x => { x with strokes := [k] })
theorem witness_Strokes :
    (let k : Stroke := { stroke64 with running := false }
     (stroking k).Sized ∧ ((stroking k).tile 0).res.strokes.find? (fun k => decide (k.id = 3)) = some k ∧ (stroking k).canStart 0 k = true ∧
      ((stroking k).tile 0).res.strokes.all (fun q => decide (k.priority ≤ q.priority) || !(stroking k).canStart 0 q) = true) ∧
    ((stroking stroke64).Sized ∧ ((stroking stroke64).tile 0).res.strokes.find? (fun k => decide (k.id = 3) && k.running) = some stroke64 ∧
      stroke64.masked = false ∧ isSpare stroke64.slot = false ∧ ((stroking stroke64).tile 0).slotFailed stroke64.slot = false ∧
      (((stroking stroke64).tile 0).med.failHist.getD (bankOf stroke64.slot) []).length < 7 ∧
      ((stroking stroke64).tile 0).med.freeSpare (slotDie slot64) (slotBank slot64) = some 0 ∧
      ((stroking stroke64).tile 0).med.freeRemap (slotDie slot64) = some (32 * slotDie slot64)) :=
  ⟨⟨sized (by decide +kernel), by decide +kernel⟩, sized (by decide +kernel), by decide +kernel⟩

/-- `ready` with line 64 DIRTY, its segment FRESH. -/
theorem witness_BindingTakesAFreeSegment : (holding dirty64).Sized ∧ (((holding dirty64).tile 0).map.entry 0).st = .fresh ∧
    ((holding dirty64).tile 0).res.entries.any (fun e => decide (e.owner = 0 ∧ e.st = .dirty ∧ lsegOf e.addr = 0)) = true ∧
    (holding dirty64).partOfSeg 0 0 = some 0 ∧ ((holding dirty64).tile 0).map.pickFree true = some 0 :=
  ⟨sized (by decide +kernel), by decide +kernel⟩
theorem witness_ReservoirUpkeep :
    ready.inService = true ∧ (holding { dirty64 with st := .clean }).Sized ∧
      ((holding { dirty64 with st := .clean }).tile 0).res.byId 0 = some { dirty64 with st := .clean } ∧ (holding dirty64).Sized ∧
      (holding dirty64).mirrorOf 0 < (holding dirty64).n ∧ (holding dirty64).tileActive 0 = true ∧
      (holding dirty64).tileActive ((holding dirty64).mirrorOf 0) = true ∧ ((holding dirty64).tile 0).fence.remirror = false :=
  ⟨by decide, sized (by decide +kernel), by decide +kernel, sized (by decide +kernel), by decide +kernel⟩

/-- `bound` with its segment map changed in tile 0. -/
def mapped (f : TileMap → TileMap) : State := bound.modMap 0 f
/-- A move of logical segment 0 is due. -/
def moving : State := mapped (fun m => { m with movesDue := [0] })
theorem witness_RotationMoveFillsTheGap :
    let c : Copy := { pseg := 0, omega := 0, moves := 0 }
    let v := moveSpec 0
    let st := stripeOfRank 0 (144 * ((v.ring + 8 - 0) % 8) + 143) v.die
    let dest := (moving.tile 0).finalSlot (slotOfIndex v.die (ringSlotIndex 0 v.die (145 * v.ring + v.dest)))
    moving.Sized ∧ moving.dev.st ≠ .drain ∧ 0 ∈ (moving.tile 0).map.movesDue ∧ ((moving.tile 0).map.entry 0) = { MapEntry.fresh with st := .bound } ∧
      ((moving.tile 0).map.seg 0).moves = 0 ∧ indexAtPos (ringMoves 0 (ringNumber v.ring v.die)) v.source = some 143 ∧
      (List.range 9).find? (fun j => decide (dieOfPos (c.stripe st) j = v.die)) = some 2 ∧
      (moving.tile 0).memberImage 0 st (c.stripe st) 2 = none ∧ c.stripe st ∉ (moving.tile 0).res.opens ∧
      (∀ q ∈ (moving.tile 0).res.evicts, q.formed = false) ∧ (moving.tile 0).slotFailed dest = false :=
  ⟨sized (by decide +kernel), by decide +kernel⟩

/-- Segment 0 free and not blanked. -/
def unblanked : State := ready.modMap 0 (fun m => { m with segs := [(0, { Seg.shipped with blanked := false, moves := 9 })] })
theorem witness_BlankingAndWear :
    (unblanked.Sized ∧ unblanked.dev.st ≠ .drain ∧ (unblanked.tile 0).med.hdr.wf = true ∧ (unblanked.tile 0).map.segs.wf = true ∧
      minBy (fun x => x.2.moves) ((unblanked.tile 0).map.segs.filter (fun x => decide (x.2.cond = .free) && !x.2.blanked)) =
        some (0, { Seg.shipped with blanked := false, moves := 9 })) ∧ unblanked.mgmt.active ≠ none :=
  ⟨⟨sized (by decide +kernel), by decide +kernel⟩, by decide⟩

/-- A migration of logical segment 0 into physical segment 1, at step 2. -/
def mig (ptr : Nat) : Migration := { step := 2, reason := 4, ptr := ptr, target := 1, source := 0, lseg := 0, tomega := 0, part := 0 }
/-- Logical segment 0 MIGRATING. -/
def migrating (ptr : Nat) : State := mapped (fun m =>
  { m with map := [(0, { MapEntry.fresh with st := .migrating })], migs := [mig ptr],
           segs := [(0, { Seg.shipped with cond := .bound, lseg := 0 }), (1, { Seg.shipped with cond := .target, lseg := 0 })] })
/-- A trigger for logical segment 0. -/
def triggered : State := mapped (fun m => { m with triggers := [{ lseg := 0, reason := 4, order := 0 }] })
theorem witness_Migrations :
    (triggered.Sized ∧ triggered.tileActive 0 = true ∧ triggered.mgmt.active ≠ none ∧ triggered.dev.st ≠ .drain ∧
      (triggered.tile 0).map.migs.length < triggered.migrateMax ∧ 0 < triggered.spares 0 ∧
      (triggered.tile 0).map.nextTrigger = some { lseg := 0, reason := 4, order := 0 } ∧ (triggered.tile 0).map.pickFree false = some 1) ∧
    ((migrating 5).Sized ∧ (migrating 5).dev.st ≠ .drain ∧
      ((migrating 5).tile 0).map.migs.find? (fun g => decide (g.lseg = 0)) = some (mig 5) ∧ (mig 5).ptr < segStripes) ∧
    ((migrating segStripes).Sized ∧ ((migrating segStripes).tile 0).map.migs.find? (fun g => decide (g.lseg = 0)) = some (mig segStripes) ∧
      (mig segStripes).source ≠ (mig segStripes).target ∧ ((migrating segStripes).tile 0).segBusy 0 0 = false) :=
  ⟨⟨sized (by decide +kernel), by decide +kernel⟩, ⟨sized (by decide +kernel), by decide +kernel⟩, sized (by decide +kernel), by decide +kernel⟩

/-- Bank 0 of die 0 failed, under evacuation into donor segment 7. -/
def evacuating : State := mapped (fun m => { m with evacs := [{ bank := 0, donors := [7], ptr := 5 }] })
theorem witness_EvacuationStep :
    let e : Evac := { bank := 0, donors := [7], ptr := 5 }
    evacuating.Sized ∧ evacuating.dev.st ≠ .drain ∧ (evacuating.tile 0).map.evacs.find? (fun e => !e.complete) = some e ∧
      (evacuating.tile 0).memberAt (slotAddr 0 0 5) = some (0, 280, 8, { pseg := 0, omega := 0, moves := 0 }) ∧
      (evacuating.tile 0).slotFailed (donorSlot 7 0 0 5) = false :=
  ⟨sized (by decide +kernel), by decide +kernel⟩

/-- Physical segment 0 under visit, at stripe `st`. -/
def visiting (st : Nat) : State := bound.modPat 0 (fun x => { x with visit := some 0, nextStripe := st })
theorem witness_PatrolVisits :
    (let x := (visiting 0).tile 0
     let c : Copy := { pseg := 0, omega := 0, moves := 0 }
     let slot := x.finalSlot (c.slot 0 0)
     (visiting 0).Sized ∧ (visiting 0).dev.st ≠ .drain ∧ x.res.refreshQueue < 4096 ∧ x.pat.visit = some 0 ∧ x.pat.nextStripe < segStripes ∧
       x.pat.nextMember = 0 ∧ (x.map.seg 0).cond = .bound ∧ x.memberBusy (x.map.seg 0).lseg 0 0 c = false ∧ x.slotFailed slot = false ∧
       decodeLine (memberKey (x.map.seg 0).lseg 0 (c.stripe 0) 0) (x.codeword slot (memberKey (x.map.seg 0).lseg 0 (c.stripe 0) 0) ^^^ 0) =
         .clean 0#512) ∧
    ((visiting segStripes).Sized ∧ (visiting segStripes).dev.st ≠ .drain ∧ ((visiting segStripes).tile 0).pat.visit = some 0 ∧
      segStripes ≤ ((visiting segStripes).tile 0).pat.nextStripe ∧ ((visiting segStripes).tile 0).res.refreshes = [] ∧
      ((visiting segStripes).tile 0).med.hdr.wf = true) :=
  ⟨⟨sized (by decide +kernel), by decide +kernel, by decide +kernel, by decide +kernel, by decide +kernel, by decide +kernel, by decide +kernel,
      by decide +kernel, by decide +kernel, decode_blank (by decide +kernel) _⟩, sized (by decide +kernel), by decide +kernel⟩

/-- Segment 0 under visit and 96 hours old, a refresh stroke waiting. -/
def overdueVisit : State := ((visiting 0).modTime 0 (fun x => { x with tb := 96 * 3600 * 10 ^ 9 })).modRes 0 (fun x =>
  { x with strokes := [{ stroke64 with kind := .refresh, running := false, priority := 5 }] })
theorem witness_PatrolPaces :
    (overdueVisit.Sized ∧ (overdueVisit.tile 0).pat.visit = some 0 ∧ overdueVisit.ageReached 0 0 7 = true ∧
      0 < (overdueVisit.tile 0).res.refreshQueue) ∧
    ((overdueVisit.tile 0).map.visitable 0 = true ∧ overdueVisit.ageReached 0 0 8 = true ∧ overdueVisit.dev.st = .ready) ∧
    (let s := ready.modPat 0 (fun x => { x with accelOn := true })
     s.Sized ∧ (s.tile 0).pat.accelOn = true ∧ (s.tile 0).pat.accel = []) ∧
    (ready.Sized ∧ 0 < segsPerTile ∧ segsPerTile - 1 < segsPerTile ∧ 2 < (ready.tile 0).ps.rings.length ∧ ready.dev.st ≠ .unpowered ∧
      hottestOf (ready.tile 0).sup.temp ([[25, 151], [40]].getD 0 []) < 152 ∧ hottestOf (ready.tile 1).sup.temp ([[25, 151], [40]].getD 1 []) < 152 ∧
      ({ ready with svc := { ready.svc with scrubOn := true } } : State).svc.scrubOn = true) :=
  ⟨⟨sized (by decide +kernel), by decide +kernel⟩, by decide +kernel, ⟨sized (by decide +kernel), by decide +kernel⟩, sized (by decide +kernel),
    by decide +kernel⟩

/-- Tile 0 with its fence changed. -/
def fencedBy (s : State) (f : TileFence → TileFence) : State := s.modFence 0 f
theorem witness_Fencing : (ready.Sized ∧ ready.fenceStates = true ∧ ready.tileActive 1 = true) ∧
    (let s := fencedBy ready (fun f => { f with st := .fencing })
     s.Sized ∧ (s.tile 0).fence.st = .fencing ∧ s.mirrorOf 0 < s.n ∧ s.mirrorOf 0 ≠ 0 ∧ (∀ u < s.n, u ≠ 0 → s.tileActive u = true) ∧
      (s.tile 0).outstanding = []) :=
  ⟨⟨sized (by decide +kernel), by decide +kernel⟩, sized (by decide +kernel), by decide +kernel⟩

/-- Partition 1: spanned over both tiles, 100 segments of members and 50 of span parity in each. -/
def part1 : PartInfo :=
  { part0 with base := 2 ^ 34, size := 2 ^ 27, spanned := true, tileSet := 3, data := 100, meta_ := 100, total := 150,
               segBase := List.replicate 8 0x8000, spanBase := List.replicate 8 0x8064 }
/-- Partition 2: sealed, in tile 0, 100 segments of data and 20 of metadata. -/
def part2 : PartInfo :=
  { part0 with base := 2 ^ 35, size := 2 ^ 27, isSealed := true, data := 100, meta_ := 120, total := 120, segBase := List.replicate 8 0x9000 }
/-- `ready` with the three partitions. -/
def threeParts : State := { ready with parts := [(0, part0), (1, part1), (2, part2)] }
/-- A delta of line 3 of partition 1's first segment in tile 0. -/
def delta64 : DeltaMsg := { owner := 0, lla := 538509315, part := 1, evict := 0, delta := 5 }
/-- Tile 0 with that delta to send. -/
def deltaOut : State := threeParts.modRes 0 (fun x => { x with deltaOut := [delta64] })
theorem witness_SpansMirrorsAndIsolation :
    (deltaOut.Sized ∧ (deltaOut.tile 0).res.deltaOut = [delta64] ∧ (deltaOut.spanLine 1 0 538509315).1 = 1 ∧ 1 < deltaOut.n ∧
      deltaOut.tileActive 1 = true) ∧
    (let s := fencedBy (holding dirty64) (fun f => { f with remirror := true })
     s.Sized ∧ (s.tile 0).fence.remirror = true ∧ s.mirrorOf 0 < s.n ∧ s.tileActive (s.mirrorOf 0) = true ∧
      (s.tile (s.mirrorOf 0)).res.dirty + (s.tile 0).res.backlog.length ≤ (s.tile (s.mirrorOf 0)).res.limit) ∧
    (let s := fencedBy ready (fun f => { f with st := .fenced, isoFlush := 1 })
     s.Sized ∧ (s.tile 0).fence.st = .fenced ∧ (s.tile 0).fence.isoFlush = 1 ∧ (s.tile 0).flushed = true) ∧
    (let s := fencedBy (holding dirty64) (fun f => { f with st := .fenced, isoFlush := 1 })
     s.Sized ∧ (s.tile 0).fence.st = .fenced ∧ (s.tile 0).fence.isoFlush = 1 ∧ (s.tile 0).flushed = false) :=
  ⟨⟨sized (by decide +kernel), by decide +kernel⟩, ⟨sized (by decide +kernel), by decide +kernel⟩,
    ⟨sized (by decide +kernel), by decide +kernel⟩, sized (by decide +kernel), by decide +kernel⟩

/-- A host read of that line that waits at tile 1 for the other members, tile 0 fenced. -/
def reconRead : Rd := Rd.make .host { hreq with lla := 538509315, part := 1 } .data 1 538509315 0 0 0 0 0
/-- That read in its phase. -/
def reconRd : Rd := { reconRead with phase := .recon }
/-- Tile 0 fenced with tile 1 as its stand-in, where the read waits. -/
def reconing : State := (fencedBy threeParts (fun f => { f with st := .fenced, standin := 1 })).modRd 1 (fun x => { x with rds := [reconRd] })
theorem witness_ReconstructedReadAnswers : reconing.Sized ∧ (reconing.tile 1).rd.byId 0 = some reconRd ∧ reconRd.phase = .recon ∧
    reconRd.why = .host ∧ reconRd.answered = false ∧ reconRd.req.iface = .cxl ∧ reconRd.req.atom = 0 ∧ reconRd.req.lla = reconRd.lla ∧
    (reconing.partn reconRd.part).isSealed = false ∧ (reconing.port reconRd.req.port).up = true ∧
    reconing.canReconstruct reconRd.req.tile reconRd.part reconRd.req.lla = true :=
  ⟨sized (by decide +kernel), by decide +kernel⟩

/-- Tile 0 FENCED for more than 100 ms. -/
def rejoinDue : State := (fencedBy ready (fun f => { f with st := .fenced, standin := 1, isoFlush := 2, firstCause := 1 })).modTime 0
  (fun x => { x with tb := 100000000 })
/-- Tile 0 REJOINING at a step. -/
def rejoining (k : Nat) (changed : List Nat) : State :=
  fencedBy threeParts (fun f => { f with st := .rejoining, standin := 1, rejoinStep := k, changed := changed })
theorem witness_RejoinSteps : (rejoinDue.Sized ∧ rejoinDue.autoRejoinDue 0 = true) ∧
    (∀ k ∈ [1, 4, 5, 6, 7], (decide ((rejoining k []).n ≤ (rejoining k []).tiles.length) && decide ((rejoining k []).n ≤ (rejoining k []).ports.length) &&
      decide ((rejoining k []).recs.length = 9)) = true ∧ ((rejoining k []).tile 0).fence.st = .rejoining ∧
      ((rejoining k []).tile 0).fence.rejoinStep = k ∧ ((rejoining k []).tile 0).fence.changed = []) ∧
    (∀ q < 64, ((rejoining 7 []).queue 0 q).st = 0) ∧
    ((rejoining 5 [7]).Sized ∧ ((rejoining 5 [7]).tile 0).fence.st = .rejoining ∧ 7 ∈ ((rejoining 5 [7]).tile 0).fence.changed ∧
      (rejoining 5 [7]).standinBusy 0 7 = false ∧ (∀ u < (rejoining 5 [7]).n, u ≠ 0 → (rejoining 5 [7]).tileActive u = true)) :=
  ⟨⟨sized (by decide +kernel), by decide +kernel⟩, by decide +kernel, by decide +kernel, sized (by decide +kernel), by decide +kernel⟩

/-- A change of key slot 5 under way. -/
def change5 (load : Option (Key256 × Key256)) : KeyChange := { slot := 5, load := load, req := { transport := 1, src := 0 } }
/-- Key slot 5 PURGING. -/
def purging (load : Option (Key256 × Key256)) : State := { ready with keys :=
  { slots := [(0, { st := .loaded, k1 := 1, k2 := 2 }), (5, { st := .purging, k1 := 3, k2 := 4 })], change := some (change5 load) } }
/-- Key slot 5 PURGING for an erase, or for a load. -/
def purgings (i : Nat) : State := purging (if i = 0 then none else some (7, 8))
theorem witness_KeyPurgeEnds : ∀ i < 2, (decide ((purgings i).n ≤ (purgings i).tiles.length) &&
      decide ((purgings i).n ≤ (purgings i).ports.length) && decide ((purgings i).recs.length = 9)) = true ∧
    (purgings i).keys.slots.wf = true ∧ (purgings i).keys.change = some (change5 (if i = 0 then none else some (7, 8))) ∧
    (purgings i).serverUp = true ∧ (purgings i).purged 5 = true ∧ (∀ m ∈ (purgings i).mgmt.messages, m.waiting ≠ .key) := by decide +kernel

/-- `ready` with the owner's session 7 open over port 0, an owner installed, a set staged in it and debug unlocked in it. -/
def sessioned : State := { ready with
  mgmt := { ready.mgmt with sessions := [{ id := 7, owner := true, port := some 0 }],
                            sets := [{ req := { transport := 4, src := 7 }, items := [(Ob.PATROL_INTERVAL, 24)], touched := 0 }] }
  svc := { ready.svc with owner := some 12, unlock := some { transport := 4, src := 7 } }
  obj := (ready.setCell debugRightsKey 3).obj }
theorem witness_Sessions : (sessioned.mgmt.booted = true ∧ (∀ x ∈ sessioned.mgmt.sessions, x.id ≠ 8)) ∧
    (∃ x ∈ sessioned.mgmt.sessions, x.id = 7) ∧ sessioned.svc.unlock = some { transport := 4, src := 7 } := by decide +kernel

/-- The line access of a debug read of DPA 0x1000, as the active core makes it. -/
def debugReq (s : State) : Req :=
  { Req.none with
    iface := .debug, port := s.coreTile, cls := debugClass, src := 8 + s.coreTile, kx := 0, dpa := 0x1000, mask := fullMask, data := 0,
    feedCls := s.payer 0, decodedAt := s.now s.coreTile, admittedAt := s.now s.coreTile, part := 0, tile := 0, lla := 64 }
theorem witness_DebugAccesses :
    ((∃ x ∈ ({ sessioned with svc := ready.svc } : State).mgmt.sessions, x.id = 7) ∧ ready.svc.unlock ≠ some { transport := 4, src := 7 }) ∧
    (sessioned.Sized ∧ (∃ x ∈ sessioned.mgmt.sessions, x.id = 7) ∧ sessioned.svc.unlock = some { transport := 4, src := 7 } ∧
      sessioned.svc.eraseState ≠ 1 ∧ sessioned.dev.memActive = true ∧ sessioned.routeDpa (0 % 4096) (0x1000 - 0x1000 % 64) = .line 0 0x1000 0 0 64 ∧
      sessioned.rightsCause (debugReq sessioned) = none ∧ sessioned.serverOf (debugReq sessioned) = some 0 ∧
      sessioned.admissible 0 (debugReq sessioned) = true ∧
      (sessioned.tile sessioned.coreTile).rd.waiting.any (fun h => h.sameLine (debugReq sessioned)) = false ∧
      (sessioned.tile 0).res.find 64 0 = none ∧ sessioned.rootLost 0 0 = false ∧ ((sessioned.tile 0).map.entry (lsegOf 64)).st = .fresh) :=
  ⟨by decide +kernel, sized (by decide +kernel), by decide +kernel⟩

/-- The read of a metadata line of partition 2 in tile 0, decoded as zeros. -/
def metaRead (lla : Nat) : Rd :=
  { Rd.make .metaLine { Req.none with part := 2, lla := lla } .metaLine 2 lla 0 0 0 0 0 with phase := .decoded }
/-- Tile 0 with that read under way, its share of partition 2 with a root of zeros. -/
def metaFetching (lla : Nat) : State := threeParts.modTile 0 (fun x =>
  { x with rd := { x.rd with rds := [metaRead lla] }, sealing := [{ part := 2, root := 0, rootLost := false }] })
/-- A MAC line and a counter line of the top level of partition 2 in tile 0. -/
def macLla : Nat := 605618176
def counterLla : Nat := 605849024
theorem witness_SealingMetadata :
    ((metaFetching macLla).Sized ∧ ((metaFetching macLla).tile 0).rd.byId 0 = some (metaRead macLla) ∧ (metaFetching macLla).homeOf 0 < 2 ∧
      ((metaFetching macLla).partn 2).metaAt 0 macLla = some (.mac 0) ∧
      (∀ q ∈ ((metaFetching macLla).tile 0).rd.rds, q.phase ≠ .awaitMeta) ∧ ((metaFetching macLla).tile 0).res.find macLla 0 = none) ∧
    ((metaFetching counterLla).Sized ∧ ((metaFetching counterLla).tile 0).rd.byId 0 = some (metaRead counterLla) ∧
      ((metaFetching counterLla).partn 2).metaAt 0 counterLla = some (.counter 2 0 0) ∧
      (metaFetching counterLla).lineCounter 0 2 2 0 = some (0, 0) ∧
      (metaFetching counterLla).verifyCounter 0 2 (((metaFetching counterLla).partn 2).lineLla 0 (.counter 2 0 0)) (0, 0) (metaRead counterLla).acc =
        .valid ∧ (∀ q ∈ ((metaFetching counterLla).tile 0).rd.rds, q.phase ≠ .awaitMeta) ∧
      ((metaFetching counterLla).tile 0).res.find counterLla 0 = none) ∧
    (metaFetching macLla).mirrorOf 0 < (metaFetching macLla).n ∧
      ((metaFetching macLla).tile 0).sealing.any (fun x => decide (x.part = 2) && !x.rootLost) = true :=
  ⟨⟨sized (by decide +kernel), by decide +kernel⟩, ⟨sized (by decide +kernel), by decide +kernel⟩, by decide +kernel⟩

/-- `ready` with queue 0 of tile 0 in the state given. -/
def queued (x : Queue) : State := { ready with queues := [(0, x)] }
/-- A queue that runs. -/
def running : Queue := { Queue.reset with st := 1 }
theorem witness_FlushDiscardsTheQueue : (queued { running with overrun := true, frame := [1] }).windowQueue 0 0 0 = some (0, 0) ∧
    (queued { running with overrun := true, frame := [1] }).inService = true := by decide +kernel
theorem witness_QueueWindows : ∀ x ∈ [running, { running with frame := List.replicate 7 1 }, { running with overrun := true, frame := [1] }],
    (queued x).windowQueue 0 0 0 = some (0, 0) ∧ (queued x).inService = true ∧ ((queued x).queue 0 0).words < 256 ∧
    (((queued x).queue 0 0).tail + 2 ^ 32 - 0 % 2 ^ 32) % 2 ^ 32 ≤ (queued x).ringRecords 0 0 ∧
    (((queued x).queue 0 0).overrun = false ∨ ((queued x).queue 0 0).frame = [1]) := by decide +kernel

/-- Word 0 of a descriptor with operation `op`, flag bits `flags` and length `len`. -/
def word0 (op flags len : Nat) : Nat := op * 2 ^ 56 + flags * 2 ^ 48 + len
/-- A FADD64 on DPA 0x1000. -/
def fadd : List Nat := [word0 7 0 8, 0x1000, 1, 0, 0, 0, 0, 0]
theorem witness_DescriptorTaken :
    let s := queued { running with groups := [{ words := fadd, torn := false }] }
    s.tileActive 0 = true ∧ s.inService = true ∧ s.executing 0 < 16 ∧
      minBy (fun q => (q + 127 - (s.tile 0).rd.lastQueue) % 64) (below 64 (fun q => s.startable 0 q)) = some 0 ∧
      (s.queue 0 0).groups = { words := fadd, torn := false } :: [] ∧ headValid (fadd.headD 0) = true ∧ bodyValid fadd = true ∧
      atomicOperand fadd = some 0x1000 := by decide +kernel

/-- A descriptor of two lines as the engine takes it. -/
def taken (op : Nat) : Desc := Desc.fresh 0 [word0 op 0 128, 0x1000, 0x2000, 0x4000, 0x3000, 0x3040, 0, 0]
/-- `ready` with one descriptor in execution. -/
def executing (d : Desc) : State := queued { running with descs := [d] }
theorem witness_EngineIssues :
    (∀ op ∈ [1, 2, 3, 4, 5, 6, 7, 8, 0x20], ((executing (taken op)).queue 0 0).desc 0 = some (taken op) ∧ (executing (taken op)).tileActive 0 = true ∧
      (executing (taken op)).inService = true ∧ (executing (taken op)).engineOut 0 < 128 ∧ (taken op).stopped = false ∧ (taken op).ended = false ∧
      (taken op).op = op ∧ (taken op).ready = [] ∧ (taken op).nextRead = 0 ∧ (taken op).nextWrite = 0 ∧ (taken op).phase = 0) ∧
    (∀ op ∈ [1, 2, 3, 4, 5], (taken op).total = 2) ∧
    (let d : Desc := { taken 1 with ready := [{ step := 0, data := 5, poison := false, cause := 0, dpa := 0x1000 }] }
     ((executing d).queue 0 0).desc 0 = some d ∧ d.op = 1 ∧ d.stopped = false) := by decide +kernel

/-- The write of the first line of a FILL or ZERO in queue 0. -/
def fillReq (zero : Bool) : Req :=
  { Req.none with
    iface := .scribe, src := 8, dpa := 0x1000, write := true, mask := fullMask, data := if zero then 0 else patternLine 0x2000,
    step := 1, lla := 64, zero := zero }
theorem witness_FillWritesTheLine : ∀ zero ∈ [false, true],
    let s := executing (taken (if zero then 3 else 2))
    (decide (s.n ≤ s.tiles.length) && decide (s.n ≤ s.ports.length) && decide (s.recs.length = 9)) = true ∧
      (s.queue 0 0).desc 0 = some (taken (if zero then 3 else 2)) ∧ s.engineOut 0 < 128 ∧
      s.routeDpa (s.queueKx 0 0) ((taken 2).w 1 + 64 * 0) = .line 0 0x1000 0 0 64 ∧ (s.partn 0).spanned = false ∧ s.rightsCause (fillReq zero) = none ∧
      s.admissible 0 (fillReq zero) = true ∧ (s.tile 0).rd.waiting.any (fun h => h.sameLine (fillReq zero)) = false ∧
      (s.tile 0).res.find 64 0 = none ∧ (s.tile 0).isLost 64 = false ∧ s.rootLost 0 0 = false ∧
      (s.tile (s.mirrorOf 0)).fence.st ≠ .fencing := by decide +kernel

/-- A barrier descriptor with its record suppressed. -/
def barrier (op : Nat) (armed : Bool) : Desc := { Desc.fresh 0 [word0 op 2 0, 0, 0, 0, 0, 0, 0, 0] with armed := armed }
theorem witness_Barriers :
    (∀ op ∈ [0x10, 0x11, 0x12], ((executing (barrier op false)).queue 0 0).desc 0 = some (barrier op false) ∧ (barrier op false).ended = false ∧
      (barrier op false).op = op ∧ (executing (barrier op false)).tileActive 0 = true) ∧
    (let s := executing (barrier 0x12 true)
     (s.queue 0 0).descs.find? (fun d => d.barrier && d.armed && !d.ended) = some (barrier 0x12 true) ∧
      (∀ e ∈ (s.queue 0 0).descs, e.index < (barrier 0x12 true).index → e.ended = true) ∧ (s.queue 0 0).failed = none ∧
      ((barrier 0x12 true).w 0).testBit 49 = true) := by decide +kernel

/-- The completion of an access. -/
def arrival (step : Nat) : Arrival := { step := step, data := 0, poison := false, cause := 0, dpa := 0x1000 }
/-- A FILL of two lines with `out` accesses out and one come back. -/
def filling (out : Nat) : Desc :=
  { Desc.fresh 0 [word0 2 2 128, 0x1000, 0x2000, 0, 0, 0, 0, 0] with nextWrite := 2, outstanding := out, progress := 2 - out, arrived := [arrival 3] }
/-- A FADD64 that has ended, its record accepted. -/
def recorded : Desc := { Desc.fresh 0 fadd with ended := true, recording := true, outstanding := 1, progress := 1, arrived := [arrival 1] }
theorem witness_LineAccessesComeBack :
    (∀ out ∈ [1, 2], ((executing (filling out)).queue 0 0).desc 0 = some (filling out) ∧ (filling out).arrived = arrival 3 :: [] ∧
      (filling out).ended = false ∧ ((filling out).w 0).testBit 49 = true) ∧
    (Desc.absorb { filling 2 with arrived := [] } (arrival 3)).outstanding ≠ 0 ∧
    (let e := Desc.absorb { filling 1 with arrived := [] } (arrival 3)
     e.outstanding = 0 ∧ e.complete = true ∧ e.outcome = none ∧ e.fails = []) ∧
    (((executing recorded).queue 0 0).descs = [recorded] ∧ recorded.arrived = arrival 1 :: [] ∧ recorded.ended = true ∧ recorded.op ≠ 0xFF ∧
      (arrival 1).cause = 0) := by decide +kernel

/-- Port 0's slice with a read of line 64 that it holds. -/
def slicing : State := ready.modPort 0 (fun p => { p with held := [hreq] })
theorem witness_SlicesDecide : slicing.Sized ∧ (slicing.port 0).held = [hreq] ∧ (slicing.port 0).up = true ∧ (slicing.port 0).withheld = false ∧
    hreq.port = 0 ∧ hreq.iface = .cxl ∧ hreq.write = false ∧ hreq.atom = 0 ∧ slicing.turnedAway hreq = none ∧ slicing.serverOf hreq = some 0 ∧
    slicing.admissible 0 hreq = true ∧ (slicing.tile 0).res.find 64 0 = none ∧ slicing.rootLost 0 0 = false ∧
    ((slicing.tile 0).map.entry (lsegOf 64)).st = .fresh ∧ slicing.portUsed 0 = true :=
  ⟨sized (by decide +kernel), by decide +kernel⟩
theorem witness_BudgetEpochs : ready.dev.mainUp = true ∧ ready.Sized ∧ ready.n ≤ ready.feed.reserveLeft.length ∧ ready.tileActive 1 = true ∧
    ready.mgmt.active ≠ none ∧ (1 : Nat).testBit 1 = false :=
  ⟨by decide, sized (by decide), by decide⟩

/-- Port 0 down. -/
def unlinked : State := ready.modPort 0 (fun p => { p with up := false, cxlMem := false })
/-- Port 0 with its CXL.mem stream secured, a request of its LD held. -/
def secured : State := ready.modPort 0 (fun p => { p with ideMem := true, ideMemKey := 9, ideMode := 1, held := [hreq] })
theorem witness_LinksTrain :
    (unlinked.Sized ∧ unlinked.canTrain 0 = true ∧ (unlinked.port 0).up = false ∧ unlinked.linkLegal 0 3 8 1 = true) ∧
    (ready.Sized ∧ ready.portUsed 0 = true ∧ (ready.port 0).up = true ∧ ready.linkLegal 0 4 8 (ready.port 0).flit = true ∧
      memEnabled true 4 (ready.port 0).flit = true ∧ ready.dev.mainUp = true ∧ ¬((ready.port 0).rate = 4 ∧ (ready.port 0).width = 8)) ∧
    (let s := ready.modPort 0 (fun p => { p with ldMode := 2 })
     s.Sized ∧ s.portUsed 0 = true ∧ (s.port 0).ldMode = 2) :=
  ⟨⟨sized (by decide +kernel), by decide +kernel⟩, ⟨sized (by decide +kernel), by decide +kernel⟩, sized (by decide +kernel), by decide +kernel⟩
theorem witness_LinksFall : secured.Sized ∧ secured.portUsed 0 = true ∧ (secured.port 0).up = true ∧
    (if 0 = 0 then (secured.port 0).ideMem else (secured.port 0).ideIo) = true ∧ secured.ldExists 0 0 = true :=
  ⟨sized (by decide +kernel), by decide +kernel⟩
theorem witness_StreamsAndDecoders :
    let s : State := { secured with mgmt := sessioned.mgmt }
    let d : Decoder := { Decoder.reset with committed := true, base := 2 ^ 28, size := 2 ^ 28, kxCfg := s.cell (ldKey Ob.HDM_KX_CFG 0 0 + 1) 0 }
    let locked := s.modDecoder 0 0 0 (fun d => { d with locked := true })
    (s.Sized ∧ s.portUsed 0 = true ∧ (s.port 0).up = true ∧ (∃ x ∈ s.mgmt.sessions, x.id = 7)) ∧
    (s.ldExists 0 0 = true ∧ (s.ld 0 0).decoders.length = 4 ∧ ((s.ld 0 0).decoders.getD 1 Decoder.reset).committed = false ∧ s.svc.eraseState ≠ 1 ∧
      s.decoderFits 0 0 1 d = true ∧ s.decoderFits 0 0 1 { d with base := 0 } = false) ∧
    (((s.ld 0 0).decoders.getD 0 Decoder.reset).committed = true ∧ ((s.ld 0 0).decoders.getD 0 Decoder.reset).locked = false) ∧
    (locked.ldExists 0 0 = true ∧ (locked.port 0).up = true ∧ ((locked.ld 0 0).decoders.getD 0 Decoder.reset).locked = true) :=
  ⟨⟨sized (by decide +kernel), by decide +kernel⟩, by decide +kernel⟩

theorem mailboxFree {s : State} {p l : Nat} (h : (s.mailboxThere p l && decide (s.mailboxBusy p l = false) && decide (s.dev.st ≠ .unpowered) &&
    s.mgmt.active.isSome && decide (s.serverBusy = false)) = true) : s.MailboxFree p l := by
  simp only [Bool.and_eq_true, decide_eq_true_eq] at h
  exact ⟨h.1.1.1.1, h.1.1.1.2, h.1.1.2, h.1.2, h.2⟩
/-- The fabric manager over I3C. -/
def fm : Requester := { transport := 1, src := 0 }
theorem fmFree {s : State} {p : Nat} (h : (s.portUsed p && s.serverUp && decide (s.serverBusy = false)) = true) : s.FmFree fm p := by
  simp only [Bool.and_eq_true, decide_eq_true_eq] at h
  unfold State.FmFree
  rw [if_neg (by decide)]
  exact ⟨.inl rfl, h.1.1, h.1.2, h.2⟩
/-- `ready` with the results of a scan of 4 KiB. -/
def scanned : State := { ready with svc := { ready.svc with scrubOn := false, scrubSource := 1, scrubBy := 0, scrubLen := 4096 } }
theorem witness_MailboxAnswers :
    (ready.MailboxFree 0 0 ∧ ready.vendorHere 0 0 = true ∧ ready.notReady = false ∧ mailboxOpcodes.contains 0x9999 = false ∧ 0x1000 + 0x40 ≤ (ready.alloc 0 0).2 ∧
      ready.scanRange 0 0 0x1000 0x40 = true ∧ 4 ≤ 4) ∧
    (let s := ready.setCell (ldKey Ob.LD_MGMT 0 0) 0
     s.MailboxFree 0 0 ∧ s.vendorHere 0 0 = false) ∧
    (scanned.MailboxFree 0 0 ∧ scanned.notReady = false ∧ scanned.svc.scrubOn = false ∧ scanned.svc.scrubSource = 1 ∧ scanned.svc.scrubBy = 16 * 0 + 0) ∧
    (ready.FmFree fm 0 ∧ fmOpcodes.contains 0x9999 = false ∧ ready.ldExists 0 0 = true) :=
  ⟨⟨mailboxFree (by decide +kernel), by decide +kernel⟩, ⟨mailboxFree (by decide +kernel), by decide +kernel⟩,
    ⟨mailboxFree (by decide +kernel), by decide +kernel⟩, fmFree (by decide +kernel), by decide +kernel⟩

/-- `ready` with a second image that may boot. -/
def twoImages : State := { ready with fw := { ready.fw with slots := [{ st := 1, svn := 3, compat := true, version := 0, received := 0 },
  { st := 1, svn := 4, compat := true, version := 1, received := 0 }] } }
theorem witness_MailboxChanges : (twoImages.MailboxFree 0 0 ∧ 4 < (twoImages.ld 0 0).logs.length ∧ twoImages.fw.slots.length = 2 ∧
      twoImages.fw.running ≤ 1 ∧ twoImages.mgmt.update = 0 ∧ twoImages.bgRunning = false ∧ twoImages.liveReady = true ∧
      twoImages.otherReady = true ∧ twoImages.inService = true ∧ 8190 + ([1, 2] : List Nat).length ≤ 8192 ∧ 0 + 0 / 8 < twoImages.n) ∧
    twoImages.Sized ∧ twoImages.tileActive (0 + 0 / 8) = true :=
  ⟨⟨mailboxFree (by decide +kernel), by decide +kernel⟩, sized (by decide +kernel), by decide +kernel⟩

/-- `ready` with test commands permitted. -/
def testing : State := { ready with svc := { ready.svc with testPermitted := true } }
/-- `ready` with no decoder committed: an erasure may start. -/
def erasable : State := { ready with lds := [] }
/-- An erasure of a kind under way. -/
def erasing (k : Nat) : State := { erasable with svc := { ready.svc with eraseState := 1, eraseKind := k, bgOp := 0x4401 } }
theorem witness_MediumCommands :
    (testing.MailboxFree 0 0 ∧ testing.inService = true ∧ testing.Sized ∧ testing.svc.testPermitted = true ∧ testing.locateLd 0 0 0x1000 = some (0, 0, 64) ∧
      testing.tileActive 0 = true ∧ (testing.partn 0).spanned = false ∧ (testing.tile 0).isLost 64 = false ∧ testing.rootLost 0 0 = false ∧
      (testing.tile 0).res.find 64 0 = none ∧ (testing.tile (testing.mirrorOf 0)).fence.st ≠ .fencing ∧
      ((testing.tile 0).map.entry (lsegOf 64)).st ≠ .lost ∧ testing.keyHeld (testing.cell (ldKey Ob.LD_CLEAR_KX 0 0) 0) = false ∧
      testing.hasRight (classOf 0 0) (testing.cell (ldKey Ob.LD_CLEAR_KX 0 0) 0) true = true) ∧
    (testing.svc.scrubOn = false ∧ testing.bgRunning = false ∧ testing.scanRange 0 0 0x1000 0x40 = true) ∧
    erasable.MailboxFree 0 0 ∧ (erasable.Sized ∧ erasable.eraseLegal = true ∧ erasable.bgRunning = false ∧ erasable.svc.eraseState ≠ 1) ∧
    (∀ k ∈ [1, 2], (erasing k).inService = true ∧ (erasing k).svc.eraseState = 1 ∧ (erasing k).svc.eraseKind = k) ∧ (erasing 2).Sized :=
  ⟨⟨mailboxFree (by decide +kernel), by decide +kernel, sized (by decide +kernel), by decide +kernel⟩, by decide +kernel,
    mailboxFree (by decide +kernel), ⟨sized (by decide +kernel), by decide +kernel⟩, by decide +kernel, sized (by decide +kernel)⟩

/-- One dynamic capacity region of 4 GiB at GiB 8 of port 0's LD 0, with blocks added and pending. -/
def region8 : Region := { on := true, shareable := false, sanitize := false, off := 8, size := 4 }
def dynamic (added pendingAdd : List DcBlock) : State :=
  (ready.setCell (ldKey Ob.DCR_CFG 0 0) region8.cfg).modLd 0 0 (fun x => { x with blocks := added, pendingAdd := pendingAdd })
/-- Block 1 of region 0. -/
def block1 : DcBlock := { region := 0, block := 1, tag := 7 }
theorem witness_CapacityCommands :
    (let s := dynamic [] [block1]
     s.MailboxFree 0 0 ∧ s.inService = true ∧ s.Sized ∧ (gibsOf [(9, 1)]).eraseDups ≠ [] ∧
      (gibsOf [(9, 1)]).eraseDups.all (fun g => (s.gibsIn 0 0 (s.ld 0 0).pendingAdd).contains g) = true) ∧
    (let s := dynamic [block1] []
     s.MailboxFree 0 0 ∧ s.inService = true ∧ s.Sized ∧ (gibsOf [(9, 1)]).eraseDups.all (fun g => (s.gibsIn 0 0 (s.ld 0 0).blocks).contains g) = true ∧
      s.FmFree fm 0 ∧ s.ldExists 0 0 = true) ∧
    (let s := dynamic [] []
     s.FmFree fm 0 ∧ s.inService = true ∧ s.addBarred 0 0 (gibsOf [(11, 1)]).eraseDups = false ∧
      (gibsOf [(11, 1)]).eraseDups.any (fun g => s.svc.sanitizing.contains (s.dpaGib 0 0 g)) = false) ∧
    (let s : State := { ready with svc := { ready.svc with sanitizing := [9] } }
     s.inService = true ∧ s.Sized ∧ s.svc.sanitizing.contains 9 = true) ∧
    (ready.MailboxFree 0 0 ∧ ready.mgmt.sets.length < 8 ∧ ready.validate (sortItems [(Ob.PATROL_INTERVAL, 6)]) = none ∧
      ready.validate (sortItems [(Ob.PATROL_INTERVAL, 96)]) = none) ∧
    (let items : Items := [(ldKey Ob.LD_ALLOC_BASE 0 0, 0), (ldKey Ob.LD_ALLOC_SIZE 0 0, 2 ^ 30)]
     erasable.FmFree fm 0 ∧ items.findSome? erasable.itemFault = none ∧ erasable.validate (sortItems items) = none) ∧
    (region8.size < 2 ^ 14 ∧ region8.off < 2 ^ 14 ∧ ready.itemFault (ldKey Ob.DCR_CFG 0 0 + 7, region8.cfg) = none ∧
      ready.validate [(ldKey Ob.DCR_CFG 0 0 + 7, region8.cfg)] = none) :=
  ⟨⟨mailboxFree (by decide +kernel), by decide +kernel, sized (by decide +kernel), by decide +kernel⟩,
    ⟨mailboxFree (by decide +kernel), by decide +kernel, sized (by decide +kernel), by decide +kernel, fmFree (by decide +kernel), by decide +kernel⟩,
    ⟨fmFree (by decide +kernel), by decide +kernel⟩, ⟨by decide, sized (by decide), by decide⟩,
    ⟨mailboxFree (by decide +kernel), by decide +kernel⟩, ⟨fmFree (by decide +kernel), by decide +kernel⟩, by decide +kernel⟩

/-- The requester of session 7. -/
def owner7 : Requester := { transport := 4, src := 7 }
theorem takes {s : State} {q : Requester} (h : (s.serverUp && s.reachable q && decide (s.serverBusy = false) && decide (s.mgmt.messages.length < 16) &&
    decide (s.mgmt.messages.any (fun m => decide (m.req = q)) = false)) = true) : s.Takes q := by
  simp only [Bool.and_eq_true, decide_eq_true_eq] at h
  exact ⟨h.1.1.1.1, h.1.1.1.2, h.1.1.2, h.1.2, h.2⟩
/-- The place that an object's key spells, in `sessioned`. -/
def place (key : Nat) : ObPlace := (sessioned.findOb (key / 256) (key % 256)).getD { row := obRow 0 0 .one 0 .ro .any, i := 0, off := 0 }
/-- `sessioned` with two bits of `SUPPLY_STATUS` set and the timebase at 600 s. -/
def statused : State := (sessioned.modTime 0 (fun x => { x with tb := 600 * 10 ^ 9 })).setCell Ob.SUPPLY_STATUS 3
/-- A Staeb message of one READ of `index`.`sub`. -/
def readMessage (index sub : Nat) : List Nat := [0, 1, 1, 0, 0, 0, 1, 0, 1, sub, index % 256, index / 256, 0, 0, 0, 0]
theorem witness_ObjectsAreWritten :
    (sessioned.Takes owner7 ∧ sessioned.inService = true ∧ sessioned.findOb (Ob.SCRUB_DPA / 256) (Ob.SCRUB_DPA % 256) = some (place Ob.SCRUB_DPA) ∧
      (place Ob.SCRUB_DPA).access = .rw ∧ sessioned.writeFault owner7 (Ob.SCRUB_DPA / 256) (place Ob.SCRUB_DPA) (bytesLE 8 0x1000)
        (sessioned.writeMask (place Ob.SCRUB_DPA) (ofBytesLE (bytesLE 8 0x1000))) = none) ∧
    (sessioned.findOb (Ob.PATROL_INTERVAL / 256) (Ob.PATROL_INTERVAL % 256) = some (place Ob.PATROL_INTERVAL) ∧
      (place Ob.PATROL_INTERVAL).isConfig = true ∧ sessioned.writeFault owner7 (Ob.PATROL_INTERVAL / 256) (place Ob.PATROL_INTERVAL)
        (bytesLE (place Ob.PATROL_INTERVAL).row.size 6) (sessioned.writeMask (place Ob.PATROL_INTERVAL)
          (ofBytesLE (bytesLE (place Ob.PATROL_INTERVAL).row.size 6))) = none ∧
      sessioned.setOf owner7 = some { req := owner7, items := [(Ob.PATROL_INTERVAL, 24)], touched := 0 } ∧
      Sparse.find [(Ob.PATROL_INTERVAL, 24)] (place Ob.PATROL_INTERVAL).cell = some 24) ∧
    (sessioned.Sized ∧ sessioned.writeFault owner7 (Ob.SCRUB_DPA / 256) (place Ob.SCRUB_DPA) [1]
      (sessioned.writeMask (place Ob.SCRUB_DPA) (ofBytesLE [1])) = some (Err.type, 0)) ∧
    (statused.Takes owner7 ∧ statused.inService = true ∧ statused.findOb (Ob.SUPPLY_STATUS / 256) (Ob.SUPPLY_STATUS % 256) = some (place Ob.SUPPLY_STATUS) ∧
      (place Ob.SUPPLY_STATUS).access = .w1c ∧ statused.writeFault owner7 (Ob.SUPPLY_STATUS / 256) (place Ob.SUPPLY_STATUS) (bytesLE 4 0x80000001)
        (statused.writeMask (place Ob.SUPPLY_STATUS) 0x80000001) = none ∧ statused.writeMask (place Ob.SUPPLY_STATUS) 0x80000001 = 0x80000001 ∧
      w1cRows.find? (fun x => decide (x.1 = (place Ob.SUPPLY_STATUS).row.key)) = some ((place Ob.SUPPLY_STATUS).row.key, 0, 9, Ob.SUPPLY_OCC)) ∧
    (statused.setOf owner7 = some { req := owner7, items := [(Ob.PATROL_INTERVAL, 24)], touched := 0 } ∧ statused.serverUp = true ∧
      0 + 600 * 10 ^ 9 ≤ statused.pkgNow ∧ statused.Sized) ∧
    (requestOps (readMessage (Ob.SCRUB_DPA / 256) (Ob.SCRUB_DPA % 256)) =
        some [{ op := 1, sub := Ob.SCRUB_DPA % 256, index := Ob.SCRUB_DPA / 256, value := [] }] ∧
      byteField (readMessage (Ob.SCRUB_DPA / 256) (Ob.SCRUB_DPA % 256)) 4 2 = 0 ∧ byteField (readMessage (Ob.SCRUB_DPA / 256) (Ob.SCRUB_DPA % 256)) 3 1 = 0 ∧
      (place Ob.SCRUB_DPA).access.readable = true ∧ sessioned.recorderGone (place Ob.SCRUB_DPA) = false ∧ sessioned.counterGone (place Ob.SCRUB_DPA) = false) ∧
    (sessioned.MailboxFree 0 0 ∧ sessioned.Takes (mailboxOf 0 0) ∧ sessioned.vendorHere 0 0 = true) ∧
    (requestOps [1, 2, 3] = none ∧ byteField [1, 2, 3] 4 2 = 0 ∧ byteField [1, 2, 3, 0] 3 1 = 0) :=
  ⟨⟨takes (by decide +kernel), by decide +kernel⟩, by decide +kernel, ⟨sized (by decide +kernel), by decide +kernel⟩,
    ⟨takes (by decide +kernel), by decide +kernel⟩, ⟨by decide +kernel, by decide +kernel, by decide +kernel, sized (by decide +kernel)⟩,
    by decide +kernel, ⟨mailboxFree (by decide +kernel), takes (by decide +kernel), by decide +kernel⟩, by decide +kernel⟩

/-- `sessioned` with a staged set that no COMMIT can take: an interval out of its rules. -/
def badSet : State := { sessioned with mgmt := { sessioned.mgmt with sets := [{ req := owner7, items := [(Ob.inst Ob.PART_TILE_SET 1, 0x80)], touched := 0 }] } }
theorem notGeneration (v : Nat) (l : Items) (h : l.all (fun x => decide (x.1 ≠ Ob.CONFIG_GENERATION)) = true) : (Ob.CONFIG_GENERATION, v) ∉ l := by
  intro m
  have := List.all_eq_true.mp h _ m
  simp at this
theorem witness_CommitIsWhole :
    (sessioned.Takes owner7 ∧ sessioned.inService = true ∧ sessioned.Sized ∧ (0xFFFFFFFF : Nat) < 2 ^ 32 ∧
      sessioned.setOf owner7 = some { req := owner7, items := [(Ob.PATROL_INTERVAL, 24)], touched := 0 } ∧
      sessioned.validate (sortItems [(Ob.PATROL_INTERVAL, 24)]) = none ∧ (∀ v, (Ob.CONFIG_GENERATION, v) ∉ [(Ob.PATROL_INTERVAL, 24)])) ∧
    (badSet.Takes owner7 ∧ badSet.inService = true ∧ badSet.Sized ∧
      badSet.setOf owner7 = some { req := owner7, items := [(Ob.inst Ob.PART_TILE_SET 1, 0x80)], touched := 0 } ∧ 0 = badSet.cell Ob.CONFIG_GENERATION 0 ∧
      badSet.validate (sortItems [(Ob.inst Ob.PART_TILE_SET 1, 0x80)]) = some { code := 4, detail := 0, key := Ob.inst Ob.PART_TILE_SET 1 } ∧
      1 ≠ badSet.cell Ob.CONFIG_GENERATION 0) ∧
    (let s : State := { ready with parts := [(0, { part0 with st := 2 })] }
     s.Sized ∧ (s.partn 0).st = 2 ∧ s.activeTiles.all (fun t => !s.partBusy t 0) = true) :=
  ⟨⟨takes (by decide +kernel), by decide +kernel, sized (by decide +kernel), by decide, by decide +kernel, by decide +kernel,
      fun v => notGeneration v _ (by decide)⟩, ⟨takes (by decide +kernel), by decide +kernel, sized (by decide +kernel), by decide +kernel⟩,
    sized (by decide +kernel), by decide +kernel⟩

/-- `sessioned` with a tile changed. -/
def atTile (f : Tile → Tile) : State := sessioned.modTile 0 f
/-- Logical segment 0 of tile 0 bound. -/
def boundMap (m : TileMap) : TileMap :=
  { m with map := [(0, { MapEntry.fresh with st := .bound })], segs := [(0, { Seg.shipped with cond := .bound, lseg := 0 })] }
theorem witness_MaintenanceCommands :
    (sessioned.Takes owner7 ∧ sessioned.inService = true ∧ sessioned.Sized ∧ (∀ v, v < sessioned.n → sessioned.tileActive v = true) ∧
      xlateTile 0 < sessioned.n ∧ xlateSeg 0 < poolSegs ∧ 65 < 66 ∧ (65 : Nat) ≠ debugClass) ∧
    (let s := atTile (fun x => { x with map := boundMap x.map })
     s.Takes owner7 ∧ s.inService = true ∧ s.Sized ∧ ((s.tile (xlateTile 0)).map.entry (xlateSeg 0)).st = .bound ∧
      (s.tile (xlateTile 0)).map.migs.length < s.migrateMax) ∧
    (let s := atTile (fun x => { x with map := { x.map with quars := [{ reason := 2, pseg := 0, lseg := 0 }], segs := [(0, { Seg.shipped with cond := .quarantined })] } })
     s.Takes owner7 ∧ s.inService = true ∧ s.Sized ∧ xlateSwap 0 = false ∧
      (s.tile (xlateTile 0)).map.quars.find? (fun y => decide (y.pseg = xlateSeg 0)) = some { reason := 2, pseg := 0, lseg := 0 }) ∧
    (let s := (sessioned.setCell Ob.SCRUB_DPA 0x1000).setCell Ob.SCRUB_LENGTH 0x1000
     s.Takes owner7 ∧ s.inService = true ∧ s.Sized ∧ s.svc.scrubOn = false ∧ s.cell Ob.SCRUB_LENGTH 0 ≠ 0 ∧ s.cell Ob.SCRUB_DPA 0 % 64 = 0 ∧
      s.cell Ob.SCRUB_LENGTH 0 % 64 = 0 ∧ s.rangeEnabled (s.cell Ob.SCRUB_DPA 0) (s.cell Ob.SCRUB_LENGTH 0) = true) ∧
    (let s : State := { sessioned with svc := { sessioned.svc with scrubOn := true } }
     s.Takes owner7 ∧ s.inService = true ∧ s.Sized ∧ s.svc.scrubOn = true) ∧
    (let s := fencedBy sessioned (fun f => { f with st := .fenced, isoFlush := 2 })
     s.Takes owner7 ∧ s.inService = true ∧ s.Sized ∧ (s.tile 0).fence.st = .fenced ∧ (s.tile 0).fence.isoFlush ≠ 1) ∧
    (let s : State := { sessioned with queues := [(0, { Queue.reset with st := 3 })] }
     s.Takes owner7 ∧ s.inService = true ∧ s.Sized ∧ (s.queue 0 0).st = 3 ∧ (s.queue 0 0).descs.any (fun d => d.ended) = false) :=
  ⟨⟨takes (by decide +kernel), by decide +kernel, sized (by decide +kernel), by decide +kernel⟩,
    ⟨takes (by decide +kernel), by decide +kernel, sized (by decide +kernel), by decide +kernel⟩,
    ⟨takes (by decide +kernel), by decide +kernel, sized (by decide +kernel), by decide +kernel⟩,
    ⟨takes (by decide +kernel), by decide +kernel, sized (by decide +kernel), by decide +kernel⟩,
    ⟨takes (by decide +kernel), by decide +kernel, sized (by decide +kernel), by decide +kernel⟩,
    ⟨takes (by decide +kernel), by decide +kernel, sized (by decide +kernel), by decide +kernel⟩,
    takes (by decide +kernel), by decide +kernel, sized (by decide +kernel), by decide +kernel⟩

/-- `sessioned` with key slot 4095 loaded and the root of partition 0 in tile 0 lost. -/
def keyed : State := { atTile (fun x => { x with sealing := [{ part := 2, root := 0, rootLost := true }] }) with
  keys := { slots := [(0, { st := .loaded, k1 := 1, k2 := 2 }), (4095, { st := .loaded, k1 := 5, k2 := 6 })], change := none } }
theorem witness_KeyAndSealCommands : keyed.Takes owner7 ∧ keyed.inService = true ∧ keyed.Sized ∧ keyed.keyPath owner7 = true ∧
    keyed.isSealKey 1 = false ∧ keyed.isSealKey 4095 = false ∧ keyed.keys.change = none ∧ (keyed.key 1).st = .empty ∧ (keyed.key 4095).st = .loaded ∧
    keyed.isOwner owner7 = true ∧ keyed.svc.owner = some 12 ∧ keyed.svc.unlock = some owner7 ∧ keyed.rootLost 0 2 = true :=
  ⟨takes (by decide +kernel), by decide +kernel, sized (by decide +kernel), by decide +kernel⟩

/-- `sessioned` with a snapshot of tile 0 between its steps, its message waiting. -/
def waitMsg (key : Nat) (w : Wait) : Message :=
  { req := owner7, tag := 0, stop := false, failed := false, done := [], waiting := w,
    cur := { op := 2, sub := key % 256, index := key / 256, value := [1] }, rest := [] }
def latching : State := { sessioned with
  cnt := { sessioned.cnt with snapArg := some 0, snapSeq := 1, live := [(5, 77)] }
  mgmt := { sessioned.mgmt with messages := [waitMsg Ob.CNT_SNAPSHOT .snapshot] } }
/-- An occurrence of a ring link retrain. -/
def occ : Occ := { code := Ev.RING_LINK_RETRAIN, tile := 0, ts := 0, cls := 0, value := 0, payload := 0, holdover := false, quiet := false, home := none }
/-- `sessioned` with tile 0's recorder in the state given. -/
def recorder0 (r : Recorder) : State := { sessioned with recs := { r with loaded := true } :: List.replicate 8 Recorder.empty }
/-- A clear in it. -/
def clearing : State := { recorder0 { Recorder.empty with clears := [occ.code], sums := [(occ.code, (Summary.empty 0).add occ)] } with
  mgmt := { sessioned.mgmt with messages := [waitMsg Ob.REC_CLEAR (.publish [0])] } }
theorem witness_CountersAndRecorders :
    (sessioned.Takes owner7 ∧ sessioned.inService = true ∧ sessioned.Sized ∧ sessioned.cnt.snapArg = none ∧ sessioned.tileActive 1 = true ∧
      (sessioned.tile 1).fence.st ≠ .fenced ∧ 0 ≤ (sessioned.rec_ 0).head) ∧
    (latching.Sized ∧ latching.tileActive 0 = true ∧ latching.cnt.snapArg = some 0 ∧ latching.cnt.snapDone = [] ∧ latching.cnt.snapAt ≤ latching.now 0 ∧
      latching.cnt.live.wf = true ∧ latching.OnlyWaits owner7 Ob.CNT_SNAPSHOT .snapshot) ∧
    (clearing.Sized ∧ clearing.publishDue 0 = true ∧ (clearing.rec_ 0).staged = [] ∧ (clearing.rec_ 0).clears ≠ [] ∧
      clearing.OnlyWaits owner7 Ob.REC_CLEAR (.publish [0])) ∧
    (let s := recorder0 { Recorder.empty with staged := [occ] }
     s.Sized ∧ s.publishDue 0 = true ∧ s.mgmt.messages = [] ∧ (s.rec_ 0).staged = [occ] ∧ (s.rec_ 0).clears = [] ∧ (s.rec_ 0).releaseTo = [] ∧
      (∀ e ∈ (s.rec_ 0).ring, e.seq ≠ 0) ∧ 10 ^ 9 ≤ (s.bucketAt (s.rec_ 0) occ.code occ.ts).level ∧
      placeEntry (recRingSize 0) (s.rec_ 0).ring ((s.rec_ 0).entryOf occ) = some [(s.rec_ 0).entryOf occ]) ∧
    ((recorder0 { Recorder.empty with saveWanted := true }).Sized ∧ (recorder0 { Recorder.empty with saveWanted := true }).saveDue 0 = true) ∧
    (sessioned.tile 0).sup.railsUp = true :=
  ⟨⟨takes (by decide +kernel), by decide +kernel, sized (by decide +kernel), by decide +kernel⟩,
    ⟨sized (by decide +kernel), by decide +kernel, by decide +kernel, by decide +kernel, by decide +kernel, by decide +kernel,
      waitMsg Ob.CNT_SNAPSHOT .snapshot, by decide +kernel⟩,
    ⟨sized (by decide +kernel), by decide +kernel, by decide +kernel, by decide +kernel, waitMsg Ob.REC_CLEAR (.publish [0]), by decide +kernel⟩,
    ⟨sized (by decide +kernel), by decide +kernel⟩, ⟨sized (by decide +kernel), by decide +kernel⟩, by decide +kernel⟩

/-- `sessioned` with two images, a live update at a step. -/
def updating (k : Nat) : State := { sessioned with fw := twoImages.fw, mgmt := { sessioned.mgmt with update := k } }
/-- An RMN-A8 in AUX, its firmware not up, with two images. -/
def unbooted (floor : Nat) : State := { State.reset with fw := { twoImages.fw with svnMin := floor } }
theorem witness_FirmwareAndOwner :
    ((updating 0).Takes owner7 ∧ (updating 0).Sized ∧ (updating 0).liveReady = true ∧ (updating 0).otherReady = true ∧
      (updating 0).ownerRights owner7 = true ∧ (updating 0).fw.svnMin < (updating 0).runningSlot.svn ∧ ((updating 0).sessionOf owner7).isSome = true) ∧
    (let s : State := { sessioned with lds := [] }
     s.Takes owner7 ∧ s.Sized ∧ s.ownerRights owner7 = true ∧ s.eraseLegal = true ∧ s.svc.eraseState ≠ 1) ∧
    ((erasing 3).inService = true ∧ (erasing 3).svc.eraseState = 1 ∧ (erasing 3).svc.eraseKind = 3 ∧ (erasing 3).Sized) ∧
    (∀ k ∈ [1, 2, 3, 4, 5], (updating k).mgmt.update = k ∧ (updating k).mgmt.active = some 0) ∧ (updating 3).Sized ∧
    ((unbooted 0).Sized ∧ (unbooted 0).dev.st = .aux ∧ (unbooted 0).mgmt.booted = false ∧ (unbooted 0).fw.nextBoot ≤ 1 ∧
      (unbooted 0).bootable 0 true = true ∧ (unbooted 4).bootable 0 true = false ∧ (unbooted 4).bootable 1 true = true ∧
      (unbooted 0).bootable 0 false = false ∧ (unbooted 0).bootable 1 false = false) :=
  ⟨⟨takes (by decide +kernel), sized (by decide +kernel), by decide +kernel⟩, ⟨takes (by decide +kernel), sized (by decide +kernel), by decide +kernel⟩,
    ⟨by decide +kernel, by decide +kernel, by decide +kernel, sized (by decide +kernel)⟩, by decide +kernel, sized (by decide +kernel),
    sized (by decide +kernel), by decide +kernel⟩

/-- `sessioned` in a device state. -/
def inState (st : DevState) : State := { sessioned with dev := { sessioned.dev with st := st } }
theorem witness_DrainBegins : (sessioned.Sized ∧ sessioned.inService = true ∧ (∃ t, t < sessioned.n ∧ sessioned.tileActive t = true) ∧
      (∀ t, t < sessioned.n → (sessioned.tile t).map.migs = []) ∧ sessioned.Takes owner7) ∧
    ((inState .safe).Sized ∧ (inState .safe).dev.st = .safe) ∧ (∀ st ∈ [.aux, .safe, .halted], (inState st).dev.st = st) :=
  ⟨⟨sized (by decide +kernel), by decide +kernel, ⟨0, by decide +kernel⟩, by decide +kernel, takes (by decide +kernel)⟩,
    ⟨sized (by decide +kernel), rfl⟩, by decide +kernel⟩

/-- `sessioned` in DRAIN with every rail up, the bring-up past its reconciliation. -/
def draining : State := { inState .drain with dev := { (inState .drain).dev with drainCause := 3 } }
/-- A DRAIN in which only the shadow record of tile 0 is still to be written. -/
def lastRecord : State := { draining with dev := { draining.dev with recordsDue := [0], flushDone := [0, 1] } }
/-- A DRAIN in which that record is due while tile 1 still flushes. -/
def recordDue : State := { draining with dev := { draining.dev with recordsDue := [0], flushDone := [0] } }
/-- SAFE with VIN in its window for 20 ms. -/
def safe (cause : Nat) : State := { inState .safe with
  dev := { (inState .safe).dev with drainCause := cause }
  sup := { sessioned.sup with vinSince := some 0 }
  tiles := (sessioned.modTime 0 (fun x => { x with tb := 20000000 })).tiles }
theorem witness_DrainEnds :
    (draining.Sized ∧ draining.dev.st = .drain ∧ draining.reconciled = true ∧ draining.flushOpen.contains 0 = true ∧ draining.flushOpen.contains 1 = true ∧
      (draining.tile 0).flushed = true ∧ draining.deltasToCome 0 = false) ∧
    (recordDue.Sized ∧ recordDue.dev.st = .drain ∧ recordDue.dev.recordsDue.contains 0 = true ∧ recordDue.mirrorOf 0 < recordDue.n ∧
      recordDue.recordToWrite (recordDue.mirrorOf 0) 0 = some (recordDue.shadowRecord 1 0 false) ∧ recordDue.flushOpen ≠ []) ∧
    (lastRecord.Sized ∧ lastRecord.dev.st = .drain ∧ lastRecord.dev.recordsDue = [0] ∧ lastRecord.flushOpen = [] ∧ lastRecord.sup.vauxGone = false) ∧
    ((safe 3).dev.st = .safe ∧ (safe 3).inputsReady = true ∧ (safe 3).dev.drainCause ≠ 8 ∧ (safe 3).dev.drainCause ≠ 2) ∧
    ((safe 2).Takes owner7 ∧ (safe 2).dev.st = .safe ∧ (safe 2).dev.drainCause = 2) :=
  ⟨⟨sized (by decide +kernel), by decide +kernel⟩, ⟨sized (by decide +kernel), by decide +kernel⟩, ⟨sized (by decide +kernel), by decide +kernel⟩,
    by decide +kernel, takes (by decide +kernel), by decide +kernel⟩

/-- The sequence at a step, the bank measured or not. -/
def atStep (k : Nat) (done : Bool) (attempts : Nat) : State := { inState .seq with
  sup := { sessioned.sup with step := some k, attempts := attempts, cap := 0, measured := done }
  dev := { (inState .seq).dev with mainUp := false, bringup := 0 } }
/-- The sequence at step 8 with the bank not measured, 650 ms after P4. -/
def atBank : State := { atStep 8 false 1 with tiles := (ready.modTime 0 (fun x => { x with tb := 650000000 })).tiles }
/-- The sequence waiting for a retry. -/
def retrying : State := { atStep 0 false 1 with sup := { (atStep 0 false 1).sup with retryAt := some 0 } }
theorem witness_PowerSequence : (inState .unpowered).dev.st = .unpowered ∧ ((inState .aux).dev.st = .aux ∧ (inState .aux).mgmt.booted = true) ∧
    (∀ k ∈ [0, 3, 4, 5, 7, 8, 9], (atStep k true 1).dev.st = .seq ∧ (atStep k true 1).sup.step = some k ∧ (atStep k true 1).sup.retryAt = none) ∧
    (atStep 9 true 1).Sized ∧ ((atStep 5 true 3).sup.attempts ≤ (atStep 5 true 3).cell Ob.SEQ_RETRIES 3 ∧
      ¬ (atStep 5 true 4).sup.attempts ≤ (atStep 5 true 4).cell Ob.SEQ_RETRIES 3) ∧
    (retrying.dev.st = .seq ∧ retrying.sup.retryAt = some 0 ∧ 0 ≤ retrying.pkgNow) ∧
    ((inState .halted).dev.st = .halted ∧ (inState .halted).mgmt.booted = true) ∧
    (atBank.Sized ∧ atBank.dev.st = .seq ∧ atBank.sup.step = some 8 ∧ atBank.sup.p8Done = false ∧
      atBank.sup.p4At + 650000000 ≤ atBank.pkgNow) := by
  refine ⟨rfl, by decide, by decide +kernel, sized (by decide +kernel), by decide +kernel, by decide +kernel, by decide, sized (by decide +kernel), ?_⟩
  decide +kernel

/-- `ready` with the scan at a sense point. -/
def sensing (k : Nat) : State := { ready with sup := { ready.sup with nextPoint := k } }
/-- `ready` with tile 0's margin above 6 percent since time 0, at 100 µs. -/
def marginal : State := (ready.modSup 0 (fun x => { x with above6 := some 0 })).modTime 0 (fun x => { x with tb := 100000 })
/-- `ready` at 100 µs, the VDDC command 800 mV. -/
def avs : State := (ready.modTime 0 (fun x => { x with tb := 100000 })).modSup 0 (fun x => { x with need := 850 })
theorem witness_SupplyIsWatched :
    (∀ k ∈ [0, 14, 19], ready.dev.st ≠ .drain ∧ (sensing k).sup.nextPoint < (sensing k).sup.sense.length ∧ railOf ready.n k ≠ .vin ∧
      railOf ready.n k ≠ .vhold) ∧ (sensing 0).inWindow (railOf ready.n 0) 800 = true ∧
    (ready.Sized ∧ ready.fenceStates = true ∧ (railOf ready.n ready.sup.nextPoint).persistence = some 0 ∧
      ready.inWindow (railOf ready.n ready.sup.nextPoint) 700 = false ∧ ready.tileActive 0 = true ∧ ready.sup.scanTiles = []) ∧
    (∀ k ∈ [3, 4, 5, 15], (sensing k).inService = true ∧ (sensing k).inWindow (railOf (sensing k).n k) 100 = false ∧
      (railOf (sensing k).n k = .vddp 0 ∨ railOf (sensing k).n k = .vdda 0 ∨ railOf (sensing k).n k = .vddc 0 ∨ railOf (sensing k).n k = .vddio)) ∧
    (∀ k ∈ [18, 19], (railOf (sensing k).n k = .refLo ∨ railOf (sensing k).n k = .refHi) ∧ (sensing k).inWindow (railOf (sensing k).n k) 100 = false) ∧
    (marginal.Sized ∧ (marginal.tile 0).sup.railsUp = true ∧ (marginal.tile 0).sup.above6 = some 0 ∧ 0 + 100000 ≤ marginal.now 0) ∧
    (avs.dev.mainUp = true ∧ avs.sup.avsLost = false ∧ avs.sup.vddcCmd ≠ 0 ∧ avs.sup.vddcAt + 100000 ≤ avs.pkgNow ∧
      min 900 (max 650 ((avs.activeTiles.map (fun t => (avs.tile t).sup.need)).foldl max 0 + 10)) ≠ avs.sup.vddcCmd) :=
  ⟨by decide +kernel, by decide +kernel, ⟨sized (by decide +kernel), by decide +kernel⟩, by decide +kernel, by decide +kernel,
    ⟨sized (by decide +kernel), by decide +kernel⟩, by decide +kernel⟩

/-- The bring-up after step `k`. -/
def risen (st : DevState) (k : Nat) : State := { inState st with dev := { (inState st).dev with bringup := k, memActive := false } }
/-- `ready` in DEGRADED with no condition left. -/
def recovered : State := { ready with dev := { ready.dev with st := .degraded } }
theorem witness_BringUpAndTime :
    ((∀ k ∈ [1, 2, 3], (risen .test k).dev.st = .test ∧ (risen .test k).dev.bringup = k) ∧ (risen .test 2).upTiles ≠ [] ∧
      (∀ t, t < (risen .test 3).n → ((risen .test 3).tile t).fence.st ≠ .fenced ∧ 0 < ((risen .test 3).tile t).ps.rings.length) ∧
      (∀ k ∈ [4, 5, 6, 7], (risen .rebuild k).dev.st = .rebuild ∧ (risen .rebuild k).dev.bringup = k ∧ (risen .rebuild k).mgmt.journal = none ∧
        (risen .rebuild k).svc.eraseState ≠ 3) ∧ ((risen .rebuild 6).setCell Ob.SHUTDOWN_STATE 1).cell Ob.SHUTDOWN_STATE 0 = 1) ∧
    (risen .test 3).Sized ∧ (risen .rebuild 6).Sized ∧
    (recovered.Sized ∧ recovered.dev.st = .degraded ∧ recovered.degradedCondition = false ∧ recovered.dev.st ≠ .unpowered) :=
  ⟨by decide +kernel, sized (by decide +kernel), sized (by decide +kernel), sized (by decide +kernel), by decide +kernel⟩

/-! ### The manual's worked examples -/

/-- The line of 03 and 07's worked example: segment 1,000,003, stripe 1,234, ω = 5, MOVES = 1,000,000. -/
theorem test_stripe_placement : stripeAddr 1000003 1234 = 2048007378 ∧ dieOfParity 2048007378 = 5 ∧
    (List.range 8).map (dieOfData 2048007378) = [2, 3, 4, 6, 7, 8, 9, 10] := by decide +kernel
theorem test_slot_of_a_line : memberSlot 1000003 5 1000000 1234 6 = 0x336293144 := by decide +kernel
/-- The span group of 09's worked example: data index 100 of tile 5 lies in group 114. -/
theorem test_span_group : State.reset.spanGroup 5 100 = 114 ∧ 114 % State.reset.n = 2 := by decide +kernel
/-- `DCR_CFG` of 13's worked example. -/
theorem test_dcr_cfg : Region.ofCfg 0xA1000100 = { on := true, shareable := false, sanitize := true, off := 1024, size := 256 } := by decide
/-- The drift rate at 110 °C (08) and at 96 °C (19: 593.9 units of 1/256, kept as 7,800 times the rate). -/
theorem test_drift_rate : driftRate 110 = 1024 * 7800 ∧ driftRate 96 / 780 = 5939 := by decide +kernel
/-- The clamp of 05's worked example: E_hold 0.30 J, which is 3.75 mF. -/
theorem test_energy_clamp : ({ State.reset with sup := { State.reset.sup with cap := 375 * 10 ^ 8 } } : State).energyClamp = 442368 := by decide +kernel
/-- The bank of 14's worked example: Δt 24.48 ms and a step of 9 mV give 18 mΩ and 0.97 × 6.12 mF. -/
theorem test_holdup_measured : (match exec (.holdupMeasured 24480000 9000) { atBank with part := .a8 } with
    | .next u => (u.sup.esr, u.sup.cap / 10 ^ 7)
    | _ => (0, 0)) = (18, 5936) := by decide +kernel

/-- An RMN-A8 in READY with a mailbox at port 0 and `CONFIG_GENERATION` 17. -/
def managed : State := { { ready with part := .a8, tiles := (List.range 8).map (Tile.reset 8) }.setCell Ob.CONFIG_GENERATION 17 with parts := [], lds := [] }
/-- The request of 15's worked example, with `v` for `PATROL_INTERVAL`. -/
def stageAndCommit (v : Nat) : List Nat :=
  [0x00, 0x01, 0x01, 0x01, 0x42, 0x00, 0x03, 0x00, 0x02, 0x01, 0x70, 0x40, 0x01, 0x00, 0x00, 0x00, 0x30, 0x00, 0x00, 0x00,
   0x02, 0x02, 0x10, 0x43, 0x01, 0x00, 0x00, 0x00, v, 0x00, 0x00, 0x00, 0x02, 0x01, 0x00, 0x1F, 0x04, 0x00, 0x00, 0x00, 0x11, 0x00, 0x00, 0x00]
theorem test_stage_and_commit : (match exec (.staebExchange 0 0 (stageAndCommit 24)) managed with
    | .next u => u.out
    | _ => []) = [Response.mailbox 0 0 0xC000 0
      [0x00, 0x01, 0x02, 0x01, 0x42, 0x00, 0x03, 0x00, 0x00, 0x01, 0x70, 0x40, 0x00, 0x00, 0x05, 0x00, 0x00, 0x02, 0x10, 0x43, 0x00, 0x00, 0x05, 0x00,
       0x00, 0x01, 0x00, 0x1F, 0x08, 0x00, 0x05, 0x00, 0x00, 0x00, 0x00, 0x00, 0x12, 0x00, 0x00, 0x00]] := by decide +kernel
/-- With 100 the second write is out of range and the COMMIT is not run; the set still holds 48. -/
theorem test_stage_out_of_range : (match exec (.staebExchange 0 0 (stageAndCommit 100)) managed with
    | .next u => u.out.map (fun r => match r with
        | .mailbox _ _ _ _ b => [b.getD 16 9, b.getD 24 9]
        | _ => []) ++ [u.mgmt.sets.map (fun x => x.items.length)]
    | _ => []) = [[4, 0xFF], [1]] := by decide +kernel
/-- The reservations of 12's worked example, with `v` for class 32: tile 4 would carry more than 8,570 MB/s at 20,000, not at 13,000. -/
def reservations (v : Nat) : Items :=
  sortItems [(Ob.inst Ob.CLASS_WR_RESERVE 0, 17500), (Ob.inst Ob.CLASS_WR_RESERVE 16, 24000), (Ob.inst Ob.CLASS_TILES 32, 0xF0),
    (Ob.inst Ob.CLASS_WR_RESERVE 32, v)]
/-- `managed` with every port at 64 GT/s, x16. -/
def wide : State := { managed with ports := List.replicate 8 { Port.reset with up := true, cxlMem := true, rate := 5, width := 16, flit := 2 } }
theorem test_reservations : (wide.validate (reservations 20000)).map (fun e => (e.code, e.key)) = some (Err.budget, Ob.inst Ob.CLASS_WR_RESERVE 32) ∧
    wide.validate (reservations 13000) = none := by decide +kernel

/-! ### Well-formedness: each check refuses an ill-formed command -/

theorem test_wf_tile : Instr.wf .a2 (.ringSilence 1) = true ∧ Instr.wf .a2 (.ringSilence 2) = false := by decide
theorem test_wf_port : Instr.wf .a4 (.memInv 3 0 0) = true ∧ Instr.wf .a4 (.memInv 4 0 0) = false := by decide
theorem test_wf_session_port : Instr.wf .a2 (.spdmSessionEstablished 1 false none) = true ∧
    Instr.wf .a2 (.spdmSessionEstablished 1 false (some 2)) = false := by decide
theorem test_wf_ld : Instr.wf .a8 (.identify 0 15) = true ∧ Instr.wf .a8 (.identify 0 16) = false ∧ Instr.wf .a8 (.identify 0 0xFFFF) = true := by decide
theorem test_wf_die_and_bank : Instr.wf .a8 (.hotBank 7 15 31) = true ∧ Instr.wf .a8 (.hotBank 7 16 31) = false ∧
    Instr.wf .a8 (.hotBank 7 15 32) = false := by decide
theorem test_wf_object : Instr.wf .a8 (.readStaged fm 0xFFFF 0xFF) = true ∧ Instr.wf .a8 (.readStaged fm 0x10000 0) = false ∧
    Instr.wf .a8 (.readStaged fm 0 0x100) = false := by decide
theorem test_wf_requester : Instr.wf .a8 (.scrubAbort { transport := 5, src := 0 } 1) = false ∧
    Instr.wf .a8 (.scrubAbort { transport := 0, src := 0 } 1) = false := by decide
theorem test_wf_key_slot : Instr.wf .a8 (.keyErase fm 4095) = true ∧ Instr.wf .a8 (.keyErase fm 4096) = false := by decide
theorem test_wf_decoder : Instr.wf .a8 (.hdmDecoderUncommit 0 0 3) = true ∧ Instr.wf .a8 (.hdmDecoderUncommit 0 0 4) = false := by decide
theorem test_wf_segment : Instr.wf .a8 (.binding 0 1430527) = true ∧ Instr.wf .a8 (.binding 0 1430528) = false := by decide
theorem test_wf_recorder : Instr.wf .a8 (.recPublish 8) = true ∧ Instr.wf .a8 (.recPublish 9) = false := by decide
theorem test_wf_bytes : Instr.wf .a8 (.staebMessage fm [255]) = true ∧ Instr.wf .a8 (.staebMessage fm [256]) = false := by decide
theorem test_wf_image : Instr.wf .a8 (.transferFw 0 0
    { slot := 2, first := true, last := false, offset := 0, bytes := 1, signed := true, svn := 0, compat := true, version := 0 }) = false := by decide
theorem test_wf_region : Instr.wf .a8 (.setDcRegionConfiguration fm 0 0 0 region8) = true ∧
    Instr.wf .a8 (.setDcRegionConfiguration fm 0 0 0 { region8 with size := 2 ^ 14 }) = false := by decide

/-! ### The state after reset, and the table's words -/

/-- The worked example of chapter 08: choosing the reference of a read at 110 °C (R222 to R224). -/
theorem test_sense_reference : ageClass 200448 = 6 ∧ temperatureBand 112 = 5 ∧
    ((ready.modPat 0 (fun p => { p with drift := 3000000000 })).modMap 0 (fun m => m.setSeg 7 { m.seg 7 with age := 52560 })
      |>.tile 0).accessAge 7 = 200448 := by decide +kernel
/-- `Q_STATUS` in RUN with three words in the queue (R314): STATE 1 at bit 24, FRAME 3 at bit 9, WORDS 3. -/
theorem test_queue_window : ((ready.modQueue 0 0 (fun x => { x with st := 1, frame := [1, 2, 3] })).windowRead 0 0 8) =
    2 ^ 24 + 3 * 2 ^ 9 + 3 := by decide +kernel
/-- R447 with the ticks of the worked example of chapter 16: of ten ticks of an idle channel a line read takes 7, the others are starved. -/
theorem test_slots : (let u := ((ready.transfer 1 6 1 7).countSlots 1 6 10)
    [u.counter 0x560, u.counter 0x561, u.counter 0x566]) = [10, 7, 3] := by decide +kernel
theorem test_reset_stores : Memory.wf State.reset = true ∧ Memory.wf ready = true := by decide +kernel
theorem test_no_row_has_a_word : decodeTableWord 8 0 = none := rfl
end Sys2Proof.Tests
end

section
/-! Proofs of 01_architecture.md: laws of a changed tile, of lists of changes, of the ring and of the shared events that the statements of this family
rest on. -/
namespace Sys2Proof.Machine
open Sys2Proof

/-! ### Sizes -/

theorem State.n_le_eight (s : State) : s.n ≤ 8 := by unfold State.n; cases s.part <;> decide
theorem State.two_le_n (s : State) : 2 ≤ s.n := by unfold State.n; cases s.part <;> decide
theorem State.Sized.tile_recorder {s : State} (hs : s.Sized) {t : Nat} (ht : t < s.n) : t < s.recs.length := by
  have := s.n_le_eight
  have := hs.recs
  omega
theorem State.Sized.package_recorder {s : State} (hs : s.Sized) : 8 < s.recs.length := by
  have := hs.recs
  omega
theorem State.Sized.tile_listed {s : State} (hs : s.Sized) {t : Nat} (ht : t < s.n) : t < s.tiles.length := Nat.lt_of_lt_of_le ht hs.tiles
theorem State.mem_tileNumbers (s : State) (t : Nat) : t ∈ s.tileNumbers ↔ t < s.n := List.mem_range
/-- The ring closes on itself (R22). -/
theorem State.nextTile_lt (s : State) (t : Nat) : (t + 1) % s.n < s.n := Nat.mod_lt _ (by have := s.two_le_n; omega)

/-! ### A changed tile -/

/-- What a change of a tile leaves of the tile, it leaves of every tile. -/
theorem State.modTile_keeps {β : Type} (g : Tile → β) (s : State) (t u : Nat) (f : Tile → Tile) (h : ∀ x, g (f x) = g x) :
    g ((s.modTile t f).tile u) = g (s.tile u) := by
  by_cases htu : t = u
  · subst htu
    by_cases hl : t < s.tiles.length
    · rw [State.tile_modTile_same _ _ _ hl, h]
    · have hnone : (s.modTile t f).tile t = s.tile t := by
        unfold State.tile State.modTile
        simp [List.getD, getElem?_modAt_same, List.getElem?_eq_none (Nat.le_of_not_lt hl)]
      rw [hnone]
  · rw [State.tile_modTile_ne _ _ _ _ htu]
theorem State.modTile_tileActive (s : State) (t u : Nat) (f : Tile → Tile) (h : ∀ x, (f x).fence.st = x.fence.st) :
    (s.modTile t f).tileActive u = s.tileActive u := by
  have hk := State.modTile_keeps (fun x => x.fence.st) s t u f h
  simp only [State.tileActive, hk]
theorem State.modTile_now (s : State) (t u : Nat) (f : Tile → Tile) (h : ∀ x, (f x).time.tb = x.time.tb) :
    (s.modTile t f).now u = s.now u := State.modTile_keeps (fun x => x.time.tb) s t u f h
/-- A change made of each tile of the part by its own number. -/
theorem State.tile_each_tileNumbers (s : State) (F : State → Nat → State) (f : Nat → Tile → Tile) (hlen : s.n ≤ s.tiles.length)
    (hF : ∀ s t, ∃ g, F s t = s.modTile t g ∧ g (s.tile t) = f t (s.tile t)) (u : Nat) (hu : u < s.n) :
    (s.each s.tileNumbers F).tile u = f u (s.tile u) := by
  rw [State.tile_each s s.tileNumbers F f List.nodup_range (fun t ht => Nat.lt_of_lt_of_le ((s.mem_tileNumbers t).1 ht) hlen),
    if_pos ((s.mem_tileNumbers u).2 hu)]
  · intro s t u hne
    obtain ⟨g, hg, -⟩ := hF s t
    rw [hg, State.tile_modTile_ne _ _ _ _ (Ne.symm hne)]
  · intro s t ht
    obtain ⟨g, hg, hgf⟩ := hF s t
    rw [hg, State.tile_modTile_same _ _ _ ht, hgf]
  · intro s t
    obtain ⟨g, hg, -⟩ := hF s t
    rw [hg, State.modTile_tiles_length]

/-! ### Conditions of DEGRADED (R476) -/

theorem State.degradedCondition_of_linkDown (s : State) (t : Nat) (ht : t < s.n) (ha : s.tileActive t = true)
    (hl : (s.tile t).time.linkE = false) : s.degradedCondition = true := by
  have hany : s.anyLinkDown = true := List.any_eq_true.2 ⟨t, (s.mem_tileNumbers t).2 ht, by simp [ha, hl]⟩
  simp [State.degradedCondition, hany]
theorem State.degrade_st_of_ready (s : State) (hr : s.dev.st = .ready) (hd : s.degradedCondition = true) : s.degrade.dev.st = .degraded := by
  simp [State.degrade_dev, hr, hd]

/-! ### Ring links (R24) -/

theorem exec_ringLinkRetrain (link e w : Nat) (s : State) (h : link < s.n) : exec (.ringLinkRetrain link e w) s =
    .next ((((s.tcount link Cn.RING_REPLAYS e).tcount ((link + 1) % s.n) Cn.RING_REPLAYS w).tev
      link Ev.RING_LINK_RETRAIN 0xFF 0 []).tev ((link + 1) % s.n) Ev.RING_LINK_RETRAIN 0xFF 0 []) :=
  congrArg Host.Outcome.next (if_pos h)
theorem ringLinkRetrain_no_fault (link e w : Nat) (s : State) (hl : link < s.n) (hs : s.Sized) :
    ∃ t, exec (.ringLinkRetrain link e w) s = .next t ∧
      t.dev = s.dev ∧ t.tiles = s.tiles ∧ t.ports = s.ports ∧ t.obj = s.obj ∧ t.out = s.out ∧
      t.tileReports link Ev.RING_LINK_RETRAIN ∧ t.tileReports ((link + 1) % s.n) Ev.RING_LINK_RETRAIN := by
  refine ⟨_, exec_ringLinkRetrain link e w s hl, by simp, by simp, by simp, by simp, by simp, ?_, ?_⟩
  · exact State.reports_tev _ _ _ _ _ _ _ _ (State.tev_reports _ _ _ _ _ _ (by simpa using hs.tile_recorder hl))
  · exact State.tev_reports _ _ _ _ _ _ (by simpa using hs.tile_recorder (s.nextTile_lt link))

/-- The replays of R178 are counted, and link `link` goes out of use at both its tiles. -/
def State.linkCut (s : State) (link : Nat) : State :=
  ((s.each s.tileNumbers (fun s' d => s'.tcount d Cn.LINE_ORDER_REPLAYS (s.outstandingOver link d))).modTime link
    (fun x => { x with linkE := false })).modTime ((link + 1) % s.n) (fun x => { x with linkW := false })
theorem exec_ringLinkDown (link : Nat) (s : State) (h : link < s.n) : exec (.ringLinkDown link) s =
    .next (((s.linkCut link).tev link Ev.RING_LINK_DOWN 0xFF 0 []).tev ((link + 1) % s.n) Ev.RING_LINK_DOWN 0xFF 0 []).degrade :=
  congrArg Host.Outcome.next (if_pos h)
/-- What neither the replay counts nor a change of tiles touches. -/
theorem State.linkCut_keeps {β : Type} (g : State → β) (s : State) (link : Nat) (hc : ∀ s t num k, g (State.tcount s t num k) = g s)
    (hm : ∀ s t f, g (State.modTile s t f) = g s) : g (s.linkCut link) = g s := by
  unfold State.linkCut
  rw [State.modTime_eq, State.modTime_eq, hm, hm]
  exact State.each_keeps g _ _ _ (fun _ _ => hc ..)
theorem State.linkCut_dev (s : State) (link : Nat) : (s.linkCut link).dev = s.dev := s.linkCut_keeps State.dev link (by simp) (by simp)
theorem State.linkCut_ports (s : State) (link : Nat) : (s.linkCut link).ports = s.ports := s.linkCut_keeps State.ports link (by simp) (by simp)
theorem State.linkCut_keys (s : State) (link : Nat) : (s.linkCut link).keys = s.keys := s.linkCut_keeps State.keys link (by simp) (by simp)
theorem State.linkCut_out (s : State) (link : Nat) : (s.linkCut link).out = s.out := s.linkCut_keeps State.out link (by simp) (by simp)
theorem State.linkCut_n (s : State) (link : Nat) : (s.linkCut link).n = s.n := s.linkCut_keeps State.n link (by simp) (by simp)
theorem State.linkCut_tile_keeps {β : Type} (g : Tile → β) (s : State) (link u : Nat)
    (hE : ∀ x : Tile, g { x with time := { x.time with linkE := false } } = g x)
    (hW : ∀ x : Tile, g { x with time := { x.time with linkW := false } } = g x) : g ((s.linkCut link).tile u) = g (s.tile u) := by
  unfold State.linkCut
  rw [State.modTime_eq, State.modTime_eq, State.modTile_keeps g _ _ _ _ hW, State.modTile_keeps g _ _ _ _ hE]
  exact State.each_keeps (fun s => g (s.tile u)) _ _ _ (fun _ _ => by simp)
theorem State.linkCut_linkE (s : State) (link : Nat) (h : link < s.tiles.length) : ((s.linkCut link).tile link).time.linkE = false := by
  unfold State.linkCut
  rw [State.modTime_eq, State.modTime_eq]
  refine (State.modTile_keeps (fun x => x.time.linkE) _ _ _ _ ?_).trans ?_
  · exact fun _ => rfl
  rw [State.tile_modTile_same]
  rw [State.each_keeps (fun s => s.tiles.length) _ _ _ (fun _ _ => by simp)]
  exact h
theorem State.linkCut_linkW (s : State) (link : Nat) (h : (link + 1) % s.n < s.tiles.length) :
    ((s.linkCut link).tile ((link + 1) % s.n)).time.linkW = false := by
  unfold State.linkCut
  rw [State.modTime_eq, State.modTime_eq, State.tile_modTile_same]
  rw [State.modTile_tiles_length, State.each_keeps (fun s => s.tiles.length) _ _ _ (fun _ _ => by simp)]
  exact h
theorem State.linkCut_tileActive (s : State) (link u : Nat) : (s.linkCut link).tileActive u = s.tileActive u := by
  have hk := State.linkCut_tile_keeps (fun x => x.fence.st) s link u (fun _ => rfl) (fun _ => rfl)
  simp only [State.tileActive, hk]
theorem ringLinkDown_degrades (link : Nat) (s : State) (hl : link < s.n) (hs : s.Sized) (hr : s.dev.st = .ready) (ha : s.tileActive link = true) :
    ∃ t, exec (.ringLinkDown link) s = .next t ∧
      (t.tile link).time.linkE = false ∧ (t.tile ((link + 1) % s.n)).time.linkW = false ∧ t.dev.st = .degraded ∧
      t.ports = s.ports ∧ t.keys = s.keys ∧ t.out = s.out ∧ (∀ u, (t.tile u).med = (s.tile u).med ∧ (t.tile u).res = (s.tile u).res) := by
  have hE := s.linkCut_linkE link (hs.tile_listed hl)
  have hW := s.linkCut_linkW link (hs.tile_listed (s.nextTile_lt link))
  refine ⟨_, exec_ringLinkDown link s hl, by simpa using hE, by simpa using hW, ?_, by simpa using s.linkCut_ports link,
    by simpa using s.linkCut_keys link, by simpa using s.linkCut_out link, fun u => ⟨?_, ?_⟩⟩
  · apply State.degrade_st_of_ready
    · simpa [State.linkCut_dev] using hr
    · exact State.degradedCondition_of_linkDown _ link (by simpa [State.linkCut_n] using hl)
        (by simpa [State.linkCut_tileActive] using ha) (by simpa using hE)
  · simpa using State.linkCut_tile_keeps Tile.med s link u (fun _ => rfl) (fun _ => rfl)
  · simpa using State.linkCut_tile_keeps Tile.res s link u (fun _ => rfl) (fun _ => rfl)

/-- Settles O3: a retrain counts and records only; a failed link is cut at both tiles, which is itself a DEGRADED condition. -/
theorem ringLinks : Obligations.RingLinks := by
  unfold Obligations.RingLinks
  exact ⟨ringLinkRetrain_no_fault, ringLinkDown_degrades⟩

end Sys2Proof.Machine
end

section
/-! Proofs of 01_architecture.md: alignment markers, holdover and the timebase master (R32 to R34). -/
namespace Sys2Proof.Machine
open Sys2Proof

/-! ### The ring carries messages (R42) -/

@[simp] theorem State.ringSend_tiles (s : State) (a d k : Nat) : (s.ringSend a d k).tiles = s.tiles :=
  State.each_keeps State.tiles _ _ _ (fun _ _ => by simp)
@[simp] theorem State.ringSend_tile (s : State) (a d k u : Nat) : (s.ringSend a d k).tile u = s.tile u := by simp [State.tile]

/-! ### Alignment markers (R32, R34) -/

theorem TileTime.tb_le_marker (x : TileTime) (tbM : Nat) : x.tb ≤ (x.marker tbM).tb := by
  unfold TileTime.marker
  split
  · simp only []
    split <;> omega
  · exact Nat.le_max_left ..
theorem TileTime.marker_tb_of_aligned (x : TileTime) (tbM : Nat) (h : x.holdover = false) : (x.marker tbM).tb = max x.tb tbM := by
  simp [TileTime.marker, h]
/-- In holdover a marker slews a tile by at most one tick (R34). -/
theorem TileTime.marker_tb_of_holdover (x : TileTime) (tbM : Nat) (h : x.holdover = true) : (x.marker tbM).tb ≤ x.tb + 1 := by
  simp only [TileTime.marker, h, if_true]
  split <;> omega

/-- The tiles that take the markers of master `m` (R32). -/
def State.markedTiles (s : State) (m : Nat) : List Nat :=
  s.tileNumbers.filter (fun t => decide (t ≠ m) && decide ((s.tile t).fence.st ≠ .fenced))
/-- Every tile of `markedTiles` takes a marker of master `m` over the ring. -/
def State.marked (s : State) (m : Nat) : State :=
  s.each (s.markedTiles m) (fun s' t => (s'.modTime t (fun x => x.marker (s.now m))).ringSend m t ringMarker)
theorem exec_alignmentMarker (m : Nat) (s : State) (h : s.master = some m) : exec .alignmentMarker s = .next (s.marked m) := by
  simp [exec, execAlignmentMarker, h, State.marked, State.markedTiles]
theorem State.mem_markedTiles (s : State) (m u : Nat) : u ∈ s.markedTiles m ↔ u < s.n ∧ u ≠ m ∧ (s.tile u).fence.st ≠ .fenced := by
  simp [State.markedTiles, State.mem_tileNumbers]
theorem State.marked_tile (s : State) (m : Nat) (hs : s.Sized) (u : Nat) : (s.marked m).tile u =
    if u ∈ s.markedTiles m then { s.tile u with time := (s.tile u).time.marker (s.now m) } else s.tile u := by
  unfold State.marked
  refine State.tile_each s (s.markedTiles m) _ (fun _ x => { x with time := x.time.marker (s.now m) }) ?_ ?_ ?_ ?_ ?_ u
  · exact List.nodup_range.filter _
  · intro t ht
    exact hs.tile_listed ((s.mem_markedTiles m t).1 ht).1
  · intro s' t u hne
    simp [State.tile_modTile_ne _ _ _ _ (Ne.symm hne)]
  · intro s' t ht
    simp [State.tile_modTile_same _ _ _ ht]
  · intro s' t
    simp
theorem State.marked_now_of_mem (s : State) (m u : Nat) (hs : s.Sized) (h : u ∈ s.markedTiles m) :
    (s.marked m).now u = ((s.tile u).time.marker (s.now m)).tb := by
  rw [State.now, s.marked_tile m hs, if_pos h]
theorem State.marked_now_of_not_mem (s : State) (m u : Nat) (hs : s.Sized) (h : u ∉ s.markedTiles m) : (s.marked m).now u = s.now u := by
  rw [State.now, s.marked_tile m hs, if_neg h, State.now]
theorem alignmentMarker_aligns (m : Nat) (s : State) (hm : s.master = some m) (hs : s.Sized) :
    ∃ t, exec .alignmentMarker s = .next t ∧ t.now m = s.now m ∧ (∀ u, s.now u ≤ t.now u) ∧
      (∀ u < s.n, u ≠ m → (s.tile u).fence.st ≠ .fenced → (s.tile u).time.holdover = false → t.now u = max (s.now u) (s.now m)) ∧
      (∀ u < s.n, (s.tile u).time.holdover = true → t.now u ≤ s.now u + 1) := by
  refine ⟨_, exec_alignmentMarker m s hm, ?_, fun u => ?_, fun u hu hne hf hh => ?_, fun u _ hh => ?_⟩
  · exact s.marked_now_of_not_mem m m hs (fun h => ((s.mem_markedTiles m m).1 h).2.1 rfl)
  · by_cases h : u ∈ s.markedTiles m
    · rw [s.marked_now_of_mem m u hs h]
      exact TileTime.tb_le_marker _ _
    · exact (s.marked_now_of_not_mem m u hs h).ge
  · rw [s.marked_now_of_mem m u hs ((s.mem_markedTiles m u).2 ⟨hu, hne, hf⟩), TileTime.marker_tb_of_aligned _ _ hh]
    rfl
  · by_cases h : u ∈ s.markedTiles m
    · rw [s.marked_now_of_mem m u hs h]
      exact TileTime.marker_tb_of_holdover _ _ hh
    · rw [s.marked_now_of_not_mem m u hs h]
      exact Nat.le_succ _

/-! ### Holdover (R34) -/

theorem State.syncLost_iff (s : State) (t : Nat) :
    s.syncLost t = true ↔ (s.tile t).time.lastSync + 64000 ≤ s.now t ∧ (t < 2 → s.refOf t = false) := by
  simp only [State.syncLost, Bool.and_eq_true, decide_eq_true_eq, Bool.not_eq_true', Bool.and_eq_false_imp]
theorem timebaseHoldover_enters (u : Nat) (s : State) (hu : u < s.n) (hs : s.Sized) (hl : (s.tile u).time.lastSync + 64000 ≤ s.now u)
    (hr : u < 2 → s.refOf u = false) (hh : (s.tile u).time.holdover = false) :
    ∃ t, exec (.timebaseHoldover u) s = .next t ∧
      (t.tile u).time.holdover = true ∧ t.now u = s.now u ∧ t.tileReports u Ev.TIMEBASE_HOLDOVER := by
  have hguard : u < s.n ∧ s.syncLost u = true ∧ (s.tile u).time.holdover = false := ⟨hu, (s.syncLost_iff u).2 ⟨hl, hr⟩, hh⟩
  refine ⟨_, congrArg Host.Outcome.next (if_pos hguard), ?_, ?_, ?_⟩
  · simp [State.tile_modTile_same _ _ _ (hs.tile_listed hu)]
  · simp [State.modTile_now]
  · exact State.tev_reports _ _ _ _ _ _ (by simpa using hs.tile_recorder hu)
theorem exec_timebaseRealigned (u m : Nat) (s : State) (hm : s.master = some m)
    (hg : u < s.n ∧ (s.tile u).time.holdover = true ∧ s.syncLost u = false ∧ s.now u ≤ s.now m + 4 ∧ s.now m ≤ s.now u + 4) :
    exec (.timebaseRealigned u) s = .next ((s.modTime u (fun x => { x with
      holdover := false, locked := true, tb := max x.tb (s.now m) })).tev u Ev.TIMEBASE_REALIGNED 0xFF 0 []) := by
  simp only [exec, execTimebaseRealigned, hm, if_pos hg]
theorem timebaseRealigned_leaves (u m : Nat) (s : State) (hm : s.master = some m) (hu : u < s.n) (hs : s.Sized)
    (hh : (s.tile u).time.holdover = true) (hl : s.now u < (s.tile u).time.lastSync + 64000) (hle : s.now u ≤ s.now m)
    (hnear : s.now m ≤ s.now u + 4) :
    ∃ t, exec (.timebaseRealigned u) s = .next t ∧ (t.tile u).time.holdover = false ∧ t.now u = s.now m ∧
      t.tileReports u Ev.TIMEBASE_REALIGNED := by
  have hsync : s.syncLost u = false := Bool.eq_false_iff.2 (fun h => absurd ((s.syncLost_iff u).1 h).1 (by omega))
  have hguard : u < s.n ∧ (s.tile u).time.holdover = true ∧ s.syncLost u = false ∧ s.now u ≤ s.now m + 4 ∧ s.now m ≤ s.now u + 4 :=
    ⟨hu, hh, hsync, by omega, hnear⟩
  refine ⟨_, exec_timebaseRealigned u m s hm hguard, ?_, ?_, ?_⟩
  · simp [State.tile_modTile_same _ _ _ (hs.tile_listed hu)]
  · simp only [State.modTime_eq, State.tev_now]
    rw [State.now, State.tile_modTile_same _ _ _ (hs.tile_listed hu)]
    exact Nat.max_eq_right hle
  · exact State.tev_reports _ _ _ _ _ _ (by simpa using hs.tile_recorder hu)

/-! ### The timebase master (R33) -/

/-- A reference clock is lost at the pins: 0 REFCLK_K0, 1 REFCLK_K1. -/
def State.withoutRef (s : State) (k : Nat) : State := if k = 0 then { s with refK0 := false } else if k = 1 then { s with refK1 := false } else s
/-- The master's reference is lost: what `moveMaster` finds. -/
def State.unlocked (s : State) (k m : Nat) : State := (s.withoutRef k).modTime m (fun x => { x with locked := false })
theorem exec_refclkLost_of_lost (k m : Nat) (s : State) (hm : s.master = some m) (h : (s.withoutRef k).refOf m = false) :
    exec (.refclkLost k) s = .next ((s.unlocked k m).moveMaster) := by
  have hlost : ¬ (s.withoutRef k).refOf m = true := by simp [h]
  simp only [exec, execRefclkLost]
  split
  next hnone => exact absurd (hm.symm.trans hnone) (by simp)
  next m' hsome =>
    obtain rfl : m = m' := Option.some.inj (hm.symm.trans hsome)
    exact congrArg Host.Outcome.next (if_neg hlost)
theorem State.withoutRef_tiles (s : State) (k : Nat) : (s.withoutRef k).tiles = s.tiles := by
  unfold State.withoutRef
  (repeat' split) <;> rfl
theorem State.withoutRef_master (s : State) (k : Nat) : (s.withoutRef k).master = s.master := by
  unfold State.withoutRef
  (repeat' split) <;> rfl
theorem State.withoutRef_now (s : State) (k u : Nat) : (s.withoutRef k).now u = s.now u := by simp [State.now, State.tile, State.withoutRef_tiles]
theorem State.withoutRef_tileActive (s : State) (k u : Nat) : (s.withoutRef k).tileActive u = s.tileActive u := by
  simp [State.tileActive, State.tile, State.withoutRef_tiles]
theorem State.unlocked_now (s : State) (k m u : Nat) : (s.unlocked k m).now u = s.now u := by
  rw [State.unlocked, State.modTime_eq, State.modTile_now]
  · exact s.withoutRef_now k u
  · exact fun _ => rfl
theorem State.unlocked_tileActive (s : State) (k m u : Nat) : (s.unlocked k m).tileActive u = s.tileActive u := by
  rw [State.unlocked, State.modTime_eq, State.modTile_tileActive]
  · exact s.withoutRef_tileActive k u
  · exact fun _ => rfl
/-- Where the master goes when its reference is lost (R33, assumption 17). -/
theorem State.moveMaster_master (s : State) (m : Nat) (h : s.master = some m) :
    s.moveMaster.master = if s.refOf (1 - m) = true ∧ s.tileActive (1 - m) = true then some (1 - m) else none := by
  simp only [State.moveMaster, h]
  split <;> simp
theorem State.moveMaster_now (s : State) (u : Nat) : s.moveMaster.now u = s.now u := by
  unfold State.moveMaster
  split
  · rfl
  · simp only []
    split
    · rw [State.pev_now, State.modTime_eq, State.modTile_now]
      · rfl
      · exact fun _ => rfl
    · rw [State.pev_now]
      rfl
theorem State.moveMaster_refK0 (s : State) : s.moveMaster.refK0 = s.refK0 := by
  unfold State.moveMaster
  split
  · rfl
  · simp only []
    split <;> simp
theorem State.moveMaster_reports (s : State) (m : Nat) (h : s.master = some m) (hr : 8 < s.recs.length) :
    s.moveMaster.pkgReports Ev.TIMEBASE_MASTER_MOVED := by
  simp only [State.moveMaster, h]
  split
  · exact State.pev_reports _ _ _ _ (by simpa using hr)
  · exact State.pev_reports _ _ _ _ hr

theorem refclkLost_moves_master (s : State) (hp : s.part ≠ .a2) (hm : s.master = some 0) (hs : s.Sized) :
    ∃ t, exec (.refclkLost 0) s = .next t ∧ t.refK0 = false ∧
      t.master = (if s.refK1 = true ∧ s.tileActive 1 = true then some 1 else none) ∧ (∀ u, t.now u = s.now u) ∧
      t.pkgReports Ev.TIMEBASE_MASTER_MOVED := by
  have hu : (s.unlocked 0 0).master = some 0 := (s.withoutRef_master 0).trans hm
  have href : (s.unlocked 0 0).refOf 1 = s.refK1 := by simp [State.refOf, State.unlocked, State.withoutRef, hp]
  refine ⟨_, exec_refclkLost_of_lost 0 0 s hm (by simp [State.refOf, State.withoutRef]), ?_, ?_, fun u => ?_, ?_⟩
  · exact State.moveMaster_refK0 _
  · exact (State.moveMaster_master (s.unlocked 0 0) 0 hu).trans (by rw [Nat.sub_zero, href, s.unlocked_tileActive])
  · exact (State.moveMaster_now (s.unlocked 0 0) u).trans (s.unlocked_now 0 0 u)
  · exact State.moveMaster_reports (s.unlocked 0 0) 0 hu hs.package_recorder
/-- Tiles 0 and 1 of an RMN-A2 share one reference, so that its loss leaves no master (R32). -/
theorem refclkLost_leaves_none (m : Nat) (s : State) (hp : s.part = .a2) (hm : s.master = some m) :
    ∃ t, exec (.refclkLost 0) s = .next t ∧ t.master = none ∧ (∀ u, t.now u = s.now u) := by
  have hu : (s.unlocked 0 m).master = some m := (s.withoutRef_master 0).trans hm
  have href : ∀ u, (s.unlocked 0 m).refOf u = false := fun u => by simp [State.refOf, State.unlocked, State.withoutRef, hp]
  refine ⟨_, exec_refclkLost_of_lost 0 m s hm (href m), ?_, fun u => ?_⟩
  · exact (State.moveMaster_master (s.unlocked 0 m) m hu).trans (by simp [href])
  · exact (State.moveMaster_now (s.unlocked 0 m) u).trans (s.unlocked_now 0 m u)

theorem State.lockToReference_master (s : State) (t : Nat) : (s.lockToReference t).master = s.master := by
  unfold State.lockToReference
  simp only []
  split <;> simp
theorem State.lockToReference_now (s : State) (t u : Nat) : (s.lockToReference t).now u = s.now u := by
  unfold State.lockToReference
  simp only []
  split <;> simp [State.modTile_now]
theorem State.lockToReference_recs_length (s : State) (t : Nat) : (s.lockToReference t).recs.length = s.recs.length := by
  unfold State.lockToReference
  simp only []
  split <;> simp
theorem State.lockToReference_holdover (s : State) (t : Nat) (h : t < s.tiles.length) : ((s.lockToReference t).tile t).time.holdover = false := by
  unfold State.lockToReference
  simp only []
  split <;> simp [State.tile_modTile_same _ _ _ h]

/-- The reference that tile 0 or 1 locks to is back (R32). -/
def State.withRef (s : State) (t : Nat) : State := if t = 0 ∨ s.part = .a2 then { s with refK0 := true } else { s with refK1 := true }
theorem State.withRef_tiles (s : State) (t : Nat) : (s.withRef t).tiles = s.tiles := by unfold State.withRef; split <;> rfl
theorem State.withRef_recs (s : State) (t : Nat) : (s.withRef t).recs = s.recs := by unfold State.withRef; split <;> rfl
theorem exec_refclkLocked_of_none (t : Nat) (s : State) (ht : t < 2) (hm : s.master = none) (ha : s.tileActive t = true) :
    exec (.refclkLocked t) s = .next ((({ s.withRef t with master := some t }).lockToReference t).pev Ev.TIMEBASE_MASTER_MOVED t []) :=
  congrArg Host.Outcome.next ((if_pos ht).trans (if_pos ⟨hm, ha⟩))
theorem refclkLocked_becomes_master (u : Nat) (s : State) (hu : u < 2) (hm : s.master = none) (ha : s.tileActive u = true) (hs : s.Sized) :
    ∃ t, exec (.refclkLocked u) s = .next t ∧
      t.master = some u ∧ (t.tile u).time.holdover = false ∧ (∀ v, t.now v = s.now v) ∧ t.pkgReports Ev.TIMEBASE_MASTER_MOVED := by
  refine ⟨_, exec_refclkLocked_of_none u s hu hm ha, ?_, ?_, fun v => ?_, ?_⟩
  · simp [State.lockToReference_master]
  · rw [State.pev_tile]
    refine State.lockToReference_holdover _ u ?_
    simpa [State.withRef_tiles] using hs.tile_listed (Nat.lt_of_lt_of_le hu s.two_le_n)
  · rw [State.pev_now, State.lockToReference_now]
    simp [State.now, State.tile, State.withRef_tiles]
  · refine State.pev_reports _ _ _ _ ?_
    rw [State.lockToReference_recs_length]
    simpa [State.withRef_recs] using hs.package_recorder

/-- Settles O5: markers, holdover and the move of the master, each by what its update makes of a timebase. -/
theorem timebases : Obligations.Timebases := by
  unfold Obligations.Timebases
  exact ⟨alignmentMarker_aligns, timebaseHoldover_enters, timebaseRealigned_leaves, refclkLost_moves_master,
    fun m s hp hm _ => refclkLost_leaves_none m s hp hm, refclkLocked_becomes_master⟩

end Sys2Proof.Machine
end

section
/-! Proofs of 01_architecture.md: the management cores, the port numbers and the state after reset (R18, R38, R40, R518). -/
namespace Sys2Proof.Machine
open Sys2Proof

/-! ### What the end of the sessions leaves (R38, R98, R100, R286) -/

/-- What no update of a tile, a cell, a counter or a recorder touches, the discard of a flip mask keeps. -/
theorem State.discardFlip_keeps {β : Type} (g : State → β) (s : State) (t c : Nat) (hm : ∀ s t f, g (State.modTile s t f) = g s)
    (hr : ∀ s a b c, g (State.raise s a b c) = g s) (he : ∀ s t num cls v qs, g (State.tev s t num cls v qs) = g s) :
    g (s.discardFlip t c) = g s := by
  unfold State.discardFlip
  split
  · rw [he, hr, State.modMed_eq, hm]
  · rfl
@[simp] theorem State.discardFlip_dev (s : State) (t c : Nat) : (s.discardFlip t c).dev = s.dev :=
  s.discardFlip_keeps State.dev t c (by simp) (by simp) (by simp)
@[simp] theorem State.discardFlip_mgmt (s : State) (t c : Nat) : (s.discardFlip t c).mgmt = s.mgmt :=
  s.discardFlip_keeps State.mgmt t c (by simp) (by simp) (by simp)
@[simp] theorem State.discardFlip_recs_length (s : State) (t c : Nat) : (s.discardFlip t c).recs.length = s.recs.length :=
  s.discardFlip_keeps (fun s => s.recs.length) t c (by simp) (by simp) (by simp)
theorem State.permitTest_keeps {β : Type} (g : State → β) (s : State) (on : Bool) (hv : ∀ s svc, g { s with svc := svc } = g s)
    (hd : ∀ s t c, g (State.discardFlip s t c) = g s) : g (s.permitTest on) = g s := by
  unfold State.permitTest
  simp only []
  split
  · rw [State.each_keeps g _ _ _ (fun _ _ => hd ..), hv]
  · rw [hv]
theorem State.relock_keeps {β : Type} (g : State → β) (s : State) (c : Nat) (hv : ∀ s svc, g { s with svc := svc } = g s)
    (ho : ∀ s obj, g { s with obj := obj } = g s) (hd : ∀ s t c, g (State.discardFlip s t c) = g s)
    (he : ∀ s code v qs, g (State.pev s code v qs) = g s) : g (s.relock c) = g s := by
  unfold State.relock
  split
  · rfl
  · rw [he, State.permitTest_keeps g _ _ hv hd]
    exact (ho { s with svc := { s.svc with unlock := none } } _).trans (hv s _)
@[simp] theorem State.relock_dev (s : State) (c : Nat) : (s.relock c).dev = s.dev :=
  s.relock_keeps State.dev c (fun _ _ => rfl) (fun _ _ => rfl) (by simp) (by simp)
@[simp] theorem State.relock_mgmt (s : State) (c : Nat) : (s.relock c).mgmt = s.mgmt :=
  s.relock_keeps State.mgmt c (fun _ _ => rfl) (fun _ _ => rfl) (by simp) (by simp)
@[simp] theorem State.relock_recs_length (s : State) (c : Nat) : (s.relock c).recs.length = s.recs.length :=
  s.relock_keeps (fun s => s.recs.length) c (fun _ _ => rfl) (fun _ _ => rfl) (by simp) (by simp)
theorem State.endSessions_mgmt (s : State) (c : Nat) : (s.endSessions c).mgmt = { s.mgmt with sessions := [], sets := [], messages := [] } :=
  State.relock_mgmt _ _
theorem State.endSessions_dev (s : State) (c : Nat) : (s.endSessions c).dev = s.dev := State.relock_dev _ _
theorem State.endSessions_recs_length (s : State) (c : Nat) : (s.endSessions c).recs.length = s.recs.length := State.relock_recs_length _ _

/-! ### The management cores (R38, R40, R518) -/

theorem State.takeOver_mgmt (s : State) (o : Nat) : (s.takeOver o).mgmt = { s.mgmt with
    sessions := [], sets := [], messages := [], active := some o, standbySync := false,
    takeoverCount := satAdd 65535 s.mgmt.takeoverCount 1 } := by
  simp [State.takeOver, State.endSessions_mgmt]
theorem State.takeOver_dev (s : State) (o : Nat) : (s.takeOver o).dev = s.dev := by
  simp [State.takeOver, State.endSessions_dev]
theorem State.takeOver_cell (s : State) (o : Nat) : (s.takeOver o).cell Ob.ACTIVE_CORE_TILE 0 = o := by
  simp [State.takeOver]
theorem State.takeOver_reports (s : State) (o : Nat) (h : 8 < s.recs.length) : (s.takeOver o).pkgReports Ev.CORE_TAKEOVER := by
  refine State.pev_reports _ _ _ _ ?_
  simpa [length_modAt, State.endSessions_recs_length] using h

/-- The active core `a` has failed, its loss noted. -/
def State.coreFails (s : State) (a : Nat) : State :=
  { s with mgmt := { s.mgmt with coreFailed := s.mgmt.coreFailed ++ [a], standbyLost := true } }
theorem State.coreFails_canTakeOver (s : State) (a : Nat) :
    (s.coreFails a).canTakeOver (1 - a) = true ↔ s.tileActive (1 - a) = true ∧ 1 - a ∉ s.mgmt.coreFailed := by
  have hne : 1 - a ≠ a := by omega
  have hact : (s.coreFails a).tileActive (1 - a) = s.tileActive (1 - a) := rfl
  have hfailed : (s.coreFails a).mgmt.coreFailed = s.mgmt.coreFailed ++ [a] := rfl
  simp [State.canTakeOver, hact, hfailed, hne]
/-- No management core is active (R518). -/
def State.coreless (s : State) : State := { s with mgmt := { s.mgmt with active := none } }
theorem exec_coreTakeover (a : Nat) (s : State) (h : s.mgmt.active = some a) : exec .coreTakeover s =
    .next (if (s.coreFails a).canTakeOver (1 - a) = true then (s.coreFails a).takeOver (1 - a)
      else (s.coreFails a).coreless) := by
  simp only [exec, execCoreTakeover, State.coreLost]
  split
  next hnone => exact absurd (h.symm.trans hnone) (by simp)
  next b hsome =>
    obtain rfl : a = b := Option.some.inj (h.symm.trans hsome)
    rfl
theorem coreTakeover_by_standby (a : Nat) (s : State) (ha : s.mgmt.active = some a) (hs : s.Sized) : ∃ t, exec .coreTakeover s = .next t ∧
    t.mgmt.active = (if s.tileActive (1 - a) = true ∧ 1 - a ∉ s.mgmt.coreFailed then some (1 - a) else none) ∧
    (t.mgmt.active = some (1 - a) → t.mgmt.sessions = [] ∧ t.mgmt.sets = [] ∧ t.cell Ob.ACTIVE_CORE_TILE 0 = 1 - a ∧
      t.pkgReports Ev.CORE_TAKEOVER) ∧ t.dev = s.dev := by
  refine ⟨_, exec_coreTakeover a s ha, ?_⟩
  by_cases hcan : (s.coreFails a).canTakeOver (1 - a) = true
  · rw [if_pos hcan, if_pos ((s.coreFails_canTakeOver a).1 hcan)]
    have hrec : 8 < (s.coreFails a).recs.length := hs.package_recorder
    refine ⟨by rw [State.takeOver_mgmt], fun _ => ⟨by rw [State.takeOver_mgmt], by rw [State.takeOver_mgmt], State.takeOver_cell _ _,
      State.takeOver_reports _ _ hrec⟩, State.takeOver_dev _ _⟩
  · rw [if_neg hcan, if_neg (fun h => hcan ((s.coreFails_canTakeOver a).2 h))]
    exact ⟨rfl, fun h => absurd (h : none = some (1 - a)) (Option.some_ne_none _).symm, rfl⟩

theorem exec_standbyLost (a : Nat) (fails : Bool) (s : State) (ha : s.mgmt.active = some a) (hsync : s.mgmt.standbySync = true) :
    exec (.standbyLost fails) s = .next ({ s with mgmt := { s.mgmt with
      coreFailed := if fails then s.mgmt.coreFailed ++ [1 - a] else s.mgmt.coreFailed } } : State).standbyGone := by
  simp only [exec, execStandbyLost]
  split
  next hnone => exact absurd (ha.symm.trans hnone) (by simp)
  next b hsome =>
    obtain rfl : a = b := Option.some.inj (ha.symm.trans hsome)
    exact congrArg Host.Outcome.next (if_pos hsync)
theorem standbyLost_keeps_device (a : Nat) (fails : Bool) (s : State) (ha : s.mgmt.active = some a) (hsync : s.mgmt.standbySync = true)
    (hs : s.Sized) : ∃ t, exec (.standbyLost fails) s = .next t ∧ t.mgmt.active = some a ∧ t.mgmt.standbySync = false ∧
      t.mgmt.standbyLost = true ∧ t.dev = s.dev ∧ t.pkgReports Ev.STANDBY_LOST := by
  refine ⟨_, exec_standbyLost a fails s ha hsync, ?_, ?_, ?_, ?_, State.pev_reports _ _ _ _ hs.package_recorder⟩ <;>
    simp [State.standbyGone, ha]

theorem exec_standbyResynchronised (a : Nat) (s : State) (ha : s.mgmt.active = some a) (ht : s.tileActive (1 - a) = true) :
    exec .standbyResynchronised s = .next { s with mgmt := { s.mgmt with
      standbySync := true, standbyLost := false, coreFailed := s.mgmt.coreFailed.filter (fun c => decide (c ≠ 1 - a)) } } := by
  simp only [exec, execStandbyResynchronised]
  split
  next hnone => exact absurd (ha.symm.trans hnone) (by simp)
  next b hsome =>
    obtain rfl : a = b := Option.some.inj (ha.symm.trans hsome)
    exact congrArg Host.Outcome.next (if_pos ht)

/-- Settles O6: the standby takes over when its tile is ACTIVE and its core has not failed, else no core is active. -/
theorem coreRoles : Obligations.CoreRoles := by
  unfold Obligations.CoreRoles
  exact ⟨coreTakeover_by_standby, standbyLost_keeps_device,
    fun a s ha ht => ⟨_, exec_standbyResynchronised a s ha ht, ha, rfl, rfl, rfl⟩⟩

/-! ### Ports (R17, R18, R341) -/

theorem State.portUsed_iff (s : State) (p : Nat) : s.portUsed p = true ↔ p < s.n ∧ (s.pairX8 (p / 2) = true ∨ p % 2 = 0) := by
  simp [State.portUsed]
theorem port_of_tile_x8 (t : Nat) (s : State) (ht : t < s.n) (h : s.pairX8 (t / 2) = true) :
    s.portOfTile t = t ∧ s.portUsed t = true ∧ s.portTiles t = [t] :=
  ⟨if_pos h, (s.portUsed_iff t).2 ⟨ht, .inl h⟩, if_pos h⟩
theorem port_of_pair_x16 (k : Nat) (s : State) (hk : 2 * k + 1 < s.n) (h : s.pairX8 k = false) :
    s.portOfTile (2 * k) = 2 * k ∧ s.portOfTile (2 * k + 1) = 2 * k ∧ s.portTiles (2 * k) = [2 * k, 2 * k + 1] ∧
    s.portUsed (2 * k) = true ∧ s.portUsed (2 * k + 1) = false := by
  have heven : 2 * k / 2 = k := by omega
  have hodd : (2 * k + 1) / 2 = k := by omega
  refine ⟨by simp [State.portOfTile, heven, h], by simp [State.portOfTile, hodd, h], by simp [State.portTiles, heven, h],
    (s.portUsed_iff _).2 ⟨by omega, .inr (by omega)⟩, Bool.eq_false_iff.2 fun hused => ?_⟩
  obtain ⟨-, hx8 | hev⟩ := (s.portUsed_iff _).1 hused
  · simp [hodd, h] at hx8
  · omega

/-- What one sample of its urgency pins makes of a port: a level that agrees with the sample before takes effect (R341). -/
def Port.sampled (p : Port) (v : Nat) : Port := { p with urg := if v = p.urgSample then v else p.urg, urgSample := v }
theorem exec_urgencySample_of_used (port level : Nat) (s : State) (h : s.portUsed port = true) :
    exec (.urgencySample port level) s = .next (s.modPort port (fun p => p.sampled (level % 4))) :=
  congrArg Host.Outcome.next (if_pos h)
theorem urgencySample_moves_own_port (port level : Nat) (s : State) (h : s.portUsed port = true) :
    ∃ u, exec (.urgencySample port level) s = .next u ∧ (∀ q, q ≠ port → u.port q = s.port q) ∧
      (s.Sized → (u.port port).urgSample = level % 4 ∧
        ((s.port port).urgSample = level % 4 → (u.port port).urg = level % 4)) := by
  refine ⟨_, exec_urgencySample_of_used port level s h, fun q hq => State.port_modPort_ne _ _ _ _ (Ne.symm hq), fun hs => ?_⟩
  have hlen : port < s.ports.length := Nat.lt_of_lt_of_le ((s.portUsed_iff port).1 h).1 hs.ports
  rw [State.port_modPort_same _ _ _ hlen]
  exact ⟨rfl, fun hsame => if_pos hsame.symm⟩
theorem urgencySample_of_unused (port level : Nat) (s : State) (h : s.portUsed port = false) :
    exec (.urgencySample port level) s = .next s :=
  congrArg Host.Outcome.next (if_neg (by simp [h]))

/-- Settles O4: port numbers by the parity of a tile in its pair; a sample changes one port of the list. -/
theorem portNumbers : Obligations.PortNumbers := by
  unfold Obligations.PortNumbers
  exact ⟨port_of_tile_x8, port_of_pair_x16, urgencySample_moves_own_port, urgencySample_of_unused⟩

/-! ### The state after reset -/

/-- Every tile of the state after reset is one as shipped, those beyond the part too. -/
theorem reset_tile (t : Nat) : State.reset.tile t = Tile.reset 8 t := by
  simp only [State.tile, State.reset, List.getD, List.getElem?_map]
  by_cases ht : t < 8
  · simp [List.getElem?_range ht]
  · simp [Nat.le_of_not_lt ht]
theorem reset_port (p : Nat) : State.reset.port p = Port.reset := by
  simp only [State.port, State.reset, List.getD, List.getElem?_replicate]
  split <;> rfl
theorem reset_tileActive (t : Nat) : State.reset.tileActive t = true := by
  rw [State.tileActive, reset_tile]
  rfl

/-- Settles O60: every store of the state after reset is empty and every list holds reset elements. -/
theorem resetState : Obligations.ResetState := by
  unfold Obligations.ResetState
  refine ⟨rfl, rfl, rfl, rfl, rfl, fun _ => rfl, fun _ => rfl, fun t => ?_, fun t l => ?_, fun t _ => reset_tileActive t, fun _ => rfl,
    fun _ => rfl, fun p => ?_, rfl, rfl, ⟨?_, ?_, ?_⟩, by decide +kernel, Nat.le_refl _⟩
  · rw [reset_tile]
    exact ⟨rfl, rfl, rfl⟩
  · rw [reset_tile]
    rfl
  · rw [reset_port]
    rfl
  · decide
  · decide
  · decide

end Sys2Proof.Machine
end

section
/-! Proofs of 01_architecture.md: the patrol and the drift clock, the temperature readings and the end of a scrub pass. -/
namespace Sys2Proof.Machine
open Sys2Proof

/-! ### Bits, cells and the medium -/

theorem testBit_setBit_same (v b : Nat) : (setBit v b).testBit b = true := by
  simp [setBit, Nat.testBit_or, Nat.testBit_two_pow_self]
/-- An alert writes the cells of ALERT_N alone (R506). -/
theorem State.alert_cell_ne (s : State) (b k d : Nat) (hs : Ob.ALERT_STATUS ≠ k) (ho : Ob.ALERT_OCC + b ≠ k) :
    (s.alert b).cell k d = s.cell k d := by
  unfold State.alert
  simp only []
  split
  · rw [State.pev_cell, State.raise_cell_ne _ _ _ _ _ _ hs ho]
  · rw [State.raise_cell_ne _ _ _ _ _ _ hs ho]
theorem State.goto_cell_ne (s : State) (new : DevState) (row k d : Nat) (hs : Ob.ALERT_STATUS ≠ k) (ho : Ob.ALERT_OCC + 0 ≠ k) :
    (s.goto new row).cell k d = s.cell k d := by
  have hdev : ∀ st, ({ s with dev := { s.dev with st := st } } : State).cell k d = s.cell k d := fun _ => rfl
  unfold State.goto
  simp only []
  split <;> simp [State.alert_cell_ne _ _ _ _ hs ho, hdev]
theorem State.degrade_cell_ne (s : State) (k d : Nat) (hs : Ob.ALERT_STATUS ≠ k) (ho : Ob.ALERT_OCC + 0 ≠ k) :
    s.degrade.cell k d = s.cell k d := by
  unfold State.degrade
  split
  · exact State.goto_cell_ne _ _ _ _ _ hs ho
  · rfl
theorem State.sameMedium_modTile (s : State) (t : Nat) (f : Tile → Tile) (hmed : ∀ x, (f x).med = x.med) (hmap : ∀ x, (f x).map = x.map) :
    s.SameMedium (s.modTile t f) := fun v =>
  ⟨State.modTile_keeps Tile.med s t v f hmed, State.modTile_keeps Tile.map s t v f hmap⟩
theorem State.sameMedium_modRes (s : State) (t : Nat) (f : TileRes → TileRes) : s.SameMedium (s.modRes t f) :=
  s.sameMedium_modTile t _ (fun _ => rfl) (fun _ => rfl)
theorem State.sameMedium_modPat (s : State) (t : Nat) (f : TilePat → TilePat) : s.SameMedium (s.modPat t f) :=
  s.sameMedium_modTile t _ (fun _ => rfl) (fun _ => rfl)
theorem State.SameMedium.of_tiles {s t u : State} (h : s.SameMedium t) (ht : u.tiles = t.tiles) : s.SameMedium u := fun v => by
  simpa only [State.tile, ht] using h v

/-! ### Patrol (R231, R235) -/

theorem patrolStatus_ne_occ (t b : Nat) : Ob.inst Ob.PATROL_STATUS t ≠ Ob.inst Ob.PATROL_OCC t + b := by
  show 0x432008 + 256 * t ≠ 0x432009 + 256 * t + b
  omega
/-- Raising bit `b` of `PATROL_STATUS` of tile `t`, with its occurrence counter (R438). -/
theorem State.raise_patrolStatus (s : State) (t b : Nat) :
    ((s.raise (Ob.inst Ob.PATROL_STATUS t) b (Ob.inst Ob.PATROL_OCC t + b)).cell (Ob.inst Ob.PATROL_STATUS t) 0).testBit b = true := by
  rw [State.raise_status _ _ _ _ (patrolStatus_ne_occ t b)]
  exact testBit_setBit_same _ _

/-- A refresh stroke of patrol priority moves to host write-back priority (R231). -/
def Stroke.escalated (k : Stroke) : Stroke := if k.kind = .refresh ∧ k.priority = 5 then { k with priority := 3 } else k
theorem Stroke.escalated_priority (k : Stroke) (h : k.escalated.kind = .refresh) : k.escalated.priority ≠ 5 := by
  unfold Stroke.escalated at h ⊢
  split
  · simp
  next hnot =>
    rw [if_neg hnot] at h
    exact fun h5 => hnot ⟨h, h5⟩
theorem exec_refreshEscalated (t p : Nat) (s : State) (hv : (s.tile t).pat.visit = some p)
    (hg : t < s.n ∧ s.ageReached t p 7 = true ∧ 0 < (s.tile t).res.refreshQueue) : exec (.refreshEscalated t) s =
    .next ((((s.modRes t (fun r => { r with strokes := r.strokes.map Stroke.escalated })).raise (Ob.inst Ob.PATROL_STATUS t) 1
      (Ob.inst Ob.PATROL_OCC t + 1)).tev t Ev.REFRESH_ESCALATED 0xFF p [(4, (s.tile t).res.refreshQueue)]).tcount t Cn.REFRESH_ESCALATIONS
      (s.tile t).res.refreshQueue) := by
  simp only [exec, execRefreshEscalated, hv]
  exact congrArg Host.Outcome.next (if_pos hg)
theorem refreshEscalated_moves_strokes (t p : Nat) (s : State) (ht : t < s.n) (hs : s.Sized) (hv : (s.tile t).pat.visit = some p)
    (hage : s.ageReached t p 7 = true) (hq : 0 < (s.tile t).res.refreshQueue) :
    ∃ u, exec (.refreshEscalated t) s = .next u ∧ (∀ k ∈ (u.tile t).res.strokes, k.kind = .refresh → k.priority ≠ 5) ∧
      (u.cell (Ob.inst Ob.PATROL_STATUS t) 0).testBit 1 = true ∧ u.tileReports t Ev.REFRESH_ESCALATED ∧ s.SameMedium u := by
  refine ⟨_, exec_refreshEscalated t p s hv ⟨ht, hage, hq⟩, fun k hk hkind => ?_, ?_, ?_, ?_⟩
  · simp only [State.modRes_eq, State.tcount_tile, State.tev_tile, State.raise_tile, State.tile_modTile_same _ _ _ (hs.tile_listed ht),
      List.mem_map] at hk
    obtain ⟨k, -, rfl⟩ := hk
    exact k.escalated_priority hkind
  · rw [State.tcount_cell, State.tev_cell]
    exact State.raise_patrolStatus _ _ _
  · exact State.reports_tcount _ _ _ _ _ _ (State.tev_reports _ _ _ _ _ _ (by simpa using hs.tile_recorder ht))
  · exact (s.sameMedium_modRes t (fun r => { r with strokes := r.strokes.map Stroke.escalated })).of_tiles (by simp [State.modTile])

theorem State.degradedCondition_of_overdue (s : State) (t : Nat) (ht : t < s.n) (h : (s.tile t).pat.overdue = true) :
    s.degradedCondition = true := by
  have hany : ∀ q : Nat → Bool, q t = true → s.tileNumbers.any q = true := fun q hq => List.any_eq_true.2 ⟨t, (s.mem_tileNumbers t).2 ht, hq⟩
  unfold State.degradedCondition
  rw [hany _ (by simp [h])]
  simp
theorem exec_patrolOverdue (t p : Nat) (s : State) (hg : t < s.n ∧ (s.tile t).map.visitable p = true ∧ s.ageReached t p 8 = true) :
    exec (.patrolOverdue t p) s = .next ((((s.raise (Ob.inst Ob.PATROL_STATUS t) 0 (Ob.inst Ob.PATROL_OCC t + 0)).modPat t
      (fun x => { x with overdue := true })).tev t Ev.PATROL_OVERDUE 0xFF p [(4, (s.tile t).driftAge p)]).degrade) :=
  congrArg Host.Outcome.next (if_pos hg)
theorem patrolOverdue_degrades (t p : Nat) (s : State) (ht : t < s.n) (hs : s.Sized) (hvis : (s.tile t).map.visitable p = true)
    (hage : s.ageReached t p 8 = true) :
    ∃ u, exec (.patrolOverdue t p) s = .next u ∧ (u.tile t).pat.overdue = true ∧ (u.cell (Ob.inst Ob.PATROL_STATUS t) 0).testBit 0 = true ∧
      u.tileReports t Ev.PATROL_OVERDUE ∧ (s.dev.st = .ready → u.dev.st = .degraded) ∧ s.SameMedium u := by
  have hover : ∀ c v q, ((((s.raise (Ob.inst Ob.PATROL_STATUS t) 0 (Ob.inst Ob.PATROL_OCC t + 0)).modPat t
      (fun x => { x with overdue := true })).tev t Ev.PATROL_OVERDUE c v q).tile t).pat.overdue = true := fun c v q => by
    rw [State.tev_tile, State.modPat_eq, State.tile_modTile_same _ _ _ (by simpa using hs.tile_listed ht)]
  refine ⟨_, exec_patrolOverdue t p s ⟨ht, hvis, hage⟩, ?_, ?_, ?_, fun hready => ?_, ?_⟩
  · rw [State.degrade_tile]
    exact hover _ _ _
  · rw [State.degrade_cell_ne, State.tev_cell, State.modPat_eq, State.modTile_cell]
    · exact State.raise_patrolStatus _ _ _
    · show 0x204001 ≠ 0x432008 + 256 * t
      omega
    · show 0x204003 + 0 ≠ 0x432008 + 256 * t
      omega
  · exact State.reports_degrade _ _ _ (State.tev_reports _ _ _ _ _ _ (by simpa using hs.tile_recorder ht))
  · apply State.degrade_st_of_ready
    · simpa using hready
    · exact State.degradedCondition_of_overdue _ t (by simpa using ht) (hover _ _ _)
  · exact (s.sameMedium_modPat t (fun x => { x with overdue := true })).of_tiles (by simp [State.modTile])

theorem exec_accelPatrolDone (t : Nat) (s : State) (hg : t < s.n ∧ (s.tile t).pat.accelOn = true ∧ (s.tile t).pat.accel.isEmpty = true) :
    exec (.accelPatrolDone t) s = .next ((s.modPat t (fun x => { x with accelOn := false })).tev t Ev.ACCEL_PATROL_DONE 0xFF
      (s.now t - (s.tile t).pat.accelSince) []) :=
  congrArg Host.Outcome.next (if_pos hg)
theorem accelPatrolDone_ends (t : Nat) (s : State) (ht : t < s.n) (hs : s.Sized) (hon : (s.tile t).pat.accelOn = true)
    (hnil : (s.tile t).pat.accel = []) :
    ∃ u, exec (.accelPatrolDone t) s = .next u ∧ (u.tile t).pat.accelOn = false ∧ u.tileReports t Ev.ACCEL_PATROL_DONE ∧ s.SameMedium u := by
  refine ⟨_, exec_accelPatrolDone t s ⟨ht, hon, by simp [hnil]⟩, ?_, ?_, ?_⟩
  · simp [State.tile_modTile_same _ _ _ (hs.tile_listed ht)]
  · exact State.tev_reports _ _ _ _ _ _ (by simpa using hs.tile_recorder ht)
  · exact (s.sameMedium_modPat t (fun x => { x with accelOn := false })).of_tiles (by simp [State.modTile])

/-! ### Ages and the drift clock (R220, R246, R471) -/

/-- A segment that is not as shipped reads back as it was written. -/
theorem TileMap.seg_setSeg_same (m : TileMap) (p : Nat) (x : Seg) (h : x ≠ Seg.shipped) : (m.setSeg p x).seg p = x := by
  simp only [TileMap.seg, TileMap.setSeg, Sparse.put, if_neg h, Sparse.getD_insert_same]
/-- An age table entry that was reset: the segment counts as class 11 and is visited first (R246). -/
def Tile.ageReset (x : Tile) (p : Nat) : Tile :=
  { x with map := x.map.setSeg p { x.map.seg p with class11 := true },
           pat := { x.pat with first := if x.pat.first.contains p then x.pat.first else x.pat.first ++ [p] } }
theorem Tile.ageReset_class11 (x : Tile) (p : Nat) : ((x.ageReset p).map.seg p).class11 = true := by
  rw [Tile.ageReset, TileMap.seg_setSeg_same]
  exact fun h => Bool.noConfusion (congrArg Seg.class11 h)
theorem Tile.mem_ageReset_first (x : Tile) (p : Nat) : p ∈ (x.ageReset p).pat.first := by
  simp only [Tile.ageReset]
  split
  next h => exact List.contains_iff_mem.1 h
  next => simp
theorem exec_ageEntryReset (t p : Nat) (s : State) (hg : t < s.n ∧ p < segsPerTile) : exec (.ageEntryReset t p) s =
    .next (((s.modMap t (fun m => m.setSeg p { m.seg p with class11 := true })).modPat t (fun x =>
      { x with first := if x.first.contains p then x.first else x.first ++ [p] })).tev t Ev.AGE_ENTRY_RESET 0xFF p []) :=
  congrArg Host.Outcome.next (if_pos hg)
theorem ageEntryReset_visits_first (t p : Nat) (s : State) (ht : t < s.n) (hs : s.Sized) (hp : p < segsPerTile) :
    ∃ u, exec (.ageEntryReset t p) s = .next u ∧ ((u.tile t).map.seg p).class11 = true ∧ p ∈ (u.tile t).pat.first ∧
      u.tileReports t Ev.AGE_ENTRY_RESET ∧ (u.tile t).med = (s.tile t).med := by
  have htile : ∀ c v q, ((((s.modMap t (fun m => m.setSeg p { m.seg p with class11 := true })).modPat t (fun x =>
      { x with first := if x.first.contains p then x.first else x.first ++ [p] })).tev t Ev.AGE_ENTRY_RESET c v q).tile t) = (s.tile t).ageReset p := by
    intro c v q
    rw [State.tev_tile, State.modPat_eq, State.modMap_eq, State.tile_modTile_same _ _ _ (by simpa using hs.tile_listed ht),
      State.tile_modTile_same _ _ _ (hs.tile_listed ht)]
    rfl
  refine ⟨_, exec_ageEntryReset t p s ⟨ht, hp⟩, ?_, ?_, ?_, ?_⟩
  · rw [htile]
    exact Tile.ageReset_class11 _ _
  · rw [htile]
    exact Tile.mem_ageReset_first _ _
  · exact State.tev_reports _ _ _ _ _ _ (by simpa using hs.tile_recorder ht)
  · rw [htile]
    rfl

theorem PStore.ringValue_saveRing_same (p : PStore) (ring v : Nat) (h : ring < p.rings.length) : (p.saveRing ring v).ringValue ring = some v := by
  simp only [PStore.ringValue, PStore.saveRing, getD_modAt_same _ _ _ _ h]
  rfl
theorem PStore.ringValue_saveRing_ne (p : PStore) (ring r v : Nat) (h : r ≠ ring) : (p.saveRing ring v).ringValue r = p.ringValue r := by
  simp only [PStore.ringValue, PStore.saveRing, getD_modAt_ne _ _ _ _ _ (Ne.symm h)]
theorem exec_driftClockSave (t : Nat) (s : State) (h : t < s.n) :
    exec (.driftClockSave t) s = .next (s.modPs t (fun p => p.saveRing 2 (s.tile t).pat.drift)) :=
  congrArg Host.Outcome.next (if_pos h)
theorem driftClockSave_saves (t : Nat) (s : State) (ht : t < s.n) (hs : s.Sized) (hr : 2 < (s.tile t).ps.rings.length) :
    ∃ u, exec (.driftClockSave t) s = .next u ∧ (u.tile t).ps.ringValue 2 = some (s.tile t).pat.drift ∧
      (∀ r, r ≠ 2 → (u.tile t).ps.ringValue r = (s.tile t).ps.ringValue r) ∧ (u.tile t).pat = (s.tile t).pat := by
  refine ⟨_, exec_driftClockSave t s ht, ?_⟩
  rw [State.modPs_eq, State.tile_modTile_same _ _ _ (hs.tile_listed ht)]
  exact ⟨PStore.ringValue_saveRing_same _ _ _ hr, fun r hne => PStore.ringValue_saveRing_ne _ _ _ _ hne, rfl⟩

/-! ### The pace (R39, R228) -/

/-- The pace of a tile in segments a second: for 7/8 of an interval, or the 6 h rate while no core is active. -/
def Tile.paceFor (x : Tile) (coreActive : Bool) (interval : Nat) : Nat :=
  if coreActive then ceilDiv (8 * x.map.visitCount * max (256 * 7800) x.pat.rate) (7 * 256 * 7800 * interval)
  else ceilDiv x.map.visitCount (6 * 3600)
/-- Every tile takes its pace. -/
def State.paced (s : State) : State :=
  s.each s.tileNumbers (fun s' t => s'.modPat t (fun x => { x with pace := (s'.tile t).paceFor s.mgmt.active.isSome s.patrolInterval }))
theorem exec_patrolPace (s : State) : exec .patrolPace s = .next s.paced := rfl
theorem State.paced_dev (s : State) : s.paced.dev = s.dev := State.each_keeps State.dev _ _ _ (fun _ _ => rfl)
theorem State.paced_tile (s : State) (hs : s.Sized) (t : Nat) (ht : t < s.n) : s.paced.tile t =
    { s.tile t with pat := { (s.tile t).pat with pace := (s.tile t).paceFor s.mgmt.active.isSome s.patrolInterval } } :=
  State.tile_each_tileNumbers s _
    (fun _ x => { x with pat := { x.pat with pace := x.paceFor s.mgmt.active.isSome s.patrolInterval } }) hs.tiles
    (fun _ _ => ⟨_, rfl, rfl⟩) t ht
theorem patrolPace_of_tiles (s : State) (hs : s.Sized) : ∃ u, exec .patrolPace s = .next u ∧ u.dev = s.dev ∧ ∀ t < s.n, (u.tile t).pat.pace =
    (if s.mgmt.active.isSome then
      ceilDiv (8 * (s.tile t).map.visitCount * max (256 * 7800) (s.tile t).pat.rate) (7 * 256 * 7800 * s.patrolInterval)
     else ceilDiv (s.tile t).map.visitCount (6 * 3600)) := by
  refine ⟨_, exec_patrolPace s, s.paced_dev, fun t ht => ?_⟩
  rw [s.paced_tile hs t ht]
  rfl

/-! ### Temperatures (R219, R350, R409, R512) -/

theorem foldl_max_lt (l : List Nat) (f : Nat → Int) (a b : Int) (ha : a < b) (hl : ∀ t ∈ l, f t < b) :
    l.foldl (fun m t => max m (f t)) a < b := by
  induction l generalizing a with
  | nil => exact ha
  | cons t l ih => exact ih _ (max_lt ha (hl t (List.mem_cons_self ..))) (fun u hu => hl u (List.mem_cons_of_mem _ hu))
theorem State.hottest_lt (s : State) (b : Int) (hb : -273 < b) (h : ∀ t < s.n, (s.tile t).sup.temp < b) : s.hottest < b :=
  foldl_max_lt _ _ _ _ hb (fun t ht => h t ((s.mem_tileNumbers t).1 ht))
/-- Throttle and thermal emergency leave what the feed, the cells, the recorders, the counters and the device state do not hold. -/
theorem State.thermal_keeps {β : Type} (g : State → β) (s : State) (hf : ∀ s feed, g { s with feed := feed } = g s)
    (hr : ∀ s a b c, g (State.raise s a b c) = g s) (ha : ∀ s b, g (State.alert s b) = g s)
    (ht : ∀ s t num cls v qs, g (State.tev s t num cls v qs) = g s) (hp : ∀ s code v qs, g (State.pev s code v qs) = g s)
    (hd : ∀ s, g (State.degrade s) = g s) : g s.thermal = g s := by
  unfold State.thermal
  simp only []
  rw [hd]
  split
  · rw [hp, ha, hr]
    split
    · rw [ht, ha, hr, hf]
    · rw [hf]
  · split
    · rw [ht, ha, hr, hf]
    · rw [hf]
theorem State.thermal_n (s : State) : s.thermal.n = s.n := s.thermal_keeps State.n (fun _ _ => rfl) (by simp) (by simp) (by simp) (by simp) (by simp)
theorem State.thermal_tile (s : State) (u : Nat) : s.thermal.tile u = s.tile u :=
  s.thermal_keeps (fun s => s.tile u) (fun _ _ => rfl) (by simp) (by simp) (by simp) (by simp) (by simp)
theorem State.overheat_of_cool (s : State) (h : s.hottest < 152) : s.overheat = { s with dev := { s.dev with hotSince := none } } := if_pos h

/-- The tiles take their readings (R512). -/
def State.sampledTiles (s : State) (temps : List (List Int)) : State :=
  s.each s.tileNumbers (fun s' t => s'.modTile t (fun x => x.sampled (temps.getD t [])))
/-- What follows from the readings of all tiles: the life reading, throttle and emergency. -/
def State.heeded (s : State) : State := if s.lifeTemp.dev.mainUp then s.lifeTemp.thermal else s.lifeTemp
theorem State.sampledTiles_n (s : State) (temps : List (List Int)) : (s.sampledTiles temps).n = s.n :=
  State.each_keeps State.n _ _ _ (fun _ _ => rfl)
theorem State.sampledTiles_tile (s : State) (temps : List (List Int)) (hs : s.Sized) (t : Nat) (ht : t < s.n) :
    (s.sampledTiles temps).tile t = (s.tile t).sampled (temps.getD t []) :=
  State.tile_each_tileNumbers s _ (fun t x => x.sampled (temps.getD t [])) hs.tiles (fun _ _ => ⟨_, rfl, rfl⟩) t ht
theorem State.heeded_n (s : State) : s.heeded.n = s.n := by
  unfold State.heeded
  split
  · exact State.thermal_n _
  · rfl
theorem State.heeded_tile (s : State) (u : Nat) : s.heeded.tile u = s.tile u := by
  unfold State.heeded
  split
  · exact State.thermal_tile _ _
  · rfl
theorem exec_temperatureSample (temps : List (List Int)) (s : State) (h : s.dev.st ≠ .unpowered)
    (hcool : (s.sampledTiles temps).heeded.hottest < 152) : exec (.temperatureSample temps) s =
    .next { (s.sampledTiles temps).heeded with dev := { (s.sampledTiles temps).heeded.dev with hotSince := none } } := by
  have hno : ¬ 165 ≤ (s.sampledTiles temps).heeded.hottest := by omega
  rw [← State.overheat_of_cool _ hcool]
  refine congrArg Host.Outcome.next ((if_neg h).trans ?_)
  exact congrArg State.overheat (if_neg hno)
theorem temperatureSample_keeps_readings (temps : List (List Int)) (s : State) (h : s.dev.st ≠ .unpowered) (hs : s.Sized)
    (hcool : ∀ t < s.n, hottestOf (s.tile t).sup.temp (temps.getD t []) < 152) :
    ∃ u, exec (.temperatureSample temps) s = .next u ∧ u.dev.hotSince = none ∧ ∀ t < s.n, (u.tile t).sup.dieTemps = temps.getD t [] ∧
      (u.tile t).sup.temp = hottestOf (s.tile t).sup.temp (temps.getD t []) ∧ (u.tile t).med = (s.tile t).med := by
  have htile : ∀ t < s.n, (s.sampledTiles temps).heeded.tile t = (s.tile t).sampled (temps.getD t []) := fun t ht =>
    (State.heeded_tile _ t).trans (s.sampledTiles_tile temps hs t ht)
  have hn : (s.sampledTiles temps).heeded.n = s.n := (State.heeded_n _).trans (s.sampledTiles_n temps)
  have hlt : (s.sampledTiles temps).heeded.hottest < 152 := by
    refine State.hottest_lt _ 152 (by decide) (fun t ht => ?_)
    rw [htile t (hn ▸ ht)]
    exact hcool t (hn ▸ ht)
  refine ⟨_, exec_temperatureSample temps s h hlt, rfl, fun t ht => ?_⟩
  have hu : ∀ dev, ({ (s.sampledTiles temps).heeded with dev := dev } : State).tile t = (s.tile t).sampled (temps.getD t []) := fun _ => htile t ht
  rw [hu]
  exact ⟨rfl, rfl, rfl⟩

/-! ### The end of a scrub pass (R237, R239) -/

theorem scrubDone_leaves_summary (worst fails : Nat) (s : State) (h : s.svc.scrubOn = true) :
    ∃ u, exec (.scrubDone worst fails) s = .next u ∧ u.svc.scrubOn = false ∧
      u.svc.scrubCounts.getD 10 0 = 2 ∧ u.svc.scrubCounts.getD 7 0 = min worst 576 := by
  refine ⟨_, congrArg Host.Outcome.next (if_pos h), ?_⟩
  simp only [State.pev_svc]
  split <;> exact ⟨rfl, rfl, rfl⟩

/-- Settles O24: each command of the patrol, the drift clock, the readings and the pass by what its update makes of the tile or the service state. -/
theorem patrolPaces : Obligations.PatrolPaces := by
  unfold Obligations.PatrolPaces
  exact ⟨refreshEscalated_moves_strokes, patrolOverdue_degrades, accelPatrolDone_ends, ageEntryReset_visits_first, driftClockSave_saves,
    patrolPace_of_tiles, temperatureSample_keeps_readings, scrubDone_leaves_summary⟩

end Sys2Proof.Machine
end

section
/-! Proofs of 01_architecture.md: the bring-up. -/
namespace Sys2Proof.Machine
open Sys2Proof

/-! ### Bring-up (R305, R384, R478) -/

theorem exec_bringupStepDone_reconcile (found : List Nat) (s : State) (hst : s.dev.st = .rebuild) (hk : s.dev.bringup = 6) :
    exec (.bringupStepDone found) s = .next { s.bringReconcile with dev := { s.bringReconcile.dev with bringup := 7 } } := by
  simp only [exec, execBringupStepDone, hst, hk]

/-- A bring-up at step B7 after a dirty shutdown, as shipped but for one sealed share of tile 0, of partition number 0x6E00. No rule of the model's
state bounds a partition number (chapter 02 has 64 of them), and `SEAL_STATUS` of this one, at 0x520002 + 256 × 0x6E00, is the cell of
`SHUTDOWN_STATE`. -/
def strayShare : State :=
  { State.reset with
    dev := { State.reset.dev with st := .rebuild, bringup := 6 }
    obj := [(Ob.SHUTDOWN_STATE, 1)]
    parts := [(0x6E00, { PartInfo.free with st := 1, isSealed := true, tileSet := 1 })] }
theorem strayShare_sized : strayShare.Sized := ⟨by decide, by decide, by decide⟩
/-- Tile 0 finds no root for the share and raises bit 2 of its `SEAL_STATUS` (R305), so that step B7 reads `SHUTDOWN_STATE` as 5, not 1, and does not
count the shutdown. -/
theorem strayShare_not_counted : strayShare.bringReconcile.cell Ob.DIRTY_SHUTDOWN_COUNT 0 = strayShare.cell Ob.DIRTY_SHUTDOWN_COUNT 0 := by
  decide +kernel
theorem State.cell_setDev (s : State) (d : Device) (k v : Nat) : ({ s with dev := d } : State).cell k v = s.cell k v := rfl

/-- Refutes O59: the statement takes every state of the right size, whatever the numbers of its partitions. In `strayShare` the loss of a root (R305)
writes `SHUTDOWN_STATE`, and the dirty shutdown is not counted at step B7 (R384). With the 64 partition numbers of chapter 02 the two cells differ. -/
theorem not_bringUpAndTime : ¬ Obligations.BringUpAndTime := by
  unfold Obligations.BringUpAndTime
  rintro ⟨-, -, -, hsteps, -, -, -⟩
  obtain ⟨u, hexec, -, -, hcount⟩ := hsteps [] 6 strayShare strayShare_sized rfl rfl (by decide) (by decide)
  have hu : { strayShare.bringReconcile with dev := { strayShare.bringReconcile.dev with bringup := 7 } } = u :=
    Host.Outcome.next.inj ((exec_bringupStepDone_reconcile [] strayShare rfl rfl).symm.trans hexec)
  have hone : u.cell Ob.DIRTY_SHUTDOWN_COUNT 0 = strayShare.cell Ob.DIRTY_SHUTDOWN_COUNT 0 + 1 := hcount rfl rfl rfl
  have hnone : u.cell Ob.DIRTY_SHUTDOWN_COUNT 0 = strayShare.cell Ob.DIRTY_SHUTDOWN_COUNT 0 := by
    rw [← hu, State.cell_setDev, strayShare_not_counted]
  omega

end Sys2Proof.Machine
end

section
/-! Proofs of 02_address_space.md: what the bookkeeping of a request leaves alone (tokens, buckets, buffers, counters, events, status cells), and what
is handed over at its end. -/
namespace Sys2Proof.Machine
open Sys2Proof

/-! ### Bookkeeping -/

/-- A tile but for its reads and tokens. -/
def Tile.apart (x : Tile) : Tile := { x with rd := TileRead.reset }

/-- From `s` to `u` there has been bookkeeping only: nothing is handed over, no link goes up or down, and what the value of a line rests on (keys,
partitions, tiles but for their reads and tokens) stands. -/
structure State.Booked (s u : State) : Prop where
  out : u.out = s.out
  part : u.part = s.part
  keys : u.keys = s.keys
  parts : u.parts = s.parts
  up : ∀ p, (u.port p).up = (s.port p).up
  apart : ∀ v, (u.tile v).apart = (s.tile v).apart

theorem State.Booked.refl (s : State) : s.Booked s := ⟨rfl, rfl, rfl, rfl, fun _ => rfl, fun _ => rfl⟩
theorem State.Booked.trans {s t u : State} (a : s.Booked t) (b : t.Booked u) : s.Booked u :=
  ⟨b.out.trans a.out, b.part.trans a.part, b.keys.trans a.keys, b.parts.trans a.parts, fun p => (b.up p).trans (a.up p),
    fun v => (b.apart v).trans (a.apart v)⟩
theorem State.Booked.res {s u : State} (h : s.Booked u) (v : Nat) : (u.tile v).res = (s.tile v).res := (congrArg Tile.res (h.apart v) :)
theorem State.Booked.map {s u : State} (h : s.Booked u) (v : Nat) : (u.tile v).map = (s.tile v).map := (congrArg Tile.map (h.apart v) :)
theorem State.Booked.fence {s u : State} (h : s.Booked u) (v : Nat) : (u.tile v).fence = (s.tile v).fence := (congrArg Tile.fence (h.apart v) :)
theorem State.Booked.sameMedium {s u : State} (h : s.Booked u) : s.SameMedium u :=
  fun v => ⟨(congrArg Tile.med (h.apart v) :), h.map v⟩

/-- What touches neither tiles nor ports, keys, partitions and messages is bookkeeping. -/
theorem State.Booked.of_eq {s u : State} (out : u.out = s.out := by simp) (part : u.part = s.part := by simp) (keys : u.keys = s.keys := by simp)
    (parts : u.parts = s.parts := by simp) (ports : u.ports = s.ports := by simp) (tiles : u.tiles = s.tiles := by simp) : s.Booked u :=
  ⟨out, part, keys, parts, fun _ => by simp only [State.port, ports], fun _ => by simp only [State.tile, tiles]⟩
theorem State.Booked.ite {s u v : State} {c : Prop} [Decidable c] (a : s.Booked u) (b : s.Booked v) : s.Booked (if c then u else v) := by
  split
  · exact a
  · exact b
theorem State.booked_each {α : Type} (s : State) (l : List α) (f : State → α → State) (h : ∀ u x, State.Booked u (f u x)) : s.Booked (s.each l f) :=
  State.each_induct s.Booked s l f (State.Booked.refl s) (fun u x _ hu => hu.trans (h u x))

theorem State.booked_modRd (s : State) (t : Nat) (f : TileRead → TileRead) : s.Booked (s.modRd t f) :=
  ⟨rfl, rfl, rfl, rfl, fun _ => rfl, fun v => State.modTile_keeps Tile.apart s t v _ (fun _ => rfl)⟩
theorem State.booked_modCls (s : State) (c : Nat) (f : FeedClass → FeedClass) : s.Booked (s.modCls c f) := .of_eq
theorem State.modPort_up (s : State) (p q : Nat) (f : Port → Port) (h : ∀ x, (f x).up = x.up) : ((s.modPort p f).port q).up = (s.port q).up := by
  by_cases hpq : p = q
  · subst hpq
    by_cases hl : p < s.ports.length
    · rw [State.port_modPort_same _ _ _ hl, h]
    · simp [State.port, State.modPort, List.getD, getElem?_modAt_same, List.getElem?_eq_none (Nat.le_of_not_lt hl)]
  · rw [State.port_modPort_ne _ _ _ _ hpq]
theorem State.booked_modPort (s : State) (p : Nat) (f : Port → Port) (h : ∀ x, (f x).up = x.up) : s.Booked (s.modPort p f) :=
  ⟨rfl, rfl, rfl, rfl, fun q => s.modPort_up p q f h, fun _ => rfl⟩
theorem State.booked_tcount (s : State) (t num k : Nat) : s.Booked (s.tcount t num k) := .of_eq
theorem State.booked_tev (s : State) (t num cls value : Nat) (qs : List (Nat × Nat)) : s.Booked (s.tev t num cls value qs) := .of_eq
theorem State.booked_setCell (s : State) (k x : Nat) : s.Booked (s.setCell k x) := .of_eq
theorem State.booked_raise (s : State) (a b c : Nat) : s.Booked (s.raise a b c) := .of_eq
theorem State.booked_degrade (s : State) : s.Booked s.degrade := .of_eq

/-! ### The Feed's bookkeeping (R120, R267, R334 to R343) -/

theorem State.booked_ringSend (s : State) (a d k : Nat) : s.Booked (s.ringSend a d k) :=
  s.booked_each _ _ (fun u _ => State.booked_tcount u _ _ _)
theorem State.booked_takeTokens (s : State) (t : Nat) (r : Req) : s.Booked (s.takeTokens t r) := s.booked_modRd _ _
theorem State.booked_giveNibs (s : State) (t : Nat) (r : Req) : s.Booked (s.giveNibs t r) := (s.booked_modRd _ _).ite (.refl s)
theorem State.booked_noteCredits (s : State) (p : Nat) : s.Booked (s.noteCredits p) := by
  unfold State.noteCredits
  simp only []
  split
  · exact (s.booked_modPort _ _ (by simp)).ite (.refl s)
  · split
    · exact .refl s
    · exact (s.booked_modPort _ _ (by simp)).trans (State.booked_tev ..)
theorem State.booked_leaveIngress (s : State) (r : Req) : s.Booked (s.leaveIngress r) :=
  ((s.booked_modPort _ _ (by simp)).trans (State.booked_noteCredits ..)).ite (.refl s)
theorem State.booked_chargeOne (s : State) (r : Req) (reserved w : Bool) : s.Booked (s.chargeOne r reserved w) := by
  unfold State.chargeOne
  extract_lets
  exact s.booked_modCls _ _
theorem State.booked_admitFeed (s : State) (t : Nat) (r : Req) : s.Booked (s.admitFeed t r).1 := by
  unfold State.admitFeed
  extract_lets reserved r1 held s1 s2 s3 s4 s5 a s6 s7 own
  have charged : s.Booked s1 := s.booked_each _ _ (fun u _ => State.booked_chargeOne u r reserved _)
  have noted : s1.Booked s2 := (s1.booked_modCls _ _).trans (State.booked_takeTokens _ t r)
  have entered : s2.Booked s3 := (s2.booked_modPort _ _ (by simp)).ite (.refl s2)
  have admitted : s3.Booked s4 := s3.booked_tcount _ _ _
  have excess : s4.Booked s5 := .ite (.refl s4) (s4.booked_tcount _ _ _)
  have sent : s5.Booked s6 := .ite (.refl s5) ((s5.booked_ringSend _ _ _).trans (State.booked_ringSend ..))
  have forwarded : s6.Booked s7 := (s6.booked_tcount _ _ _).ite (.refl s6)
  have other : s7.Booked (if own && !r.write then s7.tcount t Cn.READS_FOR_OTHER_PORTS 1 else s7) := (s7.booked_tcount _ _ _).ite (.refl s7)
  exact ((((((charged.trans noted).trans entered).trans admitted).trans excess).trans sent).trans forwarded).trans other

/-! ### Bookkeeping leaves the plaintext of an entry (R287 to R291) -/

section
variable {s u : State} (h : s.Booked u)
include h

theorem State.Booked.key (k : Nat) : u.key k = s.key k := by simp only [State.key, h.keys]
theorem State.Booked.partn (p : Nat) : u.partn p = s.partn p := by simp only [State.partn, h.parts]
theorem State.Booked.n : u.n = s.n := by simp only [State.n, h.part]
theorem State.Booked.isLost (v lla : Nat) : (u.tile v).isLost lla = (s.tile v).isLost lla := by simp only [Tile.isLost, h.map]
theorem State.Booked.rootLost (v part : Nat) : u.rootLost v part = s.rootLost v part := by
  have sealing : (u.tile v).sealing = (s.tile v).sealing := (congrArg Tile.sealing (h.apart v) :)
  simp only [State.rootLost, sealing]
theorem State.Booked.homeOf (t : Nat) : u.homeOf t = s.homeOf t := by simp only [State.homeOf, h.fence, h.n]
theorem State.Booked.metaData (t part : Nat) (x : MetaLine) : u.metaData t part x = s.metaData t part x := by
  simp only [State.metaData, h.homeOf, h.res, h.partn]
theorem State.Booked.dataCounter (t part lla : Nat) : u.dataCounter t part lla = s.dataCounter t part lla := by
  simp only [State.dataCounter, State.counterData, h.metaData, h.partn]
theorem State.Booked.decrypt (part kx dpa : Nat) (d : Line) : u.decrypt part kx dpa d = s.decrypt part kx dpa d := by
  simp only [State.decrypt, h.partn, h.key]
theorem State.Booked.rekey (part dpa a b : Nat) (blank : Bool) (d : Line) : u.rekey part dpa a b blank d = s.rekey part dpa a b blank d := by
  simp only [State.rekey, State.encrypt, h.decrypt, h.partn, h.key]
theorem State.Booked.openLine (t part lla kx dpa : Nat) (d : Line) : u.openLine t part lla kx dpa d = s.openLine t part lla kx dpa d := by
  simp only [State.openLine, State.pad, State.padKey, h.dataCounter, h.decrypt, h.partn, h.key]
theorem State.Booked.entryPlain (t : Nat) (e : Entry) (kx : Nat) : u.entryPlain t e kx = s.entryPlain t e kx := by
  simp only [State.entryPlain, h.openLine, h.rekey]

end

/-! ### Handing over a response (R122, R124, R344, R362, R364) -/

/-- On a link that is up the response goes out. -/
theorem State.respondMem_out (s : State) (r : Req) (isData : Bool) (d : Line) (poison : Bool) (hup : (s.port r.port).up = true) :
    ∃ load, (s.respondMem r isData d poison).out = s.out ++ [Response.mem r.port r.ld r.tag isData d poison load] := by
  refine ⟨s.devLoad r, ?_⟩
  simp only [State.respondMem, hup, if_true, State.modCls_out]
  split <;> simp
/-- What the messages, the counters and the classes do not hold, a response leaves. -/
theorem State.respondMem_keeps {β : Type} (g : State → β) (s : State) (r : Req) (isData : Bool) (d : Line) (poison : Bool)
    (ho : ∀ s ms, g { s with out := ms } = g s) (ht : ∀ s t num k, g (State.tcount s t num k) = g s)
    (hc : ∀ s c f, g (State.modCls s c f) = g s) : g (s.respondMem r isData d poison) = g s := by
  unfold State.respondMem
  simp only []
  split
  · rw [hc]
    split
    · rw [ht, ho]
    · rw [ho]
  · rfl
@[simp] theorem State.respondMem_tiles (s : State) (r : Req) (isData : Bool) (d : Line) (poison : Bool) :
    (s.respondMem r isData d poison).tiles = s.tiles := s.respondMem_keeps State.tiles r isData d poison (by simp) (by simp) (by simp)
@[simp] theorem State.respondMem_tile (s : State) (r : Req) (isData : Bool) (d : Line) (poison : Bool) (v : Nat) :
    (s.respondMem r isData d poison).tile v = s.tile v := by simp [State.tile]
@[simp] theorem State.respondMem_obj (s : State) (r : Req) (isData : Bool) (d : Line) (poison : Bool) :
    (s.respondMem r isData d poison).obj = s.obj := s.respondMem_keeps State.obj r isData d poison (by simp) (by simp) (by simp)
@[simp] theorem State.respondMem_cell (s : State) (r : Req) (isData : Bool) (d : Line) (poison : Bool) (k x : Nat) :
    (s.respondMem r isData d poison).cell k x = s.cell k x := by simp [State.cell]

theorem State.booked_countPath (s : State) (t path : Nat) : s.Booked (s.countPath t path) := by
  unfold State.countPath
  split
  case h_7 => exact .refl s
  all_goals exact s.booked_tcount _ _ _
theorem State.booked_checkBound (s : State) (r : Req) (path slot hops : Nat) : s.Booked (s.checkBound r path slot hops) :=
  .ite (((s.booked_raise _ _ _).trans (State.booked_tev ..)).trans (State.booked_degrade _)) (.refl s)
/-- A host read is answered by a response after bookkeeping. -/
theorem State.answerRead_cxl (s : State) (t : Nat) (r : Req) (path slot hops : Nat) (d : Line) (poison : Bool) (hr : r.iface = .cxl) :
    ∃ u, s.Booked u ∧ s.answerRead t r path slot hops d poison = u.respondMem r true d poison := by
  unfold State.answerRead
  extract_lets svc s1 s2
  rw [hr]
  exact ⟨s2, (((s.booked_modRd t _).trans (State.booked_countPath _ t path)).trans (State.booked_checkBound ..)).trans
    (State.booked_leaveIngress _ r), rfl⟩

end Sys2Proof.Machine
end

section
/-! Proofs of 02_address_space.md: reads of FRESH and of resident lines (R55, R104, R105, R362, R364). -/
namespace Sys2Proof.Machine
open Sys2Proof

/-! ### From the flit to the lookup (R45 to R56, R336) -/

theorem State.booked_decoded (s : State) (p : Nat) : s.Booked (s.decoded p) := (s.booked_modPort p _ (by simp)).trans (State.booked_tcount ..)
theorem State.up_of_memPort {s : State} {p : Nat} (h : s.memPort p = true) : (s.port p).up = true := by
  simp only [State.memPort, Bool.and_eq_true] at h
  obtain ⟨⟨⟨-, hup⟩, -⟩, -⟩ := h
  exact hup

/-- The state in which request `r` of a flit of port `p`, admitted at tile `t`, goes to its lookup. -/
def State.admitted (s : State) (p t : Nat) (r : Req) : State := ((s.decoded p).admitFeed t r).1
/-- The request as it goes to its lookup, with its admission time. -/
def State.admittedReq (s : State) (p : Nat) (r : Req) : Req := { r with admittedAt := (s.decoded p).now r.home }

theorem State.booked_admitted (s : State) (p t : Nat) (r : Req) : s.Booked (s.admitted p t r) :=
  (s.booked_decoded p).trans (State.booked_admitFeed _ t r)

section
variable {s : State} {f : Flit} {r : Req} {t : Nat} (h : s.Admits f r t)
include h

/-- A request that is admitted at once goes to its lookup. -/
theorem State.Admits.decodeFlit (pred : Nat) :
    s.decodeFlit f pred = (s.admitted f.port t r).lookup t (s.admittedReq f.port r) pred := by
  obtain ⟨kx, dpa, part, tile, lla, hroute, hr⟩ := h.request
  have offered : s.decodeFlit f pred = (s.decoded f.port).offer r pred := by
    simp only [State.decodeFlit, h.port, hroute, ← hr, h.active, Bool.not_true, if_false, Bool.false_eq_true]
    rfl
  simp only [offered, State.offer, h.rights, h.server, h.room, h.first, Bool.not_false, Bool.and_self, if_true]
  rfl
theorem State.Admits.iface : r.iface = .cxl := by
  obtain ⟨_, _, _, _, _, -, rfl⟩ := h.request
  rfl
theorem State.Admits.write : r.write = f.write := by
  obtain ⟨_, _, _, _, _, -, rfl⟩ := h.request
  rfl
theorem State.Admits.up : (s.port r.port).up = true := by
  obtain ⟨_, _, _, _, _, -, rfl⟩ := h.request
  exact State.up_of_memPort h.port

end

/-- An admitted read goes to the read lookup of its tile. -/
theorem State.Admits.exec_memRd {s : State} {r : Req} {port id tag hpa t : Nat}
    (h : s.Admits { port := port, id := id, tag := tag, hpa := hpa, write := false, mask := fullMask, data := 0, poison := false } r t) (pred : Nat) :
    exec (.memRd port id tag hpa pred) s = .next ((s.admitted port t r).lookupRead t (s.admittedReq port r) pred) := by
  have read : (s.admittedReq port r).write ≠ true := ne_true_of_eq_false h.write
  exact congrArg Host.Outcome.next ((h.decodeFlit pred).trans (if_neg read))

/-! ### From the lookup to the answer (R55, R104, R105) -/

/-- From `s` to `u` nothing is handed over, no link goes up or down, and medium and map stand. -/
structure State.Quiet (s u : State) : Prop where
  out : u.out = s.out
  up : ∀ p, (u.port p).up = (s.port p).up
  medium : s.SameMedium u

theorem State.SameMedium.trans {s t u : State} (a : s.SameMedium t) (b : t.SameMedium u) : s.SameMedium u :=
  fun v => ⟨(b v).1.trans (a v).1, (b v).2.trans (a v).2⟩
theorem State.Booked.quiet {s u : State} (h : s.Booked u) : s.Quiet u := ⟨h.out, h.up, h.sameMedium⟩
theorem State.Quiet.trans {s t u : State} (a : s.Quiet t) (b : t.Quiet u) : s.Quiet u :=
  ⟨b.out.trans a.out, fun p => (b.up p).trans (a.up p), a.medium.trans b.medium⟩
theorem State.quiet_modRes (s : State) (t : Nat) (f : TileRes → TileRes) : s.Quiet (s.modRes t f) :=
  ⟨rfl, fun _ => rfl, fun v => ⟨State.modTile_keeps Tile.med s t v _ (fun _ => rfl), State.modTile_keeps Tile.map s t v _ (fun _ => rfl)⟩⟩
/-- A host read that ends after nothing else was handed over is answered, and no medium and no map has changed. -/
theorem State.Quiet.answerRead {s u : State} (h : s.Quiet u) (t : Nat) (r : Req) (path slot hops : Nat) (d : Line) (poison : Bool)
    (hr : r.iface = .cxl) (hup : (s.port r.port).up = true) :
    s.Answers (u.answerRead t r path slot hops d poison) r true d poison ∧ s.SameMedium (u.answerRead t r path slot hops d poison) := by
  obtain ⟨v, hbook, heq⟩ := u.answerRead_cxl t r path slot hops d poison hr
  have hquiet : s.Quiet v := h.trans hbook.quiet
  rw [heq]
  obtain ⟨load, hout⟩ := v.respondMem_out r true d poison ((hquiet.up _).trans hup)
  refine ⟨⟨load, hquiet.out ▸ hout⟩, fun w => ?_⟩
  rw [State.respondMem_tile]
  exact hquiet.medium w

/-- A line of a FRESH segment that its owner does not hold reads as zeros (R55). -/
theorem State.lookupRead_of_fresh (s : State) (t : Nat) (r : Req) (pred : Nat) (ht : t = r.tile)
    (hnone : (s.tile t).res.find r.lla t = none) (hroot : s.rootLost t r.part = false)
    (hfresh : ((s.tile t).map.entry (lsegOf r.lla)).st = .fresh) :
    ∃ u, s.Quiet u ∧ s.lookupRead t r pred = u.answerRead t r 2 0 (s.reqHops r t) 0 false := by
  subst ht
  refine ⟨_, ((s.booked_giveNibs r.tile r).trans (State.booked_tcount _ r.tile Cn.ZERO_LINE_READS 1)).quiet, ?_⟩
  simp [State.lookupRead, hnone, hroot, hfresh]

/-- The entry that a read finds is the one used last (R134). -/
def State.used (s : State) (t : Nat) (r : Req) (e : Entry) : State :=
  (s.giveNibs t r).modRes t (fun x => { x.setEntry e.id (fun e => { e with used := x.seqCtr }) with seqCtr := x.seqCtr + 1 })
theorem State.quiet_used (s : State) (t : Nat) (r : Req) (e : Entry) : s.Quiet (s.used t r e) :=
  (s.booked_giveNibs t r).quiet.trans (State.quiet_modRes ..)
/-- A read that finds an entry which is not PARTIAL ends with the entry's plaintext, or with poison when the line is lost (R105, R291). -/
theorem State.hit_of_whole (s : State) (t : Nat) (r : Req) (e : Entry) (poison : Bool) (hst : e.st ≠ .incomplete)
    (hp : (e.poisoned || (s.tile r.tile).isLost r.lla) = poison) :
    ∃ u, s.Quiet u ∧ s.hit t r e = u.answerRead t r 1 0 (s.reqHops r t)
      (if poison then 0 else s.entryPlain r.tile e r.kx) poison := by
  subst hp
  have pinned : (s.used t r e).Booked (if e.st = .pinned then (s.used t r e).tcount t Cn.PINNED_READS 1 else s.used t r e) :=
    (State.booked_tcount ..).ite (.refl _)
  have rekeyed (u : State) (c : Prop) [Decidable c] : u.Booked (if c then u.tcount t Cn.REKEYED_READS 1 else u) := (u.booked_tcount ..).ite (.refl u)
  exact ⟨_, (s.quiet_used t r e).trans (pinned.trans (rekeyed _ _)).quiet, if_neg hst⟩
/-- The lookup of a read that finds its line resident, at the owner or at its stand-in (R104, R257). -/
theorem State.lookupRead_of_resident (s : State) (t : Nat) (r : Req) (pred : Nat) (e : Entry) (poison : Bool)
    (hfind : (s.tile t).res.find r.lla r.tile = some e) (hst : e.st ≠ .incomplete)
    (hp : (e.poisoned || (s.tile r.tile).isLost r.lla) = poison) :
    ∃ u hops, s.Quiet u ∧ s.lookupRead t r pred = u.answerRead t r 1 0 hops
      (if poison then 0 else s.entryPlain r.tile e r.kx) poison := by
  obtain ⟨found, hbook, hlook⟩ : ∃ w, s.Booked w ∧ s.lookupRead t r pred = w.hit t r e := by
    simp only [State.lookupRead, hfind]
    exact ⟨_, (s.booked_tcount t Cn.STANDIN_READS 1).ite (.refl s), rfl⟩
  obtain ⟨u, hquiet, hhit⟩ := found.hit_of_whole t r e poison hst (by rw [hbook.isLost]; exact hp)
  rw [hbook.entryPlain] at hhit
  exact ⟨u, _, hbook.quiet.trans hquiet, hlook.trans hhit⟩

section
variable {s : State} {r : Req} {port id tag hpa t : Nat}
  (h : s.Admits { port := port, id := id, tag := tag, hpa := hpa, write := false, mask := fullMask, data := 0, poison := false } r t)
include h

/-- An admitted read is answered when its lookup ends with an answer. -/
theorem State.Admits.memRd_answers (pred : Nat) {u : State} {path slot hops : Nat} {d : Line} {poison : Bool} (hquiet : (s.admitted port t r).Quiet u)
    (hlook : (s.admitted port t r).lookupRead t (s.admittedReq port r) pred = u.answerRead t (s.admittedReq port r) path slot hops d poison) :
    ∃ v, exec (.memRd port id tag hpa pred) s = .next v ∧ s.Answers v r true d poison ∧ s.SameMedium v :=
  ⟨_, (h.exec_memRd pred).trans (congrArg Host.Outcome.next hlook),
    ((s.booked_admitted port t r).quiet.trans hquiet).answerRead t (s.admittedReq port r) path slot hops d poison h.iface h.up⟩
/-- The read of a FRESH line answers zeros. -/
theorem State.Admits.memRd_of_fresh (pred : Nat) (ht : t = r.tile) (hnone : (s.tile t).res.find r.lla t = none) (hroot : s.rootLost t r.part = false)
    (hfresh : ((s.tile t).map.entry (lsegOf r.lla)).st = .fresh) :
    ∃ u, exec (.memRd port id tag hpa pred) s = .next u ∧ s.Answers u r true 0 false ∧ s.SameMedium u := by
  have hbook := s.booked_admitted port t r
  obtain ⟨u, hquiet, hlook⟩ := (s.admitted port t r).lookupRead_of_fresh t (s.admittedReq port r) pred ht
    (by rw [hbook.res]; exact hnone) (by rw [hbook.rootLost]; exact hroot) (by rw [hbook.map]; exact hfresh)
  exact h.memRd_answers pred hquiet hlook
/-- The read of a resident line answers its entry's plaintext, or poison when the line is lost. -/
theorem State.Admits.memRd_of_resident (pred : Nat) (e : Entry) (poison : Bool) (hfind : (s.tile t).res.find r.lla r.tile = some e)
    (hst : e.st ≠ .incomplete) (hp : (e.poisoned || (s.tile r.tile).isLost r.lla) = poison) :
    ∃ u, exec (.memRd port id tag hpa pred) s = .next u ∧ s.Answers u r true (if poison then 0 else s.entryPlain r.tile e r.kx) poison ∧
      s.SameMedium u := by
  have hbook := s.booked_admitted port t r
  obtain ⟨u, hops, hquiet, hlook⟩ := (s.admitted port t r).lookupRead_of_resident t (s.admittedReq port r) pred e poison
    (by rw [hbook.res]; exact hfind) hst (by rw [hbook.isLost]; exact hp)
  rw [hbook.entryPlain] at hlook
  exact h.memRd_answers pred hquiet hlook

end

/-- Settles O7: a FRESH line and a resident entry are each a branch of the lookup that ends with the answer. -/
theorem hostReadsAnswer : Obligations.HostReadsAnswer := by
  unfold Obligations.HostReadsAnswer
  refine ⟨fun _ _ _ _ pred _ _ _ _ h => h.memRd_of_fresh pred, fun port id tag hpa pred s r t e _ h hfind hst => ?_, fun _ _ _ _ _ => rfl⟩
  cases hp : e.poisoned || (s.tile r.tile).isLost r.lla with
  | true =>
    obtain ⟨u, hexec, hans, hmed⟩ := h.memRd_of_resident pred e true hfind hst hp
    exact ⟨u, hexec, hmed, hans⟩
  | false =>
    obtain ⟨u, hexec, hans, hmed⟩ := h.memRd_of_resident pred e false hfind hst hp
    exact ⟨u, hexec, hmed, hans⟩

end Sys2Proof.Machine
end

section
/-! Proofs of 02_address_space.md: requests that are refused (R50, R273 to R275, R362). -/
namespace Sys2Proof.Machine
open Sys2Proof

/-! ### LAST_VIOLATION (R275) -/

/-- The value of `LAST_VIOLATION`: time, DPA, class, interface, cause. -/
def lastViolation (now dpa cls iface cause : Nat) : Nat :=
  now % 2 ^ 64 * 2 ^ 64 + dpa % 2 ^ 44 * 2 ^ 20 + cls % 256 * 2 ^ 12 + iface % 16 * 2 ^ 8 + cause % 256
theorem lastViolation_cause (now dpa cls iface cause : Nat) : lastViolation now dpa cls iface cause % 256 = cause % 256 := by
  unfold lastViolation
  omega
theorem lastViolation_dpa (now dpa cls iface cause : Nat) : lastViolation now dpa cls iface cause / 2 ^ 20 % 2 ^ 44 = dpa % 2 ^ 44 := by
  unfold lastViolation
  omega

theorem State.booked_violate (s : State) (tile cls iface cause dpa quantity : Nat) : s.Booked (s.violate tile cls iface cause dpa quantity) := by
  unfold State.violate
  extract_lets b s1 s2
  have noted : s.Booked s2 := (State.Booked.ite (.refl s) (s.booked_raise _ _ _)).trans (State.booked_setCell ..)
  split
  · exact noted.trans ((State.booked_tcount ..).trans (State.booked_tev ..))
  · exact noted.trans ((State.booked_tcount ..).trans (State.booked_tev ..))
  · exact noted
  · exact noted.trans (State.booked_tev ..)
theorem State.violate_last (s : State) (tile cls iface cause dpa quantity : Nat) :
    (s.violate tile cls iface cause dpa quantity).cell Ob.LAST_VIOLATION 0 = lastViolation (s.now tile) dpa cls iface cause := by
  unfold State.violate
  extract_lets b s1 s2
  have noted : s2.cell Ob.LAST_VIOLATION 0 = lastViolation (s.now tile) dpa cls iface cause := State.cell_setCell_same ..
  split <;> simpa using noted

/-! ### The answer to a refused host request (R273, R274) -/

/-- A refused host request is answered by a response after bookkeeping that leaves the violation in `LAST_VIOLATION`. -/
theorem State.refuse_cxl (s : State) (r : Req) (cause dpa quantity : Nat) (hr : r.iface = .cxl) :
    ∃ u, s.Booked u ∧ u.cell Ob.LAST_VIOLATION 0 = lastViolation (s.now r.home) dpa r.cls (r.iface.code r.write) cause ∧
      s.refuse r cause dpa quantity = u.respondMem r (!r.write) 0 (!r.write) := by
  unfold State.refuse State.answerViolation
  simp only [hr]
  exact ⟨_, (s.booked_violate ..).trans (State.booked_tcount ..), by rw [State.tcount_cell, State.violate_last], rfl⟩

/-- Between `s` and `u` host request `r` is refused for `cause`: a read answers poison, a write is completed, `LAST_VIOLATION` holds cause and DPA, no
line changes. -/
structure State.Refuses (s u : State) (r : Req) (cause dpa : Nat) : Prop where
  answer : s.Answers u r (!r.write) 0 (!r.write)
  cause : u.cell Ob.LAST_VIOLATION 0 % 256 = cause % 256
  dpa : u.cell Ob.LAST_VIOLATION 0 / 2 ^ 20 % 2 ^ 44 = dpa % 2 ^ 44
  res : ∀ v, (u.tile v).res = (s.tile v).res
  medium : s.SameMedium u

theorem State.Booked.refuses {s w : State} (h : s.Booked w) (r : Req) (cause dpa quantity : Nat) (hr : r.iface = .cxl)
    (hup : (s.port r.port).up = true) : s.Refuses (w.refuse r cause dpa quantity) r cause dpa := by
  obtain ⟨u, hviolate, hlast, heq⟩ := w.refuse_cxl r cause dpa quantity hr
  have hbook : s.Booked u := h.trans hviolate
  obtain ⟨load, hout⟩ := u.respondMem_out r (!r.write) 0 (!r.write) ((hbook.up _).trans hup)
  rw [heq]
  refine ⟨⟨load, hbook.out ▸ hout⟩, ?_, ?_, fun v => ?_, fun v => ?_⟩
  · rw [State.respondMem_cell, hlast, lastViolation_cause]
  · rw [State.respondMem_cell, hlast, lastViolation_dpa]
  · rw [State.respondMem_tile, hbook.res]
  · rw [State.respondMem_tile]
    exact hbook.sameMedium v

/-! ### The refused requests -/

/-- An address that no LD covers is a violation found at decode (R50). -/
theorem State.decodeFlit_refuses (s : State) (f : Flit) (pred cause dpa q : Nat) (hport : s.memPort f.port = true)
    (hroute : s.routeHpa f.port f.id f.hpa = .violation cause dpa q) :
    s.Refuses (s.decodeFlit f pred) (s.reqOf f 0 dpa 0 0 0) cause dpa := by
  have refused : s.decodeFlit f pred = (s.decoded f.port).refuse (s.reqOf f 0 dpa 0 0 0) cause dpa q := by
    simp only [State.decodeFlit, hport, hroute, Bool.not_true, if_false, Bool.false_eq_true]
    rfl
  rw [refused]
  exact (s.booked_decoded f.port).refuses _ cause dpa q rfl (State.up_of_memPort hport)

/-- The flit of an unsupported opcode, which expects data or not (R362). -/
def undefinedFlit (port id tag hpa : Nat) (expectsData : Bool) : Flit :=
  { port := port, id := id, tag := tag, hpa := hpa, write := !expectsData, mask := 0, data := 0, poison := false }
theorem exec_memUndefinedOpcode (port id tag hpa : Nat) (expectsData : Bool) (s : State) (hport : s.memPort port = true) :
    ∃ u dpa, exec (.memUndefinedOpcode port id tag hpa expectsData) s = .next u ∧
      s.Refuses u (s.reqOf (undefinedFlit port id tag hpa expectsData) 0 dpa 0 0 0) 7 dpa :=
  ⟨_, _, congrArg Host.Outcome.next (if_pos hport), (s.booked_tcount port Cn.DECODES 1).refuses _ 7 _ _ rfl (State.up_of_memPort hport)⟩

/-- The flit of a MemInv (R362). -/
def invFlit (port id tag : Nat) : Flit :=
  { port := port, id := id, tag := tag, hpa := 0, write := false, mask := 0, data := 0, poison := false }
theorem exec_memInv (port id tag : Nat) (s : State) (hport : s.memPort port = true) : exec (.memInv port id tag) s =
    .next ((s.tcount port Cn.DECODES 1).respondMem (s.reqOf (invFlit port id tag) 0 0 0 0 0) false 0 false) :=
  congrArg Host.Outcome.next (if_pos hport)

/-- Settles O10: each refusal ends in `State.Refuses`; a MemInv is a decode count and a completion. -/
theorem refusedRequests : Obligations.RefusedRequests := by
  unfold Obligations.RefusedRequests
  refine ⟨fun port id tag hpa pred q s hport hroute => ?read, fun port id tag hpa q data poison s hport hroute => ?write,
    fun port id tag hpa expectsData s hport => ?opcode, fun port id tag s hport => ?inv⟩
  case read =>
    obtain ⟨⟨load, hout⟩, hcause, hdpa, hres, hmed⟩ := s.decodeFlit_refuses
      { port := port, id := id, tag := tag, hpa := hpa, write := false, mask := fullMask, data := 0, poison := false } pred 2 noDpa q hport hroute
    exact ⟨_, load, _, rfl, hout, hcause, hdpa, hres, hmed⟩
  case write =>
    obtain ⟨⟨load, hout⟩, hcause, -, hres, hmed⟩ := s.decodeFlit_refuses
      { port := port, id := id, tag := tag, hpa := hpa, write := true, mask := fullMask, data := data, poison := poison } 0 2 noDpa q hport hroute
    exact ⟨_, load, _, rfl, hout, hcause, hres, hmed⟩
  case opcode =>
    obtain ⟨u, dpa, hexec, ⟨load, hout⟩, hcause, -, hres, hmed⟩ := exec_memUndefinedOpcode port id tag hpa expectsData s hport
    have hdata : (!(s.reqOf (undefinedFlit port id tag hpa expectsData) 0 dpa 0 0 0).write) = expectsData := Bool.not_not expectsData
    rw [hdata] at hout
    exact ⟨u, load, _, hexec, hout, hcause, hres, hmed⟩
  case inv =>
    obtain ⟨load, hout⟩ := (s.tcount port Cn.DECODES 1).respondMem_out (s.reqOf (invFlit port id tag) 0 0 0 0 0) false 0 false
      (by rw [State.tcount_port]; exact State.up_of_memPort hport)
    rw [State.tcount_out] at hout
    exact ⟨_, load, _, exec_memInv port id tag s hport, hout, by simp, by simp⟩

end Sys2Proof.Machine
end

section
/-! Proofs of 03_line_code.md: how a free mailbox ends its command (R377, R378, R432). -/
namespace Sys2Proof.Machine
open Sys2Proof

/-- A free mailbox runs its command at once when the device state gives no error (R377, R432). -/
theorem State.MailboxFree.mailbox {s : State} {p l : Nat} (h : s.MailboxFree p l) (op : Nat) (n : Needs) (f : State → MbEnd)
    (hn : s.needsFault n = none) : s.mailbox p l op n f = (f s).st.completed p l op (f s).rc (f s).out := by
  have hcore : s.mgmt.active.isNone = false := by rw [← Option.not_isSome, h.core, Bool.not_true]
  simp only [State.mailbox, h.here, h.free, h.powered, hcore, h.noBusy, hn, Bool.not_true, Bool.false_eq_true, or_self, if_false]
  exact if_neg h.powered
/-- In service the objects behind a command take writes (R432). -/
theorem State.needsFault_write_of_inService {s : State} (h : s.inService = true) : s.needsFault .write = none := by
  have hready : s.notReady = false := by simp [State.notReady, h]
  have hup : s.shutting = false := by
    obtain hst | hst := of_decide_eq_true h <;> simp [State.shutting, hst]
  simp [State.needsFault, hready, hup]

theorem State.completed_out (s : State) (p l op rc : Nat) (out : List Nat) :
    (s.completed p l op rc out).out = s.out ++ [Response.mailbox p l op rc out] := State.tcount_out ..
theorem State.completed_completes (s : State) (p l op rc : Nat) (out : List Nat) : (s.completed p l op rc out).Completes p l op rc out :=
  ⟨_, s.completed_out p l op rc out⟩
@[simp] theorem State.completed_tiles (s : State) (p l op rc : Nat) (out : List Nat) : (s.completed p l op rc out).tiles = s.tiles :=
  State.tcount_tiles ..
@[simp] theorem State.completed_tile (s : State) (p l op rc : Nat) (out : List Nat) (v : Nat) : (s.completed p l op rc out).tile v = s.tile v :=
  State.tcount_tile ..
@[simp] theorem State.completed_svc (s : State) (p l op rc : Nat) (out : List Nat) : (s.completed p l op rc out).svc = s.svc := State.tcount_svc ..
@[simp] theorem State.completed_obj (s : State) (p l op rc : Nat) (out : List Nat) : (s.completed p l op rc out).obj = s.obj := State.tcount_obj ..
@[simp] theorem State.completed_keys (s : State) (p l op rc : Nat) (out : List Nat) : (s.completed p l op rc out).keys = s.keys := State.tcount_keys ..
@[simp] theorem State.completed_parts (s : State) (p l op rc : Nat) (out : List Nat) : (s.completed p l op rc out).parts = s.parts :=
  State.tcount_parts ..
@[simp] theorem State.completed_queues (s : State) (p l op rc : Nat) (out : List Nat) : (s.completed p l op rc out).queues = s.queues :=
  State.tcount_queues ..

end Sys2Proof.Machine
end

section
/-! Proofs of 03_line_code.md: the write of a whole line that is not resident, as the device makes it for a mailbox (R126, R133, R134, R363, R382). -/
namespace Sys2Proof.Machine
open Sys2Proof

/-! ### What the acceptance of a write leaves alone -/

/-- From `s` to `u` nothing is handed over, and media, maps and the entries of every reservoir stand. -/
structure State.KeepsEntries (s u : State) : Prop extends State.Quiet s u where
  entries : ∀ v, (u.tile v).res.entries = (s.tile v).res.entries

theorem State.Booked.keepsEntries {s u : State} (h : s.Booked u) : s.KeepsEntries u := ⟨h.quiet, fun v => congrArg TileRes.entries (h.res v)⟩
theorem State.KeepsEntries.trans {s t u : State} (a : s.KeepsEntries t) (b : t.KeepsEntries u) : s.KeepsEntries u :=
  ⟨a.toQuiet.trans b.toQuiet, fun v => (b.entries v).trans (a.entries v)⟩
theorem State.KeepsEntries.find {s u : State} (h : s.KeepsEntries u) (v addr owner : Nat) :
    (u.tile v).res.find addr owner = (s.tile v).res.find addr owner := by
  simp only [TileRes.find, h.entries]
theorem State.keepsEntries_modRes (s : State) (t : Nat) (f : TileRes → TileRes) (hf : ∀ x, (f x).entries = x.entries) :
    s.KeepsEntries (s.modRes t f) :=
  ⟨s.quiet_modRes t f, fun v => State.modTile_keeps (fun x => x.res.entries) s t v _ (fun x => hf x.res)⟩
theorem State.keepsEntries_shadowFor (s : State) (t owner : Nat) (add : Bool) (kind addr : Nat) :
    s.KeepsEntries (s.shadowFor t owner add kind addr) := by
  unfold State.shadowFor
  simp only []
  split
  · exact (State.Booked.refl s).keepsEntries
  · split
    · exact s.keepsEntries_modRes _ _ (fun _ => rfl)
    · have noted := s.keepsEntries_modRes (s.mirrorOf t) (fun r => r.shadowOp add { owner := owner, kind := kind, addr := addr }) (fun _ => rfl)
      exact noted.trans (State.booked_ringSend ..).keepsEntries
theorem State.shadowFor_tiles_length (s : State) (t owner : Nat) (add : Bool) (kind addr : Nat) :
    (s.shadowFor t owner add kind addr).tiles.length = s.tiles.length := by
  unfold State.shadowFor
  simp only []
  split
  · rfl
  · split <;> simp
theorem State.keepsEntries_noteGate (s : State) (t : Nat) : s.KeepsEntries (s.noteGate t) := by
  have noted := s.keepsEntries_modRes t (fun r => { r with gateWas := s.gate t }) (fun _ => rfl)
  unfold State.noteGate
  simp only []
  split
  · exact noted.trans (State.booked_tev ..).keepsEntries
  · exact noted
/-- The acknowledgement of the device's own write goes to nobody. -/
theorem State.booked_ackWrite_of_maint (s : State) (t : Nat) (r : Req) (hr : r.iface = .maint) : s.Booked (s.ackWrite t r) := by
  simp only [State.ackWrite, hr]
  exact (s.booked_modRd _ _).trans (State.booked_leaveIngress ..)
/-- The device's own write is accepted, or waits for its mirror. -/
theorem State.keepsEntries_accepted (s : State) (t : Nat) (r new : Req) (created : Bool) (hr : r.iface = .maint) :
    s.KeepsEntries (s.accepted t r new created) := by
  have logged (k : Nat) : s.KeepsEntries ((s.modRes t (fun x => x.log r)).tcount t k 1) :=
    (s.keepsEntries_modRes t (fun x => x.log r) (fun _ => rfl)).trans (State.booked_tcount ..).keepsEntries
  unfold State.accepted
  simp only []
  split
  · exact s.keepsEntries_modRes _ _ (fun _ => rfl)
  · split
    · exact (logged _).trans (State.keepsEntries_modRes _ _ _ (fun _ => rfl))
    · exact (logged _).trans (State.booked_ackWrite_of_maint _ t r hr).keepsEntries
/-- A written poison is an entry of the poison list and bookkeeping (R363). -/
theorem State.booked_poisonWritten (s : State) (t : Nat) (r : Req) : (s.poisonLine r.tile r.lla 1).Booked (s.poisonWritten t r) :=
  ((State.Booked.ite (State.booked_raise ..) (.refl _)).trans (State.booked_tcount ..)).trans (State.booked_tev ..)

/-! ### A line that finds no entry (R133, R134) -/

/-- A new entry stands in front of the entries of its tile, in its set or as an overflow entry. -/
theorem TileRes.place_entries (r : TileRes) (e : Entry) : ∃ beyond rest,
    (r.place e).1.entries = { e with id := r.seqCtr, stamp := r.seqCtr, used := r.seqCtr, overflow := beyond } :: rest := by
  unfold TileRes.place
  simp only []
  split
  · exact ⟨e.overflow, _, rfl⟩
  · exact ⟨e.overflow, _, rfl⟩
  · exact ⟨true, _, rfl⟩
theorem TileRes.find_place (r : TileRes) (e : Entry) : ∃ beyond, (r.place e).1.find e.addr e.owner =
    some { e with id := r.seqCtr, stamp := r.seqCtr, used := r.seqCtr, overflow := beyond } := by
  obtain ⟨beyond, rest, h⟩ := r.place_entries e
  exact ⟨beyond, by simp [TileRes.find, h]⟩

/-- The entry of a whole line as it is written. -/
def Req.entry (r : Req) : Entry :=
  { Entry.empty .data r.part r.lla r.tile with
    st := .dirty, mask := fullMask, dpa := r.dpa, kx := r.kx, data := r.data, blank := r.zero, poisoned := r.poison }
/-- Tile `t` with the entry of request `r` placed. -/
def State.placed (s : State) (t : Nat) (r : Req) : State := s.modRes t (fun x => (x.place r.entry).1)
theorem State.placed_tiles_length (s : State) (t : Nat) (r : Req) : (s.placed t r).tiles.length = s.tiles.length := State.modTile_tiles_length ..
theorem State.placed_find (s : State) (t : Nat) (r : Req) (ht : t < s.tiles.length) : ∃ e, ((s.placed t r).tile t).res.find r.lla r.tile = some e ∧
    e.st = .dirty ∧ e.data = r.data ∧ e.mask = fullMask ∧ e.kx = r.kx := by
  obtain ⟨beyond, h⟩ := (s.tile t).res.find_place r.entry
  rw [State.placed, State.modRes_eq, State.tile_modTile_same _ _ _ ht]
  exact ⟨_, h, rfl, rfl, rfl, rfl⟩

/-- What is left of `mergeNew` once the entry is placed and its address is in the shadow: poison, acceptance, gate. -/
theorem State.mergeNew_placed (s : State) (t : Nat) (r : Req) : ∃ w, (s.placed t r).KeepsEntries w ∧ w.tiles.length = s.tiles.length ∧
    s.mergeNew t r = ((if r.poison then w.poisonWritten t r else w).accepted t r r true).noteGate t := by
  have counted (c : Prop) [Decidable c] : (s.placed t r).Booked (if c then (s.placed t r).tcount t Cn.OVERFLOW_ENTRIES 1 else s.placed t r) :=
    (State.booked_tcount ..).ite (.refl _)
  refine ⟨_, (counted _).keepsEntries.trans (State.keepsEntries_shadowFor _ t r.tile true 1 r.lla), ?_, rfl⟩
  rw [State.shadowFor_tiles_length]
  split
  · rw [State.tcount_tiles, State.placed_tiles_length]
  · exact s.placed_tiles_length t r
theorem State.mergeNew_of_plain (s : State) (t : Nat) (r : Req) (hr : r.iface = .maint) (hp : r.poison = false) :
    (s.placed t r).KeepsEntries (s.mergeNew t r) := by
  obtain ⟨w, hw, -, heq⟩ := s.mergeNew_placed t r
  rw [heq, hp, if_neg Bool.false_ne_true]
  exact (hw.trans (w.keepsEntries_accepted t r r true hr)).trans (State.keepsEntries_noteGate ..)
theorem State.mergeNew_of_poison (s : State) (t : Nat) (r : Req) (hr : r.iface = .maint) (hp : r.poison = true) :
    ∃ w, (s.placed t r).KeepsEntries w ∧ w.tiles.length = s.tiles.length ∧ (w.poisonLine r.tile r.lla 1).KeepsEntries (s.mergeNew t r) := by
  obtain ⟨w, hw, hlen, heq⟩ := s.mergeNew_placed t r
  rw [heq, if_pos hp]
  exact ⟨w, hw, hlen, ((w.booked_poisonWritten t r).keepsEntries.trans (State.keepsEntries_accepted _ t r r true hr)).trans
    (State.keepsEntries_noteGate ..)⟩

/-! ### The device's own write of a whole line (R363, R382) -/

/-- A write of a whole line that the device makes itself; with poison its data is zeros (R363). -/
structure Req.OwnWrite (r : Req) : Prop where
  iface : r.iface = .maint
  write : r.write = true
  single : r.atom = 0
  whole : r.mask = fullMask
  zeros : r.poison = true → r.data = 0

theorem mailboxWrite_own (s : State) (p l kx dpa part tile lla : Nat) (data : Line) (poison : Bool) (h : poison = true → data = 0) :
    (mailboxWrite s p l kx dpa part tile lla data poison).OwnWrite := ⟨rfl, rfl, rfl, rfl, h⟩

section
variable {r : Req} (hr : r.OwnWrite)
include hr

theorem Req.OwnWrite.giveNibs (s : State) (t : Nat) : s.giveNibs t r = s :=
  if_neg (by simp [Req.needsNib, hr.write, hr.single, hr.whole])
theorem Req.OwnWrite.zeroed : (if r.poison then { r with mask := fullMask, data := 0 } else r) = r := by
  split
  next hp => rw [← hr.zeros hp, ← hr.whole]
  next => rfl

variable {s : State} {t : Nat} (ht : r.tile = t) (hlost : (s.tile t).isLost r.lla = false) (hroot : s.rootLost t r.part = false)
  (hnone : (s.tile t).res.find r.lla t = .none)
include ht hlost hroot hnone

theorem Req.OwnWrite.lookup (pred : Nat) : s.lookup t r pred = (s.mergeNew t r).noteGate t := by
  subst ht
  simp only [State.lookup, State.lookupWrite, hr.zeroed]
  simp only [hr.giveNibs, hr.write, hr.single, hr.whole, hlost, hroot, hnone, ne_eq, not_true_eq_false, Bool.false_eq_true, or_self, if_false, if_true]
theorem Req.OwnWrite.mailboxAccept : s.mailboxAccept t r = ((s.takeTokens t r).mergeNew t r).noteGate t := by
  have hbook := s.booked_takeTokens t r
  exact hr.lookup ht (by rw [hbook.isLost]; exact hlost) (by rw [hbook.rootLost]; exact hroot) (by rw [hbook.res]; exact hnone) 0

/-- Without poison the line is DIRTY with the data written. -/
theorem Req.OwnWrite.accepts_plain (hp : r.poison = false) (hlen : t < s.tiles.length) : s.Quiet (s.mailboxAccept t r) ∧
    ∃ e, ((s.mailboxAccept t r).tile t).res.find r.lla t = some e ∧ e.st = .dirty ∧ e.data = r.data ∧ e.mask = fullMask ∧ e.kx = r.kx := by
  have merged := ((s.takeTokens t r).mergeNew_of_plain t r hr.iface hp).trans (State.keepsEntries_noteGate _ t)
  obtain ⟨e, hfind, hentry⟩ := (s.takeTokens t r).placed_find t r (by simpa [State.takeTokens] using hlen)
  rw [hr.mailboxAccept ht hlost hroot hnone]
  refine ⟨((s.booked_takeTokens t r).quiet.trans (State.quiet_modRes ..)).trans merged.toQuiet, e, ?_, hentry⟩
  rw [merged.find, ← hfind, ht]
/-- With poison the line goes into the poison list (R363). -/
theorem Req.OwnWrite.accepts_poison (hp : r.poison = true) : ∃ w, s.Quiet w ∧ w.tiles.length = s.tiles.length ∧
    (w.poisonLine t r.lla 1).Quiet (s.mailboxAccept t r) := by
  obtain ⟨w, hplaced, hlen, hpoison⟩ := (s.takeTokens t r).mergeNew_of_poison t r hr.iface hp
  rw [hr.mailboxAccept ht hlost hroot hnone, ← ht]
  refine ⟨w, ((s.booked_takeTokens t r).quiet.trans (State.quiet_modRes ..)).trans hplaced.toQuiet, ?_, ?_⟩
  · simpa [State.takeTokens] using hlen
  · exact ht ▸ hpoison.toQuiet.trans (State.keepsEntries_noteGate ..).toQuiet

end

end Sys2Proof.Machine
end

section
/-! Proofs of 03_line_code.md: Inject Poison, Clear Poison, Scan Media (R87, R239, R363, R382). -/
namespace Sys2Proof.Machine
open Sys2Proof

/-! ### The poison list (R86, R87, R382) -/

theorem State.server_of_active {s : State} {t : Nat} (h : s.tileActive t = true) (part lseg : Nat) : s.server part t lseg = some t := by
  simp only [State.server, of_decide_eq_true h]
theorem Tile.isLost_of_mem {x : Tile} {p : Poison} (h : p ∈ x.map.poison) : x.isLost p.lla = true :=
  Bool.or_eq_true_iff.2 (.inl (List.any_eq_true.2 ⟨p, h, decide_eq_true rfl⟩))
theorem State.poisonLine_lists (s : State) (t lla source : Nat) (ht : t < s.tiles.length) :
    ∃ p ∈ ((s.poisonLine t lla source).tile t).map.poison, p.lla = lla := by
  rw [State.poisonLine, State.modMap_eq, State.tile_modTile_same _ _ _ ht]
  simp only []
  split
  next h =>
    obtain ⟨p, hp, hlla⟩ := List.any_eq_true.1 h
    exact ⟨p, hp, of_decide_eq_true hlla⟩
  next => exact ⟨_, List.mem_append_right _ (List.mem_singleton_self _), rfl⟩
theorem State.poisonLine_med (s : State) (t lla source v : Nat) : ((s.poisonLine t lla source).tile v).med = (s.tile v).med :=
  State.modTile_keeps Tile.med s t v _ (fun _ => rfl)
/-- A tile that lists a poisoned line is one of the state's. -/
theorem State.listed_of_poison {s : State} {t : Nat} {p : Poison} (h : p ∈ (s.tile t).map.poison) : t < s.tiles.length := by
  by_contra hle
  have hreset : s.tile t = Tile.reset 8 t := by simp [State.tile, List.getD, List.getElem?_eq_none (Nat.le_of_not_lt hle)]
  rw [hreset] at h
  exact absurd h (List.not_mem_nil)
theorem State.sourceOf_lists (s : State) (t lla source : Nat) (h : ∃ p ∈ (s.tile t).map.poison, p.lla = lla) :
    ({ lla := lla, source := source } : Poison) ∈ ((s.sourceOf t lla source).tile t).map.poison := by
  obtain ⟨p, hp, hlla⟩ := h
  rw [State.sourceOf, State.modMap_eq, State.tile_modTile_same _ _ _ (State.listed_of_poison hp)]
  exact List.mem_map.2 ⟨p, hp, by rw [if_pos hlla, ← hlla]⟩
theorem State.sourceOf_med (s : State) (t lla source v : Nat) : ((s.sourceOf t lla source).tile v).med = (s.tile v).med :=
  State.modTile_keeps Tile.med s t v _ (fun _ => rfl)

/-- Off the poison list a line of a logical segment that is not LOST is not LOST. -/
theorem State.unpoisonLine_isLost (s : State) (t lla : Nat) (ht : t < s.tiles.length) (h : ((s.tile t).map.entry (lsegOf lla)).st ≠ .lost) :
    ((s.unpoisonLine t lla).tile t).isLost lla = false := by
  rw [State.unpoisonLine, State.modMap_eq, State.tile_modTile_same _ _ _ ht]
  simp only [Tile.isLost, Bool.or_eq_false_iff, decide_eq_false_iff_not]
  exact ⟨by simp, h⟩
theorem State.unpoisonLine_med (s : State) (t lla v : Nat) : ((s.unpoisonLine t lla).tile v).med = (s.tile v).med :=
  State.modTile_keeps Tile.med s t v _ (fun _ => rfl)
theorem State.unpoisonLine_res (s : State) (t lla v : Nat) : ((s.unpoisonLine t lla).tile v).res = (s.tile v).res :=
  State.modTile_keeps Tile.res s t v _ (fun _ => rfl)
theorem State.unpoisonLine_rootLost (s : State) (t lla v part : Nat) : (s.unpoisonLine t lla).rootLost v part = s.rootLost v part := by
  have hsealing : ((s.unpoisonLine t lla).tile v).sealing = (s.tile v).sealing := State.modTile_keeps Tile.sealing s t v _ (fun _ => rfl)
  simp only [State.rootLost, hsealing]
/-- A line that is not resident has nothing but its place in the list to clear. -/
theorem State.clearLine_of_absent (s : State) (t lla : Nat) (h : (s.tile t).res.find lla t = none) : s.clearLine t t lla = s.unpoisonLine t lla := by
  simp only [State.clearLine, State.unpoisonLine_res, h]

/-! ### Inject and Clear Poison -/

/-- The write that Inject Poison makes. -/
def injectWrite (s : State) (p l dpa part t lla : Nat) : Req := mailboxWrite s p l 0 ((s.alloc p l).1 + dpa) part t lla 0 true
/-- The write that Clear Poison makes of the data given. -/
def clearWrite (s : State) (p l dpa part t lla : Nat) (data : Line) : Req :=
  mailboxWrite s p l (s.cell (ldKey Ob.LD_CLEAR_KX p l) 0) ((s.alloc p l).1 + dpa) part t lla data false

theorem exec_injectPoison {p l dpa part t lla : Nat} {s : State} (hfree : s.MailboxFree p l) (hin : s.inService = true)
    (htest : s.svc.testPermitted = true) (hloc : s.locateLd p l dpa = some (part, t, lla)) (hact : s.tileActive t = true)
    (hlost : (s.tile t).isLost lla = false) : exec (.injectPoison p l dpa) s =
    .next (((s.mailboxAccept t (injectWrite s p l dpa part t lla)).sourceOf t lla 3).completed p l 0x4301 Rc.success []) := by
  refine congrArg Host.Outcome.next ((hfree.mailbox _ _ _ (State.needsFault_write_of_inService hin)).trans ?_)
  simp only [htest, hloc, State.server_of_active hact, hlost, Bool.not_true, Bool.false_eq_true, if_false]
  rfl
theorem injectPoison_loses (p l dpa part t lla : Nat) (s : State) (hfree : s.MailboxFree p l) (hin : s.inService = true) (hs : s.Sized) (ht : t < s.n)
    (htest : s.svc.testPermitted = true) (hloc : s.locateLd p l dpa = some (part, t, lla)) (hact : s.tileActive t = true)
    (hlost : (s.tile t).isLost lla = false) (hroot : s.rootLost t part = false) (hnone : (s.tile t).res.find lla t = none) :
    ∃ u, exec (.injectPoison p l dpa) s = .next u ∧ u.Completes p l 0x4301 Rc.success [] ∧ (u.tile t).isLost lla = true ∧
      ({ lla := lla, source := 3 } : Poison) ∈ (u.tile t).map.poison ∧ (∀ v, (u.tile v).med = (s.tile v).med) := by
  have own : (injectWrite s p l dpa part t lla).OwnWrite := mailboxWrite_own _ _ _ _ _ _ _ _ _ _ (fun _ => rfl)
  obtain ⟨w, hw, hlen, hpoison⟩ := own.accepts_poison (t := t) rfl hlost hroot hnone rfl
  have hlisted : ∃ q ∈ ((s.mailboxAccept t (injectWrite s p l dpa part t lla)).tile t).map.poison, q.lla = lla := by
    rw [(hpoison.medium t).2]
    exact w.poisonLine_lists t lla 1 (by rw [hlen]; exact hs.tile_listed ht)
  have hmem := State.sourceOf_lists _ t lla 3 hlisted
  refine ⟨_, exec_injectPoison hfree hin htest hloc hact hlost, State.completed_completes .., ?_, ?_, fun v => ?_⟩
  · rw [State.completed_tile]
    exact Tile.isLost_of_mem hmem
  · rw [State.completed_tile]
    exact hmem
  · rw [State.completed_tile, State.sourceOf_med, (hpoison.medium v).1, State.poisonLine_med, (hw.medium v).1]

theorem exec_clearPoison {p l dpa part t lla : Nat} (data : Line) {s : State} (hfree : s.MailboxFree p l) (hin : s.inService = true)
    (hloc : s.locateLd p l dpa = some (part, t, lla)) (hact : s.tileActive t = true) (hseg : ((s.tile t).map.entry (lsegOf lla)).st ≠ .lost)
    (hnone : (s.tile t).res.find lla t = none) (hheld : s.keyHeld (s.cell (ldKey Ob.LD_CLEAR_KX p l) 0) = false)
    (hright : s.hasRight (classOf p l) (s.cell (ldKey Ob.LD_CLEAR_KX p l) 0) true = true) : exec (.clearPoison p l dpa data) s =
    .next (((s.unpoisonLine t lla).mailboxAccept t (clearWrite s p l dpa part t lla data)).completed p l 0x4302 Rc.success []) := by
  refine congrArg Host.Outcome.next ((hfree.mailbox _ _ _ (State.needsFault_write_of_inService hin)).trans ?_)
  simp only [hloc, hheld, hright, State.server_of_active hact, hseg, State.clearLine_of_absent s t lla hnone, Bool.not_true, Bool.false_eq_true,
    if_false]
  rfl
theorem clearPoison_writes (p l dpa part t lla : Nat) (data : Line) (s : State) (hfree : s.MailboxFree p l) (hin : s.inService = true) (hs : s.Sized)
    (ht : t < s.n) (hloc : s.locateLd p l dpa = some (part, t, lla)) (hact : s.tileActive t = true)
    (hseg : ((s.tile t).map.entry (lsegOf lla)).st ≠ .lost) (hroot : s.rootLost t part = false) (hnone : (s.tile t).res.find lla t = none)
    (hheld : s.keyHeld (s.cell (ldKey Ob.LD_CLEAR_KX p l) 0) = false)
    (hright : s.hasRight (classOf p l) (s.cell (ldKey Ob.LD_CLEAR_KX p l) 0) true = true) :
    ∃ u e, exec (.clearPoison p l dpa data) s = .next u ∧ u.Completes p l 0x4302 Rc.success [] ∧ (u.tile t).isLost lla = false ∧
      (u.tile t).res.find lla t = some e ∧ e.st = .dirty ∧ e.data = data ∧ e.mask = fullMask ∧ e.kx = s.cell (ldKey Ob.LD_CLEAR_KX p l) 0 ∧
      (∀ v, (u.tile v).med = (s.tile v).med) := by
  have hclear := s.unpoisonLine_isLost t lla (hs.tile_listed ht) hseg
  have own : (clearWrite s p l dpa part t lla data).OwnWrite := mailboxWrite_own _ _ _ _ _ _ _ _ _ _ Bool.noConfusion
  obtain ⟨hquiet, e, hfind, hst, hdata, hmask, hkx⟩ := own.accepts_plain (t := t) rfl hclear ((s.unpoisonLine_rootLost t lla t part).trans hroot)
    ((congrArg (·.find lla t) (s.unpoisonLine_res t lla t)).trans hnone) rfl (by simpa [State.unpoisonLine] using hs.tile_listed ht)
  refine ⟨_, e, exec_clearPoison data hfree hin hloc hact hseg hnone hheld hright, State.completed_completes .., ?_, ?_, hst, hdata, hmask, hkx,
    fun v => ?_⟩
  · rw [State.completed_tile, Tile.isLost, (hquiet.medium t).2]
    exact hclear
  · rw [State.completed_tile]
    exact hfind
  · rw [State.completed_tile, (hquiet.medium v).1, State.unpoisonLine_med]

/-! ### Scan Media (R239) -/

theorem exec_scanMedia {p l dpa len : Nat} (noLog : Bool) {s : State} (hfree : s.MailboxFree p l) (hin : s.inService = true)
    (hoff : s.svc.scrubOn = false) (hbg : s.bgRunning = false) (hrange : s.scanRange p l dpa len = true) : exec (.scanMedia p l dpa len noLog) s =
    .next (((s.beginScrub 1 ((s.alloc p l).1 + dpa) len (16 * p + l) noLog).background 0x4304).st.completed p l 0x4304 Rc.background []) := by
  refine congrArg Host.Outcome.next ((hfree.mailbox _ _ _ (State.needsFault_write_of_inService hin)).trans ?_)
  simp only [hoff, hbg, hrange, Bool.not_true, Bool.false_eq_true, or_self, if_false]
  rfl
/-- A scrub pass of Scan Media runs in the background. -/
theorem State.bgRunning_of_scan {s : State} (hop : s.svc.bgOp = 0x4304) (hon : s.svc.scrubOn = true) (hsource : s.svc.scrubSource = 1) :
    s.bgRunning = true := by
  simp [State.bgRunning, hop, hon, hsource]
theorem scanMedia_starts (p l dpa len : Nat) (noLog : Bool) (s : State) (hfree : s.MailboxFree p l) (hin : s.inService = true)
    (hoff : s.svc.scrubOn = false) (hbg : s.bgRunning = false) (hrange : s.scanRange p l dpa len = true) :
    ∃ u, exec (.scanMedia p l dpa len noLog) s = .next u ∧ u.out = s.out ++ [Response.mailbox p l 0x4304 Rc.background []] ∧
      u.svc.scrubOn = true ∧ u.svc.scrubSource = 1 ∧ u.svc.scrubDpa = (s.alloc p l).1 + dpa ∧ u.svc.scrubLen = len ∧ u.bgRunning = true ∧
      u.tiles = s.tiles ∧ u.obj = s.obj := by
  refine ⟨_, exec_scanMedia noLog hfree hin hoff hbg hrange, State.completed_out .., ?_⟩
  rw [State.completed_tiles, State.completed_obj]
  have hsvc := State.completed_svc ((s.beginScrub 1 ((s.alloc p l).1 + dpa) len (16 * p + l) noLog).background 0x4304).st p l 0x4304 Rc.background []
  refine ⟨?_, ?_, ?_, ?_, State.bgRunning_of_scan ?_ ?_ ?_, rfl, rfl⟩ <;> rw [hsvc] <;> rfl

end Sys2Proof.Machine
end

section
/-! Proofs of 03_line_code.md: Sanitize and Secure Erase, from their start to their end (R495 to R497). -/
namespace Sys2Proof.Machine
open Sys2Proof

/-! ### Work within one tile -/

/-- From `s` to `u` one tile is worked on: part, keys, partitions, queues, messages, the number of recorders and the other tiles stand. -/
structure State.Within (t : Nat) (s u : State) : Prop where
  part : u.part = s.part
  keys : u.keys = s.keys
  parts : u.parts = s.parts
  queues : u.queues = s.queues
  out : u.out = s.out
  recs : u.recs.length = s.recs.length
  tiles : u.tiles.length = s.tiles.length
  others : ∀ v, v ≠ t → u.tile v = s.tile v

section
variable {t : Nat} {s u v : State}

theorem State.Within.trans (a : State.Within t s u) (b : State.Within t u v) : State.Within t s v :=
  ⟨b.part.trans a.part, b.keys.trans a.keys, b.parts.trans a.parts, b.queues.trans a.queues, b.out.trans a.out, b.recs.trans a.recs,
    b.tiles.trans a.tiles, fun w hw => (b.others w hw).trans (a.others w hw)⟩
/-- What leaves the tiles and these other fields alone works within any tile. -/
theorem State.Within.of_eq (part : u.part = s.part := by simp) (keys : u.keys = s.keys := by simp) (parts : u.parts = s.parts := by simp)
    (queues : u.queues = s.queues := by simp) (out : u.out = s.out := by simp) (recs : u.recs.length = s.recs.length := by simp)
    (tiles : u.tiles = s.tiles := by simp) : State.Within t s u :=
  ⟨part, keys, parts, queues, out, recs, congrArg List.length tiles, fun _ _ => by simp only [State.tile, tiles]⟩
theorem State.Within.ite {c : Prop} [Decidable c] (a : State.Within t s u) (b : State.Within t s v) : State.Within t s (if c then u else v) := by
  split
  · exact a
  · exact b

end

theorem State.Within.refl (t : Nat) (s : State) : State.Within t s s := .of_eq
theorem State.within_modTile (s : State) (t : Nat) (f : Tile → Tile) : State.Within t s (s.modTile t f) :=
  ⟨rfl, rfl, rfl, rfl, rfl, rfl, State.modTile_tiles_length .., fun _ hv => State.tile_modTile_ne _ _ _ _ hv.symm⟩
theorem State.within_each {α : Type} (t : Nat) (s : State) (l : List α) (f : State → α → State) (h : ∀ u x, State.Within t u (f u x)) :
    State.Within t s (s.each l f) :=
  State.each_induct (State.Within t s) s l f (State.Within.refl t s) (fun u x _ hu => hu.trans (h u x))
/-- What the work within each tile of a list brings about in it holds in every tile of the list at the end. -/
theorem State.each_establishes (P : Tile → Prop) (F : State → Nat → State) (hF : ∀ s t, State.Within t s (F s t))
    (hP : ∀ s t, t < s.tiles.length → P ((F s t).tile t)) (l : List Nat) (s : State) (hl : ∀ t ∈ l, t < s.tiles.length) :
    ∀ t ∈ l, P ((s.each l F).tile t) := by
  induction l generalizing s with
  | nil => exact fun t ht => absurd ht List.not_mem_nil
  | cons a l ih =>
    intro t ht
    have hlen : ∀ t ∈ l, t < (F s a).tiles.length := fun t ht => by rw [(hF s a).tiles]; exact hl t (List.mem_cons_of_mem _ ht)
    by_cases htl : t ∈ l
    · exact ih (F s a) hlen t htl
    · obtain rfl : t = a := (List.mem_cons.1 ht).resolve_right htl
      have hkeep : ((F s t).each l F).tile t = (F s t).tile t :=
        State.each_induct (fun u => u.tile t = (F s t).tile t) _ l F rfl
          (fun u x hx hu => ((hF u x).others t (fun h => htl (h ▸ hx))).trans hu)
      rw [State.each_cons, hkeep]
      exact hP s t (hl t (List.mem_cons_self ..))

/-! ### Segments released and blanked (R65, R195, R199) -/

theorem State.within_count (w : Nat) (s : State) (num k : Nat) : State.Within w s (s.count num k) := .of_eq
theorem State.within_transfer (w : Nat) (s : State) (t die cls k : Nat) : State.Within w s (s.transfer t die cls k) :=
  .of_eq rfl rfl rfl rfl rfl rfl rfl
theorem State.within_allNibs (w : Nat) (s : State) (t cls k : Nat) : State.Within w s (s.allNibs t cls k) :=
  State.within_each w s _ _ (fun u d => u.within_transfer w t d cls k)
theorem State.within_writeHeader (s : State) (t p : Nat) (h : Header) : State.Within t s (s.writeHeader t p h) :=
  (((State.within_transfer t s ..).trans (State.within_transfer t ..)).trans (State.within_modTile _ t _)).trans (State.within_modTile _ t _)
theorem State.within_release (s : State) (t p : Nat) : State.Within t s (s.release t p) :=
  ((s.within_writeHeader t p _).trans (State.within_modTile _ t _)).trans (State.within_modTile _ t _)
theorem State.within_blank (s : State) (t p : Nat) : State.Within t s (s.blank t p) :=
  ((((s.within_allNibs t t 3 (1160 * 8)).trans (State.within_modTile _ t _)).trans (State.within_modTile _ t _)).trans
    (State.within_writeHeader _ t p _)).trans (State.within_count t ..)

/-! ### Spares and health (R184, R493) -/

@[simp] theorem State.alert_recs_length (s : State) (b : Nat) : (s.alert b).recs.length = s.recs.length := by
  unfold State.alert
  simp only []
  split <;> simp
theorem State.within_evalHealth (t : Nat) (s : State) : State.Within t s s.evalHealth := by
  have judged : State.Within t s { s with dev := { s.dev with health := healthOf s.healthCause, causes := s.healthCause } } :=
    .of_eq rfl rfl rfl rfl rfl rfl rfl
  unfold State.evalHealth
  simp only []
  split
  · exact judged
  · exact judged.trans .of_eq
theorem State.within_noteSpares (s : State) (t before : Nat) : State.Within t s (s.noteSpares t before) := by
  have noted (u : State) (b num cls : Nat) (c : Prop) [Decidable c] : State.Within t u (if c then (u.xlateBit t b).tev t num cls 0 [] else u) :=
    .ite (.of_eq (u := (u.raise ..).tev ..)) (.refl t u)
  unfold State.noteSpares
  extract_lets n s1 s2
  have both : State.Within t s s2 := (noted s 0 _ _ _).trans (noted s1 1 _ _ _)
  exact .ite both (both.trans (s2.within_evalHealth t))
@[simp] theorem State.evalHealth_tiles (s : State) : s.evalHealth.tiles = s.tiles := by
  unfold State.evalHealth
  simp only []
  split <;> simp
@[simp] theorem State.noteSpares_tiles (s : State) (t before : Nat) : (s.noteSpares t before).tiles = s.tiles := by
  simp only [State.noteSpares, State.xlateBit, apply_ite State.tiles, State.evalHealth_tiles, State.tev_tiles, State.raise_tiles, ite_self]

theorem State.noteSpares_tile (s : State) (t before v : Nat) : (s.noteSpares t before).tile v = s.tile v := by
  simp only [State.tile, State.noteSpares_tiles]

/-! ### The erasure of a tile (R495) -/

/-- What an erasure leaves of a tile: no entries, no poison list, every logical segment FRESH. -/
structure Tile.Erased (x : Tile) : Prop where
  entries : x.res.entries = []
  poison : x.map.poison = []
  fresh : ∀ seg, (x.map.entry seg).st = .fresh

theorem State.modTile_entries (s : State) (t v : Nat) (f : Tile → Tile) (hf : ∀ x, (f x).res.entries = x.res.entries) :
    ((s.modTile t f).tile v).res.entries = (s.tile v).res.entries := State.modTile_keeps (fun x => x.res.entries) s t v f hf
theorem State.writeHeader_entries (s : State) (t p : Nat) (h : Header) (v : Nat) :
    ((s.writeHeader t p h).tile v).res.entries = (s.tile v).res.entries :=
  (State.modTile_entries _ t v _ (by exact fun _ => rfl)).trans (State.modTile_entries _ t v _ (by exact fun _ => rfl))
theorem State.release_entries (s : State) (t p v : Nat) : ((s.release t p).tile v).res.entries = (s.tile v).res.entries :=
  ((State.modTile_entries _ t v _ (by exact fun _ => rfl)).trans (State.modTile_entries _ t v _ (by exact fun _ => rfl))).trans
    (s.writeHeader_entries t p _ v)
/-- The erasure of a tile: its reservoir emptied and its segments released, then its map cleared, its other lists, and a look at its spares. -/
theorem State.eraseTile_cleared (s : State) (t : Nat) : ∃ w f before, State.Within t s w ∧ (t < s.tiles.length → (w.tile t).res.entries = []) ∧
    (∀ x : Tile, (f x).res = x.res ∧ (f x).map = x.map) ∧ s.eraseTile t =
      ((w.modMap t (fun m => { m with map := [], migs := [], triggers := [], movesDue := [], poison := [] })).modTile t f).noteSpares t before := by
  unfold State.eraseTile
  extract_lets before bound s1 s2 s3 s4 s5
  have emptied : State.Within t s s2 := (State.within_modTile s t _).trans (State.within_modTile s1 t _)
  refine ⟨s3, _, before, emptied.trans (State.within_each t s2 _ _ (fun u p => u.within_release t p)), fun ht => ?_,
    by exact fun _ => ⟨rfl, rfl⟩, rfl⟩
  have hs1 : (s1.tile t).res = (s.tile t).res.emptied := congrArg Tile.res (State.tile_modTile_same s t _ ht)
  have hs2 : (s2.tile t).res = (s1.tile t).res := State.modTile_keeps Tile.res s1 t t _ (fun _ => rfl)
  rw [State.each_keeps (fun u => (u.tile t).res.entries) s2 bound _ (fun u p => u.release_entries t p t), hs2, hs1]
  rfl
theorem State.within_eraseTile (s : State) (t : Nat) : State.Within t s (s.eraseTile t) := by
  obtain ⟨w, f, before, hw, -, -, heq⟩ := s.eraseTile_cleared t
  rw [heq]
  exact ((hw.trans (State.within_modTile w t _)).trans (State.within_modTile _ t f)).trans (State.within_noteSpares _ t before)
theorem State.eraseTile_erased (s : State) (t : Nat) (ht : t < s.tiles.length) : ((s.eraseTile t).tile t).Erased := by
  obtain ⟨w, f, before, hw, hempty, hf, heq⟩ := s.eraseTile_cleared t
  have hlen : t < w.tiles.length := hw.tiles ▸ ht
  rw [heq, State.noteSpares_tile, State.tile_modTile_same _ _ _ (by simpa using hlen), State.modMap_eq, State.tile_modTile_same _ _ _ hlen]
  refine ⟨?_, ?_, fun _ => ?_⟩
  · rw [(hf _).1]
    exact hempty ht
  · rw [(hf _).2]
  · rw [(hf _).2]
    rfl

/-! ### The start of an erasure (R495, R497) -/

/-- The key table emptied but for a new device key. -/
def State.keysErased (s : State) : State := { s with keys := { slots := [], change := none } }.newDeviceKey
/-- Every tile of the part is erased. -/
def State.tilesErased (s : State) : State := s.each s.tileNumbers (fun u t => u.eraseTile t)
theorem State.secureErase_eq (s : State) : s.secureErase = s.keysErased.tilesErased.evalHealth := rfl

/-- What every erasure of a tile keeps, the erasure keeps, once the keys are drawn. -/
theorem State.secureErase_keeps {β : Type} (g : State → β) (s : State) (h : ∀ t u v, State.Within t u v → g v = g u) :
    g s.secureErase = g s.keysErased := by
  rw [s.secureErase_eq, h 0 _ _ (State.within_evalHealth 0 _)]
  exact State.each_keeps g _ _ _ (fun u t => h t _ _ (u.within_eraseTile t))
theorem State.secureErase_parts (s : State) : s.secureErase.parts = s.parts := s.secureErase_keeps State.parts (fun _ _ _ h => h.parts)
theorem State.secureErase_queues (s : State) : s.secureErase.queues = s.queues := s.secureErase_keeps State.queues (fun _ _ _ h => h.queues)
theorem State.secureErase_keys (s : State) : s.secureErase.keys = s.keysErased.keys := s.secureErase_keeps State.keys (fun _ _ _ h => h.keys)
theorem State.secureErase_key_device (s : State) : (s.secureErase.key 0).st = .loaded := by
  rw [State.key, s.secureErase_keys]
  rfl
theorem State.secureErase_key_ne (s : State) (k : Nat) (hk : k ≠ 0) : (s.secureErase.key k).st = .empty := by
  rw [State.key, s.secureErase_keys]
  exact congrArg KeySlot.st (Sparse.getD_insert_ne [] 0 k _ _ hk.symm)
theorem State.secureErase_erased (s : State) (hs : s.Sized) (t : Nat) (ht : t < s.n) : (s.secureErase.tile t).Erased := by
  have herased := State.each_establishes Tile.Erased State.eraseTile State.within_eraseTile State.eraseTile_erased s.tileNumbers s.keysErased
    (fun u hu => hs.tile_listed ((s.mem_tileNumbers u).1 hu)) t ((s.mem_tileNumbers t).2 ht)
  have htile : s.secureErase.tile t = s.keysErased.tilesErased.tile t := by rw [s.secureErase_eq]; simp only [State.tile, State.evalHealth_tiles]
  rw [htile]
  exact herased

/-- The return of an erasure command that starts. -/
def State.eraseStarted (s : State) (p l op kind : Nat) : State := ((s.startErase kind).background op).st.completed p l op Rc.background []
theorem State.MailboxFree.eraseCommand {s : State} {p l : Nat} (h : s.MailboxFree p l) (op kind : Nat) (hlegal : s.eraseLegal = true)
    (hbg : s.bgRunning = false) (hst : s.svc.eraseState ≠ 1) :
    s.mailbox p l op .nothing (fun s => s.eraseCommand p l op kind) = s.eraseStarted p l op kind := by
  rw [h.mailbox op .nothing _ rfl]
  simp only [State.eraseCommand, hlegal, hbg, hst, Bool.not_true, Bool.false_eq_true, or_self, if_false]
  rfl
theorem State.eraseStarted_erases (s : State) (p l op kind : Nat) (hs : s.Sized) :
    (s.eraseStarted p l op kind).Completes p l op Rc.background [] ∧ (s.eraseStarted p l op kind).svc.eraseState = 1 ∧
      (s.eraseStarted p l op kind).svc.eraseKind = kind ∧ ((s.eraseStarted p l op kind).key 0).st = .loaded ∧
      (∀ k, k ≠ 0 → ((s.eraseStarted p l op kind).key k).st = .empty) ∧ (s.eraseStarted p l op kind).parts = s.parts ∧
      (s.eraseStarted p l op kind).queues = s.queues ∧ ∀ t, t < s.n → ((s.eraseStarted p l op kind).tile t).Erased := by
  have hkey : ∀ k, (s.eraseStarted p l op kind).key k = s.secureErase.key k := fun k => by
    simp only [State.key, State.eraseStarted, State.completed_keys]
    rfl
  refine ⟨State.completed_completes .., ?_, ?_, ?_, fun k hk => ?_, ?_, ?_, fun t ht => ?_⟩
  · rw [State.eraseStarted, State.completed_svc]
    rfl
  · rw [State.eraseStarted, State.completed_svc]
    rfl
  · rw [hkey, s.secureErase_key_device]
  · rw [hkey, s.secureErase_key_ne k hk]
  · exact (State.completed_parts ..).trans s.secureErase_parts
  · exact (State.completed_queues ..).trans s.secureErase_queues
  · rw [State.eraseStarted, State.completed_tile]
    exact s.secureErase_erased hs t ht
theorem erasure_starts (p l : Nat) (s : State) (full : Bool) (hfree : s.MailboxFree p l) (hs : s.Sized) (hlegal : s.eraseLegal = true)
    (hbg : s.bgRunning = false) (hst : s.svc.eraseState ≠ 1) :
    ∃ u, exec (if full then .sanitize p l else .secureErase p l) s = .next u ∧
      u.Completes p l (if full then 0x4400 else 0x4401) Rc.background [] ∧ u.svc.eraseState = 1 ∧ u.svc.eraseKind = (if full then 2 else 1) ∧
      (u.key 0).st = .loaded ∧ (∀ k, k ≠ 0 → (u.key k).st = .empty) ∧ u.parts = s.parts ∧ u.queues = s.queues ∧
      ∀ t, t < s.n → (u.tile t).res.entries = [] ∧ (u.tile t).map.poison = [] ∧ ∀ seg, ((u.tile t).map.entry seg).st = .fresh := by
  have hexec : exec (if full then .sanitize p l else .secureErase p l) s =
      .next (s.eraseStarted p l (if full then 0x4400 else 0x4401) (if full then 2 else 1)) := by
    cases full
    · exact congrArg Host.Outcome.next (hfree.eraseCommand 0x4401 1 hlegal hbg hst)
    · exact congrArg Host.Outcome.next (hfree.eraseCommand 0x4400 2 hlegal hbg hst)
  obtain ⟨hdone, hstate, hkind, hdevice, hempty, hparts, hqueues, herased⟩ := s.eraseStarted_erases p l (if full then 0x4400 else 0x4401)
    (if full then 2 else 1) hs
  exact ⟨_, hexec, hdone, hstate, hkind, hdevice, hempty, hparts, hqueues, fun t ht => ⟨(herased t ht).entries, (herased t ht).poison,
    (herased t ht).fresh⟩⟩

/-! ### The end of an erasure (R495, R496) -/

/-- Every tile of the part is sanitized. -/
def State.tilesSanitized (s : State) : State := s.each s.tileNumbers (fun u t => u.sanitizeTile t)
/-- No tile has an erasure to resume. -/
def State.eraseForgotten (s : State) : State := s.each s.tileNumbers (fun u t => u.modPs t (fun p => { p with eraseKind := 0 }))
/-- The erasure of `s` is at its end once its tiles are those of `u`. -/
def State.eraseEnded (s u : State) : State :=
  { u.eraseForgotten with svc := { u.eraseForgotten.svc with eraseState := 2, erasePercent := 100 } }.pev Ev.ERASE_DONE s.svc.eraseKind
    [(8, s.pkgNow - s.svc.eraseStart)]
theorem exec_eraseDone_of_secure {s : State} (hin : s.inService = true) (hst : s.svc.eraseState = 1) (hkind : s.svc.eraseKind = 1) :
    exec .eraseDone s = .next (s.eraseEnded s) := by
  refine congrArg Host.Outcome.next ((if_pos ⟨hin, hst⟩).trans ?_)
  simp only [hkind, if_true, OfNat.one_ne_ofNat, if_false]
  rw [State.eraseEnded, hkind]
  rfl
theorem exec_eraseDone_of_sanitize {s : State} (hin : s.inService = true) (hst : s.svc.eraseState = 1) (hkind : s.svc.eraseKind = 2) :
    exec .eraseDone s = .next (s.eraseEnded s.tilesSanitized) := by
  refine congrArg Host.Outcome.next ((if_pos ⟨hin, hst⟩).trans ?_)
  simp only [hkind, OfNat.ofNat_ne_one, if_false, Nat.reduceEqDiff]
  rw [State.eraseEnded, hkind]
  rfl

theorem State.eraseEnded_svc (s u : State) : (s.eraseEnded u).svc = { u.eraseForgotten.svc with eraseState := 2, erasePercent := 100 } :=
  State.pev_svc ..
theorem State.eraseForgotten_tile_keeps {β : Type} (g : Tile → β) (s : State) (v : Nat)
    (h : ∀ x : Tile, g { x with ps := { x.ps with eraseKind := 0 } } = g x) : g (s.eraseForgotten.tile v) = g (s.tile v) :=
  State.each_keeps (fun u => g (u.tile v)) s _ _ (fun u t => State.modTile_keeps g u t v _ h)
theorem State.eraseEnded_tile (s u : State) (v : Nat) : (s.eraseEnded u).tile v = u.eraseForgotten.tile v := State.pev_tile ..
theorem State.eraseEnded_reports (s u : State) (h : 8 < u.recs.length) : (s.eraseEnded u).pkgReports Ev.ERASE_DONE := by
  refine State.pev_reports _ _ _ _ ?_
  have hrecs : u.eraseForgotten.recs = u.recs := State.each_keeps State.recs _ _ _ (fun _ _ => rfl)
  exact hrecs ▸ h
theorem eraseDone_of_secure (s : State) (hin : s.inService = true) (hst : s.svc.eraseState = 1) (hkind : s.svc.eraseKind = 1) (hs : s.Sized) :
    ∃ u, exec .eraseDone s = .next u ∧ u.svc.eraseState = 2 ∧ u.svc.erasePercent = 100 ∧ u.pkgReports Ev.ERASE_DONE ∧ u.out = s.out ∧
      s.SameMedium u := by
  have hout : s.eraseForgotten.out = s.out := State.each_keeps State.out _ _ _ (fun _ _ => rfl)
  refine ⟨_, exec_eraseDone_of_secure hin hst hkind, ?_, ?_, s.eraseEnded_reports s hs.package_recorder, ?_, fun v => ⟨?_, ?_⟩⟩
  · rw [State.eraseEnded_svc]
  · rw [State.eraseEnded_svc]
  · exact (State.pev_out ..).trans hout
  · rw [State.eraseEnded_tile, State.eraseForgotten_tile_keeps Tile.med _ _ (fun _ => rfl)]
  · rw [State.eraseEnded_tile, State.eraseForgotten_tile_keeps Tile.map _ _ (fun _ => rfl)]

/-- Label storage and shadow area of a tile are blank. -/
def Tile.Blanked (x : Tile) : Prop := x.ps.lsa = [] ∧ x.ps.shadowRecs = []
/-- Sanitize blanks the free segments of a tile, then its label storage and shadow area, and counts the strokes. -/
theorem State.sanitizeTile_strokes (s : State) (t : Nat) : ∃ w f strokes, State.Within t s w ∧ (∀ x, (f x).Blanked) ∧
    s.sanitizeTile t = (w.modTile t f).count Cn.ERASE_STROKES strokes := by
  unfold State.sanitizeTile
  extract_lets strokes free rest s1 s2
  exact ⟨s1, _, strokes, (State.within_each t s free _ (fun u p => u.within_blank t p)).trans (State.within_allNibs t _ t 3 _),
    by exact fun _ => ⟨rfl, rfl⟩, rfl⟩
theorem State.within_sanitizeTile (s : State) (t : Nat) : State.Within t s (s.sanitizeTile t) := by
  obtain ⟨w, f, strokes, hw, -, heq⟩ := s.sanitizeTile_strokes t
  rw [heq]
  exact (hw.trans (State.within_modTile w t f)).trans (State.within_count t ..)
theorem State.sanitizeTile_blanked (s : State) (t : Nat) (ht : t < s.tiles.length) : ((s.sanitizeTile t).tile t).Blanked := by
  obtain ⟨w, f, strokes, hw, hf, heq⟩ := s.sanitizeTile_strokes t
  rw [heq, State.count_tile, State.tile_modTile_same _ _ _ (hw.tiles ▸ ht)]
  exact hf _
theorem State.tilesSanitized_blanked (s : State) (hs : s.Sized) (t : Nat) (ht : t < s.n) : (s.tilesSanitized.tile t).Blanked :=
  State.each_establishes Tile.Blanked State.sanitizeTile State.within_sanitizeTile State.sanitizeTile_blanked s.tileNumbers s
    (fun u hu => hs.tile_listed ((s.mem_tileNumbers u).1 hu)) t ((s.mem_tileNumbers t).2 ht)
theorem State.tilesSanitized_recs_length (s : State) : s.tilesSanitized.recs.length = s.recs.length :=
  State.each_keeps (fun u => u.recs.length) s _ _ (fun u t => (u.within_sanitizeTile t).recs)
theorem eraseDone_of_sanitize (s : State) (hin : s.inService = true) (hst : s.svc.eraseState = 1) (hkind : s.svc.eraseKind = 2) (hs : s.Sized) :
    ∃ u, exec .eraseDone s = .next u ∧ u.svc.eraseState = 2 ∧ u.pkgReports Ev.ERASE_DONE ∧
      ∀ t, t < s.n → (u.tile t).ps.lsa = [] ∧ (u.tile t).ps.shadowRecs = [] := by
  refine ⟨_, exec_eraseDone_of_sanitize hin hst hkind, ?_, s.eraseEnded_reports _ ?_, fun t ht => ?_⟩
  · rw [State.eraseEnded_svc]
  · rw [s.tilesSanitized_recs_length]
    exact hs.package_recorder
  · rw [State.eraseEnded_tile, State.eraseForgotten_tile_keeps (fun x => x.ps.lsa) _ _ (fun _ => rfl),
      State.eraseForgotten_tile_keeps (fun x => x.ps.shadowRecs) _ _ (fun _ => rfl)]
    exact s.tilesSanitized_blanked hs t ht

/-- Settles O47: Inject and Clear Poison come down to the device's own write of a whole line that is not resident, which is handed over to nobody
whether it waits for a mirror or not (so that span and mirror do not matter); Scan Media and the erasures change the service state, an erasure tile by
tile what it erases. -/
theorem mediumCommands : Obligations.MediumCommands := by
  unfold Obligations.MediumCommands
  refine ⟨fun p l dpa part t lla s hfree hin hs ht htest hloc hact _ hlost hroot hnone _ => ?inject,
    fun p l dpa part t lla data s hfree hin hs ht hloc hact _ hseg hroot hnone _ hheld hright => ?clear, scanMedia_starts,
    erasure_starts, eraseDone_of_secure, eraseDone_of_sanitize⟩
  case inject => exact injectPoison_loses p l dpa part t lla s hfree hin hs ht htest hloc hact hlost hroot hnone
  case clear => exact clearPoison_writes p l dpa part t lla data s hfree hin hs ht hloc hact hseg hroot hnone hheld hright

end Sys2Proof.Machine
end

section
/-! Proofs of 04_read_path.md: the positions of a bank: promotion, lifts, freed positions, hot banks (R108, R110, R112, R125). -/
namespace Sys2Proof.Machine
open Sys2Proof

/-! ### Reads at a bank -/

theorem Tile.mem_sensesAt (x : Tile) (b : Nat) (p : SensePos) (z : Sense) :
    z ∈ x.sensesAt b p ↔ z ∈ x.rd.senses ∧ z.at_ = p ∧ bankOf z.slot = b := by
  simp [Tile.sensesAt]
/-- A bank senses when one of its reads is in service. -/
theorem Tile.reading_of_mem {x : Tile} {b : Nat} {z : Sense} (h : z ∈ x.sensesAt b .service) : x.reading b = true := by
  simp [Tile.reading, List.ne_nil_of_mem h]
theorem State.tile_modRd_same (s : State) (t : Nat) (f : TileRead → TileRead) (ht : t < s.tiles.length) :
    ((s.modRd t f).tile t).rd = f (s.tile t).rd := by
  rw [State.modRd_eq, State.tile_modTile_same _ _ _ ht]

/-! ### Promotion (R108) -/

/-- The reads of a tile with read `q` in service. -/
def TileRead.serve (y : TileRead) (q : Sense) : TileRead :=
  { y with senses := y.senses.map (fun z => if z = q then { z with at_ := .service } else z) }
theorem TileRead.mem_serve {y : TileRead} {q : Sense} (h : q ∈ y.senses) : { q with at_ := .service } ∈ (y.serve q).senses :=
  List.mem_map.2 ⟨q, h, if_pos rfl⟩
theorem State.booked_promote (s : State) (t b : Nat) : s.Booked (s.promote t b) := by
  unfold State.promote
  extract_lets x next
  clear_value next
  split
  · exact .refl s
  · cases next with
    | none => exact .refl s
    | some q => exact s.booked_modRd t (fun y => y.serve q)
/-- The member position comes first. -/
theorem State.promote_of_member (s : State) (t b : Nat) (q : Sense) (rest : List Sense) (hidle : (s.tile t).reading b = false)
    (hq : (s.tile t).sensesAt b .member = q :: rest) : s.promote t b = s.modRd t (fun y => y.serve q) := by
  unfold State.promote
  simp only [hidle, hq, Bool.false_eq_true, if_false]
  rfl
/-- After promotion a bank with a read in its member position senses. -/
theorem State.promote_reading (s : State) (t b : Nat) (ht : t < s.tiles.length) (hwait : (s.tile t).sensesAt b .member ≠ []) :
    ((s.promote t b).tile t).reading b = true := by
  cases hread : (s.tile t).reading b with
  | true =>
    have hstay : s.promote t b = s := if_pos hread
    rw [hstay, hread]
  | false =>
    obtain ⟨q, rest, hq⟩ := List.exists_cons_of_ne_nil hwait
    obtain ⟨hmem, -, hbank⟩ := ((s.tile t).mem_sensesAt b .member q).1 (hq ▸ List.mem_cons_self ..)
    rw [s.promote_of_member t b q rest hread hq]
    refine Tile.reading_of_mem (z := { q with at_ := .service }) ((Tile.mem_sensesAt _ _ _ _).2 ⟨?_, rfl, hbank⟩)
    rw [s.tile_modRd_same t _ ht]
    exact TileRead.mem_serve hmem

/-! ### Lifts (R108) -/

/-- What a change of the stroke of a number makes of it. -/
theorem TileRes.of_mem_setStroke (P : Stroke → Prop) {r : TileRes} {id : Nat} {f : Stroke → Stroke} (hf : ∀ k, P (f k)) {c : Stroke}
    (hc : c ∈ (r.setStroke id f).strokes) (hid : c.id = id) : P c := by
  obtain ⟨k, -, rfl⟩ := List.mem_map.1 hc
  by_cases h : k.id = id
  · rw [if_pos h]
    exact hf k
  · rw [if_neg h] at hid
    exact absurd hid h

/-- The stroke of a number is lifted. -/
def State.strokeLifted (s : State) (t stroke : Nat) : State := s.modRes t (fun z => z.setStroke stroke (fun c => { c with lifted := true }))
/-- The reads of a tile, those that reached bank `b` during its stroke now in the direct position. -/
def TileRead.meetLift (y : TileRead) (b : Nat) : TileRead :=
  { y with senses := y.senses.map (fun z => if z.at_ = .lifted ∧ bankOf z.slot = b then { z with at_ := .direct } else z) }
/-- A stroke is lifted and counted, and the reads of its bank stand in the positions of an idle bank. -/
def State.bankReleased (s : State) (t stroke b : Nat) : State :=
  ((s.strokeLifted t stroke).tcount t Cn.STROKE_LIFTS 1).modRd t (fun y => y.meetLift b)
theorem exec_strokeLift (t stroke : Nat) (s : State) (k : Stroke)
    (hk : (s.tile t).res.strokes.find? (fun k => k.running && decide (k.id = stroke)) = some k)
    (hidle : (s.tile t).reading (bankOf k.slot) = false) (hwait : (s.tile t).sensesAt (bankOf k.slot) .member ≠ []) :
    exec (.strokeLift t stroke) s = .next ((s.bankReleased t stroke (bankOf k.slot)).promote t (bankOf k.slot)) := by
  refine congrArg Host.Outcome.next ?_
  simp only [hk, hidle, hwait, List.isEmpty_iff, Bool.false_eq_true, false_and, or_self, if_false]
  rfl
theorem TileRead.mem_meetLift {y : TileRead} {b : Nat} {z : Sense} (h : z ∈ y.senses) (hz : z.at_ = .member) : z ∈ (y.meetLift b).senses :=
  List.mem_map.2 ⟨z, h, if_neg (fun hl => by simp [hz] at hl)⟩
theorem State.bankReleased_member (s : State) (t stroke b : Nat) (ht : t < s.tiles.length) (hwait : (s.tile t).sensesAt b .member ≠ []) :
    ((s.bankReleased t stroke b).tile t).sensesAt b .member ≠ [] := by
  obtain ⟨z, hz⟩ := List.exists_mem_of_ne_nil _ hwait
  obtain ⟨hmem, hat, hbank⟩ := (Tile.mem_sensesAt ..).1 hz
  refine List.ne_nil_of_mem ((Tile.mem_sensesAt _ _ _ z).2 ⟨?_, hat, hbank⟩)
  have hlen : t < ((s.strokeLifted t stroke).tcount t Cn.STROKE_LIFTS 1).tiles.length := by simpa [State.strokeLifted] using ht
  have hrd : (((s.strokeLifted t stroke).tcount t Cn.STROKE_LIFTS 1).tile t).rd = (s.tile t).rd := by
    rw [State.tcount_tile]
    exact State.modTile_keeps Tile.rd s t t _ (fun _ => rfl)
  rw [State.bankReleased, State.tile_modRd_same _ _ _ hlen, hrd]
  exact TileRead.mem_meetLift hmem hat
theorem strokeLift_releases (t stroke : Nat) (s : State) (k : Stroke) (ht : t < s.tiles.length)
    (hk : (s.tile t).res.strokes.find? (fun k => k.running && decide (k.id = stroke)) = some k)
    (hidle : (s.tile t).reading (bankOf k.slot) = false) (hwait : (s.tile t).sensesAt (bankOf k.slot) .member ≠ []) :
    ∃ u, exec (.strokeLift t stroke) s = .next u ∧ (∀ c ∈ (u.tile t).res.strokes, c.id = stroke → c.lifted = true) ∧
      (u.tile t).reading (bankOf k.slot) = true ∧ (u.tile t).res.entries = (s.tile t).res.entries ∧ s.SameMedium u := by
  have hbook : (s.strokeLifted t stroke).Booked ((s.bankReleased t stroke (bankOf k.slot)).promote t (bankOf k.slot)) :=
    ((State.booked_tcount ..).trans (State.booked_modRd ..)).trans (State.booked_promote ..)
  have hlift : s.KeepsEntries (s.strokeLifted t stroke) := s.keepsEntries_modRes t _ (fun _ => rfl)
  have hkeep := hlift.trans hbook.keepsEntries
  have hlen : t < (s.bankReleased t stroke (bankOf k.slot)).tiles.length := by simpa [State.bankReleased, State.strokeLifted] using ht
  refine ⟨_, exec_strokeLift t stroke s k hk hidle hwait, fun c hc => ?_, ?_, hkeep.entries t, hkeep.medium⟩
  · rw [hbook.res, State.strokeLifted, State.modRes_eq, State.tile_modTile_same _ _ _ ht] at hc
    exact TileRes.of_mem_setStroke (fun c => c.lifted = true) (fun _ => rfl) hc
  · exact State.promote_reading _ t _ hlen (s.bankReleased_member t stroke _ ht hwait)

/-! ### Freed positions (R110, R112) -/

theorem State.booked_endNib (s : State) (t id : Nat) : s.Booked (s.endNib t id) := by
  unfold State.endNib
  split
  · exact .refl s
  · split
    · exact .refl s
    · exact s.booked_modRd t _
/-- A nib token that returns moves no read. -/
theorem State.endNib_senses (s : State) (t id v : Nat) : ((s.endNib t id).tile v).rd.senses = (s.tile v).rd.senses := by
  unfold State.endNib
  split
  · rfl
  · split
    · rfl
    · exact State.modTile_keeps (fun x => x.rd.senses) s t v _ (fun _ => rfl)

theorem TileRead.exists_mem_sense (y : TileRead) (id pos slot : Nat) (p : SensePos) (asMember : Bool) :
    ∃ z ∈ (y.sense id pos slot p asMember).senses, z.rd = id ∧ z.pos = pos ∧ z.slot = slot ∧ z.at_ = p :=
  ⟨_, List.mem_append_right _ (List.mem_singleton_self _), rfl, rfl, rfl, rfl⟩
/-- Row 1 of the path-choice table: the read goes into service at once. -/
theorem State.takeRow_one (s : State) (t id : Nat) (ms : List Member) (r : Rd) (hr : (s.tile t).rd.byId id = some r) :
    s.takeRow t id 1 ms =
      ((s.modRd t (fun y => y.setRd id (fun r => { r with path := 3 }))).modRd t (fun y => y.sense id r.pos r.slot .service false)).endNib t id := by
  simp only [State.takeRow, hr]
/-- In row 1 a read senses its own slot, in service, and nothing but reads and tokens changes. -/
theorem State.takeRow_one_serves (s : State) (t id : Nat) (ms : List Member) (r : Rd) (ht : t < s.tiles.length)
    (hr : (s.tile t).rd.byId id = some r) : s.Booked (s.takeRow t id 1 ms) ∧
      ∃ z ∈ ((s.takeRow t id 1 ms).tile t).rd.senses, z.rd = id ∧ z.pos = r.pos ∧ z.slot = r.slot ∧ z.at_ = .service := by
  rw [s.takeRow_one t id ms r hr]
  refine ⟨((s.booked_modRd ..).trans (State.booked_modRd ..)).trans (State.booked_endNib ..), ?_⟩
  rw [State.endNib_senses, State.tile_modRd_same _ _ _ (by simpa using ht)]
  exact TileRead.exists_mem_sense ..
/-- The sense `q` leaves the place where it waits. -/
def State.leavesWait (s : State) (t : Nat) (q : Sense) : State :=
  s.modRd t (fun x => { x with senses := x.senses.filter (fun z => decide (z ≠ q)) })
/-- A waiting read for which row 1 is possible takes it. -/
theorem State.tryWaiting_of_row_one (s : State) (t pred : Nat) (q : Sense) (r : Rd) (hr : (s.tile t).rd.byId q.rd = some r)
    (hrow : s.chooseRow t q.slot pred (s.membersOf t r) r.internal = 1) :
    s.tryWaiting t pred q = some ((s.leavesWait t q).takeRow t q.rd 1 (s.membersOf t r)) := by
  simp only [State.tryWaiting, hr, hrow, OfNat.one_ne_ofNat, if_false]
  rfl
theorem exec_nibPositionFreed (t pred : Nat) (s u : State) (q : Sense) (rest : List Sense) (hq : (s.tile t).waitingReads = q :: rest)
    (hu : s.tryWaiting t pred q = some u) : exec (.nibPositionFreed t pred) s = .next u := by
  refine congrArg Host.Outcome.next ?_
  rw [hq, State.freedPosition, hu]
theorem nibPositionFreed_serves (t pred : Nat) (s : State) (r : Rd) (q : Sense) (rest : List Sense) (ht : t < s.tiles.length)
    (hq : (s.tile t).waitingReads = q :: rest) (hr : (s.tile t).rd.byId q.rd = some r)
    (hrow : s.chooseRow t q.slot pred (s.membersOf t r) r.internal = 1) :
    ∃ u, exec (.nibPositionFreed t pred) s = .next u ∧
      (∃ z ∈ (u.tile t).rd.senses, z.rd = q.rd ∧ z.pos = r.pos ∧ z.slot = r.slot ∧ z.at_ = .service) ∧
      (u.tile t).res = (s.tile t).res ∧ s.SameMedium u := by
  have hstill : ((s.leavesWait t q).tile t).rd.byId q.rd = some r := by
    rw [State.leavesWait, s.tile_modRd_same t _ ht]
    exact hr
  obtain ⟨hbook, hserved⟩ := (s.leavesWait t q).takeRow_one_serves t q.rd (s.membersOf t r) r (by simpa [State.leavesWait] using ht) hstill
  have hall := (s.booked_modRd t _).trans hbook
  exact ⟨_, exec_nibPositionFreed t pred s _ q rest hq (s.tryWaiting_of_row_one t pred q r hr hrow), hserved, hall.res t, hall.sameMedium⟩

/-! ### Hot banks (R125) -/

theorem hotBank_reports (t die bank : Nat) (s : State) (ht : t < s.n) (hs : s.Sized) (hdie : die < 16) (hbank : bank < 32)
    (hmember : (s.tile t).memberFree (die * 32 + bank) = false) (hdirect : (s.tile t).directFree (die * 32 + bank) = false) :
    ∃ u, exec (.hotBank t die bank) s = .next u ∧ u.tileReports t Ev.HOT_BANK ∧ u.tiles = s.tiles ∧ u.out = s.out := by
  have hguard : t < s.n ∧ die < 16 ∧ bank < 32 ∧ (!(s.tile t).memberFree (die * 32 + bank)) = true ∧
      (!(s.tile t).directFree (die * 32 + bank)) = true := ⟨ht, hdie, hbank, by rw [hmember]; rfl, by rw [hdirect]; rfl⟩
  exact ⟨_, congrArg Host.Outcome.next (if_pos hguard), State.tev_reports _ _ _ _ _ _ (hs.tile_recorder ht), by simp, by simp⟩

/-- Settles O12: a lift and a freed position change reads, tokens and one stroke; promotion and row 1 of the path-choice table each put a read into
service. -/
theorem bankPositions : Obligations.BankPositions := by
  unfold Obligations.BankPositions
  exact ⟨strokeLift_releases, fun t pred s r q rest ht hq hr hrow => nibPositionFreed_serves t pred s r q rest ht hq hr hrow, hotBank_reports⟩

end Sys2Proof.Machine
end

section
/-! Proofs of 04_read_path.md: the maintenance commands (R100, R253, R254, R286, R387). -/
namespace Sys2Proof.Machine
open Sys2Proof

/-! ### A fence that ends a debug unlock -/

/-- A package as shipped, in service, with the link of port 0 up. The owner's session 1 runs over that port; the debug unlock made in it has set
`TEST_PERMITTED`, and tile 0 has a flip mask armed (R98, R286). -/
def armedOverPort : State :=
  ({ State.reset with
    dev := { State.reset.dev with st := .ready }
    mgmt := { State.reset.mgmt with booted := true, sessions := [{ id := 1, owner := true, port := some 0 }] }
    svc := { State.reset.svc with owner := some 0, unlock := some { transport := 4, src := 1 }, testPermitted := true }
    ports := { Port.reset with up := true } :: List.replicate 7 Port.reset }).modMed 0 (fun m => { m with flipArmed := true })
theorem armedOverPort_takes : armedOverPort.Takes { transport := 4, src := 1 } := ⟨by decide, by decide, by decide, by decide, by decide⟩
theorem armedOverPort_sized : armedOverPort.Sized := ⟨by decide, by decide, by decide⟩
theorem armedOverPort_armed : (armedOverPort.tile 0).med.flipArmed = true := by decide
/-- Fencing tile 0 takes the link of its port down (R254, R387), the session over it ends, the debug unlock ends with the session (R286), and with
`TEST_PERMITTED` the armed mask goes (R100). -/
theorem armedOverPort_fenced : ((armedOverPort.writeOb { transport := 4, src := 1 } Ob.TILE_FENCE 4 0).tile 0).med.flipArmed = false := by
  decide +kernel

/-- Refutes O51: the clause of TILE_FENCE says that no tile's medium changes, and an armed flip mask (R98) is of the medium's state. In
`armedOverPort` the fence ends the session over the port of the fenced tile, and the armed mask is discarded (R100). -/
theorem not_maintenanceCommands : ¬ Obligations.MaintenanceCommands := by
  unfold Obligations.MaintenanceCommands
  intro h
  obtain ⟨-, -, -, -, -, -, hfence, -⟩ := h _ armedOverPort armedOverPort_takes (by decide) armedOverPort_sized
  obtain ⟨u, hexec, -, -, -, -, -, hmed⟩ := hfence 0 (by decide) (by decide)
  have hu : armedOverPort.writeOb { transport := 4, src := 1 } Ob.TILE_FENCE 4 0 = u := Host.Outcome.next.inj hexec
  have hkept : (u.tile 0).med.flipArmed = true := by rw [(hmed 0).1, armedOverPort_armed]
  rw [← hu, armedOverPort_fenced] at hkept
  exact Bool.noConfusion hkept

end Sys2Proof.Machine
end

section
/-! Proofs of 05_write_path.md: a link that goes down (R154, R286, R387). -/
namespace Sys2Proof.Machine
open Sys2Proof

/-- The link of port 0 goes down (R387): the session over it ends, with it the debug unlock made in it (R286), and the armed mask goes (R100). -/
theorem armedOverPort_linkDown : ((armedOverPort.linkDown 0 1).tile 0).med.flipArmed = false := by decide +kernel

/-- Refutes O43: the clause of LINK_DOWN says that no tile's medium changes, and an armed flip mask (R98) is of the medium's state. In `armedOverPort`
the debug session runs over the link that goes down, and the armed mask is discarded with its unlock (R100). -/
theorem not_linksFall : ¬ Obligations.LinksFall := by
  unfold Obligations.LinksFall
  intro h
  obtain ⟨hdown, -⟩ := h
  obtain ⟨u, hexec, -, -, -, -, -, -, -, hmed, -⟩ := hdown 0 1 armedOverPort (by decide) armedOverPort_sized (by decide) (by decide) (.inl rfl)
  have hu : armedOverPort.linkDown 0 1 = u := Host.Outcome.next.inj hexec
  have hkept : (u.tile 0).med.flipArmed = true := by rw [(hmed 0).1, armedOverPort_armed]
  rw [← hu, armedOverPort_linkDown] at hkept
  exact Bool.noConfusion hkept

end Sys2Proof.Machine
end

section
/-! Proofs of 05_write_path.md: Global Persistent Flush, reservoir errors and the resent address shadow (R148, R153, R155, R245). -/
namespace Sys2Proof.Machine
open Sys2Proof

/-! ### Global Persistent Flush (R153) -/

theorem exec_gpfPhase2 (s : State) (h : s.inService = true) : exec .gpfPhase2 s =
    .next (s.each s.activeTiles (fun s' t => s'.modRes t (fun r => { r with gpf := r.gpfList }))) :=
  congrArg Host.Outcome.next (if_pos h)
theorem State.mem_activeTiles (s : State) (t : Nat) : t ∈ s.activeTiles ↔ t < s.n ∧ s.tileActive t = true := by
  simp [State.activeTiles, State.mem_tileNumbers]
theorem State.activeTiles_nodup (s : State) : s.activeTiles.Nodup := List.nodup_range.filter _
theorem gpfPhase2_lists (s : State) (h : s.inService = true) (hs : s.Sized) : ∃ u, exec .gpfPhase2 s = .next u ∧ u.dev = s.dev ∧ u.out = s.out ∧
    ∀ t < s.n, (u.tile t).res.entries = (s.tile t).res.entries ∧ (s.tileActive t = true → (u.tile t).res.gpf = (s.tile t).res.gpfList) := by
  refine ⟨_, exec_gpfPhase2 s h, State.each_keeps State.dev _ _ _ (fun _ _ => by simp), State.each_keeps State.out _ _ _ (fun _ _ => by simp),
    fun t ht => ?_⟩
  have htile := State.tile_each s s.activeTiles (fun s' t => s'.modRes t (fun r => { r with gpf := r.gpfList }))
    (fun _ x => { x with res := { x.res with gpf := x.res.gpfList } }) s.activeTiles_nodup
    (fun t h => hs.tile_listed ((s.mem_activeTiles t).1 h).1)
    (fun _ _ _ hne => State.tile_modTile_ne _ _ _ _ (Ne.symm hne)) (fun _ _ hl => State.tile_modTile_same _ _ _ hl)
    (fun _ _ => State.modTile_tiles_length _ _ _) t
  rw [htile]
  by_cases ha : s.tileActive t = true
  · rw [if_pos ((s.mem_activeTiles t).2 ⟨ht, ha⟩)]
    exact ⟨rfl, fun _ => rfl⟩
  · rw [if_neg (fun h => ha ((s.mem_activeTiles t).1 h).2)]
    exact ⟨rfl, fun h => absurd h ha⟩

/-! ### Reservoir errors (R155) -/

theorem exec_resEccError_corrected (t sl set : Nat) (s : State) (h : t < s.n) : exec (.resEccError t (.corrected sl set)) s =
    .next ((({ s with cnt := { s.cnt with resCorrected := satAdd 0xFFFFFFFF s.cnt.resCorrected 1 } } : State).raise
      (Ob.inst Ob.RES_ECC_STATUS t) 0 (Ob.inst Ob.RES_ECC_CORR_COUNT t)).tev t Ev.RES_ECC_CORRECTED 0xFF sl [(2, set)]) :=
  congrArg Host.Outcome.next (if_pos h)
theorem eccStatus_ne_corrCount (t : Nat) : Ob.inst Ob.RES_ECC_STATUS t ≠ Ob.inst Ob.RES_ECC_CORR_COUNT t := by
  have hkeys : Ob.RES_ECC_STATUS ≠ Ob.RES_ECC_CORR_COUNT := by decide
  exact fun h => hkeys (Nat.add_right_cancel h)
theorem resEccCorrected_counts (t sl set : Nat) (s : State) (ht : t < s.n) (hs : s.Sized) : ∃ u, exec (.resEccError t (.corrected sl set)) s = .next u ∧
    u.tileReports t Ev.RES_ECC_CORRECTED ∧ (u.cell (Ob.inst Ob.RES_ECC_STATUS t) 0).testBit 0 = true ∧
    u.cell (Ob.inst Ob.RES_ECC_CORR_COUNT t) 0 = (s.cell (Ob.inst Ob.RES_ECC_CORR_COUNT t) 0 + 1) % 65536 ∧ u.tiles = s.tiles := by
  have hne := eccStatus_ne_corrCount t
  refine ⟨_, exec_resEccError_corrected t sl set s ht, State.tev_reports _ _ _ _ _ _ (by simpa using hs.tile_recorder ht), ?_, ?_, by simp⟩
  · rw [State.tev_cell, State.raise_status _ _ _ _ hne, testBit_setBit_same]
  · rw [State.tev_cell, State.raise_occ _ _ _ _ hne]
    rfl

theorem TileRes.byId_dropEntry (r : TileRes) (id : Nat) : (r.dropEntry id).byId id = none := by
  simp [TileRes.byId, TileRes.dropEntry]
theorem TileRes.mem_dropEntry (r : TileRes) (id : Nat) (f : Entry) : f ∈ (r.dropEntry id).entries ↔ f ∈ r.entries ∧ f.id ≠ id := by
  simp [TileRes.dropEntry]
theorem TileRes.id_of_byId {r : TileRes} {id : Nat} {e : Entry} (h : r.byId id = some e) : e.id = id := by
  simpa using List.find?_some h
theorem exec_resEccError_clean (t id : Nat) (s : State) (e : Entry) (ht : t < s.n) (he : (s.tile t).res.byId id = some e) (hst : e.st = .clean) :
    exec (.resEccError t (.entry id)) s = .next (s.modRes t (fun r => r.dropEntry id)) := by
  simp only [exec, execResEccError, if_pos ht, he, State.entryFault, hst, TileRes.id_of_byId he]
theorem resEccClean_drops (t id : Nat) (s : State) (e : Entry) (ht : t < s.n) (hs : s.Sized) (he : (s.tile t).res.byId id = some e)
    (hst : e.st = .clean) : ∃ u, exec (.resEccError t (.entry id)) s = .next u ∧ (u.tile t).res.byId id = none ∧
      (∀ f ∈ (s.tile t).res.entries, f.id ≠ id → f ∈ (u.tile t).res.entries) ∧ s.SameMedium u ∧ u.out = s.out := by
  refine ⟨_, exec_resEccError_clean t id s e ht he hst, ?_, ?_, s.sameMedium_modRes t _, by simp⟩ <;>
    rw [State.modRes_eq, State.tile_modTile_same _ _ _ (hs.tile_listed ht)]
  · exact TileRes.byId_dropEntry _ _
  · exact fun f hf hne => (TileRes.mem_dropEntry _ _ _).2 ⟨hf, hne⟩

/-! ### The address shadow (R148, R245) -/

/-- The shadow list `old` with what it held of tile `t` replaced by the list that tile `t` has resent (R245). -/
def State.resentShadow (s : State) (t : Nat) (old : List ShadowEntry) : List ShadowEntry :=
  old.filter (fun e => !((s.ownShadow t).any (fun q => decide (q.owner = e.owner))) && decide (e.owner ≠ t)) ++ s.ownShadow t
theorem exec_shadowResent (t : Nat) (s : State) (ht : t < s.n) (hm : s.mirrorOf t < s.n) (ha : s.tileActive t = true)
    (hma : s.tileActive (s.mirrorOf t) = true) (hr : (s.tile t).fence.remirror = false) : exec (.shadowResent t) s =
    .next ((s.modRes (s.mirrorOf t) (fun r => { r with shadow := s.resentShadow t r.shadow })).tev (s.mirrorOf t) Ev.SHADOW_RESENT 0xFF t []) :=
  congrArg Host.Outcome.next (if_pos ⟨ht, hm, ha, hma, by simp [hr]⟩)
theorem shadowResent_stands (t : Nat) (s : State) (ht : t < s.n) (hs : s.Sized) (hm : s.mirrorOf t < s.n) (ha : s.tileActive t = true)
    (hma : s.tileActive (s.mirrorOf t) = true) (hr : (s.tile t).fence.remirror = false) : ∃ u, exec (.shadowResent t) s = .next u ∧
      (∀ e ∈ s.ownShadow t, e ∈ (u.tile (s.mirrorOf t)).res.shadow) ∧ u.tileReports (s.mirrorOf t) Ev.SHADOW_RESENT ∧ s.SameMedium u := by
  refine ⟨_, exec_shadowResent t s ht hm ha hma hr, fun e he => ?_, State.tev_reports _ _ _ _ _ _ (by simpa using hs.tile_recorder hm),
    (s.sameMedium_modRes _ _).of_tiles (State.tev_tiles ..)⟩
  rw [State.tev_tile, State.modRes_eq, State.tile_modTile_same _ _ _ (hs.tile_listed hm)]
  exact List.mem_append_right _ he

/-- Settles O18: each command changes the reservoirs of the tiles it names and nothing else that the statement speaks of. -/
theorem reservoirUpkeep : Obligations.ReservoirUpkeep := by
  unfold Obligations.ReservoirUpkeep
  exact ⟨gpfPhase2_lists, resEccCorrected_counts, resEccClean_drops, shadowResent_stands⟩

end Sys2Proof.Machine
end

section
/-! Proofs of 05_write_path.md: the fetch of a PARTIAL line merges (R136). -/
namespace Sys2Proof.Machine
open Sys2Proof

/-! ### An entry found by its number -/

/-- A change of one entry that leaves its number is a change of what its number finds. -/
theorem TileRes.byId_setEntry (r : TileRes) (id : Nat) (f : Entry → Entry) (hf : ∀ e, (f e).id = e.id) :
    (r.setEntry id f).byId id = (r.byId id).map f := by
  have same (e : Entry) : decide ((if e.id = id then f e else e).id = id) = decide (e.id = id) := by
    split
    · rw [hf]
    · rfl
  simp only [TileRes.byId, TileRes.setEntry, List.find?_map, Function.comp_def, same]
  cases h : r.entries.find? (fun e => decide (e.id = id)) with
  | none => rfl
  | some e =>
    have hid : e.id = id := TileRes.id_of_byId (r := r) h
    simp [hid]
/-- Entries of other numbers may go: the number finds what it found. -/
theorem TileRes.byId_filter (r : TileRes) (id : Nat) (p : Entry → Bool) (hp : ∀ e, e.id = id → p e = true) :
    ({ r with entries := r.entries.filter p } : TileRes).byId id = r.byId id := by
  simp only [TileRes.byId, List.find?_filter]
  congr 1
  funext e
  simpa using hp e

/-! ### The merge (R136) -/

/-- The line as the merge leaves it: DIRTY and whole, with data `data` (R136). -/
def Entry.filled (e : Entry) (data : Line) : Entry := { e with st := .dirty, data := data, mask := fullMask }
/-- The entries other than the older ones of the line of `e` that are not IN-FLIGHT, which give way (R136, R291). -/
def TileRes.withoutOlder (x : TileRes) (e : Entry) : TileRes :=
  { x with entries := x.entries.filter (fun f => !decide (f.addr = e.addr ∧ f.owner = e.owner ∧ f.id < e.id ∧ f.st ≠ .inflight)) }
/-- What the number of a PARTIAL entry finds after the merge. -/
theorem TileRes.byId_merged (x : TileRes) (e : Entry) (id : Nat) (data : Line) (he : x.byId id = some e) :
    ((x.setEntry id (·.filled data)).withoutOlder e).byId id = some (e.filled data) := by
  have hid : e.id = id := TileRes.id_of_byId he
  have kept := TileRes.byId_filter (x.setEntry id (·.filled data)) id
    (fun f => !decide (f.addr = e.addr ∧ f.owner = e.owner ∧ f.id < e.id ∧ f.st ≠ .inflight)) (fun f hf => by simp [hf, hid])
  have changed := TileRes.byId_setEntry x id (·.filled data) (fun _ => rfl)
  rw [he] at changed
  exact kept.trans changed

/-- The tile's entries after the fetch of line `e` has merged with DATA `data` (R136). -/
def State.fetched (s : State) (t id : Nat) (e : Entry) (data : Line) : State :=
  (s.modRes t (fun x => x.setEntry id (·.filled (mergeBytes e.mask e.data data)))).modRes t (fun x => x.withoutOlder e)
/-- Where no partial write waits for it, the fetch of a PARTIAL line leaves the merged entries and ends. -/
theorem State.keepsEntries_mergeFetch (s : State) (t : Nat) (r : Rd) (e : Entry) (hlost : r.lost = false) (he : (s.tile t).res.byId r.link = some e)
    (hst : e.st = .incomplete) (hw : (s.tile t).res.pwaits.all (fun w => decide (w.entry ≠ r.link)) = true) :
    (s.fetched t r.link e r.acc).KeepsEntries (s.mergeFetch t r) := by
  have nobody : (s.tile t).res.pwaits.filter (fun w => decide (w.entry = r.link)) = [] := by
    rw [List.filter_eq_nil_iff]
    intro w hw'
    simpa using List.all_eq_true.1 hw w hw'
  simp only [State.mergeFetch, he, hlost, hst, nobody, Bool.false_eq_true, false_and, if_false, if_true]
  refine State.KeepsEntries.trans ?_ (State.booked_modRd ..).keepsEntries
  refine State.KeepsEntries.trans ?_ (State.keepsEntries_modRes _ _ _ (fun _ => by rfl))
  exact (State.booked_modRd (s.fetched t r.link e r.acc) t _).keepsEntries

theorem exec_fetchDone (t rd : Nat) (s : State) (r : Rd) (hr : (s.tile t).rd.byId rd = some r) (hwhy : r.why = .fetch) (hph : r.phase = .decoded) :
    exec (.fetchDone t rd) s = .next ((s.mergeFetch t r).noteGate t) := by
  simp [exec, execFetchDone, hr, hwhy, hph]
/-- Settles O13: the merge writes the entry that the fetch is linked to and drops only older entries of its line. -/
theorem fetchFillsPartial : Obligations.FetchFillsPartial := by
  unfold Obligations.FetchFillsPartial
  intro t rd s r e ht hr hwhy hph hlost he hst hw
  have hrest := (s.keepsEntries_mergeFetch t r e hlost he hst hw).trans (State.keepsEntries_noteGate _ t)
  have hquiet : s.Quiet (s.fetched t r.link e r.acc) := (s.quiet_modRes t _).trans (State.quiet_modRes _ t _)
  refine ⟨_, e.filled (mergeBytes e.mask e.data r.acc), exec_fetchDone t rd s r hr hwhy hph, ?_, rfl, rfl, rfl,
    hrest.out.trans hquiet.out, hquiet.medium.trans hrest.medium⟩
  have merged := TileRes.byId_merged (s.tile t).res e r.link (mergeBytes e.mask e.data r.acc) he
  simpa only [TileRes.byId, hrest.entries, State.fetched, State.modRes_eq, State.tile_modTile_same, State.modTile_tiles_length, ht] using merged

end Sys2Proof.Machine
end

section
/-! Proofs of 05_write_path.md: mirror messages, their acknowledgements and releases (R126, R129, R133, R250). -/
namespace Sys2Proof.Machine
open Sys2Proof

/-! ### What the ends of these commands leave -/

/-- The note of the gate changes one field of a reservoir (R143). -/
theorem State.noteGate_res {β : Type} (g : TileRes → β) (s : State) (t u : Nat) (hg : ∀ x w, g { x with gateWas := w } = g x) :
    g ((s.noteGate t).tile u).res = g (s.tile u).res := by
  have noted := State.modTile_keeps (fun x => g x.res) s t u (fun x => { x with res := { x.res with gateWas := s.gate t } }) (fun _ => hg _ _)
  unfold State.noteGate
  simp only []
  split
  · rw [State.tev_tile]
    exact noted
  · exact noted
theorem State.quiet_noteGate (s : State) (t : Nat) : s.Quiet (s.noteGate t) := (s.keepsEntries_noteGate t).toQuiet
/-- The Cmp of a host write is a response after bookkeeping (R126). -/
theorem State.ackWrite_cxl (s : State) (t : Nat) (r : Req) (hr : r.iface = .cxl) :
    ∃ u, s.Booked u ∧ s.ackWrite t r = u.respondMem r false 0 false := by
  unfold State.ackWrite
  rw [hr]
  exact ⟨_, (s.booked_modRd t _).trans (State.booked_leaveIngress _ r), rfl⟩
/-- The completion of a host write after nothing else was handed over is its answer, and no medium and no map has changed. -/
theorem State.Quiet.respondMem {s u : State} (h : s.Quiet u) (r : Req) (isData : Bool) (d : Line) (poison : Bool) (hup : (s.port r.port).up = true) :
    s.Answers (u.respondMem r isData d poison) r isData d poison ∧ s.SameMedium (u.respondMem r isData d poison) := by
  obtain ⟨load, hout⟩ := u.respondMem_out r isData d poison ((h.up _).trans hup)
  exact ⟨⟨load, h.out ▸ hout⟩, h.medium.of_tiles (State.respondMem_tiles ..)⟩
theorem State.Answers.of_quiet {s t u : State} {r : Req} {isData poison : Bool} {d : Line} (h : s.Answers t r isData d poison) (hq : t.Quiet u) :
    s.Answers u r isData d poison := by
  obtain ⟨load, hout⟩ := h
  exact ⟨load, hq.out.trans hout⟩

/-! ### Mirror messages (R133) -/

/-- A mirror message is a change of the mirror tile's reservoir. -/
theorem State.mergeMirror_modRes (s : State) (m : Nat) (r : Req) : ∃ f, s.mergeMirror m r = s.modRes m f := by
  unfold State.mergeMirror
  split
  · exact ⟨_, rfl⟩
  · exact ⟨_, rfl⟩
/-- After it a MIRROR entry of the line holds the bytes of the write. -/
theorem State.mergeMirror_entry (s : State) (m : Nat) (r : Req) (hm : m < s.tiles.length) : ∃ e old, e ∈ ((s.mergeMirror m r).tile m).res.entries ∧
    e.addr = r.lla ∧ e.owner = r.tile ∧ e.st = .mirror ∧ e.kx = r.kx ∧ e.data = mergeBytes r.mask r.data old := by
  unfold State.mergeMirror
  split
  next e he =>
    have hcond := List.find?_some he
    obtain ⟨haddr, howner, hst, -⟩ := of_decide_eq_true hcond
    rw [State.modRes_eq, State.tile_modTile_same _ _ _ hm]
    exact ⟨_, e.data, List.mem_map.2 ⟨e, List.mem_of_find?_eq_some he, if_pos rfl⟩, haddr, howner, hst, rfl, rfl⟩
  next =>
    obtain ⟨beyond, rest, hplace⟩ := (s.tile m).res.place_entries { Entry.empty .data r.part r.lla r.tile with
      st := .mirror, mask := r.mask, data := mergeBytes r.mask r.data 0, dpa := r.dpa, kx := r.kx, poisoned := r.poison,
      blank := r.zero && decide (r.mask = fullMask) }
    rw [State.modRes_eq, State.tile_modTile_same _ _ _ hm, hplace]
    exact ⟨_, 0, List.mem_cons_self, rfl, rfl, rfl, rfl, rfl⟩

/-- The oldest message of tile `t` for its mirror tile has left, `rest` have not. -/
def State.sentMirror (s : State) (t : Nat) (rest : List Req) : State := s.modRes t (fun x => { x with mirrorOut := rest })
theorem exec_mirrorMessage (t : Nat) (s : State) (r : Req) (rest : List Req) (hout : (s.tile t).res.mirrorOut = r :: rest) (hw : r.write = true)
    (hm : s.mirrorOf t < s.n) (hf : (s.tile (s.mirrorOf t)).fence.st ≠ .fencing) (hr : (s.tile t).fence.remirror = false) :
    exec (.mirrorMessage t) s = .next ((((s.sentMirror t rest).mergeMirror (s.mirrorOf t) r).ringSend t (s.mirrorOf t) ringMirror).noteGate
      (s.mirrorOf t)) := by
  simp only [exec, execMirrorMessage, hout, if_pos (show _ ∧ _ ∧ _ ∧ _ from ⟨hw, hm, hf, hr⟩)]
  rfl
theorem mirrorMessage_merges (t : Nat) (s : State) (r : Req) (rest : List Req) (ht : t < s.n) (hs : s.Sized)
    (hout : (s.tile t).res.mirrorOut = r :: rest) (hw : r.write = true) (hm : s.mirrorOf t < s.n) (hne : s.mirrorOf t ≠ t)
    (hf : (s.tile (s.mirrorOf t)).fence.st ≠ .fencing) (hr : (s.tile t).fence.remirror = false) :
    ∃ u e old, exec (.mirrorMessage t) s = .next u ∧ (u.tile t).res.mirrorOut = rest ∧ e ∈ (u.tile (s.mirrorOf t)).res.entries ∧
      e.addr = r.lla ∧ e.owner = r.tile ∧ e.st = .mirror ∧ e.kx = r.kx ∧ e.data = mergeBytes r.mask r.data old ∧
      u.out = s.out ∧ s.SameMedium u := by
  obtain ⟨f, hmod⟩ := (s.sentMirror t rest).mergeMirror_modRes (s.mirrorOf t) r
  obtain ⟨e, old, he, hentry⟩ := (s.sentMirror t rest).mergeMirror_entry (s.mirrorOf t) r
    ((State.modTile_tiles_length ..).symm ▸ hs.tile_listed hm)
  have hend := ((State.booked_ringSend ((s.sentMirror t rest).mergeMirror (s.mirrorOf t) r) t (s.mirrorOf t) ringMirror).keepsEntries).trans
    (State.keepsEntries_noteGate _ (s.mirrorOf t))
  have hquiet : s.Quiet ((s.sentMirror t rest).mergeMirror (s.mirrorOf t) r) := by
    rw [hmod]
    exact (s.quiet_modRes t _).trans (State.quiet_modRes ..)
  obtain ⟨haddr, howner, hst, hkx, hdata⟩ := hentry
  refine ⟨_, e, old, exec_mirrorMessage t s r rest hout hw hm hf hr, ?_, (hend.entries _).symm ▸ he, haddr, howner, hst, hkx, hdata,
    (hquiet.trans hend.toQuiet).out, (hquiet.trans hend.toQuiet).medium⟩
  rw [State.noteGate_res (·.mirrorOut) _ _ _ (fun _ _ => rfl), State.ringSend_tile, hmod, State.modRes_eq, State.tile_modTile_ne _ _ _ _ hne,
    State.sentMirror, State.modRes_eq, State.tile_modTile_same _ _ _ (hs.tile_listed ht)]

/-! ### Acknowledgements (R126, R129) -/

/-- The oldest mirrored write `r` of tile `t` is accepted (R126). -/
def State.mirrored (s : State) (t : Nat) (r : Req) (rest : List Req) : State :=
  ((s.modRes t (fun x => { x.log r with cmpWait := rest })).tcount t Cn.WRITES_ACCEPTED 1).ringSend (s.mirrorOf t) t ringMirror
theorem exec_mirrorAck (t : Nat) (s : State) (r : Req) (rest : List Req) (hwait : (s.tile t).res.cmpWait = r :: rest)
    (hlt : (s.tile t).res.unmirrored < (s.tile t).res.cmpWait.length) :
    exec (.mirrorAck t) s = .next (((s.mirrored t r rest).ackWrite t r).noteGate t) := by
  simp only [exec, execMirrorAck, hwait]
  exact congrArg Host.Outcome.next (if_pos (hwait ▸ hlt))
theorem mirrorAck_completes (t : Nat) (s : State) (r : Req) (rest : List Req) (ht : t < s.n) (hs : s.Sized)
    (hwait : (s.tile t).res.cmpWait = r :: rest) (hcxl : r.iface = .cxl) (hup : (s.port r.port).up = true)
    (hlt : (s.tile t).res.unmirrored < (s.tile t).res.cmpWait.length) :
    ∃ u, exec (.mirrorAck t) s = .next u ∧ (u.tile t).res.cmpWait = rest ∧ s.Answers u r false 0 false ∧
      (u.tile t).res.accLog.head? = some { port := r.port, ld := r.ld, tag := r.tag } ∧ s.SameMedium u := by
  obtain ⟨u, hbook, hack⟩ := (s.mirrored t r rest).ackWrite_cxl t r hcxl
  have hquiet : s.Quiet u := ((s.quiet_modRes t _).trans ((State.booked_tcount ..).trans (State.booked_ringSend ..)).quiet).trans hbook.quiet
  obtain ⟨hans, hmed⟩ := hquiet.respondMem r false 0 false hup
  have hgate := (u.respondMem r false 0 false).quiet_noteGate t
  have hres : (u.tile t).res = { (s.tile t).res.log r with cmpWait := rest } := by
    rw [hbook.res, State.mirrored, State.ringSend_tile, State.tcount_tile, State.modRes_eq, State.tile_modTile_same _ _ _ (hs.tile_listed ht)]
  refine ⟨_, exec_mirrorAck t s r rest hwait hlt, ?_, ?_, ?_, ?_⟩ <;> rw [hack]
  · rw [State.noteGate_res (·.cmpWait) _ _ _ (fun _ _ => rfl), State.respondMem_tile, hres]
  · exact hans.of_quiet hgate
  · rw [State.noteGate_res (·.accLog) _ _ _ (fun _ _ => rfl), State.respondMem_tile, hres]
    rfl
  · exact hmed.trans hgate.medium

/-! ### Releases (R133, R250) -/

/-- The MIRROR entry of line `lla` of tile `owner` is gone. -/
def TileRes.released (x : TileRes) (owner lla : Nat) : TileRes :=
  { x with entries := x.entries.filter (fun e => !decide (e.addr = lla ∧ e.owner = owner ∧ e.st = .mirror)) }
theorem exec_mirrorRelease (t : Nat) (s : State) (r : Req) (rest : List Req) (hout : (s.tile t).res.mirrorOut = r :: rest) (hw : r.write = false)
    (hm : s.mirrorOf t < s.n) (hf : (s.tile (s.mirrorOf t)).fence.st ≠ .fencing) (hr : (s.tile t).fence.remirror = false) :
    exec (.mirrorRelease t) s = .next ((((s.sentMirror t rest).modRes (s.mirrorOf t) (fun x => x.released t r.lla)).ringSend t (s.mirrorOf t)
      ringMirror).noteGate (s.mirrorOf t)) := by
  simp only [exec, execMirrorRelease, hout, if_pos (show _ ∧ _ ∧ _ ∧ _ from ⟨hw, hm, hf, hr⟩)]
  rfl
theorem mirrorRelease_removes (t : Nat) (s : State) (r : Req) (rest : List Req) (ht : t < s.n) (hs : s.Sized)
    (hout : (s.tile t).res.mirrorOut = r :: rest) (hw : r.write = false) (hm : s.mirrorOf t < s.n)
    (hf : (s.tile (s.mirrorOf t)).fence.st ≠ .fencing) (hr : (s.tile t).fence.remirror = false) :
    ∃ u, exec (.mirrorRelease t) s = .next u ∧ (u.tile t).res.mirrorOut = rest ∧
      (∀ e ∈ (u.tile (s.mirrorOf t)).res.entries, ¬(e.addr = r.lla ∧ e.owner = t ∧ e.st = .mirror)) ∧ u.out = s.out ∧ s.SameMedium u := by
  have hquiet : s.Quiet ((((s.sentMirror t rest).modRes (s.mirrorOf t) (fun x => x.released t r.lla)).ringSend t (s.mirrorOf t)
      ringMirror).noteGate (s.mirrorOf t)) :=
    (((s.quiet_modRes t _).trans (State.quiet_modRes ..)).trans (State.booked_ringSend ..).quiet).trans (State.quiet_noteGate ..)
  refine ⟨_, exec_mirrorRelease t s r rest hout hw hm hf hr, ?_, fun e he => ?_, hquiet.out, hquiet.medium⟩
  · rw [State.noteGate_res (·.mirrorOut) _ _ _ (fun _ _ => rfl), State.ringSend_tile, State.modRes_eq]
    refine (State.modTile_keeps (·.res.mirrorOut) _ _ _ _ (fun _ => by rfl)).trans ?_
    rw [State.sentMirror, State.modRes_eq, State.tile_modTile_same _ _ _ (hs.tile_listed ht)]
  · rw [State.noteGate_res (·.entries) _ _ _ (fun _ _ => rfl), State.ringSend_tile, State.modRes_eq,
      State.tile_modTile_same _ _ _ (by simpa [State.sentMirror] using hs.tile_listed hm)] at he
    obtain ⟨-, hgone⟩ := List.mem_filter.1 he
    exact of_decide_eq_false (Bool.not_eq_true' _ ▸ hgone)

/-- Settles O14: a message and a release each change the mirror tile's entries; an acknowledgement ends in the write's response. -/
theorem mirrorMessages : Obligations.MirrorMessages := by
  unfold Obligations.MirrorMessages
  exact ⟨mirrorMessage_merges, mirrorAck_completes, mirrorRelease_removes⟩

end Sys2Proof.Machine
end

section
/-! Proofs of 05_write_path.md: what the way of a write leaves of all that a decode and a lookup rest on (R45 to R56, R126). -/
namespace Sys2Proof.Machine
open Sys2Proof

/-! ### What stands while requests are served -/

/-- A tile but for its reservoir, its reads and tokens. -/
def Tile.beside (x : Tile) : Tile := { x with res := TileRes.reset, rd := TileRead.reset }

/-- From `s` to `u` only messages, reservoirs, reads, buckets, buffers, counters and events may change: objects, partitions, logical devices,
the modes of the ports and the rest of every tile stand. -/
structure State.Stands (s u : State) : Prop where
  part : u.part = s.part
  parts : u.parts = s.parts
  obj : u.obj = s.obj
  lds : u.lds = s.lds
  ldMode : ∀ p, (u.port p).ldMode = (s.port p).ldMode
  ldCount : ∀ p, (u.port p).ldCount = (s.port p).ldCount
  listed : u.tiles.length = s.tiles.length
  beside : ∀ v, (u.tile v).beside = (s.tile v).beside

theorem State.Stands.refl (s : State) : s.Stands s := ⟨rfl, rfl, rfl, rfl, fun _ => rfl, fun _ => rfl, rfl, fun _ => rfl⟩
theorem State.Stands.trans {s t u : State} (a : s.Stands t) (b : t.Stands u) : s.Stands u :=
  ⟨b.part.trans a.part, b.parts.trans a.parts, b.obj.trans a.obj, b.lds.trans a.lds, fun p => (b.ldMode p).trans (a.ldMode p),
    fun p => (b.ldCount p).trans (a.ldCount p), b.listed.trans a.listed, fun v => (b.beside v).trans (a.beside v)⟩
theorem State.Stands.of_eq {s u : State} (part : u.part = s.part := by simp) (parts : u.parts = s.parts := by simp) (obj : u.obj = s.obj := by simp)
    (lds : u.lds = s.lds := by simp) (ports : u.ports = s.ports := by simp) (tiles : u.tiles = s.tiles := by simp) : s.Stands u :=
  ⟨part, parts, obj, lds, fun _ => by simp only [State.port, ports], fun _ => by simp only [State.port, ports], by rw [tiles],
    fun _ => by simp only [State.tile, tiles]⟩
theorem State.Stands.ite {s u v : State} {c : Prop} [Decidable c] (a : s.Stands u) (b : s.Stands v) : s.Stands (if c then u else v) := by
  split
  · exact a
  · exact b
theorem State.stands_each {α : Type} (s : State) (l : List α) (f : State → α → State) (h : ∀ u x, State.Stands u (f u x)) : s.Stands (s.each l f) :=
  State.each_induct s.Stands s l f (State.Stands.refl s) (fun u x _ hu => hu.trans (h u x))
theorem State.stands_modTile (s : State) (t : Nat) (f : Tile → Tile) (hf : ∀ x, (f x).beside = x.beside) : s.Stands (s.modTile t f) :=
  ⟨rfl, rfl, rfl, rfl, fun _ => rfl, fun _ => rfl, State.modTile_tiles_length .., fun v => State.modTile_keeps Tile.beside s t v f hf⟩
theorem State.stands_modRd (s : State) (t : Nat) (f : TileRead → TileRead) : s.Stands (s.modRd t f) := s.stands_modTile t _ (fun _ => rfl)
theorem State.stands_modRes (s : State) (t : Nat) (f : TileRes → TileRes) : s.Stands (s.modRes t f) := s.stands_modTile t _ (fun _ => rfl)
theorem State.modPort_keeps {β : Type} (g : Port → β) (s : State) (p q : Nat) (f : Port → Port) (h : ∀ x, g (f x) = g x) :
    g ((s.modPort p f).port q) = g (s.port q) := by
  by_cases hpq : p = q
  · subst hpq
    by_cases hl : p < s.ports.length
    · rw [State.port_modPort_same _ _ _ hl, h]
    · simp [State.port, State.modPort, List.getD, getElem?_modAt_same, List.getElem?_eq_none (Nat.le_of_not_lt hl)]
  · rw [State.port_modPort_ne _ _ _ _ hpq]
theorem State.stands_modPort (s : State) (p : Nat) (f : Port → Port) (hm : ∀ x, (f x).ldMode = x.ldMode) (hc : ∀ x, (f x).ldCount = x.ldCount) :
    s.Stands (s.modPort p f) :=
  ⟨rfl, rfl, rfl, rfl, fun q => s.modPort_keeps Port.ldMode p q f hm, fun q => s.modPort_keeps Port.ldCount p q f hc, rfl, fun _ => rfl⟩
theorem State.stands_modCls (s : State) (c : Nat) (f : FeedClass → FeedClass) : s.Stands (s.modCls c f) := .of_eq
theorem State.stands_tcount (s : State) (t num k : Nat) : s.Stands (s.tcount t num k) := .of_eq
theorem State.stands_tev (s : State) (t num cls value : Nat) (qs : List (Nat × Nat)) : s.Stands (s.tev t num cls value qs) := .of_eq
theorem State.stands_ringSend (s : State) (a d k : Nat) : s.Stands (s.ringSend a d k) := s.stands_each _ _ (fun u _ => u.stands_tcount _ _ _)

/-! ### The steps of a write -/

theorem State.stands_decoded (s : State) (p : Nat) : s.Stands (s.decoded p) := (s.stands_modPort p _ (by simp) (by simp)).trans (State.stands_tcount ..)
theorem State.stands_giveNibs (s : State) (t : Nat) (r : Req) : s.Stands (s.giveNibs t r) := (s.stands_modRd _ _).ite (.refl s)
theorem State.stands_noteCredits (s : State) (p : Nat) : s.Stands (s.noteCredits p) := by
  unfold State.noteCredits
  simp only []
  split
  · exact (s.stands_modPort _ _ (by simp) (by simp)).ite (.refl s)
  · split
    · exact .refl s
    · exact (s.stands_modPort _ _ (by simp) (by simp)).trans (State.stands_tev ..)
theorem State.stands_leaveIngress (s : State) (r : Req) : s.Stands (s.leaveIngress r) :=
  ((s.stands_modPort _ _ (by simp) (by simp)).trans (State.stands_noteCredits ..)).ite (.refl s)
theorem State.stands_chargeOne (s : State) (r : Req) (reserved w : Bool) : s.Stands (s.chargeOne r reserved w) := by
  unfold State.chargeOne
  extract_lets
  exact s.stands_modCls _ _
theorem State.stands_admitFeed (s : State) (t : Nat) (r : Req) : s.Stands (s.admitFeed t r).1 := by
  unfold State.admitFeed
  extract_lets reserved r1 held s1 s2 s3 s4 s5 a s6 s7 own
  have charged : s.Stands s1 := s.stands_each _ _ (fun u w => u.stands_chargeOne r reserved _)
  have noted : s1.Stands s2 := (s1.stands_modCls _ _).trans (State.stands_modRd _ t _)
  have entered : s2.Stands s3 := (s2.stands_modPort _ _ (by simp) (by simp)).ite (.refl s2)
  have admitted : s3.Stands s4 := s3.stands_tcount _ _ _
  have excess : s4.Stands s5 := .ite (.refl s4) (s4.stands_tcount _ _ _)
  have sent : s5.Stands s6 := .ite (.refl s5) ((s5.stands_ringSend _ _ _).trans (State.stands_ringSend ..))
  have forwarded : s6.Stands s7 := (s6.stands_tcount _ _ _).ite (.refl s6)
  have other : s7.Stands (if own && !r.write then s7.tcount t Cn.READS_FOR_OTHER_PORTS 1 else s7) := (s7.stands_tcount _ _ _).ite (.refl s7)
  exact ((((((charged.trans noted).trans entered).trans admitted).trans excess).trans sent).trans forwarded).trans other
theorem State.stands_admitted (s : State) (p t : Nat) (r : Req) : s.Stands (s.admitted p t r) := (s.stands_decoded p).trans (State.stands_admitFeed ..)
theorem State.stands_shadowFor (s : State) (t owner : Nat) (add : Bool) (kind addr : Nat) : s.Stands (s.shadowFor t owner add kind addr) := by
  unfold State.shadowFor
  simp only []
  split
  · exact .refl s
  · split
    · exact s.stands_modRes _ _
    · exact (s.stands_modRes _ _).trans (State.stands_ringSend ..)
theorem State.stands_noteGate (s : State) (t : Nat) : s.Stands (s.noteGate t) := by
  unfold State.noteGate
  simp only []
  split
  · exact (s.stands_modRes t _).trans (State.stands_tev ..)
  · exact s.stands_modRes t _
theorem State.stands_respondMem (s : State) (r : Req) (isData : Bool) (d : Line) (poison : Bool) : s.Stands (s.respondMem r isData d poison) := by
  unfold State.respondMem
  simp only []
  split
  · have answered (ms : List Response) : s.Stands { s with out := ms } := .of_eq rfl rfl rfl rfl rfl rfl
    exact ((answered _).trans (.ite (State.stands_tcount ..) (.refl _))).trans (State.stands_modCls ..)
  · exact .refl s

/-! ### What stands when these do -/

section
variable {s u : State} (h : s.Stands u)
include h

theorem State.Stands.n : u.n = s.n := by simp only [State.n, h.part]
theorem State.Stands.partn (p : Nat) : u.partn p = s.partn p := by simp only [State.partn, h.parts]
theorem State.Stands.fence (v : Nat) : (u.tile v).fence = (s.tile v).fence := (congrArg Tile.fence (h.beside v) :)
theorem State.Stands.mirrorOf (v : Nat) : u.mirrorOf v = s.mirrorOf v := by simp only [State.mirrorOf, h.fence]
theorem State.Stands.sameMedium : s.SameMedium u := fun v => ⟨(congrArg Tile.med (h.beside v) :), (congrArg Tile.map (h.beside v) :)⟩
theorem State.Stands.isLost (v lla : Nat) : (u.tile v).isLost lla = (s.tile v).isLost lla := by simp only [Tile.isLost, (h.sameMedium v).2]
theorem State.Stands.rootLost (v part : Nat) : u.rootLost v part = s.rootLost v part := by
  have sealing : (u.tile v).sealing = (s.tile v).sealing := (congrArg Tile.sealing (h.beside v) :)
  simp only [State.rootLost, sealing]
theorem State.Stands.cell (k d : Nat) : u.cell k d = s.cell k d := by simp only [State.cell, h.obj]
theorem State.Stands.ld (p l : Nat) : u.ld p l = s.ld p l := by simp only [State.ld, h.lds]
theorem State.Stands.ldOf (p id : Nat) : u.ldOf p id = s.ldOf p id := by
  unfold State.ldOf
  simp only [h.ldMode, h.ldCount, h.cell]
theorem State.Stands.alloc (p l : Nat) : u.alloc p l = s.alloc p l := by simp only [State.alloc, h.ldMode, h.part, h.cell]
theorem State.Stands.dcBarred (p l d : Nat) : u.dcBarred p l d = s.dcBarred p l d := by
  have region (r : Nat) : u.region p l r = s.region p l r := by simp only [State.region, h.cell]
  unfold State.dcBarred
  simp only [region, h.ld]
theorem State.Stands.routeDpa (kx dpa : Nat) : u.routeDpa kx dpa = s.routeDpa kx dpa := by
  unfold State.routeDpa
  simp only [State.partOf, h.parts, h.partn]
/-- A host address decodes as it did (R45 to R56). -/
theorem State.Stands.routeHpa (p id hpa : Nat) : u.routeHpa p id hpa = s.routeHpa p id hpa := by
  unfold State.routeHpa
  simp only [h.ldOf, h.ld, h.alloc, h.dcBarred, h.routeDpa]

end

end Sys2Proof.Machine
end

section
/-! Proofs of 05_write_path.md: host writes of whole lines and of bytes, and the read after a write (R126, R133, R135, R157, R160, R362). -/
namespace Sys2Proof.Machine
open Sys2Proof

/-! ### The acceptance of a host write (R126 to R129) -/

/-- From `s` to `u` request `r`, a write, is completed; the entries of every reservoir stand, and so does what a decode rests on. -/
structure State.Accepts (s u : State) (r : Req) : Prop where
  answer : s.Answers u r false 0 false
  stands : s.Stands u
  entries : ∀ v, (u.tile v).res.entries = (s.tile v).res.entries

theorem State.Accepts.noteGate {s u : State} {r : Req} (h : s.Accepts u r) (t : Nat) : s.Accepts (u.noteGate t) r :=
  ⟨h.answer.of_quiet (u.quiet_noteGate t), h.stands.trans (u.stands_noteGate t), fun v => ((u.keepsEntries_noteGate t).entries v).trans (h.entries v)⟩
theorem State.Accepts.before {s t u : State} {r : Req} (h : t.Accepts u r) (hk : s.KeepsEntries t) (hs : s.Stands t) : s.Accepts u r := by
  obtain ⟨load, hout⟩ := h.answer
  exact ⟨⟨load, hk.out ▸ hout⟩, hs.trans h.stands, fun v => (h.entries v).trans (hk.entries v)⟩
theorem State.Accepts.find {s u : State} {r : Req} (h : s.Accepts u r) (v addr owner : Nat) :
    (u.tile v).res.find addr owner = (s.tile v).res.find addr owner := by
  simp only [TileRes.find, h.entries]
theorem State.ackWrite_accepts (s : State) (t : Nat) (r : Req) (hr : r.iface = .cxl) (hup : (s.port r.port).up = true) : s.Accepts (s.ackWrite t r) r := by
  have hfreed : s.Stands ((s.modRd t (fun x => x.giveToken r.src true)).leaveIngress r) := (s.stands_modRd t _).trans (State.stands_leaveIngress ..)
  have hbook : s.Booked ((s.modRd t (fun x => x.giveToken r.src true)).leaveIngress r) := (s.booked_modRd t _).trans (State.booked_leaveIngress ..)
  simp only [State.ackWrite, hr]
  exact ⟨(hbook.quiet.respondMem r false 0 false hup).1, hfreed.trans (State.stands_respondMem ..), fun v => by
    rw [State.respondMem_tile, hbook.res]⟩
/-- A write to a plain partition is accepted at once unless it waits for a shadow entry at a FENCING mirror tile (R126, R128). -/
theorem State.accepted_accepts (s : State) (t : Nat) (r new : Req) (created : Bool) (hr : r.iface = .cxl) (hup : (s.port r.port).up = true)
    (hplain : (s.partn r.part).spanned = false) (hm : created = true → s.mirrorOf t < s.n → (s.tile (s.mirrorOf t)).fence.st ≠ .fencing) :
    s.Accepts (s.accepted t r new created) r := by
  have logged (k : Nat) : s.KeepsEntries ((s.modRes t (fun x => x.log r)).tcount t k 1) :=
    (s.keepsEntries_modRes t (fun x => x.log r) (fun _ => rfl)).trans (State.booked_tcount ..).keepsEntries
  have hlog (k : Nat) : s.Stands ((s.modRes t (fun x => x.log r)).tcount t k 1) := (s.stands_modRes t _).trans (State.stands_tcount ..)
  unfold State.accepted
  extract_lets m spanned s1
  have hspanned : spanned = false := by simp [spanned, hplain]
  have hnow : ¬(created = true ∧ m < s.n ∧ (s.tile m).fence.st = .fencing) := fun ⟨hc, hlt, hf⟩ => hm hc hlt hf
  rw [hspanned, if_neg Bool.false_ne_true, if_neg hnow]
  exact (State.ackWrite_accepts _ t r hr (((logged _).up _).trans hup)).before (logged _) (hlog _)

/-! ### The lookup of a write (R126, R133, R135) -/

section
variable {s : State} {t : Nat} {r : Req} (hp : r.poison = false) (ha : r.atom = 0) (hlost : (s.tile r.tile).isLost r.lla = false)
  (hroot : s.rootLost r.tile r.part = false)
include hp ha hlost hroot

theorem State.lookupWrite_of_absent (pred : Nat) (hmask : r.mask = fullMask) (hnone : (s.tile t).res.find r.lla r.tile = none) :
    s.lookupWrite t r pred = (s.giveNibs t r).mergeNew t r := by
  simp [State.lookupWrite, hp, ha, hlost, hroot, hmask, hnone]
theorem State.lookupWrite_of_resident (pred : Nat) (e : Entry) (hfind : (s.tile t).res.find r.lla r.tile = some e) (hkx : e.kx = r.kx) :
    s.lookupWrite t r pred = (s.giveNibs t r).mergeInto t e r := by
  simp [State.lookupWrite, hp, ha, hlost, hroot, hfind, hkx]

end

section
variable {s : State} {f : Flit} {r : Req} {t : Nat} (h : s.Admits f r t)
include h

theorem State.Admits.mask : r.mask = f.mask := by
  obtain ⟨_, _, _, _, _, -, rfl⟩ := h.request
  rfl
theorem State.Admits.data : r.data = f.data := by
  obtain ⟨_, _, _, _, _, -, rfl⟩ := h.request
  rfl
theorem State.Admits.poison : r.poison = f.poison := by
  obtain ⟨_, _, _, _, _, -, rfl⟩ := h.request
  rfl
theorem State.Admits.atom : r.atom = 0 := by
  obtain ⟨_, _, _, _, _, -, rfl⟩ := h.request
  rfl
theorem State.Admits.zero : r.zero = false := by
  obtain ⟨_, _, _, _, _, -, rfl⟩ := h.request
  rfl
/-- A tile that has tokens to give is one of the state's. -/
theorem State.Admits.listed (hw : f.write = true) : t < s.tiles.length := by
  by_contra hle
  have hreset : ((s.decoded f.port).tile t).rd = TileRead.reset := by
    simp [State.decoded, State.tile, List.getD, List.getElem?_eq_none (Nat.le_of_not_lt hle), Tile.reset]
  have hroom := h.room
  have htokens : (s.decoded f.port).tokensFree t r = true := by
    simp only [State.admissible, Bool.and_eq_true] at hroom
    tauto
  simp [State.tokensFree, hreset, TileRead.tokenFree, h.write, hw, TileRead.reset] at htokens

/-- An admitted write goes to the write lookup of its tile. -/
theorem State.Admits.decodeFlit_write (hw : f.write = true) (pred : Nat) :
    s.decodeFlit f pred = ((s.admitted f.port t r).lookupWrite t (s.admittedReq f.port r) pred).noteGate t := by
  have write : (s.admittedReq f.port r).write = true := h.write.trans hw
  rw [h.decodeFlit pred, State.lookup, if_pos write]

end

/-! ### A whole line that finds no entry (R126, R133) -/

section
variable {s : State} {t : Nat} {r : Req} (hr : r.iface = .cxl) (hp : r.poison = false) (hup : (s.port r.port).up = true)
  (hplain : (s.partn r.part).spanned = false)
include hr hp hup hplain

theorem State.mergeNew_accepts (hm : s.mirrorOf t < s.n → (s.tile (s.mirrorOf t)).fence.st ≠ .fencing) : (s.placed t r).Accepts (s.mergeNew t r) r := by
  have hplaced : s.Stands (s.placed t r) := s.stands_modRes t _
  have counted (c : Prop) [Decidable c] : (s.placed t r).Booked (if c then (s.placed t r).tcount t Cn.OVERFLOW_ENTRIES 1 else s.placed t r) :=
    (State.booked_tcount ..).ite (.refl _)
  have hcounted (c : Prop) [Decidable c] : (s.placed t r).Stands (if c then (s.placed t r).tcount t Cn.OVERFLOW_ENTRIES 1 else s.placed t r) :=
    (State.stands_tcount ..).ite (.refl _)
  unfold State.mergeNew
  extract_lets e0 e beyond s1 s2 s3 s4
  have hshadow : (s.placed t r).KeepsEntries s3 := State.KeepsEntries.trans (t := s2) (counted _).keepsEntries (s2.keepsEntries_shadowFor t r.tile true 1 r.lla)
  have hstands : (s.placed t r).Stands s3 := State.Stands.trans (t := s2) (hcounted _) (s2.stands_shadowFor t r.tile true 1 r.lla)
  have hboth : s.Stands s3 := hplaced.trans hstands
  have hs4 : s4 = s3 := if_neg (by simp [hp])
  rw [hs4]
  refine ((s3.accepted_accepts t r r true hr ?_ ?_ ?_).before hshadow hstands).noteGate t
  · exact (hshadow.up _).trans hup
  · rw [hboth.partn, hplain]
  · rw [hboth.mirrorOf, hboth.n, hboth.fence]
    exact fun _ => hm

/-! ### Bytes of a resident line (R133, R135) -/

/-- Entry `e` of tile `t` with the bytes of write `r` merged over `base`. -/
def State.mergedInto (s : State) (t : Nat) (e : Entry) (r : Req) (base : Line) : State :=
  s.modRes t (fun x => { x.setEntry e.id (fun e => e.merge r base x.seqCtr) with seqCtr := x.seqCtr + 1 })
theorem State.mergeInto_accepts (e : Entry) (hdirty : e.st = .dirty) : ∃ base, (r.mask ≠ fullMask → base = s.entryPlain r.tile e r.kx) ∧
    (s.mergedInto t e r base).Accepts (s.mergeInto t e r) r := by
  unfold State.mergeInto
  extract_lets old base created s1 s2 s3
  have hcreated : created = false := by simp [created, hdirty, LineState.counted]
  have hs2 : s2 = s1 := if_neg (by simp [hcreated])
  have hs3 : s3 = s2 := if_neg (by simp [hp])
  have hcount (full : Bool) : s1.KeepsEntries (s1.countMerge t e full) ∧ s1.Stands (s1.countMerge t e full) := by
    unfold State.countMerge
    extract_lets c1 c2
    have b1 : s1.Booked c1 := (s1.booked_tcount ..).ite (.refl _)
    have b2 : c1.Booked c2 := (c1.booked_tcount ..).ite (.refl _)
    have d1 : s1.Stands c1 := (s1.stands_tcount ..).ite (.refl _)
    have d2 : c1.Stands c2 := (c1.stands_tcount ..).ite (.refl _)
    exact ⟨((b1.trans b2).trans (.ite (.refl _) (c2.booked_tcount ..))).keepsEntries, (d1.trans d2).trans (.ite (.refl _) (c2.stands_tcount ..))⟩
  obtain ⟨hkeeps, hstands⟩ := hcount (decide (r.mask = fullMask))
  have hmerged : s.Stands s1 := s.stands_modRes t _
  refine ⟨base, fun hmask => ?_, ?_⟩
  · rw [show base = old from if_neg (by simp [hdirty]), show old = s.entryPlain r.tile e r.kx from if_neg hmask]
  · rw [hs3, hs2]
    refine ((State.accepted_accepts _ t r r created hr ?_ ?_ ?_).before hkeeps hstands).noteGate t
    · exact (hkeeps.up _).trans hup
    · rw [(hmerged.trans hstands).partn, hplain]
    · rw [hcreated]
      exact fun hno => Bool.noConfusion hno

end

/-- A change of one entry that leaves its line is a change of what its line finds. -/
theorem TileRes.find_setEntry (r : TileRes) (id addr owner : Nat) (f : Entry → Entry) (ha : ∀ e, (f e).addr = e.addr) (ho : ∀ e, (f e).owner = e.owner) :
    (r.setEntry id f).find addr owner = (r.find addr owner).map (fun e => if e.id = id then f e else e) := by
  have same (e : Entry) : decide ((if e.id = id then f e else e).addr = addr ∧ (if e.id = id then f e else e).owner = owner) =
      decide (e.addr = addr ∧ e.owner = owner) := by
    split
    · rw [ha, ho]
    · rfl
  simp only [TileRes.find, TileRes.setEntry, List.find?_map, Function.comp_def, same]
/-- With every byte enabled nothing of the old line is left (R135). -/
theorem mergeBytes_fullMask (new old : Line) : mergeBytes fullMask new old = new := by
  have every : (List.range 64).foldl (fun acc i => if fullMask.getLsbD i then acc ||| (255#512 <<< (8 * i)) else acc) 0#512 = BitVec.allOnes 512 := by
    decide +kernel
  simp only [mergeBytes, every, BitVec.and_allOnes, BitVec.not_allOnes, BitVec.and_zero, BitVec.or_zero]

/-! ### Host writes -/

/-- The state in which an admitted write merges at its tile. -/
def State.atMerge (s : State) (p t : Nat) (r : Req) : State := (s.admitted p t r).giveNibs t (s.admittedReq p r)
theorem State.booked_atMerge (s : State) (p t : Nat) (r : Req) : s.Booked (s.atMerge p t r) :=
  (s.booked_admitted p t r).trans (State.booked_giveNibs ..)
theorem State.stands_atMerge (s : State) (p t : Nat) (r : Req) : s.Stands (s.atMerge p t r) :=
  (s.stands_admitted p t r).trans (State.stands_giveNibs ..)

section
variable {s : State} {f : Flit} {r : Req} {t : Nat} (h : s.Admits f r t) (hw : f.write = true) (hp : f.poison = false) (ht : t = r.tile)
  (hlost : (s.tile t).isLost r.lla = false) (hroot : s.rootLost t r.part = false) (hplain : (s.partn r.part).spanned = false)
include h hw hp ht hlost hroot hplain

/-- The full-line write of a line that is not resident places its entry and is completed. -/
theorem State.Admits.write_of_absent (pred : Nat) (hmask : f.mask = fullMask) (hnone : (s.tile t).res.find r.lla t = none)
    (hm : s.mirrorOf t < s.n → (s.tile (s.mirrorOf t)).fence.st ≠ .fencing) :
    ((s.atMerge f.port t r).placed t (s.admittedReq f.port r)).Accepts (s.decodeFlit f pred) (s.admittedReq f.port r) := by
  subst ht
  have hadm := s.booked_admitted f.port r.tile r
  have hbook := s.booked_atMerge f.port r.tile r
  have hstands := s.stands_atMerge f.port r.tile r
  rw [h.decodeFlit_write hw pred, State.lookupWrite_of_absent (r := s.admittedReq f.port r) (h.poison.trans hp) h.atom ((hadm.isLost ..).trans hlost)
    ((hadm.rootLost ..).trans hroot) pred (h.mask.trans hmask) ((congrArg (·.find r.lla r.tile) (hadm.res r.tile)).trans hnone)]
  refine (State.mergeNew_accepts (s := s.atMerge f.port r.tile r) (r := s.admittedReq f.port r) h.iface (h.poison.trans hp) ?_ ?_ ?_).noteGate r.tile
  · exact (hbook.up _).trans h.up
  · exact (congrArg _ (hstands.partn r.part)).trans hplain
  · show (s.atMerge f.port r.tile r).mirrorOf r.tile < (s.atMerge f.port r.tile r).n → _
    rw [hstands.mirrorOf, hstands.n]
    exact fun hlt => hstands.fence _ ▸ hm hlt
/-- A write under the key index of the DIRTY entry that it finds merges its bytes and is completed. -/
theorem State.Admits.write_of_resident (pred : Nat) (e : Entry) (hfind : (s.tile t).res.find r.lla t = some e) (hdirty : e.st = .dirty)
    (hkx : e.kx = r.kx) : ∃ base, (f.mask ≠ fullMask → base = s.entryPlain t e r.kx) ∧
    ((s.atMerge f.port t r).mergedInto t e (s.admittedReq f.port r) base).Accepts (s.decodeFlit f pred) (s.admittedReq f.port r) := by
  subst ht
  have hadm := s.booked_admitted f.port r.tile r
  have hbook := s.booked_atMerge f.port r.tile r
  have hstands := s.stands_atMerge f.port r.tile r
  rw [h.decodeFlit_write hw pred, State.lookupWrite_of_resident (r := s.admittedReq f.port r) (h.poison.trans hp) h.atom ((hadm.isLost ..).trans hlost)
    ((hadm.rootLost ..).trans hroot) pred e ((congrArg (·.find r.lla r.tile) (hadm.res r.tile)).trans hfind) hkx]
  obtain ⟨base, hbase, hacc⟩ := State.mergeInto_accepts (s := s.atMerge f.port r.tile r) (t := r.tile) (r := s.admittedReq f.port r) h.iface
    (h.poison.trans hp) ((hbook.up _).trans h.up) ((congrArg _ (hstands.partn r.part)).trans hplain) e hdirty
  refine ⟨base, fun hmask => ?_, hacc.noteGate r.tile⟩
  exact (hbase (fun hfull => hmask (h.mask.symm.trans hfull))).trans (hbook.entryPlain ..)

end

/-- What a write that has merged in a reservoir hands over, between `s` and its end: its completion, with medium and map as they were. -/
theorem State.Accepts.from {s w u : State} {r : Req} {t : Nat} {f : TileRes → TileRes} (hacc : (w.modRes t f).Accepts u r) (hbook : s.Booked w)
    (hstands : s.Stands w) : s.Answers u r false 0 false ∧ s.Stands u := by
  obtain ⟨load, hout⟩ := hacc.answer
  exact ⟨⟨load, hout.trans (by rw [State.modRes_eq, State.modTile_out, hbook.out])⟩, (hstands.trans (State.stands_modRes ..)).trans hacc.stands⟩

/-- The flit of a host write. -/
def writeFlit (port id tag hpa : Nat) (mask : ByteMask) (data : Line) : Flit :=
  { port := port, id := id, tag := tag, hpa := hpa, write := true, mask := mask, data := data, poison := false }

/-- The entry that a full-line write leaves where its line had none (R126, R133). -/
theorem State.Admits.memWr_makes_entry {s : State} {r : Req} {port id tag hpa t : Nat} {data : Line}
    (h : s.Admits (writeFlit port id tag hpa fullMask data) r t) (ht : t = r.tile) (hnone : (s.tile t).res.find r.lla t = none)
    (hlost : (s.tile t).isLost r.lla = false) (hroot : s.rootLost t r.part = false) (hplain : (s.partn r.part).spanned = false)
    (hm : s.mirrorOf t < s.n → (s.tile (s.mirrorOf t)).fence.st ≠ .fencing) :
    ∃ u, exec (.memWr port id tag hpa data false) s = .next u ∧ s.Answers u r false 0 false ∧ s.Stands u ∧ ∃ n beyond,
      (u.tile t).res.find r.lla t = some { r.entry with id := n, stamp := n, used := n, overflow := beyond } := by
  subst ht
  have hacc := h.write_of_absent rfl rfl rfl hlost hroot hplain 0 rfl hnone hm
  obtain ⟨hans, hstands⟩ := hacc.from (s.booked_atMerge ..) (s.stands_atMerge ..)
  have hlen : r.tile < (s.atMerge port r.tile r).tiles.length := (s.stands_atMerge port r.tile r).listed ▸ h.listed rfl
  obtain ⟨beyond, hplace⟩ := ((s.atMerge port r.tile r).tile r.tile).res.find_place (s.admittedReq port r).entry
  refine ⟨_, rfl, hans, hstands, ((s.atMerge port r.tile r).tile r.tile).res.seqCtr, beyond, (hacc.find r.tile r.lla r.tile).trans ?_⟩
  refine (congrArg (fun x => x.res.find r.lla r.tile) (State.tile_modTile_same _ _ _ hlen)).trans ?_
  exact hplace

/-- Settles O8: each write ends in `State.Accepts`, after the placing of its entry or the merge of its bytes. -/
theorem hostWritesMerge : Obligations.HostWritesMerge := by
  unfold Obligations.HostWritesMerge
  refine ⟨fun port id tag hpa data s r t _ h ht hnone hlost hroot hplain hm => ?whole,
    fun port id tag hpa pred mask data s r t e _ h ht hfind hdirty hkx hlost hroot hplain => ?bytes⟩
  case whole =>
    obtain ⟨u, hexec, hans, hstands, n, beyond, hfind⟩ := h.memWr_makes_entry ht hnone hlost hroot hplain hm
    exact ⟨u, hexec, hans, hstands.sameMedium, _, hfind, rfl, h.data, rfl, rfl⟩
  case bytes =>
    obtain ⟨base, hbase, hacc⟩ := h.write_of_resident rfl rfl ht hlost hroot hplain pred e hfind hdirty hkx
    obtain ⟨hans, hstands⟩ := hacc.from (s.booked_atMerge ..) (s.stands_atMerge ..)
    have hlen : t < (s.atMerge port t r).tiles.length := (s.stands_atMerge port t r).listed ▸ h.listed rfl
    refine ⟨_, rfl, hans, hstands.sameMedium, e.merge (s.admittedReq port r) base ((s.atMerge port t r).tile t).res.seqCtr,
      (hacc.find t r.lla t).trans ?found, rfl, ?dirty, ?bytes⟩
    case found =>
      refine (congrArg (fun x => x.res.find r.lla t) (State.tile_modTile_same _ _ _ hlen)).trans ?_
      refine (TileRes.find_setEntry _ e.id r.lla t _ (fun _ => by rfl) (fun _ => by rfl)).trans ?_
      rw [(s.booked_atMerge port t r).res, hfind]
      exact congrArg some (if_pos rfl)
    case dirty => simp [Entry.merge, Entry.writtenState, hdirty]
    case bytes =>
      have hbytes : mergeBytes r.mask r.data base = mergeBytes mask data base := by rw [h.mask, h.data]
      refine hbytes.trans ?_
      by_cases hfull : mask = fullMask
      · rw [hfull, mergeBytes_fullMask, mergeBytes_fullMask]
      · rw [hbase hfull]

/-! ### The read after the write (R157, R160) -/

/-- A plain entry under the reader's key index reads as its data. -/
theorem State.entryPlain_of_sameKey (s : State) (t : Nat) (e : Entry) (kx : Nat) (hst : e.storedOnly = none) (hkx : e.kx = kx) :
    s.entryPlain t e kx = e.data := by
  simp [State.entryPlain, hst, State.rekey, hkx]
/-- An address that decodes as it did names the line it named. -/
theorem State.Admits.same_line {s u : State} {f g : Flit} {r q : Req} {t v : Nat} (h : s.Admits f r t) (hq : u.Admits g q v)
    (hroute : u.routeHpa g.port g.id g.hpa = s.routeHpa f.port f.id f.hpa) : q.lla = r.lla ∧ q.tile = r.tile ∧ q.kx = r.kx := by
  obtain ⟨kx, dpa, part, tile, lla, hline, rfl⟩ := h.request
  obtain ⟨kx', dpa', part', tile', lla', hline', rfl⟩ := hq.request
  obtain ⟨rfl, -, -, rfl, rfl⟩ := Route.line.inj (hline'.symm.trans (hroute.trans hline))
  exact ⟨rfl, rfl, rfl⟩

/-- Settles O9: the address still names the line, and the read finds the entry that the write made. -/
theorem readReturnsTheWrite : Obligations.ReadReturnsTheWrite := by
  unfold Obligations.ReadReturnsTheWrite
  intro port id tag tag2 hpa pred data s u r q t _ h ht hnone hlost hroot hplain hm hexec hq
  obtain ⟨u', hexec', -, hstands, n, beyond, hfind⟩ := h.memWr_makes_entry ht hnone hlost hroot hplain hm
  obtain rfl : u' = u := Host.Outcome.next.inj (hexec'.symm.trans hexec)
  obtain ⟨hlla, htile, hkx⟩ := h.same_line hq (hstands.routeHpa port id hpa)
  obtain ⟨v, hread, hans, -⟩ := hq.memRd_of_resident pred { r.entry with id := n, stamp := n, used := n, overflow := beyond } false
    (by rw [hlla, htile, ← ht]; exact hfind) (by simp [Req.entry])
    (by rw [hlla, htile, ← ht, hstands.isLost, hlost]; simp [Req.entry, h.poison])
  have hplainData := (u'.entryPlain_of_sameKey q.tile { r.entry with id := n, stamp := n, used := n, overflow := beyond } q.kx rfl hkx.symm).trans h.data
  rw [if_neg Bool.false_ne_true, hplainData] at hans
  exact ⟨v, hread, hans⟩

end Sys2Proof.Machine
end

section
/-! Proofs of 05_write_path.md: what the end of a stroke leaves of the strokes and of the slots (R88, R99, R108, R140). -/
namespace Sys2Proof.Machine
open Sys2Proof

/-- From `s` to `u` no slot of the medium and no stroke of a reservoir changes. -/
structure State.KeepsStrokes (s u : State) : Prop where
  slots : ∀ v, (u.tile v).med.slots = (s.tile v).med.slots
  strokes : ∀ v, (u.tile v).res.strokes = (s.tile v).res.strokes

theorem State.KeepsStrokes.refl (s : State) : s.KeepsStrokes s := ⟨fun _ => rfl, fun _ => rfl⟩
theorem State.KeepsStrokes.trans {s t u : State} (a : s.KeepsStrokes t) (b : t.KeepsStrokes u) : s.KeepsStrokes u :=
  ⟨fun v => (b.slots v).trans (a.slots v), fun v => (b.strokes v).trans (a.strokes v)⟩
theorem State.KeepsStrokes.ite {s u v : State} {c : Prop} [Decidable c] (a : s.KeepsStrokes u) (b : s.KeepsStrokes v) :
    s.KeepsStrokes (if c then u else v) := by
  split
  · exact a
  · exact b
theorem State.Booked.keepsStrokes {s u : State} (h : s.Booked u) : s.KeepsStrokes u :=
  ⟨fun v => congrArg TileMed.slots (h.sameMedium v).1, fun v => congrArg TileRes.strokes (h.res v)⟩
theorem State.keepsStrokes_modTile (s : State) (t : Nat) (f : Tile → Tile) (hs : ∀ x, (f x).med.slots = x.med.slots)
    (hk : ∀ x, (f x).res.strokes = x.res.strokes) : s.KeepsStrokes (s.modTile t f) :=
  ⟨fun v => State.modTile_keeps (fun x => x.med.slots) s t v f hs, fun v => State.modTile_keeps (fun x => x.res.strokes) s t v f hk⟩
theorem State.keepsStrokes_modRes (s : State) (t : Nat) (f : TileRes → TileRes) (hk : ∀ x, (f x).strokes = x.strokes) : s.KeepsStrokes (s.modRes t f) :=
  s.keepsStrokes_modTile t _ (fun _ => rfl) (fun _ => hk _)
theorem State.keepsStrokes_modMed (s : State) (t : Nat) (f : TileMed → TileMed) (hs : ∀ x, (f x).slots = x.slots) : s.KeepsStrokes (s.modMed t f) :=
  s.keepsStrokes_modTile t _ (fun _ => hs _) (fun _ => rfl)
theorem State.keepsStrokes_each {α : Type} (s : State) (l : List α) (f : State → α → State) (h : ∀ u x, State.KeepsStrokes u (f u x)) :
    s.KeepsStrokes (s.each l f) :=
  State.each_induct s.KeepsStrokes s l f (State.KeepsStrokes.refl s) (fun u x _ hu => hu.trans (h u x))

/-! ### The steps that follow a stroke -/

theorem State.keepsStrokes_noteGate (s : State) (t : Nat) : s.KeepsStrokes (s.noteGate t) :=
  ⟨fun v => congrArg TileMed.slots ((s.keepsEntries_noteGate t).medium v).1, fun v => s.noteGate_res (·.strokes) t v (fun _ _ => rfl)⟩
theorem State.reports_noteGate (s : State) (r c t : Nat) (h : s.reports r c) : (s.noteGate t).reports r c := by
  unfold State.noteGate
  simp only []
  split
  · exact State.reports_tev _ _ _ _ _ _ _ _ h
  · exact h
theorem State.keepsStrokes_shadowFor (s : State) (t owner : Nat) (add : Bool) (kind addr : Nat) :
    s.KeepsStrokes (s.shadowFor t owner add kind addr) := by
  have op (m : Nat) (e : ShadowEntry) : s.KeepsStrokes (s.modRes m (fun r => r.shadowOp add e)) := s.keepsStrokes_modRes m _ (fun _ => rfl)
  unfold State.shadowFor
  simp only []
  split
  · exact .refl s
  · split
    · exact s.keepsStrokes_modRes _ _ (fun _ => rfl)
    · exact (op _ _).trans (State.booked_ringSend ..).keepsStrokes
theorem TileRes.settle_strokes (r : TileRes) (id : Nat) : (r.settle id).strokes = r.strokes := by
  unfold TileRes.settle
  split
  · rfl
  · split
    · split <;> rfl
    · rfl
theorem State.keepsStrokes_lineLanded (s : State) (t owner lla : Nat) : s.KeepsStrokes (s.lineLanded t owner lla) := by
  unfold State.lineLanded
  extract_lets r gone s0
  have hgone (u : State) : u.KeepsStrokes (gone u) := u.keepsStrokes_shadowFor ..
  split
  · exact hgone s
  next e _ =>
    extract_lets s1 rival s2
    have h1 : s.KeepsStrokes s1 := s.keepsStrokes_modRes _ _ (fun _ => rfl)
    have h2 : s1.KeepsStrokes s2 := by
      refine State.KeepsStrokes.trans (s1.keepsStrokes_modRes _ _ (fun x => ?_)) (hgone _)
      split
      · rfl
      · exact TileRes.settle_strokes _ _
    split
    · exact h1.trans (s1.keepsStrokes_modRes _ _ (fun _ => rfl))
    · split
      · exact h1.trans (s1.keepsStrokes_modRes _ _ (fun _ => rfl))
      · exact (h1.trans h2).trans (.ite (s2.keepsStrokes_modRes _ _ (fun _ => rfl)) (.refl s2))
theorem State.keepsStrokes_closeStripe (s : State) (t S : Nat) : s.KeepsStrokes (s.closeStripe t S) := by
  refine .ite (.refl s) (.ite ?_ (.refl s))
  refine State.KeepsStrokes.trans (t := s.modRes t (fun r => { r with opens := r.opens.filter (fun q => decide (q ≠ S)) })) ?_
    (State.keepsStrokes_shadowFor ..)
  exact s.keepsStrokes_modRes t _ (fun _ => rfl)
theorem State.keepsStrokes_completeEvicts (s : State) (t : Nat) : s.KeepsStrokes (s.completeEvicts t) := by
  refine s.keepsStrokes_each _ _ (fun u e => ?_)
  extract_lets s1 s2 s3 s4
  have h1 : u.KeepsStrokes s1 := u.keepsStrokes_modRes _ _ (fun _ => rfl)
  have h2 : s1.KeepsStrokes s2 := s1.keepsStrokes_modRes _ _ (fun _ => rfl)
  have h3 : s2.KeepsStrokes s3 := s2.keepsStrokes_lineLanded ..
  have h4 : s3.KeepsStrokes s4 := .ite (s3.keepsStrokes_modRes _ _ (fun _ => rfl)) (.refl s3)
  exact (((h1.trans h2).trans h3).trans h4).trans (s4.keepsStrokes_closeStripe ..)
theorem State.keepsStrokes_flipApplied (s : State) (t : Nat) (k : Stroke) : s.KeepsStrokes (s.flipApplied t k) := by
  unfold State.flipApplied
  split
  · extract_lets s1 s2
    have h1 : s.KeepsStrokes s1 := s.keepsStrokes_modMed _ _ (fun _ => rfl)
    have h2 : s1.Booked s2 := (State.booked_raise ..).trans (State.booked_setCell ..)
    exact h1.trans ((h2.trans (State.booked_setCell ..)).trans (State.booked_tev ..)).keepsStrokes
  · exact .refl s
theorem State.keepsStrokes_repairLanded (s : State) (t : Nat) (k : Stroke) : s.KeepsStrokes (s.repairLanded t k) :=
  .ite (s.keepsStrokes_lineLanded ..) (.refl s)
theorem State.booked_strokeLeaves (s : State) (t b : Nat) : s.Booked (s.strokeLeaves t b) := (s.booked_modRd t _).trans (State.booked_promote ..)
theorem State.strokeLeaves_keeps {β : Type} (g : State → β) (s : State) (t b : Nat) (h : ∀ s t f, g (State.modRd s t f) = g s) :
    g (s.strokeLeaves t b) = g s := by
  have promoted (u : State) : g (u.promote t b) = g u := by
    unfold State.promote
    simp only []
    split
    · rfl
    · split
      · rfl
      · exact h ..
  rw [State.strokeLeaves, promoted, h]
theorem State.keepsStrokes_countWrite (s : State) (t lla : Nat) : s.KeepsStrokes (s.countWrite t lla) :=
  s.keepsStrokes_modTile t _ (fun _ => rfl) (fun _ => rfl)
theorem State.booked_transfer (s : State) (t die cls k : Nat) : s.Booked (s.transfer t die cls k) := .of_eq
theorem State.noteAnswer_heard (s : State) (t die : Nat) : ∃ f : Sparse Nat → Sparse Nat,
    s.noteAnswer t die false = s.modMed t (fun m => { m with silent := f m.silent }) := ⟨fun x => x.put 0 die 0, rfl⟩

end Sys2Proof.Machine
end

section
/-! Proofs of 05_write_path.md: a stroke starts, verifies, or fails verify and is redirected (R93 to R95, R140, R211). -/
namespace Sys2Proof.Machine
open Sys2Proof

/-! ### Start (R140) -/

/-- Stroke `k` of tile `t` runs from now on, corrupted by the flip mask or not (R99, R140). -/
def State.strokeRuns (s : State) (t : Nat) (k : Stroke) (masked : Bool) : State :=
  (s.modMed t (fun m => { m with strokes := m.strokes + 1 })).modRes t
    (fun r => r.setStroke k.id (fun q => { q with running := true, startedAt := s.now t, masked := masked }))
theorem State.noteSpare_keeps {β : Type} (g : State → β) (s : State) (t slot : Nat)
    (hr : ∀ s t (f : TileMed → Sparse Remap), g (State.modMed s t (fun m => { m with remap := f m })) = g s)
    (hc : ∀ s t num k, g (State.tcount s t num k) = g s) : g (s.noteSpare t slot) = g s := by
  unfold State.noteSpare
  split
  · extract_lets j
    split
    · rfl
    · rw [hc]
      exact hr s t (fun m => m.remap.insert _ _)
  · rfl
/-- What credits, counters and remap entries do not hold, the start of a stroke leaves as `strokeRuns` does. -/
theorem State.startStroke_keeps {β : Type} (g : State → β) (s : State) (t : Nat) (k : Stroke)
    (hr : ∀ s t (f : TileMed → Sparse Remap), g (State.modMed s t (fun m => { m with remap := f m })) = g s)
    (hc : ∀ s t num k, g (State.tcount s t num k) = g s) (hf : ∀ s feed, g { s with feed := feed } = g s) :
    g (s.startStroke t k) = g (s.strokeRuns t k (k.masked || s.flipTakes t k)) := by
  have counted (c : Prop) [Decidable c] (u : State) (n : Nat) : g (if c then u.tcount t n 1 else u) = g u := by
    split
    · rw [hc]
    · rfl
  have credit (u : State) : g (u.takeCredit t k) = g u := by
    unfold State.takeCredit
    simp only []
    split
    · rfl
    · split <;> exact hf ..
  unfold State.startStroke
  extract_lets masked s0 s1 s2 s3 s4
  rw [counted, counted, counted, State.noteSpare_keeps g _ _ _ hr hc, hc, credit]
  rfl

/-- A stroke of a tile stands, changed, among the strokes of the changed reservoir. -/
theorem TileRes.mem_setStroke {r : TileRes} {k : Stroke} (h : k ∈ r.strokes) (f : Stroke → Stroke) : f k ∈ (r.setStroke k.id f).strokes :=
  List.mem_map.2 ⟨k, h, if_pos rfl⟩
theorem State.strokeRuns_tile (s : State) (t : Nat) (k : Stroke) (masked : Bool) (ht : t < s.tiles.length) :
    ((s.strokeRuns t k masked).tile t).res = (s.tile t).res.setStroke k.id (fun q => { q with running := true, startedAt := s.now t, masked := masked }) ∧
    ((s.strokeRuns t k masked).tile t).med = { (s.tile t).med with strokes := (s.tile t).med.strokes + 1 } := by
  simp [State.strokeRuns, State.tile_modTile_same, ht]
theorem exec_strokeStart (t id : Nat) (s : State) (k : Stroke) (hfind : (s.tile t).res.strokes.find? (fun k => decide (k.id = id)) = some k)
    (hc : s.canStart t k = true) (hall : (s.tile t).res.strokes.all (fun q => decide (k.priority ≤ q.priority) || !s.canStart t q) = true) :
    exec (.strokeStart t id) s = .next (s.startStroke t k) := by
  simp only [exec, execStrokeStart, hfind]
  exact congrArg Host.Outcome.next (if_pos (by rw [hc, hall]; rfl))
theorem strokeStart_runs (t id : Nat) (s : State) (k : Stroke) (ht : t < s.n) (hs : s.Sized)
    (hfind : (s.tile t).res.strokes.find? (fun k => decide (k.id = id)) = some k) (hc : s.canStart t k = true)
    (hall : (s.tile t).res.strokes.all (fun q => decide (k.priority ≤ q.priority) || !s.canStart t q) = true) :
    ∃ u, exec (.strokeStart t id) s = .next u ∧ (u.tile t).med.slots = (s.tile t).med.slots ∧
      (u.tile t).med.strokes = (s.tile t).med.strokes + 1 ∧ u.out = s.out ∧
      ∃ q ∈ (u.tile t).res.strokes, q.id = id ∧ q.running = true ∧ q.startedAt = s.now t ∧ q.word = k.word := by
  have hcond := List.find?_some hfind
  have hid : k.id = id := of_decide_eq_true hcond
  obtain ⟨hres, hmed⟩ := s.strokeRuns_tile t k (k.masked || s.flipTakes t k) (hs.tile_listed ht)
  refine ⟨_, exec_strokeStart t id s k hfind hc hall, ?_, ?_, ?_, ?_⟩
  · refine (State.startStroke_keeps (fun s => (s.tile t).med.slots) s t k ?_ (by simp) (fun _ _ => rfl)).trans (by rw [hmed])
    exact fun s v f => State.modTile_keeps (fun x => x.med.slots) s v t _ (fun _ => by rfl)
  · refine (State.startStroke_keeps (fun s => (s.tile t).med.strokes) s t k ?_ (by simp) (fun _ _ => rfl)).trans (by rw [hmed])
    exact fun s v f => State.modTile_keeps (fun x => x.med.strokes) s v t _ (fun _ => by rfl)
  · exact State.startStroke_keeps State.out s t k (by simp) (by simp) (fun _ _ => rfl)
  · have hstrokes : ((s.startStroke t k).tile t).res = ((s.strokeRuns t k (k.masked || s.flipTakes t k)).tile t).res := by
      refine State.startStroke_keeps (fun s => (s.tile t).res) s t k ?_ (by simp) (fun _ _ => rfl)
      exact fun s v f => State.modTile_keeps Tile.res s v t _ (fun _ => by rfl)
    rw [hstrokes, hres]
    exact ⟨_, TileRes.mem_setStroke (List.mem_of_find?_eq_some hfind) _, hid, rfl, rfl, rfl⟩

/-! ### Verified (R95, R99, R140) -/

theorem TileRes.strokeDone_strokes (r : TileRes) (k : Stroke) : (r.strokeDone k).strokes = r.strokes := rfl
/-- The reservoir without stroke `k`, which has done its part (R140). -/
def TileRes.strokeLanded (r : TileRes) (k : Stroke) : TileRes :=
  let r1 := ({ r with strokes := r.strokes.filter (fun q => decide (q.id ≠ k.id)) } : TileRes).strokeDone k
  if k.target ∨ (!k.parity ∧ k.kind ≠ .repair ∧ k.kind ≠ .refresh) then r1 else r1.landBuf k.parity k.addr k.ver
theorem TileRes.strokeLanded_strokes (r : TileRes) (k : Stroke) : (r.strokeLanded k).strokes = r.strokes.filter (fun q => decide (q.id ≠ k.id)) := by
  unfold TileRes.strokeLanded
  extract_lets r1
  split <;> rfl
/-- The medium with the codeword of stroke `k` in its slot; a remap entry that waited for it is no longer pending (R94). -/
def TileMed.landed (m : TileMed) (k : Stroke) (w : Codeword) : TileMed :=
  let m1 := { m with slots := m.slots.insert k.slot w }
  match k.remap with
  | none => m1
  | some i => match m1.remap.find i with
    | none => m1
    | some r => { m1 with remap := m1.remap.insert i { r with pending := false } }
theorem TileMed.landed_slots (m : TileMed) (k : Stroke) (w : Codeword) : (m.landed k w).slots = m.slots.insert k.slot w := by
  unfold TileMed.landed
  extract_lets m1
  split
  · rfl
  · split <;> rfl
/-- Stroke `k` of tile `t` has verified: its slot holds its codeword, and its place in the queue is free. -/
def State.strokeLands (s : State) (t : Nat) (k : Stroke) : State :=
  (((s.transfer t (slotDie k.slot) (s.strokeClass t k) 8).noteAnswer t (slotDie k.slot) false).modMed t
    (fun m => m.landed k (s.strokeWord t k))).modRes t (fun r => r.strokeLanded k)
theorem State.strokeLands_tile (s : State) (t : Nat) (k : Stroke) (ht : t < s.tiles.length) :
    ((s.strokeLands t k).tile t).med.slots = (s.tile t).med.slots.insert k.slot (s.strokeWord t k) ∧
    ((s.strokeLands t k).tile t).res.strokes = (s.tile t).res.strokes.filter (fun q => decide (q.id ≠ k.id)) := by
  obtain ⟨f, heard⟩ := (s.transfer t (slotDie k.slot) (s.strokeClass t k) 8).noteAnswer_heard t (slotDie k.slot)
  have hkeeps : s.KeepsStrokes ((s.transfer t (slotDie k.slot) (s.strokeClass t k) 8).noteAnswer t (slotDie k.slot) false) := by
    rw [heard]
    exact (State.booked_transfer ..).keepsStrokes.trans (State.keepsStrokes_modMed _ _ _ (fun _ => rfl))
  have hlen : t < ((s.transfer t (slotDie k.slot) (s.strokeClass t k) 8).noteAnswer t (slotDie k.slot) false).tiles.length := by
    rw [heard]
    simpa using ht
  simp [State.strokeLands, State.tile_modTile_same, hlen, hkeeps.slots, hkeeps.strokes, TileMed.landed_slots, TileRes.strokeLanded_strokes]
theorem exec_strokeVerified (t id : Nat) (s : State) (k : Stroke)
    (hfind : (s.tile t).res.strokes.find? (fun k => decide (k.id = id) && k.running) = some k) : ∃ u, exec (.strokeVerified t id) s = .next u ∧
      (s.strokeLands t k).KeepsStrokes u := by
  have hcond := List.find?_some hfind
  obtain rfl : k.id = id := of_decide_eq_true (Bool.and_eq_true_iff.1 hcond).1
  refine ⟨_, by simp only [exec, execStrokeVerified, hfind]; rfl, ?_⟩
  have counted (c : Prop) [Decidable c] : (s.strokeLands t k).KeepsStrokes (if c then (s.strokeLands t k).countWrite t k.addr else s.strokeLands t k) :=
    (State.keepsStrokes_countWrite ..).ite (.refl _)
  refine State.KeepsStrokes.trans ?_ (State.keepsStrokes_noteGate ..)
  refine State.KeepsStrokes.trans ?_ (State.keepsStrokes_completeEvicts ..)
  refine State.KeepsStrokes.trans ?_ (State.booked_strokeLeaves ..).keepsStrokes
  refine State.KeepsStrokes.trans ?_ (State.keepsStrokes_repairLanded ..)
  exact State.KeepsStrokes.trans (counted _) (State.keepsStrokes_flipApplied ..)
theorem strokeVerified_lands (t id : Nat) (s : State) (k : Stroke) (ht : t < s.n) (hs : s.Sized)
    (hfind : (s.tile t).res.strokes.find? (fun k => decide (k.id = id) && k.running) = some k) :
    ∃ u, exec (.strokeVerified t id) s = .next u ∧ (u.tile t).med.slots.find k.slot = some (s.strokeWord t k) ∧
      (∀ a, a ≠ k.slot → (u.tile t).med.slots.find a = (s.tile t).med.slots.find a) ∧ (∀ q ∈ (u.tile t).res.strokes, q.id ≠ id) := by
  have hcond := List.find?_some hfind
  have hid : k.id = id := of_decide_eq_true (Bool.and_eq_true_iff.1 hcond).1
  obtain ⟨u, hexec, hkeeps⟩ := exec_strokeVerified t id s k hfind
  obtain ⟨hslots, hstrokes⟩ := s.strokeLands_tile t k (hs.tile_listed ht)
  refine ⟨u, hexec, ?_, fun a ha => ?_, fun q hq => ?_⟩
  · rw [hkeeps.slots, hslots, Sparse.find_insert_same]
  · rw [hkeeps.slots, hslots, Sparse.find_insert_ne _ _ _ _ (Ne.symm ha)]
  · rw [hkeeps.strokes, hstrokes] at hq
    simpa [hid] using (List.mem_filter.1 hq).2

/-! ### Verify failed (R93 to R95, R211) -/

/-- Stroke `k` of tile `t`, which no flip mask has corrupted, has failed verify on a bank that stays usable: it waits again. -/
def State.strokeWaits (s : State) (t : Nat) (k : Stroke) : State :=
  (((s.noteAnswer t (slotDie k.slot) false).tcount t Cn.STROKE_VERIFY_FAILS 1).modRes t
    (fun r => r.setStroke k.id (fun q => { q with running := false, lifted := false }))).noteVerifyFail t k.slot
/-- Seven slots that failed before do not fail the bank, with one more that may be among them (R91). -/
theorem State.noteVerifyFail_few (s : State) (t slot : Nat) (h : ((s.tile t).med.failHist.getD (bankOf slot) []).length < 7) :
    ∃ f : TileMed → Sparse (List (Nat × Nat)), s.noteVerifyFail t slot = s.modMed t (fun m => { m with failHist := f m }) := by
  unfold State.noteVerifyFail
  extract_lets b now hist s1
  have hfew : ¬8 ≤ hist.length := by
    have := List.length_filter_le (fun x : Nat × Nat => decide (x.1 ≠ slot ∧ now < x.2 + 1000000)) ((s.tile t).med.failHist.getD b [])
    simp only [hist, b, List.length_cons]
    simp only [b] at this
    omega
  rw [if_neg hfew]
  exact ⟨fun m => m.failHist.insert b hist, rfl⟩
/-- What the remedies of a failed verify rest on: slots, spares, remap entries, failed banks and dies. -/
structure TileMed.SameSpares (m m' : TileMed) : Prop where
  slots : m'.slots = m.slots
  remap : m'.remap = m.remap
  spares : m'.spares = m.spares
  failedBanks : m'.failedBanks = m.failedBanks
  failedDies : m'.failedDies = m.failedDies

/-- Stroke `k` waits again, and the reads that reached its bank go first (R108). -/
def State.strokeBack (s : State) (t : Nat) (k : Stroke) : State := (s.strokeWaits t k).strokeLeaves t (bankOf k.slot)
theorem State.strokeBack_tile (s : State) (t : Nat) (k : Stroke) (ht : t < s.tiles.length)
    (h : ((s.tile t).med.failHist.getD (bankOf k.slot) []).length < 7) :
    (s.tile t).med.SameSpares ((s.strokeBack t k).tile t).med ∧ ((s.strokeBack t k).tile t).map = (s.tile t).map ∧
    ((s.strokeBack t k).tile t).res = (s.tile t).res.setStroke k.id (fun q => { q with running := false, lifted := false }) ∧
    (s.strokeBack t k).tiles.length = s.tiles.length ∧ (s.strokeBack t k).recs = s.recs := by
  obtain ⟨f, heard⟩ := s.noteAnswer_heard t (slotDie k.slot)
  have hfails : (((((s.noteAnswer t (slotDie k.slot) false).tcount t Cn.STROKE_VERIFY_FAILS 1).modRes t
      (fun r => r.setStroke k.id (fun q => { q with running := false, lifted := false }))).tile t).med.failHist.getD (bankOf k.slot) []).length < 7 := by
    rw [heard]
    simpa [State.tile_modTile_same, ht] using h
  obtain ⟨g, few⟩ := State.noteVerifyFail_few _ t k.slot hfails
  have hleft : (s.strokeWaits t k).Booked (s.strokeBack t k) := State.booked_strokeLeaves ..
  have hmed : ((s.strokeBack t k).tile t).med = ((s.strokeWaits t k).tile t).med := (hleft.sameMedium t).1
  have hlen : (s.strokeBack t k).tiles.length = (s.strokeWaits t k).tiles.length :=
    State.strokeLeaves_keeps (fun s => s.tiles.length) _ _ _ (by simp)
  have hrecs : (s.strokeBack t k).recs = (s.strokeWaits t k).recs := State.strokeLeaves_keeps State.recs _ _ _ (by simp)
  rw [hmed, hleft.map, hleft.res, hlen, hrecs, State.strokeWaits, few, heard]
  refine ⟨⟨?_, ?_, ?_, ?_, ?_⟩, ?_, ?_, ?_, ?_⟩ <;> simp [State.tile_modTile_same, ht]

/-- Tile `t` with the spare line `j` and the remap entry `i` taken for slot `slot` (R95, R211). -/
def State.spareTaken (s : State) (t slot j i : Nat) : State :=
  (((s.modMed t (fun m => { m with
    spares := m.spares ++ [spareSlot (slotDie slot) (slotBank slot) j],
    remap := m.remap.insert i { valid := true, pending := true, hits := 0, bank := slotBank slot, slot := slotLine slot, spare := j } })).pageCommit
    t (144 + slotDie slot)).tev t Ev.REMAP_ALLOCATED 0xFF slot [(4, j)]).tcount t Cn.REMAP_ALLOCATIONS 1
/-- Stroke `k`, and what else was queued for its slot, goes to the spare line. -/
def State.redirected (s : State) (t j i : Nat) (k : Stroke) : State :=
  ((s.spareTaken t k.slot j i).transfer t (slotDie k.slot) 5 8).modRes t (fun x =>
    (x.redirect k.slot (spareSlot (slotDie k.slot) (slotBank k.slot) j)).setStroke k.id (fun q => { q with remap := some i }))
theorem State.remedy_of_spare (s : State) (t j i : Nat) (k : Stroke) (hspare : isSpare k.slot = false)
    (hj : (s.tile t).med.freeSpare (slotDie k.slot) (slotBank k.slot) = some j) (hi : (s.tile t).med.freeRemap (slotDie k.slot) = some i) :
    s.remedy t k = s.redirected t j i k := by
  have taken : s.allocSpare t k.slot = (s.spareTaken t k.slot j i, some (spareSlot (slotDie k.slot) (slotBank k.slot) j, i)) := by
    unfold State.allocSpare
    simp only [hspare, hj, hi, Bool.false_eq_true, if_false]
    rfl
  rw [State.remedy, taken]
  rfl
theorem State.redirected_tile (s : State) (t j i : Nat) (k : Stroke) (ht : t < s.tiles.length) :
    ((s.redirected t j i k).tile t).med.slots = (s.tile t).med.slots ∧
    ((s.redirected t j i k).tile t).med.remap = (s.tile t).med.remap.insert i
      { valid := true, pending := true, hits := 0, bank := slotBank k.slot, slot := slotLine k.slot, spare := j } ∧
    ((s.redirected t j i k).tile t).res = ((s.tile t).res.redirect k.slot (spareSlot (slotDie k.slot) (slotBank k.slot) j)).setStroke k.id
      (fun q => { q with remap := some i }) := by
  simp [State.redirected, State.spareTaken, State.pageCommit, State.tile_modTile_same, ht]

theorem TileRes.mem_redirect {r : TileRes} {k : Stroke} (h : k ∈ r.strokes) (a b : Nat) (hk : k.slot = a) :
    { k with slot := b } ∈ (r.redirect a b).strokes := List.mem_map.2 ⟨k, h, if_pos hk⟩
theorem State.redirected_reports (s : State) (t j i : Nat) (k : Stroke) (ht : t < s.recs.length) :
    (s.redirected t j i k).tileReports t Ev.REMAP_ALLOCATED := by
  have hrec : (s.redirected t j i k).recs = (s.spareTaken t k.slot j i).recs := by simp [State.redirected]
  refine State.reports_of_recs _ _ _ _ hrec (State.reports_tcount _ _ _ _ _ _ (State.tev_reports _ _ _ _ _ _ ?_))
  simpa using ht

theorem exec_strokeVerifyFail (t id j i : Nat) (s : State) (k : Stroke)
    (hfind : (s.tile t).res.strokes.find? (fun k => decide (k.id = id) && k.running) = some k) (hm : k.masked = false)
    (hspare : isSpare k.slot = false) (hok : ((s.strokeBack t k).tile t).slotFailed k.slot = false)
    (hj : ((s.strokeBack t k).tile t).med.freeSpare (slotDie k.slot) (slotBank k.slot) = some j)
    (hi : ((s.strokeBack t k).tile t).med.freeRemap (slotDie k.slot) = some i) :
    exec (.strokeVerifyFail t id false) s = .next (((s.strokeBack t k).redirected t j i k).noteGate t) := by
  have hcond := List.find?_some hfind
  obtain rfl : k.id = id := of_decide_eq_true (Bool.and_eq_true_iff.1 hcond).1
  rw [← State.remedy_of_spare _ t j i k hspare hj hi]
  simp only [exec, execStrokeVerifyFail, hfind, hm, Bool.false_eq_true, if_false]
  exact congrArg Host.Outcome.next (if_neg (ne_true_of_eq_false hok))
theorem strokeVerifyFail_redirects (t id j i : Nat) (s : State) (k : Stroke) (ht : t < s.n) (hs : s.Sized)
    (hfind : (s.tile t).res.strokes.find? (fun k => decide (k.id = id) && k.running) = some k) (hm : k.masked = false)
    (hspare : isSpare k.slot = false) (hok : (s.tile t).slotFailed k.slot = false)
    (hfew : ((s.tile t).med.failHist.getD (bankOf k.slot) []).length < 7)
    (hj : (s.tile t).med.freeSpare (slotDie k.slot) (slotBank k.slot) = some j) (hi : (s.tile t).med.freeRemap (slotDie k.slot) = some i) :
    ∃ u, exec (.strokeVerifyFail t id false) s = .next u ∧ (u.tile t).med.slots = (s.tile t).med.slots ∧ u.tileReports t Ev.REMAP_ALLOCATED ∧
      (∃ x, (u.tile t).med.remap.find i = some x ∧ x.bank = slotBank k.slot ∧ x.slot = slotLine k.slot ∧ x.spare = j) ∧
      ∃ q ∈ (u.tile t).res.strokes, q.id = id ∧ q.running = false ∧ q.word = k.word ∧
        q.slot = spareSlot (slotDie k.slot) (slotBank k.slot) j := by
  have hcond := List.find?_some hfind
  have hid : k.id = id := of_decide_eq_true (Bool.and_eq_true_iff.1 hcond).1
  obtain ⟨⟨hslots, hremap, hspares, hbanks, hdies⟩, hmap, hres, hlen, hrecs⟩ := s.strokeBack_tile t k (hs.tile_listed ht) hfew
  obtain ⟨hslots', hremap', hres'⟩ := (s.strokeBack t k).redirected_tile t j i k (by rw [hlen]; exact hs.tile_listed ht)
  have hgate := ((s.strokeBack t k).redirected t j i k).keepsEntries_noteGate t
  have hfailed : ((s.strokeBack t k).tile t).slotFailed k.slot = false := by
    simpa only [Tile.slotFailed, hmap, hbanks, hdies] using hok
  refine ⟨_, exec_strokeVerifyFail t id j i s k hfind hm hspare hfailed (by simpa only [TileMed.freeSpare, hspares] using hj)
    (by simpa only [TileMed.freeRemap, hremap] using hi), ?_, ?_, ?_, ?_⟩
  · rw [(hgate.medium t).1, hslots', hslots]
  · exact State.reports_noteGate _ _ _ _ (State.redirected_reports _ _ _ _ _ (by rw [hrecs]; exact hs.tile_recorder ht))
  · rw [(hgate.medium t).1, hremap']
    exact ⟨_, Sparse.find_insert_same .., rfl, rfl, rfl⟩
  · rw [State.noteGate_res (·.strokes) _ _ _ (fun _ _ => rfl), hres', hres]
    have hwaits := TileRes.mem_setStroke (List.mem_of_find?_eq_some hfind) (fun q => { q with running := false, lifted := false })
    have hmoved := TileRes.mem_redirect hwaits k.slot (spareSlot (slotDie k.slot) (slotBank k.slot) j) rfl
    exact ⟨_, TileRes.mem_setStroke hmoved (fun q => { q with remap := some i }), hid, rfl, rfl, rfl⟩

/-- Settles O16: start, verify and redirection, each by what it makes of the stroke's place in the queue and of the medium. -/
theorem strokes : Obligations.Strokes := by
  unfold Obligations.Strokes
  exact ⟨strokeStart_runs, strokeVerified_lands, strokeVerifyFail_redirects⟩

end Sys2Proof.Machine
end

section
/-! Proofs of 05_write_path.md: the start of an eviction (R107, R110, R138, R139). -/
namespace Sys2Proof.Machine
open Sys2Proof

/-! ### Reads that start within the device -/

/-- From `s` to `u` reads have started: no reservoir and no slot changes, nothing is handed over, and every slot hold stands. -/
structure State.Reads (s u : State) : Prop where
  out : u.out = s.out
  res : ∀ v, (u.tile v).res = (s.tile v).res
  slots : ∀ v, (u.tile v).med.slots = (s.tile v).med.slots
  holds : ∀ v, ∀ h ∈ (s.tile v).rd.holds, h ∈ (u.tile v).rd.holds

theorem State.Reads.refl (s : State) : s.Reads s := ⟨rfl, fun _ => rfl, fun _ => rfl, fun _ _ h => h⟩
theorem State.Reads.trans {s t u : State} (a : s.Reads t) (b : t.Reads u) : s.Reads u :=
  ⟨b.out.trans a.out, fun v => (b.res v).trans (a.res v), fun v => (b.slots v).trans (a.slots v), fun v h hh => b.holds v h (a.holds v h hh)⟩
theorem State.Reads.ite {s u v : State} {c : Prop} [Decidable c] (a : s.Reads u) (b : s.Reads v) : s.Reads (if c then u else v) := by
  split
  · exact a
  · exact b
theorem State.reads_each {α : Type} (s : State) (l : List α) (f : State → α → State) (h : ∀ u x, State.Reads u (f u x)) : s.Reads (s.each l f) :=
  State.each_induct s.Reads s l f (State.Reads.refl s) (fun u x _ hu => hu.trans (h u x))
theorem State.Reads.of_tiles {s u : State} (out : u.out = s.out) (tiles : u.tiles = s.tiles) : s.Reads u :=
  ⟨out, fun v => by simp only [State.tile, tiles], fun v => by simp only [State.tile, tiles], fun v h hh => by simpa only [State.tile, tiles] using hh⟩
theorem State.reads_tcount (s : State) (t num k : Nat) : s.Reads (s.tcount t num k) := .of_tiles (by simp) (by simp)
theorem State.reads_tev (s : State) (t num cls value : Nat) (qs : List (Nat × Nat)) : s.Reads (s.tev t num cls value qs) := .of_tiles (by simp) (by simp)
/-- What a property of a tile gains by a change, it has in every tile after the change. -/
theorem State.modTile_grows (P : Tile → Prop) (s : State) (t v : Nat) (f : Tile → Tile) (hf : ∀ x, P x → P (f x)) (h : P (s.tile v)) :
    P ((s.modTile t f).tile v) := by
  by_cases htv : t = v
  · subst htv
    by_cases hl : t < s.tiles.length
    · rw [State.tile_modTile_same _ _ _ hl]
      exact hf _ h
    · have hnone : (s.modTile t f).tile t = s.tile t := by
        unfold State.tile State.modTile
        simp [List.getD, getElem?_modAt_same, List.getElem?_eq_none (Nat.le_of_not_lt hl)]
      rwa [hnone]
  · rwa [State.tile_modTile_ne _ _ _ _ htv]
theorem State.reads_modRd (s : State) (t : Nat) (f : TileRead → TileRead) (hf : ∀ x, ∀ h ∈ x.holds, h ∈ (f x).holds) : s.Reads (s.modRd t f) :=
  ⟨rfl, fun v => State.modTile_keeps Tile.res s t v _ (fun _ => rfl), fun v => State.modTile_keeps (fun x => x.med.slots) s t v _ (fun _ => rfl),
    fun v h hh => State.modTile_grows (fun x => h ∈ x.rd.holds) s t v _ (fun x => hf x.rd h) hh⟩
theorem State.reads_modMed (s : State) (t : Nat) (f : TileMed → TileMed) (hf : ∀ m, (f m).slots = m.slots) : s.Reads (s.modMed t f) :=
  ⟨rfl, fun v => State.modTile_keeps Tile.res s t v _ (fun _ => rfl), fun v => State.modTile_keeps (fun x => x.med.slots) s t v _ (fun _ => hf _),
    fun v h hh => State.modTile_grows (fun x => h ∈ x.rd.holds) s t v _ (fun _ hx => hx) hh⟩
theorem TileRead.mem_hold (x : TileRead) (slot id : Nat) : ∀ h ∈ x.holds, h ∈ (x.hold slot id).holds := fun _ hh => List.mem_append_left _ hh
theorem State.reads_sense (s : State) (t id pos slot : Nat) (p : SensePos) (asMember : Bool) :
    s.Reads (s.modRd t (fun x => x.sense id pos slot p asMember)) := s.reads_modRd t _ (fun _ _ hh => hh)
theorem State.reads_setRd (s : State) (t id : Nat) (f : Rd → Rd) : s.Reads (s.modRd t (fun x => x.setRd id f)) := s.reads_modRd t _ (fun _ _ hh => hh)

/-! ### The start of a medium read (R107, R110, R114) -/

theorem TileRead.giveNib_holds (x : TileRead) (src die : Nat) : (x.giveNib src die).holds = x.holds := rfl
theorem State.reads_endNib (s : State) (t id : Nat) : s.Reads (s.endNib t id) := by
  unfold State.endNib
  split
  · exact .refl s
  · split
    · exact .refl s
    · exact s.reads_modRd t _ (fun _ _ hh => hh)
theorem State.reads_countRedirect (s : State) (t a : Nat) : s.Reads (s.countRedirect t a) := by
  unfold State.countRedirect
  extract_lets x
  split
  · exact .refl s
  · exact (s.reads_modMed t _ (fun _ => by rfl)).trans (State.reads_tcount ..)
theorem State.reads_capture (s : State) (t id : Nat) (ms : List Member) : s.Reads (s.capture t id ms) := by
  unfold State.capture
  extract_lets images reads s1
  refine State.Reads.trans (t := s1) (s.reads_setRd t id _) (s1.reads_each _ _ (fun u m => ?_))
  exact (u.reads_countRedirect t m.raw).trans (State.reads_modRd _ _ _ (fun x h hh => x.mem_hold m.slot id h hh))
theorem State.reads_takeRow (s : State) (t id row : Nat) (ms : List Member) : s.Reads (s.takeRow t id row ms) := by
  unfold State.takeRow
  split
  · exact .refl s
  next r _ =>
    extract_lets path direct x clear
    have hpath (u : State) (c : Nat) : u.Reads (path u c) := u.reads_setRd t id _
    have hdirect (u : State) (p : SensePos) : u.Reads (direct u p) := u.reads_sense t id r.pos r.slot p false
    have hend (u : State) : u.Reads (u.endNib t id) := u.reads_endNib t id
    split
    · exact ((hpath s 3).trans (hdirect _ _)).trans (hend _)
    · exact ((hpath s 4).trans (hdirect _ _)).trans (hend _)
    · refine State.Reads.trans ?_ (hend _)
      refine ((hpath s 3).trans (hdirect _ .direct)).trans (.ite ?_ (.refl _))
      exact ((State.reads_capture _ t id ms).trans (State.reads_setRd ..)).trans (State.reads_tcount ..)
    · exact ((hpath s 6).trans (State.reads_capture ..)).trans (hend _)
    · exact ((hpath s 5).trans (hdirect _ _)).trans (hend _)
    · exact ((hpath s 7).trans (State.reads_capture ..)).trans (hend _)
    · exact .refl s
theorem State.reads_startRead (s : State) (t : Nat) (r0 : Rd) (pred : Nat) : s.Reads (s.startRead t r0 pred).1 := by
  unfold State.startRead
  extract_lets id r s1 x s2 ms row p s3 s4 d full
  have h1 : s.Reads s1 := s.reads_modRd t _ (fun _ h hh => TileRead.mem_hold _ r.slot id h hh)
  have h2 : s1.Reads s2 := s1.reads_countRedirect ..
  split
  · exact h1.trans (((s1.reads_setRd t id _).trans (State.reads_endNib ..)).trans (State.reads_tcount ..))
  · split
    · have h3 : s2.Reads s3 := s2.reads_sense ..
      have h4 : s3.Reads s4 := (s3.reads_tcount ..).ite (.refl s3)
      exact (((h1.trans h2).trans h3).trans h4).trans (.ite (s4.reads_tev ..) (.refl s4))
    · exact (h1.trans h2).trans (s2.reads_takeRow ..)

/-! ### The start of an eviction (R138, R139) -/

/-- Eviction `id` of line `e` of tile `t` with the holds on its slot and its stripe's parity slot (R139). -/
def State.evictHeld (s : State) (t : Nat) (e : Entry) (c : Copy) : State :=
  let S := c.stripe (stripeOfLine (lineIndexOf e.addr))
  let ds := (s.tile t).finalSlot (c.slot (stripeOfLine (lineIndexOf e.addr)) (memberPos S (dataPosOf (lineIndexOf e.addr))))
  let ps := (s.tile t).finalSlot (c.slot (stripeOfLine (lineIndexOf e.addr)) (parityPos S))
  let id := (s.tile t).res.seqCtr
  (s.modRes t (fun r => { r.bump with evicts := r.evicts ++ [Evict.start id e S ds ps] })).modRd t
    (fun y => (y.hold ds (evictHold id)).hold ps (evictHold id))
theorem State.startEvict_reads (s : State) (t : Nat) (e : Entry) (pred : Nat) (c : Copy) (ho : e.owner = t)
    (hc : (s.tile t).map.copyFor (lsegOf e.addr) (stripeOfLine (lineIndexOf e.addr)) = some c) :
    (s.evictHeld t e c).Reads (s.startEvict t e pred) := by
  have old (u : State) (d : Prop) [Decidable d] (r : Rd) : u.Reads (if d then u else (u.startRead t r pred).1.tcount t Cn.OLD_LINE_READS 1) :=
    .ite (.refl u) ((u.reads_startRead t r pred).trans (State.reads_tcount ..))
  unfold State.startEvict
  simp only [ho, ne_eq, not_true_eq_false, if_false, hc]
  exact (old (s.evictHeld t e c) _ _).trans (old _ _ _)
theorem State.startPair_of_data (s : State) (t : Nat) (e : Entry) (pred : Nat) (hk : e.kind = .data) : s.startPair t e pred = s.startEvict t e pred := by
  unfold State.startPair
  split
  · rw [if_neg (by simp [hk])]
  · rfl
theorem State.evictHeld_tile (s : State) (t : Nat) (e : Entry) (c : Copy) (ht : t < s.tiles.length) (ho : e.owner = t) :
    ((s.evictHeld t e c).tile t).res.entries = (s.tile t).res.entries ∧ ((s.evictHeld t e c).tile t).med.slots = (s.tile t).med.slots ∧
    ∃ v ∈ ((s.evictHeld t e c).tile t).res.evicts, v.addr = e.addr ∧ v.owner = t ∧ v.formed = false ∧
      v.stripe = c.stripe (stripeOfLine (lineIndexOf e.addr)) ∧ (∃ h ∈ ((s.evictHeld t e c).tile t).rd.holds, h.slot = v.dslot) ∧
      (∃ h ∈ ((s.evictHeld t e c).tile t).rd.holds, h.slot = v.pslot) := by
  simp only [State.evictHeld, State.modRes_eq, State.modRd_eq, State.tile_modTile_same, State.modTile_tiles_length, ht, true_and]
  refine ⟨rfl, _, List.mem_append_right _ (List.mem_singleton_self _), rfl, ho, rfl, rfl,
    ⟨_, TileRead.mem_hold _ _ _ _ (List.mem_append_right _ (List.mem_singleton_self _)), rfl⟩,
    ⟨_, List.mem_append_right _ (List.mem_singleton_self _), rfl⟩⟩
theorem Tile.slotHeld_of_mem {x : Tile} {slot : Nat} (h : ∃ q ∈ x.rd.holds, q.slot = slot) : x.slotHeld slot = true := by
  obtain ⟨q, hq, hslot⟩ := h
  exact List.any_eq_true.2 ⟨q, hq, decide_eq_true hslot⟩
theorem exec_evictionStart (t slice pred : Nat) (s : State) (e : Entry) (ht : t < s.n) (he : s.evictChoice t slice = some e) (hk : e.kind = .data) :
    exec (.evictionStart t slice pred) s = .next (s.startEvict t e pred) := by
  simp only [exec, execEvictionStart, he, if_pos ht, State.startPair_of_data s t e pred hk]
theorem evictionStart_holds (t slice pred : Nat) (s : State) (e : Entry) (c : Copy) (ht : t < s.n) (hs : s.Sized)
    (he : s.evictChoice t slice = some e) (ho : e.owner = t) (hk : e.kind = .data)
    (hc : (s.tile t).map.copyFor (lsegOf e.addr) (stripeOfLine (lineIndexOf e.addr)) = some c) :
    ∃ u, exec (.evictionStart t slice pred) s = .next u ∧ (u.tile t).res.entries = (s.tile t).res.entries ∧
      (u.tile t).med.slots = (s.tile t).med.slots ∧ u.out = s.out ∧
      ∃ v ∈ (u.tile t).res.evicts, v.addr = e.addr ∧ v.owner = t ∧ v.formed = false ∧ v.stripe = c.stripe (stripeOfLine (lineIndexOf e.addr)) ∧
        (u.tile t).slotHeld v.dslot = true ∧ (u.tile t).slotHeld v.pslot = true := by
  obtain ⟨hentries, hslots, v, hv, haddr, howner, hformed, hstripe, ⟨hd, hdmem, hdslot⟩, hp, hpmem, hpslot⟩ :=
    s.evictHeld_tile t e c (hs.tile_listed ht) ho
  have hreads := s.startEvict_reads t e pred c ho hc
  refine ⟨_, exec_evictionStart t slice pred s e ht he hk, ?_, (hreads.slots t).trans hslots, hreads.out, v, ?_, haddr, howner, hformed, hstripe,
    Tile.slotHeld_of_mem ⟨hd, hreads.holds t hd hdmem, hdslot⟩, Tile.slotHeld_of_mem ⟨hp, hreads.holds t hp hpmem, hpslot⟩⟩
  · rw [hreads.res, hentries]
  · rwa [hreads.res]

end Sys2Proof.Machine
end

section
/-! Proofs of 05_write_path.md: the eviction point of a plain line (R139). -/
namespace Sys2Proof.Machine
open Sys2Proof

/-! ### What the queueing of strokes leaves -/

/-- From `s` to `u` no slot, no entry and no eviction changes. -/
structure State.KeepsEvicts (s u : State) : Prop where
  listed : u.tiles.length = s.tiles.length
  slots : ∀ v, (u.tile v).med.slots = (s.tile v).med.slots
  entries : ∀ v, (u.tile v).res.entries = (s.tile v).res.entries
  evicts : ∀ v, (u.tile v).res.evicts = (s.tile v).res.evicts
/-- From `s` to `u` strokes have been queued, and no slot, no entry and no eviction changes. -/
structure State.Queues (s u : State) : Prop extends State.KeepsEvicts s u where
  strokes : ∀ v, ∀ k ∈ (s.tile v).res.strokes, k ∈ (u.tile v).res.strokes

theorem State.KeepsEvicts.trans {s t u : State} (a : s.KeepsEvicts t) (b : t.KeepsEvicts u) : s.KeepsEvicts u :=
  ⟨b.listed.trans a.listed, fun v => (b.slots v).trans (a.slots v), fun v => (b.entries v).trans (a.entries v),
    fun v => (b.evicts v).trans (a.evicts v)⟩
theorem State.Queues.refl (s : State) : s.Queues s := ⟨⟨rfl, fun _ => rfl, fun _ => rfl, fun _ => rfl⟩, fun _ _ h => h⟩
theorem State.Queues.trans {s t u : State} (a : s.Queues t) (b : t.Queues u) : s.Queues u :=
  ⟨a.toKeepsEvicts.trans b.toKeepsEvicts, fun v k hk => b.strokes v k (a.strokes v k hk)⟩
theorem State.Queues.ite {s u v : State} {c : Prop} [Decidable c] (a : s.Queues u) (b : s.Queues v) : s.Queues (if c then u else v) := by
  split
  · exact a
  · exact b
theorem State.queues_tcount (s : State) (t num k : Nat) : s.Queues (s.tcount t num k) :=
  ⟨⟨by simp, fun _ => by simp, fun _ => by simp, fun _ => by simp⟩, fun _ _ h => by simpa using h⟩
theorem State.keepsEvicts_modRes (s : State) (t : Nat) (f : TileRes → TileRes) (he : ∀ x, (f x).entries = x.entries)
    (hv : ∀ x, (f x).evicts = x.evicts) : s.KeepsEvicts (s.modRes t f) :=
  ⟨State.modTile_tiles_length .., fun v => State.modTile_keeps (fun x => x.med.slots) s t v _ (fun _ => rfl),
    fun v => State.modTile_keeps (fun x => x.res.entries) s t v _ (fun _ => he _),
    fun v => State.modTile_keeps (fun x => x.res.evicts) s t v _ (fun _ => hv _)⟩
theorem State.queues_modRes (s : State) (t : Nat) (f : TileRes → TileRes) (he : ∀ x, (f x).entries = x.entries)
    (hv : ∀ x, (f x).evicts = x.evicts) (hk : ∀ x, ∀ k ∈ x.strokes, k ∈ (f x).strokes) : s.Queues (s.modRes t f) :=
  ⟨s.keepsEvicts_modRes t f he hv, fun v k h => State.modTile_grows (fun x => k ∈ x.res.strokes) s t v _ (fun x => hk x.res k) h⟩
theorem State.queues_ringSend (s : State) (a d k : Nat) : s.Queues (s.ringSend a d k) :=
  ⟨⟨by simp, fun _ => by simp, fun _ => by simp, fun _ => by simp⟩, fun _ _ h => by simpa using h⟩
theorem State.queues_shadowFor (s : State) (t owner : Nat) (add : Bool) (kind addr : Nat) : s.Queues (s.shadowFor t owner add kind addr) := by
  have op (m : Nat) (e : ShadowEntry) : s.Queues (s.modRes m (fun r => r.shadowOp add e)) := s.queues_modRes m _ (fun _ => rfl) (fun _ => rfl) (fun _ _ h => h)
  unfold State.shadowFor
  simp only []
  split
  · exact .refl s
  · split
    · exact s.queues_modRes _ _ (fun _ => rfl) (fun _ => rfl) (fun _ _ h => h)
    · exact (op _ _).trans (State.queues_ringSend ..)
theorem State.queues_openStripe (s : State) (t S : Nat) : s.Queues (s.openStripe t S) := by
  refine .ite (.refl s) (State.Queues.trans (t := s.modRes t (fun r => { r with opens := r.opens ++ [S] })) ?_ (State.queues_shadowFor ..))
  exact s.queues_modRes t _ (fun _ => rfl) (fun _ => rfl) (fun _ _ h => h)
theorem State.keepsEvicts_supersede (s : State) (t : Nat) (parity : Bool) (addr ver : Nat) : s.KeepsEvicts (s.supersede t parity addr ver) := by
  unfold State.supersede
  extract_lets old n s1
  have h1 : s.KeepsEvicts s1 := s.keepsEvicts_modRes t _ (fun _ => rfl) (fun _ => rfl)
  split
  · exact h1.trans (s1.queues_tcount ..).toKeepsEvicts
  · exact h1
theorem State.queues_queueStroke (s : State) (t : Nat) (k : Stroke) : s.Queues (s.queueStroke t k) := by
  unfold State.queueStroke
  extract_lets held s1
  have h1 : s.Queues s1 := s.queues_modRes t _ (fun _ => rfl) (fun _ => rfl) (fun _ _ h => List.mem_append_left _ h)
  exact h1.trans (.ite (s1.queues_tcount ..) (.refl s1))
theorem State.queueStroke_queued (s : State) (t : Nat) (k : Stroke) (ht : t < s.tiles.length) :
    ∃ q ∈ ((s.queueStroke t k).tile t).res.strokes, q.addr = k.addr ∧ q.parity = k.parity ∧ q.word = k.word := by
  unfold State.queueStroke
  extract_lets held s1
  have h1 : ∃ q ∈ (s1.tile t).res.strokes, q.addr = k.addr ∧ q.parity = k.parity ∧ q.word = k.word := by
    simp only [s1, State.modRes_eq, State.tile_modTile_same _ _ _ ht]
    exact ⟨_, List.mem_append_right _ (List.mem_singleton_self _), rfl, rfl, rfl⟩
  obtain ⟨q, hq, hk⟩ := h1
  exact ⟨q, State.Queues.strokes (.ite (s1.queues_tcount ..) (.refl s1)) t q hq, hk⟩

/-! ### The strokes of a stripe update (R82, R139) -/

/-- What a stripe update that belongs to eviction `id` leaves at tile `t`: its eviction waits for its data stroke, and a data stroke and a parity
stroke are queued; slots and entries stand. -/
structure State.Strokes (s u : State) (t id : Nat) (lla stripe : Nat) (word : Codeword) : Prop where
  slots : (u.tile t).med.slots = (s.tile t).med.slots
  entries : (u.tile t).res.entries = (s.tile t).res.entries
  evicts : ∃ ev : Evict, ev.dataDone = false ∧ (u.tile t).res.evicts = (s.tile t).res.evicts.filter (fun e => decide (e.id ≠ id)) ++ [ev]
  data : ∃ k ∈ (u.tile t).res.strokes, k.addr = lla ∧ k.parity = false ∧ k.word = word
  parity : ∃ k ∈ (u.tile t).res.strokes, k.addr = stripe ∧ k.parity = true

theorem State.Strokes.queues {s u w : State} {t id lla stripe : Nat} {word : Codeword} (h : s.Strokes u t id lla stripe word) (hq : u.Queues w) :
    s.Strokes w t id lla stripe word := by
  obtain ⟨hslots, hentries, ⟨ev, hdone, hevicts⟩, ⟨k, hk, hdata⟩, p, hp, hparity⟩ := h
  exact ⟨(hq.slots t).trans hslots, (hq.entries t).trans hentries, ⟨ev, hdone, (hq.evicts t).trans hevicts⟩, ⟨k, hq.strokes t k hk, hdata⟩,
    p, hq.strokes t p hp, hparity⟩
theorem Tile.slotFailed_of_none (x : Tile) (a : Nat) (hd : x.med.failedDies = []) (hb : x.med.failedBanks = []) : x.slotFailed a = false := by
  simp [Tile.slotFailed, hd, hb]
theorem State.update_strokes (s : State) (t id : Nat) (u : Update) (hev : u.evict = some id) (ht : t < s.tiles.length)
    (hd : (s.tile t).med.failedDies = []) (hb : (s.tile t).med.failedBanks = []) :
    s.Strokes (s.update t u) t id u.lla (u.copy.stripe (stripeOfLine (lineIndexOf u.lla))) u.word := by
  have usable (a : Nat) : (s.tile t).slotFailed a = false := Tile.slotFailed_of_none _ a hd hb
  unfold State.update
  extract_lets lseg st k S x ds ps ver id' other ev s1 s2 dk pk s3 s4
  have hid : id' = id := by simp [id', hev]
  have hs3 : s3 = s2.queueStroke t dk := if_neg (by simp [ev, x, usable])
  have hs4 : s4 = s3.queueStroke t pk := if_neg (by simp [ev, x, usable])
  have h1 : (s1.tile t).med.slots = (s.tile t).med.slots ∧ (s1.tile t).res.entries = (s.tile t).res.entries ∧
      (s1.tile t).res.evicts = (s.tile t).res.evicts.filter (fun e => decide (e.id ≠ id)) ++ [ev] ∧ s1.tiles.length = s.tiles.length := by
    simp [s1, State.tile_modTile_same _ _ _ ht, hev, hid, TileRes.putBuf]
  obtain ⟨hslots, hentries, hevicts, hlen⟩ := h1
  have h2 : s1.KeepsEvicts s2 :=
    ((s1.keepsEvicts_supersede ..).trans (State.keepsEvicts_supersede ..)).trans (State.queues_openStripe ..).toKeepsEvicts
  have h23 : s2.Queues s3 := hs3 ▸ s2.queues_queueStroke t dk
  have h34 : s3.Queues s4 := hs4 ▸ s3.queues_queueStroke t pk
  have hdata := s2.queueStroke_queued t dk (by rw [h2.listed, hlen]; exact ht)
  have hparity := s3.queueStroke_queued t pk (by rw [h23.listed, h2.listed, hlen]; exact ht)
  rw [← hs3] at hdata
  rw [← hs4] at hparity
  have hboth : s.Strokes s4 t id u.lla (u.copy.stripe (stripeOfLine (lineIndexOf u.lla))) u.word := by
    have h24 := h2.trans (h23.trans h34).toKeepsEvicts
    obtain ⟨q, hq, hqaddr, hqparity, hqword⟩ := hdata
    obtain ⟨p, hp, hpaddr, hpparity, -⟩ := hparity
    exact ⟨(h24.slots t).trans hslots, (h24.entries t).trans hentries, ⟨ev, by simp [ev, x, usable], (h24.evicts t).trans hevicts⟩,
      ⟨q, h34.strokes t q hq, hqaddr, hqparity, hqword⟩, p, hp, hpaddr, hpparity⟩
  refine hboth.queues ?_
  clear_value other
  cases other with
  | none => exact .refl s4
  | some c => exact (State.queues_queueStroke ..).trans (State.queues_queueStroke ..)

/-! ### The eviction point (R139, R250) -/

/-- A new stored form of the tile's own line strokes its stripe. -/
theorem State.form_strokes (s : State) (t id : Nat) (f : Form) (c : Copy) (ht : t < s.tiles.length) (ho : f.owner = t) (hev : f.evict = some id)
    (hlost : f.lost = false) (hc : (s.tile t).map.copyFor (lsegOf f.lla) (stripeOfLine (lineIndexOf f.lla)) = some c)
    (hd : (s.tile t).med.failedDies = []) (hb : (s.tile t).med.failedBanks = []) :
    s.Strokes (s.form t f) t id f.lla (c.stripe (stripeOfLine (lineIndexOf f.lla))) (encodeLine (dataKey f.lla) f.new) := by
  unfold State.form
  extract_lets x spanned id' delta send src0 src1 ev b0 lseg st
  have hsend (w : State) : w.Queues (send w) := by
    simp only [send]
    split
    · refine State.Queues.trans ?_ (State.queues_ringSend ..)
      exact w.queues_modRes t _ (fun _ => by rfl) (fun _ => by rfl) (fun _ _ h => h)
    · exact .refl w
  have hcopy : x.map.copyFor lseg st = some c := hc
  rw [if_neg (by simp [ho])]
  split
  · rename_i hnone
    exact absurd (hcopy.symm.trans hnone) (by simp)
  rename_i c' hsome
  obtain rfl : c = c' := Option.some.inj (hcopy.symm.trans hsome)
  extract_lets S pos oldP parity u s1
  have hword : u.word = encodeLine (dataKey f.lla) f.new := if_neg (by simp [u, hlost])
  have hupdate := s.update_strokes t id u hev ht hd hb
  rw [hword] at hupdate
  exact (hupdate.queues (hsend _)).queues (.ite (State.queues_tcount ..) (.refl _))

/-- An eviction that waits for one of its strokes is not complete, and `completeEvicts` finds none. -/
theorem State.completeEvicts_of_noneDone (s : State) (t : Nat) (h : s.NoneDone t) : s.completeEvicts t = s := by
  have none : (s.tile t).res.evicts.filter (fun e =>
      e.formed && e.dataDone && e.parityDone && !e.copyData && !e.copyParity && !e.deltaWait) = [] := by
    rw [List.filter_eq_nil_iff]
    exact fun e he => by simpa using h e he
  rw [State.completeEvicts, none]
  rfl
theorem State.Strokes.noneDone {s u : State} {t id lla stripe : Nat} {word : Codeword} (h : s.Strokes u t id lla stripe word) (hn : s.NoneDone t) :
    u.NoneDone t := by
  obtain ⟨ev, hdone, hevicts⟩ := h.evicts
  intro e he
  rw [hevicts] at he
  obtain he | he := List.mem_append.1 he
  · exact hn e (List.mem_filter.1 he).1
  · obtain rfl := List.mem_singleton.1 he
    simp [hdone]

/-- Line `e` IN-FLIGHT at tile `t`, the holds of its eviction released (R139). -/
def State.released (s : State) (t : Nat) (ev : Evict) (e : Entry) : State :=
  (s.modRd t (fun y => { y with holds := y.holds.filter (fun h => decide (h.rd ≠ evictHold ev.id)) })).modRes t
    (fun r => r.setEntry e.id (fun e => { e with st := .inflight, redirty := false }))
theorem State.released_tile (s : State) (t : Nat) (ev : Evict) (e : Entry) (ht : t < s.tiles.length) :
    ((s.released t ev e).tile t).med = (s.tile t).med ∧ ((s.released t ev e).tile t).map = (s.tile t).map ∧
    ((s.released t ev e).tile t).res = (s.tile t).res.setEntry e.id (fun e => { e with st := .inflight, redirty := false }) := by
  simp [State.released, State.tile_modTile_same, ht]
theorem State.formEvict_strokes (s : State) (t : Nat) (ev : Evict) (e : Entry) (new : Line) (c : Copy) (ht : t < s.tiles.length) (ho : ev.owner = t)
    (hn : s.NoneDone t) (hc : (s.tile t).map.copyFor (lsegOf ev.addr) (stripeOfLine (lineIndexOf ev.addr)) = some c)
    (hd : (s.tile t).med.failedDies = []) (hb : (s.tile t).med.failedBanks = []) :
    (s.released t ev e).Strokes (s.formEvict t ev e new false) t ev.id ev.addr (c.stripe (stripeOfLine (lineIndexOf ev.addr)))
      (encodeLine (dataKey ev.addr) new) := by
  obtain ⟨hmed, hmap, hres⟩ := s.released_tile t ev e ht
  unfold State.formEvict
  extract_lets r old s1 s2 s3 s4 s5
  have hform : (s.released t ev e).Strokes s3 t ev.id ev.addr (c.stripe (stripeOfLine (lineIndexOf ev.addr))) (encodeLine (dataKey ev.addr) new) :=
    State.form_strokes s2 t ev.id _ c (by simpa [s2, s1] using ht) ho rfl rfl (hmap ▸ hc) (hmed ▸ hd) (hmed ▸ hb)
  have hcounted := (hform.queues (s3.queues_tcount ..)).queues (.ite (s4.queues_tcount t Cn.KEY_PURGE_EVICTIONS 1) (.refl s4) : s4.Queues s5)
  rw [s5.completeEvicts_of_noneDone t (hcounted.noneDone (by rwa [State.NoneDone, hres]))]
  exact hcounted

/-- At its point a plain line goes on to its strokes. -/
theorem State.evictPoint_of_plain (s : State) (t : Nat) (v : Evict) (e : Entry) (ho : v.owner = t)
    (he : (s.tile t).res.entries.find? (fun e => decide (e.addr = v.addr ∧ e.owner = t ∧ e.st = .dirty)) = some e) (hold : s.oldsReady t v = true)
    (hfew : (s.tile t).res.inflightIn ((s.tile t).res.sliceOf .data v.addr) ≤ 254) (hp : e.poisoned = false) (hk : e.kind = .data)
    (hs : (s.partn e.part).isSealed = false) :
    s.evictPoint t v = s.formEvict t v e (if e.blank then 0 else s.encrypt e.part e.kx e.dpa e.data) false := by
  subst ho
  have hready : ¬((!s.oldsReady v.owner v) = true ∨ 254 < (s.tile v.owner).res.inflightIn ((s.tile v.owner).res.sliceOf .data v.addr)) := by
    rw [hold]
    simpa using hfew
  simp only [State.evictPoint, he, if_neg hready, hp, hk, hs, Bool.false_eq_true, if_false]
theorem exec_evictionPoint (t id : Nat) (s : State) (v : Evict)
    (hv : (s.tile t).res.evicts.find? (fun e => decide (e.id = id) && !e.formed) = some v) :
    exec (.evictionPoint t id) s = .next ((s.evictPoint t v).noteGate t) := by
  simp only [exec, execEvictionPoint, hv]
theorem evictionPoint_strokes (t id : Nat) (s : State) (v : Evict) (e : Entry) (c : Copy) (ht : t < s.n) (hs : s.Sized) (hn : s.NoneDone t)
    (hv : (s.tile t).res.evicts.find? (fun e => decide (e.id = id) && !e.formed) = some v) (ho : v.owner = t)
    (he : (s.tile t).res.entries.find? (fun e => decide (e.addr = v.addr ∧ e.owner = t ∧ e.st = .dirty)) = some e) (hold : s.oldsReady t v = true)
    (hfew : (s.tile t).res.inflightIn ((s.tile t).res.sliceOf .data v.addr) ≤ 254) (hp : e.poisoned = false) (hk : e.kind = .data)
    (hplain : (s.partn e.part).isSealed = false)
    (hc : (s.tile t).map.copyFor (lsegOf v.addr) (stripeOfLine (lineIndexOf v.addr)) = some c)
    (hd : (s.tile t).med.failedDies = []) (hb : (s.tile t).med.failedBanks = []) :
    ∃ u, exec (.evictionPoint t id) s = .next u ∧ (u.tile t).med.slots = (s.tile t).med.slots ∧
      (∃ f ∈ (u.tile t).res.entries, f.id = e.id ∧ f.addr = v.addr ∧ f.st = .inflight) ∧
      (∃ k ∈ (u.tile t).res.strokes, k.addr = v.addr ∧ k.parity = false ∧
        k.word = encodeLine (dataKey v.addr) (if e.blank then 0 else s.encrypt e.part e.kx e.dpa e.data)) ∧
      (∃ k ∈ (u.tile t).res.strokes, k.addr = c.stripe (stripeOfLine (lineIndexOf v.addr)) ∧ k.parity = true) := by
  have hstrokes := s.formEvict_strokes t v e (if e.blank then 0 else s.encrypt e.part e.kx e.dpa e.data) c (hs.tile_listed ht) ho hn hc hd hb
  obtain ⟨hmed, -, hres⟩ := s.released_tile t v e (hs.tile_listed ht)
  rw [← s.evictPoint_of_plain t v e ho he hold hfew hp hk hplain] at hstrokes
  have hgate := (s.evictPoint t v).keepsStrokes_noteGate t
  have hcond := List.find?_some he
  obtain ⟨haddr, -, -⟩ := of_decide_eq_true hcond
  refine ⟨_, exec_evictionPoint t id s v hv, ?_, ?_, ?_, ?_⟩
  · rw [hgate.slots, hstrokes.slots, hmed]
  · rw [((s.evictPoint t v).keepsEntries_noteGate t).entries, hstrokes.entries, hres]
    exact ⟨_, List.mem_map.2 ⟨e, List.mem_of_find?_eq_some he, if_pos rfl⟩, rfl, haddr, rfl⟩
  · rw [hgate.strokes]
    exact hstrokes.data
  · rw [hgate.strokes]
    exact hstrokes.parity

/-- Settles O15: the start places the holds and only reads after that; the point queues the strokes of its stripe update. -/
theorem evictionOfALine : Obligations.EvictionOfALine := by
  unfold Obligations.EvictionOfALine
  exact ⟨evictionStart_holds, evictionPoint_strokes⟩

end Sys2Proof.Machine
end

section
/-! Proofs of 05_write_path.md: the end of a DRAIN (R149 to R151, R411 to R413, R484). -/
namespace Sys2Proof.Machine
open Sys2Proof

/-! ### Tiles whose flush goes on (R149) -/

theorem State.mem_flushOpen (s : State) (v : Nat) : v ∈ s.flushOpen ↔ v < s.n ∧ ((s.tile v).fence.st = .active ∨ (s.tile v).fence.st = .fencing) ∧
    v ∉ s.dev.flushDone ∧ v ∉ s.dev.flushStop := by
  simp [State.flushOpen, State.flushTiles, State.tileNumbers, and_assoc, and_comm, and_left_comm]
theorem State.settleDrain_of_open (s : State) (h : s.flushOpen ≠ []) : s.settleDrain = s :=
  if_neg fun hc => h (List.isEmpty_iff.1 hc.2.1)
theorem State.settleDrain_of_mem (s : State) (v : Nat) (h : v ∈ s.flushOpen) : s.settleDrain = s :=
  s.settleDrain_of_open (List.ne_nil_of_mem h)
/-- A part of a tile beside its reservoir is left by a change of a reservoir. -/
theorem State.modRes_other {β : Type} (g : Tile → β) (s : State) (t w : Nat) (f : TileRes → TileRes)
    (h : ∀ (x : Tile) (r : TileRes), g { x with res := r } = g x) : g ((s.modRes t f).tile w) = g (s.tile w) :=
  State.modTile_keeps g s t w _ (fun x => h x (f x.res))
/-- What owing a shadow record changes is the list of records due. -/
theorem State.owe_eq (s : State) (t : Nat) : ∃ due, s.owe t = { s with dev := { s.dev with recordsDue := due } } := by
  unfold State.owe
  split
  · exact ⟨_, rfl⟩
  · exact ⟨s.dev.recordsDue, rfl⟩

/-! ### Saves into a parameter store (R305, R465, R471) -/

/-- From `s` to `u` parameter stores have been written: no other part of a tile but these differs, the device goes on, nothing is handed over. -/
structure State.Saves (s u : State) : Prop where
  out : u.out = s.out
  part : u.part = s.part
  dev : u.dev = s.dev
  tiles : u.tiles.length = s.tiles.length
  recs : u.recs.length = s.recs.length
  med : ∀ v, (u.tile v).med = (s.tile v).med
  res : ∀ v, (u.tile v).res = (s.tile v).res
  fence : ∀ v, (u.tile v).fence = (s.tile v).fence

theorem State.Saves.refl (s : State) : s.Saves s := ⟨rfl, rfl, rfl, rfl, rfl, fun _ => rfl, fun _ => rfl, fun _ => rfl⟩
theorem State.Saves.trans {s t u : State} (a : s.Saves t) (b : t.Saves u) : s.Saves u :=
  ⟨b.out.trans a.out, b.part.trans a.part, b.dev.trans a.dev, b.tiles.trans a.tiles, b.recs.trans a.recs,
    fun v => (b.med v).trans (a.med v), fun v => (b.res v).trans (a.res v), fun v => (b.fence v).trans (a.fence v)⟩
theorem State.Saves.of_tiles {s u : State} (out : u.out = s.out) (part : u.part = s.part) (dev : u.dev = s.dev) (tiles : u.tiles = s.tiles)
    (recs : u.recs.length = s.recs.length) : s.Saves u :=
  ⟨out, part, dev, by rw [tiles], recs, fun v => by simp only [State.tile, tiles], fun v => by simp only [State.tile, tiles],
    fun v => by simp only [State.tile, tiles]⟩
theorem State.Saves.each {α : Type} (s : State) (l : List α) (f : State → α → State) (h : ∀ u x, State.Saves u (f u x)) : s.Saves (s.each l f) :=
  State.each_induct s.Saves s l f (State.Saves.refl s) (fun u x _ hu => hu.trans (h u x))
theorem State.saves_modPs (s : State) (t : Nat) (f : PStore → PStore) : s.Saves (s.modPs t f) :=
  ⟨rfl, rfl, rfl, s.modTile_tiles_length t _, rfl, fun v => State.modTile_keeps Tile.med s t v _ (fun _ => rfl),
    fun v => State.modTile_keeps Tile.res s t v _ (fun _ => rfl), fun v => State.modTile_keeps Tile.fence s t v _ (fun _ => rfl)⟩
theorem State.saves_count (s : State) (num k : Nat) : s.Saves (s.count num k) := .of_tiles (by simp) (by simp) (by simp) (by simp) (by simp)
theorem State.saves_pageCommit (s : State) (t page : Nat) : s.Saves (s.pageCommit t page) := (s.saves_modPs t _).trans (State.saves_count _ _ _)
theorem State.saves_tev (s : State) (t num cls value : Nat) (qs : List (Nat × Nat)) : s.Saves (s.tev t num cls value qs) :=
  .of_tiles (by simp) (by simp) (by simp) (by simp) (by simp)
theorem State.saves_saveRoots (s : State) (t : Nat) : s.Saves (s.saveRoots t) := by
  unfold State.saveRoots
  exact (s.saves_pageCommit t 2336).trans (State.saves_modPs _ t _)
theorem State.saves_saveRings (s : State) (t : Nat) : s.Saves (s.saveRings t) := by
  unfold State.saveRings
  exact s.saves_modPs t _
theorem State.saves_modRec (s : State) (r : Nat) (f : Recorder → Recorder) : s.Saves (s.modRec r f) :=
  .of_tiles rfl rfl rfl rfl (length_modAt _ _ _)
theorem State.saves_saveRecorder (s : State) (t : Nat) : s.Saves (s.saveRecorder t) := by
  unfold State.saveRecorder
  exact ((s.saves_modPs t _).trans (State.saves_modRec _ t _)).trans (State.saves_count _ _ _)
theorem State.saves_setCell (s : State) (key v : Nat) : s.Saves (s.setCell key v) := .of_tiles rfl rfl rfl rfl rfl
theorem State.saves_noteClean (s : State) : s.Saves s.noteClean := by
  unfold State.noteClean
  split
  · exact (s.saves_setCell _ _).trans (.each _ _ _ (fun u t => u.saves_modPs t _))
  · exact .refl s

/-! ### Ring 0 of a parameter store, the flush generation (R471) -/

theorem State.ring0_modPs (s : State) (t v : Nat) (f : PStore → PStore) (hf : ∀ p, (f p).ringValue 0 = p.ringValue 0) :
    ((s.modPs t f).tile v).ps.ringValue 0 = (s.tile v).ps.ringValue 0 :=
  State.modTile_keeps (fun x => x.ps.ringValue 0) s t v _ (fun x => hf x.ps)
theorem State.ring0_pageCommit (s : State) (t page v : Nat) : ((s.pageCommit t page).tile v).ps.ringValue 0 = (s.tile v).ps.ringValue 0 := by
  unfold State.pageCommit
  rw [State.count_tile]
  exact s.ring0_modPs t v _ (fun _ => rfl)
theorem State.ring0_saveRoots (s : State) (t v : Nat) : ((s.saveRoots t).tile v).ps.ringValue 0 = (s.tile v).ps.ringValue 0 := by
  unfold State.saveRoots
  rw [State.ring0_modPs _ t v _ (fun _ => by rfl), State.ring0_pageCommit]
/-- The rings that a tile saves in a DRAIN: its drift clock, strokes, power-on seconds and the highest temperature (R471). -/
def PStore.saveLives (p : PStore) (x : Tile) (temp : Nat) : PStore :=
  (((p.saveRing 2 x.pat.drift).saveRing 4 x.med.strokes).saveRing 5 (x.time.onNs / 10 ^ 9)).saveRing 6 temp
theorem PStore.ring0_saveLives (p : PStore) (x : Tile) (temp : Nat) : (p.saveLives x temp).ringValue 0 = p.ringValue 0 := by
  have hring (p : PStore) (ring v : Nat) (h : 0 ≠ ring) : (p.saveRing ring v).ringValue 0 = p.ringValue 0 := p.ringValue_saveRing_ne ring 0 v h
  unfold PStore.saveLives
  rw [hring _ 6 _ (by decide), hring _ 5 _ (by decide), hring _ 4 _ (by decide), hring _ 2 _ (by decide)]
theorem State.ring0_saveRings (s : State) (t v : Nat) : ((s.saveRings t).tile v).ps.ringValue 0 = (s.tile v).ps.ringValue 0 := by
  unfold State.saveRings
  exact s.ring0_modPs t v (fun p => p.saveLives (s.tile t) (s.cell Ob.TEMP_MAX_LIFE_C 0)) (fun p => p.ring0_saveLives _ _)
theorem State.ring0_saveRecorder (s : State) (t v : Nat) : ((s.saveRecorder t).tile v).ps.ringValue 0 = (s.tile v).ps.ringValue 0 := by
  unfold State.saveRecorder
  rw [State.count_tile]
  exact s.ring0_modPs t v (fun p => { p with recImage := some (s.recImages t).1, pkgImage := if t < 2 then some (s.recImages t).2 else p.pkgImage })
    (fun _ => rfl)
theorem State.flushDone_noteClean (s : State) (v : Nat) : (s.noteClean.tile v).ps.flushDone = (s.tile v).ps.flushDone := by
  unfold State.noteClean
  split
  · exact State.each_keeps (fun u => (u.tile v).ps.flushDone) _ _ _
      (fun u t => State.modTile_keeps (fun x => x.ps.flushDone) u t v _ (fun _ => rfl))
  · rfl
theorem State.recs_noteClean (s : State) : s.noteClean.recs = s.recs := by
  unfold State.noteClean
  split
  · exact State.each_keeps State.recs _ _ _ (fun _ _ => rfl)
  · rfl

/-! ### A tile's flush completes (R149) -/

/-- The flush of tile `t` up to its FLUSH_DONE: roots, rings and recorder are saved. -/
def State.flushSaved (s : State) (t : Nat) : State :=
  let s1 := (s.saveRoots t).saveRings t
  if (s1.rec_ t).loaded then s1.saveRecorder t else s1
theorem State.saves_flushSaved (s : State) (t : Nat) : s.Saves (s.flushSaved t) := by
  have h1 : s.Saves ((s.saveRoots t).saveRings t) := (s.saves_saveRoots t).trans (State.saves_saveRings _ t)
  simp only [State.flushSaved]
  split
  · exact h1.trans (State.saves_saveRecorder _ t)
  · exact h1
theorem State.ring0_flushSaved (s : State) (t v : Nat) : ((s.flushSaved t).tile v).ps.ringValue 0 = (s.tile v).ps.ringValue 0 := by
  have h1 : (((s.saveRoots t).saveRings t).tile v).ps.ringValue 0 = (s.tile v).ps.ringValue 0 :=
    (State.ring0_saveRings _ t v).trans (s.ring0_saveRoots t v)
  simp only [State.flushSaved]
  split
  · exact (State.ring0_saveRecorder _ t v).trans h1
  · exact h1
/-- The state in which tile `t` has committed FLUSH_DONE and recorded it (R149 step 6). -/
def State.flushCommitted (s : State) (t : Nat) : State :=
  (((s.flushSaved t).pageCommit t 16).modPs t (fun p => { p with flushDone := p.ringValue 0 })).tev t Ev.FLUSH_DONE_RECORDED 0xFF
    (s.tile t).res.flushed [(8, s.now t - s.dev.drainAt)]
theorem State.saves_flushCommitted (s : State) (t : Nat) : s.Saves (s.flushCommitted t) :=
  (((s.saves_flushSaved t).trans (State.saves_pageCommit _ t 16)).trans (State.saves_modPs _ t _)).trans (State.saves_tev _ _ _ _ _ _)
theorem State.flushDone_flushCommitted (s : State) (t : Nat) (ht : t < s.tiles.length) :
    ((s.flushCommitted t).tile t).ps.flushDone = (s.tile t).ps.ringValue 0 := by
  have hlen : t < ((s.flushSaved t).pageCommit t 16).tiles.length := by
    rw [((s.saves_flushSaved t).trans (State.saves_pageCommit _ t 16)).tiles]
    exact ht
  have hring : (((s.flushSaved t).pageCommit t 16).tile t).ps.ringValue 0 = (s.tile t).ps.ringValue 0 :=
    (State.ring0_pageCommit _ t 16 t).trans (s.ring0_flushSaved t t)
  rw [← hring]
  unfold State.flushCommitted
  rw [State.tev_tile]
  exact congrArg (fun x => x.ps.flushDone) (State.tile_modTile_same _ t _ hlen)
theorem State.flushCommitted_reports (s : State) (t : Nat) (ht : t < s.recs.length) :
    (s.flushCommitted t).tileReports t Ev.FLUSH_DONE_RECORDED := by
  apply State.tev_reports
  rw [(((s.saves_flushSaved t).trans (State.saves_pageCommit _ t 16)).trans (State.saves_modPs _ t _)).recs]
  exact ht
/-- The state in which tile `t` has reported done (R149 step 7). -/
def State.flushReported (s : State) (t : Nat) : State :=
  { s with dev := { s.dev with flushDone := s.dev.flushDone ++ [t] } }.modRes t (fun r => { r with flush := 2 })
theorem State.flushComplete_eq (s : State) (t : Nat) (h : s.reconciled = true) :
    s.flushComplete t = ((((s.flushCommitted t).flushReported t).owe t).noteClean).settleDrain := by
  unfold State.flushComplete
  simp only [h, if_true]
  rfl
theorem drainFlushDone_done (t v : Nat) (s : State) (hs : s.Sized) (hst : s.dev.st = .drain) (hrec : s.reconciled = true) (ht : t ∈ s.flushOpen)
    (hv : v ∈ s.flushOpen) (hvt : v ≠ t) (hfl : (s.tile t).flushed = true) (hdel : s.deltasToCome t = false) :
    ∃ u, exec (.drainFlushDone t) s = .next u ∧ u.dev.st = .drain ∧ u.dev.flushDone = s.dev.flushDone ++ [t] ∧
      (u.tile t).ps.flushDone = (s.tile t).ps.ringValue 0 ∧ (u.tile t).res.flush = 2 ∧ u.tileReports t Ev.FLUSH_DONE_RECORDED ∧
      (∀ w, (u.tile w).med = (s.tile w).med) ∧ u.out = s.out := by
  obtain ⟨htn, _⟩ := (s.mem_flushOpen t).1 ht
  have htl : t < s.tiles.length := hs.tile_listed htn
  have hc := s.saves_flushCommitted t
  have hrep := s.flushCommitted_reports t (hs.tile_recorder htn)
  have hdone := s.flushDone_flushCommitted t htl
  have hexec : exec (.drainFlushDone t) s = .next (s.flushComplete t) :=
    congrArg Host.Outcome.next (if_pos ⟨hst, by simpa using ht, hfl, by simp [hdel]⟩)
  rw [s.flushComplete_eq t hrec] at hexec
  obtain ⟨due, howe⟩ := ((s.flushCommitted t).flushReported t).owe_eq t
  generalize s.flushCommitted t = c at hexec hc hrep hdone howe
  have hcl : t < c.tiles.length := by rw [hc.tiles]; exact htl
  have htile : ((c.flushReported t).owe t).tile = (c.modRes t (fun r => { r with flush := 2 })).tile := by rw [howe]; rfl
  have hn := State.saves_noteClean ((c.flushReported t).owe t)
  have hdev : (((c.flushReported t).owe t).noteClean).dev = { s.dev with flushDone := s.dev.flushDone ++ [t], recordsDue := due } := by
    rw [hn.dev, howe, ← hc.dev]
    rfl
  have hfence (w : Nat) : ((((c.flushReported t).owe t).noteClean).tile w).fence = (s.tile w).fence := by
    rw [hn.fence, htile]
    exact (c.modRes_other Tile.fence t w _ (fun _ _ => rfl)).trans (hc.fence w)
  have hopen : v ∈ (((c.flushReported t).owe t).noteClean).flushOpen := by
    obtain ⟨hvn, hvst, hvd, hvs⟩ := (s.mem_flushOpen v).1 hv
    refine (State.mem_flushOpen _ v).2 ⟨?_, by rw [hfence]; exact hvst, ?_, by rw [hdev]; exact hvs⟩
    · have hpart : (((c.flushReported t).owe t).noteClean).part = s.part := by rw [hn.part, howe]; exact hc.part
      rw [State.n, hpart]
      exact hvn
    · rw [hdev]
      simp [hvd, hvt]
  rw [State.settleDrain_of_mem _ v hopen] at hexec
  refine ⟨_, hexec, by rw [hdev]; exact hst, by rw [hdev], ?_, ?_, ?_, fun w => ?_, ?_⟩
  · rw [State.flushDone_noteClean, htile, ← hdone]
    exact c.modRes_other (fun x => x.ps.flushDone) t t _ (fun _ _ => rfl)
  · rw [hn.res, htile]
    exact congrArg (fun x => x.res.flush) (State.tile_modTile_same c t _ hcl)
  · exact State.reports_of_recs c _ t _ (by rw [State.recs_noteClean, howe]; rfl) hrep
  · rw [hn.med, htile]
    exact (c.modRes_other Tile.med t w _ (fun _ _ => rfl)).trans (hc.med w)
  · rw [hn.out, howe]
    exact hc.out

end Sys2Proof.Machine
end

section
/-! Proofs of 05_write_path.md: a tile that falls silent in DRAIN, and the shadow records (R150, R151, R412). -/
namespace Sys2Proof.Machine
open Sys2Proof

theorem State.flushOpen_congr (s u : State) (part : u.part = s.part) (fence : ∀ v, (u.tile v).fence = (s.tile v).fence)
    (done : u.dev.flushDone = s.dev.flushDone) (stop : u.dev.flushStop = s.dev.flushStop) : u.flushOpen = s.flushOpen := by
  simp only [State.flushOpen, State.flushTiles, State.tileNumbers, State.n, part, fence, done, stop]

/-! ### Strokes cut off (R151) -/

/-- From `s` to `u` strokes of the list have been cut off in tile `t`: nothing but what their slots hold differs. -/
structure State.Tears (t : Nat) (l : List Stroke) (s u : State) : Prop where
  out : u.out = s.out
  part : u.part = s.part
  dev : u.dev = s.dev
  recs : u.recs = s.recs
  tiles : u.tiles.length = s.tiles.length
  res : ∀ v, (u.tile v).res = (s.tile v).res
  fence : ∀ v, (u.tile v).fence = (s.tile v).fence
  others : ∀ v, v ≠ t → u.tile v = s.tile v
  slots : ∀ k, (∀ x ∈ l, x.slot ≠ k) → Sparse.find (u.tile t).med.slots k = Sparse.find (s.tile t).med.slots k

theorem State.Tears.refl (t : Nat) (l : List Stroke) (s : State) : State.Tears t l s s :=
  ⟨rfl, rfl, rfl, rfl, rfl, fun _ => rfl, fun _ => rfl, fun _ _ => rfl, fun _ _ => rfl⟩
theorem State.Tears.trans {t : Nat} {l : List Stroke} {s u w : State} (a : State.Tears t l s u) (b : State.Tears t l u w) : State.Tears t l s w :=
  ⟨b.out.trans a.out, b.part.trans a.part, b.dev.trans a.dev, b.recs.trans a.recs, b.tiles.trans a.tiles, fun v => (b.res v).trans (a.res v),
    fun v => (b.fence v).trans (a.fence v), fun v h => (b.others v h).trans (a.others v h), fun k h => (b.slots k h).trans (a.slots k h)⟩
theorem State.tears_tearStroke (s : State) (t : Nat) (l : List Stroke) (x : Stroke) (hx : x ∈ l) : State.Tears t l s (s.tearStroke t x) :=
  ⟨rfl, rfl, rfl, rfl, State.modTile_tiles_length .., fun v => State.modTile_keeps Tile.res s t v _ (fun _ => rfl),
    fun v => State.modTile_keeps Tile.fence s t v _ (fun _ => rfl), fun v h => State.tile_modTile_ne s t v _ h.symm,
    fun k h => State.modTile_keeps (fun y => Sparse.find y.med.slots k) s t t _
      (fun y => Sparse.find_insert_ne y.med.slots x.slot k _ (h x hx))⟩
theorem State.tears_each (s : State) (t : Nat) (l : List Stroke) : State.Tears t l s (s.each l (fun s' k => s'.tearStroke t k)) :=
  State.each_induct (State.Tears t l s) s l _ (.refl t l s) (fun u x hx hu => hu.trans (u.tears_tearStroke t l x hx))

/-! ### A tile falls silent (R150, R412) -/

/-- The state in which the running strokes of tile `t` are cut off. -/
def State.torn (s : State) (t : Nat) : State := s.each ((s.tile t).res.strokes.filter (fun k => k.running)) (fun s' k => s'.tearStroke t k)
/-- A tile without its strokes, evictions and reads. -/
def Tile.cut (x : Tile) : Tile :=
  { x with res := { x.res with flush := 3, strokes := [], evicts := [] }, rd := { x.rd with rds := [], senses := [], holds := [] } }
/-- The state in which the strokes, evictions and reads of tile `t` are gone. -/
def State.flushCut (s : State) (t : Nat) : State :=
  ((s.torn t).modRes t (fun r => { r with flush := 3, strokes := [], evicts := [] })).modRd t (fun y => { y with rds := [], senses := [], holds := [] })
/-- The state in which tile `t` counts among the stopped ones; no record is due any more from it. -/
def State.flushStopped (s : State) (t : Nat) : State :=
  let c := s.flushCut t
  { c with dev := { c.dev with flushStop := c.dev.flushStop ++ [t], recordsDue := c.dev.recordsDue.filter (fun u => decide (s.mirrorOf u ≠ t)) } }
/-- The state in which the mirror tile of a stopped tile has recorded FLUSH_STOPPED. -/
def State.stopReported (s : State) (t : Nat) : State :=
  if s.mirrorOf t < s.n then (s.flushStopped t).tev (s.mirrorOf t) Ev.FLUSH_STOPPED 0xFF t [] else s.flushStopped t

theorem State.tears_torn (s : State) (t : Nat) : State.Tears t ((s.tile t).res.strokes.filter (fun k => k.running)) s (s.torn t) := s.tears_each t _
theorem State.flushStopped_tile (s : State) (t : Nat) (ht : t < s.tiles.length) : (s.flushStopped t).tile t = ((s.torn t).tile t).cut := by
  have hlen : t < (s.torn t).tiles.length := by rw [(s.tears_torn t).tiles]; exact ht
  refine (State.tile_modTile_same _ t _ ?_).trans ?_
  · rw [State.modRes_eq, State.modTile_tiles_length]
    exact hlen
  · rw [State.modRes_eq, State.tile_modTile_same _ _ _ hlen]
    rfl
theorem State.flushStopped_others (s : State) (t w : Nat) (h : w ≠ t) : (s.flushStopped t).tile w = s.tile w :=
  ((State.tile_modTile_ne _ t w _ h.symm).trans (State.tile_modTile_ne _ t w _ h.symm)).trans ((s.tears_torn t).others w h)
theorem State.flushStopped_fence (s : State) (t w : Nat) : ((s.flushStopped t).tile w).fence = (s.tile w).fence :=
  ((State.modTile_keeps Tile.fence _ t w _ (fun _ => by rfl)).trans (State.modTile_keeps Tile.fence _ t w _ (fun _ => by rfl))).trans
    ((s.tears_torn t).fence w)
theorem State.flushStopped_part (s : State) (t : Nat) : (s.flushStopped t).part = s.part := (s.tears_torn t).part
theorem State.flushStopped_recs (s : State) (t : Nat) : (s.flushStopped t).recs = s.recs := (s.tears_torn t).recs
theorem State.flushStopped_dev (s : State) (t : Nat) : (s.flushStopped t).dev = { s.dev with
    flushStop := s.dev.flushStop ++ [t], recordsDue := s.dev.recordsDue.filter (fun u => decide (s.mirrorOf u ≠ t)) } := by
  rw [← (s.tears_torn t).dev]
  rfl
theorem State.saves_stopReported (s : State) (t : Nat) : (s.flushStopped t).Saves (s.stopReported t) := by
  unfold State.stopReported
  split
  · exact State.saves_tev _ _ _ _ _ _
  · exact .refl _
theorem State.stopReported_tile (s : State) (t w : Nat) : (s.stopReported t).tile w = (s.flushStopped t).tile w := by
  unfold State.stopReported
  split
  · exact State.tev_tile ..
  · rfl
theorem State.stopReported_reports (s : State) (t : Nat) (hs : s.Sized) (hm : s.mirrorOf t < s.n) :
    (s.stopReported t).tileReports (s.mirrorOf t) Ev.FLUSH_STOPPED := by
  unfold State.stopReported
  rw [if_pos hm]
  apply State.tev_reports
  rw [s.flushStopped_recs]
  exact hs.tile_recorder hm
theorem State.stopFlush_eq (s : State) (t : Nat) (hst : s.dev.st = .drain) (ht : t ∈ s.flushOpen) :
    s.stopFlush t = ((s.stopReported t).owe t).settleDrain :=
  if_pos ⟨hst, by simpa using ht⟩
theorem State.stopReported_open (s : State) (t v : Nat) (hv : v ∈ s.flushOpen) (hvt : v ≠ t) : v ∈ ((s.stopReported t).owe t).flushOpen := by
  obtain ⟨due, howe⟩ := (s.stopReported t).owe_eq t
  have hr := s.saves_stopReported t
  obtain ⟨hvn, hvst, hvd, hvs⟩ := (s.mem_flushOpen v).1 hv
  rw [howe]
  refine (State.mem_flushOpen _ v).2 ⟨?_, ?_, ?_, ?_⟩
  · rw [State.n, hr.part, s.flushStopped_part]
    exact hvn
  · rw [← s.flushStopped_fence t v, ← hr.fence] at hvst
    exact hvst
  · simpa [hr.dev, s.flushStopped_dev] using hvd
  · simp [hr.dev, s.flushStopped_dev, hvs, hvt]
theorem tileFlushSilence_stops (t v : Nat) (s : State) (hs : s.Sized) (hst : s.dev.st = .drain) (ht : t ∈ s.flushOpen) (hv : v ∈ s.flushOpen)
    (hvt : v ≠ t) :
    ∃ u, exec (.tileFlushSilence t) s = .next u ∧ u.dev.st = .drain ∧ u.dev.flushStop = s.dev.flushStop ++ [t] ∧ (u.tile t).res.strokes = [] ∧
      (u.tile t).res.entries = (s.tile t).res.entries ∧ (s.mirrorOf t < s.n → u.tileReports (s.mirrorOf t) Ev.FLUSH_STOPPED) ∧
      (∀ k, (∀ x ∈ (s.tile t).res.strokes, x.running = true → x.slot ≠ k) →
        Sparse.find (u.tile t).med.slots k = Sparse.find (s.tile t).med.slots k) ∧ (∀ w, w ≠ t → u.tile w = s.tile w) := by
  obtain ⟨htn, _⟩ := (s.mem_flushOpen t).1 ht
  have hexec : exec (.tileFlushSilence t) s = .next (s.stopFlush t) := rfl
  rw [s.stopFlush_eq t hst ht, State.settleDrain_of_mem _ v (s.stopReported_open t v hv hvt)] at hexec
  have htear := s.tears_torn t
  have hr := s.saves_stopReported t
  obtain ⟨due, howe⟩ := (s.stopReported t).owe_eq t
  have htile (w : Nat) : (((s.stopReported t).owe t).tile w) = (s.flushStopped t).tile w := by
    rw [howe]
    exact s.stopReported_tile t w
  have hcut : ((s.stopReported t).owe t).tile t = ((s.torn t).tile t).cut := (htile t).trans (s.flushStopped_tile t (hs.tile_listed htn))
  refine ⟨_, hexec, ?_, ?_, ?_, ?_, fun hm => ?_, fun k hk => ?_, fun w hw => (htile w).trans (s.flushStopped_others t w hw)⟩
  · simpa [howe, hr.dev, s.flushStopped_dev] using hst
  · simp [howe, hr.dev, s.flushStopped_dev]
  · rw [hcut]
    rfl
  · rw [hcut]
    show ((s.torn t).tile t).res.entries = _
    rw [htear.res]
  · rw [howe]
    exact State.reports_of_recs (s.stopReported t) _ _ _ rfl (s.stopReported_reports t hs hm)
  · rw [hcut]
    refine htear.slots k (fun x hx => ?_)
    obtain ⟨hmem, hrun⟩ := List.mem_filter.1 hx
    exact hk x hmem hrun

/-! ### Shadow records (R150) -/

theorem PStore.mem_putRecord (p : PStore) (r : ShadowRec) : r ∈ (p.putRecord r).shadowRecs := List.mem_append_right _ (List.mem_singleton_self r)
/-- The state in which the mirror tile of tile `t` has put its record into its parameter store, if there is one. -/
def State.recordPut (s : State) (t : Nat) : State :=
  match s.recordToWrite (s.mirrorOf t) t with
  | some r => s.modPs (s.mirrorOf t) (fun p => p.putRecord r)
  | none => s
/-- The state in which the record of tile `t` is not due any more. -/
def State.shadowRecorded (s : State) (t : Nat) : State :=
  let u := s.recordPut t
  { u with dev := { u.dev with recordsDue := u.dev.recordsDue.filter (fun w => decide (w ≠ t)) } }
theorem exec_shadowRecordWrite (t : Nat) (s : State) (hst : s.dev.st = .drain) (hdue : s.dev.recordsDue.contains t = true) :
    exec (.shadowRecordWrite t) s = .next (s.shadowRecorded t).settleDrain :=
  congrArg Host.Outcome.next (if_pos ⟨hst, hdue⟩)
theorem State.saves_recordPut (s : State) (t : Nat) : s.Saves (s.recordPut t) := by
  unfold State.recordPut
  split
  · exact s.saves_modPs _ _
  · exact .refl s
theorem State.recordPut_some (s : State) (t : Nat) (r : ShadowRec) (h : s.recordToWrite (s.mirrorOf t) t = some r) :
    s.recordPut t = s.modPs (s.mirrorOf t) (fun p => p.putRecord r) := by
  unfold State.recordPut
  rw [h]
theorem State.shadowRecorded_dev (s : State) (t : Nat) :
    (s.shadowRecorded t).dev = { s.dev with recordsDue := s.dev.recordsDue.filter (fun w => decide (w ≠ t)) } := by
  rw [← (s.saves_recordPut t).dev]
  rfl
theorem State.shadowRecorded_open (s : State) (t : Nat) : (s.shadowRecorded t).flushOpen = s.flushOpen :=
  State.flushOpen_congr s _ (s.saves_recordPut t).part (s.saves_recordPut t).fence (by rw [s.shadowRecorded_dev]) (by rw [s.shadowRecorded_dev])
theorem shadowRecordWrite_writes (t : Nat) (r : ShadowRec) (s : State) (hs : s.Sized) (hst : s.dev.st = .drain)
    (hdue : s.dev.recordsDue.contains t = true) (hm : s.mirrorOf t < s.n) (hr : s.recordToWrite (s.mirrorOf t) t = some r)
    (hopen : s.flushOpen ≠ []) :
    ∃ u, exec (.shadowRecordWrite t) s = .next u ∧ r ∈ (u.tile (s.mirrorOf t)).ps.shadowRecs ∧
      u.dev.recordsDue = s.dev.recordsDue.filter (fun w => decide (w ≠ t)) ∧ u.dev.st = .drain ∧
      (∀ w, (u.tile w).med = (s.tile w).med ∧ (u.tile w).res = (s.tile w).res) ∧ u.out = s.out := by
  have hexec := exec_shadowRecordWrite t s hst hdue
  have hput := s.saves_recordPut t
  rw [State.settleDrain_of_open _ (by rwa [s.shadowRecorded_open])] at hexec
  refine ⟨_, hexec, ?_, by rw [s.shadowRecorded_dev], by rw [s.shadowRecorded_dev]; exact hst, fun w => ⟨hput.med w, hput.res w⟩, hput.out⟩
  have hps : (s.shadowRecorded t).tile (s.mirrorOf t) = (s.modPs (s.mirrorOf t) (fun p => p.putRecord r)).tile (s.mirrorOf t) := by
    rw [← s.recordPut_some t r hr]
    rfl
  rw [hps, State.modPs_eq, State.tile_modTile_same _ _ _ (hs.tile_listed hm)]
  exact PStore.mem_putRecord _ r

end Sys2Proof.Machine
end

section
/-! Proofs of 05_write_path.md: SAFE (R411). -/
namespace Sys2Proof.Machine
open Sys2Proof

/-! ### What is kept on the way into SAFE -/

/-- From `s` to `u` the device, its part and the number of its tiles stand. -/
structure State.SameDevice (s u : State) : Prop where
  dev : u.dev = s.dev
  part : u.part = s.part
  tiles : u.tiles.length = s.tiles.length

theorem State.SameDevice.refl (s : State) : s.SameDevice s := ⟨rfl, rfl, rfl⟩
theorem State.SameDevice.trans {s t u : State} (a : s.SameDevice t) (b : t.SameDevice u) : s.SameDevice u :=
  ⟨b.dev.trans a.dev, b.part.trans a.part, b.tiles.trans a.tiles⟩
theorem State.SameDevice.ite {s u v : State} {c : Prop} [Decidable c] (a : s.SameDevice u) (b : s.SameDevice v) :
    s.SameDevice (if c then u else v) := by
  split
  · exact a
  · exact b
theorem State.sameDevice_each {α : Type} (s : State) (l : List α) (f : State → α → State) (h : ∀ u x, State.SameDevice u (f u x)) :
    s.SameDevice (s.each l f) :=
  State.each_induct s.SameDevice s l f (State.SameDevice.refl s) (fun u x _ hu => hu.trans (h u x))
theorem State.sameDevice_modTile (s : State) (t : Nat) (f : Tile → Tile) : s.SameDevice (s.modTile t f) := ⟨rfl, rfl, State.modTile_tiles_length ..⟩
theorem State.sameDevice_loseLine (s : State) (t part lla slot source : Nat) : s.SameDevice (s.loseLine t part lla slot source) := by
  have hlost : s.SameDevice (s.poisonLine t lla source) := s.sameDevice_modTile t _
  unfold State.loseLine
  exact hlost.trans ⟨by simp, by simp, by simp⟩
theorem State.sameDevice_pevAt (s : State) (t code cls value : Nat) (qs : List (Nat × Nat)) : s.SameDevice (s.pevAt t code cls value qs) :=
  ⟨by simp, by simp, by simp⟩
theorem State.sameDevice_isoFail (s : State) (t : Nat) : s.SameDevice (s.isoFail t) := by
  have hlines (lines : List Nat) : s.SameDevice
      ((s.each lines (fun s' l => s'.loseLine t ((s.partOfSeg t (lsegOf l)).getD 0) l ((s.tile t).lineSlot l) 2)).modFence t
        (fun f => { f with isoFlush := 3, plainLost := lines.length })) :=
    (s.sameDevice_each _ _ (fun u l => u.sameDevice_loseLine t _ l _ 2)).trans (State.sameDevice_modTile _ t _)
  unfold State.isoFail
  exact (hlines _).trans (State.sameDevice_pevAt _ _ _ _ _ _)
theorem State.sameDevice_keepCause (s : State) : s.SameDevice s.keepCause := s.sameDevice_each _ _ (fun u t => u.sameDevice_modTile t _)
theorem State.sameDevice_thermtrip (s : State) (die : Nat) : s.SameDevice (s.thermtrip die) := by
  unfold State.thermtrip
  split
  · exact .refl s
  · exact ⟨by simp, by simp, by simp⟩

/-! ### SAFE (R411) -/

/-- The state in which the flushes of fenced tiles that go on have failed, and the outcome of the DRAIN and its cause are kept. -/
def State.drainKept (s : State) : State :=
  let done := if 7 ≤ s.dev.bringup then s.dev.flushDone else []
  let s0 := s.each s.tileNumbers (fun s' t => if (s'.tile t).fence.isoFlush = 1 then s'.isoFail t else s')
  ((s0.setCell Ob.FLUSH_LAST_RESULT (bitsOfTiles done + 2 ^ 8 * bitsOfTiles s.dev.flushStop)).setCell Ob.FLUSH_LAST_TIME_US
    (((s.pkgNow - s.dev.drainAt) / 1000) % 2 ^ 32)).keepCause
/-- The state in which the device has taken SAFE, before its main domain and rails go off. -/
def State.safeTaken (s : State) : State :=
  if s.dev.drainCause = 8 then (s.drainKept.goto .safe 13).thermtrip 0xFF else s.drainKept.goto .safe 13
/-- The state in which the main domain is off as well. -/
def State.safeCut (s : State) : State := if s.safeTaken.dev.mainUp then s.safeTaken.cutMain else s.safeTaken

theorem State.sameDevice_drainKept (s : State) : s.SameDevice s.drainKept := by
  have hfail := s.sameDevice_each s.tileNumbers (fun s' t => if (s'.tile t).fence.isoFlush = 1 then s'.isoFail t else s')
    (fun u t => .ite (u.sameDevice_isoFail t) (.refl u))
  have hcells : s.SameDevice (((s.each s.tileNumbers (fun s' t => if (s'.tile t).fence.isoFlush = 1 then s'.isoFail t else s')).setCell
      Ob.FLUSH_LAST_RESULT (bitsOfTiles (if 7 ≤ s.dev.bringup then s.dev.flushDone else []) + 2 ^ 8 * bitsOfTiles s.dev.flushStop)).setCell
      Ob.FLUSH_LAST_TIME_US (((s.pkgNow - s.dev.drainAt) / 1000) % 2 ^ 32)) := ⟨hfail.dev, hfail.part, hfail.tiles⟩
  exact hcells.trans (State.sameDevice_keepCause _)
theorem State.sameDevice_safeTaken (s : State) : (s.drainKept.goto .safe 13).SameDevice s.safeTaken :=
  .ite (State.sameDevice_thermtrip _ _) (.refl _)
theorem State.safeTaken_dev (s : State) : s.safeTaken.dev = { s.dev with st := .safe } := by
  rw [s.sameDevice_safeTaken.dev, goto_dev, s.sameDevice_drainKept.dev]
theorem State.safeTaken_tiles (s : State) : s.safeTaken.tiles.length = s.tiles.length := by
  rw [s.sameDevice_safeTaken.tiles, State.goto_tiles, s.sameDevice_drainKept.tiles]
theorem State.safeCut_dev (s : State) : s.safeCut.dev = { s.dev with st := .safe, mainUp := false } := by
  have hdev := s.safeTaken_dev
  unfold State.safeCut
  split
  · show ({ s.safeTaken.dev with mainUp := false } : Device) = _
    rw [hdev]
  case isFalse hoff =>
    rw [hdev] at hoff ⊢
    simp only [Bool.not_eq_true] at hoff
    simp only [hoff]
theorem State.safeCut_tiles (s : State) : s.safeCut.tiles.length = s.tiles.length := by
  unfold State.safeCut
  split
  · exact s.safeTaken_tiles
  · exact s.safeTaken_tiles
theorem State.enterSafe_dev (s : State) : s.enterSafe.dev = { s.dev with st := .safe, mainUp := false, bringup := 0, upReq := false } := by
  show ({ s.safeCut.dev with bringup := 0, upReq := false } : Device) = _
  rw [s.safeCut_dev]
theorem State.enterSafe_seqOut (s : State) : s.enterSafe.sup.seqOut = false := rfl
theorem State.railsOff_railsUp (s : State) (w : Nat) (h : w < s.tiles.length) : (s.railsOff.tile w).sup.railsUp = false := by
  simp [State.railsOff, State.tile, List.getD, List.getElem?_map, List.getElem?_eq_getElem h]
theorem State.enterSafe_railsUp (s : State) (w : Nat) (h : w < s.tiles.length) : (s.enterSafe.tile w).sup.railsUp = false :=
  s.safeCut.resetPorts.railsOff_railsUp w (by rw [← s.safeCut_tiles] at h; exact h)
theorem State.recordPut_sup (s : State) (t : Nat) : (s.recordPut t).sup = s.sup := by
  unfold State.recordPut
  split
  · rfl
  · rfl
theorem shadowRecordWrite_ends (t : Nat) (s : State) (hs : s.Sized) (hst : s.dev.st = .drain) (hdue : s.dev.recordsDue = [t])
    (hopen : s.flushOpen = []) (hvaux : s.sup.vauxGone = false) :
    ∃ u, exec (.shadowRecordWrite t) s = .next u ∧ u.dev.st = .safe ∧ u.dev.mainUp = false ∧ u.sup.seqOut = false ∧
      u.dev.drainCause = s.dev.drainCause ∧ ∀ w, w < s.n → (u.tile w).sup.railsUp = false := by
  have hdev := s.shadowRecorded_dev t
  have hnone : (s.shadowRecorded t).dev.recordsDue = [] := by simp [hdev, hdue]
  have hsup : (s.shadowRecorded t).sup.vauxGone = false := (congrArg Supply.vauxGone (s.recordPut_sup t)).trans hvaux
  have hsettle : (s.shadowRecorded t).settleDrain = (s.shadowRecorded t).enterSafe := by
    unfold State.settleDrain
    rw [if_pos ⟨by rw [hdev]; exact hst, by rw [s.shadowRecorded_open, hopen]; rfl, by rw [hnone]; rfl⟩, hsup]
    rfl
  have hexec := exec_shadowRecordWrite t s hst (by simp [hdue])
  rw [hsettle] at hexec
  have hsafe := (s.shadowRecorded t).enterSafe_dev
  refine ⟨_, hexec, by rw [hsafe], by rw [hsafe], State.enterSafe_seqOut _, by rw [hsafe, hdev], fun w hw => ?_⟩
  refine State.enterSafe_railsUp _ w ?_
  have htiles : (s.shadowRecorded t).tiles.length = s.tiles.length := (s.saves_recordPut t).tiles
  rw [htiles]
  exact hs.tile_listed hw

end Sys2Proof.Machine
end

section
/-! Proofs of 05_write_path.md: the restart from SAFE (R413, R484). -/
namespace Sys2Proof.Machine
open Sys2Proof

/-! ### The start of a power-up (R396) -/

/-- From `s` to `u` the device has begun the power-up sequence at P0: the medium and the keys stand, nothing is handed over. -/
structure State.Begins (s u : State) : Prop where
  st : u.dev.st = .seq
  step : u.sup.step = some 0
  attempts : u.sup.attempts = 1
  keys : u.keys = s.keys
  tiles : u.tiles = s.tiles
  out : u.out = s.out

theorem State.powerUpRoles_only (s : State) : ∃ m o, s.powerUpRoles = { s with mgmt := m, obj := o } := by
  unfold State.powerUpRoles
  split
  · exact ⟨s.mgmt, s.obj, rfl⟩
  · exact ⟨_, _, rfl⟩
theorem State.begins_beginSeq (s : State) (row : Nat) : s.Begins (s.beginSeq row) := by
  unfold State.beginSeq
  obtain ⟨m, o, hroles⟩ := State.powerUpRoles_only (({ s.freshCells.goto .seq row with
    sup := { (s.freshCells.goto .seq row).sup with
      step := some 0, retryAt := none, attempts := 1, t0 := s.pkgNow, onHold := false, measured := false, capLow := false, esrHigh := false,
      cap := 0, esr := 0, convFault := false, avsLost := false, vddcCmd := 0, vddcFrom := 0, scanTiles := [] },
    dev := { (s.freshCells.goto .seq row).dev with upReq := false, bringup := 0, inputReturned := false },
    fw := (s.freshCells.goto .seq row).fw.dropTransfer } : State).setCell Ob.SEQ_ATTEMPTS_LAST 1)
  simp only [hroles]
  exact ⟨by simp, rfl, rfl, by simp [State.freshCells], by simp [State.freshCells], by simp [State.freshCells]⟩
theorem safeRestart_begins (cycled : Bool) (s : State) (hst : s.dev.st = .safe) (hready : s.inputsReady = true) (htherm : s.dev.drainCause ≠ 8)
    (hcause : s.dev.drainCause ≠ 2 ∨ cycled = true) :
    ∃ u, exec (.safeRestart cycled) s = .next u ∧ u.dev.st = .seq ∧ u.sup.step = some 0 ∧ u.sup.attempts = 1 ∧ u.keys = s.keys ∧
      u.tiles = s.tiles := by
  have hgo : s.dev.drainCause ≠ 2 ∨ s.dev.upReq = true ∨ cycled = true := hcause.imp_right Or.inr
  have hexec : exec (.safeRestart cycled) s =
      .next (({ s with sup := { s.sup with seqIn := true, pwrfailN := true, resetN := true } } : State).beginSeq 14) :=
    congrArg Host.Outcome.next ((if_pos hst).trans (if_pos ⟨hready, htherm, hgo⟩))
  have h := State.begins_beginSeq { s with sup := { s.sup with seqIn := true, pwrfailN := true, resetN := true } } 14
  exact ⟨_, hexec, h.st, h.step, h.attempts, h.keys, h.tiles⟩

/-! ### POWER_UP (R484) -/

/-- Where the object POWER_UP lies. -/
def powerUpPlace : ObPlace := { row := obRow Ob.POWER_UP 0 .one 4 .cmd (.between 1 1), i := 0, off := 0 }
theorem powerUpPlace_listed : powerUpPlace.row ∈ obRows := by decide
theorem State.findOb_powerUp (s : State) : s.findOb (Ob.POWER_UP / 256) (Ob.POWER_UP % 256) = some powerUpPlace :=
  s.findOb_of_row powerUpPlace.row 0 0 powerUpPlace_listed (by decide) (by decide) rfl (Or.inl (by decide))
theorem State.command_powerUp (s : State) (q : Requester) (v : Nat) : s.command q powerUpPlace v = .now (s.powerUp v) := rfl
theorem State.writeFault_powerUp (s : State) (q : Requester) : s.writeFault q (Ob.POWER_UP / 256) powerUpPlace (bytesLE 4 1) 1 = none := by
  have haccess : ¬ (powerUpPlace.access = .ro ∨ s.pathFor q powerUpPlace = false) := fun h => h.elim (by decide) (fun hp => nomatch hp)
  have hrights : (!s.rightsFor q powerUpPlace) = false := rfl
  have hrange : (!s.inRange powerUpPlace 1) = false := rfl
  have hlocked : s.locked powerUpPlace = false := rfl
  have hrec : s.recorderGone powerUpPlace = false := rfl
  have hsize : ¬ (bytesLE 4 1).length ≠ powerUpPlace.row.size := by decide
  have hindex : ¬ (0x3000 ≤ Ob.POWER_UP / 256 ∧ s.shutting = true) := fun h => absurd h.1 (by decide)
  unfold State.writeFault
  simp only [if_neg haccess, hrights, if_neg hsize, hrange, hlocked, if_neg hindex, hrec, Bool.false_eq_true, if_false]
theorem State.runOp_powerUp (s : State) (q : Requester) :
    s.runOp q { op := 2, sub := Ob.POWER_UP % 256, index := Ob.POWER_UP / 256, value := bytesLE 4 1 } = .now (s.powerUp 1) := by
  have hmask : s.writeMask powerUpPlace (ofBytesLE (bytesLE 4 1)) = 1 := rfl
  have hwrite : s.writeOp q (Ob.POWER_UP / 256) powerUpPlace (bytesLE 4 1) = .now (s.powerUp 1) := by
    rw [s.writeOp_command q _ powerUpPlace _ (by rw [hmask]; exact s.writeFault_powerUp q) rfl (Or.inl rfl), hmask, s.command_powerUp]
  rw [← hwrite]
  unfold State.runOp
  rw [if_neg (fun h => absurd h.1 (by decide)), s.findOb_powerUp]
  rfl
/-- The state after POWER_UP in SAFE: the power-up begins, or waits for its conditions (R413, R484). -/
def State.poweredUp (s : State) : State :=
  let s1 : State := { s with dev := { s.dev with upReq := true } }
  if s.inputsReady ∧ s.sup.seqIn ∧ s.sup.pwrfailN ∧ s.sup.resetN then s1.beginSeq 14 else s1
theorem State.powerUp_safe (s : State) (hst : s.dev.st = .safe) (hcause : s.dev.drainCause = 2) : s.powerUp 1 = s.poweredUp.ok := by
  unfold State.powerUp
  rw [if_neg (by decide), if_neg (fun h => h.elim (absurd hst) (absurd hcause))]
  rfl
theorem powerUp_answers (q : Requester) (s : State) (ht : s.Takes q) (hst : s.dev.st = .safe) (hcause : s.dev.drainCause = 2) :
    ∃ u, exec (.powerUp q 1) s = .next u ∧ s.Replies u q Ob.POWER_UP 0 0 [] ∧ u.tiles = s.tiles ∧ u.keys = s.keys ∧
      (if s.inputsReady = true ∧ s.sup.seqIn = true ∧ s.sup.pwrfailN = true ∧ s.sup.resetN = true then u.dev.st = .seq ∧ u.sup.step = some 0
        else u.dev.st = .safe ∧ u.dev.upReq = true) := by
  have hexec : exec (.powerUp q 1) s = .next (s.oneOp q 2 (Ob.POWER_UP / 256) (Ob.POWER_UP % 256) (bytesLE 4 1)) := rfl
  rw [s.oneOp_now q 2 _ _ _ _ ht (s.runOp_powerUp q), s.powerUp_safe hst hcause, finishOp_ok _ _ _ rfl] at hexec
  have hframe : s.poweredUp.out = s.out ∧ s.poweredUp.tiles = s.tiles ∧ s.poweredUp.keys = s.keys := by
    unfold State.poweredUp
    split
    · have h := State.begins_beginSeq { s with dev := { s.dev with upReq := true } } 14
      exact ⟨h.out, h.tiles, h.keys⟩
    · exact ⟨rfl, rfl, rfl⟩
  obtain ⟨hout, htiles, hkeys⟩ := hframe
  refine ⟨_, hexec, ?_, (State.answer_tiles _ _ _ _ _).trans htiles, (State.answer_keys _ _ _ _ _).trans hkeys, ?_⟩
  · unfold State.Replies
    rw [← hout]
    refine (State.answer_one s.poweredUp q Ob.POWER_UP 0 0 []).trans ?_
    simp only [oneRecord, State.answer_dev]
    rfl
  · rw [State.answer_dev, State.answer_sup]
    split
    case isTrue hnow =>
      have hbegin : s.poweredUp = ({ s with dev := { s.dev with upReq := true } } : State).beginSeq 14 := if_pos hnow
      have h := State.begins_beginSeq { s with dev := { s.dev with upReq := true } } 14
      show s.poweredUp.dev.st = DevState.seq ∧ s.poweredUp.sup.step = some 0
      rw [hbegin]
      exact ⟨h.st, h.step⟩
    case isFalse hlater =>
      have hwait : s.poweredUp = { s with dev := { s.dev with upReq := true } } := if_neg hlater
      show s.poweredUp.dev.st = DevState.safe ∧ s.poweredUp.dev.upReq = true
      rw [hwait]
      exact ⟨hst, rfl⟩

/-! ### O56 -/

/-- Settles O56: a clause for each way in which a DRAIN goes on or ends. -/
theorem drainEnds : Obligations.DrainEnds := by
  unfold Obligations.DrainEnds
  refine ⟨fun t v s hs hst hrec ht hv hvt hfl hdel => ?_, fun t v s hs hst ht hv hvt => ?_, shadowRecordWrite_writes, shadowRecordWrite_ends,
    safeRestart_begins, powerUp_answers⟩
  · exact drainFlushDone_done t v s hs hst hrec (by simpa using ht) (by simpa using hv) hvt hfl hdel
  · exact tileFlushSilence_stops t v s hs hst (by simpa using ht) (by simpa using hv) hvt

end Sys2Proof.Machine
end

section
/-! Proofs of 06_ordering.md: barrier descriptors come into force and complete (R170, R171, R327). -/
namespace Sys2Proof.Machine
open Sys2Proof

/-! ### A barrier comes into force (R170) -/

/-- A barrier of the right kind that has not ended is put in force, in an ACTIVE tile. -/
theorem State.armBarrier_arms (s : State) (t q i op : Nat) (d : Desc) (hd : (s.queue t q).desc i = some d) (hop : d.op = op)
    (hended : d.ended = false) (ht : s.tileActive t = true) :
    s.armBarrier t q i op = s.modQueue t q (fun x => x.setDesc i (fun d => { d with armed := true })) := by
  unfold State.armBarrier
  rw [hd]
  exact if_pos ⟨hop, hended, ht⟩
theorem barriers_arm (t q i : Nat) (s : State) (d : Desc) (hd : (s.queue t q).desc i = some d) (hended : d.ended = false)
    (ht : s.tileActive t = true) :
    let armed : State := s.modQueue t q (fun x => x.setDesc i (fun d => { d with armed := true }))
    (d.op = 0x10 → exec (.barLd t q i) s = .next armed) ∧ (d.op = 0x11 → exec (.barSt t q i) s = .next armed) ∧
    (d.op = 0x12 → exec (.barAll t q i) s = .next armed) :=
  have arms (op : Nat) (hop : d.op = op) := congrArg Host.Outcome.next (s.armBarrier_arms t q i op d hd hop hended ht)
  ⟨arms 0x10, arms 0x11, arms 0x12⟩

/-! ### The quiet end of a descriptor (R171, R327) -/

/-- A descriptor that ends with status 0 and a suppressed record leaves its queue and is counted there; nothing else follows. -/
theorem State.endDesc_quiet (s : State) (t q : Nat) (d : Desc) (hok : d.verdict.1 = 0) (hquiet : (d.w 0).testBit 49 = true) :
    s.endDesc t q d = (s.tcount t Cn.SQ_DESCS_DONE 1).modQueue t q (fun x => { x with
      descsDone := (x.descsDone + 1) % 2 ^ 32, descs := x.descs.filter (fun e => decide (e.index ≠ d.index)) }) := by
  unfold State.endDesc
  simp [hok, hquiet, statusError]

/-! ### BARRIER_COMPLETE (R171) -/

/-- BARRIER_COMPLETE when the earlier descriptors of the queue have ended and none of them failed. -/
theorem exec_barrierComplete_ok (t q : Nat) (s : State) (d : Desc)
    (hd : (s.queue t q).descs.find? (fun d => d.barrier && d.armed && !d.ended) = some d)
    (hearlier : ∀ e ∈ (s.queue t q).descs, e.index < d.index → e.ended = true) (hfailed : (s.queue t q).failed = none) :
    exec (.barrierComplete t q) s = .next ((s.tcount t Cn.BARRIERS_DONE 1).endDesc t q { d with outcome := some (0, 0) }) := by
  have hnone : ¬ (s.queue t q).descs.any (fun e => decide (e.index < d.index) && !e.ended) = true := by
    simpa using hearlier
  show execBarrierComplete t q s = _
  unfold execBarrierComplete
  simp only [hd, if_neg hnone, hfailed]
theorem barrierComplete_completes (t q : Nat) (s : State) (d : Desc)
    (hd : (s.queue t q).descs.find? (fun d => d.barrier && d.armed && !d.ended) = some d)
    (hearlier : ∀ e ∈ (s.queue t q).descs, e.index < d.index → e.ended = true) (hfailed : (s.queue t q).failed = none)
    (hquiet : (d.w 0).testBit 49 = true) :
    ∃ u, exec (.barrierComplete t q) s = .next u ∧ (u.queue t q).descs = (s.queue t q).descs.filter (fun e => decide (e.index ≠ d.index)) ∧
      (u.queue t q).descsDone = ((s.queue t q).descsDone + 1) % 2 ^ 32 ∧ (u.queue t q).failed = none ∧ u.tiles = s.tiles ∧ u.out = s.out := by
  refine ⟨_, exec_barrierComplete_ok t q s d hd hearlier hfailed, ?_⟩
  rw [State.endDesc_quiet _ t q { d with outcome := some (0, 0) } rfl hquiet]
  simp [hfailed]

/-! ### O38 -/

/-- Settles O38: a clause for the three barriers as they come into force, a clause for the completion. -/
theorem barriers : Obligations.Barriers := by
  unfold Obligations.Barriers
  exact ⟨barriers_arm, barrierComplete_completes⟩

end Sys2Proof.Machine
end

section
/-! Proofs of 07_translation.md: segments, map entries and headers as they read after a write (R182, R188), and the updates that write them. -/

namespace Sys2Proof.Sparse
/-- A written value is read back when it is listed, or when the store is canonical. -/
theorem getD_put_written {α : Type} [DecidableEq α] (m : Sparse α) (d : α) (k : Nat) (v : α) (h : v ≠ d ∨ wf m = true) :
    getD (put m d k v) k d = v := by
  rcases h with hne | hwf
  · rw [put, if_neg hne, getD_insert_same]
  · exact getD_put_same m d k v hwf
end Sys2Proof.Sparse

namespace Sys2Proof.Machine
open Sys2Proof

/-! ### Map entries and segments (R181, R182) -/

theorem TileMap.entry_setEntry_same (m : TileMap) (l : Nat) (e : MapEntry) (h : e ≠ MapEntry.fresh) : (m.setEntry l e).entry l = e :=
  Sparse.getD_put_written _ _ _ _ (.inl h)
theorem TileMap.entry_setEntry_ne (m : TileMap) (l k : Nat) (e : MapEntry) (h : l ≠ k) : (m.setEntry l e).entry k = m.entry k :=
  Sparse.getD_put_ne _ _ _ _ _ h
theorem TileMap.seg_setSeg_of_wf (m : TileMap) (p : Nat) (x : Seg) (h : m.segs.wf = true) : (m.setSeg p x).seg p = x :=
  Sparse.getD_put_same _ _ _ _ h
theorem TileMap.seg_setSeg_ne (m : TileMap) (p q : Nat) (x : Seg) (h : p ≠ q) : (m.setSeg p x).seg q = m.seg q :=
  Sparse.getD_put_ne _ _ _ _ _ h
theorem Seg.ne_shipped_of_cond {x : Seg} (h : x.cond ≠ .free) : x ≠ Seg.shipped := fun hx => h (congrArg Seg.cond hx)
theorem Seg.ne_shipped_of_blanked {x : Seg} (h : x.blanked = false) : x ≠ Seg.shipped :=
  fun hx => absurd (congrArg Seg.blanked hx) (by simp [h, Seg.shipped])
theorem Seg.ne_shipped_of_moves {x : Seg} (h : 0 < x.moves) : x ≠ Seg.shipped := fun hx => h.ne' (congrArg Seg.moves hx)
theorem MapEntry.ne_fresh_of_st {e : MapEntry} (h : e.st ≠ .fresh) : e ≠ MapEntry.fresh := fun he => h (congrArg MapEntry.st he)
theorem Header.ne_shipped_of_state {h : Header} (hs : h.state ≠ 2) : h ≠ Header.shipped := fun hh => hs (congrArg Header.state hh)

/-! ### Headers (R188, R189) -/

/-- A medium with header `h` in both copies of segment `p`. -/
def TileMed.headed (m : TileMed) (p : Nat) (h : Header) : TileMed :=
  { m with hdr := (m.hdr.put Header.shipped (2 * p) h).put Header.shipped (2 * p + 1) h }
/-- A segment map with the age that header `h` gives segment `p` (R222). -/
def TileMap.aged (m : TileMap) (p : Nat) (h : Header) : TileMap := m.setSeg p { m.seg p with age := h.lastRefresh / 256 % 65536 }
/-- A tile in which header `h` of segment `p` has been written. -/
def Tile.headed (x : Tile) (p : Nat) (h : Header) : Tile := { x with med := x.med.headed p h, map := x.map.aged p h }

theorem TileMed.header_headed_same (m : TileMed) (p c : Nat) (h : Header) (hc : c < 2) (hw : h ≠ Header.shipped ∨ m.hdr.wf = true) :
    (m.headed p h).header p c = h := by
  unfold TileMed.headed TileMed.header
  obtain rfl | rfl : c = 0 ∨ c = 1 := by omega
  · rw [Sparse.getD_put_ne _ _ _ _ _ (by omega)]
    exact Sparse.getD_put_written _ _ _ _ hw
  · exact Sparse.getD_put_written _ _ _ _ (hw.imp_right (Sparse.wf_put _ _ _ _))
theorem TileMed.header_headed_ne (m : TileMed) (p q c : Nat) (h : Header) (hc : c < 2) (hq : p ≠ q) :
    (m.headed p h).header q c = m.header q c := by
  unfold TileMed.headed TileMed.header
  rw [Sparse.getD_put_ne _ _ _ _ _ (by omega), Sparse.getD_put_ne _ _ _ _ _ (by omega)]
theorem TileMap.aged_seg_ne (m : TileMap) (p q : Nat) (h : Header) (hq : p ≠ q) : (m.aged p h).seg q = m.seg q := m.seg_setSeg_ne p q _ hq
theorem TileMap.aged_moves (m : TileMap) (p : Nat) (h : Header) (hm : 0 < (m.seg p).moves) : ((m.aged p h).seg p).moves = (m.seg p).moves := by
  rw [TileMap.aged, TileMap.seg_setSeg_same _ _ _ (Seg.ne_shipped_of_moves (by exact hm))]

theorem State.modMap_tile_same (s : State) (t : Nat) (f : TileMap → TileMap) (ht : t < s.tiles.length) :
    (s.modMap t f).tile t = { s.tile t with map := f (s.tile t).map } := State.tile_modTile_same _ _ _ ht
theorem State.modMed_tile_same (s : State) (t : Nat) (f : TileMed → TileMed) (ht : t < s.tiles.length) :
    (s.modMed t f).tile t = { s.tile t with med := f (s.tile t).med } := State.tile_modTile_same _ _ _ ht
theorem State.modPs_tile_same (s : State) (t : Nat) (f : PStore → PStore) (ht : t < s.tiles.length) :
    (s.modPs t f).tile t = { s.tile t with ps := f (s.tile t).ps } := State.tile_modTile_same _ _ _ ht

@[simp] theorem State.allNibs_tile (s : State) (t cls k v : Nat) : (s.allNibs t cls k).tile v = s.tile v := by
  obtain ⟨owed, h⟩ := s.allNibs_only t cls k
  rw [h]
  rfl
@[simp] theorem State.allNibs_tiles (s : State) (t cls k : Nat) : (s.allNibs t cls k).tiles = s.tiles := by
  obtain ⟨owed, h⟩ := s.allNibs_only t cls k
  rw [h]
@[simp] theorem State.writeHeader_tiles_length (s : State) (t p : Nat) (h : Header) : (s.writeHeader t p h).tiles.length = s.tiles.length :=
  (s.within_writeHeader t p h).tiles
theorem State.writeHeader_tile (s : State) (t p : Nat) (h : Header) (ht : t < s.tiles.length) :
    (s.writeHeader t p h).tile t = (s.tile t).headed p h := by
  have hlen : t < (s.headerTransfers t p 8).tiles.length := ht
  rw [State.writeHeader, State.modMap_tile_same _ _ _ (by simpa using hlen), State.modMed_tile_same _ _ _ hlen]
  rfl

/-! ### Sequence numbers (R190) -/

/-- The state with a block of sequence numbers opened up to its ceiling, when the last one is used up. -/
def State.seqBlock (s : State) (t seq ceil : Nat) : State :=
  if seq ≤ (s.tile t).map.seqCeil then s else (s.modMap t (fun m => { m with seqCeil := ceil })).modPs t (fun p => p.saveRing 1 ceil)
theorem State.freshSeq_eq (s : State) (t : Nat) : ∃ seq ceil,
    s.freshSeq t = ((s.seqBlock t seq ceil).modMap t (fun m => { m with seqCtr := seq }), seq) := ⟨_, _, rfl⟩
theorem State.seqBlock_tile (s : State) (t seq top : Nat) (ht : t < s.tiles.length) : ∃ ceil ps, (s.seqBlock t seq top).tile t =
    { s.tile t with map := { (s.tile t).map with seqCeil := ceil }, ps := ps } := by
  unfold State.seqBlock
  split
  · exact ⟨(s.tile t).map.seqCeil, (s.tile t).ps, rfl⟩
  · rw [State.modPs_tile_same _ _ _ (by simpa using ht), State.modMap_tile_same _ _ _ ht]
    exact ⟨_, _, rfl⟩
@[simp] theorem State.seqBlock_tiles_length (s : State) (t seq ceil : Nat) : (s.seqBlock t seq ceil).tiles.length = s.tiles.length := by
  unfold State.seqBlock
  split <;> simp
@[simp] theorem State.freshSeq_tiles_length (s : State) (t : Nat) : (s.freshSeq t).1.tiles.length = s.tiles.length := by
  obtain ⟨seq, ceil, h⟩ := s.freshSeq_eq t
  simp [h]
/-- A fresh SEQ moves the counter and its ceiling, and saves the ceiling. -/
theorem State.freshSeq_tile (s : State) (t : Nat) (ht : t < s.tiles.length) : ∃ ceil ps, (s.freshSeq t).1.tile t =
    { s.tile t with map := { (s.tile t).map with seqCtr := (s.freshSeq t).2, seqCeil := ceil }, ps := ps } := by
  obtain ⟨seq, top, h⟩ := s.freshSeq_eq t
  obtain ⟨ceil, ps, hblock⟩ := s.seqBlock_tile t seq top ht
  rw [h, State.modMap_tile_same _ _ _ (by simpa using ht), hblock]
  exact ⟨ceil, ps, rfl⟩

end Sys2Proof.Machine
end

section
/-! Proofs of 07_translation.md: the binding of a FRESH logical segment (R183, R189, R197). -/
namespace Sys2Proof.Machine
open Sys2Proof

/-- The header of segment `q` as logical segment `lseg` of partition `p` is bound to it (R189). -/
def State.bindHeader (s : State) (t p lseg q : Nat) : Header :=
  { seq := (s.freshSeq t).2, state := 1, blanked := false, retired := false, partition := p, lseg := lseg,
    moves := ((s.tile t).map.seg q).moves, lastRefresh := (s.tile t).lastRefresh q }
/-- The map entry of a logical segment as it is bound to segment `q`. -/
def State.bindEntry (s : State) (t q : Nat) : MapEntry := { st := .bound, pseg := q, writes := 0, omega := (s.freshSeq t).2 % 8 }
/-- Segment `q` as logical segment `lseg` is bound to it. -/
def State.bindSeg (s : State) (t lseg : Nat) (g : Seg) : Seg :=
  { g with cond := .bound, blanked := false, omega := (s.freshSeq t).2 % 8, lseg := lseg }

/-- The segment map once logical segment `lseg` is bound to segment `q`. -/
def State.bindMap (s : State) (t lseg q : Nat) (m : TileMap) : TileMap :=
  (m.setSeg q (s.bindSeg t lseg (m.seg q))).setEntry lseg (s.bindEntry t q)
/-- The binding to a blanked segment: SEQ, headers, bound bit and its page, map entry. -/
theorem State.bind_of_blanked (s : State) (t p lseg q : Nat) (hq : (s.tile t).map.pickFree true = some q) : ∃ bits page,
    s.bind t p lseg = (((((s.freshSeq t).1.writeHeader t q (s.bindHeader t p lseg q)).modPs t bits).pageCommit t page).modMap t
      (s.bindMap t lseg q)).tcount t Cn.BINDINGS 1 := by
  unfold State.bind
  extract_lets pick go
  have hpick : pick s true = some q := hq
  simp only [hpick]
  exact ⟨_, _, rfl⟩
theorem State.pageCommit_tile (s : State) (t page : Nat) (ht : t < s.tiles.length) :
    ∃ ps, (s.pageCommit t page).tile t = { s.tile t with ps := ps } := by
  rw [State.pageCommit, State.count_tile, State.modPs_tile_same _ _ _ ht]
  exact ⟨_, rfl⟩
/-- What a binding to a blanked segment leaves of its tile. -/
theorem State.bind_tile (s : State) (t p lseg q : Nat) (ht : t < s.tiles.length) (hq : (s.tile t).map.pickFree true = some q) :
    ∃ m : TileMap, m.map = (s.tile t).map.map ∧ ((s.bind t p lseg).tile t).map = s.bindMap t lseg q (m.aged q (s.bindHeader t p lseg q)) ∧
      ((s.bind t p lseg).tile t).med = (s.tile t).med.headed q (s.bindHeader t p lseg q) ∧ ((s.bind t p lseg).tile t).res = (s.tile t).res := by
  obtain ⟨ceil, ps, hfresh⟩ := s.freshSeq_tile t ht
  obtain ⟨bits, page, hbind⟩ := s.bind_of_blanked t p lseg q hq
  have hlen : t < (((s.freshSeq t).1.writeHeader t q (s.bindHeader t p lseg q)).modPs t bits).tiles.length := by simpa using ht
  obtain ⟨ps', hpage⟩ := State.pageCommit_tile _ t page hlen
  rw [hbind, State.tcount_tile, State.modMap_tile_same _ _ _ (by simpa [State.pageCommit] using ht), hpage,
    State.modPs_tile_same _ _ _ (by simpa using ht), State.writeHeader_tile _ _ _ _ (by simpa using ht), hfresh]
  exact ⟨{ (s.tile t).map with seqCtr := (s.freshSeq t).2, seqCeil := ceil }, rfl, rfl, rfl, rfl⟩

theorem exec_binding (t lseg p : Nat) (s : State) (ht : t < s.n) (hst : ((s.tile t).map.entry lseg).st = .fresh)
    (hdirty : (s.tile t).res.entries.any (fun e => decide (e.owner = t ∧ e.st = .dirty ∧ lsegOf e.addr = lseg)) = true)
    (hp : s.partOfSeg t lseg = some p) : exec (.binding t lseg) s = .next (s.bind t p lseg) := by
  show execBinding t lseg s = _
  rw [execBinding, if_pos ⟨ht, hst, hdirty⟩, hp]

/-- Settles O17: the tile that a binding leaves, read by the laws of headers, segments and map entries. -/
theorem bindingTakesAFreeSegment : Obligations.BindingTakesAFreeSegment := by
  unfold Obligations.BindingTakesAFreeSegment
  intro t lseg p q s ht hs hst hdirty hp hq
  obtain ⟨m, hm, hmap, hmed, hres⟩ := s.bind_tile t p lseg q (hs.tile_listed ht) hq
  have hentry : s.bindEntry t q ≠ MapEntry.fresh := MapEntry.ne_fresh_of_st (by simp [State.bindEntry])
  have hheader : s.bindHeader t p lseg q ≠ Header.shipped := Header.ne_shipped_of_state (by simp [State.bindHeader])
  have hseg (g : Seg) : s.bindSeg t lseg g ≠ Seg.shipped := Seg.ne_shipped_of_blanked rfl
  refine ⟨_, exec_binding t lseg p s ht hst hdirty hp, ?_⟩
  rw [hmap, hmed, hres, TileMed.header_headed_same _ q 0 _ (by decide) (.inl hheader), TileMed.header_headed_same _ q 1 _ (by decide) (.inl hheader)]
  refine ⟨?_, ?_, ?_, rfl, rfl, rfl, fun l hl => ?_, rfl, rfl⟩
  · exact congrArg MapEntry.st (TileMap.entry_setEntry_same _ _ _ hentry)
  · exact congrArg MapEntry.pseg (TileMap.entry_setEntry_same _ _ _ hentry)
  · exact congrArg Seg.cond (TileMap.seg_setSeg_same _ _ _ (hseg _))
  · exact (TileMap.entry_setEntry_ne _ _ _ _ (Ne.symm hl)).trans (congrArg (fun l' => Sparse.getD l' l MapEntry.fresh) hm)

end Sys2Proof.Machine
end

section
/-! Proofs of 07_translation.md: blanking and the wear threshold (R195, R198, R221). -/
namespace Sys2Proof.Machine
open Sys2Proof

/-! ### Blanking (R195) -/

/-- The header of segment `p` once it is blanked (R195, R221). -/
def Tile.blankHeader (x : Tile) (p : Nat) : Header :=
  { x.med.header p 0 with state := 2, blanked := true, lseg := 0xFFFFFF, moves := (x.map.seg p).moves, lastRefresh := x.pat.drift }
/-- Segment `p` once it is blanked. -/
def TileMap.blankSeg (m : TileMap) (p : Nat) : Seg := { m.seg p with blanked := true, blankMoves := (m.seg p).moves }
/-- A tile whose segment `p` has been blanked. -/
def Tile.blankedSeg (x : Tile) (p : Nat) : Tile :=
  Tile.headed { x with med := { x.med with slots := x.med.slots.filter (fun e => decide (x.med.segOf e.1 ≠ some p)) },
                       map := x.map.setSeg p (x.map.blankSeg p) } p (x.blankHeader p)
theorem State.blank_tile (s : State) (t p : Nat) (ht : t < s.tiles.length) : (s.blank t p).tile t = (s.tile t).blankedSeg p := by
  rw [State.blank, State.tcount_tile, State.writeHeader_tile _ _ _ _ (by simpa using ht), State.modMap_tile_same _ _ _ (by simpa using ht),
    State.modMed_tile_same _ _ _ (by simpa using ht), State.allNibs_tile]
  rfl
theorem Tile.blankedSeg_seg (x : Tile) (p : Nat) (hw : x.map.segs.wf = true) : ((x.blankedSeg p).map.seg p).blanked = true := by
  have hseg : (x.map.setSeg p (x.map.blankSeg p)).seg p = x.map.blankSeg p := TileMap.seg_setSeg_of_wf _ _ _ hw
  have hwf : (x.map.setSeg p (x.map.blankSeg p)).segs.wf = true := Sparse.wf_put _ _ _ _ hw
  refine (congrArg Seg.blanked (TileMap.seg_setSeg_of_wf _ _ _ hwf)).trans ?_
  exact congrArg Seg.blanked hseg
theorem Tile.blankedSeg_header (x : Tile) (p c : Nat) (hc : c < 2) (hw : x.med.hdr.wf = true) :
    (x.blankedSeg p).med.header p c = x.blankHeader p := TileMed.header_headed_same _ _ _ _ hc (.inr hw)
theorem Tile.mem_blankedSeg_slots (x : Tile) (p : Nat) (e : Nat × Codeword) :
    e ∈ (x.blankedSeg p).med.slots ↔ e ∈ x.med.slots ∧ x.med.segOf e.1 ≠ some p := by
  refine List.mem_filter.trans (and_congr_right fun _ => ?_)
  simp

theorem exec_blanking (t p : Nat) (g : Seg) (s : State) (ht : t < s.n) (hst : s.dev.st ≠ .drain)
    (hp : minBy (fun x => x.2.moves) ((s.tile t).map.segs.filter (fun x => decide (x.2.cond = .free) && !x.2.blanked)) = some (p, g)) :
    exec (.blanking t) s = .next ((s.blank t p).spendCredits t 18560) := by
  show execBlanking t s = _
  unfold execBlanking
  rw [hp]
  exact congrArg Host.Outcome.next (if_pos ⟨ht, hst⟩)
theorem blanking_blanks (t p : Nat) (g : Seg) (s : State) (ht : t < s.n) (hs : s.Sized) (hst : s.dev.st ≠ .drain)
    (hhdr : (s.tile t).med.hdr.wf = true) (hsegs : (s.tile t).map.segs.wf = true)
    (hp : minBy (fun x => x.2.moves) ((s.tile t).map.segs.filter (fun x => decide (x.2.cond = .free) && !x.2.blanked)) = some (p, g)) :
    ∃ u, exec (.blanking t) s = .next u ∧ ((u.tile t).map.seg p).blanked = true ∧
      (∀ x ∈ (u.tile t).med.slots, x ∈ (s.tile t).med.slots ∧ (s.tile t).med.segOf x.1 ≠ some p) ∧
      (∀ c, c < 2 → ((u.tile t).med.header p c).state = 2 ∧ ((u.tile t).med.header p c).blanked = true ∧
        ((u.tile t).med.header p c).lastRefresh = (s.tile t).pat.drift) := by
  have htile : ((s.blank t p).spendCredits t 18560).tile t = (s.tile t).blankedSeg p := s.blank_tile t p (hs.tile_listed ht)
  refine ⟨_, exec_blanking t p g s ht hst hp, ?_⟩
  rw [htile]
  refine ⟨Tile.blankedSeg_seg _ p hsegs, fun x hx => (Tile.mem_blankedSeg_slots _ p x).1 hx, fun c hc => ?_⟩
  rw [Tile.blankedSeg_header _ p c hc hhdr]
  exact ⟨rfl, rfl, rfl⟩

/-! ### The wear threshold (R198) -/

/-- A segment map with the wear threshold that firmware computes for it at `pct` percent. -/
def TileMap.withThreshold (m : TileMap) (pct : Nat) : TileMap :=
  { m with wearThreshold := pct * m.meanMoves.1 / (100 * max 1 m.meanMoves.2) + 1048576 }
theorem exec_wearThresholdUpdate (s : State) (h : s.mgmt.active ≠ none) : exec .wearThresholdUpdate s =
    .next (s.each s.tileNumbers (fun u t => u.modMap t (fun m => m.withThreshold (s.cell Ob.WEAR_MIGRATE_PCT 125)))) :=
  congrArg Host.Outcome.next (if_pos (Option.isSome_iff_ne_none.2 h))
theorem wearThresholdUpdate_sets (s : State) (h : s.mgmt.active ≠ none) (hs : s.Sized) :
    ∃ u, exec .wearThresholdUpdate s = .next u ∧ u.dev = s.dev ∧ ∀ t < s.n,
      (u.tile t).map.wearThreshold = s.cell Ob.WEAR_MIGRATE_PCT 125 * (s.tile t).map.meanMoves.1 / (100 * max 1 (s.tile t).map.meanMoves.2)
        + 1048576 ∧ (u.tile t).map.map = (s.tile t).map.map := by
  refine ⟨_, exec_wearThresholdUpdate s h, State.each_keeps State.dev _ _ _ (fun _ _ => rfl), fun t ht => ?_⟩
  have htile := State.tile_each_tileNumbers s (fun u t => u.modMap t (fun m => m.withThreshold (s.cell Ob.WEAR_MIGRATE_PCT 125)))
    (fun _ x => { x with map := x.map.withThreshold (s.cell Ob.WEAR_MIGRATE_PCT 125) }) hs.tiles
    (fun u v => ⟨_, rfl, rfl⟩) t ht
  rw [htile]
  exact ⟨rfl, rfl⟩

/-- Settles O20: one clause for the blanking, one for the wear threshold. -/
theorem blankingAndWear : Obligations.BlankingAndWear := by
  unfold Obligations.BlankingAndWear
  exact ⟨blanking_blanks, wearThresholdUpdate_sets⟩

end Sys2Proof.Machine
end

section
/-! Proofs of 07_translation.md: strokes that a maintenance step makes within itself, and what leaves the segments alone (R95, R198). -/
namespace Sys2Proof.Machine
open Sys2Proof

/-! ### Strokes within a step (R95, R447) -/

@[simp] theorem State.spendCredits_tile (s : State) (t k v : Nat) : (s.spendCredits t k).tile v = s.tile v := rfl
@[simp] theorem State.spendCredits_tiles (s : State) (t k : Nat) : (s.spendCredits t k).tiles = s.tiles := rfl
@[simp] theorem State.ownRead_tiles (s : State) (t part lseg st pos base : Nat) (c : Copy) :
    (s.ownRead t part lseg st pos base c).tiles = s.tiles := by
  obtain ⟨owed, h⟩ := s.ownRead_only t part lseg st pos base c
  rw [h]
@[simp] theorem State.ownRead_tile (s : State) (t part lseg st pos base v : Nat) (c : Copy) :
    (s.ownRead t part lseg st pos base c).tile v = s.tile v := by simp only [State.tile, State.ownRead_tiles]
@[simp] theorem State.ownReads_tiles (s : State) (t part lseg st base : Nat) (c : Copy) (skip : List Nat) :
    (s.ownReads t part lseg st base c skip).tiles = s.tiles := by
  obtain ⟨owed, h⟩ := s.ownReads_only t part lseg st base c skip
  rw [h]
@[simp] theorem State.ownReads_tile (s : State) (t part lseg st base v : Nat) (c : Copy) (skip : List Nat) :
    (s.ownReads t part lseg st base c skip).tile v = s.tile v := by simp only [State.tile, State.ownReads_tiles]

/-- A stroke none of whose tries fails verify is always stored, or left out of a failed bank (R92). -/
@[simp] theorem State.strokeNow_zero_ok (s : State) (t slot cls : Nat) (w : Codeword) : (s.strokeNow t slot cls w 0).2 = true := by
  unfold State.strokeNow
  split <;> rfl
@[simp] theorem State.strokeNow_zero_tiles_length (s : State) (t slot cls : Nat) (w : Codeword) :
    (s.strokeNow t slot cls w 0).1.tiles.length = s.tiles.length := by
  unfold State.strokeNow
  split
  · rfl
  · exact State.modTile_tiles_length ..
@[simp] theorem State.strokeNow_zero_map (s : State) (t slot cls v : Nat) (w : Codeword) :
    ((s.strokeNow t slot cls w 0).1.tile v).map = (s.tile v).map := by
  unfold State.strokeNow
  split
  · rfl
  · exact State.modTile_keeps Tile.map _ _ _ _ (fun _ => rfl)
/-- A stroke into a slot of a bank that has not failed stores its codeword there. -/
theorem State.strokeNow_zero_slots (s : State) (t slot cls : Nat) (w : Codeword) (ht : t < s.tiles.length)
    (hok : (s.tile t).slotFailed slot = false) :
    ((s.strokeNow t slot cls w 0).1.tile t).med.slots = (s.tile t).med.slots.insert slot w := by
  rw [State.strokeNow, if_neg (ne_true_of_eq_false hok), State.modMed_tile_same _ _ _ (by simpa using ht)]
  rfl

/-! ### What leaves the segments alone -/

/-- From `s` to `u` no medium, no map entry and no segment changes. -/
structure State.KeepsSegments (s u : State) : Prop where
  med : ∀ v, (u.tile v).med = (s.tile v).med
  map : ∀ v, (u.tile v).map.map = (s.tile v).map.map
  segs : ∀ v, (u.tile v).map.segs = (s.tile v).map.segs

theorem State.KeepsSegments.refl (s : State) : s.KeepsSegments s := ⟨fun _ => rfl, fun _ => rfl, fun _ => rfl⟩
theorem State.KeepsSegments.trans {s t u : State} (a : s.KeepsSegments t) (b : t.KeepsSegments u) : s.KeepsSegments u :=
  ⟨fun v => (b.med v).trans (a.med v), fun v => (b.map v).trans (a.map v), fun v => (b.segs v).trans (a.segs v)⟩
theorem State.KeepsSegments.ite {s u v : State} {c : Prop} [Decidable c] (a : s.KeepsSegments u) (b : s.KeepsSegments v) :
    s.KeepsSegments (if c then u else v) := by
  split
  · exact a
  · exact b
theorem State.KeepsSegments.entry {s u : State} (h : s.KeepsSegments u) (v l : Nat) : (u.tile v).map.entry l = (s.tile v).map.entry l := by
  simp only [TileMap.entry, h.map]
theorem State.KeepsSegments.seg {s u : State} (h : s.KeepsSegments u) (v p : Nat) : (u.tile v).map.seg p = (s.tile v).map.seg p := by
  simp only [TileMap.seg, h.segs]
theorem State.SameMedium.keepsSegments {s u : State} (h : s.SameMedium u) : s.KeepsSegments u :=
  ⟨fun v => (h v).1, fun v => congrArg TileMap.map (h v).2, fun v => congrArg TileMap.segs (h v).2⟩
theorem State.keepsSegments_of_tiles {s u : State} (h : u.tiles = s.tiles) : s.KeepsSegments u := by
  have htile (v : Nat) : u.tile v = s.tile v := by simp only [State.tile, h]
  exact ⟨fun v => by rw [htile], fun v => by rw [htile], fun v => by rw [htile]⟩
theorem State.keepsSegments_each {α : Type} (s : State) (l : List α) (f : State → α → State) (h : ∀ u x, State.KeepsSegments u (f u x)) :
    s.KeepsSegments (s.each l f) :=
  State.each_induct s.KeepsSegments s l f (State.KeepsSegments.refl s) (fun u x _ hu => hu.trans (h u x))
theorem State.keepsSegments_trigger (s : State) (t lseg reason : Nat) : s.KeepsSegments (s.trigger t lseg reason) := by
  refine ⟨fun v => State.modTile_keeps Tile.med s t v _ (fun _ => rfl), fun v => State.modTile_keeps (fun x => x.map.map) s t v _ (fun x => ?_),
    fun v => State.modTile_keeps (fun x => x.map.segs) s t v _ (fun x => ?_)⟩
  all_goals
    simp only []
    split <;> rfl
theorem State.keepsSegments_evalHealth (s : State) : s.KeepsSegments s.evalHealth := State.keepsSegments_of_tiles s.evalHealth_tiles

end Sys2Proof.Machine
end

section
/-! Proofs of 07_translation.md: a rotation move (R191 to R194). -/
namespace Sys2Proof.Machine
open Sys2Proof

/-! ### After the move (R194, R198, R216) -/

/-- The state with the headers of segment `p` checkpointed when its MOVES stand at a multiple of 64 (R194). -/
def State.checkpointed (s : State) (t p : Nat) : State :=
  if ((s.tile t).map.seg p).moves % 64 = 0 then
    (s.writeHeader t p { (s.tile t).med.header p 0 with moves := ((s.tile t).map.seg p).moves }).tcount t Cn.HEADER_CHECKPOINTS 1
  else s
/-- Beside the checkpoint, what follows a move leaves the segments alone. -/
theorem State.keepsSegments_afterMove (s : State) (t lseg p : Nat) : (s.checkpointed t p).KeepsSegments (s.afterMove t lseg p) := by
  unfold State.afterMove
  extract_lets m h s1 s2
  have triggered : s1.KeepsSegments s2 := .ite (s1.keepsSegments_trigger t lseg 1) (.refl s1)
  exact triggered.trans (.ite s2.keepsSegments_evalHealth (.refl s2))
theorem State.checkpointed_slots (s : State) (t p : Nat) (ht : t < s.tiles.length) :
    ((s.checkpointed t p).tile t).med.slots = (s.tile t).med.slots := by
  unfold State.checkpointed
  split
  · rw [State.tcount_tile, State.writeHeader_tile _ _ _ _ ht]
    rfl
  · rfl
theorem State.checkpointed_map (s : State) (t p : Nat) (ht : t < s.tiles.length) :
    ((s.checkpointed t p).tile t).map.map = (s.tile t).map.map := by
  unfold State.checkpointed
  split
  · rw [State.tcount_tile, State.writeHeader_tile _ _ _ _ ht]
    rfl
  · rfl
theorem State.checkpointed_moves (s : State) (t p : Nat) (ht : t < s.tiles.length) (hm : 0 < ((s.tile t).map.seg p).moves) :
    (((s.checkpointed t p).tile t).map.seg p).moves = ((s.tile t).map.seg p).moves := by
  unfold State.checkpointed
  split
  · rw [State.tcount_tile, State.writeHeader_tile _ _ _ _ ht]
    exact TileMap.aged_moves _ _ _ hm
  · rfl

/-! ### The move (R191, R192) -/

/-- The member that a move carries, from where it stands in its ring (R191, R192). -/
theorem movedMember_eq (p omega moves k pos : Nat) (hk : indexAtPos (ringMoves moves (ringNumber (moveSpec moves).ring (moveSpec moves).die))
      (moveSpec moves).source = some k)
    (hpos : (List.range 9).find? (fun j => decide (dieOfPos (stripeAddr p (stripeOfRank p (144 * (((moveSpec moves).ring + 8 - omega) % 8) + k)
      (moveSpec moves).die)) j = (moveSpec moves).die)) = some pos) :
    movedMember p omega moves = some (stripeOfRank p (144 * (((moveSpec moves).ring + 8 - omega) % 8) + k) (moveSpec moves).die, pos,
      slotOfIndex (moveSpec moves).die (ringSlotIndex p (moveSpec moves).die (145 * (moveSpec moves).ring + (moveSpec moves).dest))) := by
  simp only [movedMember, hk, hpos, Option.map_some]

/-- The state with member `pos` of stripe `st` of copy `c` stroked into `dest`. -/
def State.moveStroked (s : State) (t lseg st pos : Nat) (c : Copy) (dest : Nat) : State :=
  (((s.spendCredits t 1).ownRead t ((s.partOfSeg t lseg).getD 0) lseg st pos 3 c).strokeNow t dest
    (s.lineClass ((s.partOfSeg t lseg).getD 0) t lseg st (c.stripe st) pos 3)
    ((s.tile t).memberWord lseg st pos c (memberKey lseg st (c.stripe st) pos)) 0).1
/-- The segment map with the move of logical segment `lseg` in segment `p` made. -/
def TileMap.moved (m : TileMap) (lseg p moves : Nat) : TileMap :=
  { m.setSeg p { m.seg p with moves := moves + 1 } with movesDue := m.movesDue.erase lseg }
/-- The state with that move made: the stroke, MOVES and the count (R191). -/
def State.moveMade (s : State) (t lseg st pos : Nat) (c : Copy) (dest : Nat) : State :=
  ((s.moveStroked t lseg st pos c dest).modMap t (fun m => m.moved lseg c.pseg c.moves)).tcount t Cn.ROTATION_MOVES 1
theorem exec_rotationMove (t lseg st pos slot : Nat) (s : State) (c : Copy) (ht : t < s.n) (hst : s.dev.st ≠ .drain)
    (hdue : lseg ∈ (s.tile t).map.movesDue) (hbound : ((s.tile t).map.entry lseg).st = .bound)
    (hc : c = { pseg := ((s.tile t).map.entry lseg).pseg, omega := ((s.tile t).map.entry lseg).omega,
                moves := ((s.tile t).map.seg ((s.tile t).map.entry lseg).pseg).moves })
    (hmember : movedMember c.pseg c.omega c.moves = some (st, pos, slot)) (himage : (s.tile t).memberImage lseg st (c.stripe st) pos = none)
    (hopen : c.stripe st ∉ (s.tile t).res.opens) (hformed : ∀ q ∈ (s.tile t).res.evicts, q.formed = false) :
    exec (.rotationMove t lseg 0) s =
      .next ((s.moveMade t lseg st pos c ((s.tile t).finalSlot slot)).afterMove t lseg c.pseg) := by
  subst hc
  show execRotationMove t lseg 0 s = _
  unfold execRotationMove
  extract_lets x e p moves c part
  have hmoved : movedMember p e.omega moves = some (st, pos, slot) := hmember
  rw [if_pos ⟨ht, List.contains_iff_mem.2 hdue, hbound, hst⟩]
  simp only [hmoved]
  rw [if_neg ?quiet, if_pos (State.strokeNow_zero_ok ..)]
  case quiet =>
    have himage' : x.memberImage lseg st (c.stripe st) pos = none := himage
    simp only [himage', Option.isSome_none, Bool.false_or]
    split
    · simpa using hopen
    · simpa using fun q hq hf => absurd hf (by simp [hformed q hq])
  rfl

@[simp] theorem State.moveStroked_tiles_length (s : State) (t lseg st pos : Nat) (c : Copy) (dest : Nat) :
    (s.moveStroked t lseg st pos c dest).tiles.length = s.tiles.length := by simp [State.moveStroked]
@[simp] theorem State.moveMade_tiles_length (s : State) (t lseg st pos : Nat) (c : Copy) (dest : Nat) :
    (s.moveMade t lseg st pos c dest).tiles.length = s.tiles.length := by simp [State.moveMade]
theorem State.moveMade_slots (s : State) (t lseg st pos : Nat) (c : Copy) (dest : Nat) (ht : t < s.tiles.length)
    (hok : (s.tile t).slotFailed dest = false) : ((s.moveMade t lseg st pos c dest).tile t).med.slots =
      (s.tile t).med.slots.insert dest ((s.tile t).memberWord lseg st pos c (memberKey lseg st (c.stripe st) pos)) := by
  rw [State.moveMade, State.tcount_tile, State.modMap_tile_same _ _ _ (by simpa using ht), State.moveStroked]
  simp only []
  rw [State.strokeNow_zero_slots _ _ _ _ _ (by simpa using ht) (by simpa using hok)]
  simp
theorem State.moveMade_map (s : State) (t lseg st pos : Nat) (c : Copy) (dest : Nat) (ht : t < s.tiles.length) :
    ((s.moveMade t lseg st pos c dest).tile t).map = (s.tile t).map.moved lseg c.pseg c.moves := by
  rw [State.moveMade, State.tcount_tile, State.modMap_tile_same _ _ _ (by simpa using ht)]
  simp [State.moveStroked]
theorem TileMap.moved_seg (m : TileMap) (lseg p moves : Nat) : (m.moved lseg p moves).seg p = { m.seg p with moves := moves + 1 } :=
  TileMap.seg_setSeg_same _ _ _ (Seg.ne_shipped_of_moves (Nat.succ_pos _))

/-- What a move and all that follows it leave of their tile. -/
theorem State.afterMove_moveMade (s : State) (t lseg st pos : Nat) (c : Copy) (dest : Nat) (ht : t < s.tiles.length)
    (hok : (s.tile t).slotFailed dest = false) :
    (((s.moveMade t lseg st pos c dest).afterMove t lseg c.pseg).tile t).med.slots =
      (s.tile t).med.slots.insert dest ((s.tile t).memberWord lseg st pos c (memberKey lseg st (c.stripe st) pos)) ∧
    ((((s.moveMade t lseg st pos c dest).afterMove t lseg c.pseg).tile t).map.seg c.pseg).moves = c.moves + 1 ∧
    (((s.moveMade t lseg st pos c dest).afterMove t lseg c.pseg).tile t).map.map = (s.tile t).map.map := by
  have hlen : t < (s.moveMade t lseg st pos c dest).tiles.length := by simpa using ht
  have hseg : ((s.moveMade t lseg st pos c dest).tile t).map.seg c.pseg = { (s.tile t).map.seg c.pseg with moves := c.moves + 1 } := by
    rw [s.moveMade_map t lseg st pos c dest ht, TileMap.moved_seg]
  have hafter := (s.moveMade t lseg st pos c dest).keepsSegments_afterMove t lseg c.pseg
  refine ⟨?_, ?_, ?_⟩
  · rw [hafter.med, State.checkpointed_slots _ _ _ hlen, s.moveMade_slots t lseg st pos c dest ht hok]
  · rw [hafter.seg, State.checkpointed_moves _ _ _ hlen (by rw [hseg]; exact Nat.succ_pos _), hseg]
  · rw [hafter.map, State.checkpointed_map _ _ _ hlen, s.moveMade_map t lseg st pos c dest ht]
    rfl

/-- Settles O19: the stroke stores the member in the gap slot, MOVES rises, and what follows the move touches headers, ages, triggers and health
alone. -/
theorem rotationMoveFillsTheGap : Obligations.RotationMoveFillsTheGap := by
  unfold Obligations.RotationMoveFillsTheGap
  intro t lseg k pos s ht hs hst hdue hbound e moves c v st S dest hk hpos himage hopen hformed hok
  obtain ⟨hslots, hmoves, hmap⟩ := s.afterMove_moveMade t lseg st pos c dest (hs.tile_listed ht) hok
  have hexec : exec (.rotationMove t lseg 0) s = .next ((s.moveMade t lseg st pos c dest).afterMove t lseg c.pseg) :=
    exec_rotationMove t lseg st pos _ s c ht hst hdue hbound rfl (movedMember_eq _ _ _ k pos hk hpos) himage hopen hformed
  refine ⟨_, hexec, ?_, fun a ha => ?_, hmoves, hmap⟩
  · rw [hslots, Sparse.find_insert_same]
  · rw [hslots, Sparse.find_insert_ne _ _ _ _ (Ne.symm ha)]

end Sys2Proof.Machine
end

section
/-! Proofs of 07_translation.md: a step of an evacuation (R209). -/
namespace Sys2Proof.Machine
open Sys2Proof

/-- The state with member `pos` of stripe `st` of copy `c` stroked into the substitute `sub` of its slot. -/
def State.evacStroked (s : State) (t lseg st pos : Nat) (c : Copy) (sub : Nat) : State :=
  ((((s.ownReads t ((s.partOfSeg t lseg).getD 0) lseg st 3 c [pos]).spendCredits t 1).strokeNow t sub
    (s.lineClass ((s.partOfSeg t lseg).getD 0) t lseg st (c.stripe st) pos 3)
    ((s.tile t).memberWord lseg st pos c (memberKey lseg st (c.stripe st) pos)) 0).1).tcount t Cn.EVACUATION_STROKES 1
/-- The segment map with the evacuation of a bank one slot further. -/
def TileMap.evacNext (m : TileMap) (bank : Nat) : TileMap :=
  { m with evacs := m.evacs.map (fun (q : Evac) => if q.bank = bank then { q with ptr := q.ptr + 1 } else q) }
/-- The state with the evacuation at bank `e` one slot further; the last slot ends it (R209). -/
def State.evacStepped (s : State) (t : Nat) (e : Evac) : State :=
  let s1 := s.modMap t (fun m => m.evacNext e.bank)
  if e.ptr + 1 = 54251936 then (s1.tev t Ev.BANK_EVACUATED 0xFF (e.bank / 32) [(1, e.bank % 32)]).evalHealth else s1
theorem State.evacStepped_tiles (s : State) (t : Nat) (e : Evac) : (s.evacStepped t e).tiles = (s.modMap t (fun m => m.evacNext e.bank)).tiles := by
  unfold State.evacStepped
  extract_lets s1
  split
  · rw [State.evalHealth_tiles, State.tev_tiles]
  · rfl
theorem exec_evacuationSlot (t lseg st pos : Nat) (c : Copy) (e : Evac) (s : State) (ht : t < s.n) (hst : s.dev.st ≠ .drain)
    (hfind : (s.tile t).map.evacs.find? (fun e => !e.complete) = some e)
    (hmember : (s.tile t).memberAt (slotAddr (e.bank / 32) (e.bank % 32) e.ptr) = some (lseg, st, pos, c)) :
    exec (.evacuationSlot t 0) s = .next ((s.evacStroked t lseg st pos c
      (donorSlot (e.donors.getD (e.ptr / 1120) 0) (e.bank / 32) (e.bank % 32) (e.ptr % 1120))).evacStepped t e) := by
  have hptr : e.ptr < 54251936 := by simpa [Evac.complete] using List.find?_some hfind
  show execEvacuationSlot t 0 s = _
  unfold execEvacuationSlot
  simp only [hfind]
  rw [if_pos ⟨ht, hst, hptr⟩]
  simp only [hmember, State.strokeNow_zero_ok, if_true]
  rfl

/-- Settles O22: the stroke stores the member in its substitute, and the pointer of its bank goes on. -/
theorem evacuationStep : Obligations.EvacuationStep := by
  unfold Obligations.EvacuationStep
  intro t lseg st pos c e s ht hs hst hfind a sub hmember hok
  have hlen : t < s.tiles.length := hs.tile_listed ht
  have htile : ((s.evacStroked t lseg st pos c sub).evacStepped t e).tile t =
      { (s.evacStroked t lseg st pos c sub).tile t with map := (s.tile t).map.evacNext e.bank } := by
    rw [State.tile, State.evacStepped_tiles, ← State.tile, State.modMap_tile_same _ _ _ (by simpa [State.evacStroked] using hlen)]
    simp [State.evacStroked]
  have hslots : ((s.evacStroked t lseg st pos c sub).tile t).med.slots = (s.tile t).med.slots.insert sub
      ((s.tile t).memberWord lseg st pos c (memberKey lseg st (c.stripe st) pos)) := by
    rw [State.evacStroked, State.tcount_tile, State.strokeNow_zero_slots _ _ _ _ _ (by simpa using hlen) (by simpa using hok)]
    simp
  have hexec : exec (.evacuationSlot t 0) s = .next ((s.evacStroked t lseg st pos c sub).evacStepped t e) :=
    exec_evacuationSlot t lseg st pos c e s ht hst hfind hmember
  refine ⟨_, hexec, ?_⟩
  rw [htile]
  refine ⟨?_, fun b hb => ?_, rfl⟩
  · rw [hslots, Sparse.find_insert_same]
  · rw [hslots, Sparse.find_insert_ne _ _ _ _ (Ne.symm hb)]

end Sys2Proof.Machine
end

section
/-! Proofs of 07_translation.md: the start of a migration (R198, R199). -/
namespace Sys2Proof.Machine
open Sys2Proof

/-- Segment `g.target` as the target of migration `g`; `seq` and `moves` are those of its headers (R199). -/
def TileMap.targetSeg (m : TileMap) (g : Migration) (seq moves : Nat) : Seg :=
  { m.seg g.target with cond := .target, blanked := false, blankMoves := moves, omega := seq % 8, lseg := g.lseg }
/-- A map entry once its logical segment migrates. -/
def MapEntry.migrating (e : MapEntry) : MapEntry := { e with st := .migrating }
/-- The segment map as migration `g` opens (R199). -/
def TileMap.opening (m : TileMap) (g : Migration) (seq moves : Nat) : TileMap :=
  let m2 := (m.setSeg g.target (m.targetSeg g seq moves)).setEntry g.lseg (m.entry g.lseg).migrating
  { m2 with migs := m2.migs ++ [g], triggers := m2.triggers.filter (fun q => decide (q.lseg ≠ g.lseg)) }
/-- The entry of the migration table for a migration as it opens, with the target's SEQ `seq` (R199). -/
def State.newMigration (s : State) (t lseg reason b seq : Nat) : Migration :=
  { step := 2, reason := reason, ptr := 0, target := b, source := ((s.tile t).map.entry lseg).pseg, lseg := lseg, tomega := seq % 8,
    part := (s.partOfSeg t lseg).getD 0 }

theorem TileMap.opening_entry (m : TileMap) (g : Migration) (seq moves : Nat) :
    (m.opening g seq moves).entry g.lseg = (m.entry g.lseg).migrating :=
  TileMap.entry_setEntry_same (m.setSeg g.target (m.targetSeg g seq moves)) g.lseg (m.entry g.lseg).migrating
    (MapEntry.ne_fresh_of_st (by simp [MapEntry.migrating]))
theorem TileMap.opening_seg (m : TileMap) (g : Migration) (seq moves : Nat) : (m.opening g seq moves).seg g.target = m.targetSeg g seq moves :=
  TileMap.seg_setSeg_same m g.target (m.targetSeg g seq moves) (Seg.ne_shipped_of_blanked rfl)
theorem TileMap.mem_opening_triggers (m : TileMap) (g : Migration) (seq moves : Nat) (q : MigTrigger) :
    q ∈ (m.opening g seq moves).triggers ↔ q ∈ m.triggers ∧ q.lseg ≠ g.lseg := by
  simp [TileMap.opening, TileMap.setSeg, TileMap.setEntry]

/-- The start of a migration: SEQ, the target's headers, its slots, the segment map, then the record of it. -/
theorem State.openMigration_eq (s : State) (t lseg reason b : Nat) : ∃ h drop moves value qs before, s.openMigration t lseg reason b =
    ((((((s.freshSeq t).1.writeHeader t b h).allNibs t 3 64).modMed t drop).modMap t
      (fun m => m.opening (s.newMigration t lseg reason b (s.freshSeq t).2) (s.freshSeq t).2 moves)).tev t Ev.MIGRATION_STARTED 0xFF value
        qs).noteSpares t before := ⟨_, _, _, _, _, _, rfl⟩
/-- The segment map that the start of a migration leaves: `m` is the map of before with a SEQ drawn and the target's age written. -/
theorem State.openMigration_map (s : State) (t lseg reason b : Nat) (ht : t < s.tiles.length) : ∃ (m : TileMap) (seq moves : Nat),
    m.map = (s.tile t).map.map ∧
      ((s.openMigration t lseg reason b).tile t).map = m.opening (s.newMigration t lseg reason b seq) seq moves := by
  obtain ⟨h, drop, moves, value, qs, before, heq⟩ := s.openMigration_eq t lseg reason b
  obtain ⟨ceil, ps, hfresh⟩ := s.freshSeq_tile t ht
  rw [heq, State.noteSpares_tile, State.tev_tile, State.modMap_tile_same _ _ _ (by simpa using ht), State.modMed_tile_same _ _ _ (by simpa using ht),
    State.allNibs_tile, State.writeHeader_tile _ _ _ _ (by simpa using ht), hfresh]
  exact ⟨{ (s.tile t).map with seqCtr := (s.freshSeq t).2, seqCeil := ceil }.aged b h, _, _, rfl, rfl⟩

theorem exec_migrationStarted (t b : Nat) (g : MigTrigger) (s : State) (ht : t < s.n) (hact : s.tileActive t = true) (hcore : s.mgmt.active ≠ none)
    (hst : s.dev.st ≠ .drain) (hroom : (s.tile t).map.migs.length < s.migrateMax) (hspare : 0 < s.spares t)
    (hg : (s.tile t).map.nextTrigger = some g) (hb : (s.tile t).map.pickFree false = some b) :
    exec (.migrationStarted t) s = .next (s.openMigration t g.lseg g.reason b) := by
  show execMigrationStarted t s = _
  unfold execMigrationStarted
  extract_lets m
  rw [if_pos ⟨ht, hact, Option.isSome_iff_ne_none.2 hcore, hst, hroom, hspare⟩]
  simp only [m, hg, hb]
theorem migrationStarted_opens (t b : Nat) (g : MigTrigger) (s : State) (ht : t < s.n) (hs : s.Sized) (hact : s.tileActive t = true)
    (hcore : s.mgmt.active ≠ none) (hst : s.dev.st ≠ .drain) (hroom : (s.tile t).map.migs.length < s.migrateMax) (hspare : 0 < s.spares t)
    (hg : (s.tile t).map.nextTrigger = some g) (hb : (s.tile t).map.pickFree false = some b) :
    ∃ u, exec (.migrationStarted t) s = .next u ∧ ((u.tile t).map.entry g.lseg).st = .migrating ∧
      ((u.tile t).map.entry g.lseg).pseg = ((s.tile t).map.entry g.lseg).pseg ∧ ((u.tile t).map.seg b).cond = .target ∧
      (∃ q ∈ (u.tile t).map.migs, q.lseg = g.lseg ∧ q.target = b ∧ q.ptr = 0 ∧ q.source = ((s.tile t).map.entry g.lseg).pseg) ∧
      (∀ q ∈ (u.tile t).map.triggers, q.lseg ≠ g.lseg) := by
  obtain ⟨m, seq, moves, hm, hmap⟩ := s.openMigration_map t g.lseg g.reason b (hs.tile_listed ht)
  have hentry := m.opening_entry (s.newMigration t g.lseg g.reason b seq) seq moves
  refine ⟨_, exec_migrationStarted t b g s ht hact hcore hst hroom hspare hg hb, ?_⟩
  rw [hmap]
  refine ⟨congrArg MapEntry.st hentry, ?_, congrArg Seg.cond (m.opening_seg _ seq moves), ?_, fun q hq => ((m.mem_opening_triggers _ seq moves q).1 hq).2⟩
  · exact (congrArg MapEntry.pseg hentry).trans (congrArg (fun l => (Sparse.getD l g.lseg MapEntry.fresh).pseg) hm)
  · exact ⟨_, List.mem_append_right _ (List.mem_singleton_self _), rfl, rfl, rfl, rfl⟩

end Sys2Proof.Machine
end

section
/-! Proofs of 07_translation.md: the copy of a stripe (R200, R201). -/
namespace Sys2Proof.Machine
open Sys2Proof

/-! ### Evictions that the copy completes (R140, R201) -/

theorem State.stands_lineLanded (s : State) (t owner lla : Nat) : s.Stands (s.lineLanded t owner lla) := by
  unfold State.lineLanded
  extract_lets r gone s0
  have hgone (u : State) : u.Stands (gone u) := u.stands_shadowFor ..
  split
  · exact hgone s
  · extract_lets s1 rival s2
    have h1 : s.Stands s1 := s.stands_modRes _ _
    have h2 : s1.Stands s2 := (s1.stands_modRes _ _).trans (hgone _)
    exact h1.trans (.ite (s1.stands_modRes _ _) (.ite (s1.stands_modRes _ _) (h2.trans (.ite (s2.stands_modRes _ _) (.refl s2)))))
theorem State.stands_closeStripe (s : State) (t S : Nat) : s.Stands (s.closeStripe t S) :=
  .ite (.refl s) (.ite ((s.stands_modRes t _).trans (State.stands_shadowFor ..)) (.refl s))
theorem State.stands_completeEvicts (s : State) (t : Nat) : s.Stands (s.completeEvicts t) := by
  refine s.stands_each _ _ (fun u e => ?_)
  extract_lets s1 s2 s3 s4
  have h2 : u.Stands s2 := (u.stands_modRes t _).trans (s1.stands_modRes t _)
  have h4 : s3.Stands s4 := .ite (s3.stands_modRes t _) (.refl s3)
  exact ((h2.trans (s2.stands_lineLanded ..)).trans h4).trans (s4.stands_closeStripe ..)
theorem State.stands_coveredByCopy (s : State) (t lseg st S : Nat) : s.Stands (s.coveredByCopy t lseg st S) :=
  ((s.stands_modRes t _).trans (State.stands_completeEvicts ..)).trans
    (State.stands_each _ _ _ (fun u _ => (u.stands_modRes t _).trans (State.stands_lineLanded ..)))

/-! ### The nine strokes (R200) -/

/-- One stroke of a stripe's copy; the first takes the tries that fail verify. -/
def State.copyStroke (t : Nat) (acc : State × Bool × Nat) (w : Nat × Nat × Codeword) : State × Bool × Nat :=
  let y := acc.1.strokeNow t ((acc.1.tile t).finalSlot w.1) w.2.1 w.2.2 acc.2.2
  (y.1, acc.2.1 && y.2, 0)
/-- Strokes none of whose tries fails verify are all stored, and the segment maps stand. -/
theorem State.copyStrokes_zero (t : Nat) (l : List (Nat × Nat × Codeword)) (s : State) :
    (l.foldl (State.copyStroke t) (s, true, 0)).2.1 = true ∧ (∀ v, ((l.foldl (State.copyStroke t) (s, true, 0)).1.tile v).map = (s.tile v).map) ∧
      (l.foldl (State.copyStroke t) (s, true, 0)).1.tiles.length = s.tiles.length := by
  induction l generalizing s with
  | nil => exact ⟨rfl, fun _ => rfl, rfl⟩
  | cons w l ih =>
    have step : State.copyStroke t (s, true, 0) w = ((s.strokeNow t ((s.tile t).finalSlot w.1) w.2.1 w.2.2 0).1, true, 0) := by
      simp [State.copyStroke]
    obtain ⟨hok, hmap, hlen⟩ := ih (s.strokeNow t ((s.tile t).finalSlot w.1) w.2.1 w.2.2 0).1
    rw [List.foldl_cons, step]
    exact ⟨hok, fun v => (hmap v).trans (State.strokeNow_zero_map ..), hlen.trans (State.strokeNow_zero_tiles_length ..)⟩
theorem State.copyStripe_eq (s : State) (t lseg st : Nat) (src dst : Copy) (fails : Nat) : ∃ (part : Nat) (l : List (Nat × Nat × Codeword)),
    s.copyStripe t lseg st src dst fails =
    ((l.foldl (State.copyStroke t) (s.ownReads t part lseg st 3 src [], true, fails)).1,
      (l.foldl (State.copyStroke t) (s.ownReads t part lseg st 3 src [], true, fails)).2.1) := ⟨_, _, rfl⟩
theorem State.copyStripe_zero (s : State) (t lseg st : Nat) (src dst : Copy) :
    (s.copyStripe t lseg st src dst 0).2 = true ∧ (∀ v, ((s.copyStripe t lseg st src dst 0).1.tile v).map = (s.tile v).map) ∧
      (s.copyStripe t lseg st src dst 0).1.tiles.length = s.tiles.length := by
  obtain ⟨part, l, heq⟩ := s.copyStripe_eq t lseg st src dst 0
  obtain ⟨hok, hmap, hlen⟩ := State.copyStrokes_zero t l (s.ownReads t part lseg st 3 src [])
  rw [heq]
  exact ⟨hok, fun v => by rw [hmap, State.ownReads_tile], by rw [hlen, State.ownReads_tiles]⟩

/-! ### The step (R200, R201) -/

/-- The copy of a migrating segment that is read. -/
def TileMap.sourceCopy (m : TileMap) (g : Migration) (lseg : Nat) : Copy :=
  { pseg := g.source, omega := (m.entry lseg).omega, moves := (m.seg g.source).moves }
/-- The copy of a migrating segment that is written. -/
def TileMap.targetCopy (m : TileMap) (g : Migration) : Copy := { pseg := g.target, omega := g.tomega, moves := (m.seg g.target).moves }
/-- The segment map with the pointer of a migration one stripe further. -/
def TileMap.migNext (m : TileMap) (lseg : Nat) : TileMap :=
  { m with migs := m.migs.map (fun (q : Migration) => if q.lseg = lseg then { q with ptr := q.ptr + 1 } else q) }
/-- The state with the next stripe of migration `g` copied. -/
def State.stripeCopied (s : State) (t lseg : Nat) (g : Migration) : State :=
  ((s.spendCredits t 9).copyStripe t lseg g.ptr ((s.tile t).map.sourceCopy g lseg) ((s.tile t).map.targetCopy g) 0).1
theorem exec_migrationStripeCopy (t lseg : Nat) (g : Migration) (s : State) (ht : t < s.n) (hst : s.dev.st ≠ .drain)
    (hfind : (s.tile t).map.migs.find? (fun g => decide (g.lseg = lseg)) = some g) (hstep : g.step = 2) (hptr : g.ptr < segStripes) :
    exec (.migrationStripeCopy t lseg 0) s =
      .next ((((s.stripeCopied t lseg g).modMap t (fun m => m.migNext lseg)).tcount t Cn.MIGRATION_STROKES 9).coveredByCopy t lseg g.ptr
        (((s.tile t).map.sourceCopy g lseg).stripe g.ptr)) := by
  show execMigrationStripeCopy t lseg 0 s = _
  unfold execMigrationStripeCopy
  simp only [hfind]
  rw [if_pos ⟨ht, hst, hstep, hptr⟩]
  exact congrArg Host.Outcome.next (if_pos (State.copyStripe_zero ..).1)
theorem migrationStripeCopy_advances (t lseg : Nat) (g : Migration) (s : State) (ht : t < s.n) (hs : s.Sized) (hst : s.dev.st ≠ .drain)
    (hfind : (s.tile t).map.migs.find? (fun g => decide (g.lseg = lseg)) = some g) (hstep : g.step = 2) (hptr : g.ptr < segStripes) :
    ∃ u, exec (.migrationStripeCopy t lseg 0) s = .next u ∧
      (u.tile t).map.migs = (s.tile t).map.migs.map (fun q => if q.lseg = lseg then { q with ptr := q.ptr + 1 } else q) ∧
      (u.tile t).map.map = (s.tile t).map.map := by
  obtain ⟨-, hmap, hlen⟩ := (s.spendCredits t 9).copyStripe_zero t lseg g.ptr ((s.tile t).map.sourceCopy g lseg) ((s.tile t).map.targetCopy g)
  have hcopied : ((s.stripeCopied t lseg g).tile t).map = (s.tile t).map := hmap t
  have hlisted : t < (s.stripeCopied t lseg g).tiles.length := by
    rw [State.stripeCopied, hlen]
    exact hs.tile_listed ht
  refine ⟨_, exec_migrationStripeCopy t lseg g s ht hst hfind hstep hptr, ?_⟩
  rw [((State.stands_coveredByCopy ..).sameMedium t).2, State.tcount_tile, State.modMap_tile_same _ _ _ hlisted, hcopied]
  exact ⟨rfl, rfl⟩

end Sys2Proof.Machine
end

section
/-! Proofs of 07_translation.md: the end of a migration (R199, R202, R214). -/
namespace Sys2Proof.Machine
open Sys2Proof

/-! ### A segment given up (R97, R199) -/

/-- From `s` to `u` segment `p` of tile `t` has been given up: it has a new condition and new headers; map entries, slots and the other segments
stand. -/
structure State.GivesUp (t p : Nat) (cond : SegCond) (s u : State) : Prop where
  seg : ((u.tile t).map.seg p).cond = cond
  map : (u.tile t).map.map = (s.tile t).map.map
  slots : (u.tile t).med.slots = (s.tile t).med.slots
  others : ∀ q, p ≠ q → (u.tile t).map.seg q = (s.tile t).map.seg q
  headers : ∀ q c, p ≠ q → c < 2 → (u.tile t).med.header q c = (s.tile t).med.header q c

@[simp] theorem State.forgetParity_tiles_length (s : State) (t p : Nat) : (s.forgetParity t p).tiles.length = s.tiles.length :=
  State.modTile_tiles_length ..
theorem State.forgetParity_tile (s : State) (t p : Nat) (ht : t < s.tiles.length) : ∃ r, (s.forgetParity t p).tile t = { s.tile t with res := r } :=
  ⟨_, State.tile_modTile_same _ _ _ ht⟩
/-- New headers and a new condition give up a segment, whatever becomes of buffers and remap entries. -/
theorem State.givesUp_of_headed {t p : Nat} {s u : State} (h : Header) (x : Seg) (r : TileRes) (remap : Sparse Remap) (hx : x ≠ Seg.shipped)
    (hu : u.tile t = { s.tile t with res := r, med := { (s.tile t).med.headed p h with remap := remap },
                                     map := ((s.tile t).map.aged p h).setSeg p x }) : State.GivesUp t p x.cond s u := by
  refine ⟨?_, ?_, ?_, fun q hq => ?_, fun q c hq hc => ?_⟩ <;> rw [hu]
  · exact congrArg Seg.cond (TileMap.seg_setSeg_same _ _ _ hx)
  · rfl
  · rfl
  · exact (TileMap.seg_setSeg_ne _ _ _ _ hq).trans (TileMap.aged_seg_ne _ _ _ _ hq)
  · exact TileMed.header_headed_ne _ _ _ _ _ hc hq
theorem State.retire_givesUp (s : State) (t p reason : Nat) (ht : t < s.tiles.length) : State.GivesUp t p .retired s (s.retire t p reason) := by
  unfold State.retire
  extract_lets h s1 s2
  have hlen : t < s2.tiles.length := by simpa [s2, s1] using ht
  obtain ⟨r, hr⟩ := s2.forgetParity_tile t p hlen
  refine State.givesUp_of_headed { h with state := 2, retired := true, blanked := false, moves := ((s.tile t).map.seg p).moves }
    { (s1.tile t).map.seg p with cond := .retired, blanked := false, reason := reason } r ((s.tile t).med.freeRemaps p).remap
    (Seg.ne_shipped_of_blanked rfl) ?_
  rw [State.tev_tile, State.modMed_tile_same _ _ _ (by simpa using hlen), hr, State.modMap_tile_same _ _ _ (by simpa [s1] using ht),
    State.writeHeader_tile _ _ _ _ ht]
  rfl
theorem State.release_givesUp (s : State) (t p : Nat) (ht : t < s.tiles.length) : State.GivesUp t p .free s (s.release t p) := by
  unfold State.release
  extract_lets h s1
  have hlen : t < s1.tiles.length := by simpa [s1] using ht
  obtain ⟨r, hr⟩ := s1.forgetParity_tile t p hlen
  refine State.givesUp_of_headed { h with state := 2, blanked := false, moves := ((s.tile t).map.seg p).moves }
    { (s1.tile t).map.seg p with cond := .free, blanked := false, lseg := 0xFFFFFF } r (s.tile t).med.remap
    (Seg.ne_shipped_of_blanked rfl) ?_
  rw [State.modMap_tile_same _ _ _ (by simpa using hlen), hr, State.writeHeader_tile _ _ _ _ ht]
  rfl

/-! ### The end (R199, R214) -/

theorem State.keepsSegments_relievePins (s : State) (t before : Nat) : s.KeepsSegments (s.relievePins t before) := by
  unfold State.relievePins
  extract_lets pins listed
  exact .ite (s.keepsSegments_each _ _ (fun u a => u.keepsSegments_trigger t (lsegOf a) 5)) (.refl s)

/-- The map entry of a logical segment that migration `g` has moved. -/
def Migration.targetEntry (g : Migration) : MapEntry := { st := .bound, pseg := g.target, writes := 0, omega := g.tomega }
/-- The segment map switched over to the target of migration `g`, which it leaves (R199). -/
def TileMap.switched (m : TileMap) (g : Migration) : TileMap :=
  let m2 := (m.setSeg g.target { m.seg g.target with cond := .bound }).setEntry g.lseg g.targetEntry
  { m2 with migs := m2.migs.filter (fun (q : Migration) => decide (q.lseg ≠ g.lseg)) }
/-- The header of the target as migration `g` ends: SEALED, with the same SEQ. -/
def Tile.sealedHeader (x : Tile) (g : Migration) : Header :=
  { x.med.header g.target 0 with state := 1, moves := (x.map.seg g.target).moves }
/-- The state with the target of migration `g` SEALED and the map switched. -/
def State.mapSwitched (s : State) (t : Nat) (g : Migration) : State :=
  (s.writeHeader t g.target ((s.tile t).sealedHeader g)).modMap t (fun m => m.switched g)
/-- The state with the source of migration `g` given up. -/
def State.sourceGiven (s : State) (t : Nat) (g : Migration) : State :=
  if g.reason = 2 ∨ g.reason = 5 then s.retire t g.source g.reason else s.release t g.source

theorem State.mapSwitched_tile (s : State) (t : Nat) (g : Migration) (ht : t < s.tiles.length) : (s.mapSwitched t g).tile t =
    { s.tile t with med := (s.tile t).med.headed g.target ((s.tile t).sealedHeader g),
                    map := ((s.tile t).map.aged g.target ((s.tile t).sealedHeader g)).switched g } := by
  rw [State.mapSwitched, State.modMap_tile_same _ _ _ (by simpa using ht), State.writeHeader_tile _ _ _ _ ht]
  rfl
@[simp] theorem State.mapSwitched_tiles_length (s : State) (t : Nat) (g : Migration) : (s.mapSwitched t g).tiles.length = s.tiles.length := by
  simp [State.mapSwitched]
theorem TileMap.switched_entry (m : TileMap) (g : Migration) : (m.switched g).entry g.lseg = g.targetEntry :=
  TileMap.entry_setEntry_same (m.setSeg g.target { m.seg g.target with cond := .bound }) g.lseg g.targetEntry
    (MapEntry.ne_fresh_of_st (by simp [Migration.targetEntry]))
theorem TileMap.switched_target (m : TileMap) (g : Migration) : (m.switched g).seg g.target = { m.seg g.target with cond := .bound } :=
  TileMap.seg_setSeg_same m g.target { m.seg g.target with cond := .bound } (Seg.ne_shipped_of_cond (by simp))

theorem State.sourceGiven_givesUp (s : State) (t : Nat) (g : Migration) (ht : t < s.tiles.length) :
    State.GivesUp t g.source (if g.reason = 2 ∨ g.reason = 5 then .retired else .free) s (s.sourceGiven t g) := by
  unfold State.sourceGiven
  split
  · exact s.retire_givesUp t g.source g.reason ht
  · exact s.release_givesUp t g.source ht
/-- Once the source is given up, the end of a migration leaves the segments alone. -/
theorem State.keepsSegments_closeMigration (s : State) (t : Nat) (g : Migration) :
    ((s.mapSwitched t g).sourceGiven t g).KeepsSegments (s.closeMigration t g) := by
  unfold State.closeMigration
  extract_lets before h s1 s2 s3 pins s4 s5
  have unpinned : s3.KeepsSegments s4 := s3.keepsSegments_each _ _ (fun u e => State.SameMedium.keepsSegments (State.Stands.sameMedium
    (((u.stands_modRes t _).trans (State.stands_shadowFor ..)).trans (State.stands_shadowFor ..))))
  have recorded : s4.KeepsSegments s5 := State.keepsSegments_of_tiles (by simp [s5])
  have relieved : s5.KeepsSegments (s5.relievePins t before) := s5.keepsSegments_relievePins t before
  exact (unpinned.trans recorded).trans (.ite relieved (relieved.trans (State.keepsSegments_evalHealth _)))

theorem exec_migrationDone (t lseg : Nat) (g : Migration) (s : State) (ht : t < s.n)
    (hfind : (s.tile t).map.migs.find? (fun g => decide (g.lseg = lseg)) = some g) (hptr : g.ptr = segStripes)
    (hbusy : (s.tile t).segBusy t lseg = false) : exec (.migrationDone t lseg) s = .next (s.closeMigration t g) := by
  show execMigrationDone t lseg s = _
  unfold execMigrationDone
  simp only [hfind]
  rw [if_pos ⟨ht, hptr, by rw [hbusy]; rfl⟩]
theorem migrationDone_switches (t lseg : Nat) (g : Migration) (s : State) (ht : t < s.n) (hs : s.Sized)
    (hfind : (s.tile t).map.migs.find? (fun g => decide (g.lseg = lseg)) = some g) (hptr : g.ptr = segStripes) (hne : g.source ≠ g.target)
    (hbusy : (s.tile t).segBusy t lseg = false) :
    ∃ u, exec (.migrationDone t lseg) s = .next u ∧
      (u.tile t).map.entry lseg = { st := .bound, pseg := g.target, writes := 0, omega := g.tomega } ∧
      ((u.tile t).map.seg g.target).cond = .bound ∧
      ((u.tile t).map.seg g.source).cond = (if g.reason = 2 ∨ g.reason = 5 then .retired else .free) ∧
      ((u.tile t).med.header g.target 0).state = 1 ∧ (u.tile t).med.slots = (s.tile t).med.slots := by
  have hlen : t < s.tiles.length := hs.tile_listed ht
  obtain rfl : g.lseg = lseg := by simpa using List.find?_some hfind
  have hswitched := s.mapSwitched_tile t g hlen
  have hgiven := (s.mapSwitched t g).sourceGiven_givesUp t g (by simpa using hlen)
  have hkept := s.keepsSegments_closeMigration t g
  refine ⟨_, exec_migrationDone t g.lseg g s ht hfind hptr hbusy, ?_, ?_, ?_, ?_, ?_⟩
  · rw [hkept.entry, TileMap.entry, hgiven.map, ← TileMap.entry, hswitched]
    exact TileMap.switched_entry _ g
  · rw [hkept.seg, hgiven.others _ hne, hswitched]
    exact congrArg Seg.cond (TileMap.switched_target _ g)
  · rw [hkept.seg, hgiven.seg]
  · rw [hkept.med, hgiven.headers _ 0 hne (by decide), hswitched]
    exact congrArg Header.state (TileMed.header_headed_same _ _ 0 _ (by decide) (.inl (Header.ne_shipped_of_state (by simp [Tile.sealedHeader]))))
  · rw [hkept.med, hgiven.slots, hswitched]
    rfl

/-- Settles O21: a clause for the start, one for a stripe, one for the end. -/
theorem migrations : Obligations.Migrations := by
  unfold Obligations.Migrations
  exact ⟨migrationStarted_opens, migrationStripeCopy_advances, migrationDone_switches⟩

end Sys2Proof.Machine
end

section
/-! Proofs of 08_patrol_and_drift.md: the refresh of a member at a patrol visit (R229, R230). -/
namespace Sys2Proof.Machine
open Sys2Proof

/-! ### The refresh stroke (R229, R230) -/

/-- From `s` to `u` a refresh stroke of codeword `w` has been queued in tile `t`; but for reservoirs, counters and messages all stands. -/
structure State.Refreshes (s u : State) (t slot : Nat) (w : Codeword) : Prop where
  stands : s.Stands u
  queued : ∃ k ∈ (u.tile t).res.strokes, k.kind = .refresh ∧ k.slot = slot ∧ k.word = w

theorem State.Refreshes.trans {s u v : State} {t slot : Nat} {w : Codeword} (h : s.Refreshes u t slot w) (hs : u.Stands v) (hk : u.KeepsStrokes v) :
    s.Refreshes v t slot w :=
  ⟨h.stands.trans hs, by rw [hk.strokes]; exact h.queued⟩
theorem State.Refreshes.of_stands {s u v : State} {t slot : Nat} {w : Codeword} (h : u.Refreshes v t slot w) (hs : s.Stands u) :
    s.Refreshes v t slot w := ⟨hs.trans h.stands, h.queued⟩
theorem State.stands_queueStroke (s : State) (t : Nat) (k : Stroke) : s.Stands (s.queueStroke t k) := by
  unfold State.queueStroke
  extract_lets held s1
  have h1 : s.Stands s1 := s.stands_modRes t _
  exact h1.trans (.ite (s1.stands_tcount ..) (.refl s1))
/-- A queued stroke is the one given but for its number and its hold. -/
theorem State.mem_queueStroke (s : State) (t : Nat) (k : Stroke) (ht : t < s.tiles.length) :
    ∃ id held, { k with id := id, held := held } ∈ ((s.queueStroke t k).tile t).res.strokes := by
  unfold State.queueStroke
  extract_lets held s1
  have h1 : { k with id := (s.tile t).res.seqCtr, held := held } ∈ (s1.tile t).res.strokes := by
    simp only [s1, State.modRes_eq, State.tile_modTile_same _ _ _ ht]
    exact List.mem_append_right _ (List.mem_singleton_self _)
  exact ⟨_, _, State.Queues.strokes (.ite (s1.queues_tcount ..) (.refl s1)) t _ h1⟩
theorem TileRes.place_strokes (r : TileRes) (e : Entry) : (r.place e).1.strokes = r.strokes := by
  unfold TileRes.place
  extract_lets
  split <;> rfl
theorem State.refreshMember_refreshes (s : State) (t part lseg st pos : Nat) (c : Copy) (w : Codeword) (prio : Nat) (ht : t < s.tiles.length) :
    s.Refreshes (s.refreshMember t part lseg st pos c w prio) t ((s.tile t).finalSlot (c.slot st pos)) w := by
  unfold State.refreshMember
  extract_lets x S slot ver d put
  have hput (parity : Bool) (addr : Nat) : s.Refreshes (put parity addr) t slot w := by
    obtain ⟨id, held, hk⟩ := State.mem_queueStroke (s.modRes t _) t (Stroke.mk0 .refresh parity addr slot w ver 0 prio false)
      (by simpa using ht)
    exact ⟨(s.stands_modRes t _).trans (State.stands_queueStroke ..), _, hk, rfl, rfl, rfl⟩
  have hline (u : State) (f : TileRes → TileRes) (lla : Nat) (hf : ∀ r, (f r).strokes = r.strokes) (h : s.Refreshes u t slot w) :
      s.Refreshes ((u.modRes t f).shadowLine t lla) t slot w :=
    (h.trans (u.stands_modRes t f) (u.keepsStrokes_modRes t f hf)).trans (State.stands_shadowFor ..) (State.keepsStrokes_shadowFor ..)
  split
  · exact hput ..
  next lla _ =>
    extract_lets s1 e
    have h1 : s.Refreshes s1 t slot w := hput ..
    split
    · split
      · exact hline _ _ _ (fun _ => rfl) h1
      · exact h1
    · split
      · exact h1
      · exact hline _ _ _ (fun _ => TileRes.place_strokes _ _) h1

end Sys2Proof.Machine
end

section
/-! Proofs of 08_patrol_and_drift.md: a visit of the patrol treats a member (R229, R231, R232). -/
namespace Sys2Proof.Machine
open Sys2Proof

/-! ### Where a visit stands -/

/-- Where a visit stands: the segment, the next stripe and the next member (R229). -/
def TilePat.place (x : TilePat) : Option Nat × Nat × Nat := (x.visit, x.nextStripe, x.nextMember)
theorem TilePat.place_eq_iff (x y : TilePat) :
    x.place = y.place ↔ x.visit = y.visit ∧ x.nextStripe = y.nextStripe ∧ x.nextMember = y.nextMember := by simp [TilePat.place]
theorem TilePat.step_visit (x : TilePat) : x.step.visit = x.visit := by
  unfold TilePat.step
  split <;> rfl
/-- The step of a visit rests on where it stands alone. -/
theorem TilePat.step_place (x y : TilePat) (h : x.place = y.place) : x.step.place = y.step.place := by
  obtain ⟨hvisit, hstripe, hmember⟩ := (x.place_eq_iff y).1 h
  unfold TilePat.step
  rw [hmember]
  split <;> simp [TilePat.place, hvisit, hstripe]

/-- From `s` to `u` no slot of the medium, no stroke and no place of a visit changes. -/
structure State.KeepsVisits (s u : State) : Prop extends State.KeepsStrokes s u where
  listed : u.tiles.length = s.tiles.length
  place : ∀ v, (u.tile v).pat.place = (s.tile v).pat.place

theorem State.KeepsVisits.refl (s : State) : s.KeepsVisits s := ⟨.refl s, rfl, fun _ => rfl⟩
theorem State.KeepsVisits.trans {s t u : State} (a : s.KeepsVisits t) (b : t.KeepsVisits u) : s.KeepsVisits u :=
  ⟨a.toKeepsStrokes.trans b.toKeepsStrokes, b.listed.trans a.listed, fun v => (b.place v).trans (a.place v)⟩
theorem State.KeepsVisits.ite {s u v : State} {c : Prop} [Decidable c] (a : s.KeepsVisits u) (b : s.KeepsVisits v) :
    s.KeepsVisits (if c then u else v) := by
  split
  · exact a
  · exact b
theorem State.keepsVisits_of_tiles {s u : State} (h : u.tiles = s.tiles) : s.KeepsVisits u := by
  have htile (v : Nat) : u.tile v = s.tile v := by simp only [State.tile, h]
  exact ⟨⟨fun v => by rw [htile], fun v => by rw [htile]⟩, by rw [h], fun v => by rw [htile]⟩
theorem State.keepsVisits_modPat (s : State) (t : Nat) (f : TilePat → TilePat) (hf : ∀ x, (f x).place = x.place) : s.KeepsVisits (s.modPat t f) :=
  ⟨s.keepsStrokes_modTile t _ (fun _ => rfl) (fun _ => rfl), State.modTile_tiles_length ..,
    fun v => State.modTile_keeps (fun x => x.pat.place) s t v _ (fun x => hf x.pat)⟩
theorem State.keepsVisits_trigger (s : State) (t lseg reason : Nat) : s.KeepsVisits (s.trigger t lseg reason) :=
  ⟨s.keepsStrokes_modTile t _ (fun _ => rfl) (fun _ => rfl), State.modTile_tiles_length ..,
    fun v => State.modTile_keeps (fun x => x.pat.place) s t v _ (fun _ => rfl)⟩
/-- A weak segment is recorded, and its migration triggered (R232): the visit stands where it did. -/
theorem State.keepsVisits_noteWeak (s : State) (t p lseg : Nat) (before : Nat × Nat) : s.KeepsVisits (s.noteWeak t p lseg before) :=
  .ite ((State.keepsVisits_of_tiles (by simp)).trans (State.keepsVisits_trigger ..)) (.refl s)

/-! ### A member that decodes CLEAN (R229) -/

theorem State.SameMedium.finalSlot {s u : State} (h : s.SameMedium u) (v a : Nat) : (u.tile v).finalSlot a = (s.tile v).finalSlot a := by
  simp only [Tile.finalSlot, (h v).1, (h v).2]
theorem State.stands_ownRead (s : State) (t part lseg st pos base : Nat) (c : Copy) : s.Stands (s.ownRead t part lseg st pos base c) := by
  obtain ⟨owed, h⟩ := s.ownRead_only t part lseg st pos base c
  rw [h]
  exact .of_eq rfl rfl rfl rfl rfl rfl

/-- The member at which a visit of segment `p` stands, found CLEAN, is stroked again with the same codeword, and the visit goes on. -/
theorem State.visitMember_clean (s : State) (t p weakCells : Nat) (g : Seg) (c : Copy) (st pos : Nat) (d : Line) (ht : t < s.tiles.length)
    (hg : g = (s.tile t).map.seg p) (hc : c = { pseg := p, omega := g.omega, moves := g.moves }) (hst : st = (s.tile t).pat.nextStripe)
    (hpos : pos = (s.tile t).pat.nextMember) (hbusy : (s.tile t).memberBusy g.lseg st pos c = false)
    (hok : (s.tile t).slotFailed ((s.tile t).finalSlot (c.slot st pos)) = false)
    (hdec : (s.tile t).decodeMember g.lseg st pos c 0 = .clean d) :
    ∃ u v, s.visitMember t p weakCells 0 = v.modPat t TilePat.step ∧ u.KeepsVisits v ∧
      s.Refreshes u t ((s.tile t).finalSlot (c.slot st pos)) (encodeLine (memberKey g.lseg st (c.stripe st) pos) d) := by
  subst hg hc hst hpos
  unfold State.visitMember
  extract_lets x g c st pos S part before next slot key weak plain s1 dec s2 s3 strokes wk done
  rw [if_neg (ne_true_of_eq_false hbusy), if_neg (ne_true_of_eq_false hok)]
  have hclean : dec = .clean d := hdec
  have h3 : s.Stands s3 := by
    have hnoted : s2 = s1.tcount t Cn.DECODE_CLEAN 1 := by simp only [s2, hclean, State.noteDecode]
    have h1 : s.Stands s1 := (s.stands_ownRead ..).trans (State.stands_tcount ..)
    have h2 : s1.Stands s2 := hnoted ▸ s1.stands_tcount ..
    exact (h1.trans h2).trans (.ite (s2.stands_tcount ..) (.refl s2))
  have hslot : (s3.tile t).finalSlot (c.slot st pos) = slot := h3.sameMedium.finalSlot t _
  have hrefresh := s3.refreshMember_refreshes t part g.lseg st pos c (encodeLine key d) (if weak then 3 else plain) (by rw [h3.listed]; exact ht)
  rw [hslot] at hrefresh
  have hstrokes (u : State) : u.KeepsVisits (strokes u) := State.keepsVisits_of_tiles (by simp [strokes])
  have hwk (u : State) : u.KeepsVisits (wk u) := u.keepsVisits_modPat t _ (fun _ => rfl)
  refine ⟨_, done.noteWeak t p g.lseg before, rfl, ?_, hrefresh.of_stands h3⟩
  have hdone : done = let s4 := strokes (s3.refreshMember t part g.lseg st pos c (encodeLine key d) (if weak then 3 else plain))
      if weak then wk s4 else s4 := by simp only [done, hclean]
  rw [hdone]
  exact ((hstrokes _).trans (.ite (hwk _) (.refl _))).trans (State.keepsVisits_noteWeak ..)

theorem exec_patrolVisitMember_bound (t p weakCells : Nat) (err : Codeword) (s : State) (ht : t < s.n) (hst : s.dev.st ≠ .drain)
    (hq : (s.tile t).res.refreshQueue < 4096) (hv : (s.tile t).pat.visit = some p) (hn : (s.tile t).pat.nextStripe < segStripes)
    (hbound : ((s.tile t).map.seg p).cond = .bound) :
    exec (.patrolVisitMember t weakCells err) s = .next (s.visitMember t p weakCells err) := by
  show execPatrolVisitMember t weakCells err s = _
  simp [execPatrolVisitMember, ht, hst, hq, hv, hbound, Nat.not_le.2 hn]
theorem patrolVisitMember_refreshes (t p : Nat) (d : Line) (s : State) (ht : t < s.n) (hs : s.Sized) (hst : s.dev.st ≠ .drain)
    (hq : (s.tile t).res.refreshQueue < 4096) (hv : (s.tile t).pat.visit = some p) (hn : (s.tile t).pat.nextStripe < segStripes)
    (hbound : ((s.tile t).map.seg p).cond = .bound) :
    let x := s.tile t
    let g := x.map.seg p
    let c : Copy := { pseg := p, omega := g.omega, moves := g.moves }
    let st := x.pat.nextStripe
    let pos := x.pat.nextMember
    let key := memberKey g.lseg st (c.stripe st) pos
    let slot := x.finalSlot (c.slot st pos)
    x.memberBusy g.lseg st pos c = false → x.slotFailed slot = false → decodeLine key (x.codeword slot key) = .clean d →
    ∃ u, exec (.patrolVisitMember t 0 0) s = .next u ∧ (u.tile t).pat.nextStripe = x.pat.step.nextStripe ∧
      (u.tile t).pat.nextMember = x.pat.step.nextMember ∧ (u.tile t).pat.visit = some p ∧ (u.tile t).med.slots = x.med.slots ∧
      ∃ k ∈ (u.tile t).res.strokes, k.kind = .refresh ∧ k.slot = slot ∧ k.word = encodeLine key d := by
  intro x g c st pos key slot hbusy hok hclean
  have hdec : x.decodeMember g.lseg st pos c 0 = .clean d := by
    rw [Tile.decodeMember, show x.codeword slot key ^^^ 0 = x.codeword slot key from BitVec.xor_zero]
    exact hclean
  obtain ⟨u, v, hvisit, hkeeps, hstands, hqueued⟩ :=
    s.visitMember_clean t p 0 g c st pos d (hs.tile_listed ht) rfl rfl rfl rfl hbusy hok hdec
  have hlen : t < v.tiles.length := by
    rw [hkeeps.listed, hstands.listed]
    exact hs.tile_listed ht
  have htile : (v.modPat t TilePat.step).tile t = { v.tile t with pat := (v.tile t).pat.step } := State.tile_modTile_same _ _ _ hlen
  have hpat : (u.tile t).pat = x.pat := (congrArg Tile.pat (hstands.beside t) :)
  have hplace : (v.tile t).pat.step.place = x.pat.step.place := TilePat.step_place _ _ ((hkeeps.place t).trans (congrArg TilePat.place hpat))
  obtain ⟨hv', hstripe, hmember⟩ := (TilePat.place_eq_iff _ _).1 hplace
  refine ⟨_, exec_patrolVisitMember_bound t p 0 0 s ht hst hq hv hn hbound, ?_⟩
  rw [hvisit, htile]
  refine ⟨hstripe, hmember, hv'.trans ((TilePat.step_visit _).trans hv), ?_, ?_⟩
  · exact (hkeeps.slots t).trans (congrArg TileMed.slots (hstands.sameMedium t).1)
  · rw [← hkeeps.strokes] at hqueued
    exact hqueued

end Sys2Proof.Machine
end

section
/-! Proofs of 08_patrol_and_drift.md: the end of a visit rewrites both headers (R229). -/
namespace Sys2Proof.Machine
open Sys2Proof

/-! ### The headers (R190, R229) -/

theorem State.freshSeq_recs (s : State) (t : Nat) : (s.freshSeq t).1.recs = s.recs := by
  unfold State.freshSeq
  simp only []
  split <;> rfl
theorem State.residueSeq_recs (s : State) (t omega : Nat) : (s.residueSeq t omega).1.recs = s.recs := State.freshSeq_recs ..
theorem State.residueSeq_tiles_length (s : State) (t omega : Nat) : (s.residueSeq t omega).1.tiles.length = s.tiles.length := by
  simp [State.residueSeq]
theorem State.residueSeq_med (s : State) (t omega : Nat) (ht : t < s.tiles.length) : ((s.residueSeq t omega).1.tile t).med = (s.tile t).med := by
  unfold State.residueSeq
  extract_lets c skip
  obtain ⟨ceil, ps, h⟩ := (s.modMap t (fun m => { m with seqCtr := c + skip })).freshSeq_tile t (by simpa using ht)
  rw [h, State.modMap_tile_same _ _ _ ht]

/-- The state with HEADER_REWRITTEN recorded when a header copy of segment `p` was found not valid. -/
def State.noteHeaders (s : State) (t p : Nat) (bad0 bad1 : Bool) : State :=
  if bad0 || bad1 then s.tev t Ev.HEADER_REWRITTEN 0xFF p [(1, bitNat bad0 + 2 * bitNat bad1)] else s
@[simp] theorem State.noteHeaders_tiles (s : State) (t p : Nat) (bad0 bad1 : Bool) : (s.noteHeaders t p bad0 bad1).tiles = s.tiles := by
  unfold State.noteHeaders
  split <;> simp
@[simp] theorem State.noteHeaders_tile (s : State) (t p v : Nat) (bad0 bad1 : Bool) : (s.noteHeaders t p bad0 bad1).tile v = s.tile v := by
  simp [State.tile]
theorem State.noteHeaders_reports (s : State) (t p : Nat) (bad1 : Bool) (ht : t < s.recs.length) :
    (s.noteHeaders t p true bad1).tileReports t Ev.HEADER_REWRITTEN := State.tev_reports _ _ _ _ _ _ ht
/-- Whichever copies are valid, one header with D0 and the MOVES of the map is written, at most after a fresh SEQ, and HEADER_REWRITTEN
recorded. -/
theorem State.visitHeaders_eq (s : State) (t p d0 : Nat) (bad0 bad1 : Bool) (ht : t < s.tiles.length) : ∃ (v : State) (h : Header),
    s.visitHeaders t p d0 bad0 bad1 = (v.writeHeader t p h).noteHeaders t p bad0 bad1 ∧ v.tiles.length = s.tiles.length ∧ v.recs = s.recs ∧
      (v.tile t).med = (s.tile t).med ∧ h.lastRefresh = d0 ∧ h.moves = ((s.tile t).map.seg p).moves := by
  unfold State.visitHeaders
  extract_lets x g h note
  split
  · exact ⟨_, _, rfl, s.residueSeq_tiles_length .., s.residueSeq_recs .., s.residueSeq_med t _ ht, rfl, rfl⟩
  · exact ⟨s, _, rfl, rfl, rfl, rfl, rfl, rfl⟩

/-! ### The end of a visit (R227, R229) -/

/-- A patrol with the visit of segment `p` over; it keeps the rounds of `interval` drift units. -/
def TilePat.visitOver (y : TilePat) (p interval : Nat) : TilePat :=
  { y with visit := none, first := y.first.filter (fun q => decide (q ≠ p)), accel := y.accel.filter (fun q => decide (q ≠ p)),
           roundDone := y.drift :: y.roundDone.filter (fun d => decide (driftDiff y.drift d < interval)) }
/-- A segment map with segment `p` visited at `now`. -/
def TileMap.visited (m : TileMap) (p now : Nat) : TileMap := m.setSeg p { m.seg p with visitedAt := now, class11 := false }
/-- The end of the visit of segment `p`, once its headers are rewritten. -/
def State.closeVisit (s : State) (t p now interval : Nat) : State :=
  ((((s.modMap t (fun m => m.visited p now)).modPat t (fun y => y.visitOver p interval)).tcount t Cn.PATROL_VISITS 1).clearOverdue t)
theorem exec_patrolVisitEnd (t p : Nat) (bad0 bad1 : Bool) (s : State) (ht : t < s.n) (hst : s.dev.st ≠ .drain)
    (hv : (s.tile t).pat.visit = some p) (hn : segStripes ≤ (s.tile t).pat.nextStripe) (hr : (s.tile t).res.refreshes = []) :
    exec (.patrolVisitEnd t bad0 bad1) s =
      .next (((s.headerTransfers t p 7).visitHeaders t p (s.tile t).pat.d0 bad0 bad1).closeVisit t p (s.now t) s.patrolInterval) := by
  show execPatrolVisitEnd t bad0 bad1 s = _
  unfold execPatrolVisitEnd
  rw [hv]
  exact congrArg Host.Outcome.next (if_pos ⟨ht, hst, hn, by rw [hr]; rfl⟩)
theorem State.clearOverdue_recs (s : State) (t : Nat) : (s.clearOverdue t).recs = s.recs := by
  unfold State.clearOverdue
  split <;> rfl
theorem State.keepsVisits_clearOverdue (s : State) (t : Nat) : s.KeepsVisits (s.clearOverdue t) :=
  .ite (.refl s) (s.keepsVisits_modPat t _ (fun _ => rfl))
theorem State.clearOverdue_med (s : State) (t : Nat) : ((s.clearOverdue t).tile t).med = (s.tile t).med := by
  unfold State.clearOverdue
  split
  · rfl
  · exact ((s.sameMedium_modPat t _) t).1
theorem State.closeVisit_recs (s : State) (t p now interval : Nat) : (s.closeVisit t p now interval).recs = s.recs := by
  simp [State.closeVisit, State.clearOverdue_recs]
theorem State.closeVisit_med (s : State) (t p now interval : Nat) : ((s.closeVisit t p now interval).tile t).med = (s.tile t).med := by
  rw [State.closeVisit, State.clearOverdue_med, State.tcount_tile]
  exact ((State.sameMedium_modPat _ t _) t).1.trans (State.modTile_keeps Tile.med s t t _ (fun _ => rfl))
theorem State.closeVisit_visit (s : State) (t p now interval : Nat) (ht : t < s.tiles.length) :
    ((s.closeVisit t p now interval).tile t).pat.visit = none := by
  refine (congrArg Prod.fst ((State.keepsVisits_clearOverdue _ t).place t)).trans ?_
  rw [State.tcount_tile, State.modPat_eq, State.tile_modTile_same _ _ _ (by simpa using ht)]
  rfl

theorem patrolVisitEnd_rewrites (t p : Nat) (bad0 bad1 : Bool) (s : State) (ht : t < s.n) (hs : s.Sized) (hst : s.dev.st ≠ .drain)
    (hv : (s.tile t).pat.visit = some p) (hn : segStripes ≤ (s.tile t).pat.nextStripe) (hr : (s.tile t).res.refreshes = [])
    (hwf : (s.tile t).med.hdr.wf = true) :
    ∃ u, exec (.patrolVisitEnd t bad0 bad1) s = .next u ∧ (u.tile t).pat.visit = none ∧
      (∀ c, c < 2 → ((u.tile t).med.header p c).lastRefresh = (s.tile t).pat.d0 ∧
        ((u.tile t).med.header p c).moves = ((s.tile t).map.seg p).moves) ∧
      (u.tile t).med.slots = (s.tile t).med.slots ∧ (bad0 = true → u.tileReports t Ev.HEADER_REWRITTEN) := by
  have hlen : t < s.tiles.length := hs.tile_listed ht
  obtain ⟨v, h, heq, hlisted, hrecs, hmed, hrefresh, hmoves⟩ := (s.headerTransfers t p 7).visitHeaders_eq t p (s.tile t).pat.d0 bad0 bad1 hlen
  have hvlen : t < v.tiles.length := by rw [hlisted]; exact hlen
  refine ⟨_, exec_patrolVisitEnd t p bad0 bad1 s ht hst hv hn hr, ?_⟩
  rw [heq]
  have hheaded : ((((v.writeHeader t p h).noteHeaders t p bad0 bad1).closeVisit t p (s.now t) s.patrolInterval).tile t).med =
      (s.tile t).med.headed p h := by
    rw [State.closeVisit_med, State.noteHeaders_tile, State.writeHeader_tile _ _ _ _ hvlen, Tile.headed, hmed]
    rfl
  refine ⟨State.closeVisit_visit _ _ _ _ _ (by simpa using hvlen), fun c hc => ?_, by rw [hheaded]; rfl, ?_⟩
  · rw [hheaded, TileMed.header_headed_same _ _ _ _ hc (.inr hwf)]
    exact ⟨hrefresh, hmoves⟩
  · rintro rfl
    refine State.reports_of_recs _ _ _ _ (State.closeVisit_recs ..) (State.noteHeaders_reports _ t p bad1 ?_)
    exact (congrArg List.length hrecs) ▸ hs.tile_recorder ht

/-- Settles O23: a clause for a member found CLEAN, one for the end of a visit. -/
theorem patrolVisits : Obligations.PatrolVisits := by
  unfold Obligations.PatrolVisits
  exact ⟨patrolVisitMember_refreshes, patrolVisitEnd_rewrites⟩

end Sys2Proof.Machine
end

section
/-! Proofs of 09_fault_containment.md: a tile becomes suspect: FENCING, its ring links and its port's link out of use (R253 to R255, R387). -/
namespace Sys2Proof.Machine
open Sys2Proof

/-! ### What ends with a link (R154, R286, R318, R330, R387) -/

/-- From `s` to `u` requests, words, messages and sessions may end: the state of the device, the links of the ports and the fences, timebases and
ring links of the tiles stand, and no recorded event is lost. -/
structure State.Drops (s u : State) : Prop where
  part : u.part = s.part
  dev : u.dev = s.dev
  up : ∀ p, (u.port p).up = (s.port p).up
  fence : ∀ v, (u.tile v).fence = (s.tile v).fence
  time : ∀ v, (u.tile v).time = (s.tile v).time
  reports : ∀ r c, s.reports r c → u.reports r c

theorem State.Drops.refl (s : State) : s.Drops s := ⟨rfl, rfl, fun _ => rfl, fun _ => rfl, fun _ => rfl, fun _ _ h => h⟩
theorem State.Drops.trans {s t u : State} (a : s.Drops t) (b : t.Drops u) : s.Drops u :=
  ⟨b.part.trans a.part, b.dev.trans a.dev, fun p => (b.up p).trans (a.up p), fun v => (b.fence v).trans (a.fence v),
    fun v => (b.time v).trans (a.time v), fun r c h => b.reports r c (a.reports r c h)⟩
theorem State.Drops.ite {s u v : State} {c : Prop} [Decidable c] (a : s.Drops u) (b : s.Drops v) : s.Drops (if c then u else v) := by
  split
  · exact a
  · exact b
theorem State.Drops.of_eq {s u : State} (part : u.part = s.part) (dev : u.dev = s.dev) (ports : u.ports = s.ports) (tiles : u.tiles = s.tiles)
    (recs : u.recs = s.recs) : s.Drops u :=
  ⟨part, dev, fun _ => by simp only [State.port, ports], fun _ => by simp only [State.tile, tiles], fun _ => by simp only [State.tile, tiles],
    fun r c => State.reports_of_recs s u r c recs⟩
theorem State.drops_each {α : Type} (s : State) (l : List α) (f : State → α → State) (h : ∀ u x, State.Drops u (f u x)) : s.Drops (s.each l f) :=
  State.each_induct s.Drops s l f (State.Drops.refl s) (fun u x _ hu => hu.trans (h u x))
theorem State.drops_modTile (s : State) (t : Nat) (f : Tile → Tile) (hfence : ∀ x, (f x).fence = x.fence) (htime : ∀ x, (f x).time = x.time) :
    s.Drops (s.modTile t f) :=
  ⟨rfl, rfl, fun _ => rfl, fun v => State.modTile_keeps Tile.fence s t v f hfence, fun v => State.modTile_keeps Tile.time s t v f htime,
    fun r c => State.reports_of_recs s _ r c rfl⟩
theorem State.drops_modRd (s : State) (t : Nat) (f : TileRead → TileRead) : s.Drops (s.modRd t f) := s.drops_modTile t _ (fun _ => rfl) (fun _ => rfl)
theorem State.drops_modPort (s : State) (p : Nat) (f : Port → Port) (h : ∀ x, (f x).up = x.up) : s.Drops (s.modPort p f) :=
  ⟨rfl, rfl, fun q => s.modPort_up p q f h, fun _ => rfl, fun _ => rfl, fun r c => State.reports_of_recs s _ r c rfl⟩
theorem State.drops_tev (s : State) (t num cls value : Nat) (qs : List (Nat × Nat)) : s.Drops (s.tev t num cls value qs) :=
  ⟨by simp, by simp, by simp, by simp, by simp, fun r c => s.reports_tev r c t num cls value qs⟩
theorem State.drops_pev (s : State) (code value : Nat) (qs : List (Nat × Nat)) : s.Drops (s.pev code value qs) :=
  ⟨by simp, by simp, by simp, by simp, by simp, fun r c => s.reports_pev r c code value qs⟩
theorem State.drops_raise (s : State) (a b c : Nat) : s.Drops (s.raise a b c) := .of_eq (by simp) (by simp) (by simp) (by simp) (by simp)

theorem State.drops_discardReads (s : State) (t p : Nat) (l : Option Nat) : s.Drops (s.discardReads t p l) := by
  have hnib (u : State) (id : Nat) : u.Drops (u.endNib t id) := by
    unfold State.endNib
    split
    · exact .refl u
    · split
      · exact .refl u
      · exact u.drops_modRd _ _
  have hretire (u : State) (id : Nat) : u.Drops (u.retireRd t id) := .ite (.refl u) (u.drops_modRd _ _)
  unfold State.discardReads
  extract_lets x rds waits s1 s2
  have h1 : s.Drops s1 := s.drops_each _ _ (fun u r => ((hnib u r.id).trans (State.drops_modRd _ t _)).trans (hretire _ _))
  have h2 : s1.Drops s2 := s1.drops_each _ _ (fun u _ => u.drops_modRd t _)
  exact (h1.trans h2).trans (s2.drops_modTile t _ (fun _ => rfl) (fun _ => rfl))
theorem State.drops_discard (s : State) (p : Nat) (l : Option Nat) : s.Drops (s.discard p l) := by
  unfold State.discard
  extract_lets lost lds s1 s2
  have hwords : s.Drops (s.flushOwned p l) := .of_eq rfl rfl rfl rfl rfl
  have h1 : s.Drops s1 := hwords.trans (State.drops_each _ _ _ (fun u t => u.drops_discardReads t p l))
  have h2 : s1.Drops s2 := s1.drops_modPort p _ (fun _ => rfl)
  exact (h1.trans h2).trans (s2.drops_each _ _ (fun u _ => u.drops_tev _ _ _ _ _))
/-- The end of a debug unlock takes armed flip masks with it, which are of the media (R98, R286). -/
theorem State.drops_relock (s : State) (cause : Nat) : s.Drops (s.relock cause) := by
  have hflip (u : State) (t c : Nat) : u.Drops (u.discardFlip t c) := by
    have hmed (f : TileMed → TileMed) : u.Drops (u.modMed t f) := u.drops_modTile t _ (fun _ => rfl) (fun _ => rfl)
    unfold State.discardFlip
    split
    · exact ((hmed _).trans (State.drops_raise ..)).trans (State.drops_tev ..)
    · exact .refl u
  have hpermit (u : State) (on : Bool) : u.Drops (u.permitTest on) := by
    have h1 : u.Drops { u with svc := { u.svc with testPermitted := on } } := .of_eq rfl rfl rfl rfl rfl
    exact .ite (h1.trans (State.drops_each _ _ _ (fun v t => hflip v t 2))) h1
  have hunlock (svc : Service) (obj : Sparse Nat) : s.Drops { s with svc := svc, obj := obj } := .of_eq rfl rfl rfl rfl rfl
  unfold State.relock
  split
  · exact .refl s
  · exact ((hunlock _ _).trans (hpermit _ false)).trans (State.drops_pev ..)
theorem State.drops_endSession (s : State) (id : Nat) : s.Drops (s.endSession id) := by
  have hended (m : Mgmt) : s.Drops { s with mgmt := m } := .of_eq rfl rfl rfl rfl rfl
  exact .ite ((hended _).trans (State.drops_relock ..)) (hended _)
/-- Beside the port's own link nothing of the port states, the fences and the device's state goes with a link. -/
theorem State.drops_linkDown (s : State) (p cause : Nat) (hup : (s.port p).up = true) : (s.modPort p Port.down).Drops (s.linkDown p cause) := by
  unfold State.linkDown
  rw [if_pos hup]
  extract_lets s1 s2 s3
  have h1 : (s.modPort p Port.down).Drops s1 := State.drops_discard ..
  have h2 : s1.Drops s2 := .of_eq rfl rfl rfl rfl rfl
  have h3 : s2.Drops s3 := s2.drops_each _ _ (fun u id => u.drops_endSession id)
  exact ((h1.trans h2).trans h3).trans ((State.drops_raise ..).trans (State.drops_tev ..))

theorem State.drops_abandonQueues (s : State) (t : Nat) : s.Drops (s.abandonQueues t) := by
  unfold State.abandonQueues
  extract_lets s1
  have h1 : s.Drops s1 := .of_eq rfl rfl rfl rfl rfl
  exact h1.trans (s1.drops_modRd t _)

/-! ### Suspicion (R253, R254) -/

/-- The state in which tile `t` is FENCING with its cause, its ring links blocked (R254 steps 1 and 2). -/
def State.fencingMarked (s : State) (t cause : Nat) : State :=
  let s1 := s.modFence t (fun f => { f with st := .fencing, cause := cause, firstCause := cause })
  ((((s1.setCell Ob.FENCE_COUNT (satAdd 65535 (s1.cell Ob.FENCE_COUNT 0) 1)).count Cn.TILE_FENCES 1).pevAt (fenceTile t) Ev.TILE_FENCING 0xFF t
    [(1, cause)]).modTime t (fun x => { x with linkE := false, linkW := false }))
theorem State.suspect_of_active (s : State) (t cause : Nat) (ht : t < s.n) (hf : s.fenceStates = true) (ha : s.tileActive t = true) :
    s.suspect t cause =
      (((s.fencingMarked t cause).linkDown ((s.fencingMarked t cause).portOfTile t) 5).abandonQueues t).degrade := by
  have hst : (s.tile t).fence.st = .active := of_decide_eq_true ha
  unfold State.suspect
  rw [if_pos ⟨ht, hf⟩, hst]
  rfl
theorem State.fencingMarked_tile (s : State) (t cause : Nat) (ht : t < s.tiles.length) : (s.fencingMarked t cause).tile t =
    { s.tile t with fence := { (s.tile t).fence with st := .fencing, cause := cause, firstCause := cause },
                    time := { (s.tile t).time with linkE := false, linkW := false } } := by
  have hset (u : State) (k v w : Nat) : (u.setCell k v).tile w = u.tile w := rfl
  simp only [State.fencingMarked, State.modTime_eq, State.modFence_eq]
  rw [State.tile_modTile_same _ _ _ (by simpa [State.setCell] using ht), State.pevAt_tile, State.count_tile, hset,
    State.tile_modTile_same _ _ _ ht]
theorem State.fencingMarked_keeps {β : Type} (g : State → β) (s : State) (t cause : Nat) (hm : ∀ s t f, g (State.modTile s t f) = g s)
    (hc : ∀ s k v, g (State.setCell s k v) = g s) (hk : ∀ s num k, g (State.count s num k) = g s)
    (he : ∀ s t code cls v qs, g (State.pevAt s t code cls v qs) = g s) : g (s.fencingMarked t cause) = g s := by
  simp only [State.fencingMarked, State.modTime_eq, State.modFence_eq]
  rw [hm, he, hk, hc, hm]
theorem State.fencingMarked_part (s : State) (t cause : Nat) : (s.fencingMarked t cause).part = s.part :=
  s.fencingMarked_keeps State.part t cause (by simp) (by simp) (by simp) (by simp)
theorem State.fencingMarked_dev (s : State) (t cause : Nat) : (s.fencingMarked t cause).dev = s.dev :=
  s.fencingMarked_keeps State.dev t cause (by simp) (by simp) (by simp) (by simp)
theorem State.fencingMarked_ports (s : State) (t cause : Nat) : (s.fencingMarked t cause).ports = s.ports :=
  s.fencingMarked_keeps State.ports t cause (by simp) (by simp) (by simp) (by simp)
theorem State.reports_fencingMarked (s : State) (t cause r c : Nat) (h : s.reports r c) : (s.fencingMarked t cause).reports r c := by
  refine State.reports_of_recs _ _ r c rfl (State.reports_pevAt _ _ _ _ _ _ _ _ (State.reports_count _ _ _ _ _ ?_))
  exact State.reports_of_recs s _ r c rfl h
theorem State.portOfTile_of_dev {s u : State} (h : u.dev = s.dev) (t : Nat) : u.portOfTile t = s.portOfTile t := by
  unfold State.portOfTile State.pairX8
  rw [h]
/-- The port that a tile carries or half-carries is one of the part (R18). -/
theorem State.portOfTile_le (s : State) (t : Nat) : s.portOfTile t ≤ t := by
  unfold State.portOfTile
  split <;> omega

/-- From `s` to `u` tile `t` has become suspect for a cause (R254): it is FENCING, its ring links and its port's link are out of use, a READY device is
DEGRADED; no recorded event is lost. -/
structure State.Suspects (s u : State) (t cause : Nat) : Prop where
  st : (u.tile t).fence.st = .fencing
  cause : (u.tile t).fence.cause = cause
  linkE : (u.tile t).time.linkE = false
  linkW : (u.tile t).time.linkW = false
  port : (u.port (s.portOfTile t)).up = false
  degrades : s.dev.st = .ready → u.dev.st = .degraded
  reports : ∀ r c, s.reports r c → u.reports r c

theorem State.degradedCondition_of_notActive (s : State) (t : Nat) (ht : t < s.n) (h : (s.tile t).fence.st ≠ .active) : s.degradedCondition = true := by
  have hmem : t ∈ s.tileNumbers := (s.mem_tileNumbers t).2 ht
  simp only [State.degradedCondition, Bool.or_eq_true, List.any_eq_true]
  exact .inl (.inl (.inl (.inl (.inl (.inr ⟨t, hmem, by simp [h]⟩)))))
theorem State.suspect_suspects (s : State) (t cause : Nat) (ht : t < s.n) (hs : s.Sized) (hf : s.fenceStates = true) (ha : s.tileActive t = true) :
    s.Suspects (s.suspect t cause) t cause := by
  have hport : (s.fencingMarked t cause).portOfTile t = s.portOfTile t := State.portOfTile_of_dev (State.fencingMarked_dev ..) t
  have hlisted : s.portOfTile t < (s.fencingMarked t cause).ports.length := by
    rw [State.fencingMarked_ports]
    exact Nat.lt_of_le_of_lt (s.portOfTile_le t) (Nat.lt_of_lt_of_le ht hs.ports)
  rw [s.suspect_of_active t cause ht hf ha, hport]
  obtain ⟨u, hdown, hcut, hlink⟩ : ∃ u, (u.port (s.portOfTile t)).up = false ∧ u.Drops ((s.fencingMarked t cause).linkDown (s.portOfTile t) 5) ∧
      (u = s.fencingMarked t cause ∨ u = (s.fencingMarked t cause).modPort (s.portOfTile t) Port.down) := by
    cases hup : ((s.fencingMarked t cause).port (s.portOfTile t)).up with
    | false => exact ⟨_, hup, by rw [State.linkDown, if_neg (ne_true_of_eq_false hup)]; exact .refl _, .inl rfl⟩
    | true => exact ⟨_, by rw [State.port_modPort_same _ _ _ hlisted]; rfl, State.drops_linkDown _ _ _ hup, .inr rfl⟩
  have hmarked : u.part = s.part ∧ u.dev = s.dev ∧ u.tile t = (s.fencingMarked t cause).tile t ∧ u.recs = (s.fencingMarked t cause).recs := by
    rcases hlink with rfl | rfl
    · exact ⟨State.fencingMarked_part .., State.fencingMarked_dev .., rfl, rfl⟩
    · exact ⟨State.fencingMarked_part .., State.fencingMarked_dev .., rfl, rfl⟩
  obtain ⟨hpart, hdev, htile, hrecs⟩ := hmarked
  rw [s.fencingMarked_tile t cause (hs.tile_listed ht)] at htile
  have hall := hcut.trans (State.drops_abandonQueues _ t)
  refine ⟨?_, ?_, ?_, ?_, ?_, fun hr => ?_, fun r c h => ?_⟩
  · rw [State.degrade_tile, hall.fence, htile]
  · rw [State.degrade_tile, hall.fence, htile]
  · rw [State.degrade_tile, hall.time, htile]
  · rw [State.degrade_tile, hall.time, htile]
  · rw [State.degrade_port, hall.up, hdown]
  · refine State.degrade_st_of_ready _ (by rw [hall.dev, hdev, hr]) (State.degradedCondition_of_notActive _ t ?_ ?_)
    · rw [State.n, hall.part, hpart]
      exact ht
    · rw [hall.fence, htile]
      exact TileState.noConfusion
  · exact State.reports_degrade _ _ _ (hall.reports r c (State.reports_of_recs _ u r c hrecs (s.reports_fencingMarked t cause r c h)))

/-! ### The ways in which a tile becomes suspect (R253) -/

theorem watchdogTrip_fences (issuer t block request : Nat) (s : State) (hi : issuer < s.n) (ht : t < s.n) (hs : s.Sized)
    (hf : s.fenceStates = true) (ha : s.tileActive t = true) :
    ∃ u, exec (.watchdogTrip issuer t block request) s = .next u ∧ (u.tile t).fence.st = .fencing ∧ (u.tile t).fence.cause = 1 ∧
      (u.tile t).time.linkE = false ∧ (u.tile t).time.linkW = false ∧ (u.port (s.portOfTile t)).up = false ∧
      (s.dev.st = .ready → u.dev.st = .degraded) ∧ u.tileReports issuer Ev.WATCHDOG_TRIP := by
  let s1 := (s.tcount issuer Cn.WATCHDOG_TRIPS 1).tev issuer Ev.WATCHDOG_TRIP 0xFF t [(1, block), (8, request)]
  have hdev : s1.dev = s.dev := by simp [s1]
  have hn : s1.n = s.n := by simp [s1]
  have hsized : s1.Sized := ⟨by simpa [s1] using hs.tiles, by simpa [s1] using hs.ports, by simpa [s1] using hs.recs⟩
  have hport : s1.portOfTile t = s.portOfTile t := State.portOfTile_of_dev hdev t
  have h := s1.suspect_suspects t 1 (hn ▸ ht) hsized (by simpa only [State.fenceStates, hdev] using hf) (by simpa [s1] using ha)
  refine ⟨s1.suspect t 1, congrArg Host.Outcome.next (if_pos ⟨hi, ht, .inl hf⟩), h.st, h.cause, h.linkE, h.linkW, hport ▸ h.port,
    hdev ▸ h.degrades, h.reports _ _ ?_⟩
  exact State.tev_reports _ _ _ _ _ _ (by simpa using hs.tile_recorder hi)
/-- Ring silence and a self-report do nothing but make their tile suspect. -/
theorem suspect_fences (t cause : Nat) (s : State) (ht : t < s.n) (hs : s.Sized) (hf : s.fenceStates = true) (ha : s.tileActive t = true) :
    ((s.suspect t cause).tile t).fence.st = .fencing ∧ ((s.suspect t cause).tile t).fence.cause = cause ∧
      ((s.suspect t cause).tile t).time.linkE = false ∧ ((s.suspect t cause).tile t).time.linkW = false ∧
      ((s.suspect t cause).port (s.portOfTile t)).up = false ∧ (s.dev.st = .ready → (s.suspect t cause).dev.st = .degraded) := by
  have h := s.suspect_suspects t cause ht hs hf ha
  exact ⟨h.st, h.cause, h.linkE, h.linkW, h.port, h.degrades⟩

end Sys2Proof.Machine
end

section
/-! Proofs of 09_fault_containment.md: what the steps of a fence leave of a tile that they are not about (R254, R260, R262). -/
namespace Sys2Proof.Machine
open Sys2Proof

/-! ### What is left of a tile -/

/-- From `s` to `u` what `g` reads of tile `t` stands; so do the part and the numbers of tiles and of recorders. -/
structure State.Leaves {β : Type} (t : Nat) (g : Tile → β) (s u : State) : Prop where
  part : u.part = s.part
  listed : u.tiles.length = s.tiles.length
  recs : u.recs.length = s.recs.length
  tile : g (u.tile t) = g (s.tile t)

section
variable {β : Type} {t : Nat} {g : Tile → β}

theorem State.Leaves.refl (s : State) : State.Leaves t g s s := ⟨rfl, rfl, rfl, rfl⟩
theorem State.Leaves.trans {s u v : State} (a : State.Leaves t g s u) (b : State.Leaves t g u v) : State.Leaves t g s v :=
  ⟨b.part.trans a.part, b.listed.trans a.listed, b.recs.trans a.recs, b.tile.trans a.tile⟩
theorem State.Leaves.ite {s u v : State} {c : Prop} [Decidable c] (a : State.Leaves t g s u) (b : State.Leaves t g s v) :
    State.Leaves t g s (if c then u else v) := by
  split
  · exact a
  · exact b
theorem State.Leaves.of_eq {s u : State} (part : u.part = s.part := by simp) (tiles : u.tiles = s.tiles := by simp)
    (recs : u.recs.length = s.recs.length := by simp) : State.Leaves t g s u :=
  ⟨part, congrArg List.length tiles, recs, by simp only [State.tile, tiles]⟩
theorem State.leaves_each {α : Type} (s : State) (l : List α) (f : State → α → State) (h : ∀ u x, State.Leaves t g u (f u x)) :
    State.Leaves t g s (s.each l f) :=
  State.each_induct (State.Leaves t g s) s l f (.refl s) (fun u x _ hu => hu.trans (h u x))
theorem State.Leaves.n {s u : State} (h : State.Leaves t g s u) : u.n = s.n := by simp only [State.n, h.part]

/-- A change of another tile leaves tile `t`, one of its own what `g` does not read. -/
theorem State.leaves_modTile (s : State) (w : Nat) (f : Tile → Tile) (h : w = t → ∀ x, g (f x) = g x) : State.Leaves t g s (s.modTile w f) := by
  refine ⟨rfl, State.modTile_tiles_length .., rfl, ?_⟩
  by_cases hw : w = t
  · exact State.modTile_keeps g s w t f (h hw)
  · rw [State.tile_modTile_ne _ _ _ _ hw]
theorem State.leaves_modRes (s : State) (w : Nat) (f : TileRes → TileRes) (h : w = t → ∀ (x : Tile) r, g { x with res := r } = g x) :
    State.Leaves t g s (s.modRes w f) := s.leaves_modTile w _ (fun hw x => h hw x _)
theorem State.leaves_modRd (s : State) (w : Nat) (f : TileRead → TileRead) (h : w = t → ∀ (x : Tile) r, g { x with rd := r } = g x) :
    State.Leaves t g s (s.modRd w f) := s.leaves_modTile w _ (fun hw x => h hw x _)
theorem State.leaves_tcount (s : State) (w num k : Nat) : State.Leaves t g s (s.tcount w num k) := .of_eq
theorem State.leaves_tev (s : State) (w num cls value : Nat) (qs : List (Nat × Nat)) : State.Leaves t g s (s.tev w num cls value qs) := .of_eq
theorem State.leaves_pev (s : State) (code value : Nat) (qs : List (Nat × Nat)) : State.Leaves t g s (s.pev code value qs) := .of_eq
theorem State.leaves_pevAt (s : State) (w code cls value : Nat) (qs : List (Nat × Nat)) : State.Leaves t g s (s.pevAt w code cls value qs) :=
  .of_eq (by simp) (by simp) (State.stage_recs_length ..)
theorem State.leaves_ringSend (s : State) (a d k : Nat) : State.Leaves t g s (s.ringSend a d k) :=
  s.leaves_each _ _ (fun u _ => u.leaves_tcount _ _ _)
theorem State.leaves_noteGate (s : State) (w : Nat) (h : ∀ (x : Tile) v, g { x with res := { x.res with gateWas := v } } = g x) :
    State.Leaves t g s (s.noteGate w) := by
  unfold State.noteGate
  extract_lets k was s1
  have h1 : State.Leaves t g s s1 := s.leaves_modTile w _ (fun _ x => h x _)
  exact .ite (h1.trans (s1.leaves_tev _ _ _ _ _)) h1

/-! ### Lost lines, migrations and mirrors (R86, R140, R148, R202, R257) -/

theorem State.leaves_loseLine (s : State) (o part lla slot source : Nat) (h : ∀ (x : Tile) m, g { x with map := m } = g x) :
    State.Leaves t g s (s.loseLine o part lla slot source) := by
  have hpoison : State.Leaves t g s (s.poisonLine o lla source) := s.leaves_modTile o _ (fun _ x => h x _)
  unfold State.loseLine
  exact hpoison.trans ((State.leaves_tcount ..).trans (State.leaves_tev ..))
theorem State.leaves_shadowFor (s : State) (w owner : Nat) (add : Bool) (kind addr : Nat)
    (h : ∀ (x : Tile) l q, g { x with res := { x.res with shadow := l, shadowQ := q } } = g x) :
    State.Leaves t g s (s.shadowFor w owner add kind addr) := by
  unfold State.shadowFor
  extract_lets m e
  have hwait : State.Leaves t g s (s.modRes w (fun r => { r with shadowQ := r.shadowQ ++ [(add, e)] })) :=
    s.leaves_modTile w _ (fun _ x => h x x.res.shadow _)
  have hsent : State.Leaves t g s (s.modRes m (fun r => r.shadowOp add e)) := s.leaves_modTile m _ (fun _ x => h x _ x.res.shadowQ)
  exact .ite (.refl s) (.ite hwait (hsent.trans (State.leaves_ringSend ..)))
theorem TileRes.settle_deltaOut (r : TileRes) (id : Nat) : (r.settle id).deltaOut = r.deltaOut := by
  unfold TileRes.settle
  split
  · rfl
  · split
    · split <;> rfl
    · rfl

/-! The completion of an eviction changes the shadow list of a mirror tile, and the reservoir of its own tile but for the deltas on their way. -/

section
variable {w : Nat} (hs : ∀ (x : Tile) l q, g { x with res := { x.res with shadow := l, shadowQ := q } } = g x)
  (h : w = t → ∀ (x : Tile) r, r.deltaOut = x.res.deltaOut → g { x with res := r } = g x)
include hs h

theorem State.leaves_lineLanded (s : State) (owner lla : Nat) : State.Leaves t g s (s.lineLanded w owner lla) := by
  have hres (u : State) (f : TileRes → TileRes) (hf : ∀ r, (f r).deltaOut = r.deltaOut) : State.Leaves t g u (u.modRes w f) :=
    u.leaves_modTile w _ (fun hw x => h hw x _ (hf x.res))
  unfold State.lineLanded
  extract_lets r gone s0
  have hgone (u : State) : State.Leaves t g u (gone u) := u.leaves_shadowFor _ _ _ _ _ hs
  split
  · exact hgone s
  · extract_lets s1 rival s2
    have h2 : State.Leaves t g s1 s2 := by
      refine (hres s1 _ (fun r => ?_)).trans (hgone _)
      split
      · rfl
      · exact TileRes.settle_deltaOut _ _
    exact (hres s _ (by exact fun _ => rfl)).trans (.ite (hres s1 _ (by exact fun _ => rfl))
      (.ite (hres s1 _ (by exact fun _ => rfl)) (h2.trans (.ite (hres s2 _ (by exact fun _ => rfl)) (.refl s2)))))
theorem State.leaves_completeEvicts (s : State) : State.Leaves t g s (s.completeEvicts w) := by
  have hres (u : State) (f : TileRes → TileRes) (hf : ∀ r, (f r).deltaOut = r.deltaOut) : State.Leaves t g u (u.modRes w f) :=
    u.leaves_modTile w _ (fun hw x => h hw x _ (hf x.res))
  have hclose (u : State) (S : Nat) : State.Leaves t g u (u.closeStripe w S) :=
    .ite (.refl u) (.ite ((hres u _ (by exact fun _ => rfl)).trans (State.leaves_shadowFor _ _ _ _ _ _ hs)) (.refl u))
  refine s.leaves_each _ _ (fun u e => ?_)
  extract_lets s1 s2 s3 s4
  have h3 : State.Leaves t g u s3 :=
    ((hres u _ (by exact fun _ => rfl)).trans (hres s1 _ (by exact fun _ => rfl))).trans (s2.leaves_lineLanded hs h _ _)
  have h4 : State.Leaves t g s3 s4 := .ite (hres s3 _ (by exact fun _ => rfl)) (.refl s3)
  exact (h3.trans h4).trans (hclose s4 _)

end
/-- A migration abandoned by a fence changes maps and reservoirs alone (R202). -/
theorem State.leaves_abandonMigration (s : State) (w lseg : Nat) (hres : ∀ (x : Tile) r, g { x with res := r } = g x)
    (hmap : ∀ (x : Tile) m, g { x with map := m } = g x) : State.Leaves t g s (s.abandonMigration w lseg 4) := by
  unfold State.abandonMigration
  split
  · exact .refl s
  · extract_lets before s1 s2 s3 s4
    have h1 : State.Leaves t g s s1 := s.leaves_modTile w _ (fun _ x => hmap x _)
    have h2 : State.Leaves t g s1 s2 := s1.leaves_modRes w _ (fun _ => hres)
    have h3 : State.Leaves t g s2 s3 := s2.leaves_tev _ _ _ _ _
    have h4 : State.Leaves t g s3 (s3.completeEvicts w) := s3.leaves_completeEvicts (fun x _ _ => hres x _) (fun _ x r _ => hres x r)
    have hspares (u : State) : State.Leaves t g u (u.noteSpares w before) :=
      .of_eq (u.within_noteSpares w before).part (u.noteSpares_tiles w before) (u.within_noteSpares w before).recs
    exact (((h1.trans h2).trans h3).trans h4).trans (hspares _)
theorem State.leaves_adoptMirror (s : State) (m w : Nat) (hres : ∀ (x : Tile) r, g { x with res := r } = g x)
    (hrd : ∀ (x : Tile) r, g { x with rd := r } = g x) : State.Leaves t g s (s.adoptMirror m w) := by
  unfold State.adoptMirror
  refine s.leaves_each _ _ (fun u e => ?_)
  extract_lets full s1 s2 rid req
  have h2 : State.Leaves t g u s2 :=
    (u.leaves_modRes m _ (fun _ => hres)).trans (s1.leaves_shadowFor _ _ _ _ _ (fun x _ _ => hres x _))
  exact .ite h2 (h2.trans ((s2.leaves_tcount _ _ _).trans (State.leaves_modRd _ _ _ (fun _ => hrd))))
theorem State.leaves_loseWith (s : State) (w : Nat) (alive : Bool) (h : ∀ (x : Tile) m, g { x with map := m } = g x) :
    State.Leaves t g s (s.loseWith w alive) := by
  unfold State.loseWith
  extract_lets r others lose own s1
  have hlose (u : State) (o l : Nat) : State.Leaves t g u (lose u o l) := u.leaves_loseLine _ _ _ _ _ h
  have h1 : State.Leaves t g s s1 := s.leaves_each _ _ (fun u e => hlose u _ _)
  exact .ite (h1.trans (s1.leaves_each _ _ (fun u l => hlose u _ l))) (.ite h1 (h1.trans (s1.leaves_each _ _ (fun u e => hlose u _ _))))

/-! ### Answers to writes and a mirror that moves (R126, R260) -/

theorem State.leaves_leaveIngress (s : State) (r : Req) : State.Leaves t g s (s.leaveIngress r) := by
  have hport (u : State) (p : Nat) (f : Port → Port) : State.Leaves t g u (u.modPort p f) := .of_eq
  have hcredits (u : State) (p : Nat) : State.Leaves t g u (u.noteCredits p) := by
    unfold State.noteCredits
    extract_lets q
    split
    · exact .ite (hport u p _) (.refl u)
    · split
      · exact .refl u
      · exact (hport u p _).trans (State.leaves_tev ..)
  exact .ite ((hport s _ _).trans (hcredits _ _)) (.refl s)
theorem State.leaves_respondMem (s : State) (r : Req) (isData : Bool) (d : Line) (poison : Bool) :
    State.Leaves t g s (s.respondMem r isData d poison) :=
  .of_eq (s.respondMem_keeps State.part r isData d poison (by simp) (by simp) (by simp)) (by simp)
    (s.respondMem_keeps (fun s => s.recs.length) r isData d poison (by simp) (by simp) (by simp))
theorem State.leaves_ackWrite (s : State) (w : Nat) (r : Req) (h : w = t → ∀ (x : Tile) y, g { x with rd := y } = g x) :
    State.Leaves t g s (s.ackWrite w r) := by
  unfold State.ackWrite
  extract_lets s1
  have h1 : State.Leaves t g s s1 := (s.leaves_modRd w _ h).trans (State.leaves_leaveIngress _ r)
  split
  · exact h1.trans (State.leaves_respondMem ..)
  · exact h1.trans (.of_eq rfl rfl rfl)
  · exact h1.trans (.of_eq rfl rfl rfl)
  · exact h1
/-- The move of a tile's mirror is about its fence, its reservoir and the tokens of its writes. -/
theorem State.leaves_moveMirror (s : State) (w m : Nat)
    (h : w = t → ∀ (x : Tile) f r y, g { x with fence := f, res := r, rd := y } = g x) : State.Leaves t g s (s.moveMirror w m) := by
  have hres (hw : w = t) (x : Tile) (r : TileRes) : g { x with res := r } = g x := h hw x x.fence r x.rd
  have hack (u : State) (r : Req) : State.Leaves t g u (u.ackWrite w r) := u.leaves_ackWrite w r (fun hw x y => h hw x x.fence x.res y)
  unfold State.moveMirror
  extract_lets x held waits counted s1 s2 s3
  have h1 : State.Leaves t g s s1 := s.leaves_modTile w _ (fun hw x => h hw x _ x.res x.rd)
  have h2 : State.Leaves t g s1 s2 := s1.leaves_modRes w _ hres
  have h3 : State.Leaves t g s2 s3 := s2.leaves_each _ _ (fun u r => hack u r)
  exact ((h1.trans h2).trans h3).trans (s3.leaves_each _ _ (fun u r =>
    ((u.leaves_modRes w _ hres).trans (State.leaves_tcount ..)).trans (hack _ r)))

/-! ### Package roles of a tile (R33, R38, R40) -/

theorem State.leaves_moveMaster (s : State) (h : ∀ (x : Tile) y, g { x with time := y } = g x) : State.Leaves t g s s.moveMaster := by
  have hmaster (u : State) (m : Option Nat) : State.Leaves t g u { u with master := m } := .of_eq rfl rfl rfl
  unfold State.moveMaster
  split
  · exact .refl s
  · extract_lets o
    exact .ite (((hmaster s _).trans (State.leaves_modTile _ o _ (fun _ x => h x _))).trans (State.leaves_pev ..))
      ((hmaster s _).trans (State.leaves_pev ..))
theorem State.leaves_relock (s : State) (cause : Nat) (h : ∀ (x : Tile) y, g { x with med := y } = g x) : State.Leaves t g s (s.relock cause) := by
  have hflip (u : State) (v c : Nat) : State.Leaves t g u (u.discardFlip v c) := by
    unfold State.discardFlip
    split
    · have hmed (f : TileMed → TileMed) : State.Leaves t g u (u.modMed v f) := u.leaves_modTile v _ (fun _ x => h x _)
      have hraise (w : State) (a b c : Nat) : State.Leaves t g w (w.raise a b c) := .of_eq
      exact ((hmed _).trans (hraise _ _ _ _)).trans (State.leaves_tev ..)
    · exact .refl u
  have hpermit (u : State) (on : Bool) : State.Leaves t g u (u.permitTest on) := by
    have h1 : State.Leaves t g u { u with svc := { u.svc with testPermitted := on } } := .of_eq rfl rfl rfl
    exact .ite (h1.trans (State.leaves_each _ _ _ (fun v w => hflip v w 2))) h1
  have hunlock (svc : Service) (obj : Sparse Nat) : State.Leaves t g s { s with svc := svc, obj := obj } := .of_eq rfl rfl rfl
  unfold State.relock
  split
  · exact .refl s
  · exact ((hunlock _ _).trans (hpermit _ false)).trans (State.leaves_pev ..)
theorem State.leaves_coreLost (s : State) (fails : Bool) (h : ∀ (x : Tile) y, g { x with med := y } = g x) : State.Leaves t g s (s.coreLost fails) := by
  have hmgmt (u : State) (m : Mgmt) : State.Leaves t g u { u with mgmt := m } := .of_eq rfl rfl rfl
  have htake (u : State) (o : Nat) : State.Leaves t g u (u.takeOver o) := by
    unfold State.takeOver
    extract_lets s1 m s2
    have h1 : State.Leaves t g u s1 := (hmgmt u _).trans (State.leaves_relock _ 2 h)
    have h2 : State.Leaves t g s1 s2 := .of_eq rfl rfl (length_modAt _ _ _)
    have hcell : State.Leaves t g s2 (s2.setCell Ob.ACTIVE_CORE_TILE o) := .of_eq rfl rfl rfl
    exact ((h1.trans h2).trans hcell).trans (.of_eq)
  unfold State.coreLost
  split
  · exact .refl s
  · extract_lets m s1
    exact (hmgmt s _).trans (.ite (htake s1 _) (hmgmt s1 _))
theorem State.leaves_standbyGone (s : State) : State.Leaves t g s s.standbyGone := by
  have hmgmt (m : Mgmt) : State.Leaves t g s { s with mgmt := m } := .of_eq rfl rfl rfl
  exact (hmgmt _).trans (State.leaves_pev ..)

end

end Sys2Proof.Machine
end

section
/-! Proofs of 09_fault_containment.md: the fence decision (R254, R257, R262). -/
namespace Sys2Proof.Machine
open Sys2Proof

/-- A change of health is recorded and takes no event away (R493). -/
theorem State.reports_evalHealth (s : State) (r c : Nat) (h : s.reports r c) : s.evalHealth.reports r c := by
  have hjudged (d : Device) : State.reports { s with dev := d } r c := State.reports_of_recs s _ r c rfl h
  unfold State.evalHealth
  extract_lets cause h' old d s1
  split
  · exact hjudged d
  · exact State.reports_alert _ _ _ _ (State.reports_pev _ _ _ _ _ _ (hjudged d))

/-- Tile `x`, of number `t`, has just been FENCED with stand-in `m` while every other tile is ACTIVE: its isolation flush runs, and it holds lines of its
own alone. -/
structure Tile.Isolated (x : Tile) (t m : Nat) : Prop where
  st : x.fence.st = .fenced
  standin : x.fence.standin = m
  isoFlush : x.fence.isoFlush = 1
  single : x.fence.doubleFault = false
  entries : ∀ e ∈ x.res.entries, e.owner = t ∧ e.st ≠ .mirror

/-! ### What a fenced tile keeps (R262) -/

theorem State.leaves_keepPlain (s : State) (t : Nat) : State.Leaves t Tile.fence s (s.keepPlain t) := by
  unfold State.keepPlain
  extract_lets x strokes evicts rds kept s1 s2
  have h1 : State.Leaves t Tile.fence s s1 := s.leaves_modRes t _ (fun _ _ _ => rfl)
  have h2 : State.Leaves t Tile.fence s1 s2 := s1.leaves_modRd t _ (fun _ _ _ => rfl)
  exact (h1.trans h2).trans (s2.leaves_modTile t _ (fun _ _ => rfl))
theorem State.keepPlain_entries (s : State) (t : Nat) (ht : t < s.tiles.length) :
    ∀ e ∈ ((s.keepPlain t).tile t).res.entries, e.owner = t ∧ e.st ≠ .mirror := by
  unfold State.keepPlain
  extract_lets x strokes evicts rds kept s1 s2
  have h2 : State.Leaves t Tile.res s1 s2 := s1.leaves_modRd t _ (fun _ _ _ => rfl)
  have h3 : State.Leaves t Tile.res s2 (s2.modPat t (fun p => { p with visit := none })) := s2.leaves_modTile t _ (fun _ _ => rfl)
  have hres : (s1.tile t).res = _ := congrArg Tile.res (State.tile_modTile_same s t _ ht)
  intro e he
  rw [(h2.trans h3).tile, hres] at he
  obtain ⟨-, hcond⟩ := List.mem_filter.1 he
  exact of_decide_eq_true (Bool.and_eq_true_iff.1 hcond).1

/-! ### The decision (R254 step 4) -/

theorem State.prevTile_ne (s : State) (t : Nat) (ht : t < s.n) : (t + s.n - 1) % s.n ≠ t := by
  have hn := s.two_le_n
  rcases Nat.eq_zero_or_pos t with rfl | hpos
  · rw [Nat.zero_add, Nat.mod_eq_of_lt (by omega)]
    omega
  · rw [show t + s.n - 1 = t - 1 + s.n by omega, Nat.add_mod_right, Nat.mod_eq_of_lt (by omega)]
    omega
/-- Where every other tile is ACTIVE and nothing is outstanding, the decision isolates its tile; the record of it, the health and the state of the device
are what is left to do. -/
theorem State.fenceDecide_isolates (s : State) (t : Nat) (ht : t < s.n) (hs : s.Sized) (hm : s.mirrorOf t < s.n) (hne : s.mirrorOf t ≠ t)
    (hactive : ∀ u < s.n, u ≠ t → s.tileActive u = true) (hout : (s.tile t).outstanding = []) :
    ∃ (u : State) (qs : List (Nat × Nat)), (u.tile t).Isolated t (s.mirrorOf t) ∧ 8 < u.recs.length ∧
      s.fenceDecide t = ((u.pevAt (fenceTile t) Ev.TILE_FENCED 0xFF t qs).evalHealth).degrade := by
  unfold State.fenceDecide
  extract_lets n x m alive others double standin listed mirrored segs cause s1 s2 s3 s4 s5 s6 w s7 s8 s9 s10 s11 s12
  have halive : alive = true := by simp [alive, m, n, hm, hactive _ hm hne]
  have hothers : others = [] := by
    refine List.filter_eq_nil_iff.2 (fun u hu => ?_)
    by_cases hut : u = t
    · simp [hut]
    · simp [hactive u ((s.mem_tileNumbers u).1 hu) hut]
  have hdouble : double = false := by simp [double, hothers]
  have hstandin : standin = m := by simp [standin, halive, hdouble]
  have hlisted : listed = [] := by
    show issueOrder (Tile.outstanding x).length (Tile.outstanding x) = []
    rw [show Tile.outstanding x = [] from hout]
    rfl
  have h1 : State.Leaves t (fun _ => ()) s s1 := .ite (s.leaves_modTile m _ (fun _ _ => rfl)) (.refl s)
  have hlost : State.Leaves t (fun _ => ()) s (s1.loseWith t alive) := h1.trans (s1.leaves_loseWith t alive (fun _ _ => rfl))
  have hlen : t < (s1.loseWith t alive).tiles.length := by
    rw [hlost.listed]
    exact hs.tile_listed ht
  have h2 : (s2.tile t).fence.st = .fenced ∧ (s2.tile t).fence.standin = m ∧ (s2.tile t).fence.isoFlush = 1 ∧
      (s2.tile t).fence.doubleFault = false := by
    simp only [s2, State.modFence_eq]
    rw [State.tile_modTile_same _ _ _ hlen]
    exact ⟨rfl, hstandin, rfl, hdouble⟩
  have h3 : s3 = s2 := by simp [s3, hothers]
  have h4 : State.Leaves t Tile.fence s3 s4 := s3.leaves_each _ _ (fun u l => u.leaves_abandonMigration t l (fun _ _ => rfl) (fun _ _ => rfl))
  have h5 : State.Leaves t Tile.fence s4 s5 :=
    .ite ((State.Leaves.ite (.refl s4) (s4.leaves_adoptMirror m t (fun _ _ => rfl) (fun _ _ => rfl))).trans
      (State.leaves_modRes _ m _ (fun _ _ _ => rfl))) (.refl s4)
  have h6 : State.Leaves t Tile.fence s2 s6 := h3 ▸ (h4.trans h5).trans (s5.leaves_keepPlain t)
  have h2s : State.Leaves t (fun _ => ()) s s2 := hlost.trans (State.leaves_modTile _ t _ (fun _ _ => rfl))
  have hlen5 : t < s5.tiles.length := by
    rw [h5.listed, h4.listed, h3, h2s.listed]
    exact hs.tile_listed ht
  have hplain : ∀ e ∈ (s6.tile t).res.entries, e.owner = t ∧ e.st ≠ .mirror := s5.keepPlain_entries t hlen5
  have h7 : State.Leaves t (fun x => (x.fence, x.res.entries)) s6 s7 :=
    .ite (s6.leaves_moveMirror w _ (fun hw => absurd hw (s.prevTile_ne t ht))) (.refl s6)
  have h8 : State.Leaves t (fun x => (x.fence, x.res.entries)) s7 s8 := .ite (s7.leaves_moveMaster (fun _ _ => rfl)) (.refl s7)
  have h9 : State.Leaves t (fun x => (x.fence, x.res.entries)) s8 s9 :=
    .ite (s8.leaves_coreLost false (fun _ _ => rfl)) (.ite s8.leaves_standbyGone (.refl s8))
  have hroles := (h7.trans h8).trans h9
  have hfence : (s9.tile t).fence = (s2.tile t).fence := (congrArg Prod.fst hroles.tile).trans h6.tile
  have hentries : (s9.tile t).res.entries = (s6.tile t).res.entries := congrArg Prod.snd hroles.tile
  have h12 : s12 = s10 := by simp [s12, s11, hlisted, hdouble]
  obtain ⟨hst, hst2, hiso, hsingle⟩ := h2
  refine ⟨s9, [(1, cause), (1, standin)], ⟨?_, ?_, ?_, ?_, ?_⟩, ?_, by rw [h12]⟩
  · rw [hfence, hst]
  · rw [hfence, hst2]
  · rw [hfence, hiso]
  · rw [hfence, hsingle]
  · rw [hentries]
    exact hplain
  · rw [hroles.recs, h6.recs, h2s.recs]
    exact hs.package_recorder
theorem fenceDecision_fences (t : Nat) (s : State) (ht : t < s.n) (hs : s.Sized) (hst : (s.tile t).fence.st = .fencing)
    (hm : s.mirrorOf t < s.n) (hne : s.mirrorOf t ≠ t) (hactive : ∀ u < s.n, u ≠ t → s.tileActive u = true) (hout : (s.tile t).outstanding = []) :
    ∃ v, exec (.fenceDecision t) s = .next v ∧ (v.tile t).fence.st = .fenced ∧ (v.tile t).fence.standin = s.mirrorOf t ∧
      (v.tile t).fence.isoFlush = 1 ∧ (v.tile t).fence.doubleFault = false ∧
      (∀ e ∈ (v.tile t).res.entries, e.owner = t ∧ e.st ≠ .mirror) ∧ v.pkgReports Ev.TILE_FENCED := by
  obtain ⟨u, qs, hiso, hrecs, heq⟩ := s.fenceDecide_isolates t ht hs hm hne hactive hout
  have htile : (s.fenceDecide t).tile t = u.tile t := by
    rw [heq]
    simp only [State.tile, State.degrade_tiles, State.evalHealth_tiles, State.pevAt_tiles]
  refine ⟨_, congrArg Host.Outcome.next (if_pos ⟨ht, hst⟩), ?_⟩
  rw [htile]
  refine ⟨hiso.st, hiso.standin, hiso.isoFlush, hiso.single, hiso.entries, ?_⟩
  rw [heq]
  exact State.reports_degrade _ _ _ (State.reports_evalHealth _ _ _ (State.pevAt_reports _ _ _ _ _ _ hrecs))

/-! ### O25 -/

/-- Settles O25: three ways to suspicion, each of which ends in `State.suspect`, and the decision. -/
theorem fencing : Obligations.Fencing := by
  unfold Obligations.Fencing
  exact ⟨watchdogTrip_fences, fun t s ht hs hf ha => ⟨_, rfl, suspect_fences t 3 s ht hs hf ha⟩,
    fun t s ht hs hf ha => ⟨_, rfl, suspect_fences t 4 s ht hs hf ha⟩, fenceDecision_fences⟩

end Sys2Proof.Machine
end

section
/-! Proofs of 09_fault_containment.md: the stand-in answers a read by reconstruction (R248, R257). -/
namespace Sys2Proof.Machine
open Sys2Proof

/-! ### The end of a plain host read (R84, R133) -/

theorem State.booked_retireRd (s : State) (t id : Nat) : s.Booked (s.retireRd t id) := .ite (.refl s) (s.booked_modRd t _)
theorem State.booked_groupReads (s : State) (owner part lla base : Nat) : s.Booked (s.groupReads owner part lla base) := by
  obtain ⟨owed, h⟩ := s.groupReads_only owner part lla base
  rw [h]
  exact .of_eq rfl rfl rfl rfl rfl rfl
theorem TileRead.byId_setRd (x : TileRead) (id : Nat) (f : Rd → Rd) (hf : ∀ r, (f r).id = r.id) : (x.setRd id f).byId id = (x.byId id).map f := by
  have same (r : Rd) : decide ((if r.id = id then f r else r).id = id) = decide (r.id = id) := by
    split
    · rw [hf]
    · rfl
  simp only [TileRead.byId, TileRead.setRd, List.find?_map, Function.comp_def, same]
  cases h : x.rds.find? (fun r => decide (r.id = id)) with
  | none => rfl
  | some r =>
    have hid : r.id = id := by simpa using List.find?_some h
    simp [hid]
/-- A read whose line is not LOST fills it and is answered with its plaintext. -/
theorem State.finishHost_of_read (s : State) (t : Nat) (rd : Rd) (d : Line) (blank : Bool) (hatom : rd.req.atom = 0)
    (hlost : (s.tile rd.req.tile).isLost rd.req.lla = false) :
    ∃ u, s.Quiet u ∧ s.finishHost t rd d blank false = (u.answerRead t rd.req rd.path rd.slot rd.hops d false).retireRd t rd.id := by
  unfold State.finishHost
  extract_lets r s1 lost s2 s3
  have hkept : lost = false := by simp [lost, r, hlost]
  have h1 : s.Quiet s1 := (s.booked_modRd t _).quiet
  have h2 : s1.Quiet s2 := by
    simp only [s2, hkept, Bool.false_eq_true, if_false]
    exact s1.quiet_modRes t _
  have h3 : s2.Quiet s3 := (State.Booked.ite (s2.booked_tcount ..) (.refl s2)).quiet
  refine ⟨s3, (h1.trans h2).trans h3, ?_⟩
  rw [if_neg (not_not_intro hatom), hkept]
  rfl
/-- The answer of a plain host read to which DATA `d` of its line is delivered. -/
theorem State.deliver_answers (s : State) (t id : Nat) (rd : Rd) (d : Line) (hrd : (s.tile t).rd.byId id = some rd) (hwhy : rd.why = .host)
    (hopen : rd.answered = false) (hcxl : rd.req.iface = .cxl) (hatom : rd.req.atom = 0) (hplain : (s.partn rd.part).isSealed = false)
    (hlost : (s.tile rd.req.tile).isLost rd.req.lla = false) (hup : (s.port rd.req.port).up = true) :
    s.Answers (s.deliver t id d false) rd.req true (s.plainOf rd d) false ∧ s.SameMedium (s.deliver t id d false) := by
  have heq : s.deliver t id d false = s.finishHost t rd (s.plainOf rd d) (decide (d = 0)) false := by
    simp [State.deliver, State.plainOf, hrd, hwhy, hopen, hplain]
  obtain ⟨u, hquiet, hend⟩ := s.finishHost_of_read t rd (s.plainOf rd d) (decide (d = 0)) hatom hlost
  obtain ⟨hans, hmed⟩ := hquiet.answerRead t rd.req rd.path rd.slot rd.hops (s.plainOf rd d) false hcxl hup
  have hretire := (State.booked_retireRd (u.answerRead t rd.req rd.path rd.slot rd.hops (s.plainOf rd d) false) t rd.id).quiet
  rw [heq, hend]
  exact ⟨hans.of_quiet hretire, hmed.trans hretire.medium⟩

/-! ### Reconstruction (R257) -/

theorem State.isLost_of_canReconstruct {s : State} {owner part lla : Nat} (h : s.canReconstruct owner part lla = true) :
    (s.tile owner).isLost lla = false := by
  simp only [State.canReconstruct, Bool.and_eq_true, Bool.not_eq_true'] at h
  exact h.1.1
/-- The group of the line of read `r`, number `rd` of tile `t`, has been read at parity tile `pt`, which may be tile `t` itself (R257, R259). -/
def State.groupRead (s : State) (t rd pt : Nat) (r : Rd) : State :=
  ((s.groupReads r.req.tile r.part r.lla 1).tcount pt Cn.SPAN_RECONSTRUCTIONS 1).modRd t
    (fun x => x.setRd rd (fun q => { q with phase := .sensing }))
/-- The reconstruction has come over the ring to tile `t`. -/
def State.groupSent (s : State) (t pt : Nat) : State := if pt = t then s else (s.ringSend t pt ringReq).ringSend pt t ringRsp

@[simp] theorem State.groupReads_tiles (s : State) (owner part lla base : Nat) : (s.groupReads owner part lla base).tiles = s.tiles := by
  obtain ⟨owed, h⟩ := s.groupReads_only owner part lla base
  rw [h]
theorem State.booked_groupRead (s : State) (t rd pt : Nat) (r : Rd) : s.Booked (s.groupRead t rd pt r) :=
  ((s.booked_groupReads ..).trans (State.booked_tcount ..)).trans (State.booked_modRd _ t _)
theorem State.groupRead_byId (s : State) (t rd pt : Nat) (r : Rd) (ht : t < s.tiles.length) (hrd : (s.tile t).rd.byId rd = some r) :
    ((s.groupRead t rd pt r).tile t).rd.byId rd = some { r with phase := .sensing } := by
  have hset := TileRead.byId_setRd (s.tile t).rd rd (fun q => { q with phase := .sensing }) (fun _ => rfl)
  have htile : ((s.groupReads r.req.tile r.part r.lla 1).tcount pt Cn.SPAN_RECONSTRUCTIONS 1).tile t = s.tile t := by simp [State.tile]
  rw [hrd] at hset
  rw [State.groupRead, State.tile_modRd_same _ _ _ (by simpa using ht), htile]
  exact hset
theorem State.booked_groupSent (s : State) (t pt : Nat) : s.Booked (s.groupSent t pt) :=
  .ite (.refl s) ((s.booked_ringSend ..).trans (State.booked_ringSend ..))
theorem State.groupSent_tile (s : State) (t pt v : Nat) : (s.groupSent t pt).tile v = s.tile v := by
  unfold State.groupSent
  split <;> simp
/-- A line that can be reconstructed is delivered. -/
theorem exec_reconstructionDone (t rd : Nat) (s : State) (r : Rd) (hrd : (s.tile t).rd.byId rd = some r) (hphase : r.phase = .recon)
    (hcan : s.canReconstruct r.req.tile r.part r.lla = true) : exec (.reconstructionDone t rd) s =
      .next (((s.groupRead t rd (s.spanLine r.part r.req.tile r.lla).1 r).groupSent t (s.spanLine r.part r.req.tile r.lla).1).deliver t rd
        (s.reconstruct r.req.tile r.part r.lla) false) := by
  show execReconstructionDone t rd s = _
  unfold execReconstructionDone
  simp only [hrd, hphase, hcan, if_true, Bool.not_true, Bool.false_eq_true, if_false]
  rfl

/-! ### O27 -/

/-- Settles O27: the stand-in's delivery of the XOR of the span group is that of any plain read. -/
theorem reconstructedReadAnswers : Obligations.ReconstructedReadAnswers := by
  unfold Obligations.ReconstructedReadAnswers
  intro t rd s r ht hs hrd hphase hwhy hopen hcxl hatom hlla hplain hup hcan
  let pt := (s.spanLine r.part r.req.tile r.lla).1
  let u := (s.groupRead t rd pt r).groupSent t pt
  have hbook : s.Booked u := (s.booked_groupRead t rd pt r).trans (State.booked_groupSent _ t pt)
  have hfound : (u.tile t).rd.byId rd = some { r with phase := .sensing } := by
    rw [State.groupSent_tile]
    exact s.groupRead_byId t rd pt r (hs.tile_listed ht) hrd
  have hlost : (u.tile r.req.tile).isLost r.req.lla = false := by
    rw [hbook.isLost, hlla]
    exact State.isLost_of_canReconstruct hcan
  obtain ⟨⟨load, hout⟩, hmed⟩ := u.deliver_answers t rd { r with phase := .sensing } (s.reconstruct r.req.tile r.part r.lla) hfound hwhy hopen hcxl
    hatom (by rw [hbook.partn]; exact hplain) hlost (by rw [hbook.up]; exact hup)
  have hopened : u.plainOf { r with phase := .sensing } (s.reconstruct r.req.tile r.part r.lla) =
      s.plainOf r (s.reconstruct r.req.tile r.part r.lla) := hbook.openLine ..
  exact ⟨_, exec_reconstructionDone t rd s r hrd hphase hcan, hbook.sameMedium.trans hmed, load, by rw [hout, hbook.out, hopened]⟩

end Sys2Proof.Machine
end

section
/-! Proofs of 09_fault_containment.md: span deltas (R250). -/
namespace Sys2Proof.Machine
open Sys2Proof

/-! ### The merge of a delta -/

theorem State.homeOf_of_active {s : State} {t : Nat} (h : s.tileActive t = true) : s.homeOf t = t := by
  have hst : (s.tile t).fence.st = .active := of_decide_eq_true h
  simp [State.homeOf, hst]
/-- The image of a span-parity line that its tile holds in stored form alone. -/
theorem State.spanImage_of_find {s : State} {pt plla : Nat} {e : Entry} {d : Line} (hhome : s.homeOf pt = pt)
    (he : (s.tile pt).res.find plla pt = some e) (hd : e.storedOnly = some d) : s.spanImage pt plla = d := by
  simp [State.spanImage, hhome, he, hd]
/-- The entry of a span-parity line that was not resident (R249). -/
def Entry.ofSpan (part plla pt : Nat) (image : Line) : Entry :=
  { Entry.empty .span part plla pt with st := .dirty, mask := fullMask, data := image, storedOnly := some image }
/-- After the merge the parity tile holds the span-parity line with the delta in it. -/
theorem State.mergeDelta_find (s : State) (pt part plla : Nat) (delta : Line) (hlen : pt < s.tiles.length) (hhome : s.homeOf pt = pt) :
    ∃ e, ((s.mergeDelta pt part plla delta).tile pt).res.find plla pt = some e ∧ e.storedOnly = some (s.spanImage pt plla ^^^ delta) := by
  unfold State.mergeDelta
  rw [hhome]
  extract_lets t new
  split
  next e he =>
    extract_lets s1
    have hset : (s1.tile pt).res.find plla pt = some { e with
        st := e.writtenState fullMask, storedOnly := some new, data := new, redirty := e.redirty || decide (e.st = .inflight),
        stamp := if e.st.counted then e.stamp else (s.tile pt).res.seqCtr } := by
      simp only [s1, State.modRes_eq]
      rw [State.tile_modTile_same _ _ _ hlen]
      refine (TileRes.find_setEntry _ e.id plla pt _ (fun _ => by rfl) (fun _ => by rfl)).trans ?_
      rw [he]
      simp
    split
    · exact ⟨_, hset, rfl⟩
    · exact ⟨_, ((s1.keepsEntries_shadowFor ..).find ..).trans hset, rfl⟩
  next =>
    obtain ⟨e, hplaced, hstored⟩ : ∃ e, ((s.tile pt).res.place (Entry.ofSpan part plla pt new)).1.find plla pt = some e ∧ e.storedOnly = some new := by
      obtain ⟨beyond, h⟩ := (s.tile pt).res.find_place (Entry.ofSpan part plla pt new)
      exact ⟨_, h, rfl⟩
    have hset : ((s.modRes pt (fun r => (r.place (Entry.ofSpan part plla pt new)).1)).tile pt).res.find plla pt = some e := by
      rw [State.modRes_eq, State.tile_modTile_same _ _ _ hlen]
      exact hplaced
    exact ⟨e, ((State.keepsEntries_shadowFor ..).find ..).trans hset, hstored⟩
theorem State.stands_mergeDelta (s : State) (pt part plla : Nat) (delta : Line) : s.Stands (s.mergeDelta pt part plla delta) := by
  unfold State.mergeDelta
  extract_lets t new
  split
  · extract_lets s1
    have h1 : s.Stands s1 := s.stands_modRes _ _
    exact .ite h1 (h1.trans (s1.stands_shadowFor ..))
  · exact (s.stands_modRes _ _).trans (State.stands_shadowFor ..)
/-- A merge leaves the deltas that other tiles have to send. -/
theorem State.mergeDelta_deltaOut (s : State) (pt part plla v : Nat) (delta : Line) (hhome : s.homeOf pt = pt) (hv : pt ≠ v) :
    State.Leaves v (fun x => x.res.deltaOut) s (s.mergeDelta pt part plla delta) := by
  have hother (u : State) (f : TileRes → TileRes) : State.Leaves v (fun x => x.res.deltaOut) u (u.modRes pt f) :=
    u.leaves_modRes pt f (fun hw => absurd hw hv)
  have hshadow (u : State) : State.Leaves v (fun x => x.res.deltaOut) u (u.shadowFor pt pt true 1 plla) :=
    u.leaves_shadowFor _ _ _ _ _ (fun _ _ _ => rfl)
  unfold State.mergeDelta
  rw [hhome]
  extract_lets t new
  split
  · extract_lets s1
    exact .ite (hother s _) ((hother s _).trans (hshadow s1))
  · exact (hother s _).trans (hshadow _)

/-! ### SPAN_DELTA (R250) -/

/-- Delta `m`, the oldest of tile `t`, has left it; its eviction waits for it no longer. -/
def State.deltaSent (s : State) (t : Nat) (m : DeltaMsg) (rest : List DeltaMsg) : State :=
  s.modRes t (fun r => { r with deltaOut := rest, evicts := r.evicts.map (fun (e : Evict) =>
    if e.id = m.evict then { e with deltaWait := false } else e) })
theorem State.deltaSent_tileActive (s : State) (t v : Nat) (m : DeltaMsg) (rest : List DeltaMsg) :
    (s.deltaSent t m rest).tileActive v = s.tileActive v := State.modTile_tileActive _ _ _ _ (by exact fun _ => rfl)
/-- The delta is merged at parity tile `pt`. -/
def State.deltaMerged (s : State) (t : Nat) (m : DeltaMsg) (rest : List DeltaMsg) (pt plla : Nat) : State :=
  ((s.deltaSent t m rest).mergeDelta pt m.part plla m.delta).tcount pt Cn.SPAN_DELTAS 1
theorem exec_spanDelta (t : Nat) (m : DeltaMsg) (rest : List DeltaMsg) (s : State) (hout : (s.tile t).res.deltaOut = m :: rest)
    (ha : s.tileActive (s.spanLine m.part m.owner m.lla).1 = true) : exec (.spanDelta t) s =
      .next ((((s.deltaMerged t m rest (s.spanLine m.part m.owner m.lla).1 (s.spanLine m.part m.owner m.lla).2).completeEvicts t).noteGate
        t).noteGate (s.spanLine m.part m.owner m.lla).1) := by
  show execSpanDelta t s = _
  unfold execSpanDelta
  rw [hout]
  exact congrArg (fun u => Host.Outcome.next (((State.completeEvicts u t).noteGate t).noteGate (s.spanLine m.part m.owner m.lla).1))
    (if_pos ha)
theorem spanDelta_merges (t : Nat) (m : DeltaMsg) (rest : List DeltaMsg) (s : State) (ht : t < s.n) (hs : s.Sized)
    (hout : (s.tile t).res.deltaOut = m :: rest) (hpt : (s.spanLine m.part m.owner m.lla).1 < s.n)
    (hne : (s.spanLine m.part m.owner m.lla).1 ≠ t) (ha : s.tileActive (s.spanLine m.part m.owner m.lla).1 = true) :
    ∃ u, exec (.spanDelta t) s = .next u ∧ (u.tile t).res.deltaOut = rest ∧
      u.spanImage (s.spanLine m.part m.owner m.lla).1 (s.spanLine m.part m.owner m.lla).2 =
        s.spanImage (s.spanLine m.part m.owner m.lla).1 (s.spanLine m.part m.owner m.lla).2 ^^^ m.delta ∧ s.SameMedium u := by
  generalize hspan : s.spanLine m.part m.owner m.lla = span at *
  obtain ⟨pt, plla⟩ := span
  have hsent : s.Stands (s.deltaSent t m rest) := s.stands_modRes t _
  have hparity : (s.deltaSent t m rest).tile pt = s.tile pt := State.tile_modTile_ne _ _ _ _ hne.symm
  have hhome := State.homeOf_of_active ((s.deltaSent_tileActive t pt m rest).trans ha)
  have hlisted (v : Nat) (hv : v < s.n) : v < (s.deltaSent t m rest).tiles.length := (State.modTile_tiles_length ..).symm ▸ hs.tile_listed hv
  have himage : (s.deltaSent t m rest).spanImage pt plla = s.spanImage pt plla := by
    unfold State.spanImage
    rw [hhome, State.homeOf_of_active ha, hparity]
  obtain ⟨e, he, hstored⟩ := (s.deltaSent t m rest).mergeDelta_find pt m.part plla m.delta (hlisted pt hpt) hhome
  let u := (((s.deltaMerged t m rest pt plla).completeEvicts t).noteGate t).noteGate pt
  have hstands : s.Stands u := ((hsent.trans (State.stands_mergeDelta ..)).trans (State.stands_tcount ..)).trans
    (((State.stands_completeEvicts _ t).trans (State.stands_noteGate _ t)).trans (State.stands_noteGate _ pt))
  have hend {β : Type} (v : Nat) (g : Tile → β) (hshadow : ∀ (x : Tile) l q, g { x with res := { x.res with shadow := l, shadowQ := q } } = g x)
      (hgate : ∀ (x : Tile) w, g { x with res := { x.res with gateWas := w } } = g x)
      (hown : t = v → ∀ (x : Tile) r, r.deltaOut = x.res.deltaOut → g { x with res := r } = g x) :
      State.Leaves v g ((s.deltaSent t m rest).mergeDelta pt m.part plla m.delta) u :=
    (((State.leaves_tcount ..).trans (State.leaves_completeEvicts hshadow hown _)).trans (State.leaves_noteGate _ t hgate)).trans
      (State.leaves_noteGate _ pt hgate)
  have hdelta := ((s.deltaSent t m rest).mergeDelta_deltaOut pt m.part plla t m.delta hhome hne).trans
    (hend t _ (fun _ _ _ => rfl) (fun _ _ => rfl) (fun _ _ _ hr => hr))
  have hentries := (hend pt (fun x => x.res.entries) (fun _ _ _ => rfl) (fun _ _ => rfl) (fun hw => absurd hw.symm hne)).tile
  have hactive' : u.tileActive pt = true := by simpa only [State.tileActive, hstands.fence] using ha
  have hfind : (u.tile pt).res.find plla pt = some e := by
    rw [← he]
    simp only [TileRes.find, hentries]
  have hexec := exec_spanDelta t m rest s hout (by rw [hspan]; exact ha)
  rw [hspan] at hexec
  refine ⟨u, hexec, ?_, ?_, hstands.sameMedium⟩
  · refine hdelta.tile.trans ?_
    rw [State.deltaSent, State.modRes_eq, State.tile_modTile_same _ _ _ (hs.tile_listed ht)]
  · rw [State.spanImage_of_find (State.homeOf_of_active hactive') hfind hstored, himage]

end Sys2Proof.Machine
end

section
/-! Proofs of 09_fault_containment.md: a mirror that is restored (R260, R261) and the end of an isolation flush (R262). -/
namespace Sys2Proof.Machine
open Sys2Proof

/-- What leaves the media and maps of every tile leaves them all. -/
theorem State.sameMedium_of_leaves {s u : State} (h : ∀ v, State.Leaves v (fun x => (x.med, x.map)) s u) : s.SameMedium u :=
  fun v => ⟨congrArg Prod.fst (h v).tile, congrArg Prod.snd (h v).tile⟩

/-! ### The resend (R260) -/

theorem TileRes.place_shadow (r : TileRes) (e : Entry) : (r.place e).1.shadow = r.shadow := by
  unfold TileRes.place
  extract_lets
  split <;> rfl
/-- A resend changes reservoirs alone. -/
theorem State.leaves_resend {β : Type} {v : Nat} {g : Tile → β} (s : State) (w : Nat) (h : ∀ (x : Tile) r, g { x with res := r } = g x) :
    State.Leaves v g s (s.resend w) := by
  have hres (u : State) (t : Nat) (f : TileRes → TileRes) : State.Leaves v g u (u.modRes t f) := u.leaves_modRes t f (fun _ => h)
  unfold State.resend
  extract_lets m es olds s1 s2
  have h1 : State.Leaves v g s s1 := s.leaves_each _ _ (fun u t => hres u t _)
  exact (h1.trans (hres s1 m _)).trans (s2.leaves_each _ _ (fun u e => hres u m _))
/-- After it the mirror tile holds the whole shadow list. -/
theorem State.resend_shadow (s : State) (w : Nat) (hm : s.mirrorOf w < s.tiles.length) :
    ∀ e ∈ s.ownShadow w, e ∈ ((s.resend w).tile (s.mirrorOf w)).res.shadow := by
  unfold State.resend
  extract_lets m es olds s1 s2
  have h1 : State.Leaves m (fun _ => ()) s s1 := s.leaves_each _ _ (fun u t => u.leaves_modRes t _ (fun _ _ _ => rfl))
  have hlen : m < s1.tiles.length := h1.listed.symm ▸ hm
  have h3 : State.Leaves m (fun x => x.res.shadow) s2 (s2.each es (fun s' e => s'.modRes m (fun r =>
      (r.place { e with st := .mirror, redirty := false }).1))) :=
    s2.leaves_each _ _ (fun u e => u.leaves_modTile m _ (fun _ x => x.res.place_shadow _))
  have h2 : (s2.tile m).res.shadow = (s1.tile m).res.shadow ++ s.ownShadow w :=
    congrArg (fun x => x.res.shadow) (State.tile_modTile_same s1 m _ hlen)
  intro e he
  rw [h3.tile, h2]
  exact List.mem_append_right _ he

/-! ### MIRROR_MOVED (R260) -/

/-- Tile `w` mirrors at its new mirror tile: its resend is over and its backlog gone. -/
def State.remirrored (s : State) (w : Nat) : State :=
  ((s.resend w).modFence w (fun f => { f with remirror := false })).modRes w (fun r => { r with backlog := [] })
theorem exec_mirrorMoved (w : Nat) (s : State) (hw : w < s.n) (hr : (s.tile w).fence.remirror = true) (hm : s.mirrorOf w < s.n)
    (ha : s.tileActive (s.mirrorOf w) = true)
    (hroom : (s.tile (s.mirrorOf w)).res.dirty + (s.tile w).res.backlog.length ≤ (s.tile (s.mirrorOf w)).res.limit) :
    exec (.mirrorMoved w) s = .next ((((s.remirrored w).pevAt (fenceTile (s.mirrorOf w)) Ev.MIRROR_MOVED 0xFF w [(1, s.mirrorOf w)]).noteGate
      w).noteGate (s.mirrorOf w)) :=
  congrArg Host.Outcome.next (if_pos ⟨hw, hr, hm, ha, hroom⟩)
theorem State.leaves_remirrored {β : Type} {v : Nat} {g : Tile → β} (s : State) (w : Nat) (hres : ∀ (x : Tile) r, g { x with res := r } = g x)
    (hfence : ∀ (x : Tile) f, g { x with fence := f } = g x) : State.Leaves v g s (s.remirrored w) :=
  ((s.leaves_resend w hres).trans (State.leaves_modTile _ w _ (fun _ x => hfence x _))).trans (State.leaves_modRes _ w _ (fun _ => hres))
theorem State.remirrored_tile (s : State) (w : Nat) (hw : w < s.tiles.length) : ((s.remirrored w).tile w).fence.remirror = false ∧
    ((s.remirrored w).tile w).res.backlog = [] := by
  have hsent : State.Leaves w (fun _ => ()) s (s.resend w) := s.leaves_resend w (fun _ _ => rfl)
  have hlen : w < (s.resend w).tiles.length := hsent.listed.symm ▸ hw
  have htile := State.tile_modTile_same ((s.resend w).modFence w (fun f => { f with remirror := false })) w
    (fun x => { x with res := { x.res with backlog := [] } }) (by simpa using hlen)
  have hfence := State.tile_modTile_same (s.resend w) w (fun x => { x with fence := { x.fence with remirror := false } }) hlen
  exact ⟨(congrArg (fun x => x.fence.remirror) htile).trans (congrArg (fun x => x.fence.remirror) hfence), congrArg (fun x => x.res.backlog) htile⟩
theorem State.remirrored_shadow (s : State) (w : Nat) (hm : s.mirrorOf w < s.tiles.length) :
    ∀ e ∈ s.ownShadow w, e ∈ ((s.remirrored w).tile (s.mirrorOf w)).res.shadow := by
  have h : State.Leaves (s.mirrorOf w) (fun x => x.res.shadow) (s.resend w) (s.remirrored w) :=
    (State.leaves_modTile _ w _ (by exact fun _ _ => rfl)).trans (State.leaves_modTile _ w _ (by exact fun _ _ => rfl))
  intro e he
  rw [h.tile]
  exact s.resend_shadow w hm e he
theorem mirrorMoved_remirrors (w : Nat) (s : State) (hw : w < s.n) (hs : s.Sized) (hr : (s.tile w).fence.remirror = true)
    (hm : s.mirrorOf w < s.n) (ha : s.tileActive (s.mirrorOf w) = true)
    (hroom : (s.tile (s.mirrorOf w)).res.dirty + (s.tile w).res.backlog.length ≤ (s.tile (s.mirrorOf w)).res.limit) :
    ∃ u, exec (.mirrorMoved w) s = .next u ∧ (u.tile w).fence.remirror = false ∧ (u.tile w).res.backlog = [] ∧
      (∀ e ∈ s.ownShadow w, e ∈ (u.tile (s.mirrorOf w)).res.shadow) ∧ u.pkgReports Ev.MIRROR_MOVED ∧ s.SameMedium u := by
  have hend {β : Type} (v : Nat) (g : Tile → β) (h : ∀ (x : Tile) k, g { x with res := { x.res with gateWas := k } } = g x) :
      State.Leaves v g (s.remirrored w) ((((s.remirrored w).pevAt (fenceTile (s.mirrorOf w)) Ev.MIRROR_MOVED 0xFF w
        [(1, s.mirrorOf w)]).noteGate w).noteGate (s.mirrorOf w)) :=
    ((State.leaves_pevAt ..).trans (State.leaves_noteGate _ w h)).trans (State.leaves_noteGate _ _ h)
  have hrecs : 8 < (s.remirrored w).recs.length := by
    rw [(s.leaves_remirrored (v := w) (g := fun _ => ()) w (fun _ _ => rfl) (fun _ _ => rfl)).recs]
    exact hs.package_recorder
  obtain ⟨hremirror, hbacklog⟩ := s.remirrored_tile w (hs.tile_listed hw)
  refine ⟨_, exec_mirrorMoved w s hw hr hm ha hroom, ?_, ?_, fun e he => ?_, ?_, ?_⟩
  · exact (hend w (fun x => x.fence.remirror) (fun _ _ => rfl)).tile.trans hremirror
  · exact (hend w (fun x => x.res.backlog) (fun _ _ => rfl)).tile.trans hbacklog
  · rw [(hend (s.mirrorOf w) (fun x => x.res.shadow) (fun _ _ => rfl)).tile]
    exact s.remirrored_shadow w (hs.tile_listed hm) e he
  · exact State.reports_noteGate _ _ _ _ (State.reports_noteGate _ _ _ _ (State.pevAt_reports _ _ _ _ _ _ hrecs))
  · exact State.sameMedium_of_leaves fun v => (s.leaves_remirrored w (fun _ _ => rfl) (fun _ _ => rfl)).trans (hend v _ (fun _ _ => rfl))

/-! ### The end of an isolation flush (R262, R465) -/

theorem State.isoDone_ends (s : State) (t : Nat) (ht : t < s.n) (hs : s.Sized) : ((s.isoDone t).tile t).fence.st = (s.tile t).fence.st ∧
    ((s.isoDone t).tile t).fence.isoFlush = 2 ∧ (s.isoDone t).tileReports t Ev.FLUSH_DONE_RECORDED := by
  unfold State.isoDone
  extract_lets s1 s2
  have h1 : s.Saves s1 := ((s.saves_saveRoots t).trans (State.saves_pageCommit _ t 16)).trans (State.saves_modPs _ t _)
  have h2 : s.Saves s2 := by
    simp only [s2]
    split
    · exact h1.trans (s1.saves_saveRecorder t)
    · exact h1
  have htile := State.tile_modTile_same s2 t (fun x => { x with fence := { x.fence with isoFlush := 2 } }) (h2.tiles.symm ▸ hs.tile_listed ht)
  refine ⟨?_, ?_, State.tev_reports _ _ _ _ _ _ (h2.recs.symm ▸ hs.tile_recorder ht)⟩
  · rw [State.tev_tile]
    exact (congrArg (fun x => x.fence.st) htile).trans (congrArg TileFence.st (h2.fence t))
  · rw [State.tev_tile]
    exact congrArg (fun x => x.fence.isoFlush) htile
theorem State.isoFail_ends (s : State) (t : Nat) (ht : t < s.n) (hs : s.Sized) : ((s.isoFail t).tile t).fence.st = (s.tile t).fence.st ∧
    ((s.isoFail t).tile t).fence.isoFlush = 3 ∧ (s.isoFail t).pkgReports Ev.PLAIN_SHARE_LOST := by
  unfold State.isoFail
  extract_lets lines s1 s2
  have h1 : State.Leaves t Tile.fence s s1 := s.leaves_each _ _ (fun u l => u.leaves_loseLine _ _ _ _ _ (fun _ _ => rfl))
  have htile := State.tile_modTile_same s1 t (fun x => { x with fence := { x.fence with isoFlush := 3, plainLost := lines.length } })
    (h1.listed.symm ▸ hs.tile_listed ht)
  refine ⟨?_, ?_, State.pevAt_reports _ _ _ _ _ _ (h1.recs.symm ▸ hs.package_recorder)⟩
  · rw [State.pevAt_tile]
    exact (congrArg (fun x => x.fence.st) htile).trans (congrArg TileFence.st h1.tile)
  · rw [State.pevAt_tile]
    exact congrArg (fun x => x.fence.isoFlush) htile
theorem isolationFlush_ends (t : Nat) (s : State) (ht : t < s.n) (hs : s.Sized) (hst : (s.tile t).fence.st = .fenced)
    (hiso : (s.tile t).fence.isoFlush = 1) :
    ∃ u, exec (.isolationFlushEnd t) s = .next u ∧ (u.tile t).fence.st = .fenced ∧
      (if (s.tile t).flushed = true then (u.tile t).fence.isoFlush = 2 ∧ u.tileReports t Ev.FLUSH_DONE_RECORDED
       else (u.tile t).fence.isoFlush = 3 ∧ u.pkgReports Ev.PLAIN_SHARE_LOST) := by
  have hexec : exec (.isolationFlushEnd t) s = .next (if (s.tile t).flushed then s.isoDone t else s.isoFail t) :=
    congrArg Host.Outcome.next (if_pos ⟨ht, hst, hiso⟩)
  refine ⟨_, hexec, ?_⟩
  split
  · obtain ⟨hkept, hend⟩ := s.isoDone_ends t ht hs
    exact ⟨hkept.trans hst, hend⟩
  · obtain ⟨hkept, hend⟩ := s.isoFail_ends t ht hs
    exact ⟨hkept.trans hst, hend⟩

/-! ### O26 -/

/-- Settles O26: a clause for a delta, one for the restored mirror, one for the two ends of an isolation flush. -/
theorem spansMirrorsAndIsolation : Obligations.SpansMirrorsAndIsolation := by
  unfold Obligations.SpansMirrorsAndIsolation
  exact ⟨spanDelta_merges, mirrorMoved_remirrors, isolationFlush_ends⟩

end Sys2Proof.Machine
end

section
/-! Proofs of 09_fault_containment.md: the steps of a rejoin and its failure (R269, R270). -/
namespace Sys2Proof.Machine
open Sys2Proof

/-! ### The start (R269, R270 step 1) -/

/-- Tile `x` as its rejoin starts, with its domains reset and mirror tile `m`. -/
def Tile.rejoinStarted (x : Tile) (m : Nat) : Tile :=
  { x.domainReset with fence := { x.fence with st := .rejoining, rejoinStep := 1, resyncDone := 0, mirror := m, remirror := false } }
/-- Beside its tile a rejoin starts with counters and the recorder of the tile. -/
theorem State.startRejoin_tiles (s : State) (t : Nat) : (s.startRejoin t).tiles = (s.modTile t (·.rejoinStarted (s.nextActive t))).tiles := by
  have hcounters (u : State) : (u.restartCounters t 2).tiles = u.tiles := by
    unfold State.restartCounters
    simp only [State.tev_tiles]
  have hload (u : State) (torn : List Nat) : (u.loadRecorder t torn).tiles = u.tiles := by
    unfold State.loadRecorder
    simp only [State.tev_tiles]
    split
    · rfl
    · rw [State.tev_tiles, State.raise_tiles]
      rfl
  unfold State.startRejoin
  extract_lets m s1 s2
  have h2 : s2.tiles = s1.tiles := hcounters s1
  split
  · exact h2
  · exact (hload s2 []).trans h2
theorem exec_autoRejoin (t : Nat) (s : State) (h : s.autoRejoinDue t = true) :
    exec (.autoRejoin t) s = .next ((s.modFence t (fun f => { f with autoTimes := s.recentRejoins t ++ [s.pkgNow] })).startRejoin t) :=
  congrArg Host.Outcome.next (if_pos h)
theorem autoRejoin_starts (t : Nat) (s : State) (hs : s.Sized) (hdue : s.autoRejoinDue t = true) :
    ∃ u, exec (.autoRejoin t) s = .next u ∧ (u.tile t).fence.st = .rejoining ∧
      (u.tile t).fence.rejoinStep = 1 ∧ (u.tile t).res.entries = [] ∧ (u.tile t).rd.rds = [] ∧ s.SameMedium u ∧
      (u.tile t).fence.autoTimes = s.recentRejoins t ++ [s.pkgNow] := by
  have ht : t < s.n := by
    simp only [State.autoRejoinDue, Bool.and_eq_true, decide_eq_true_eq] at hdue
    exact hdue.1.1.1
  let s1 := s.modFence t (fun f => { f with autoTimes := s.recentRejoins t ++ [s.pkgNow] })
  have htile : (s1.startRejoin t).tile t = (s1.tile t).rejoinStarted (s1.nextActive t) := by
    simp only [State.tile, s1.startRejoin_tiles t]
    exact State.tile_modTile_same s1 t _ (by simpa [s1] using hs.tile_listed ht)
  have hfence : (s1.tile t).fence = { (s.tile t).fence with autoTimes := s.recentRejoins t ++ [s.pkgNow] } :=
    congrArg Tile.fence (State.tile_modTile_same s t _ (hs.tile_listed ht))
  have h1 : s.SameMedium s1 := s.sameMedium_modTile t _ (fun _ => rfl) (fun _ => rfl)
  have h2 : s1.SameMedium (s1.modTile t (·.rejoinStarted (s1.nextActive t))) := s1.sameMedium_modTile t _ (fun _ => rfl) (fun _ => rfl)
  refine ⟨_, exec_autoRejoin t s hdue, ?_, ?_, ?_, ?_, (h1.trans h2).of_tiles (s1.startRejoin_tiles t), ?_⟩
  · rw [htile]
    rfl
  · rw [htile]
    rfl
  · rw [htile]
    rfl
  · rw [htile]
    rfl
  · rw [htile]
    exact congrArg TileFence.autoTimes hfence

/-! ### Steps 1, 4, 5 and 6 (R270) -/

/-- The state in which step `k` of the rejoin of tile `t` is in progress. -/
def State.atStep (s : State) (t k : Nat) : State := s.modFence t (fun g => { g with rejoinStep := k })
theorem State.atStep_tile (s : State) (t k : Nat) (ht : t < s.tiles.length) :
    (s.atStep t k).tile t = { s.tile t with fence := { (s.tile t).fence with rejoinStep := k } } := State.tile_modTile_same _ _ _ ht
theorem State.leaves_atStep {β : Type} {v : Nat} {g : Tile → β} (s : State) (t k : Nat) (h : ∀ (x : Tile) f, g { x with fence := f } = g x) :
    State.Leaves v g s (s.atStep t k) := s.leaves_modTile t _ (fun _ x => h x _)

/-- The links of tile `t` are up and its parameter store has values `a`, `b`, `c` of rings 0, 3, 6 and configuration `d`. -/
def State.linked (s : State) (t a b c : Nat) (d : Sparse Nat) : State :=
  (s.modTime t (fun x => { x with linkE := true, linkW := true })).modPs t (fun p =>
    { (((p.saveRing 0 a).saveRing 3 b).saveRing 6 c) with config := d })
theorem State.rejoinLinks_eq (s : State) (t : Nat) : ∃ a b c d, s.rejoinLinks t = (s.linked t a b c d).listStandin t := ⟨_, _, _, _, rfl⟩
theorem State.linked_tile (s : State) (t a b c : Nat) (d : Sparse Nat) (ht : t < s.tiles.length) : ∃ ps, (s.linked t a b c d).tile t =
    { s.tile t with time := { (s.tile t).time with linkE := true, linkW := true }, ps := ps } := by
  rw [State.linked, State.modPs_eq, State.tile_modTile_same _ t _ (by simpa using ht), State.modTime_eq, State.tile_modTile_same _ t _ ht]
  exact ⟨_, rfl⟩
/-- The list of the stand-in's entries changes a reservoir and the change list. -/
theorem State.leaves_listStandin {β : Type} {v : Nat} {g : Tile → β} (s : State) (t : Nat) (hres : ∀ (x : Tile) r, g { x with res := r } = g x)
    (hfence : ∀ (x : Tile) l, g { x with fence := { x.fence with changed := l } } = g x) : State.Leaves v g s (s.listStandin t) := by
  unfold State.listStandin
  extract_lets m mine segs
  exact .ite (.refl s) ((s.leaves_modRes m _ (fun _ => hres)).trans (State.leaves_modTile _ t _ (fun _ x => hfence x _)))
theorem State.rejoinLinks_links (s : State) (t : Nat) (ht : t < s.tiles.length) : t < (s.rejoinLinks t).tiles.length ∧
    ((s.rejoinLinks t).tile t).time.linkE = true ∧ ((s.rejoinLinks t).tile t).time.linkW = true ∧
    ((s.rejoinLinks t).tile t).fence.st = (s.tile t).fence.st ∧ s.SameMedium (s.rejoinLinks t) := by
  obtain ⟨a, b, c, d, heq⟩ := s.rejoinLinks_eq t
  obtain ⟨ps, htile⟩ := s.linked_tile t a b c d ht
  have hlist : State.Leaves t (fun x => (x.time, x.fence.st)) (s.linked t a b c d) ((s.linked t a b c d).listStandin t) :=
    State.leaves_listStandin _ t (fun _ _ => rfl) (fun _ _ => rfl)
  have htime : (((s.linked t a b c d).listStandin t).tile t).time = ((s.linked t a b c d).tile t).time := congrArg Prod.fst hlist.tile
  have hst : (((s.linked t a b c d).listStandin t).tile t).fence.st = ((s.linked t a b c d).tile t).fence.st := congrArg Prod.snd hlist.tile
  have hlinked (v : Nat) : State.Leaves v (fun x => (x.med, x.map)) s (s.linked t a b c d) :=
    (s.leaves_modTile t _ (by exact fun _ _ => rfl)).trans (State.leaves_modTile _ t _ (by exact fun _ _ => rfl))
  rw [heq, htime, hst, htile]
  refine ⟨?_, rfl, rfl, rfl, State.sameMedium_of_leaves fun v => (hlinked v).trans (State.leaves_listStandin _ t (fun _ _ => rfl) (fun _ _ => rfl))⟩
  rw [hlist.listed, (hlinked t).listed]
  exact ht

/-- The next step begins in state `u`, in which the work of the present one is done. -/
theorem State.atStep_advances {s u : State} (t k : Nat) (ht : t < u.tiles.length) (hst : (u.tile t).fence.st = .rejoining) (hmed : s.SameMedium u) :
    ((u.atStep t k).tile t).fence.st = .rejoining ∧ ((u.atStep t k).tile t).fence.rejoinStep = k ∧
      ((u.atStep t k).tile t).time = (u.tile t).time ∧ s.SameMedium (u.atStep t k) := by
  rw [u.atStep_tile t k ht]
  exact ⟨hst, rfl, rfl, hmed.trans (State.sameMedium_of_leaves fun v => u.leaves_atStep t k (fun _ _ => rfl))⟩

section
variable {t : Nat} {s : State} (ht : t < s.n) (hst : (s.tile t).fence.st = .rejoining)
include ht hst

/-- A step that completes goes to what follows it; one without work goes to the next step. -/
theorem exec_rejoinStepDone_one (bad : List Nat) (hk : (s.tile t).fence.rejoinStep = 1) : exec (.rejoinStepDone t true bad) s = .next (s.atStep t 2) := by
  show execRejoinStepDone t true bad s = _
  simp only [execRejoinStepDone, ht, hst, hk, and_self, not_true, Bool.not_true, Bool.false_eq_true, if_false]
  rfl
theorem exec_rejoinStepDone_four (bad : List Nat) (hk : (s.tile t).fence.rejoinStep = 4) :
    exec (.rejoinStepDone t true bad) s = .next ((s.rejoinLinks t).atStep t 5) := by
  show execRejoinStepDone t true bad s = _
  simp only [execRejoinStepDone, ht, hst, hk, and_self, not_true, Bool.not_true, Bool.false_eq_true, if_false]
  rfl
theorem exec_rejoinStepDone_five (bad : List Nat) (hk : (s.tile t).fence.rejoinStep = 5) (hc : (s.tile t).fence.changed = []) :
    exec (.rejoinStepDone t true bad) s = .next (s.atStep t 6) := by
  show execRejoinStepDone t true bad s = _
  simp only [execRejoinStepDone, ht, hst, hk, hc, and_self, not_true, Bool.not_true, Bool.false_eq_true, if_false, List.isEmpty_nil, if_true]
  rfl
theorem exec_rejoinStepDone_six (bad : List Nat) (hk : (s.tile t).fence.rejoinStep = 6) : exec (.rejoinStepDone t true bad) s = .next (s.atStep t 7) := by
  show execRejoinStepDone t true bad s = _
  simp only [execRejoinStepDone, ht, hst, hk, and_self, not_true, Bool.not_true, Bool.false_eq_true, if_false]
  rfl
theorem exec_rejoinStepDone_seven (bad : List Nat) (hk : (s.tile t).fence.rejoinStep = 7) :
    exec (.rejoinStepDone t true bad) s = .next (s.rejoined t) := by
  show execRejoinStepDone t true bad s = _
  simp only [execRejoinStepDone, ht, hst, hk, and_self, not_true, Bool.not_true, Bool.false_eq_true, if_false]
theorem exec_rejoinStepDone_fails (bad : List Nat) : exec (.rejoinStepDone t false bad) s = .next (s.rejoinFailed t) := by
  show execRejoinStepDone t false bad s = _
  simp only [execRejoinStepDone, ht, hst, and_self, not_true, if_false, Bool.not_false, if_true]

end

theorem rejoinStep_advances (t k : Nat) (bad : List Nat) (s : State) (ht : t < s.n) (hs : s.Sized) (hst : (s.tile t).fence.st = .rejoining)
    (hk : (s.tile t).fence.rejoinStep = k) (hcase : k = 1 ∨ k = 4 ∨ (k = 5 ∧ (s.tile t).fence.changed = []) ∨ k = 6) :
    ∃ u, exec (.rejoinStepDone t true bad) s = .next u ∧ (u.tile t).fence.st = .rejoining ∧ (u.tile t).fence.rejoinStep = k + 1 ∧
      (k = 4 → (u.tile t).time.linkE = true ∧ (u.tile t).time.linkW = true) ∧ s.SameMedium u := by
  have hlen := hs.tile_listed ht
  have plain (j : Nat) (hj : exec (.rejoinStepDone t true bad) s = .next (s.atStep t (j + 1))) (h4 : j ≠ 4) :
      ∃ u, exec (.rejoinStepDone t true bad) s = .next u ∧ (u.tile t).fence.st = .rejoining ∧ (u.tile t).fence.rejoinStep = j + 1 ∧
        (j = 4 → (u.tile t).time.linkE = true ∧ (u.tile t).time.linkW = true) ∧ s.SameMedium u := by
    obtain ⟨hrejoining, hstep, -, hmed⟩ := State.atStep_advances t (j + 1) hlen hst (fun _ => ⟨rfl, rfl⟩)
    exact ⟨_, hj, hrejoining, hstep, fun h => absurd h h4, hmed⟩
  rcases hcase with rfl | rfl | ⟨rfl, hc⟩ | rfl
  · exact plain 1 (exec_rejoinStepDone_one ht hst bad hk) (by decide)
  · obtain ⟨hlen', hE, hW, hst', hmed⟩ := s.rejoinLinks_links t hlen
    obtain ⟨hrejoining, hstep, htime, hmed'⟩ := State.atStep_advances t 5 hlen' (hst'.trans hst) hmed
    exact ⟨_, exec_rejoinStepDone_four ht hst bad hk, hrejoining, hstep, fun _ => by rw [htime]; exact ⟨hE, hW⟩, hmed'⟩
  · exact plain 5 (exec_rejoinStepDone_five ht hst bad hk hc) (by decide)
  · exact plain 6 (exec_rejoinStepDone_six ht hst bad hk) (by decide)

/-! ### Failure (R254, R270) -/

theorem rejoinStep_fails (t : Nat) (bad : List Nat) (s : State) (ht : t < s.n) (hs : s.Sized) (hst : (s.tile t).fence.st = .rejoining) :
    ∃ u, exec (.rejoinStepDone t false bad) s = .next u ∧ (u.tile t).fence.st = .fenced ∧ (u.tile t).fence.cause = 6 ∧
      (u.tile t).time.linkE = false ∧ u.pkgReports Ev.REJOIN_FAILED ∧ s.SameMedium u := by
  refine ⟨_, exec_rejoinStepDone_fails ht hst bad, ?_⟩
  unfold State.rejoinFailed
  extract_lets step s1
  let s2 := s1.modTime t (fun x => { x with linkE := false, linkW := false })
  have htiles : ((s2.pevAt (fenceTile t) Ev.REJOIN_FAILED 0xFF t [(1, step)]).evalHealth).tiles = s2.tiles := by
    rw [State.evalHealth_tiles, State.pevAt_tiles]
  have htile : s2.tile t = { s1.tile t with time := { (s1.tile t).time with linkE := false, linkW := false } } :=
    State.tile_modTile_same s1 t _ (by simpa [s1] using hs.tile_listed ht)
  have hfence : (s1.tile t).fence = { (s.tile t).fence with st := .fenced, cause := 6, fenceTime := s.now (fenceTile t), rejoinStep := 0 } :=
    congrArg Tile.fence (State.tile_modTile_same s t _ (hs.tile_listed ht))
  have hend : ((s2.pevAt (fenceTile t) Ev.REJOIN_FAILED 0xFF t [(1, step)]).evalHealth).tile t = s2.tile t := by simp only [State.tile, htiles]
  have hmed : s.SameMedium s2 :=
    (s.sameMedium_modTile t _ (fun _ => rfl) (fun _ => rfl) : s.SameMedium s1).trans (s1.sameMedium_modTile t _ (fun _ => rfl) (fun _ => rfl))
  rw [hend, htile, hfence]
  exact ⟨rfl, rfl, rfl, State.reports_evalHealth _ _ _ (State.pevAt_reports _ _ _ _ _ _ hs.package_recorder), hmed.of_tiles htiles⟩

end Sys2Proof.Machine
end

section
/-! Proofs of 09_fault_containment.md: the last step of a rejoin and the resync of a segment (R270). -/
namespace Sys2Proof.Machine
open Sys2Proof

/-! ### Step 7 (R270, R260) -/

/-- The other tiles hold nothing of tile `t` any more, and no mirror copy of its shadow beside the one it has there. -/
def State.dropStandins (s : State) (t : Nat) : State :=
  s.each s.tileNumbers (fun s' m => if m = t then s' else s'.modRes m (fun r => { r with
    entries := r.entries.filter (fun e => !decide (e.owner = t ∧ e.st ≠ .mirror)),
    shadow := if s.mirrorOf t = m then r.shadow else r.shadow.filter (fun e => decide (e.owner ≠ t)) }))
/-- Tile `t` serves again. -/
def State.reactivate (s : State) (t : Nat) : State := s.modFence t (fun g =>
  { g with st := .active, cause := 0, firstCause := 0, isoFlush := 0, standin := 0xFF, doubleFault := false, rejoinStep := 0 })
/-- Tile `w` mirrors at tile `t`. -/
def State.takeMirror (s : State) (w t : Nat) : State :=
  if s.tileActive w ∧ w ≠ t then s.moveMirror w t else s.modFence w (fun g => { g with mirror := t })
/-- Tile `t` is ACTIVE with what its return brings about beside it. -/
def State.returned (s : State) (t : Nat) : State := (((s.dropStandins t).reactivate t).takeMirror ((t + s.n - 1) % s.n) t).endDouble t

theorem State.rejoined_eq (s : State) (t : Nat) (hq : ∀ q < 64, (s.queue t q).st = 0) :
    s.rejoined t = ((s.returned t).pevAt (fenceTile t) Ev.TILE_REJOINED 0xFF t [(4, (s.tile t).fence.resyncDone)]).evalHealth := by
  have hidle : below 64 (fun q => decide ((s.queue t q).st ≠ 0)) = [] :=
    List.filter_eq_nil_iff.2 fun q h => by simpa using hq q (List.mem_range.1 h)
  unfold State.rejoined
  rw [hidle]
  rfl

section
variable {β : Type} {v : Nat} {g : Tile → β}

theorem State.leaves_dropStandins (s : State) (t : Nat) (h : ∀ (x : Tile) r, g { x with res := r } = g x) : State.Leaves v g s (s.dropStandins t) :=
  s.leaves_each _ _ (fun u m => .ite (.refl u) (u.leaves_modRes m _ (fun _ => h)))
theorem State.leaves_takeMirror (s : State) (w t : Nat) (h : w = v → ∀ (x : Tile) f r y, g { x with fence := f, res := r, rd := y } = g x) :
    State.Leaves v g s (s.takeMirror w t) :=
  .ite (s.leaves_moveMirror w t h) (s.leaves_modTile w _ (fun hw x => h hw x _ x.res x.rd))
/-- The end of a double fault is about the fence of another tile. -/
theorem State.leaves_endDouble (s : State) (t : Nat) (h : v ≠ t → ∀ (x : Tile) f, g { x with fence := f } = g x) :
    State.Leaves v g s (s.endDouble t) := by
  unfold State.endDouble
  simp only []
  split
  next u hu =>
    have hne : u ≠ t := by
      have hmem : u ∈ s.tileNumbers.filter (fun u => decide (u ≠ t) && !s.tileActive u) := hu ▸ List.mem_singleton_self u
      exact of_decide_eq_true (Bool.and_eq_true_iff.1 (List.mem_filter.1 hmem).2).1
    exact s.leaves_modTile u _ (fun hv x => h (hv ▸ hne) x _)
  next => exact .refl s

end

/-- What a return brings about beside its tile leaves the fence of the tile alone. -/
theorem State.returned_tile (s : State) (t : Nat) (ht : t < s.n) (hlen : t < s.tiles.length) :
    (s.returned t).tileActive t = true ∧ ((s.returned t).tile t).fence.rejoinStep = 0 := by
  let s1 := s.dropStandins t
  have h1 : State.Leaves t Tile.fence s s1 := s.leaves_dropStandins t (fun _ _ => rfl)
  have hend : State.Leaves t Tile.fence (s1.reactivate t) (s.returned t) :=
    (State.leaves_takeMirror _ _ t (fun hw => absurd hw (s.prevTile_ne t ht))).trans (State.leaves_endDouble _ t (fun hne => absurd rfl hne))
  have hfence : ((s1.reactivate t).tile t).fence = _ := congrArg Tile.fence (State.tile_modTile_same s1 t _ (h1.listed.symm ▸ hlen))
  rw [State.tileActive, show ((s.returned t).tile t).fence = _ from hend.tile, hfence]
  exact ⟨rfl, rfl⟩
theorem State.leaves_returned {β : Type} {v : Nat} {g : Tile → β} (s : State) (t : Nat)
    (h : ∀ (x : Tile) f r y, g { x with fence := f, res := r, rd := y } = g x) : State.Leaves v g s (s.returned t) := by
  have hfence (x : Tile) (f : TileFence) : g { x with fence := f } = g x := h x f x.res x.rd
  have hactive (u : State) : State.Leaves v g u (u.reactivate t) := u.leaves_modTile t _ (fun _ x => hfence x _)
  exact (((s.leaves_dropStandins t (fun x r => h x x.fence r x.rd)).trans (hactive _)).trans
    (State.leaves_takeMirror _ _ t (fun _ => h))).trans (State.leaves_endDouble _ t (fun _ => hfence))

theorem rejoinLastStep_activates (t : Nat) (bad : List Nat) (s : State) (ht : t < s.n) (hs : s.Sized) (hst : (s.tile t).fence.st = .rejoining)
    (hk : (s.tile t).fence.rejoinStep = 7) (hq : ∀ q < 64, (s.queue t q).st = 0) :
    ∃ u, exec (.rejoinStepDone t true bad) s = .next u ∧ u.tileActive t = true ∧ (u.tile t).fence.rejoinStep = 0 ∧
      u.pkgReports Ev.TILE_REJOINED ∧ s.SameMedium u := by
  let u := (s.returned t).pevAt (fenceTile t) Ev.TILE_REJOINED 0xFF t [(4, (s.tile t).fence.resyncDone)]
  have htiles : u.evalHealth.tiles = (s.returned t).tiles := by rw [State.evalHealth_tiles, State.pevAt_tiles]
  have htile : u.evalHealth.tile t = (s.returned t).tile t := by simp only [State.tile, htiles]
  have hrecs : (s.returned t).recs.length = s.recs.length := (s.leaves_returned (v := t) (g := fun _ => ()) t (fun _ _ _ _ => rfl)).recs
  obtain ⟨hactive, hstep⟩ := s.returned_tile t ht (hs.tile_listed ht)
  refine ⟨u.evalHealth, (exec_rejoinStepDone_seven ht hst bad hk).trans (congrArg Host.Outcome.next (s.rejoined_eq t hq)), ?_, ?_, ?_, ?_⟩
  · rw [State.tileActive, htile]
    exact hactive
  · rw [htile]
    exact hstep
  · exact State.reports_evalHealth _ _ _ (State.pevAt_reports _ _ _ _ _ _ (hrecs.symm ▸ hs.package_recorder))
  · exact (State.sameMedium_of_leaves fun v => s.leaves_returned t (fun _ _ _ _ => rfl)).of_tiles htiles

/-! ### A segment reconstructed (R270 step 5) -/

theorem State.Within.n {t : Nat} {s u : State} (h : State.Within t s u) : u.n = s.n := by simp only [State.n, h.part]
theorem State.within_tcount (w : Nat) (s : State) (t num k : Nat) : State.Within w s (s.tcount t num k) := .of_eq
theorem State.within_pageCommit (s : State) (t page : Nat) : State.Within t s (s.pageCommit t page) :=
  (s.within_modTile t _).trans (State.within_count t ..)
theorem State.within_freshSeq (s : State) (t : Nat) : State.Within t s (s.freshSeq t).1 := by
  obtain ⟨seq, ceil, h⟩ := s.freshSeq_eq t
  have hblock : State.Within t s (s.seqBlock t seq ceil) :=
    .ite (.refl t s) ((s.within_modTile t _).trans (State.within_modTile _ t _))
  rw [h]
  exact hblock.trans (State.within_modTile _ t _)
theorem State.within_bind (s : State) (t part lseg : Nat) : State.Within t s (s.bind t part lseg) := by
  unfold State.bind
  extract_lets pick go
  have hgo (u : State) (p : Nat) : State.Within t u (go u p) :=
    (((((u.within_freshSeq t).trans (State.within_writeHeader _ t p _)).trans (State.within_modTile _ t _)).trans
      (State.within_pageCommit _ t _)).trans (State.within_modTile _ t _)).trans (State.within_tcount t ..)
  split
  · exact hgo s _
  · split
    · exact (s.within_blank t _).trans (hgo _ _)
    · exact .refl t s
/-- A stroke that verifies at once works within its tile. -/
theorem State.within_strokeNow_zero (s : State) (t slot cls : Nat) (w : Codeword) : State.Within t s (s.strokeNow t slot cls w 0).1 := by
  unfold State.strokeNow
  split
  · exact .refl t s
  · exact (s.within_transfer t t _ _ _).trans (State.within_modTile _ t _)
theorem State.within_groupReads (w : Nat) (s : State) (owner part lla base : Nat) : State.Within w s (s.groupReads owner part lla base) := by
  obtain ⟨m, h⟩ := s.groupReads_only owner part lla base
  rw [h]
  exact .of_eq rfl rfl rfl rfl rfl rfl rfl
theorem State.within_resyncStripe (s : State) (t part lseg st : Nat) : State.Within t s (s.resyncStripe t part lseg st) := by
  unfold State.resyncStripe
  split
  · exact .refl t s
  · extract_lets x S lla data reads s1
    have hspent : State.Within t s (s.spendCredits t 9) := .of_eq rfl rfl rfl rfl rfl rfl rfl
    have hreads : State.Within t s reads := hspent.trans (State.within_each t _ _ _ (fun u k => u.within_groupReads t t part (lla k) 3))
    have h1 : State.Within t s s1 := hreads.trans (State.within_each t _ _ _ (fun u k => u.within_strokeNow_zero t _ _ _))
    exact (h1.trans (s1.within_strokeNow_zero t _ _ _)).trans (State.within_tcount t ..)
/-- A resync of a segment of the change list works within its tile until the segment is handed back. -/
theorem exec_resyncSegment (t lseg : Nat) (s : State) (ht : t < s.n) (hst : (s.tile t).fence.st = .rejoining)
    (hk : (s.tile t).fence.rejoinStep = 5) (hmem : lseg ∈ (s.tile t).fence.changed) (hbusy : s.standinBusy t lseg = false)
    (hactive : ∀ u < s.n, u ≠ t → s.tileActive u = true) :
    ∃ w, State.Within t s w ∧ exec (.resyncSegment t lseg) s = .next (w.handBack t lseg) := by
  have hothers : s.tileNumbers.all (fun u => decide (u = t) || s.tileActive u) = true := List.all_eq_true.2 fun u hu => by
    by_cases h : u = t
    · simp [h]
    · simp [hactive u ((s.mem_tileNumbers u).1 hu) h]
  have hexec : exec (.resyncSegment t lseg) s = .next (match s.partOfSeg t lseg with
      | none => s.handBack t lseg
      | some part => ((if ((s.tile t).map.entry lseg).st = .fresh then s.bind t part lseg else s).each (List.range segStripes)
          (fun s' st => s'.resyncStripe t part lseg st)).handBack t lseg) :=
    congrArg Host.Outcome.next (if_pos ⟨ht, hst, hk, List.contains_iff_mem.2 hmem, hbusy, hothers⟩)
  rw [hexec]
  cases s.partOfSeg t lseg with
  | none => exact ⟨s, .refl t s, rfl⟩
  | some part =>
    have hbound : State.Within t s (if ((s.tile t).map.entry lseg).st = .fresh then s.bind t part lseg else s) :=
      .ite (s.within_bind t part lseg) (.refl t s)
    exact ⟨_, hbound.trans (State.within_each t _ _ _ (fun u st => u.within_resyncStripe t part lseg st)), rfl⟩

/-! ### A segment handed back (R270 step 5) -/

/-- Tile `m` holds no entry that stands in for a line of segment `lseg` of tile `t`. -/
def State.StandsInForNone (s : State) (t lseg m : Nat) : Prop :=
  ∀ e ∈ (s.tile m).res.entries, ¬(e.owner = t ∧ e.st ≠ .mirror ∧ lsegOf e.addr = lseg)
/-- Tile `m` drops its entries that stand in for lines of segment `lseg` of tile `t`. -/
def State.dropSegment (s : State) (t lseg m : Nat) : State :=
  if m = t then s else s.modRes m (fun r => { r with
    entries := r.entries.filter (fun e => !decide (e.owner = t ∧ e.st ≠ .mirror ∧ lsegOf e.addr = lseg)) })
theorem State.within_dropSegment (s : State) (t lseg m : Nat) : State.Within m s (s.dropSegment t lseg m) :=
  .ite (.refl m s) (s.within_modTile m _)
theorem State.dropSegment_entries (s : State) (t lseg m : Nat) (hm : m < s.tiles.length) (hne : m ≠ t) :
    (s.dropSegment t lseg m).StandsInForNone t lseg m := by
  have hentries : ((s.dropSegment t lseg m).tile m).res.entries =
      (s.tile m).res.entries.filter (fun e => !decide (e.owner = t ∧ e.st ≠ .mirror ∧ lsegOf e.addr = lseg)) := by
    rw [State.dropSegment, if_neg hne]
    exact congrArg (fun x => x.res.entries) (State.tile_modTile_same s m _ hm)
  intro e he
  rw [hentries] at he
  exact of_decide_eq_false (Bool.not_eq_true' _ ▸ (List.mem_filter.1 he).2)
/-- What the work for one element of a list brings about, and the work for no other undoes, holds at the end. -/
theorem State.each_reaches {α : Type} [DecidableEq α] (P : State → Prop) (f : State → α → State) (a : α) (hest : ∀ u, P (f u a))
    (hkeep : ∀ u x, x ≠ a → P u → P (f u x)) (l : List α) (s : State) (ha : a ∈ l) : P (s.each l f) := by
  obtain ⟨before, after, rfl⟩ := List.append_of_mem ha
  have hcut : s.each (before ++ a :: after) f = (f (s.each before f) a).each after f := by simp [State.each]
  rw [hcut]
  refine State.each_induct P _ after f (hest _) (fun u x _ hu => ?_)
  by_cases hx : x = a
  · exact hx ▸ hest u
  · exact hkeep u x hx hu
/-- No other tile holds a stand-in entry of a segment that is handed back. -/
theorem State.handBack_entries (s : State) (t lseg m : Nat) (hm : m < s.n) (hlen : m < s.tiles.length) (hne : m ≠ t) :
    (s.handBack t lseg).StandsInForNone t lseg m := by
  let u := s.each s.tileNumbers (·.dropSegment t lseg)
  have hu : State.Leaves m (fun _ => ()) s u := s.leaves_each _ _ (fun v k => .ite (.refl v) (v.leaves_modTile k _ (fun _ _ => rfl)))
  have htile : (s.handBack t lseg).tile m = u.tile m := State.tile_modTile_ne _ _ _ _ hne.symm
  rw [State.StandsInForNone, htile]
  refine State.each_reaches (fun u => m < u.tiles.length → u.StandsInForNone t lseg m) (·.dropSegment t lseg) m (fun v hv => ?_)
    (fun v k hk hold hv => ?_) s.tileNumbers s ((s.mem_tileNumbers m).2 hm) (hu.listed.symm ▸ hlen)
  · exact v.dropSegment_entries t lseg m ((v.within_dropSegment t lseg m).tiles ▸ hv) hne
  · rw [State.StandsInForNone, (v.within_dropSegment t lseg k).others m hk.symm]
    exact hold ((v.within_dropSegment t lseg k).tiles ▸ hv)
/-- A segment handed back is off the change list. -/
theorem State.handBack_changed (s : State) (t lseg : Nat) (ht : t < s.tiles.length) : lseg ∉ ((s.handBack t lseg).tile t).fence.changed := by
  let u := s.each s.tileNumbers (·.dropSegment t lseg)
  have hu : State.Leaves t (fun _ => ()) s u := s.leaves_each _ _ (fun v k => .ite (.refl v) (v.leaves_modTile k _ (fun _ _ => rfl)))
  have hchanged : ((s.handBack t lseg).tile t).fence.changed = (u.tile t).fence.changed.filter (fun k => decide (k ≠ lseg)) :=
    congrArg (fun x => x.fence.changed) (State.tile_modTile_same u t _ (hu.listed.symm ▸ ht))
  rw [hchanged]
  exact fun h => of_decide_eq_true (List.mem_filter.1 h).2 rfl

theorem resync_handsBack (t lseg : Nat) (s : State) (ht : t < s.n) (hs : s.Sized) (hst : (s.tile t).fence.st = .rejoining)
    (hk : (s.tile t).fence.rejoinStep = 5) (hmem : lseg ∈ (s.tile t).fence.changed) (hbusy : s.standinBusy t lseg = false)
    (hactive : ∀ u < s.n, u ≠ t → s.tileActive u = true) :
    ∃ u, exec (.resyncSegment t lseg) s = .next u ∧ lseg ∉ (u.tile t).fence.changed ∧
      ∀ m < s.n, m ≠ t → ∀ e ∈ (u.tile m).res.entries, ¬(e.owner = t ∧ e.st ≠ .mirror ∧ lsegOf e.addr = lseg) := by
  obtain ⟨w, hw, hexec⟩ := exec_resyncSegment t lseg s ht hst hk hmem hbusy hactive
  refine ⟨_, hexec, w.handBack_changed t lseg (hw.tiles.symm ▸ hs.tile_listed ht), fun m hm hne => ?_⟩
  exact w.handBack_entries t lseg m (hw.n.symm ▸ hm) (hw.tiles.symm ▸ hs.tile_listed hm) hne

/-! ### O28 -/

/-- Settles O28: the start, the steps between, the last one, a failure and a resync, which works within its tile up to the hand-back. -/
theorem rejoinSteps : Obligations.RejoinSteps := by
  unfold Obligations.RejoinSteps
  exact ⟨autoRejoin_starts, rejoinStep_advances, rejoinLastStep_activates, rejoinStep_fails, resync_handsBack⟩

end Sys2Proof.Machine
end

section
/-! Proofs of 10_cipher_and_sealing.md: key changes and the end of a purge (R279 to R281, R302). -/
namespace Sys2Proof.Machine
open Sys2Proof

/-! ### The end of a key change (R279, R280) -/

/-- What a key change leaves in its slot. -/
def KeyChange.left (c : KeyChange) : KeySlot := match c.load with
  | some (a, b) => { st := .loaded, k1 := a, k2 := b }
  | none => KeySlot.reset
/-- The state with the slot of a key change written in the parameter stores of the management cores too, and the change counted. -/
def State.keyWritten (s : State) (c : KeyChange) : State :=
  (State.each { s with keys := { slots := s.keys.slots.put KeySlot.reset c.slot c.left, change := none } } ([0, 1].filter s.tileActive)
    (fun u t => u.pageCommit t 2368)).count Cn.KEY_CHANGES 1
theorem State.finishKey_eq (s : State) (c : KeyChange) : ∃ qs,
    s.finishKey c = (s.keyWritten c).pev (if c.load.isSome then Ev.KEY_LOADED else Ev.KEY_ERASED) c.slot qs := by
  obtain ⟨slot, load, req⟩ := c
  cases load with
  | none => exact ⟨_, rfl⟩
  | some ab => exact ⟨_, rfl⟩

/-- What the key table does not hold, and page commits and counts leave, a key change leaves. -/
theorem State.finishKey_keeps {β : Type} (g : State → β) (s : State) (c : KeyChange) (hk : ∀ s keys, g { s with keys := keys } = g s)
    (hc : ∀ s t page, g (State.pageCommit s t page) = g s) (hn : ∀ s num k, g (State.count s num k) = g s)
    (he : ∀ s code v qs, g (State.pev s code v qs) = g s) : g (s.finishKey c) = g s := by
  obtain ⟨qs, h⟩ := s.finishKey_eq c
  rw [h, he, State.keyWritten, hn, State.each_keeps g _ _ _ (fun _ _ => hc ..), hk]
theorem State.finishKey_out (s : State) (c : KeyChange) : (s.finishKey c).out = s.out :=
  s.finishKey_keeps State.out c (fun _ _ => rfl) (by simp) (by simp) (by simp)
theorem State.finishKey_mgmt (s : State) (c : KeyChange) : (s.finishKey c).mgmt = s.mgmt :=
  s.finishKey_keeps State.mgmt c (fun _ _ => rfl) (by simp) (by simp) (by simp)
theorem State.finishKey_recs_length (s : State) (c : KeyChange) : (s.finishKey c).recs.length = s.recs.length :=
  s.finishKey_keeps (fun s => s.recs.length) c (fun _ _ => rfl) (by simp) (by simp) (by simp)
theorem State.finishKey_tile_keeps {β : Type} (g : Tile → β) (s : State) (c : KeyChange) (v : Nat)
    (h : ∀ (x : Tile) p, g { x with ps := p } = g x) : g ((s.finishKey c).tile v) = g (s.tile v) := by
  refine s.finishKey_keeps (fun s => g (s.tile v)) c (fun _ _ => rfl) (fun s t page => ?_) (by simp) (by simp)
  simp only [State.pageCommit, State.count_tile, State.modPs_eq]
  exact State.modTile_keeps g s t v _ (fun x => h x _)
theorem State.sameMedium_finishKey (s : State) (c : KeyChange) : s.SameMedium (s.finishKey c) := fun v =>
  ⟨s.finishKey_tile_keeps Tile.med c v (fun _ _ => rfl), s.finishKey_tile_keeps Tile.map c v (fun _ _ => rfl)⟩
theorem State.finishKey_keys (s : State) (c : KeyChange) :
    (s.finishKey c).keys = { slots := s.keys.slots.put KeySlot.reset c.slot c.left, change := none } := by
  obtain ⟨qs, h⟩ := s.finishKey_eq c
  rw [h, State.pev_keys, State.keyWritten, State.count_keys, State.each_keeps State.keys _ _ _ (fun _ _ => by simp)]
theorem State.finishKey_key_ne (s : State) (c : KeyChange) (k : Nat) (hk : k ≠ c.slot) : (s.finishKey c).key k = s.key k := by
  rw [State.key, State.finishKey_keys]
  exact Sparse.getD_put_ne _ _ _ _ _ hk.symm
theorem State.finishKey_reports (s : State) (c : KeyChange) (h : 8 < s.recs.length) :
    (s.finishKey c).pkgReports (if c.load.isSome then Ev.KEY_LOADED else Ev.KEY_ERASED) := by
  obtain ⟨qs, hq⟩ := s.finishKey_eq c
  have hlen := s.finishKey_recs_length c
  rw [hq] at hlen ⊢
  refine State.pev_reports _ _ _ _ ?_
  rw [State.pev_recs_length] at hlen
  exact hlen ▸ h

/-! ### The purge (R280, R281) -/

/-- No CLEAN line of the tile stands under key index `k`. -/
def Tile.NoneClean (k : Nat) (x : Tile) : Prop := ∀ e ∈ x.res.entries, ¬(e.kx = k ∧ e.kind = .data ∧ e.st = .clean)
theorem State.purgeEntries_keeps {β : Type} (g : State → β) (s : State) (k : Nat) (hm : ∀ s t f, g (State.modTile s t f) = g s) :
    g (s.purgeEntries k) = g s := State.each_keeps g _ _ _ (fun _ _ => hm ..)
/-- The CLEAN lines leave; what a PINNED line has stored under the old key is no part of key index, kind and state. -/
theorem State.purgeEntries_noneClean (s : State) (k : Nat) (hs : s.Sized) : ∀ t ∈ s.activeTiles, ((s.purgeEntries k).tile t).NoneClean k := by
  refine State.each_establishes (Tile.NoneClean k) _ (fun u t => u.within_modTile t _) (fun u t ht e he => ?_) s.activeTiles s
    (fun t h => hs.tile_listed ((s.mem_activeTiles t).1 h).1)
  rw [State.tile_modTile_same _ _ _ ht] at he
  obtain ⟨old, hold, hmap⟩ := List.mem_map.1 he
  have hkept : ¬(old.kx = k ∧ old.kind = .data ∧ old.st = .clean) := of_decide_eq_false (Bool.not_eq_true' _ ▸ (List.mem_filter.1 hold).2)
  have hsame : e.kx = old.kx ∧ e.kind = old.kind ∧ e.st = old.st := by
    rw [← hmap]
    split <;> exact ⟨rfl, rfl, rfl⟩
  obtain ⟨hkx, hkind, hst⟩ := hsame
  rwa [hkx, hkind, hst]

theorem State.resumeAll_of_none (s : State) (f : Message → Bool) (h : ∀ m ∈ s.mgmt.messages, f m = false) : s.resumeAll f = s := by
  have hnone : s.mgmt.messages.filter f = [] := List.filter_eq_nil_iff.2 fun m hm => by simp [h m hm]
  rw [State.resumeAll, hnone, State.each_nil]
theorem exec_keyPurgeDone (s : State) (c : KeyChange) (hc : s.keys.change = some c) (hup : s.serverUp = true) (hp : s.purged c.slot = true) :
    exec .keyPurgeDone s = .next (((s.purgeEntries c.slot).finishKey c).resumeAll (fun m => decide (m.waiting = .key))) := by
  simp only [exec, execKeyPurgeDone, hc]
  exact congrArg Host.Outcome.next (if_pos ⟨hup, hp⟩)

/-! ### O29 -/

/-- Settles O29: the purge drops the CLEAN lines, the end of the change writes the slot, and no message has waited for it. -/
theorem keyPurgeEnds : Obligations.KeyPurgeEnds := by
  unfold Obligations.KeyPurgeEnds
  intro s c hs hwf hc hup hp hnone
  let w := s.purgeEntries c.slot
  have hkeys : w.keys = s.keys := s.purgeEntries_keeps State.keys c.slot (by simp)
  have hmgmt : (w.finishKey c).mgmt = s.mgmt := (w.finishKey_mgmt c).trans (s.purgeEntries_keeps State.mgmt c.slot (by simp))
  have hrecs : w.recs = s.recs := s.purgeEntries_keeps State.recs c.slot (by simp)
  have hresume : (w.finishKey c).resumeAll (fun m => decide (m.waiting = .key)) = w.finishKey c :=
    State.resumeAll_of_none _ _ (fun m hm => decide_eq_false (hnone m (hmgmt ▸ hm)))
  refine ⟨w.finishKey c, (exec_keyPurgeDone s c hc hup hp).trans (congrArg Host.Outcome.next hresume), ?_, ?_, fun k hk => ?_, fun t ht => ?_,
    w.finishKey_reports c (hrecs ▸ hs.package_recorder)⟩
  · rw [State.finishKey_keys]
  · rw [State.key, State.finishKey_keys, hkeys]
    exact Sparse.getD_put_same _ _ _ _ hwf
  · rw [State.finishKey_key_ne _ _ _ hk, State.key, hkeys, State.key]
  · have hres : ((w.finishKey c).tile t).res = (w.tile t).res := w.finishKey_tile_keeps Tile.res c t (fun _ _ => rfl)
    rw [hres]
    exact s.purgeEntries_noneClean c.slot hs t ht

end Sys2Proof.Machine
end

section
/-! Proofs of 10_cipher_and_sealing.md: sessions and what the end of a debug unlock leaves (R100, R286, R425, R433). -/
namespace Sys2Proof.Machine
open Sys2Proof

/-! ### TEST_PERMITTED (R98, R100) -/

@[simp] theorem State.discardFlip_svc (s : State) (t c : Nat) : (s.discardFlip t c).svc = s.svc :=
  s.discardFlip_keeps State.svc t c (by simp) (by simp) (by simp)
@[simp] theorem State.discardFlip_out (s : State) (t c : Nat) : (s.discardFlip t c).out = s.out :=
  s.discardFlip_keeps State.out t c (by simp) (by simp) (by simp)
@[simp] theorem State.discardFlip_tiles_length (s : State) (t c : Nat) : (s.discardFlip t c).tiles.length = s.tiles.length :=
  s.discardFlip_keeps (fun s => s.tiles.length) t c (by simp) (by simp) (by simp)
theorem debugRights_ne_flipStatus (t : Nat) : Ob.inst Ob.FLIP_STATUS t ≠ debugRightsKey := by
  show 0xF01004 + 256 * t ≠ 0x510001 + 256 * 0x40
  omega
theorem debugRights_ne_flipDiscarded (t : Nat) : Ob.inst Ob.FLIP_DISCARDED_COUNT t ≠ debugRightsKey := by
  show 0xF01008 + 256 * t ≠ 0x510001 + 256 * 0x40
  omega
/-- The discard of a flip mask writes the cells of its own tile alone. -/
theorem State.discardFlip_rights (s : State) (t c d : Nat) : (s.discardFlip t c).cell debugRightsKey d = s.cell debugRightsKey d := by
  unfold State.discardFlip
  split
  · rw [State.tev_cell, State.raise_cell_ne _ _ _ _ _ _ (debugRights_ne_flipStatus t) (debugRights_ne_flipDiscarded t)]
    rfl
  · rfl
theorem State.discardFlip_slots (s : State) (t c v : Nat) : ((s.discardFlip t c).tile v).med.slots = (s.tile v).med.slots := by
  unfold State.discardFlip
  split
  · rw [State.tev_tile, State.raise_tile]
    exact State.modTile_keeps (fun x => x.med.slots) s t v _ (fun _ => rfl)
  · rfl

/-- What the services do not hold and a discarded flip mask leaves, a change of TEST_PERMITTED leaves. -/
theorem State.permitTest_out (s : State) (on : Bool) : (s.permitTest on).out = s.out := s.permitTest_keeps State.out on (fun _ _ => rfl) (by simp)
theorem State.permitTest_recs_length (s : State) (on : Bool) : (s.permitTest on).recs.length = s.recs.length :=
  s.permitTest_keeps (fun s => s.recs.length) on (fun _ _ => rfl) (by simp)
theorem State.permitTest_tiles_length (s : State) (on : Bool) : (s.permitTest on).tiles.length = s.tiles.length :=
  s.permitTest_keeps (fun s => s.tiles.length) on (fun _ _ => rfl) (by simp)
theorem State.permitTest_rights (s : State) (on : Bool) : (s.permitTest on).cell debugRightsKey 0 = s.cell debugRightsKey 0 :=
  s.permitTest_keeps (fun s => s.cell debugRightsKey 0) on (fun _ _ => rfl) (fun s t c => s.discardFlip_rights t c 0)
theorem State.permitTest_slots (s : State) (on : Bool) (v : Nat) : ((s.permitTest on).tile v).med.slots = (s.tile v).med.slots :=
  s.permitTest_keeps (fun s => (s.tile v).med.slots) on (fun _ _ => rfl) (fun s t c => s.discardFlip_slots t c v)
theorem State.permitTest_svc (s : State) (on : Bool) : (s.permitTest on).svc = { s.svc with testPermitted := on } := by
  unfold State.permitTest
  simp only []
  split
  · rw [State.each_keeps State.svc _ _ _ (fun _ _ => by simp)]
  · rfl

/-! ### The end of a debug unlock (R286) -/

/-- The state with no debug unlock and no rights of the debug class. -/
def State.unlockEnded (s : State) : State := { s with svc := { s.svc with unlock := none }, obj := s.obj.insert debugRightsKey 0 }
theorem State.relock_of_unlocked {s : State} {r : Requester} (h : s.svc.unlock = some r) (c : Nat) :
    s.relock c = (s.unlockEnded.permitTest false).pev Ev.DEBUG_RELOCKED c [] := by
  simp only [State.relock, h]
  rfl
theorem State.relock_unlock (s : State) (c : Nat) : (s.relock c).svc.unlock = none := by
  cases h : s.svc.unlock with
  | none => simp only [State.relock, h]
  | some r => rw [State.relock_of_unlocked h, State.pev_svc, State.permitTest_svc]; rfl
theorem State.relock_testPermitted {s : State} {r : Requester} (h : s.svc.unlock = some r) (c : Nat) : (s.relock c).svc.testPermitted = false := by
  rw [State.relock_of_unlocked h, State.pev_svc, State.permitTest_svc]
theorem State.relock_rights {s : State} {r : Requester} (h : s.svc.unlock = some r) (c : Nat) : (s.relock c).cell debugRightsKey 0 = 0 := by
  rw [State.relock_of_unlocked h, State.pev_cell, State.permitTest_rights]
  exact Sparse.getD_insert_same _ _ _ _
theorem State.relock_reports {s : State} {r : Requester} (h : s.svc.unlock = some r) (c : Nat) (hr : 8 < s.recs.length) :
    (s.relock c).pkgReports Ev.DEBUG_RELOCKED := by
  rw [State.relock_of_unlocked h]
  refine State.pev_reports _ _ _ _ ?_
  rw [State.permitTest_recs_length]
  exact hr
theorem State.relock_out (s : State) (c : Nat) : (s.relock c).out = s.out :=
  s.relock_keeps State.out c (fun _ _ => rfl) (fun _ _ => rfl) (by simp) (by simp)
theorem State.relock_slots (s : State) (c v : Nat) : ((s.relock c).tile v).med.slots = (s.tile v).med.slots :=
  s.relock_keeps (fun s => (s.tile v).med.slots) c (fun _ _ => rfl) (fun _ _ => rfl) (fun s t c => s.discardFlip_slots t c v) (by simp)

/-! ### Sessions (R425, R433) -/

theorem sessionEstablished_opens (id : Nat) (owner : Bool) (port : Option Nat) (s : State) (hb : s.mgmt.booted = true)
    (hid : ∀ x ∈ s.mgmt.sessions, x.id ≠ id) : ∃ u, exec (.spdmSessionEstablished id owner port) s = .next u ∧
      u.mgmt.sessions = s.mgmt.sessions ++ [{ id := id, owner := owner && s.svc.owner.isSome, port := port }] ∧ u.tiles = s.tiles ∧
      u.obj = s.obj ∧ u.dev = s.dev :=
  ⟨_, congrArg Host.Outcome.next (if_pos ⟨hb, List.all_eq_true.2 fun x hx => decide_eq_true (hid x hx)⟩), rfl, rfl, rfl, rfl⟩

/-- The requester that speaks over session `id` (R425). -/
def sessionReq (id : Nat) : Requester := { transport := 4, src := id }
/-- The state without session `id`, its staged set and its messages. -/
def State.sessionGone (s : State) (id : Nat) : State := { s with mgmt := { s.mgmt with
  sessions := s.mgmt.sessions.filter (fun x => decide (x.id ≠ id)),
  sets := s.mgmt.sets.filter (fun x => decide (x.req ≠ sessionReq id)),
  messages := s.mgmt.messages.filter (fun m => decide (m.req ≠ sessionReq id)) } }
theorem State.endSession_eq (s : State) (id : Nat) :
    s.endSession id = if s.svc.unlock = some (sessionReq id) then (s.sessionGone id).relock 2 else s.sessionGone id := rfl
theorem State.endSession_mgmt (s : State) (id : Nat) : (s.endSession id).mgmt = (s.sessionGone id).mgmt := by
  rw [State.endSession_eq]
  split
  · exact State.relock_mgmt _ _
  · rfl
theorem State.endSession_unlock (s : State) (id : Nat) : (s.endSession id).svc.unlock ≠ some (sessionReq id) := by
  rw [State.endSession_eq]
  split
  · rw [State.relock_unlock]
    exact (Option.some_ne_none _).symm
  next h => exact h
theorem State.endSession_rights {s : State} {id : Nat} (h : s.svc.unlock = some (sessionReq id)) : (s.endSession id).cell debugRightsKey 0 = 0 := by
  rw [State.endSession_eq, if_pos h]
  exact State.relock_rights (s := s.sessionGone id) h 2
theorem exec_spdmSessionEnd (id : Nat) (s : State) (h : ∃ x ∈ s.mgmt.sessions, x.id = id) : exec (.spdmSessionEnd id) s = .next (s.endSession id) := by
  obtain ⟨x, hx, hid⟩ := h
  exact congrArg Host.Outcome.next (if_pos (List.any_eq_true.2 ⟨x, hx, decide_eq_true hid⟩))

/-! ### O30 -/

/-- Settles O30: a session is one more of the list; its end filters what is its own and ends the unlock made in it. -/
theorem sessions : Obligations.Sessions := by
  unfold Obligations.Sessions
  refine ⟨sessionEstablished_opens, fun id s h => ⟨_, exec_spdmSessionEnd id s h, fun x => ?_, fun x hx => ?_, fun m hm => ?_, s.endSession_unlock id,
    State.endSession_rights⟩⟩
  · rw [State.endSession_mgmt]
    simp [State.sessionGone]
  · rw [State.endSession_mgmt] at hx
    exact of_decide_eq_true (List.mem_filter.1 hx).2
  · rw [State.endSession_mgmt] at hm
    exact of_decide_eq_true (List.mem_filter.1 hm).2

end Sys2Proof.Machine
end

section
/-! Proofs of 10_cipher_and_sealing.md: debug accesses (R55, R273, R286). -/
namespace Sys2Proof.Machine
open Sys2Proof

/-! ### A refused debug access (R273, R275) -/

@[simp] theorem State.violate_tiles (s : State) (tile cls iface cause dpa quantity : Nat) :
    (s.violate tile cls iface cause dpa quantity).tiles = s.tiles := by
  unfold State.violate
  extract_lets b s1 s2
  have noted : s2.tiles = s.tiles := by
    show s1.tiles = s.tiles
    unfold s1
    split
    · rfl
    · exact State.raise_tiles ..
  split <;> simp [noted]
/-- A refused debug access is answered with a violation, which `LAST_VIOLATION` holds, and touches no tile. -/
theorem State.refuse_debug (s : State) (r : Req) (cause dpa quantity : Nat) (hr : r.iface = .debug) :
    (s.refuse r cause dpa quantity).out = s.out ++ [Response.debug 0 true] ∧
      (s.refuse r cause dpa quantity).cell Ob.LAST_VIOLATION 0 = lastViolation (s.now r.home) dpa r.cls (r.iface.code r.write) cause ∧
      (s.refuse r cause dpa quantity).tiles = s.tiles := by
  let w := (s.violate r.home r.cls (r.iface.code r.write) cause dpa quantity).tcount r.home
    (if r.write then Cn.VIOLATION_WRITES else Cn.VIOLATION_READS) 1
  have hbook : s.Booked w := (s.booked_violate ..).trans (State.booked_tcount ..)
  have heq : s.refuse r cause dpa quantity = { w with out := w.out ++ [Response.debug 0 true] } := by
    simp only [State.refuse, State.answerViolation, hr, w]
  rw [heq]
  refine ⟨by rw [hbook.out], ?_, ?_⟩
  · show w.cell Ob.LAST_VIOLATION 0 = _
    rw [State.tcount_cell, State.violate_last]
  · show w.tiles = _
    rw [State.tcount_tiles, State.violate_tiles]

/-! ### The request of a debug access (R273, R333) -/

/-- The request of a debug access as the tile that carries the sessions makes it, before it is decoded. -/
def State.debugReq (s : State) (dpa kx : Nat) (write : Bool) (mask : ByteMask) (data : Line) : Req := { Req.none with
  iface := .debug, port := s.coreTile, cls := debugClass, src := 8 + s.coreTile, kx := kx % 4096, dpa := dpa - dpa % 64, write := write,
  mask := mask, data := data, feedCls := maintClass, decodedAt := s.now s.coreTile, admittedAt := s.now s.coreTile }
theorem sessions_some {s : State} {session : Nat} (h : ∃ x ∈ s.mgmt.sessions, x.id = session) :
    ¬ s.mgmt.sessions.all (fun x => decide (x.id ≠ session)) = true := by
  obtain ⟨x, hx, hid⟩ := h
  exact fun hall => of_decide_eq_true (List.all_eq_true.1 hall x hx) hid
theorem exec_debugAccess_locked (session dpa kx pred : Nat) (write : Bool) (mask : ByteMask) (data : Line) (s : State)
    (h : ∃ x ∈ s.mgmt.sessions, x.id = session) (hlock : s.svc.unlock ≠ some (sessionReq session)) :
    exec (.debugAccess session dpa kx write mask data pred) s =
      .next (s.refuse (s.debugReq dpa kx write mask data) 9 (dpa - dpa % 64) (dpa - dpa % 64)) :=
  congrArg Host.Outcome.next ((if_neg (sessions_some h)).trans (if_pos hlock))
theorem exec_debugAccess_line (session dpa kx pred k d part tile lla : Nat) (write : Bool) (mask : ByteMask) (data : Line) (s : State)
    (h : ∃ x ∈ s.mgmt.sessions, x.id = session) (hlock : s.svc.unlock = some (sessionReq session)) (herase : s.svc.eraseState ≠ 1)
    (hact : s.dev.memActive = true) (hroute : s.routeDpa (kx % 4096) (dpa - dpa % 64) = .line k d part tile lla) :
    exec (.debugAccess session dpa kx write mask data pred) s =
      .next (s.offer { s.debugReq dpa kx write mask data with kx := k, dpa := d, part := part, tile := tile, lla := lla, feedCls := s.payer part }
        pred) := by
  have hopen : ¬(s.svc.eraseState = 1 ∨ (!s.dev.memActive) = true) := by simp [herase, hact]
  refine congrArg Host.Outcome.next (((if_neg (sessions_some h)).trans (if_neg (not_not.2 hlock))).trans ((if_neg hopen).trans ?_))
  simp only [hroute]
  rfl
theorem debugAccess_locked (session dpa kx pred : Nat) (write : Bool) (mask : ByteMask) (data : Line) (s : State)
    (h : ∃ x ∈ s.mgmt.sessions, x.id = session) (hlock : s.svc.unlock ≠ some (sessionReq session)) :
    ∃ u, exec (.debugAccess session dpa kx write mask data pred) s = .next u ∧ u.out = s.out ++ [Response.debug 0 true] ∧
      u.cell Ob.LAST_VIOLATION 0 % 256 = 9 ∧ u.tiles = s.tiles := by
  obtain ⟨hout, hlast, htiles⟩ := s.refuse_debug (s.debugReq dpa kx write mask data) 9 (dpa - dpa % 64) (dpa - dpa % 64) rfl
  exact ⟨_, exec_debugAccess_locked session dpa kx pred write mask data s h hlock, hout, by rw [hlast, lastViolation_cause], htiles⟩

/-! ### The answer to a debug read (R55) -/

/-- A debug read is answered after bookkeeping. -/
theorem State.answerRead_debug (s : State) (t : Nat) (r : Req) (path slot hops : Nat) (d : Line) (poison : Bool) (hr : r.iface = .debug) :
    ∃ u, s.Booked u ∧ s.answerRead t r path slot hops d poison = { u with out := u.out ++ [Response.debug d poison] } := by
  unfold State.answerRead
  extract_lets svc s1 s2
  rw [hr]
  exact ⟨s2, (((s.booked_modRd t _).trans (State.booked_countPath _ t path)).trans (State.booked_checkBound ..)).trans
    (State.booked_leaveIngress _ r), rfl⟩
/-- A request that is admitted at once goes to its lookup with its admission time. -/
theorem State.offer_admits (s : State) (r : Req) (t pred : Nat) (hrights : s.rightsCause r = none) (hserver : s.serverOf r = some t)
    (hroom : s.admissible t r = true) (hfirst : (s.waitingWith r).any (fun h => h.sameLine r) = false) :
    s.offer r pred = (s.admitFeed t r).1.lookup t { r with admittedAt := s.now r.home } pred := by
  simp only [State.offer, hrights, hserver, hroom, hfirst, Bool.not_false, Bool.and_self, if_true]
  rfl
/-- A debug read of a FRESH line, admitted at once, answers zeros. -/
theorem State.offer_debug_of_fresh (s : State) (r : Req) (pred : Nat) (hiface : r.iface = .debug) (hread : r.write = false)
    (hrights : s.rightsCause r = none) (hserver : s.serverOf r = some r.tile) (hroom : s.admissible r.tile r = true)
    (hfirst : (s.waitingWith r).any (fun h => h.sameLine r) = false) (hnone : (s.tile r.tile).res.find r.lla r.tile = none)
    (hroot : s.rootLost r.tile r.part = false) (hfresh : ((s.tile r.tile).map.entry (lsegOf r.lla)).st = .fresh) :
    (s.offer r pred).out = s.out ++ [Response.debug 0 false] ∧ s.SameMedium (s.offer r pred) := by
  let q : Req := { r with admittedAt := s.now r.home }
  have hbook := s.booked_admitFeed r.tile r
  obtain ⟨u, hquiet, hlook⟩ := (s.admitFeed r.tile r).1.lookupRead_of_fresh r.tile q pred rfl
    (by rw [hbook.res]; exact hnone) (by rw [hbook.rootLost]; exact hroot) (by rw [hbook.map]; exact hfresh)
  obtain ⟨w, hanswer, heq⟩ := u.answerRead_debug r.tile q 2 0 ((s.admitFeed r.tile r).1.reqHops q r.tile) 0 false hiface
  have hread' : ¬ q.write = true := ne_true_of_eq_false hread
  have hoffer : s.offer r pred = { w with out := w.out ++ [Response.debug 0 false] } :=
    (s.offer_admits r r.tile pred hrights hserver hroom hfirst).trans ((if_neg hread').trans (hlook.trans heq))
  have hall : s.Quiet w := (hbook.quiet.trans hquiet).trans hanswer.quiet
  rw [hoffer]
  exact ⟨by rw [hall.out], hall.medium⟩

/-! ### O31 -/

/-- Settles O31: without the unlock the access is refused before it is decoded; with it a FRESH line is a branch of the read lookup. -/
theorem debugAccesses : Obligations.DebugAccesses := by
  unfold Obligations.DebugAccesses
  refine ⟨debugAccess_locked, fun session dpa kx pred k d part tile lla mask data s _ h hlock herase hact hroute => ?_⟩
  intro c r hrights hserver hroom hfirst hnone hroot hfresh
  exact ⟨_, exec_debugAccess_line session dpa kx pred k d part tile lla false mask data s h hlock herase hact hroute,
    s.offer_debug_of_fresh r pred rfl rfl hrights hserver hroom hfirst hnone hroot hfresh⟩

end Sys2Proof.Machine
end

section
/-! Proofs of 10_cipher_and_sealing.md: fetched MAC and counter lines, and the repair of a root (R297, R300, R304). -/
namespace Sys2Proof.Machine
open Sys2Proof

/-! ### A fetched line becomes resident (R300) -/

/-- Entry `e` is a verified metadata line with DATA `d`, as it was fetched. -/
structure Entry.FetchedMeta (e : Entry) (d : Line) : Prop where
  kind : e.kind = .metaLine
  data : e.data = d
  st : e.st = .clean

/-- A metadata line that its home does not hold is placed there as META CLEAN. -/
theorem State.fillMeta_find (s : State) (owner part lla : Nat) (d : Line) (hhome : s.homeOf owner < s.tiles.length)
    (hnone : (s.tile (s.homeOf owner)).res.find lla owner = none) :
    ∃ e, ((s.fillMeta owner part lla d).tile (s.homeOf owner)).res.find lla owner = some e ∧ e.FetchedMeta d := by
  let e : Entry := { Entry.empty .metaLine part lla owner with mask := fullMask, data := d }
  obtain ⟨beyond, hfind⟩ := (s.tile (s.homeOf owner)).res.find_place e
  rw [State.fillMeta, State.modRes_eq, State.tile_modTile_same _ _ _ hhome]
  simp only [hnone]
  exact ⟨_, hfind, rfl, rfl, rfl⟩
theorem State.retryAwaiting_of_none (s : State) (t : Nat) (h : ∀ q ∈ (s.tile t).rd.rds, q.phase ≠ .awaitMeta) : s.retryAwaiting t = s := by
  have hnone : (s.tile t).rd.rds.filter (fun r => decide (r.phase = .awaitMeta)) = [] :=
    List.filter_eq_nil_iff.2 fun q hq => by simpa using h q hq
  rw [State.retryAwaiting, hnone, State.each_nil]

/-- The state in which the line that read `rd` of tile `t` has fetched is resident, and the read is over. -/
def State.metaTaken (s : State) (t rd : Nat) (r : Rd) : State :=
  (s.fillMeta r.req.tile r.part r.lla r.acc).modRd t (fun x => x.dropRd rd)
theorem State.quiet_metaTaken (s : State) (t rd : Nat) (r : Rd) : s.Quiet (s.metaTaken t rd r) :=
  (s.quiet_modRes _ _).trans (State.booked_modRd _ t _).quiet
theorem State.metaTaken_find (s : State) (t rd : Nat) (r : Rd) (hhome : s.homeOf r.req.tile < s.tiles.length)
    (hnone : (s.tile (s.homeOf r.req.tile)).res.find r.lla r.req.tile = none) :
    ∃ e, ((s.metaTaken t rd r).tile (s.homeOf r.req.tile)).res.find r.lla r.req.tile = some e ∧ e.FetchedMeta r.acc := by
  rw [State.metaTaken, (State.booked_modRd _ t _).res]
  exact s.fillMeta_find _ _ _ _ hhome hnone
/-- With no read that waits for metadata nothing more follows. -/
theorem State.retryAwaiting_metaTaken (s : State) (t rd : Nat) (r : Rd) (h : ∀ q ∈ (s.tile t).rd.rds, q.phase ≠ .awaitMeta) :
    (s.metaTaken t rd r).retryAwaiting t = s.metaTaken t rd r := by
  let waits (x : Tile) : Prop := ∀ q ∈ x.rd.rds, q.phase ≠ .awaitMeta
  have hfill : waits ((s.fillMeta r.req.tile r.part r.lla r.acc).tile t) := State.modTile_grows waits s _ t _ (fun _ hx => hx) h
  exact State.retryAwaiting_of_none _ t
    (State.modTile_grows waits _ t t _ (fun x hx q hq => hx q (List.mem_filter.1 hq).1) hfill)

/-! ### META_FETCH_DONE (R297, R300) -/

section
variable {t rd : Nat} {s : State} {r : Rd} (hr : (s.tile t).rd.byId rd = some r) (hwhy : r.why = .metaLine) (hphase : r.phase = .decoded)
include hr hwhy hphase

theorem exec_metaFetchDone_mac {i : Nat} (hline : (s.partn r.part).metaAt r.req.tile r.lla = some (.mac i)) :
    exec (.metaFetchDone t rd) s = .next ((s.metaTaken t rd r).retryAwaiting t) := by
  simp only [exec, execMetaFetchDone, hr, hline, hwhy, hphase, and_self, if_true]
  rfl
theorem exec_metaFetchDone_counter {l i c : Nat} {ctr : Nat × Nat} (hlost : r.lost = false)
    (hline : (s.partn r.part).metaAt r.req.tile r.lla = some (.counter l i c)) (hctr : s.lineCounter r.req.tile r.part l i = some ctr)
    (hvalid : s.verifyCounter r.req.tile r.part ((s.partn r.part).lineLla r.req.tile (.counter l i 0)) ctr r.acc = .valid) :
    exec (.metaFetchDone t rd) s = .next (((s.tcount t Cn.SEALED_VERIFIES 1).metaTaken t rd r).retryAwaiting t) := by
  simp only [exec, execMetaFetchDone, hr, hline, hctr, hvalid, hlost, hwhy, hphase, Bool.not_false, and_self, if_true]
  rfl

end

theorem fetchedMac_resident (t rd i : Nat) (s : State) (r : Rd) (hs : s.Sized) (hr : (s.tile t).rd.byId rd = some r) (hwhy : r.why = .metaLine)
    (hphase : r.phase = .decoded) (hhome : s.homeOf r.req.tile < s.n) (hline : (s.partn r.part).metaAt r.req.tile r.lla = some (.mac i))
    (hwait : ∀ q ∈ (s.tile t).rd.rds, q.phase ≠ .awaitMeta) (hnone : (s.tile (s.homeOf r.req.tile)).res.find r.lla r.req.tile = none) :
    ∃ u e, exec (.metaFetchDone t rd) s = .next u ∧ (u.tile (s.homeOf r.req.tile)).res.find r.lla r.req.tile = some e ∧ e.kind = .metaLine ∧
      e.data = r.acc ∧ e.st = .clean ∧ s.SameMedium u ∧ u.out = s.out := by
  obtain ⟨e, hfind, hkind, hdata, hst⟩ := s.metaTaken_find t rd r (hs.tile_listed hhome) hnone
  have hquiet := s.quiet_metaTaken t rd r
  have hexec := exec_metaFetchDone_mac hr hwhy hphase hline
  rw [s.retryAwaiting_metaTaken t rd r hwait] at hexec
  exact ⟨_, e, hexec, hfind, hkind, hdata, hst, hquiet.medium, hquiet.out⟩
theorem fetchedCounter_resident (t rd l i c : Nat) (ctr : Nat × Nat) (s : State) (r : Rd) (hs : s.Sized) (hr : (s.tile t).rd.byId rd = some r)
    (hwhy : r.why = .metaLine) (hphase : r.phase = .decoded) (hlost : r.lost = false) (hhome : s.homeOf r.req.tile < s.n)
    (hline : (s.partn r.part).metaAt r.req.tile r.lla = some (.counter l i c)) (hctr : s.lineCounter r.req.tile r.part l i = some ctr)
    (hvalid : s.verifyCounter r.req.tile r.part ((s.partn r.part).lineLla r.req.tile (.counter l i 0)) ctr r.acc = .valid)
    (hwait : ∀ q ∈ (s.tile t).rd.rds, q.phase ≠ .awaitMeta) (hnone : (s.tile (s.homeOf r.req.tile)).res.find r.lla r.req.tile = none) :
    ∃ u e, exec (.metaFetchDone t rd) s = .next u ∧ (u.tile (s.homeOf r.req.tile)).res.find r.lla r.req.tile = some e ∧ e.kind = .metaLine ∧
      e.data = r.acc ∧ e.st = .clean ∧ s.SameMedium u ∧ u.out = s.out := by
  let w := s.tcount t Cn.SEALED_VERIFIES 1
  have hbook : s.Booked w := State.booked_tcount ..
  have hsame : w.homeOf r.req.tile = s.homeOf r.req.tile := hbook.homeOf _
  have htiles : w.tiles = s.tiles := State.tcount_tiles ..
  obtain ⟨e, hfind, hkind, hdata, hst⟩ := w.metaTaken_find t rd r (by rw [hsame, htiles]; exact hs.tile_listed hhome)
    (by rw [hsame, hbook.res]; exact hnone)
  have hquiet : s.Quiet (w.metaTaken t rd r) := hbook.quiet.trans (w.quiet_metaTaken t rd r)
  have hexec := exec_metaFetchDone_counter hr hwhy hphase hlost hline hctr hvalid
  rw [w.retryAwaiting_metaTaken t rd r (by rw [State.tcount_tile]; exact hwait)] at hexec
  exact ⟨_, e, hexec, hsame ▸ hfind, hkind, hdata, hst, hquiet.medium, hquiet.out⟩

/-! ### The repair of a root (R304) -/

theorem exec_rootRepaired (t part : Nat) (s : State) (ht : t < s.n) (hm : s.mirrorOf t < s.n)
    (h : (s.tile t).sealing.any (fun x => decide (x.part = part) && !x.rootLost) = true) :
    exec (.rootRepaired t part) s = .next (s.tev t Ev.ROOT_REPAIRED 0xFF part []) :=
  congrArg Host.Outcome.next (if_pos ⟨ht, hm, h⟩)
theorem rootRepaired_reports (t part : Nat) (s : State) (ht : t < s.n) (hs : s.Sized) (hm : s.mirrorOf t < s.n)
    (h : (s.tile t).sealing.any (fun x => decide (x.part = part) && !x.rootLost) = true) :
    ∃ u, exec (.rootRepaired t part) s = .next u ∧ u.tileReports t Ev.ROOT_REPAIRED ∧ u.tiles = s.tiles ∧ u.out = s.out :=
  ⟨_, exec_rootRepaired t part s ht hm h, State.tev_reports _ _ _ _ _ _ (hs.tile_recorder ht), State.tev_tiles .., State.tev_out ..⟩

/-! ### O32 -/

/-- Settles O32: a MAC line and a counter line that verifies are filled alike; the repair of a root is an event. -/
theorem sealingMetadata : Obligations.SealingMetadata := by
  unfold Obligations.SealingMetadata
  exact ⟨fetchedMac_resident, fetchedCounter_resident, rootRepaired_reports⟩

end Sys2Proof.Machine
end

section
/-! Proofs of 10_cipher_and_sealing.md: a write of one operation to a command of the dictionary, and how its answer leaves (R421, R425 to R429). -/
namespace Sys2Proof.Machine
open Sys2Proof

/-! ### A write that nothing bars (R421, R428) -/

/-- Nothing bars the write of `v` by requester `q` to the command at `p`, which lies there on this part. -/
structure State.Permits (s : State) (q : Requester) (p : ObPlace) (v : Nat) : Prop where
  here : s.findOb (p.cell / 256) (p.cell % 256) = some p
  command : p.access = .cmd ∨ p.access = .wo
  path : s.pathFor q p = true
  role : s.rightsFor q p = true
  range : s.inRange p v = true
  mask : s.writeMask p v = v
  fits : v < 256 ^ p.row.size
  unlocked : s.locked p = false
  recorder : s.recorderGone p = false

/-- The write of `v` to the object at `p`, as the one operation of a message (R425). -/
def ObPlace.write (p : ObPlace) (v : Nat) : StaebOp :=
  { op := 2, sub := p.cell % 256, index := p.cell / 256, value := bytesLE p.row.size v }

theorem State.not_shutting_of_inService {s : State} (h : s.inService = true) : s.shutting = false := by
  obtain hst | hst := of_decide_eq_true h <;> simp [State.shutting, hst]
theorem State.Permits.writeFault {s : State} {q : Requester} {p : ObPlace} {v : Nat} (h : s.Permits q p v) (hin : s.inService = true) :
    s.writeFault q (p.cell / 256) p (bytesLE p.row.size v) v = none := by
  have haccess : ¬(p.access = .ro ∨ s.pathFor q p = false) := by
    rw [h.path]
    obtain hc | hc := h.command <;> simp [hc]
  unfold State.writeFault
  rw [if_neg haccess]
  simp only [h.role, h.range, h.unlocked, h.recorder, State.not_shutting_of_inService hin, bytesLE_length, ne_eq, not_true_eq_false, Bool.not_true,
    Bool.false_eq_true, and_false, if_false]
/-- In service the write runs the command. -/
theorem State.Permits.runOp {s : State} {q : Requester} {p : ObPlace} {v : Nat} (h : s.Permits q p v) (hin : s.inService = true) :
    s.runOp q (p.write v) = s.command q p v := by
  have hv : s.writeMask p (ofBytesLE (bytesLE p.row.size v)) = v := by rw [ofBytesLE_bytesLE_of_lt _ _ h.fits, h.mask]
  have hconfig : p.isConfig = false := by
    obtain hc | hc := h.command <;> simp [ObPlace.isConfig, hc]
  rw [ObPlace.write, s.runOp_write q _ _ _ p hin h.here, s.writeOp_command q _ p _ (by rw [hv]; exact h.writeFault hin) hconfig h.command, hv]

/-! ### The answer (R425, R427, R429) -/

theorem State.answer_frame_one (s : State) (q : Requester) (o : StaebOp) (key code detail : Nat) (hsub : o.sub = key % 256)
    (hindex : o.index = key / 256) : ∃ out cnt, s.answer q 0 false [respRecord code o s.dev.st.code detail []] = { s with out := out, cnt := cnt } ∧
      s.Replies { s with out := out, cnt := cnt } q key code detail [] := by
  obtain ⟨out, cnt, h⟩ := s.answer_frame q 0 false [respRecord code o s.dev.st.code detail []]
  have hone : respRecord code o s.dev.st.code detail [] =
      respRecord code { op := 0, sub := key % 256, index := key / 256, value := [] } s.dev.st.code detail [] := by
    simp only [respRecord, hsub, hindex]
  refine ⟨out, cnt, h, ?_⟩
  rw [← h, State.Replies, hone, State.answer_one]
  simp only [oneRecord, State.answer_dev]

section
variable {s u : State} {q : Requester} {p : ObPlace} {v : Nat} (ht : s.Takes q) (hin : s.inService = true) (h : s.Permits q p v)
include ht hin h

/-- A command that is done at once is answered; the answer and its counts are all that follows. -/
theorem State.Permits.write_done (hc : s.command q p v = .now u.ok) (hout : u.out = s.out) :
    ∃ out cnt, s.writeOb q p.cell p.row.size v = { u with out := out, cnt := cnt } ∧
      s.Replies { u with out := out, cnt := cnt } q p.cell 0 0 [] := by
  obtain ⟨out, cnt, hanswer, hreply⟩ := u.answer_frame_one q (p.write v) p.cell 0 0 rfl rfl
  refine ⟨out, cnt, ?_, ?_⟩
  · rw [← hanswer]
    exact s.oneOp_now q 2 _ _ _ _ ht ((h.runOp hin).trans hc)
  · rw [State.Replies, ← hout]
    exact hreply
/-- A command that ends at a later step leaves its message waiting. -/
theorem State.Permits.write_waits {w : Wait} (hc : s.command q p v = .later u w) (hout : u.out = s.out) (hm : u.mgmt = s.mgmt) :
    ∃ m, s.writeOb q p.cell p.row.size v = { u with mgmt := m } ∧ s.Waits { u with mgmt := m } q p.cell w := by
  let m : Message := { req := q, tag := 0, stop := false, failed := false, done := [], waiting := w, cur := p.write v, rest := [] }
  exact ⟨_, s.oneOp_later u q 2 _ _ _ w ht ((h.runOp hin).trans hc), hout, m, congrArg (fun x => x.messages ++ [m]) hm,
    rfl, rfl, rfl, rfl, rfl, rfl, rfl, rfl⟩

end
theorem State.count_frame (s : State) (num k : Nat) : ∃ cnt, s.count num k = { s with cnt := cnt } := by
  unfold State.count
  split
  · exact ⟨_, rfl⟩
  · exact ⟨s.cnt, rfl⟩
theorem State.pev_frame (s : State) (code value : Nat) (qs : List (Nat × Nat)) : ∃ cnt recs, s.pev code value qs = { s with cnt := cnt, recs := recs } := by
  unfold State.pev State.pevAt State.stage
  obtain ⟨cnt, h⟩ := State.count_frame { s with recs := _ } Cn.REC_OCCURRENCES 1
  exact ⟨cnt, _, h⟩
/-- The log of an error is cells, counts and an event (R429). -/
theorem State.logError_frame (s : State) (q : Requester) (code detail key : Nat) :
    ∃ obj cnt recs, s.logError q code detail key = { s with obj := obj, cnt := cnt, recs := recs } := by
  unfold State.logError
  extract_lets value
  obtain ⟨cnt, hcount⟩ := ((s.setCell Ob.DICT_LAST_ERROR value).raise Ob.DICT_STATUS 0 Ob.DICT_OCC).count_frame Cn.DICT_ERRORS 1
  obtain ⟨cnt', recs, hpev⟩ := (((s.setCell Ob.DICT_LAST_ERROR value).raise Ob.DICT_STATUS 0 Ob.DICT_OCC).count Cn.DICT_ERRORS 1).pev_frame
    Ev.DICT_ERROR value [(8, value / 2 ^ 64)]
  rw [hpev, hcount]
  exact ⟨_, cnt', recs, rfl⟩
/-- A command that is refused is answered with its error, which is logged; nothing else follows (R428, R429). -/
theorem State.Permits.write_refused {s : State} {q : Requester} {p : ObPlace} {v code detail : Nat} (ht : s.Takes q) (hin : s.inService = true)
    (h : s.Permits q p v) (hc : s.command q p v = .now (s.refused code detail)) (hcode : code ≠ 0) : ∃ obj recs out cnt,
      s.writeOb q p.cell p.row.size v = { s with obj := obj, recs := recs, out := out, cnt := cnt } ∧
      s.Replies { s with obj := obj, recs := recs, out := out, cnt := cnt } q p.cell code detail [] := by
  obtain ⟨obj, cnt0, recs, hlog⟩ := s.logError_frame q code detail ((p.write v).index % 65536 * 256 + (p.write v).sub % 256)
  obtain ⟨out, cnt, hanswer, hreply⟩ :=
    State.answer_frame_one { s with obj := obj, cnt := cnt0, recs := recs } q (p.write v) p.cell code detail rfl rfl
  refine ⟨obj, recs, out, cnt, ?_, hreply⟩
  have hfinish : finishOp q (p.write v) (s.refused code detail) =
      ({ s with obj := obj, cnt := cnt0, recs := recs }, respRecord code (p.write v) s.dev.st.code detail []) := by
    simp only [finishOp, State.refused, if_neg hcode, Option.getD_none, hlog]
  have hnow : s.writeOb q p.cell p.row.size v =
      (finishOp q (p.write v) (s.refused code detail)).1.answer q 0 false [(finishOp q (p.write v) (s.refused code detail)).2] :=
    s.oneOp_now q 2 _ _ _ _ ht ((h.runOp hin).trans hc)
  rw [hnow, hfinish]
  exact hanswer

end Sys2Proof.Machine
end

section
/-! Proofs of 10_cipher_and_sealing.md: key commands, KEY_QUERY, the debug unlock and the adoption of a root (R278 to R280, R286, R306, R311). -/
namespace Sys2Proof.Machine
open Sys2Proof

/-! ### Where the commands lie -/

/-- The instances of a listed row with no further subindex lie where their cells are named. -/
theorem State.findOb_cell (s : State) (row : ObRow) (i : Nat) (hr : row ∈ obRows) (hi : i < row.inst.span) (hh : s.instHere row i = true)
    (hseg : row.key ≠ Ob.PART_SEG_BASE) : s.findOb (ObPlace.cell ⟨row, i, 0⟩ / 256) (ObPlace.cell ⟨row, i, 0⟩ % 256) = some ⟨row, i, 0⟩ := by
  have hindex : ObPlace.cell ⟨row, i, 0⟩ / 256 = row.key / 256 + i := Nat.add_mul_div_left row.key i (by decide)
  have hsub : ObPlace.cell ⟨row, i, 0⟩ % 256 = row.key % 256 + 0 := Nat.add_mul_mod_self_left row.key 256 i
  rw [hindex, hsub]
  exact s.findOb_of_row row i 0 hr hi (Nat.zero_le _) hh (.inl hseg)

/-- Where the object KEY_LOAD lies. -/
def keyLoadPlace : ObPlace := { row := obRow Ob.KEY_LOAD 0 .one 72 .wo .any, i := 0, off := 0 }
/-- Where the object KEY_ERASE lies. -/
def keyErasePlace : ObPlace := { row := obRow Ob.KEY_ERASE 0 .one 4 .cmd (.between 1 4095), i := 0, off := 0 }
/-- Where the object KEY_QUERY lies. -/
def keyQueryPlace : ObPlace := { row := obRow Ob.KEY_QUERY 0 .one 4 .cmd (.between 0 4095), i := 0, off := 0 }
/-- Where the object DEBUG_UNLOCK lies. -/
def debugUnlockPlace : ObPlace := { row := obRow Ob.DEBUG_UNLOCK 0 .one 1024 .wo .any, i := 0, off := 0 }
/-- Where the object DEBUG_LOCK lies. -/
def debugLockPlace : ObPlace := { row := obRow Ob.DEBUG_LOCK 0 .one 4 .cmd (.between 1 1), i := 0, off := 0 }
/-- Where the object SEAL_ROOT_ADOPT of a partition lies. -/
def rootAdoptPlace (part : Nat) : ObPlace := { row := obRow Ob.SEAL_ROOT_ADOPT 0 .part 4 .cmd (.between 0 7), i := part, off := 0 }

/-! ### Who may write them, and with what (R279, R286, R420, R425, R430) -/

section
variable (s : State) (q : Requester)

theorem State.permits_keyLoad {v : Nat} (hpath : s.keyPath q = true) (hv : v < 256 ^ 72) : s.Permits q keyLoadPlace v where
  here := s.findOb_cell keyLoadPlace.row 0 (by decide) (by decide) rfl (by decide)
  command := .inr rfl
  path := hpath
  role := rfl
  range := rfl
  mask := rfl
  fits := hv
  unlocked := rfl
  recorder := rfl
theorem State.permits_keyErase {k : Nat} (hpath : s.keyPath q = true) (hk : 1 ≤ k ∧ k ≤ 4095) : s.Permits q keyErasePlace k where
  here := s.findOb_cell keyErasePlace.row 0 (by decide) (by decide) rfl (by decide)
  command := .inl rfl
  path := hpath
  role := rfl
  range := decide_eq_true hk
  mask := rfl
  fits := Nat.lt_of_le_of_lt hk.2 (by decide)
  unlocked := rfl
  recorder := rfl
theorem State.permits_keyQuery {k : Nat} (hk : k ≤ 4095) : s.Permits q keyQueryPlace k where
  here := s.findOb_cell keyQueryPlace.row 0 (by decide) (by decide) rfl (by decide)
  command := .inl rfl
  path := rfl
  role := rfl
  range := decide_eq_true ⟨Nat.zero_le _, hk⟩
  mask := rfl
  fits := Nat.lt_of_le_of_lt hk (by decide)
  unlocked := rfl
  recorder := rfl
theorem debugUnlockPlace_size : debugUnlockPlace.row.size = 1024 := rfl
theorem State.permits_debugUnlock {token : Nat} (howner : s.isOwner q = true) (hv : token < 256 ^ 1024) : s.Permits q debugUnlockPlace token where
  here := s.findOb_cell debugUnlockPlace.row 0 (by decide) (by decide) rfl (by decide)
  command := .inr rfl
  path := rfl
  role := howner
  range := rfl
  mask := rfl
  fits := by
    rw [debugUnlockPlace_size]
    exact hv
  unlocked := rfl
  recorder := rfl
theorem State.permits_debugLock (howner : s.isOwner q = true) : s.Permits q debugLockPlace 1 where
  here := s.findOb_cell debugLockPlace.row 0 (by decide) (by decide) rfl (by decide)
  command := .inl rfl
  path := rfl
  role := howner
  range := rfl
  mask := rfl
  fits := by decide
  unlocked := rfl
  recorder := rfl
theorem rootAdoptPlace_listed (part : Nat) : (rootAdoptPlace part).row ∈ obRows :=
  (by decide : obRow Ob.SEAL_ROOT_ADOPT 0 .part 4 .cmd (.between 0 7) ∈ obRows)
theorem rootAdoptPlace_access (part : Nat) : (rootAdoptPlace part).access = .cmd :=
  if_neg fun h => absurd h.1 (by decide : Ob.SEAL_ROOT_ADOPT ≠ Ob.RIGHTS_MAP)
theorem State.permits_rootAdopt {part t : Nat} (hpart : part < 64) (ht : t ≤ 7) : s.Permits q (rootAdoptPlace part) t where
  here := s.findOb_cell (rootAdoptPlace part).row part (rootAdoptPlace_listed part) hpart rfl (by decide : Ob.SEAL_ROOT_ADOPT ≠ Ob.PART_SEG_BASE)
  command := .inl (rootAdoptPlace_access part)
  path := rfl
  role := rfl
  range := decide_eq_true ⟨Nat.zero_le _, ht⟩
  mask := rfl
  fits := Nat.lt_of_le_of_lt ht (by decide : 7 < 256 ^ 4)
  unlocked := rfl
  recorder := rfl

end

/-! ### The argument of KEY_LOAD (R279) -/

/-- Slot, K1 and K2 as KEY_LOAD carries them. -/
def keyArgument (k : Nat) (k1 k2 : Key256) : Nat := k + k1.toNat * 2 ^ 64 + k2.toNat * 2 ^ 320

theorem State.command_keyLoadPlace (s : State) (q : Requester) (v : Nat) : s.command q keyLoadPlace v = s.keyLoad q v := rfl

section
variable {k : Nat} {k1 k2 : Key256} (hk : k ≤ 4095)
include hk

theorem keyArgument_lt : keyArgument k k1 k2 < 256 ^ 72 := by
  have h1 := k1.isLt
  have h2 := k2.isLt
  unfold keyArgument
  omega
theorem keyArgument_slot : bitsOf (keyArgument k k1 k2) 0 12 = k := by
  rw [bitsOf, Nat.shiftRight_zero, keyArgument]
  omega
theorem keyArgument_k1 : BitVec.ofNat 256 (keyArgument k k1 k2 / 2 ^ 64) = k1 := by
  have h1 := k1.isLt
  apply BitVec.eq_of_toNat_eq
  rw [BitVec.toNat_ofNat, keyArgument]
  omega
theorem keyArgument_k2 : BitVec.ofNat 256 (keyArgument k k1 k2 / 2 ^ 320) = k2 := by
  have h1 := k1.isLt
  have h2 := k2.isLt
  apply BitVec.eq_of_toNat_eq
  rw [BitVec.toNat_ofNat, keyArgument]
  omega
theorem State.command_keyLoad (s : State) (q : Requester) :
    s.command q keyLoadPlace (keyArgument k k1 k2) = s.keyCommand q k (some (k1, k2)) := by
  rw [State.command_keyLoadPlace, State.keyLoad, keyArgument_slot hk, keyArgument_k1 hk, keyArgument_k2 hk]

end

/-! ### Key commands (R278 to R280) -/

/-- The state with a loaded slot in PURGING and its change under way. -/
def State.keyPurging (s : State) (c : KeyChange) : State :=
  { s with keys := { slots := s.keys.slots.insert c.slot { s.key c.slot with st := .purging }, change := some c } }
theorem State.keyPurging_st (s : State) (c : KeyChange) : ((s.keyPurging c).key c.slot).st = .purging := by
  rw [State.key, State.keyPurging, Sparse.getD_insert_same]
theorem Sparse.getD_put_of_ne_default {α : Type} [DecidableEq α] (m : Sparse α) (d v : α) (k : Nat) (h : v ≠ d) : (m.put d k v).getD k d = v := by
  rw [Sparse.put, if_neg h, Sparse.getD_insert_same]
/-- A key that is loaded is no erased slot: its slot is written whatever the table held. -/
theorem State.finishKey_loaded (s : State) (k : Nat) (k1 k2 : Key256) (q : Requester) :
    (s.finishKey { slot := k, load := some (k1, k2), req := q }).key k = { st := .loaded, k1 := k1, k2 := k2 } := by
  rw [State.key, State.finishKey_keys]
  have hloaded : ({ st := .loaded, k1 := k1, k2 := k2 } : KeySlot) ≠ KeySlot.reset := fun h => nomatch congrArg KeySlot.st h
  exact Sparse.getD_put_of_ne_default _ _ _ _ hloaded

/-- The key command over slot `k` may be carried out: the path may carry keys, the slot is no seal key, and no change is under way. -/
structure State.KeyFree (s : State) (q : Requester) (k : Nat) : Prop where
  path : s.keyPath q = true
  slot : 1 ≤ k ∧ k ≤ 4095
  plain : s.isSealKey k = false
  idle : s.keys.change = none

section
variable {s : State} {q : Requester} {k : Nat} (h : s.KeyFree q k)
include h

theorem State.KeyFree.command (load : Option (Key256 × Key256)) : s.keyCommand q k load =
    if (s.key k).st = .loaded then .later (s.keyPurging { slot := k, load := load, req := q }) .key
    else .now (s.finishKey { slot := k, load := load, req := q }).ok := by
  have hslot : ¬(k = 0 ∨ 4095 < k) := by have := h.slot; omega
  simp only [State.keyCommand, h.path, h.plain, h.idle, Bool.not_true, if_neg hslot, Option.isSome_none, Bool.false_eq_true, if_false]
  rfl

end
section
variable {s : State} {q : Requester} {k : Nat} (ht : s.Takes q) (hin : s.inService = true) (h : s.KeyFree q k)
include ht hin h

theorem keyLoad_empty (k1 k2 : Key256) (hs : s.Sized) (hst : (s.key k).st = .empty) :
    ∃ u, exec (.keyLoad q k k1 k2) s = .next u ∧ u.key k = { st := .loaded, k1 := k1, k2 := k2 } ∧ (∀ j, j ≠ k → u.key j = s.key j) ∧
      s.Replies u q Ob.KEY_LOAD 0 0 [] ∧ u.pkgReports Ev.KEY_LOADED ∧ s.SameMedium u := by
  let c : KeyChange := { slot := k, load := some (k1, k2), req := q }
  have hcommand : s.command q keyLoadPlace (keyArgument k k1 k2) = .now (s.finishKey c).ok := by
    refine (s.command_keyLoad h.slot.2 q).trans ((h.command _).trans (if_neg ?_))
    rw [hst]
    exact fun hc => nomatch hc
  obtain ⟨out, cnt, hwrite, hreply⟩ :=
    (s.permits_keyLoad q h.path (keyArgument_lt h.slot.2)).write_done ht hin hcommand (s.finishKey_out c)
  exact ⟨_, congrArg Host.Outcome.next hwrite, s.finishKey_loaded k k1 k2 q, fun j hj => s.finishKey_key_ne c j hj, hreply,
    s.finishKey_reports c hs.package_recorder, s.sameMedium_finishKey c⟩
theorem keyLoad_loaded (k1 k2 : Key256) (hst : (s.key k).st = .loaded) :
    ∃ u, exec (.keyLoad q k k1 k2) s = .next u ∧ (u.key k).st = .purging ∧ u.keys.change = some { slot := k, load := some (k1, k2), req := q } ∧
      s.Waits u q Ob.KEY_LOAD .key ∧ u.tiles = s.tiles := by
  have hcommand : s.command q keyLoadPlace (keyArgument k k1 k2) = .later (s.keyPurging { slot := k, load := some (k1, k2), req := q }) .key :=
    (s.command_keyLoad h.slot.2 q).trans ((h.command _).trans (if_pos hst))
  obtain ⟨m, hwrite, hwaits⟩ := (s.permits_keyLoad q h.path (keyArgument_lt h.slot.2)).write_waits ht hin hcommand rfl rfl
  exact ⟨_, congrArg Host.Outcome.next hwrite, s.keyPurging_st _, rfl, hwaits, rfl⟩
theorem keyErase_loaded (hst : (s.key k).st = .loaded) :
    ∃ u, exec (.keyErase q k) s = .next u ∧ (u.key k).st = .purging ∧ u.keys.change = some { slot := k, load := none, req := q } ∧
      s.Waits u q Ob.KEY_ERASE .key ∧ u.tiles = s.tiles := by
  have hcommand : s.command q keyErasePlace k = .later (s.keyPurging { slot := k, load := none, req := q }) .key :=
    (h.command none).trans (if_pos hst)
  obtain ⟨m, hwrite, hwaits⟩ := (s.permits_keyErase q h.path h.slot).write_waits ht hin hcommand rfl rfl
  exact ⟨_, congrArg Host.Outcome.next hwrite, s.keyPurging_st _, rfl, hwaits, rfl⟩

end

/-! ### KEY_QUERY (R311) -/

theorem State.keyQuery_of_slot (s : State) (k : Nat) (hk : k ≤ 4095) : s.keyQuery k = (s.setCell Ob.KEY_INFO
    ((match (s.key k).st with | .empty => 0 | .loaded => 1 | .purging => 2) * 2 ^ 30 + (s.key k).kcv)).ok := by
  unfold State.keyQuery
  exact if_neg (Nat.not_lt.2 hk)
theorem keyQuery_shows {s : State} {q : Requester} (ht : s.Takes q) (hin : s.inService = true) (k : Nat) (hk : k ≤ 4095) :
    ∃ u, exec (.keyQuery q k) s = .next u ∧ s.Replies u q Ob.KEY_QUERY 0 0 [] ∧
      u.cell Ob.KEY_INFO 0 = (match (s.key k).st with | .empty => 0 | .loaded => 1 | .purging => 2) * 2 ^ 30 + (s.key k).kcv ∧
      u.keys = s.keys ∧ u.tiles = s.tiles := by
  have hcommand : s.command q keyQueryPlace k = .now (s.keyQuery k) := rfl
  rw [s.keyQuery_of_slot k hk] at hcommand
  obtain ⟨out, cnt, hwrite, hreply⟩ := (s.permits_keyQuery q hk).write_done ht hin hcommand rfl
  exact ⟨_, congrArg Host.Outcome.next hwrite, hreply, State.cell_setCell_same .., rfl, rfl⟩

/-! ### The debug unlock (R286) -/

/-- The event DEBUG_UNLOCKED of a token. -/
def State.unlockNoted (s : State) (token : Nat) : State := s.pevQ Ev.DEBUG_UNLOCKED
  (((Config.tokenRanges token).map (fun r => [(2, r.1), (2, r.2.1)])).flatten ++ [(1, bitNat (Config.tokenTest token))])
/-- The state with debug unlocked for a requester by a token. -/
def State.debugUnlocked (s : State) (q : Requester) (token : Nat) : State :=
  (State.permitTest { s with svc := { s.svc with unlock := some q }, obj := s.obj.insert debugRightsKey (rangesMap (Config.tokenRanges token)) }
    (Config.tokenTest token)).unlockNoted token
theorem State.unlockNoted_eq (s : State) (token : Nat) : ∃ value qs, s.unlockNoted token = s.pev Ev.DEBUG_UNLOCKED value qs := by
  unfold State.unlockNoted State.pevQ
  split
  · exact ⟨_, _, rfl⟩
  · exact ⟨_, _, rfl⟩
theorem State.debugUnlock_of_owner {s : State} {q : Requester} {cert : Nat} (howner : s.isOwner q = true) (hcert : s.svc.owner = some cert)
    (token : Nat) : s.debugUnlock q token =
    if Config.tokenOk cert token = false then s.refused Err.access 0
    else if 16 < (Config.tokenRanges token).length then s.refused Err.range 0 else (s.debugUnlocked q token).ok := by
  simp only [State.debugUnlock, State.debugUnlocked, State.unlockNoted, howner, hcert, Bool.not_true, Bool.false_eq_true, if_false,
    Bool.not_eq_true']
theorem State.debugUnlocked_out (s : State) (q : Requester) (token : Nat) : (s.debugUnlocked q token).out = s.out := by
  obtain ⟨value, qs, hnoted⟩ := State.unlockNoted_eq _ token
  rw [State.debugUnlocked, hnoted, State.pev_out, State.permitTest_out]
theorem State.debugUnlocked_tiles_length (s : State) (q : Requester) (token : Nat) : (s.debugUnlocked q token).tiles.length = s.tiles.length := by
  obtain ⟨value, qs, hnoted⟩ := State.unlockNoted_eq _ token
  rw [State.debugUnlocked, hnoted, State.pev_tiles, State.permitTest_tiles_length]
theorem State.debugUnlocked_unlock (s : State) (q : Requester) (token : Nat) : (s.debugUnlocked q token).svc.unlock = some q := by
  obtain ⟨value, qs, hnoted⟩ := State.unlockNoted_eq _ token
  rw [State.debugUnlocked, hnoted, State.pev_svc, State.permitTest_svc]
theorem State.debugUnlocked_rights (s : State) (q : Requester) (token : Nat) :
    (s.debugUnlocked q token).cell debugRightsKey 0 = rangesMap (Config.tokenRanges token) := by
  obtain ⟨value, qs, hnoted⟩ := State.unlockNoted_eq _ token
  rw [State.debugUnlocked, hnoted, State.pev_cell, State.permitTest_rights]
  exact Sparse.getD_insert_same ..
theorem State.debugUnlocked_reports (s : State) (q : Requester) (token : Nat) (h : 8 < s.recs.length) :
    (s.debugUnlocked q token).pkgReports Ev.DEBUG_UNLOCKED := by
  obtain ⟨value, qs, hnoted⟩ := State.unlockNoted_eq _ token
  rw [State.debugUnlocked, hnoted]
  refine State.pev_reports _ _ _ _ ?_
  rw [State.permitTest_recs_length]
  exact h

section
variable {s : State} {q : Requester} (ht : s.Takes q) (hin : s.inService = true) (hs : s.Sized) (howner : s.isOwner q = true)
include ht hin hs howner

theorem debugUnlock_unlocks (token cert : Nat) (hv : token < 256 ^ 1024) (hcert : s.svc.owner = some cert) :
    ∃ u, exec (.debugUnlock q token) s = .next u ∧ u.tiles.length = s.tiles.length ∧
      (if Config.tokenOk cert token = false then s.Replies u q Ob.DEBUG_UNLOCK Err.access 0 [] ∧ u.svc = s.svc ∧ u.tiles = s.tiles
        else if 16 < (Config.tokenRanges token).length then s.Replies u q Ob.DEBUG_UNLOCK Err.range 0 [] ∧ u.svc = s.svc ∧ u.tiles = s.tiles
        else s.Replies u q Ob.DEBUG_UNLOCK 0 0 [] ∧ u.svc.unlock = some q ∧
          u.cell debugRightsKey 0 = rangesMap (Config.tokenRanges token) ∧ u.pkgReports Ev.DEBUG_UNLOCKED) := by
  have hpermits := s.permits_debugUnlock q howner hv
  have hcommand : s.command q debugUnlockPlace token = .now (s.debugUnlock q token) := rfl
  rw [State.debugUnlock_of_owner howner hcert] at hcommand
  split at hcommand
  next hbad =>
    obtain ⟨obj, recs, out, cnt, hwrite, hreply⟩ := hpermits.write_refused ht hin hcommand (by decide)
    refine ⟨_, congrArg Host.Outcome.next hwrite, rfl, ?_⟩
    rw [if_pos hbad]
    exact ⟨hreply, rfl, rfl⟩
  next hok =>
    split at hcommand
    next hlong =>
      obtain ⟨obj, recs, out, cnt, hwrite, hreply⟩ := hpermits.write_refused ht hin hcommand (by decide)
      refine ⟨_, congrArg Host.Outcome.next hwrite, rfl, ?_⟩
      rw [if_neg hok, if_pos hlong]
      exact ⟨hreply, rfl, rfl⟩
    next hfew =>
      obtain ⟨out, cnt, hwrite, hreply⟩ := hpermits.write_done ht hin hcommand (s.debugUnlocked_out q token)
      refine ⟨_, congrArg Host.Outcome.next hwrite, s.debugUnlocked_tiles_length q token, ?_⟩
      rw [if_neg hok, if_neg hfew]
      exact ⟨hreply, s.debugUnlocked_unlock q token, s.debugUnlocked_rights q token, s.debugUnlocked_reports q token hs.package_recorder⟩
theorem debugLock_locks (r : Requester) (hlock : s.svc.unlock = some r) : ∃ u, exec (.debugLock q 1) s = .next u ∧
    s.Replies u q Ob.DEBUG_LOCK 0 0 [] ∧ u.svc.unlock = none ∧ u.svc.testPermitted = false ∧ u.cell debugRightsKey 0 = 0 ∧
    u.pkgReports Ev.DEBUG_RELOCKED ∧ ∀ v, (u.tile v).med.slots = (s.tile v).med.slots := by
  have hcommand : s.command q debugLockPlace 1 = .now (s.relock 1).ok := rfl
  obtain ⟨out, cnt, hwrite, hreply⟩ := (s.permits_debugLock q howner).write_done ht hin hcommand (s.relock_out 1)
  exact ⟨_, congrArg Host.Outcome.next hwrite, hreply, s.relock_unlock 1, State.relock_testPermitted hlock 1, State.relock_rights hlock 1,
    State.relock_reports hlock 1 hs.package_recorder, s.relock_slots 1⟩

end

/-! ### The adoption of a root (R304, R306) -/

theorem State.leaves_dirtyMeta {β : Type} {v : Nat} {g : Tile → β} (s : State) (owner part : Nat) (x : MetaLine) (d : Line)
    (h : ∀ (x : Tile) r, g { x with res := r } = g x) : State.Leaves v g s (s.dirtyMeta owner part x d) := by
  have hshadow (u : State) (t lla : Nat) : State.Leaves v g u (u.shadowFor t owner true 1 lla) := u.leaves_shadowFor _ _ _ _ _ (fun x _ _ => h x _)
  have hres (t : Nat) (f : TileRes → TileRes) : State.Leaves v g s (s.modRes t f) := s.leaves_modRes t f (fun _ => h)
  unfold State.dirtyMeta
  extract_lets t lla
  split
  · exact (hres t _).trans (hshadow _ t lla)
  · exact .ite (hres t _) ((hres t _).trans (hshadow _ t lla))
theorem State.leaves_dirtyCounter {β : Type} {v : Nat} {g : Tile → β} (s : State) (owner part level i : Nat) (d : Line)
    (h : ∀ (x : Tile) r, g { x with res := r } = g x) : State.Leaves v g s (s.dirtyCounter owner part level i d) := by
  have hmeta (u : State) (x : MetaLine) : State.Leaves v g u (u.dirtyMeta owner part x d) := u.leaves_dirtyMeta owner part x d h
  unfold State.dirtyCounter
  exact .ite ((hmeta s _).trans (hmeta _ _)) (hmeta s _)
theorem State.dirtyMeta_out (s : State) (owner part : Nat) (x : MetaLine) (d : Line) : (s.dirtyMeta owner part x d).out = s.out := by
  have hshadow (u : State) (t lla : Nat) : (u.shadowFor t owner true 1 lla).out = u.out := (u.keepsEntries_shadowFor t owner true 1 lla).out
  unfold State.dirtyMeta
  extract_lets t lla
  split
  · exact hshadow _ t lla
  · split
    · rfl
    · exact hshadow _ t lla
theorem State.dirtyCounter_out (s : State) (owner part level i : Nat) (d : Line) : (s.dirtyCounter owner part level i d).out = s.out := by
  unfold State.dirtyCounter
  split
  · exact (State.dirtyMeta_out ..).trans (State.dirtyMeta_out ..)
  · exact State.dirtyMeta_out ..

/-- The state with a fresh SEQ taken, a new root and the root found again; the lines of the top level are not META DIRTY yet. -/
def State.rooted (s : State) (t part root : Nat) : State := (s.freshSeq t).1.modSeal t part (fun x => { x with root := root, rootLost := false })
theorem State.adoptRoot_eq (s : State) (t part : Nat) : ∃ root level live, ∃ data : Nat → Line, s.adoptRoot t part =
    ((s.rooted t part root).each live (fun u i => u.dirtyCounter t part level i (data i))).pev Ev.ROOT_ADOPTED t [(1, part)] := by
  unfold State.adoptRoot State.rooted
  generalize s.freshSeq t = fresh
  obtain ⟨s1, seq⟩ := fresh
  exact ⟨_, _, _, _, rfl⟩
/-- The root is not lost any more. -/
theorem State.rooted_rootLost (s : State) (t part root : Nat) (ht : t < s.tiles.length) : (s.rooted t part root).rootLost t part = false := by
  rw [State.rootLost, State.rooted, State.modSeal, State.tile_modTile_same _ _ _ (by rw [State.freshSeq_tiles_length]; exact ht)]
  refine List.any_eq_false.2 fun x hx => ?_
  obtain ⟨y, -, rfl⟩ := List.mem_map.1 hx
  split
  · simp
  next hother => simp [hother]
theorem State.within_rooted (s : State) (t part root : Nat) : State.Within t s (s.rooted t part root) :=
  (s.within_freshSeq t).trans (State.within_modTile _ t _)
theorem State.rooted_med (s : State) (t part root v : Nat) : ((s.rooted t part root).tile v).med = (s.tile v).med := by
  obtain ⟨seq, ceil, h⟩ := s.freshSeq_eq t
  have hmap (u : State) (f : TileMap → TileMap) : ((u.modMap t f).tile v).med = (u.tile v).med := State.modTile_keeps Tile.med u t v _ (fun _ => rfl)
  have hps (u : State) (f) : ((u.modPs t f).tile v).med = (u.tile v).med := State.modTile_keeps Tile.med u t v _ (fun _ => rfl)
  have hblock : ((s.seqBlock t seq ceil).tile v).med = (s.tile v).med := by
    unfold State.seqBlock
    split
    · rfl
    · exact (hps _ _).trans (hmap _ _)
  have hseq : ((s.freshSeq t).1.tile v).med = (s.tile v).med := by
    rw [h]
    exact (hmap _ _).trans hblock
  rw [State.rooted, State.modSeal]
  refine (State.modTile_keeps Tile.med _ t v _ ?_).trans hseq
  exact fun _ => rfl

theorem State.adoptRoot_out (s : State) (t part : Nat) : (s.adoptRoot t part).out = s.out := by
  obtain ⟨root, level, live, data, h⟩ := s.adoptRoot_eq t part
  rw [h, State.pev_out, State.each_keeps State.out _ _ _ (fun _ _ => State.dirtyCounter_out ..), (s.within_rooted t part root).out]
/-- Beyond the tile's root and sequence numbers an adoption changes reservoirs. -/
theorem State.adoptRoot_leaves {β : Type} (g : Tile → β) (h : ∀ (x : Tile) r, g { x with res := r } = g x) (s : State) (t part v : Nat) :
    ∃ root, State.Leaves v g (s.rooted t part root) (s.adoptRoot t part) := by
  obtain ⟨root, level, live, data, heq⟩ := s.adoptRoot_eq t part
  rw [heq]
  exact ⟨root, (State.leaves_each _ _ _ (fun u i => u.leaves_dirtyCounter _ _ _ _ _ h)).trans (State.leaves_pev ..)⟩
theorem State.adoptRoot_med (s : State) (t part v : Nat) : ((s.adoptRoot t part).tile v).med = (s.tile v).med := by
  obtain ⟨root, h⟩ := State.adoptRoot_leaves Tile.med (fun _ _ => rfl) s t part v
  exact h.tile.trans (s.rooted_med t part root v)
theorem State.adoptRoot_rootLost (s : State) (t part : Nat) (ht : t < s.tiles.length) : (s.adoptRoot t part).rootLost t part = false := by
  obtain ⟨root, h⟩ := State.adoptRoot_leaves Tile.sealing (fun _ _ => rfl) s t part t
  rw [State.rootLost, h.tile]
  exact s.rooted_rootLost t part root ht
theorem State.adoptRoot_reports (s : State) (t part : Nat) (hr : 8 < s.recs.length) : (s.adoptRoot t part).pkgReports Ev.ROOT_ADOPTED := by
  obtain ⟨root, level, live, data, h⟩ := s.adoptRoot_eq t part
  have hlines : State.Leaves t Tile.med (s.rooted t part root) ((s.rooted t part root).each live (fun u i => u.dirtyCounter t part level i (data i))) :=
    State.leaves_each _ _ _ (fun u i => u.leaves_dirtyCounter _ _ _ _ _ (fun _ _ => rfl))
  rw [h]
  refine State.pev_reports _ _ _ _ ?_
  rw [hlines.recs, (s.within_rooted t part root).recs]
  exact hr
theorem sealRootAdopt_adopts {s : State} {q : Requester} (htakes : s.Takes q) (hin : s.inService = true) (hs : s.Sized) (part t : Nat)
    (hpart : part < 64) (ht : t < s.n) (hlost : s.rootLost t part = true) :
    ∃ u, exec (.sealRootAdopt q part t) s = .next u ∧ s.Replies u q (Ob.inst Ob.SEAL_ROOT_ADOPT part) 0 0 [] ∧ u.rootLost t part = false ∧
      u.pkgReports Ev.ROOT_ADOPTED ∧ ∀ v, (u.tile v).med = (s.tile v).med := by
  have hcommand : s.command q (rootAdoptPlace part) t = .now (s.sealRootAdopt part t) := rfl
  have hadopt : s.sealRootAdopt part t = (s.adoptRoot t part).ok := (if_neg (Nat.not_le.2 ht)).trans (if_pos hlost)
  have hseven : t ≤ 7 := Nat.le_of_lt_succ (Nat.lt_of_lt_of_le ht s.n_le_eight)
  have hout := s.adoptRoot_out t part
  have hfound := s.adoptRoot_rootLost t part (hs.tile_listed ht)
  have hreports := s.adoptRoot_reports t part hs.package_recorder
  have hmed := s.adoptRoot_med t part
  generalize s.adoptRoot t part = u at hadopt hout hfound hreports hmed
  rw [hadopt] at hcommand
  obtain ⟨out, cnt, hwrite, hreply⟩ := (s.permits_rootAdopt q hpart hseven).write_done htakes hin hcommand hout
  exact ⟨_, congrArg Host.Outcome.next hwrite, hreply, hfound, hreports, hmed⟩

/-! ### O52 -/

/-- Settles O52: each command runs because nothing bars its write; what it leaves is what its own rule says, before the answer. -/
theorem keyAndSealCommands : Obligations.KeyAndSealCommands := by
  unfold Obligations.KeyAndSealCommands
  intro q s ht hin hs
  exact ⟨fun k k1 k2 hpath h1 h2 hplain hidle hst => keyLoad_empty ht hin ⟨hpath, ⟨h1, h2⟩, hplain, hidle⟩ k1 k2 hs hst,
    fun k k1 k2 hpath h1 h2 hplain hidle hst => keyLoad_loaded ht hin ⟨hpath, ⟨h1, h2⟩, hplain, hidle⟩ k1 k2 hst,
    fun k hpath h1 h2 hplain hidle hst => keyErase_loaded ht hin ⟨hpath, ⟨h1, h2⟩, hplain, hidle⟩ hst,
    keyQuery_shows ht hin,
    fun token cert hv howner hcert => debugUnlock_unlocks ht hin hs howner token cert hv hcert,
    fun r howner hlock => debugLock_locks ht hin hs howner r hlock,
    sealRootAdopt_adopts ht hin hs⟩

end Sys2Proof.Machine
end

section
/-! Proofs of 11_scribe_engine.md: queue windows: words, resync, the head of the completion ring, flush (R314 to R318, R327). -/
namespace Sys2Proof

/-- A store searched after the write of a key finds that key where it found it before, when the value written passes the same test. -/
theorem Sparse.find?_insert_of_found {α : Type} (m : Sparse α) (k : Nat) (v : α) (p : Nat × α → Bool) (x : Nat × α) (hx : m.find? p = some x)
    (hk : x.1 = k) (hp : ∀ w, Sparse.find m k = some w → p (k, v) = p (k, w)) : ∃ y, (Sparse.insert m k v).find? p = some y ∧ y.1 = k := by
  induction m with
  | nil => cases hx
  | cons a m ih =>
    obtain ⟨j, w⟩ := a
    have written (l : Sparse α) (hl : ∃ y, List.find? p l = some y ∧ y.1 = k) : ∃ y, List.find? p ((k, v) :: l) = some y ∧ y.1 = k := by
      rw [List.find?_cons]
      split
      · exact ⟨(k, v), rfl, rfl⟩
      · exact hl
    unfold Sparse.insert
    split
    · exact written _ ⟨x, hx, hk⟩
    · split
      case isTrue hjk =>
        subst hjk
        cases hw : p (j, w) with
        | true => exact ⟨(j, v), by rw [List.find?_cons, hp w (if_pos rfl), hw], rfl⟩
        | false => exact written m ⟨x, by rwa [List.find?_cons, hw] at hx, hk⟩
      case isFalse hjk =>
        cases hw : p (j, w) with
        | true =>
          rw [List.find?_cons, hw] at hx
          exact absurd ((congrArg Prod.fst (Option.some.inj hx)).trans hk) hjk
        | false =>
          rw [List.find?_cons, hw] at hx ⊢
          exact ih hx (fun w' h => hp w' ((if_neg hjk).trans h))

end Sys2Proof

namespace Sys2Proof.Machine
open Sys2Proof

/-! ### The queue behind a window (R314) -/

theorem State.atWindow_of_window {s : State} {p l w t q : Nat} (hw : s.windowQueue p l w = some (t, q)) (hin : s.inService = true)
    (f : State → Nat → Nat → State) : s.atWindow p l w f = f s t q := by
  simp only [State.atWindow, hw, hin, if_true]
/-- What a window shows rests on links, queues, objects and fences only. -/
theorem State.windowQueue_congr {s u : State} (hports : u.ports = s.ports) (hqueues : u.queues = s.queues) (hobj : u.obj = s.obj)
    (htiles : u.tiles = s.tiles) (p l w : Nat) : u.windowQueue p l w = s.windowQueue p l w := by
  unfold State.windowQueue State.queueOwner State.cell State.tileActive State.port State.tile
  rw [hports, hqueues, hobj, htiles]
/-- The queue behind a window stays behind it when it changes without being switched on or off. -/
theorem State.windowQueue_modQueue {s : State} {p l w t q : Nat} (hw : s.windowQueue p l w = some (t, q)) (f : Queue → Queue)
    (hf : ∀ x, (f x).st = x.st) : (s.modQueue t q f).windowQueue p l w = some (t, q) := by
  have hup : (s.port p).up = true := by
    by_contra h
    simp [State.windowQueue, h] at hw
  simp only [State.windowQueue, hup, if_true, Option.map_eq_some_iff, Prod.mk.injEq] at hw
  obtain ⟨x, hx, ht, hq⟩ := hw
  have hkey : x.1 = 64 * t + q := by omega
  obtain ⟨y, hy, hykey⟩ := Sparse.find?_insert_of_found s.queues (64 * t + q) (f (s.queue t q)) _ x hx hkey (fun w hw => by
    have hqueue : s.queue t q = w := by simp [State.queue, Sparse.getD, hw]
    simp only [hf, hqueue])
  have hplace : (y.1 / 64, y.1 % 64) = (t, q) := by
    rw [hykey, ← hkey, ht, hq]
  have hfound : (s.modQueue t q f).windowQueue p l w = some (y.1 / 64, y.1 % 64) := by
    show (if (s.port p).up then _ else none) = _
    rw [if_pos hup]
    exact congrArg _ hy
  rw [hfound, hplace]

/-! ### Words (R315, R316) -/

/-- A queue with room that has taken a word: the word joins the descriptor being assembled, the eighth completes it. -/
def Queue.takeWord (x : Queue) (word : Nat) : Queue :=
  if x.frame.length < 7 then { x with frame := x.frame ++ [word % 2 ^ 64] }
  else { x with frame := [], groups := x.groups ++ [{ words := x.frame ++ [word % 2 ^ 64], torn := false }], received := (x.received + 1) % 2 ^ 32 }
theorem State.descIn_of_room (s : State) (word t q : Nat) (hover : (s.queue t q).overrun = false) (hroom : (s.queue t q).words < 256) :
    s.descIn true word t q = s.modQueue t q (fun x => x.takeWord word) := by
  simp only [State.descIn, Bool.not_true, Bool.false_eq_true, if_false, hover, if_neg (Nat.not_le.2 hroom), Queue.takeWord, List.length_append,
    List.length_singleton, Nat.add_lt_add_iff_right (k := 1) (m := 7)]
theorem exec_descIn_of_room {port ld window word t q : Nat} {s : State} (hw : s.windowQueue port ld window = some (t, q)) (hin : s.inService = true)
    (hover : (s.queue t q).overrun = false) (hroom : (s.queue t q).words < 256) :
    exec (.descIn port ld window word true) s = .next (s.modQueue t q (fun x => x.takeWord word)) :=
  congrArg Host.Outcome.next ((State.atWindow_of_window hw hin _).trans (s.descIn_of_room word t q hover hroom))
theorem descIn_joins (port ld window word t q : Nat) (s : State) (hw : s.windowQueue port ld window = some (t, q)) (hin : s.inService = true)
    (hover : (s.queue t q).overrun = false) (hroom : (s.queue t q).words < 256) :
    ∃ u, exec (.descIn port ld window word true) s = .next u ∧ u.tiles = s.tiles ∧ u.out = s.out ∧
      (if (s.queue t q).frame.length < 7 then (u.queue t q).frame = (s.queue t q).frame ++ [word % 2 ^ 64] ∧
          (u.queue t q).groups = (s.queue t q).groups
       else (u.queue t q).frame = [] ∧
          (u.queue t q).groups = (s.queue t q).groups ++ [{ words := (s.queue t q).frame ++ [word % 2 ^ 64], torn := false }] ∧
          (u.queue t q).received = ((s.queue t q).received + 1) % 2 ^ 32) := by
  refine ⟨_, exec_descIn_of_room hw hin hover hroom, rfl, rfl, ?_⟩
  rw [State.queue_modQueue_same, Queue.takeWord]
  split
  · exact ⟨rfl, rfl⟩
  · exact ⟨rfl, rfl, rfl⟩

/-! ### Resync and the head (R317, R327) -/

theorem qResync_closes (port ld window t q : Nat) (s : State) (hw : s.windowQueue port ld window = some (t, q)) (hin : s.inService = true) :
    ∃ u, exec (.qResync port ld window) s = .next u ∧ u.tiles = s.tiles ∧ u.out = s.out ∧ (u.queue t q).overrun = false ∧
      (u.queue t q).frame = [] ∧ (u.queue t q).groups = (if (s.queue t q).frame = [] then (s.queue t q).groups
        else (s.queue t q).groups ++ [{ words := (s.queue t q).frame, torn := true }]) := by
  refine ⟨_, congrArg Host.Outcome.next (State.atWindow_of_window hw hin _), ?_⟩
  simp [Queue.resync]
theorem cqHeadWrite_moves (port ld window head t q : Nat) (s : State) (hw : s.windowQueue port ld window = some (t, q)) (hin : s.inService = true)
    (hring : ((s.queue t q).tail + 2 ^ 32 - head % 2 ^ 32) % 2 ^ 32 ≤ s.ringRecords t q) :
    ∃ u, exec (.cqHeadWrite port ld window head) s = .next u ∧ u.tiles = s.tiles ∧ u.out = s.out ∧ (u.queue t q).head = head % 2 ^ 32 ∧
      (u.queue t q).tail = (s.queue t q).tail := by
  refine ⟨_, congrArg Host.Outcome.next ((State.atWindow_of_window hw hin _).trans (if_pos hring)), ?_⟩
  simp

/-! ### O33 -/

/-- Settles O33: a word with room for it, a resync and a head that the ring can have each change the one queue behind the window. -/
theorem queueWindows : Obligations.QueueWindows := by
  unfold Obligations.QueueWindows
  exact ⟨descIn_joins, qResync_closes, cqHeadWrite_moves⟩

/-! ### O34 -/

theorem exec_qFlush {port ld window t q : Nat} {s : State} (hw : s.windowQueue port ld window = some (t, q)) (hin : s.inService = true) :
    exec (.qFlush port ld window) s = .next ((s.modQueue t q Queue.flush).tcount t Cn.SQ_FLUSHES 1) :=
  congrArg Host.Outcome.next (State.atWindow_of_window hw hin _)
/-- Settles O34: the flush empties the queue behind the window and counts itself; the window still shows that queue, which takes a word as word 0. -/
theorem flushDiscardsTheQueue : Obligations.FlushDiscardsTheQueue := by
  unfold Obligations.FlushDiscardsTheQueue
  intro port ld window t q s hw hin
  let u := (s.modQueue t q Queue.flush).tcount t Cn.SQ_FLUSHES 1
  have hqueue : u.queue t q = (s.queue t q).flush := by simp [u]
  have hwindow : u.windowQueue port ld window = some (t, q) :=
    (State.windowQueue_congr (by simp [u]) (by simp [u]) (by simp [u]) (by simp [u]) port ld window).trans
      (State.windowQueue_modQueue hw Queue.flush (fun _ => rfl))
  have hwords : (u.queue t q).words = 0 := by rw [hqueue]; rfl
  refine ⟨u, exec_qFlush hw hin, hwords, ?_⟩
  simp only [hqueue]
  refine ⟨rfl, rfl, rfl, rfl, rfl, rfl, rfl, rfl, by simp [u], by simp [u], by simp [u], by simp [u], fun word v hv => ?_⟩
  have hnext := exec_descIn_of_room (word := word) hwindow (by simpa [u] using hin) (by rw [hqueue]; rfl) (by rw [hwords]; decide)
  obtain rfl := Host.Outcome.next.inj (hv.symm.trans hnext)
  rw [State.queue_modQueue_same, hqueue]
  exact ⟨rfl, rfl⟩

end Sys2Proof.Machine
end

section
/-! Proofs of 11_scribe_engine.md: the engine takes a descriptor and issues its line accesses (R176, R319, R321 to R325). -/
namespace Sys2Proof.Machine
open Sys2Proof

/-! ### Descriptors of a queue -/

/-- A change of a descriptor that leaves its number is a change of what that number finds. -/
theorem Queue.desc_setDesc (x : Queue) (i : Nat) (f : Desc → Desc) (hf : ∀ d, d.index = i → (f d).index = i) :
    (x.setDesc i f).desc i = (x.desc i).map f := by
  have same (d : Desc) : decide ((if d.index = i then f d else d).index = i) = decide (d.index = i) := by
    split
    next h => rw [hf d h, h]
    next => rfl
  simp only [Queue.desc, Queue.setDesc, List.find?_map, Function.comp_def, same]
  refine Option.map_congr fun d hd => if_pos ?_
  exact of_decide_eq_true (List.find?_some (p := fun d : Desc => decide (d.index = i)) hd)
theorem Queue.index_of_desc {x : Queue} {i : Nat} {d : Desc} (h : x.desc i = some d) : d.index = i :=
  of_decide_eq_true (List.find?_some (p := fun d : Desc => decide (d.index = i)) h)

/-! ### DESCRIPTOR_START (R325) -/

/-- The state in which the engine of tile `t` has taken the first group of queue `q`, a whole descriptor of words `ws`. -/
def State.descTaken (s : State) (t q : Nat) (ws : List Nat) : State :=
  ((s.modQueue t q (fun x => { x with
    groups := x.groups.drop 1, nextIndex := (s.queue t q).nextIndex + 1, descs := x.descs ++ [Desc.fresh (s.queue t q).nextIndex ws],
    taken := (x.taken + 1) % 2 ^ 32 })).modRd t (fun y => { y with lastQueue := q })).tcount t Cn.SQ_DESCS_TAKEN 1
/-- A descriptor whose words follow the operation table, its atomic operand aligned and no word in error, is taken and nothing else happens. -/
theorem State.startDesc_of_valid (s : State) (t q : Nat) (ws : List Nat) (hhead : headValid (ws.headD 0) = true) (hbody : bodyValid ws = true)
    (hatomic : ∀ dpa, atomicOperand ws = some dpa → dpa % 8 = 0) : s.startDesc t q { words := ws, torn := false } [] = s.descTaken t q ws := by
  have hcorrected : (List.range ws.length).filter (fun k => decide (([] : List Nat).getD k 0 = 1)) = [] := by simp
  simp only [State.startDesc, hcorrected, hhead, hbody, List.any_nil, Bool.not_true, Bool.false_eq_true, if_false, State.each_nil]
  cases hop : atomicOperand ws with
  | none => rfl
  | some dpa => exact if_pos (hatomic dpa hop)
theorem exec_descriptorStart {t q : Nat} {g : Group} {rest : List Group} {s : State} (ha : s.tileActive t = true) (ht : t < s.n)
    (hin : s.inService = true) (hroom : s.executing t < 16)
    (hturn : minBy (fun q => (q + 127 - (s.tile t).rd.lastQueue) % 64) (below 64 (fun q => s.startable t q)) = some q)
    (hgroups : (s.queue t q).groups = g :: rest) (ecc : List Nat) :
    exec (.descriptorStart t ecc) s = .next (s.startDesc t q g ecc) := by
  refine congrArg Host.Outcome.next ((if_pos ⟨ha, ht, hin, hroom⟩).trans ?_)
  simp only [hturn, hgroups]

/-! ### O35 -/

/-- Settles O35: the queue in turn gives up its first group, whose checks pass, so that what is left is `State.descTaken`. -/
theorem descriptorTaken : Obligations.DescriptorTaken := by
  unfold Obligations.DescriptorTaken
  intro t q ws rest s ha ht hin hroom hturn hgroups hhead hbody hatomic
  have hexec := exec_descriptorStart ha ht hin hroom hturn hgroups []
  rw [s.startDesc_of_valid t q ws hhead hbody hatomic] at hexec
  have hmed (v : Nat) : ((s.descTaken t q ws).tile v).med = (s.tile v).med := by
    rw [State.descTaken, State.tcount_tile]
    exact State.modTile_keeps Tile.med _ t v _ (fun _ => rfl)
  have hres (v : Nat) : ((s.descTaken t q ws).tile v).res = (s.tile v).res := by
    rw [State.descTaken, State.tcount_tile]
    exact State.modTile_keeps Tile.res _ t v _ (fun _ => rfl)
  refine ⟨_, hexec, ?_, ?_, ?_, ?_, ?_, fun v => ⟨hmed v, hres v⟩⟩
  all_goals simp [State.descTaken, hgroups]

/-! ### The next line access (R322 to R324) -/

section
variable {d : Desc} (hstop : d.stopped = false) (hend : d.ended = false)
include hstop hend

theorem Desc.next_of_going : ¬(d.stopped = true ∨ d.ended = true) := by simp [hstop, hend]
theorem Desc.next_copy_read (hop : d.op = 1) (hready : d.ready = []) (hmore : d.nextRead < d.total) :
    d.next = some (LineOp.read (2 * d.nextRead) (d.w 1 + 64 * d.nextRead), { d with nextRead := d.nextRead + 1 }) := by
  simp only [Desc.next, if_neg (Desc.next_of_going hstop hend), hop, Desc.copyStep, hready, if_pos hmore]
theorem Desc.next_copy_write (hop : d.op = 1) {a : Arrival} {rest : List Arrival} (hready : d.ready = a :: rest) :
    d.next = some (LineOp.full (a.step + 1) (d.w 2 + 64 * (a.step / 2)) a.data, { d with ready := rest }) := by
  simp only [Desc.next, if_neg (Desc.next_of_going hstop hend), hop, Desc.copyStep, hready]
theorem Desc.next_fill (hop : d.op = 2) (hmore : d.nextWrite < d.total) :
    d.next = some (LineOp.full (2 * d.nextWrite + 1) (d.w 1 + 64 * d.nextWrite) (patternLine (d.w 2)), { d with nextWrite := d.nextWrite + 1 }) := by
  simp only [Desc.next, if_neg (Desc.next_of_going hstop hend), hop, if_pos hmore]
theorem Desc.next_zero (hop : d.op = 3) (hmore : d.nextWrite < d.total) :
    d.next = some ({ LineOp.full (2 * d.nextWrite + 1) (d.w 1 + 64 * d.nextWrite) 0 with zero := true },
      { d with nextWrite := d.nextWrite + 1 }) := by
  simp only [Desc.next, if_neg (Desc.next_of_going hstop hend), hop, if_pos hmore]
theorem Desc.next_crc32c (hop : d.op = 4) (hmore : d.nextRead < d.total) :
    d.next = some (LineOp.read (2 * d.nextRead) (d.w 1 + 64 * d.nextRead), { d with nextRead := d.nextRead + 1 }) := by
  simp only [Desc.next, if_neg (Desc.next_of_going hstop hend), hop, if_pos hmore]
theorem Desc.next_compare (hop : d.op = 5) (hmore : d.nextRead < 2 * d.total) :
    d.next = some (LineOp.read d.nextRead (d.w (1 + d.nextRead % 2) + 64 * (d.nextRead / 2)), { d with nextRead := d.nextRead + 1 }) := by
  simp only [Desc.next, if_neg (Desc.next_of_going hstop hend), hop, if_pos hmore]
theorem Desc.next_cas64 (hop : d.op = 6) (hfirst : d.nextWrite = 0) :
    d.next = some (LineOp.atomic 1 (d.w 1) 1 (d.w 3) (d.w 2), { d with nextWrite := d.nextWrite + 1 }) := by
  simp only [Desc.next, if_neg (Desc.next_of_going hstop hend), hop, hfirst, if_true]
theorem Desc.next_fadd64 (hop : d.op = 7) (hfirst : d.nextWrite = 0) :
    d.next = some (LineOp.atomic 1 (d.w 1) 2 (d.w 2) 0, { d with nextWrite := d.nextWrite + 1 }) := by
  simp only [Desc.next, if_neg (Desc.next_of_going hstop hend), hop, hfirst, if_true]
theorem Desc.next_logAppend_pointer (hop : d.op = 8) (hphase : d.phase = 0) (hmore : d.nextRead < 2) :
    d.next = some (LineOp.read d.nextRead (d.w (4 + d.nextRead) - d.w (4 + d.nextRead) % 64), { d with nextRead := d.nextRead + 1 }) := by
  simp only [Desc.next, if_neg (Desc.next_of_going hstop hend), hop, hphase, if_pos hmore]
theorem Desc.next_notify (hop : d.op = 0x20) (hfirst : d.nextWrite = 0) :
    d.next = some (LineOp.field 1 (d.w 1) 8 (d.w 2), { d with nextWrite := d.nextWrite + 1 }) := by
  simp only [Desc.next, if_neg (Desc.next_of_going hstop hend), hop, hfirst, if_true]

end

/-- The engine issues the access that a descriptor of the operation asked for has next. -/
theorem State.engineStep_issues (s : State) (t q i op : Nat) (d e : Desc) (a : LineOp) (hd : (s.queue t q).desc i = some d) (hop : d.op = op)
    (ha : s.tileActive t = true) (hin : s.inService = true) (hroom : s.engineOut t < 128) (hnext : d.next = some (a, e)) :
    s.engineStep t q i op = (s.modQueue t q (fun x => x.setDesc i (fun _ => e))).issue t q i a := by
  unfold State.engineStep
  simp only [hd]
  rw [if_pos ⟨hop, ha, hin, hroom⟩, hnext]

/-! ### O36 -/

/-- Settles O36: each operation's next access is a branch of `Desc.next`, which the engine issues. -/
theorem engineIssues : Obligations.EngineIssues := by
  unfold Obligations.EngineIssues
  intro t q i s d hd ha hin hroom hstop hend issued rd wr
  have issues {op : Nat} {a : LineOp} {e : Desc} (hop : d.op = op) (hnext : d.next = some (a, e)) :
      Host.Outcome.next (φ := Fault) (ρ := Refusal) (s.engineStep t q i op) = .next (issued a e) :=
    congrArg Host.Outcome.next (s.engineStep_issues t q i op d e a hd hop ha hin hroom hnext)
  refine ⟨?copyRead, ?copyWrite, ?fill, ?zero, ?crc32c, ?compare, ?cas64, ?fadd64, ?logAppend, ?notify⟩
  case copyRead => exact fun hop hready hmore => issues hop (Desc.next_copy_read hstop hend hop hready hmore)
  case copyWrite => exact fun a rest hop hready => issues hop (Desc.next_copy_write hstop hend hop hready)
  case fill => exact fun hop hmore => issues hop (Desc.next_fill hstop hend hop hmore)
  case zero => exact fun hop hmore => issues hop (Desc.next_zero hstop hend hop hmore)
  case crc32c => exact fun hop hmore => issues hop (Desc.next_crc32c hstop hend hop hmore)
  case compare => exact fun hop hmore => issues hop (Desc.next_compare hstop hend hop hmore)
  case cas64 => exact fun hop hfirst => issues hop (Desc.next_cas64 hstop hend hop hfirst)
  case fadd64 => exact fun hop hfirst => issues hop (Desc.next_fadd64 hstop hend hop hfirst)
  case logAppend => exact fun hop hphase hmore => issues hop (Desc.next_logAppend_pointer hstop hend hop hphase hmore)
  case notify => exact fun hop hfirst => issues hop (Desc.next_notify hstop hend hop hfirst)

end Sys2Proof.Machine
end

section
/-! Proofs of 11_scribe_engine.md: accesses that come back, the end of a descriptor, its record and interrupt (R322, R327, R328, R330). -/
namespace Sys2Proof.Machine
open Sys2Proof

/-! ### What an access that comes back leaves of its descriptor -/

/-- What names a descriptor: its number and its words. -/
def Desc.label (d : Desc) : Nat × List Nat := (d.index, d.words)

theorem Desc.markDone_label (d : Desc) (i : Nat) : (d.markDone i).label = d.label := by
  unfold Desc.markDone
  split <;> rfl
theorem Desc.foldCrc_label (n : Nat) (d : Desc) : (Desc.foldCrc n d).label = d.label := by
  induction n generalizing d with
  | zero => rfl
  | succ n ih =>
    unfold Desc.foldCrc
    split
    · rfl
    · exact ih _
theorem Desc.foldCompare_label (n : Nat) (d : Desc) : (Desc.foldCompare n d).label = d.label := by
  induction n generalizing d with
  | zero => rfl
  | succ n ih =>
    unfold Desc.foldCompare
    split
    · split
      · exact ih _
      · rfl
    · rfl
theorem Desc.checkRing_label (d : Desc) : d.checkRing.label = d.label := by
  unfold Desc.checkRing
  split
  · extract_lets
    split
    · rfl
    · split <;> rfl
  · rfl
/-- Whatever the operation makes of an access, the descriptor keeps its number and its words. -/
theorem Desc.absorb_label (d : Desc) (a : Arrival) : (d.absorb a).label = d.label := by
  unfold Desc.absorb
  extract_lets d1 _ e _
  have hd1 : d1.label = d.label := rfl
  have hdone (i : Nat) : (d1.markDone i).label = d.label := (d1.markDone_label i).trans hd1
  split
  case isTrue => rfl
  case isFalse =>
    split
    · -- COPY
      split
      · rfl
      · exact hdone _
    · -- CRC32C
      exact (Desc.foldCrc_label _ _).trans hd1
    · -- COMPARE
      exact (Desc.foldCompare_label _ _).trans hd1
    · -- CAS64
      rfl
    · -- FADD64
      rfl
    · -- LOG-APPEND: its pointers, its lines, its tail (R324)
      split
      · exact (Desc.checkRing_label _).trans hd1
      · split
        · rfl
        · have he : e.label = d.label := hdone _
          split
          · exact he
          · exact he
      · rfl
    · -- writes of whole lines and NOTIFY
      exact hdone _

/-! ### SCRIBE_LINE_DONE (R330) -/

section
variable {t q i : Nat} {s : State} {d : Desc} {a : Arrival} {rest : List Arrival} (hd : (s.queue t q).desc i = some d)
  (harrived : d.arrived = a :: rest)
include hd harrived

/-- The oldest access that has come back is taken up; the last one of a descriptor that is complete or stopped ends it. -/
theorem exec_scribeLineDone_of_running (hended : d.ended = false) {e : Desc} (he : Desc.absorb { d with arrived := rest } a = e) :
    exec (.scribeLineDone t q i) s = .next (if e.outstanding = 0 ∧ (e.stopped ∨ e.complete) then
      (s.modQueue t q (fun x => x.setDesc i (fun _ => e))).endDesc t q e else s.modQueue t q (fun x => x.setDesc i (fun _ => e))) := by
  subst he
  show execScribeLineDone t q i s = _
  unfold execScribeLineDone
  simp only [hd, harrived, hended, Bool.false_eq_true, if_false]
theorem exec_scribeLineDone_of_ended (hended : d.ended = true) :
    exec (.scribeLineDone t q i) s = .next (s.recordDone t q { d with arrived := rest } a) := by
  show execScribeLineDone t q i s = _
  unfold execScribeLineDone
  simp only [hd, harrived, hended, if_true]

end

theorem scribeLineDone_takesUp (t q i : Nat) (s : State) (d : Desc) (a : Arrival) (rest : List Arrival) (hd : (s.queue t q).desc i = some d)
    (harrived : d.arrived = a :: rest) (hended : d.ended = false) (hout : (Desc.absorb { d with arrived := rest } a).outstanding ≠ 0) :
    exec (.scribeLineDone t q i) s =
      .next (s.modQueue t q (fun x => x.setDesc i (fun _ => Desc.absorb { d with arrived := rest } a))) :=
  (exec_scribeLineDone_of_running hd harrived hended rfl).trans (congrArg Host.Outcome.next (if_neg (fun h => hout h.1)))
/-- A descriptor with no outcome of its own and no line failed has status 0. -/
theorem Desc.verdict_of_ok {d : Desc} (hout : d.outcome = none) (hfails : d.fails = []) : d.verdict.1 = 0 := by
  simp only [Desc.verdict, hout, hfails, minBy]
theorem scribeLineDone_ends (t q i : Nat) (s : State) (d : Desc) (a : Arrival) (rest : List Arrival) (hd : (s.queue t q).desc i = some d)
    (harrived : d.arrived = a :: rest) (hended : d.ended = false) (hquiet : (d.w 0).testBit 49 = true) :
    let e := Desc.absorb { d with arrived := rest } a
    e.outstanding = 0 → e.complete = true → e.outcome = none → e.fails = [] →
    ∃ u, exec (.scribeLineDone t q i) s = .next u ∧ (∀ f ∈ (u.queue t q).descs, f.index ≠ i) ∧
      (u.queue t q).descsDone = ((s.queue t q).descsDone + 1) % 2 ^ 32 ∧ u.tiles = s.tiles ∧ u.out = s.out := by
  intro e hout hcomplete hoc hfails
  obtain ⟨hindex, hwords⟩ : e.index = d.index ∧ e.words = d.words := Prod.mk.inj (Desc.absorb_label { d with arrived := rest } a)
  have hi : e.index = i := hindex.trans (Queue.index_of_desc hd)
  have hend := (exec_scribeLineDone_of_running hd harrived hended (e := e) rfl).trans (congrArg Host.Outcome.next (if_pos ⟨hout, .inr hcomplete⟩))
  rw [State.endDesc_quiet _ t q e (Desc.verdict_of_ok hoc hfails) (by rw [Desc.w, hwords]; exact hquiet)] at hend
  refine ⟨_, hend, ?_, ?_, ?_, ?_⟩
  · rw [State.queue_modQueue_same]
    intro f hf
    exact hi ▸ of_decide_eq_true (List.mem_filter.1 hf).2
  · rw [State.queue_modQueue_same, State.tcount_queue, State.queue_modQueue_same]
    rfl
  · simp
  · simp

/-! ### Records (R327, R328) -/

/-- A queue with no descriptor has no record to write. -/
theorem State.tryRecord_of_empty (s : State) (t q : Nat) (h : (s.queue t q).descs = []) : s.tryRecord t q = s := by
  simp [State.tryRecord, h]
theorem State.queueMsix_keeps {β : Type} (g : State → β) (s : State) (t q : Nat) (d : Desc) (ho : ∀ s ms, g { s with out := ms } = g s)
    (ht : ∀ s t num k, g (State.tcount s t num k) = g s) : g (s.queueMsix t q d) = g s := by
  unfold State.queueMsix
  extract_lets
  split
  · rw [ht, ho]
  · rfl
theorem State.queueMsix_out (s : State) (t q : Nat) (d : Desc) : (s.queueMsix t q d).out = s.out ++
    (if ((d.w 0).testBit 48 || statusError d.verdict.1) && decide (s.cell (queueKey Ob.SQ_MSIX t q) 0xFFFF ≠ 0xFFFF) &&
        (s.port (s.classHome (s.queueOwner t q)).1).up then
      [Response.msix (s.classHome (s.queueOwner t q)).1 (s.classHome (s.queueOwner t q)).2 (s.cell (queueKey Ob.SQ_MSIX t q) 0xFFFF)] else []) := by
  unfold State.queueMsix
  extract_lets
  split
  · rw [State.tcount_out]
  · exact (List.append_nil _).symm
/-- The state in which the record of a queue's only descriptor is accepted: the descriptor is gone, the ring's tail moves (R327). -/
def State.recorded (s : State) (t q : Nat) (d : Desc) : State :=
  ((s.modQueue t q (fun x => { x with descs := x.descs.filter (fun e => decide (e.index ≠ d.index)) })).modQueue t q
    (fun x => { x with tail := (x.tail + 1) % 2 ^ 32 })).tcount t Cn.SQ_RECORDS 1
theorem State.recordDone_of_only (s : State) (t q : Nat) (d : Desc) (a : Arrival) (hdescs : ∀ e ∈ (s.queue t q).descs, e.index = d.index)
    (hop : d.op ≠ 0xFF) (hcause : a.cause = 0) : s.recordDone t q d a = (s.recorded t q d).queueMsix t q d := by
  have hnone : ((s.recorded t q d).queueMsix t q d |>.queue t q).descs = [] := by
    rw [State.queueMsix_keeps (fun u => (u.queue t q).descs) _ t q d (fun _ _ => rfl) (by simp)]
    simpa [State.recorded] using hdescs
  unfold State.recordDone
  extract_lets gone s1 s2
  rw [if_pos hcause, show s2 = s1 from if_neg hop]
  exact State.tryRecord_of_empty _ t q hnone
theorem scribeLineDone_records (t q : Nat) (s : State) (d : Desc) (a : Arrival) (rest : List Arrival) (hdescs : (s.queue t q).descs = [d])
    (harrived : d.arrived = a :: rest) (hended : d.ended = true) (hop : d.op ≠ 0xFF) (hcause : a.cause = 0) :
    let h := s.classHome (s.queueOwner t q)
    let vec := s.cell (queueKey Ob.SQ_MSIX t q) 0xFFFF
    ∃ u, exec (.scribeLineDone t q d.index) s = .next u ∧ (u.queue t q).descs = [] ∧
      (u.queue t q).tail = ((s.queue t q).tail + 1) % 2 ^ 32 ∧ u.tiles = s.tiles ∧
      u.out = s.out ++ (if ((d.w 0).testBit 48 || statusError d.verdict.1) && decide (vec ≠ 0xFFFF) && (s.port h.1).up then
        [Response.msix h.1 h.2 vec] else []) := by
  intro h vec
  let e : Desc := { d with arrived := rest }
  have hd : (s.queue t q).desc d.index = some d := by simp [Queue.desc, hdescs]
  have hexec := exec_scribeLineDone_of_ended hd harrived hended
  rw [s.recordDone_of_only t q e a (by simp [hdescs, e]) hop hcause] at hexec
  have hqueue : ((s.recorded t q e).queueMsix t q e).queue t q = (s.recorded t q e).queue t q :=
    State.queueMsix_keeps (fun u => u.queue t q) _ t q e (fun _ _ => rfl) (by simp)
  have htiles : ((s.recorded t q e).queueMsix t q e).tiles = (s.recorded t q e).tiles :=
    State.queueMsix_keeps State.tiles _ t q e (fun _ _ => rfl) (by simp)
  have howner : (s.recorded t q e).queueOwner t q = s.queueOwner t q := by simp [State.queueOwner, State.recorded]
  have hhome (c : Nat) : (s.recorded t q e).classHome c = s.classHome c := by
    have hdev : (s.recorded t q e).dev = s.dev := by simp [State.recorded]
    unfold State.classHome State.pairX8
    rw [hdev]
  refine ⟨_, hexec, ?_, ?_, ?_, ?_⟩
  · rw [hqueue]
    simp [State.recorded, hdescs, e]
  · rw [hqueue]
    simp [State.recorded]
  · rw [htiles]
    simp [State.recorded]
  · rw [State.queueMsix_out, howner, hhome]
    simp only [State.recorded, State.tcount_out, State.tcount_cell, State.tcount_port, State.modQueue_out, State.modQueue_cell, State.modQueue_port]
    rfl

/-! ### O39 -/

/-- Settles O39: an access taken up, the last one of a descriptor, and the write of its record. -/
theorem lineAccessesComeBack : Obligations.LineAccessesComeBack := by
  unfold Obligations.LineAccessesComeBack
  exact ⟨scribeLineDone_takesUp, scribeLineDone_ends, scribeLineDone_records⟩

end Sys2Proof.Machine
end

section
/-! Proofs of 11_scribe_engine.md: the way of a line that the engine writes, from its issue back to its descriptor (R126, R133, R312, R322, R323,
R326, R330). -/
namespace Sys2Proof.Machine
open Sys2Proof

/-! ### What leaves the descriptor queues alone -/

theorem State.giveNibs_queues (s : State) (t : Nat) (r : Req) : (s.giveNibs t r).queues = s.queues := by
  unfold State.giveNibs
  split <;> rfl
theorem State.ringSend_queues (s : State) (a d k : Nat) : (s.ringSend a d k).queues = s.queues :=
  State.each_keeps State.queues s _ _ (fun u _ => u.tcount_queues _ _ _)
theorem State.admitFeed_queues (s : State) (t : Nat) (r : Req) : (s.admitFeed t r).1.queues = s.queues := by
  have charged (reserved : Bool) : (s.each r.directions (fun u w => u.chargeOne r reserved w)).queues = s.queues :=
    State.each_keeps State.queues s _ _ (fun _ _ => rfl)
  simp only [State.admitFeed, apply_ite State.queues, State.tcount_queues, State.ringSend_queues, State.modPort_queues, ite_self]
  exact charged _
theorem State.shadowFor_queues (s : State) (t owner : Nat) (add : Bool) (kind addr : Nat) :
    (s.shadowFor t owner add kind addr).queues = s.queues := by
  unfold State.shadowFor
  extract_lets
  split
  · rfl
  · split
    · rfl
    · exact State.ringSend_queues ..
theorem State.noteGate_queues (s : State) (t : Nat) : (s.noteGate t).queues = s.queues := by
  unfold State.noteGate
  extract_lets
  split
  · exact State.tev_queues ..
  · rfl

/-! ### A new line whose write a Scribe engine made (R126, R133) -/

/-- Tile `t` with the entry of request `r` placed and its line in the address shadow. -/
def State.shadowed (s : State) (t : Nat) (r : Req) : State :=
  (if ((s.tile t).res.place r.entry).2 then (s.placed t r).tcount t Cn.OVERFLOW_ENTRIES 1 else s.placed t r).shadowFor t r.tile true 1 r.lla
theorem State.mergeNew_of_data (s : State) (t : Nat) (r : Req) (hp : r.poison = false) :
    s.mergeNew t r = ((s.shadowed t r).accepted t r r true).noteGate t :=
  congrArg (fun u => (State.accepted u t r r true).noteGate t) (if_neg (ne_true_of_eq_false hp))
theorem State.keepsEntries_shadowed (s : State) (t : Nat) (r : Req) : (s.placed t r).KeepsEntries (s.shadowed t r) :=
  ((State.booked_tcount ..).ite (.refl _)).keepsEntries.trans (State.keepsEntries_shadowFor ..)
theorem State.stands_shadowed (s : State) (t : Nat) (r : Req) : s.Stands (s.shadowed t r) :=
  State.Stands.trans (t := s.placed t r) (s.stands_modRes t _) (((State.stands_tcount ..).ite (.refl _)).trans (State.stands_shadowFor ..))
theorem State.shadowed_queues (s : State) (t : Nat) (r : Req) : (s.shadowed t r).queues = s.queues := by
  rw [State.shadowed, State.shadowFor_queues, apply_ite State.queues, State.tcount_queues, ite_self]
  rfl

/-- A write as it is accepted, before its acknowledgement: logged and counted, its token back (R128, R130, R266). -/
def State.writeLogged (s : State) (t : Nat) (r : Req) : State :=
  ((s.modRes t (fun x => x.log r)).tcount t (if t = r.tile then Cn.WRITES_ACCEPTED else Cn.STANDIN_WRITES) 1).modRd t
    (fun x => x.giveToken r.src true)
theorem State.keepsEntries_writeLogged (s : State) (t : Nat) (r : Req) : s.KeepsEntries (s.writeLogged t r) :=
  ((s.keepsEntries_modRes t (fun x => x.log r) (fun _ => rfl)).trans (State.booked_tcount ..).keepsEntries).trans (State.booked_modRd ..).keepsEntries
theorem State.writeLogged_queues (s : State) (t : Nat) (r : Req) : (s.writeLogged t r).queues = s.queues := by simp [State.writeLogged]
/-- An engine's write to a plain partition goes back to its descriptor at once, unless it waits for a shadow entry at a FENCING mirror tile. -/
theorem State.accepted_arrives (s : State) (t : Nat) (r new : Req) (created : Bool) (hr : r.iface = .scribe)
    (hplain : (s.partn r.part).spanned = false) (hm : s.mirrorOf t < s.n → (s.tile (s.mirrorOf t)).fence.st ≠ .fencing) :
    s.accepted t r new created = (s.writeLogged t r).arrive r r.data false 0 := by
  have hnow : ¬(created = true ∧ s.mirrorOf t < s.n ∧ (s.tile (s.mirrorOf t)).fence.st = .fencing) := fun ⟨_, hlt, hf⟩ => hm hlt hf
  simp only [State.accepted, hplain, Bool.false_and, Bool.false_eq_true, if_false, if_neg hnow, State.ackWrite, State.leaveIngress, hr, reduceCtorEq]
  rfl
theorem State.mergeNew_arrives (s : State) (t : Nat) (r : Req) (hr : r.iface = .scribe) (hp : r.poison = false)
    (hplain : (s.partn r.part).spanned = false) (hm : s.mirrorOf t < s.n → (s.tile (s.mirrorOf t)).fence.st ≠ .fencing) :
    s.mergeNew t r = (((s.shadowed t r).writeLogged t r).arrive r r.data false 0).noteGate t := by
  have hstands := s.stands_shadowed t r
  rw [s.mergeNew_of_data t r hp, State.accepted_arrives _ t r r true hr ((congrArg _ (hstands.partn r.part)).trans hplain)]
  rw [hstands.mirrorOf, hstands.n, hstands.fence]
  exact hm

/-- What comes back to a descriptor changes its queue only. -/
theorem State.booked_arrive (s : State) (r : Req) (d : Line) (poison : Bool) (cause : Nat) : s.Booked (s.arrive r d poison cause) :=
  .of_eq rfl rfl rfl rfl rfl rfl
theorem State.arrive_queues_congr {s u : State} (h : u.queues = s.queues) (r : Req) (d : Line) (poison : Bool) (cause : Nat) :
    (u.arrive r d poison cause).queues = (s.arrive r d poison cause).queues := by
  simp only [State.arrive, State.modQueue, State.queue, h]

/-- From `s` to `u` the whole-line write `r` of a Scribe engine has become a DIRTY entry of its tile and gone back to its descriptor. -/
structure State.EngineWrites (s u : State) (r : Req) : Prop where
  medium : s.SameMedium u
  entry : ∃ e, (u.tile r.tile).res.find r.lla r.tile = some e ∧ e.st = .dirty ∧ e.data = r.data ∧ e.mask = fullMask ∧ e.kx = r.kx
  queues : u.queues = (s.arrive r r.data false 0).queues

/-- A whole line that an engine writes through the Feed. -/
structure Req.EngineLine (r : Req) : Prop where
  iface : r.iface = .scribe
  write : r.write = true
  single : r.atom = 0
  whole : r.mask = fullMask
  plain : r.poison = false

theorem State.mergeNew_engineWrites (s : State) (r : Req) (hr : r.EngineLine) (ht : r.tile < s.tiles.length)
    (hplain : (s.partn r.part).spanned = false) (hm : s.mirrorOf r.tile < s.n → (s.tile (s.mirrorOf r.tile)).fence.st ≠ .fencing) :
    s.EngineWrites (s.mergeNew r.tile r) r := by
  have hkept : (s.placed r.tile r).KeepsEntries (s.mergeNew r.tile r) := by
    rw [s.mergeNew_arrives r.tile r hr.iface hr.plain hplain hm]
    exact (((s.keepsEntries_shadowed r.tile r).trans (State.keepsEntries_writeLogged ..)).trans (State.booked_arrive ..).keepsEntries).trans
      (State.keepsEntries_noteGate ..)
  obtain ⟨e, hfind, hentry⟩ := s.placed_find r.tile r ht
  refine ⟨(s.quiet_modRes r.tile _).medium.trans hkept.medium, ⟨e, (hkept.find ..).trans hfind, hentry⟩, ?_⟩
  rw [s.mergeNew_arrives r.tile r hr.iface hr.plain hplain hm, State.noteGate_queues]
  exact State.arrive_queues_congr ((State.writeLogged_queues ..).trans (State.shadowed_queues ..)) r r.data false 0

/-! ### From the offer to the entry (R312, R326) -/

/-- An ACTIVE tile serves its own lines (R257). -/
theorem State.serverOf_of_active (s : State) (r : Req) (h : s.tileActive r.tile = true) : s.serverOf r = some r.tile := by
  have hst : (s.tile r.tile).fence.st = .active := of_decide_eq_true h
  simp only [State.serverOf, State.server, hst]

section
variable {s : State} {r : Req} (hr : r.EngineLine) (hactive : s.tileActive r.tile = true) (hrights : s.rightsCause r = none)
  (hroom : s.admissible r.tile r = true) (hfirst : (s.waitingWith r).any (fun h => h.sameLine r) = false)
  (hnone : (s.tile r.tile).res.find r.lla r.tile = none) (hlost : (s.tile r.tile).isLost r.lla = false)
  (hroot : s.rootLost r.tile r.part = false) (ht : r.tile < s.tiles.length) (hplain : (s.partn r.part).spanned = false)
  (hm : s.mirrorOf r.tile < s.n → (s.tile (s.mirrorOf r.tile)).fence.st ≠ .fencing)
include hr hactive hrights hroom hfirst hnone hlost hroot ht hplain hm

/-- An engine's whole line that is admitted at once and finds no entry is written. -/
theorem State.offer_engineWrites (pred : Nat) : s.EngineWrites (s.offer r pred) r := by
  let q : Req := { r with admittedAt := s.now r.home }
  have hq : q.EngineLine := ⟨hr.iface, hr.write, hr.single, hr.whole, hr.plain⟩
  let w := (s.admitFeed r.tile r).1.giveNibs r.tile q
  have hbook : s.Booked (s.admitFeed r.tile r).1 := s.booked_admitFeed r.tile r
  have hbookw : s.Booked w := hbook.trans (State.booked_giveNibs ..)
  have hstands : s.Stands w := (s.stands_admitFeed r.tile r).trans (State.stands_giveNibs ..)
  have hqueues : w.queues = s.queues := (State.giveNibs_queues ..).trans (s.admitFeed_queues r.tile r)
  have hlook : s.offer r pred = (w.mergeNew r.tile q).noteGate r.tile := by
    rw [s.offer_admits r r.tile pred hrights (s.serverOf_of_active r hactive) hroom hfirst, State.lookup, if_pos hr.write]
    exact congrArg (fun u => State.noteGate u r.tile) (State.lookupWrite_of_absent (r := q) hr.plain hr.single
      ((hbook.isLost ..).trans hlost) ((hbook.rootLost ..).trans hroot) pred hr.whole
      ((congrArg (·.find r.lla r.tile) (hbook.res r.tile)).trans hnone))
  obtain ⟨hmedium, ⟨e, hfind, hentry⟩, hback⟩ := w.mergeNew_engineWrites q hq (hstands.listed ▸ ht)
    ((congrArg _ (hstands.partn r.part)).trans hplain) (by rw [hstands.mirrorOf, hstands.n, hstands.fence]; exact hm)
  have hgate := (w.mergeNew r.tile q).keepsEntries_noteGate r.tile
  rw [hlook]
  refine ⟨(hbookw.sameMedium.trans hmedium).trans hgate.medium, ⟨e, (hgate.find ..).trans hfind, hentry⟩, ?_⟩
  rw [State.noteGate_queues, hback]
  exact State.arrive_queues_congr hqueues r r.data false 0

end

/-! ### The issue of a line access (R312) -/

/-- The state in which an access of descriptor `i` is on its way: one more outstanding, counted. -/
def State.issuing (s : State) (t q i : Nat) (write : Bool) : State :=
  (s.modQueue t q (fun x => x.setDesc i (fun d => { d with outstanding := d.outstanding + 1 }))).tcount t
    (if write then Cn.SCRIBE_LINE_WRITES else Cn.SCRIBE_LINE_READS) 1
/-- The request of line access `a` of descriptor `i` at the line that its address names. -/
def State.scribeReq (s : State) (t q i : Nat) (a : LineOp) (kx dpa part tile lla : Nat) : Req := { Req.none with
  iface := .scribe, port := t, cls := s.queueOwner t q, feedCls := s.queueOwner t q, src := 8 + t, kx := kx, dpa := dpa, write := a.write,
  mask := a.mask, data := a.data, atom := a.atom, cmp := a.cmp, decodedAt := s.now t, admittedAt := s.now t, queue := 64 * t + q, desc := i,
  step := a.step, part := part, tile := tile, lla := lla, zero := a.zero && !(s.partn part).isSealed }
theorem State.issue_of_line (s : State) (t q i : Nat) (a : LineOp) {kx dpa part tile lla : Nat}
    (hroute : s.routeDpa (s.queueKx t q) a.dpa = .line kx dpa part tile lla) :
    s.issue t q i a = (s.issuing t q i a.write).offer (s.scribeReq t q i a kx dpa part tile lla) 0 := by
  simp only [State.issue, hroute]
  rfl
/-- Beside the queues and the counters nothing changes before the offer. -/
theorem State.issuing_eq (s : State) (t q i : Nat) (e : Desc) (write : Bool) : ∃ queues cnt,
    (s.modQueue t q (fun x => x.setDesc i (fun _ => e))).issuing t q i write = { s with queues := queues, cnt := cnt } := by
  unfold State.issuing State.tcount State.count
  split
  · exact ⟨_, _, rfl⟩
  · exact ⟨_, _, rfl⟩

/-! ### The descriptor (R330) -/

/-- Two ways to write the place of a queue. -/
theorem State.modQueue_of_place (s : State) {a b t q : Nat} (h : 64 * a + b = 64 * t + q) (f : Queue → Queue) :
    s.modQueue a b f = s.modQueue t q f := by
  simp only [State.modQueue, State.queue, h]
/-- A descriptor as it is left by an access that is issued and comes back at once. -/
def Desc.arrivedOne (d : Desc) (a : Arrival) : Desc := { d with outstanding := d.outstanding + 1, arrived := d.arrived ++ [a] }
theorem State.desc_issuing_arrive (s : State) (t q i : Nat) (d e : Desc) (write : Bool) (r : Req) (hd : (s.queue t q).desc i = some d)
    (he : e.index = i) (hqueue : r.queue = 64 * t + q) (hdesc : r.desc = i) :
    ((((s.modQueue t q (fun x => x.setDesc i (fun _ => e))).issuing t q i write).arrive r r.data false 0).queue t q).desc i =
      some (e.arrivedOne { step := r.step, data := r.data, poison := false, cause := 0, dpa := r.dpa }) := by
  subst hdesc
  have hplace : 64 * (r.queue / 64) + r.queue % 64 = 64 * t + q := by omega
  rw [State.arrive, State.modQueue_of_place _ hplace, State.queue_modQueue_same, State.issuing, State.tcount_queue, State.queue_modQueue_same,
    State.queue_modQueue_same]
  refine (Queue.desc_setDesc _ r.desc (fun e => { e with arrived := e.arrived ++ [_] }) (fun _ h => h)).trans ?_
  rw [Queue.desc_setDesc _ _ (fun d => { d with outstanding := d.outstanding + 1 }) (fun _ h => h),
    Queue.desc_setDesc _ _ _ (fun _ _ => he), hd]
  rfl

/-! ### O37 -/

/-- The write of a descriptor's next line by FILL or ZERO (R322, R323). -/
def Desc.lineWrite (d : Desc) (zero : Bool) : LineOp :=
  { LineOp.full (2 * d.nextWrite + 1) (d.w 1 + 64 * d.nextWrite) (if zero then 0 else patternLine (d.w 2)) with zero := zero }
theorem exec_fillOrZero (t q i : Nat) (zero : Bool) (s : State) (d : Desc) (hd : (s.queue t q).desc i = some d)
    (hop : d.op = (if zero then 3 else 2)) (ha : s.tileActive t = true) (hin : s.inService = true) (hroom : s.engineOut t < 128)
    (hstop : d.stopped = false) (hend : d.ended = false) (hmore : d.nextWrite < d.total) :
    exec (if zero then .zero t q i else .fill t q i) s =
      .next ((s.modQueue t q (fun x => x.setDesc i (fun _ => { d with nextWrite := d.nextWrite + 1 }))).issue t q i (d.lineWrite zero)) := by
  cases zero with
  | false => exact congrArg Host.Outcome.next (s.engineStep_issues t q i 2 d _ _ hd hop ha hin hroom (Desc.next_fill hstop hend hop hmore))
  | true => exact congrArg Host.Outcome.next (s.engineStep_issues t q i 3 d _ _ hd hop ha hin hroom (Desc.next_zero hstop hend hop hmore))

/-- Settles O37: the engine issues the line, which the Feed admits; it is a new DIRTY entry, and its acknowledgement goes to the descriptor. -/
theorem fillWritesTheLine : Obligations.FillWritesTheLine := by
  unfold Obligations.FillWritesTheLine
  intro t q i zero kx dpa part lla s d ht hs hd hop ha hin hroom hstop hend hmore line hroute hplain r hrights hadm hfirst hnone hlost hroot hm
  let e : Desc := { d with nextWrite := d.nextWrite + 1 }
  let w := (s.modQueue t q (fun x => x.setDesc i (fun _ => e))).issuing t q i true
  have hissue : (s.modQueue t q (fun x => x.setDesc i (fun _ => e))).issue t q i (d.lineWrite zero) = w.offer r 0 :=
    State.issue_of_line _ t q i (d.lineWrite zero) hroute
  obtain ⟨queues, cnt, hw⟩ : ∃ queues cnt, w = { s with queues := queues, cnt := cnt } := s.issuing_eq t q i e true
  have hwrites : w.EngineWrites (w.offer r 0) r := by
    rw [hw]
    exact State.offer_engineWrites (s := { s with queues := queues, cnt := cnt }) (r := r) ⟨rfl, rfl, rfl, rfl, rfl⟩ ha hrights hadm hfirst hnone
      hlost hroot (hs.tile_listed ht) hplain hm 0
  obtain ⟨hmedium, ⟨new, hfind, hdirty, hdata, hmask, hkx⟩, hqueues⟩ := hwrites
  let f : Desc := e.arrivedOne { step := r.step, data := r.data, poison := false, cause := 0, dpa := r.dpa }
  have hback : ((w.arrive r r.data false 0).queue t q).desc i = some f :=
    s.desc_issuing_arrive t q i d e true r hd (Queue.index_of_desc (d := d) hd) rfl rfl
  have hexec := (exec_fillOrZero t q i zero s d hd hop ha hin hroom hstop hend hmore).trans (congrArg Host.Outcome.next hissue)
  refine ⟨_, new, f, hexec, ?medium, hfind, hdirty, hdata, hmask, hkx, ?desc, rfl, rfl, ?arrived⟩
  case medium =>
    have hsame : s.SameMedium w := by
      rw [hw]
      exact fun _ => ⟨rfl, rfl⟩
    exact hsame.trans hmedium
  case desc => exact (congrArg (fun l => (Sparse.getD l (64 * t + q) Queue.reset).desc i) hqueues).trans hback
  case arrived => simp [f, Desc.arrivedOne, e]

end Sys2Proof.Machine
end

section
/-! Proofs of 18_lifecycle.md: the step, and the firmware floor, which no command lowers (R491). -/
namespace Sys2Proof.Machine
open Sys2Proof

/-! ### The queue -/

/-- Settles O1: both clauses are the two branches of the step. -/
theorem stepRunsFront : Obligations.StepRunsFront := by
  unfold Obligations.StepRunsFront
  refine ⟨fun c rest s h => ?_, fun s h => ?_⟩
  · simp only [step, h]
  · simp only [step, h]

/-! ### The floor (R491) -/

theorem svnMin_le_of_eq {o : Host.Outcome State Fault Refusal} {s : State} (h : ∃ u, o = .next u ∧ u.fw.svnMin = s.fw.svnMin) :
    ∃ u, o = .next u ∧ s.fw.svnMin ≤ u.fw.svnMin := by
  obtain ⟨u, hu, hf⟩ := h
  exact ⟨u, hu, hf.ge⟩

/-- Every command answers next and leaves the floor where it is or above: one case for each command, by what its own meaning does to the floor. -/
theorem exec_svnMin_le (c : Instr) (s : State) : ∃ u, exec c s = .next u ∧ s.fw.svnMin ≤ u.fw.svnMin := by
  cases c with
  | ringLinkRetrain => exact svnMin_le_of_eq (execRingLinkRetrain_svnMin ..)
  | ringLinkDown => exact svnMin_le_of_eq (execRingLinkDown_svnMin ..)
  | alignmentMarker => exact svnMin_le_of_eq (execAlignmentMarker_svnMin ..)
  | timebaseHoldover => exact svnMin_le_of_eq (execTimebaseHoldover_svnMin ..)
  | timebaseRealigned => exact svnMin_le_of_eq (execTimebaseRealigned_svnMin ..)
  | refclkLost => exact svnMin_le_of_eq (execRefclkLost_svnMin ..)
  | refclkLocked => exact svnMin_le_of_eq (execRefclkLocked_svnMin ..)
  | coreTakeover => exact svnMin_le_of_eq (execCoreTakeover_svnMin ..)
  | standbyLost => exact svnMin_le_of_eq (execStandbyLost_svnMin ..)
  | memRd => exact svnMin_le_of_eq (execMemRd_svnMin ..)
  | memSpecRd port id tag hpa => exact svnMin_le_of_eq (execMemSpecRd_svnMin port id tag hpa s)
  | memInv => exact svnMin_le_of_eq (execMemInv_svnMin ..)
  | memWr => exact svnMin_le_of_eq (execMemWr_svnMin ..)
  | memWrPtl => exact svnMin_le_of_eq (execMemWrPtl_svnMin ..)
  | memUndefinedOpcode => exact svnMin_le_of_eq (execMemUndefinedOpcode_svnMin ..)
  | mediumReadDone => exact svnMin_le_of_eq (execMediumReadDone_svnMin ..)
  | strokeLift => exact svnMin_le_of_eq (execStrokeLift_svnMin ..)
  | nibPositionFreed => exact svnMin_le_of_eq (execNibPositionFreed_svnMin ..)
  | readAroundDone => exact svnMin_le_of_eq (execReadAroundDone_svnMin ..)
  | lineRebuilt => exact svnMin_le_of_eq (execLineRebuilt_svnMin ..)
  | erasureRetry => exact svnMin_le_of_eq (execErasureRetry_svnMin ..)
  | fetchDone => exact svnMin_le_of_eq (execFetchDone_svnMin ..)
  | hotBank => exact svnMin_le_of_eq (execHotBank_svnMin ..)
  | readSvcClear => exact execReadSvcClear_svnMin_le ..
  | mirrorMessage => exact svnMin_le_of_eq (execMirrorMessage_svnMin ..)
  | mirrorAck => exact svnMin_le_of_eq (execMirrorAck_svnMin ..)
  | mirrorRelease => exact svnMin_le_of_eq (execMirrorRelease_svnMin ..)
  | evictionStart => exact svnMin_le_of_eq (execEvictionStart_svnMin ..)
  | evictionPoint => exact svnMin_le_of_eq (execEvictionPoint_svnMin ..)
  | strokeStart => exact svnMin_le_of_eq (execStrokeStart_svnMin ..)
  | strokeVerified => exact svnMin_le_of_eq (execStrokeVerified_svnMin ..)
  | strokeVerifyFail => exact svnMin_le_of_eq (execStrokeVerifyFail_svnMin ..)
  | binding => exact svnMin_le_of_eq (execBinding_svnMin ..)
  | gpfPhase2 => exact svnMin_le_of_eq (execGpfPhase2_svnMin ..)
  | drainFlushDone => exact svnMin_le_of_eq (execDrainFlushDone_svnMin ..)
  | shadowRecordWrite => exact svnMin_le_of_eq (execShadowRecordWrite_svnMin ..)
  | tileFlushSilence => exact svnMin_le_of_eq (execTileFlushSilence_svnMin ..)
  | resEccError => exact svnMin_le_of_eq (execResEccError_svnMin ..)
  | shadowResent => exact svnMin_le_of_eq (execShadowResent_svnMin ..)
  | ageEntryReset => exact svnMin_le_of_eq (execAgeEntryReset_svnMin ..)
  | rootRepaired => exact svnMin_le_of_eq (execRootRepaired_svnMin ..)
  | rotationMove => exact svnMin_le_of_eq (execRotationMove_svnMin ..)
  | blanking => exact svnMin_le_of_eq (execBlanking_svnMin ..)
  | wearThresholdUpdate => exact svnMin_le_of_eq (execWearThresholdUpdate_svnMin ..)
  | migrationStarted => exact svnMin_le_of_eq (execMigrationStarted_svnMin ..)
  | migrationStripeCopy => exact svnMin_le_of_eq (execMigrationStripeCopy_svnMin ..)
  | migrationDone => exact svnMin_le_of_eq (execMigrationDone_svnMin ..)
  | migrateRequest => exact execMigrateRequest_svnMin_le ..
  | quarantineAck => exact execQuarantineAck_svnMin_le ..
  | mapQuery => exact execMapQuery_svnMin_le ..
  | evacuationSlot => exact svnMin_le_of_eq (execEvacuationSlot_svnMin ..)
  | temperatureSample => exact svnMin_le_of_eq (execTemperatureSample_svnMin ..)
  | driftClockSave => exact svnMin_le_of_eq (execDriftClockSave_svnMin ..)
  | patrolPace => exact svnMin_le_of_eq (execPatrolPace_svnMin ..)
  | patrolVisitMember => exact svnMin_le_of_eq (execPatrolVisitMember_svnMin ..)
  | patrolVisitEnd => exact svnMin_le_of_eq (execPatrolVisitEnd_svnMin ..)
  | refreshEscalated => exact svnMin_le_of_eq (execRefreshEscalated_svnMin ..)
  | patrolOverdue => exact svnMin_le_of_eq (execPatrolOverdue_svnMin ..)
  | accelPatrolDone => exact svnMin_le_of_eq (execAccelPatrolDone_svnMin ..)
  | scrubStart => exact execScrubStart_svnMin_le ..
  | scrubAbort => exact execScrubAbort_svnMin_le ..
  | scrubDone => exact svnMin_le_of_eq (execScrubDone_svnMin ..)
  | watchdogTrip => exact svnMin_le_of_eq (execWatchdogTrip_svnMin ..)
  | ringSilence => exact svnMin_le_of_eq (execRingSilence_svnMin ..)
  | tileSelfReport => exact svnMin_le_of_eq (execTileSelfReport_svnMin ..)
  | tileFence => exact execTileFence_svnMin_le ..
  | fenceDecision => exact svnMin_le_of_eq (execFenceDecision_svnMin ..)
  | mirrorMoved => exact svnMin_le_of_eq (execMirrorMoved_svnMin ..)
  | isolationFlushEnd => exact svnMin_le_of_eq (execIsolationFlushEnd_svnMin ..)
  | spanDelta => exact svnMin_le_of_eq (execSpanDelta_svnMin ..)
  | reconstructionDone => exact svnMin_le_of_eq (execReconstructionDone_svnMin ..)
  | tileRejoin => exact execTileRejoin_svnMin_le ..
  | autoRejoin => exact svnMin_le_of_eq (execAutoRejoin_svnMin ..)
  | rejoinStepDone => exact svnMin_le_of_eq (execRejoinStepDone_svnMin ..)
  | resyncSegment => exact svnMin_le_of_eq (execResyncSegment_svnMin ..)
  | keyLoad => exact execKeyLoad_svnMin_le ..
  | keyErase => exact execKeyErase_svnMin_le ..
  | keyPurgeDone => exact execKeyPurgeDone_svnMin_le ..
  | keyQuery => exact execKeyQuery_svnMin_le ..
  | debugUnlock => exact execDebugUnlock_svnMin_le ..
  | debugLock => exact execDebugLock_svnMin_le ..
  | spdmSessionEnd => exact svnMin_le_of_eq (execSpdmSessionEnd_svnMin ..)
  | sealRootAdopt => exact execSealRootAdopt_svnMin_le ..
  | metaFetchDone => exact svnMin_le_of_eq (execMetaFetchDone_svnMin ..)
  | descIn => exact svnMin_le_of_eq (execDescIn_svnMin ..)
  | qFlush => exact svnMin_le_of_eq (execQFlush_svnMin ..)
  | qResync => exact svnMin_le_of_eq (execQResync_svnMin ..)
  | cqHeadWrite => exact svnMin_le_of_eq (execCqHeadWrite_svnMin ..)
  | descriptorStart => exact svnMin_le_of_eq (execDescriptorStart_svnMin ..)
  | copy => exact svnMin_le_of_eq (execCopy_svnMin ..)
  | fill => exact svnMin_le_of_eq (execFill_svnMin ..)
  | zero => exact svnMin_le_of_eq (execZero_svnMin ..)
  | crc32c => exact svnMin_le_of_eq (execCrc32c_svnMin ..)
  | compare => exact svnMin_le_of_eq (execCompare_svnMin ..)
  | cas64 => exact svnMin_le_of_eq (execCas64_svnMin ..)
  | fadd64 => exact svnMin_le_of_eq (execFadd64_svnMin ..)
  | logAppend => exact svnMin_le_of_eq (execLogAppend_svnMin ..)
  | barLd => exact svnMin_le_of_eq (execBarLd_svnMin ..)
  | barSt => exact svnMin_le_of_eq (execBarSt_svnMin ..)
  | barAll => exact svnMin_le_of_eq (execBarAll_svnMin ..)
  | notify => exact svnMin_le_of_eq (execNotify_svnMin ..)
  | scribeLineDone => exact svnMin_le_of_eq (execScribeLineDone_svnMin ..)
  | barrierComplete => exact svnMin_le_of_eq (execBarrierComplete_svnMin ..)
  | sqRestart => exact execSqRestart_svnMin_le ..
  | feedAdmit => exact svnMin_le_of_eq (execFeedAdmit_svnMin ..)
  | epochEnd => exact svnMin_le_of_eq (execEpochEnd_svnMin ..)
  | urgencySample => exact svnMin_le_of_eq (execUrgencySample_svnMin ..)
  | reservationsScaled => exact svnMin_le_of_eq (execReservationsScaled_svnMin ..)
  | classHeldClear => exact execClassHeldClear_svnMin_le ..
  | linkTrained => exact svnMin_le_of_eq (execLinkTrained_svnMin ..)
  | linkRetrained => exact svnMin_le_of_eq (execLinkRetrained_svnMin ..)
  | linkDown => exact svnMin_le_of_eq (execLinkDown_svnMin ..)
  | cxlLdReset => exact svnMin_le_of_eq (execCxlLdReset_svnMin ..)
  | functionLevelReset => exact svnMin_le_of_eq (execFunctionLevelReset_svnMin ..)
  | ideFailure => exact svnMin_le_of_eq (execIdeFailure_svnMin ..)
  | ideKeyRefresh => exact svnMin_le_of_eq (execIdeKeyRefresh_svnMin ..)
  | hdmDecoderCommit => exact svnMin_le_of_eq (execHdmDecoderCommit_svnMin ..)
  | identify => exact svnMin_le_of_eq (execIdentify_svnMin ..)
  | backgroundOperationStatus => exact svnMin_le_of_eq (execBackgroundOperationStatus_svnMin ..)
  | getEventRecords => exact svnMin_le_of_eq (execGetEventRecords_svnMin ..)
  | clearEventRecords => exact svnMin_le_of_eq (execClearEventRecords_svnMin ..)
  | getEventInterruptPolicy => exact svnMin_le_of_eq (execGetEventInterruptPolicy_svnMin ..)
  | setEventInterruptPolicy => exact svnMin_le_of_eq (execSetEventInterruptPolicy_svnMin ..)
  | getFwInfo => exact svnMin_le_of_eq (execGetFwInfo_svnMin ..)
  | transferFw => exact svnMin_le_of_eq (execTransferFw_svnMin ..)
  | activateFw => exact svnMin_le_of_eq (execActivateFw_svnMin ..)
  | getTimestamp => exact svnMin_le_of_eq (execGetTimestamp_svnMin ..)
  | setTimestamp => exact svnMin_le_of_eq (execSetTimestamp_svnMin ..)
  | getSupportedLogs => exact svnMin_le_of_eq (execGetSupportedLogs_svnMin ..)
  | getLog => exact svnMin_le_of_eq (execGetLog_svnMin ..)
  | getSupportedFeatures => exact svnMin_le_of_eq (execGetSupportedFeatures_svnMin ..)
  | getFeature => exact svnMin_le_of_eq (execGetFeature_svnMin ..)
  | setFeature => exact svnMin_le_of_eq (execSetFeature_svnMin ..)
  | identifyMemoryDevice => exact svnMin_le_of_eq (execIdentifyMemoryDevice_svnMin ..)
  | getPartitionInfo => exact svnMin_le_of_eq (execGetPartitionInfo_svnMin ..)
  | getLsa => exact svnMin_le_of_eq (execGetLsa_svnMin ..)
  | setLsa => exact svnMin_le_of_eq (execSetLsa_svnMin ..)
  | getHealthInfo => exact svnMin_le_of_eq (execGetHealthInfo_svnMin ..)
  | getAlertConfiguration => exact svnMin_le_of_eq (execGetAlertConfiguration_svnMin ..)
  | setAlertConfiguration => exact svnMin_le_of_eq (execSetAlertConfiguration_svnMin ..)
  | getShutdownState => exact svnMin_le_of_eq (execGetShutdownState_svnMin ..)
  | setShutdownState => exact svnMin_le_of_eq (execSetShutdownState_svnMin ..)
  | getPoisonList => exact svnMin_le_of_eq (execGetPoisonList_svnMin ..)
  | injectPoison => exact svnMin_le_of_eq (execInjectPoison_svnMin ..)
  | clearPoison => exact svnMin_le_of_eq (execClearPoison_svnMin ..)
  | getScanMediaCapabilities => exact svnMin_le_of_eq (execGetScanMediaCapabilities_svnMin ..)
  | scanMedia => exact svnMin_le_of_eq (execScanMedia_svnMin ..)
  | getScanMediaResults => exact svnMin_le_of_eq (execGetScanMediaResults_svnMin ..)
  | sanitize => exact svnMin_le_of_eq (execSanitize_svnMin ..)
  | secureErase => exact svnMin_le_of_eq (execSecureErase_svnMin ..)
  | eraseDone => exact svnMin_le_of_eq (execEraseDone_svnMin ..)
  | getDynamicCapacityConfiguration => exact svnMin_le_of_eq (execGetDynamicCapacityConfiguration_svnMin ..)
  | getDynamicCapacityExtentList => exact svnMin_le_of_eq (execGetDynamicCapacityExtentList_svnMin ..)
  | addDynamicCapacityResponse => exact svnMin_le_of_eq (execAddDynamicCapacityResponse_svnMin ..)
  | releaseDynamicCapacity => exact svnMin_le_of_eq (execReleaseDynamicCapacity_svnMin ..)
  | staebExchange => exact execStaebExchange_svnMin_le ..
  | staebLimits => exact svnMin_le_of_eq (execStaebLimits_svnMin ..)
  | mailboxUnsupported => exact svnMin_le_of_eq (execMailboxUnsupported_svnMin ..)
  | getLdInfo => exact svnMin_le_of_eq (execGetLdInfo_svnMin ..)
  | getLdAllocations => exact svnMin_le_of_eq (execGetLdAllocations_svnMin ..)
  | setLdAllocations => exact svnMin_le_of_eq (execSetLdAllocations_svnMin ..)
  | getDcdInfo => exact svnMin_le_of_eq (execGetDcdInfo_svnMin ..)
  | getHostDcRegionConfiguration => exact svnMin_le_of_eq (execGetHostDcRegionConfiguration_svnMin ..)
  | setDcRegionConfiguration => exact svnMin_le_of_eq (execSetDcRegionConfiguration_svnMin ..)
  | getDcRegionExtentLists => exact svnMin_le_of_eq (execGetDcRegionExtentLists_svnMin ..)
  | initiateDynamicCapacityAdd => exact svnMin_le_of_eq (execInitiateDynamicCapacityAdd_svnMin ..)
  | initiateDynamicCapacityRelease => exact svnMin_le_of_eq (execInitiateDynamicCapacityRelease_svnMin ..)
  | dcSanitizeDone => exact svnMin_le_of_eq (execDcSanitizeDone_svnMin ..)
  | seqInAccepted => exact svnMin_le_of_eq (execSeqInAccepted_svnMin ..)
  | seqStepDone => exact svnMin_le_of_eq (execSeqStepDone_svnMin ..)
  | sequenceFailure => exact svnMin_le_of_eq (execSequenceFailure_svnMin ..)
  | seqRetry => exact svnMin_le_of_eq (execSeqRetry_svnMin ..)
  | haltedExit => exact svnMin_le_of_eq (execHaltedExit_svnMin ..)
  | seqInFallInSeq => exact svnMin_le_of_eq (execSeqInFallInSeq_svnMin ..)
  | railSample => exact svnMin_le_of_eq (execRailSample_svnMin ..)
  | vinComparatorTrip => exact svnMin_le_of_eq (execVinComparatorTrip_svnMin ..)
  | replicaMeasure => exact svnMin_le_of_eq (execReplicaMeasure_svnMin ..)
  | avsCommand => exact svnMin_le_of_eq (execAvsCommand_svnMin ..)
  | avsLinkLost => exact svnMin_le_of_eq (execAvsLinkLost_svnMin ..)
  | holdupMeasured => exact svnMin_le_of_eq (execHoldupMeasured_svnMin ..)
  | holdupFault => exact svnMin_le_of_eq (execHoldupFault_svnMin ..)
  | resetNLow => exact svnMin_le_of_eq (execResetNLow_svnMin ..)
  | pwrfailNLow => exact svnMin_le_of_eq (execPwrfailNLow_svnMin ..)
  | seqInLow => exact svnMin_le_of_eq (execSeqInLow_svnMin ..)
  | safeRestart => exact svnMin_le_of_eq (execSafeRestart_svnMin ..)
  | powerDown => exact execPowerDown_svnMin_le ..
  | powerUp => exact execPowerUp_svnMin_le ..
  | staebMessage => exact execStaebMessage_svnMin_le ..
  | objectWrite => exact execObjectWrite_svnMin_le ..
  | readStaged => exact execReadStaged_svnMin_le ..
  | commit => exact execCommit_svnMin_le ..
  | partitionReleased => exact svnMin_le_of_eq (execPartitionReleased_svnMin ..)
  | stageDiscard => exact execStageDiscard_svnMin_le ..
  | stageExpired => exact svnMin_le_of_eq (execStageExpired_svnMin ..)
  | w1cWrite => exact execW1cWrite_svnMin_le ..
  | cntSnapshot => exact execCntSnapshot_svnMin_le ..
  | cntSnapshotLatch => exact execCntSnapshotLatch_svnMin_le ..
  | recPublish => exact execRecPublish_svnMin_le ..
  | recClear => exact execRecClear_svnMin_le ..
  | recNext => exact execRecNext_svnMin_le ..
  | recRelease => exact execRecRelease_svnMin_le ..
  | recPkgNext => exact execRecPkgNext_svnMin_le ..
  | recPkgRelease => exact execRecPkgRelease_svnMin_le ..
  | recSave => exact svnMin_le_of_eq (execRecSave_svnMin ..)
  | pstoreRingSave => exact svnMin_le_of_eq (execPstoreRingSave_svnMin ..)
  | vauxOn => exact svnMin_le_of_eq (execVauxOn_svnMin ..)
  | firmwareBootDone => exact svnMin_le_of_eq (execFirmwareBootDone_svnMin ..)
  | vauxRemoved => exact svnMin_le_of_eq (execVauxRemoved_svnMin ..)
  | bringupStepDone => exact svnMin_le_of_eq (execBringupStepDone_svnMin ..)
  | degradedExit => exact svnMin_le_of_eq (execDegradedExit_svnMin ..)
  | fwActivateLive => exact execFwActivateLive_svnMin_le ..
  | fwActivateAtReset => exact execFwActivateAtReset_svnMin_le ..
  | liveUpdateStepDone => exact svnMin_le_of_eq (execLiveUpdateStepDone_svnMin ..)
  | fwSvnCommit => exact execFwSvnCommit_svnMin_le ..
  | ownerInstall => exact execOwnerInstall_svnMin_le ..
  | decommission => exact execDecommission_svnMin_le ..
  | timebaseTick => exact svnMin_le_of_eq (execTimebaseTick_svnMin ..)
  | debugAccess => exact svnMin_le_of_eq (execDebugAccess_svnMin ..)
  | hdmDecoderUncommit => exact svnMin_le_of_eq (execHdmDecoderUncommit_svnMin ..)
  | spdmSessionEstablished => exact svnMin_le_of_eq (execSpdmSessionEstablished_svnMin ..)
  | standbyResynchronised => exact svnMin_le_of_eq (execStandbyResynchronised_svnMin ..)
  | pbrIdAssigned => exact svnMin_le_of_eq (execPbrIdAssigned_svnMin ..)
  | linkReplay => exact svnMin_le_of_eq (execLinkReplay_svnMin ..)

theorem step_svnMin_le (s : State) : ∃ u, step s = .next u ∧ s.fw.svnMin ≤ u.fw.svnMin := by
  cases h : s.pending with
  | nil => exact ⟨s, stepRunsFront.2 s h, le_rfl⟩
  | cons c rest =>
    rw [stepRunsFront.1 c rest s h]
    exact exec_svnMin_le c { s with pending := rest }

/-- Settles O2: the state that a step leaves is the one whose floor stands at the old one or above. -/
theorem rollbackFloorNeverFalls : Obligations.RollbackFloorNeverFalls := by
  unfold Obligations.RollbackFloorNeverFalls
  intro floor s t hs ht
  obtain ⟨u, hu, hle⟩ := step_svnMin_le s
  obtain rfl : u = t := Host.Outcome.next.inj (hu.symm.trans ht)
  exact le_trans hs hle

end Sys2Proof.Machine
end

section
/-! Proofs of 12_feed_and_budget.md: a slice admits the request that it holds (R336, R339), and the urgency pins (R341). -/
namespace Sys2Proof.Machine
open Sys2Proof

/-! ### What leaves the holding buffers alone (R339) -/

/-- From `s` to `u` no port's holding buffer changes. -/
structure State.SameHeld (s u : State) : Prop where
  held : ∀ p, (u.port p).held = (s.port p).held

theorem State.SameHeld.refl (s : State) : s.SameHeld s := ⟨fun _ => rfl⟩
theorem State.SameHeld.trans {s t u : State} (a : s.SameHeld t) (b : t.SameHeld u) : s.SameHeld u :=
  ⟨fun p => (b.held p).trans (a.held p)⟩
theorem State.SameHeld.of_ports {s u : State} (ports : u.ports = s.ports := by simp) : s.SameHeld u :=
  ⟨fun p => by simp only [State.port, ports]⟩
theorem State.SameHeld.ite {s u v : State} {c : Prop} [Decidable c] (a : s.SameHeld u) (b : s.SameHeld v) : s.SameHeld (if c then u else v) := by
  split
  · exact a
  · exact b
theorem State.sameHeld_modPort (s : State) (p : Nat) (f : Port → Port) (h : ∀ x, (f x).held = x.held) : s.SameHeld (s.modPort p f) :=
  ⟨fun q => s.modPort_keeps Port.held p q f h⟩
theorem State.sameHeld_tcount (s : State) (t num k : Nat) : s.SameHeld (s.tcount t num k) := .of_ports
theorem State.sameHeld_tev (s : State) (t num cls value : Nat) (qs : List (Nat × Nat)) : s.SameHeld (s.tev t num cls value qs) := .of_ports
theorem State.ringSend_ports (s : State) (a d k : Nat) : (s.ringSend a d k).ports = s.ports := by
  unfold State.ringSend
  exact State.each_keeps State.ports _ _ _ (fun _ _ => by simp)
theorem State.chargeOne_ports (s : State) (r : Req) (reserved w : Bool) : (s.chargeOne r reserved w).ports = s.ports := by
  unfold State.chargeOne
  extract_lets
  exact State.modCls_ports ..
theorem State.sameHeld_noteCredits (s : State) (p : Nat) : s.SameHeld (s.noteCredits p) := by
  unfold State.noteCredits
  simp only []
  split
  · exact (s.sameHeld_modPort _ _ (by simp)).ite (.refl s)
  · split
    · exact .refl s
    · exact (s.sameHeld_modPort _ _ (by simp)).trans (State.sameHeld_tev ..)
theorem State.sameHeld_leaveIngress (s : State) (r : Req) : s.SameHeld (s.leaveIngress r) :=
  ((s.sameHeld_modPort _ _ (by simp)).trans (State.sameHeld_noteCredits ..)).ite (.refl s)
theorem State.sameHeld_admitFeed (s : State) (t : Nat) (r : Req) : s.SameHeld (s.admitFeed t r).1 := by
  unfold State.admitFeed
  extract_lets reserved r1 held s1 s2 s3 s4 s5 a s6 s7 own
  have charged : s.SameHeld s1 := .of_ports (State.each_keeps State.ports _ _ _ (fun u w => u.chargeOne_ports r reserved w))
  have noted : s1.SameHeld s2 := .of_ports rfl
  have entered : s2.SameHeld s3 := (s2.sameHeld_modPort _ _ (by simp)).ite (.refl s2)
  have counted : s3.SameHeld s5 := .ite (s3.sameHeld_tcount ..) ((s3.sameHeld_tcount ..).trans (State.sameHeld_tcount ..))
  have sent : s5.SameHeld s6 := .ite (.refl s5) (.of_ports (by rw [State.ringSend_ports, State.ringSend_ports]))
  have forwarded : s6.SameHeld s7 := .ite (s6.sameHeld_tcount ..) (.refl s6)
  have other : s7.SameHeld (if own && !r.write then s7.tcount t Cn.READS_FOR_OTHER_PORTS 1 else s7) := .ite (s7.sameHeld_tcount ..) (.refl s7)
  exact (((((charged.trans noted).trans entered).trans counted).trans sent).trans forwarded).trans other
theorem State.sameHeld_giveNibs (s : State) (t : Nat) (r : Req) : s.SameHeld (s.giveNibs t r) := .ite .of_ports (.refl s)
theorem State.sameHeld_countPath (s : State) (t path : Nat) : s.SameHeld (s.countPath t path) := by
  unfold State.countPath
  split
  case h_7 => exact .refl s
  all_goals exact .of_ports
theorem State.respondMem_ports (s : State) (r : Req) (isData : Bool) (d : Line) (poison : Bool) : (s.respondMem r isData d poison).ports = s.ports :=
  s.respondMem_keeps State.ports r isData d poison (by simp) (by simp) (by simp)
theorem State.sameHeld_answerRead_cxl (s : State) (t : Nat) (r : Req) (path slot hops : Nat) (d : Line) (poison : Bool) (hr : r.iface = .cxl) :
    s.SameHeld (s.answerRead t r path slot hops d poison) := by
  unfold State.answerRead
  extract_lets svc s1 s2
  rw [hr]
  have returned : s.SameHeld s1 := .of_ports rfl
  have checked : s1.SameHeld ((s1.countPath t path).checkBound r path slot hops) :=
    (s1.sameHeld_countPath t path).trans (.ite .of_ports (.refl _))
  exact ((returned.trans checked).trans (State.sameHeld_leaveIngress _ r)).trans (.of_ports (State.respondMem_ports ..))

/-! ### FEED_ADMIT (R336) -/

/-- A port's slice that holds one request, which nothing turns away or holds back, admits it and looks its line up. -/
theorem exec_feedAdmit_of_held (port t pred : Nat) (s : State) (r : Req) (hheld : (s.port port).held = [r]) (hturned : s.turnedAway r = none)
    (hserver : s.serverOf r = some t) (hroom : s.admissible t r = true) :
    exec (.feedAdmit port false pred) s =
      .next (((s.unhold r port).admitFeed t r).1.lookup t { r with admittedAt := (s.unhold r port).now r.home } pred) := by
  have hfirst : firstOfLines [] (s.port port).held = [r] := by rw [hheld]; rfl
  have hnone : [r].find? (fun r => (s.turnedAway r).isSome) = none := by simp [hturned]
  refine congrArg Host.Outcome.next ?_
  simp only [Bool.false_eq_true, if_false, hfirst, hnone, List.filter_cons, hserver, hroom, if_true, List.filter_nil, minBy]
  rfl
theorem State.booked_unhold (s : State) (r : Req) (slice : Nat) : s.Booked (s.unhold r slice) :=
  ((s.booked_modPort _ _ (by simp)).trans (State.booked_noteCredits ..)).ite (s.booked_modRd _ _)
theorem State.held_unhold (s : State) (r : Req) (port : Nat) (hp : port < s.ports.length) (hr : r.iface = .cxl) :
    ((s.unhold r port).port port).held = (s.port port).held.erase r := by
  unfold State.unhold
  rw [if_pos hr, (State.sameHeld_noteCredits ..).held, State.port_modPort_same _ _ _ hp]
/-- The lookup of a host's read of a FRESH line: bookkeeping, then zeros; no holding buffer changes. -/
theorem State.lookup_of_fresh (s : State) (t : Nat) (r : Req) (pred : Nat) (ht : t = r.tile) (hr : r.iface = .cxl) (hread : r.write = false)
    (hup : (s.port r.port).up = true) (hnone : (s.tile t).res.find r.lla t = none) (hroot : s.rootLost t r.part = false)
    (hfresh : ((s.tile t).map.entry (lsegOf r.lla)).st = .fresh) :
    s.Answers (s.lookup t r pred) r true 0 false ∧ s.SameMedium (s.lookup t r pred) ∧ s.SameHeld (s.lookup t r pred) := by
  subst ht
  let u := (s.giveNibs r.tile r).tcount r.tile Cn.ZERO_LINE_READS 1
  have hlook : s.lookup r.tile r pred = u.answerRead r.tile r 2 0 (s.reqHops r r.tile) 0 false := by
    simp [State.lookup, State.lookupRead, hread, hnone, hroot, hfresh, u]
  have hquiet : s.Quiet u := ((s.booked_giveNibs r.tile r).trans (State.booked_tcount _ r.tile Cn.ZERO_LINE_READS 1)).quiet
  have hheld : s.SameHeld u := (s.sameHeld_giveNibs r.tile r).trans (State.sameHeld_tcount ..)
  rw [hlook]
  obtain ⟨hanswers, hmedium⟩ := hquiet.answerRead r.tile r 2 0 (s.reqHops r r.tile) 0 false hr hup
  exact ⟨hanswers, hmedium, hheld.trans (u.sameHeld_answerRead_cxl _ _ _ _ _ _ _ hr)⟩
theorem feedAdmit_answers_fresh (port t pred : Nat) (s : State) (r : Req) (hs : s.Sized) (hp : port < s.n) (hheld : (s.port port).held = [r])
    (hup : (s.port port).up = true) (hport : r.port = port) (hr : r.iface = .cxl) (hread : r.write = false) (hturned : s.turnedAway r = none)
    (hserver : s.serverOf r = some t) (hroom : s.admissible t r = true) (ht : t = r.tile) (hnone : (s.tile t).res.find r.lla t = none)
    (hroot : s.rootLost t r.part = false) (hfresh : ((s.tile t).map.entry (lsegOf r.lla)).st = .fresh) :
    ∃ u, exec (.feedAdmit port false pred) s = .next u ∧ (u.port port).held = [] ∧ s.Answers u r true 0 false ∧ s.SameMedium u := by
  let w := ((s.unhold r port).admitFeed t r).1
  let q : Req := { r with admittedAt := (s.unhold r port).now r.home }
  have hbook : s.Booked w := (s.booked_unhold r port).trans (State.booked_admitFeed _ t r)
  have hup' : (w.port q.port).up = true := (hbook.up _).trans (hport ▸ hup)
  obtain ⟨⟨load, hout⟩, hmedium, hsame⟩ := w.lookup_of_fresh t q pred ht hr hread hup' (by rw [hbook.res]; exact hnone)
    (by rw [hbook.rootLost]; exact hroot) (by rw [hbook.map]; exact hfresh)
  refine ⟨_, exec_feedAdmit_of_held port t pred s r hheld hturned hserver hroom, ?_, ⟨load, hbook.out ▸ hout⟩,
    hbook.quiet.medium.trans hmedium⟩
  rw [hsame.held, ((s.unhold r port).sameHeld_admitFeed t r).held, s.held_unhold r port (Nat.lt_of_lt_of_le hp hs.ports) hr, hheld, List.erase_cons_head]

/-! ### O40 -/

/-- Settles O40: the request goes out of the buffer and through its lookup, a branch of which is the FRESH line; a sample changes its port. -/
theorem slicesDecide : Obligations.SlicesDecide := by
  unfold Obligations.SlicesDecide
  refine ⟨fun port t pred s r hs hp hheld hup _ hport hr hread _ => ?_, fun port level s hp hs hused => ?_⟩
  · exact feedAdmit_answers_fresh port t pred s r hs hp hheld hup hport hr hread
  · refine ⟨_, exec_urgencySample_of_used port level s hused, ?_⟩
    rw [State.port_modPort_same _ _ _ (Nat.lt_of_lt_of_le hp hs.ports)]
    exact ⟨rfl, rfl, rfl, rfl⟩

end Sys2Proof.Machine
end

section
/-! Proofs of 12_feed_and_budget.md: the end of an epoch (R337, R345, R346, R350) and the scaling of reservations (R354). -/
namespace Sys2Proof.Machine
open Sys2Proof

/-! ### Credits of an epoch (R345, R346, R349) -/

/-- From `s` to `u` only credits, counters, events and status cells change. -/
structure State.Credited (s u : State) : Prop where
  part : u.part = s.part
  tiles : u.tiles = s.tiles
  ports : u.ports = s.ports
  out : u.out = s.out
  emergency : u.feed.emergency = s.feed.emergency
  reserves : u.feed.reserveLeft.length = s.feed.reserveLeft.length

theorem State.Credited.refl (s : State) : s.Credited s := ⟨rfl, rfl, rfl, rfl, rfl, rfl⟩
theorem State.Credited.trans {s t u : State} (a : s.Credited t) (b : t.Credited u) : s.Credited u :=
  ⟨b.part.trans a.part, b.tiles.trans a.tiles, b.ports.trans a.ports, b.out.trans a.out, b.emergency.trans a.emergency, b.reserves.trans a.reserves⟩
theorem State.credited_each {α : Type} (s : State) (l : List α) (f : State → α → State) (h : ∀ u x, State.Credited u (f u x)) :
    s.Credited (s.each l f) :=
  State.each_induct s.Credited s l f (.refl s) (fun u x _ hu => hu.trans (h u x))
theorem State.credited_tcount (s : State) (t num k : Nat) : s.Credited (s.tcount t num k) := ⟨by simp, by simp, by simp, by simp, by simp, by simp⟩
theorem State.credited_giveGrant (s : State) (t total reserve lost : Nat) : s.Credited (s.giveGrant t total reserve lost) := by
  unfold State.giveGrant
  exact ⟨by simp, by simp, by simp, by simp, by simp, by simp [length_modAt]⟩
theorem State.credited_noGrantFor (s : State) (t : Nat) : s.Credited (s.noGrantFor t) := by
  unfold State.noGrantFor
  extract_lets k s1
  have given : s.Credited s1 := s.credited_giveGrant ..
  split
  · exact s.credited_giveGrant ..
  · split
    · exact s.credited_giveGrant ..
    · split
      · exact given.trans ⟨by simp, by simp, by simp, by simp, by simp, by simp⟩
      · exact given
theorem State.giveGrant_reserveLeft (s : State) (t total reserve lost : Nat) :
    (s.giveGrant t total reserve lost).feed.reserveLeft = modAt s.feed.reserveLeft t (fun _ => reserve) := by
  simp [State.giveGrant]
theorem State.noGrantFor_reserveLeft_ne (s : State) (t u : Nat) (h : u ≠ t) :
    (s.noGrantFor t).feed.reserveLeft.getD u 0 = s.feed.reserveLeft.getD u 0 := by
  have given (total reserve lost : Nat) : (s.giveGrant t total reserve lost).feed.reserveLeft.getD u 0 = s.feed.reserveLeft.getD u 0 := by
    rw [State.giveGrant_reserveLeft, getD_modAt_ne _ _ _ _ _ (Ne.symm h)]
  unfold State.noGrantFor
  extract_lets k s1
  split
  · exact given ..
  · split
    · exact given ..
    · split
      · simpa using given s.fallbackGrant 0 k
      · exact given ..
/-- A list of changes none of which is of tile `t`'s reserve leaves it. -/
theorem State.reserveLeft_each_of_notMem (s : State) (l : List Nat) (F : State → Nat → State) (t : Nat) (ht : t ∉ l)
    (hF : ∀ s x, x ≠ t → (F s x).feed.reserveLeft.getD t 0 = s.feed.reserveLeft.getD t 0) :
    (s.each l F).feed.reserveLeft.getD t 0 = s.feed.reserveLeft.getD t 0 :=
  State.each_induct (fun u => u.feed.reserveLeft.getD t 0 = s.feed.reserveLeft.getD t 0) s l F rfl
    (fun u x hx hu => (hF u x (fun h => ht (h ▸ hx))).trans hu)
/-- Each tile that the grant reaches has its reserve (R346). -/
theorem State.reserveLeft_each_giveGrant (s : State) (l : List Nat) (total : Nat → Nat) (reserve lost t : Nat) (ht : t ∈ l)
    (hlen : t < s.feed.reserveLeft.length) :
    (s.each l (fun s' x => s'.giveGrant x (total x) reserve lost)).feed.reserveLeft.getD t 0 = reserve := by
  induction l generalizing s with
  | nil => cases ht
  | cons a l ih =>
    rw [State.each_cons]
    by_cases hmem : t ∈ l
    · exact ih _ hmem (by rw [(s.credited_giveGrant ..).reserves]; exact hlen)
    · obtain rfl : t = a := (List.mem_cons.1 ht).resolve_right hmem
      rw [State.reserveLeft_each_of_notMem _ _ _ _ hmem, State.giveGrant_reserveLeft, getD_modAt_same _ _ _ _ hlen]
      intro u x hx
      rw [State.giveGrant_reserveLeft, getD_modAt_ne _ _ _ _ _ hx]

/-! ### Token allotment (R337) -/

/-- The reads of a tile whose tokens are allotted among the sources `srcs` by the demand sampled. -/
def TileRead.reallotted (x : TileRead) (emergency : Bool) (srcs : List Nat) : TileRead :=
  { x with
    rdAllot := allot (if emergency then 64 else 256) 4 srcs (x.demand.getD 0 []) (x.demand.getD 1 []),
    wrAllot := allot 256 4 srcs (x.demand.getD 2 []) (x.demand.getD 3 []),
    nibAllot := ((List.range 16).map (fun d => allot 16 1 srcs (x.demand.getD (4 + 2 * d) []) (x.demand.getD (5 + 2 * d) []))).flatten,
    demand := List.replicate 36 (List.replicate 16 0) }
theorem State.reallot_eq (s : State) (t : Nat) : s.reallot t = s.modRd t (fun x => x.reallotted s.feed.emergency s.sources) := rfl
/-- A tile that stays in its fencing state leaves the ACTIVE tiles as they are. -/
theorem State.modTile_activeTiles (s : State) (t : Nat) (f : Tile → Tile) (h : ∀ x, (f x).fence.st = x.fence.st) :
    (s.modTile t f).activeTiles = s.activeTiles :=
  List.filter_congr (fun u _ => s.modTile_tileActive t u f h)
theorem State.modRd_sources (s : State) (t : Nat) (f : TileRead → TileRead) : (s.modRd t f).sources = s.sources := by
  have hactive : (s.modRd t f).activeTiles = s.activeTiles := s.modTile_activeTiles t _ (fun _ => rfl)
  unfold State.sources
  rw [hactive]
  rfl
/-- The sources are the same for every tile that is re-allotted. -/
theorem State.each_reallot (s : State) (l : List Nat) :
    s.each l (fun s' t => s'.reallot t) = s.each l (fun s' t => s'.modRd t (fun x => x.reallotted s.feed.emergency s.sources)) := by
  have same (u : State) (he : u.feed.emergency = s.feed.emergency) (hsrc : u.sources = s.sources) :
      u.each l (fun s' t => s'.reallot t) = u.each l (fun s' t => s'.modRd t (fun x => x.reallotted s.feed.emergency s.sources)) := by
    induction l generalizing u with
    | nil => rfl
    | cons a l ih =>
      rw [State.each_cons, State.each_cons, u.reallot_eq, he, hsrc]
      exact ih _ he ((u.modRd_sources ..).trans hsrc)
  exact same s rfl rfl
theorem State.each_reallot_rdAllot (s : State) (t : Nat) (hlen : s.n ≤ s.tiles.length) (ht : t ∈ s.activeTiles) :
    ((s.each s.activeTiles (fun s' t => s'.reallot t)).tile t).rd = (s.tile t).rd.reallotted s.feed.emergency s.sources := by
  rw [s.each_reallot, State.tile_each s s.activeTiles _ (fun _ x => { x with rd := x.rd.reallotted s.feed.emergency s.sources })
    s.activeTiles_nodup (fun u hu => Nat.lt_of_lt_of_le ((s.mem_activeTiles u).1 hu).1 hlen), if_pos ht]
  · exact fun _ _ _ hne => State.tile_modTile_ne _ _ _ _ (Ne.symm hne)
  · exact fun _ _ ht => State.tile_modTile_same _ _ _ ht
  · exact fun _ _ => State.modTile_tiles_length ..
theorem State.each_reallot_keeps {β : Type} (g : State → β) (s : State) (l : List Nat) (h : ∀ s t f, g (State.modTile s t f) = g s) :
    g (s.each l (fun s' t => s'.reallot t)) = g s :=
  State.each_keeps g s l _ (fun _ _ => h ..)

/-! ### EPOCH_END (R345) -/

/-- The device's power is compared with its effective cap (R350). -/
def State.capChecked (s : State) (peff pns : Nat) (was : Bool) : State :=
  let s1 := { s with feed := { s.feed with overCap := decide (peff < pns) } }
  if decide (peff < pns) && !was then
    (s1.raise Ob.BUDGET_STATUS 0 Ob.BUDGET_OCC).pev Ev.POWER_OVER_CAP (pns / 1000) [(2, peff / 1000)]
  else s1
theorem State.credited_capChecked (s : State) (peff pns : Nat) (was : Bool) : s.Credited (s.capChecked peff pns was) := by
  unfold State.capChecked
  split
  · exact ⟨by simp, by simp, by simp, by simp, by simp, by simp⟩
  · exact ⟨rfl, rfl, rfl, rfl, rfl, rfl⟩
theorem State.capChecked_overCap (s : State) (peff pns : Nat) (was : Bool) : (s.capChecked peff pns was).feed.overCap = decide (peff < pns) := by
  unfold State.capChecked
  split <;> simp
theorem State.capChecked_reserveLeft (s : State) (peff pns : Nat) (was : Bool) :
    (s.capChecked peff pns was).feed.reserveLeft = s.feed.reserveLeft := by
  unfold State.capChecked
  split <;> simp
/-- The reserve of each tile that the grant reaches (R346). -/
def State.epochReserve (s : State) : Nat :=
  let g := (s.peffArbiter - s.pns) / 18
  ceilDiv (2 * (if g = 0 then (s.peffArbiter - 1000 * s.part.power.2.2.2) / 18 else g)) (100 * max 1 s.nActive)
theorem State.Credited.sources {s u : State} (h : s.Credited u) : u.sources = s.sources := by
  have hn : u.n = s.n := by simp only [State.n, h.part]
  have htile (t : Nat) : u.tile t = s.tile t := by simp only [State.tile, h.tiles]
  have hport (p : Nat) : u.port p = s.port p := by simp only [State.port, h.ports]
  unfold State.sources State.activeTiles State.tileNumbers State.tileActive
  simp only [hn, htile, hport]
theorem State.Credited.activeTiles {s u : State} (h : s.Credited u) : u.activeTiles = s.activeTiles := by
  have hn : u.n = s.n := by simp only [State.n, h.part]
  have htile (t : Nat) : u.tile t = s.tile t := by simp only [State.tile, h.tiles]
  unfold State.activeTiles State.tileNumbers State.tileActive
  simp only [hn, htile]

/-- The end of an epoch: credits first, which give every ACTIVE tile that the grant reaches its reserve, then the tokens. -/
theorem execEpochEnd_eq (lost : Nat) (s : State) (hmain : s.dev.mainUp = true) (hres : s.n ≤ s.feed.reserveLeft.length) :
    ∃ u, exec (.epochEnd lost) s = .next (u.each u.activeTiles (fun s' t => s'.reallot t)) ∧ s.Credited u ∧
      u.feed.overCap = decide (s.peff < s.pns) ∧
      ∀ t < s.n, s.tileActive t = true → s.mgmt.active ≠ none → lost.testBit t = false → u.feed.reserveLeft.getD t 0 = s.epochReserve := by
  let counted := s.tileNumbers.filter (fun t => decide ((s.tile t).fence.st = .active ∨ (s.tile t).fence.st = .rejoining))
  let reached := counted.filter (fun t => s.mgmt.active.isSome && !lost.testBit t &&
    (decide ((s.tile t).fence.st = .active) || decide (5 ≤ (s.tile t).fence.rejoinStep)))
  let fill := s.fillGrants reached s.epochReserve ((s.peffArbiter - s.pns) / 18 - s.epochReserve * reached.length)
  let s1 := s.each counted (fun s' t => s'.tcount t Cn.STROKE_CREDITS_LAPSED (s'.feed.left.getD t 0 + s'.feed.reserveLeft.getD t 0))
  let s2 := s1.each reached (fun s' t => s'.giveGrant t (s.epochReserve + fill t) s.epochReserve 0)
  let s3 := s2.each (counted.filter (fun t => !reached.contains t)) (fun s' t => s'.noGrantFor t)
  have lapsed : s.Credited s1 := s.credited_each _ _ (fun u _ => u.credited_tcount ..)
  have granted : s1.Credited s2 := s1.credited_each _ _ (fun u _ => u.credited_giveGrant ..)
  have others : s2.Credited s3 := s2.credited_each _ _ (fun u _ => u.credited_noGrantFor _)
  refine ⟨s3.capChecked s.peff s.pns s.feed.overCap, congrArg Host.Outcome.next (if_pos hmain),
    ((lapsed.trans granted).trans others).trans (s3.credited_capChecked ..), s3.capChecked_overCap .., fun t ht hact hcore hlost => ?_⟩
  have hst : (s.tile t).fence.st = .active := of_decide_eq_true hact
  have hreached : t ∈ reached := by
    simp [reached, counted, (s.mem_tileNumbers t).2 ht, hst, hlost, Option.isSome_iff_ne_none.2 hcore]
  rw [State.capChecked_reserveLeft, State.reserveLeft_each_of_notMem _ _ _ t (by simp [hreached])
    (fun u x hx => u.noGrantFor_reserveLeft_ne x t (Ne.symm hx))]
  exact State.reserveLeft_each_giveGrant s1 reached _ _ _ t hreached (by rw [lapsed.reserves]; exact Nat.lt_of_lt_of_le ht hres)
theorem epochEnd_allots (lost : Nat) (s : State) (hmain : s.dev.mainUp = true) (hs : s.Sized) (hres : s.n ≤ s.feed.reserveLeft.length) :
    ∃ u, exec (.epochEnd lost) s = .next u ∧ u.feed.overCap = decide (s.peff < s.pns) ∧ u.out = s.out ∧
      ∀ t < s.n, s.tileActive t = true →
        (u.tile t).rd.rdAllot = allot (if s.feed.emergency then 64 else 256) 4 s.sources ((s.tile t).rd.demand.getD 0 [])
          ((s.tile t).rd.demand.getD 1 []) ∧
        (s.mgmt.active ≠ none → lost.testBit t = false → u.feed.reserveLeft.getD t 0 = s.epochReserve) := by
  obtain ⟨u, hexec, hcred, hcap, hreserve⟩ := execEpochEnd_eq lost s hmain hres
  refine ⟨_, hexec, ?_, ?_, fun t ht hact => ⟨?_, fun hcore hlost => ?_⟩⟩
  · rw [← hcap]
    exact congrArg Feed.overCap (u.each_reallot_keeps State.feed _ (fun _ _ _ => rfl))
  · exact (u.each_reallot_keeps State.out _ (fun _ _ _ => rfl)).trans hcred.out
  · have hn : u.n ≤ u.tiles.length := by
      rw [hcred.tiles, State.n, hcred.part]
      exact hs.tiles
    have htile : u.tile t = s.tile t := by simp only [State.tile, hcred.tiles]
    rw [u.each_reallot_rdAllot t hn (by rw [hcred.activeTiles]; exact (s.mem_activeTiles t).2 ⟨ht, hact⟩), hcred.emergency, hcred.sources, htile]
    rfl
  · rw [u.each_reallot_keeps State.feed _ (fun _ _ _ => rfl)]
    exact hreserve t ht hact hcore hlost

/-! ### RESERVATIONS_SCALED (R354) -/

/-- A store filled from a list in which every pair of key `k` has the value `v`. -/
theorem getD_foldl_insert {β : Type} (l : List (Nat × β)) (m : Sparse β) (k : Nat) (v d : β) (h : ∀ x ∈ l, x.1 = k → x.2 = v) :
    (l.foldl (fun m x => m.insert x.1 x.2) m).getD k d = if k ∈ l.map Prod.fst then v else m.getD k d := by
  induction l generalizing m with
  | nil => simp
  | cons a l ih =>
    rw [List.foldl_cons, ih _ (fun x hx => h x (List.mem_cons_of_mem _ hx))]
    by_cases hmem : k ∈ l.map Prod.fst
    · rw [if_pos hmem, if_pos (by simpa using .inr (by simpa using hmem))]
    · by_cases ha : a.1 = k
      · rw [if_neg hmem, if_pos (by simp [ha]), ← h a (List.mem_cons_self ..) ha, ← ha, Sparse.getD_insert_same]
      · have hnot : k ∉ (a :: l).map Prod.fst := by
          rw [List.map_cons, List.mem_cons]
          exact fun hk => hk.elim (fun hk => ha hk.symm) hmem
        rw [if_neg hmem, if_neg hnot, Sparse.getD_insert_ne _ _ _ _ _ ha]

/-- Every class with its factor in each direction, by the number that the Feed keeps it under. -/
def State.factors (s : State) : List (Nat × Frac) :=
  ((feedClasses.map (fun c => [(c, false), (c, true)])).flatten).map (fun x => (2 * x.1 + bitNat x.2, s.classFactor x.1 x.2))
/-- The factors below one, as the Feed keeps them. -/
def State.scaling (s : State) : Sparse (Nat × Nat) :=
  (s.factors.filter (fun f => decide (f.2 ≠ (1, 1)))).foldl (fun m f => m.insert f.1 f.2) []
theorem State.mem_factors (s : State) (k : Nat) (f : Frac) :
    (k, f) ∈ s.factors ↔ ∃ c ∈ feedClasses, ∃ w : Bool, k = 2 * c + bitNat w ∧ f = s.classFactor c w := by
  constructor
  · intro h
    obtain ⟨⟨c, w⟩, hx, hkf⟩ := List.mem_map.1 h
    obtain ⟨l, hl, hx⟩ := List.mem_flatten.1 hx
    obtain ⟨c', hc', rfl⟩ := List.mem_map.1 hl
    have hc : c = c' := by
      rcases List.mem_pair.1 hx with h | h <;> exact congrArg Prod.fst h
    obtain ⟨rfl, rfl⟩ := Prod.mk.inj hkf
    exact ⟨c, hc ▸ hc', w, rfl, rfl⟩
  · rintro ⟨c, hc, w, rfl, rfl⟩
    refine List.mem_map.2 ⟨(c, w), List.mem_flatten.2 ⟨_, List.mem_map.2 ⟨c, hc, rfl⟩, ?_⟩, rfl⟩
    cases w <;> simp
/-- The number tells the class and the direction. -/
theorem factorKey_inj {c c' : Nat} {w w' : Bool} (h : 2 * c + bitNat w = 2 * c' + bitNat w') : c = c' ∧ w = w' := by
  cases w <;> cases w' <;> simp [bitNat] at h ⊢ <;> omega
theorem State.scaling_getD (s : State) (c : Nat) (hc : c ∈ feedClasses) (w : Bool) :
    s.scaling.getD (2 * c + bitNat w) (1, 1) = s.classFactor c w := by
  unfold State.scaling
  rw [getD_foldl_insert _ _ _ (s.classFactor c w)]
  · split
    next => rfl
    next hnot =>
      by_contra hne
      exact hnot (List.mem_map.2 ⟨(2 * c + bitNat w, s.classFactor c w),
        List.mem_filter.2 ⟨(s.mem_factors _ _).2 ⟨c, hc, w, rfl, rfl⟩, decide_eq_true (Ne.symm hne)⟩, rfl⟩)
  · rintro ⟨k, f⟩ hx hk
    obtain ⟨c', -, w', rfl, rfl⟩ := (s.mem_factors k f).1 (List.mem_of_mem_filter hx)
    obtain ⟨rfl, rfl⟩ := factorKey_inj hk
    rfl
theorem State.anyScaled (s : State) : (!(s.factors.filter (fun f => decide (f.2 ≠ (1, 1)))).isEmpty) =
    feedClasses.any (fun c => decide (s.classFactor c false ≠ (1, 1)) || decide (s.classFactor c true ≠ (1, 1))) := by
  rw [Bool.eq_iff_iff]
  constructor
  · intro h
    rw [Bool.not_eq_true', List.isEmpty_eq_false_iff] at h
    obtain ⟨⟨k, f⟩, hx⟩ := List.exists_mem_of_ne_nil _ h
    obtain ⟨hmem, hf⟩ := List.mem_filter.1 hx
    obtain ⟨c, hc, w, rfl, rfl⟩ := (s.mem_factors k f).1 hmem
    refine List.any_eq_true.2 ⟨c, hc, ?_⟩
    cases w
    · exact Bool.or_eq_true_iff.2 (.inl hf)
    · exact Bool.or_eq_true_iff.2 (.inr hf)
  · intro h
    obtain ⟨c, hc, hf⟩ := List.any_eq_true.1 h
    obtain ⟨w, hw⟩ : ∃ w, decide (s.classFactor c w ≠ (1, 1)) = true := by
      rcases Bool.or_eq_true_iff.1 hf with hf | hf
      · exact ⟨false, hf⟩
      · exact ⟨true, hf⟩
    rw [Bool.not_eq_true', List.isEmpty_eq_false_iff]
    exact List.ne_nil_of_mem (List.mem_filter.2 ⟨(s.mem_factors _ _).2 ⟨c, hc, w, rfl, rfl⟩, hw⟩)
/-- Whatever is recorded of the scaling, the Feed keeps the factors and no tile changes. -/
theorem exec_reservationsScaled (cause : Nat) (s : State) : ∃ u, exec (.reservationsScaled cause) s = .next u ∧ u.feed.scale = s.scaling ∧
    u.feed.scaled = (!(s.factors.filter (fun f => decide (f.2 ≠ (1, 1)))).isEmpty) ∧ u.tiles = s.tiles := by
  refine ⟨_, rfl, ?_⟩
  extract_lets all fs low isHigh least scale feed s1 s2
  have hs2 : s2.feed = s1.feed ∧ s2.tiles = s1.tiles := by
    unfold s2
    split
    · exact ⟨rfl, rfl⟩
    · simp
  split
  · exact ⟨rfl, rfl, rfl⟩
  · split
    · simp only [State.pev_feed, State.pev_tiles]
      exact ⟨rfl, rfl, rfl⟩
    · simp only [State.degrade_feed, State.degrade_tiles, State.pev_feed, State.pev_tiles, hs2]
      exact ⟨rfl, rfl, rfl⟩

/-! ### O41 -/

/-- Settles O41: the epoch's credits and then its tokens; the scaling, by what the Feed keeps of it. -/
theorem budgetEpochs : Obligations.BudgetEpochs := by
  unfold Obligations.BudgetEpochs
  refine ⟨epochEnd_allots, fun cause s => ?_⟩
  obtain ⟨u, hexec, hscale, hscaled, htiles⟩ := exec_reservationsScaled cause s
  exact ⟨u, hexec, fun c hc w => by rw [hscale, s.scaling_getD c hc], hscaled.trans s.anyScaled, htiles⟩

end Sys2Proof.Machine
end

section
/-! Proofs of 13_host_ports.md: links train, retrain and replay, and PBR IDs (R358 to R360, R366). -/
namespace Sys2Proof.Machine
open Sys2Proof

/-! ### What a change of one port leaves alone -/

theorem State.Sized.port_listed {s : State} (hs : s.Sized) {p : Nat} (hp : p < s.n) : p < s.ports.length := Nat.lt_of_lt_of_le hp hs.ports
theorem State.modPort_others (s : State) (p : Nat) (f : Port → Port) : ∀ q, q ≠ p → (s.modPort p f).port q = s.port q :=
  fun _ hq => State.port_modPort_ne _ _ _ _ (Ne.symm hq)
/-- An event counts itself and nothing else. -/
theorem State.tev_counter_ne (s : State) (t num cls value : Nat) (qs : List (Nat × Nat)) (m : Nat) (h : m ≠ Cn.REC_OCCURRENCES) :
    (s.tev t num cls value qs).counter m = s.counter m :=
  State.counter_count_ne _ _ _ _ (Ne.symm h)

/-! ### LINK_TRAINED (R358, R359) -/

theorem memEnabled_of (rate flit : Nat) (hflit : flit = 1 ∨ flit = 2) (hrate : 3 ≤ rate) : memEnabled true rate flit = true := by
  simp [memEnabled, hflit, hrate]
theorem State.noteNoMem_of_enabled (s : State) (p rate width flit : Nat) (cxl : Bool) (h : memEnabled cxl rate flit = true) :
    s.noteNoMem p rate width flit cxl = s := if_pos h
/-- A port as it trains at a rate, a width and a flit mode with CXL.mem, in the LD mode that its objects hold (R358, R366). -/
def State.trained (s : State) (p rate width flit : Nat) : State :=
  s.modPort p (fun q => { q with
    up := true, rate := rate, width := width, flit := flit, cxlMem := true,
    ldMode := s.cell (Ob.inst Ob.PORT_LD_MODE p) 0,
    ldCount := if s.cell (Ob.inst Ob.PORT_LD_MODE p) 0 = 0 then 1 else s.cell (Ob.inst Ob.PORT_LD_COUNT p) 1,
    maxRate := s.cell (Ob.inst Ob.PORT_MAX_RATE p) 5 })
theorem exec_linkTrained_mem (p rate width flit : Nat) (s : State) (hcan : s.canTrain p = true) (hdown : (s.port p).up = false)
    (hlegal : s.linkLegal p rate width flit = true) (hmem : memEnabled true rate flit = true) :
    exec (.linkTrained p rate width flit true) s = .next (s.trained p rate width flit) := by
  refine congrArg Host.Outcome.next ((if_pos (by simp [hcan, hdown, hlegal])).trans ?_)
  extract_lets s1
  rw [State.noteNoMem_of_enabled _ _ _ _ _ _ hmem]
  unfold s1
  rw [hmem]
  rfl

/-! ### LINK_RETRAINED (R360) -/

/-- A retrain that moves the rate or the width is counted, moves them, and is recorded. -/
def State.retrained (s : State) (p rate width : Nat) (mem : Bool) : State :=
  (((s.tcount p Cn.LINK_RETRAINS 1).modPort p (fun q => { q with rate := rate, width := width, cxlMem := memEnabled mem rate q.flit })).raise
    (Ob.inst Ob.PORT_ERR_STATUS p) 1 (Ob.inst Ob.PORT_ERR_OCC p + 1)).tev p Ev.LINK_RETRAINED 0xFF p [(1, rate), (1, width)]
theorem exec_linkRetrained_moves (p rate width : Nat) (s : State) (hused : s.portUsed p = true) (hup : (s.port p).up = true)
    (hlegal : s.linkLegal p rate width (s.port p).flit = true) (hmem : memEnabled true rate (s.port p).flit = true)
    (hmoves : ¬((s.port p).rate = rate ∧ (s.port p).width = width)) :
    exec (.linkRetrained p rate width) s = .next (s.retrained p rate width (s.port p).cxlMem) := by
  refine congrArg Host.Outcome.next ((if_pos (by simp [hused, hup, hlegal])).trans ((if_neg hmoves).trans ?_))
  extract_lets cxl s2 s3
  cases hcxl : cxl with
  | false => rfl
  | true => exact (if_pos rfl).trans (State.noteNoMem_of_enabled _ _ _ _ _ _ hmem)
theorem memEnabled_keeps (cxl : Bool) (rate flit : Nat) (h : memEnabled true rate flit = true) : memEnabled cxl rate flit = cxl := by
  cases cxl with
  | false => rfl
  | true => exact h
theorem State.retrained_port (s : State) (p rate width : Nat) (mem : Bool) (hp : p < s.ports.length) : (s.retrained p rate width mem).port p =
    { s.port p with rate := rate, width := width, cxlMem := memEnabled mem rate (s.port p).flit } := by
  unfold State.retrained
  rw [State.tev_port, State.raise_port, State.port_modPort_same _ _ _ (by simpa using hp), State.tcount_port]
theorem linkRetrained_loses_nothing (p rate width : Nat) (s : State) (hp : p < s.n) (hs : s.Sized) (hused : s.portUsed p = true)
    (hup : (s.port p).up = true) (hlegal : s.linkLegal p rate width (s.port p).flit = true)
    (hmem : memEnabled true rate (s.port p).flit = true) (hmain : s.dev.mainUp = true)
    (hmoves : ¬((s.port p).rate = rate ∧ (s.port p).width = width)) :
    ∃ u, exec (.linkRetrained p rate width) s = .next u ∧ (u.port p).up = true ∧ (u.port p).rate = rate ∧ (u.port p).width = width ∧
      (u.port p).cxlMem = (s.port p).cxlMem ∧ (u.port p).held = (s.port p).held ∧ (u.port p).ingress = (s.port p).ingress ∧
      u.tileReports p Ev.LINK_RETRAINED ∧ (∀ q, q ≠ p → u.port q = s.port q) ∧ u.tiles = s.tiles ∧ u.out = s.out ∧
      u.counter (p * 0x400 + Cn.LINK_RETRAINS) = (s.counter (p * 0x400 + Cn.LINK_RETRAINS) + 1) % 2 ^ 48 := by
  have hn := s.n_le_eight
  have hport := s.retrained_port p rate width (s.port p).cxlMem (hs.port_listed hp)
  refine ⟨_, exec_linkRetrained_moves p rate width s hused hup hlegal hmem hmoves, by rw [hport, hup], by rw [hport], by rw [hport],
    by rw [hport, memEnabled_keeps _ _ _ hmem], by rw [hport], by rw [hport], ?recorded, fun q hq => ?others, by simp [State.retrained],
    by simp [State.retrained], ?counted⟩
  case recorded => exact State.tev_reports _ _ _ _ _ _ (by simpa using hs.tile_recorder hp)
  case others =>
    unfold State.retrained
    rw [State.tev_port, State.raise_port, State.modPort_others _ _ _ q hq, State.tcount_port]
  case counted =>
    unfold State.retrained
    rw [State.tev_counter_ne _ _ _ _ _ _ _ (by simp only [Cn.LINK_RETRAINS, Cn.REC_OCCURRENCES]; omega), State.raise_counter, State.modPort_counter]
    exact State.counter_count_same _ _ _ hmain

/-! ### O42 -/

/-- Settles O42: training and a retrain each change their port; a replay is a count; the PBR ID is a field of the port. -/
theorem linksTrain : Obligations.LinksTrain := by
  unfold Obligations.LinksTrain
  refine ⟨fun p rate width flit s hp hs hcan hdown hlegal hflit hrate => ?train, linkRetrained_loses_nothing, fun p flits s hused hup hmain => ?replay,
    fun p id s hp hs hused hmode hid => ?assign⟩
  case train =>
    refine ⟨_, exec_linkTrained_mem p rate width flit s hcan hdown hlegal (memEnabled_of rate flit hflit hrate), ?_⟩
    unfold State.trained
    rw [State.port_modPort_same _ _ _ (hs.port_listed hp)]
    exact ⟨rfl, rfl, rfl, rfl, rfl, rfl, rfl, s.modPort_others p _, rfl, rfl, rfl, rfl⟩
  case replay =>
    exact ⟨_, congrArg Host.Outcome.next (if_pos (by simp [hused, hup])), by simp, by simp, by simp, by simp, State.counter_count_same _ _ _ hmain⟩
  case assign =>
    refine ⟨_, congrArg Host.Outcome.next (if_pos (by simp [hused, hmode, hid])), ?_⟩
    rw [State.port_modPort_same _ _ _ (hs.port_listed hp)]
    exact ⟨rfl, rfl, s.modPort_others p _, rfl, rfl⟩

end Sys2Proof.Machine
end

section
/-! Proofs of 13_host_ports.md: IDE stream keys and HDM decoders (R368, R374). -/
namespace Sys2Proof.Machine
open Sys2Proof

/-! ### IDE_KEY_REFRESH (R374) -/

theorem State.sessions_any {s : State} {session : Nat} (h : ∃ x ∈ s.mgmt.sessions, x.id = session) :
    s.mgmt.sessions.any (fun x => decide (x.id = session)) = true := by
  obtain ⟨x, hx, hid⟩ := h
  exact List.any_eq_true.2 ⟨x, hx, decide_eq_true hid⟩
theorem exec_ideKeyRefresh (p stream mode session : Nat) (key : Key256) (s : State) (hused : s.portUsed p = true) (hup : (s.port p).up = true)
    (hsession : ∃ x ∈ s.mgmt.sessions, x.id = session) : exec (.ideKeyRefresh p stream mode session key) s =
      .next (if stream = 0 ∧ (mode = 1 ∨ mode = 2) then
          s.modPort p (fun q => { q with ideMem := true, ideMode := if q.ideMem then q.ideMode else mode, ideMemKey := key })
        else if stream = 1 then s.modPort p (fun q => { q with ideIo := true, ideIoKey := key })
        else s) :=
  congrArg Host.Outcome.next (if_pos (by rw [hused, hup, State.sessions_any hsession]; rfl))

/-! ### HDM decoders (R368) -/

theorem State.modDecoder_same (s : State) (p l i : Nat) (f : Decoder → Decoder) (h : i < (s.ld p l).decoders.length) :
    ((s.modDecoder p l i f).ld p l).decoders.getD i Decoder.reset = f ((s.ld p l).decoders.getD i Decoder.reset) := by
  unfold State.modDecoder
  rw [State.ld_modLd_same]
  exact getD_modAt_same _ _ _ _ h
theorem State.modDecoder_others (s : State) (p l i : Nat) (f : Decoder → Decoder) : ∀ j, j ≠ i →
    ((s.modDecoder p l i f).ld p l).decoders.getD j Decoder.reset = (s.ld p l).decoders.getD j Decoder.reset := by
  intro j hj
  unfold State.modDecoder
  rw [State.ld_modLd_same]
  exact getD_modAt_ne _ _ _ _ _ (Ne.symm hj)
/-- The decoder that the host asks for with its settings (R368). -/
def State.askedDecoder (s : State) (p l i base size ways gran skip : Nat) (lock : Bool) : Decoder :=
  { committed := true, locked := lock, err := false, base := base, size := size, ways := ways, gran := gran, skip := skip,
    kxCfg := s.cell (ldKey Ob.HDM_KX_CFG p l + i) 0 }
theorem exec_hdmDecoderCommit_of_free (p l i base size ways gran skip : Nat) (lock : Bool) (s : State) (hld : s.ldExists p l = true)
    (hup : (s.port p).up = true) (hi : i < 4) (hfree : ((s.ld p l).decoders.getD i Decoder.reset).committed = false)
    (herase : s.svc.eraseState ≠ 1) : exec (.hdmDecoderCommit p l i base size ways gran skip lock) s =
      .next (if s.decoderFits p l i (s.askedDecoder p l i base size ways gran skip lock) = true then
          s.modDecoder p l i (fun _ => s.askedDecoder p l i base size ways gran skip lock)
        else s.modDecoder p l i (fun e => { e with err := true })) := by
  refine congrArg Host.Outcome.next ((if_pos (by rw [hld, hup, hfree, decide_eq_true hi]; rfl)).trans ?_)
  extract_lets d
  rw [decide_eq_true herase, Bool.and_true]
  rfl
theorem hdmDecoderCommit_reports (p l i base size ways gran skip : Nat) (lock : Bool) (s : State) (hld : s.ldExists p l = true)
    (hup : (s.port p).up = true) (hi : i < 4) (hfour : (s.ld p l).decoders.length = 4)
    (hfree : ((s.ld p l).decoders.getD i Decoder.reset).committed = false) (herase : s.svc.eraseState ≠ 1) :
    let d := s.askedDecoder p l i base size ways gran skip lock
    ∃ u, exec (.hdmDecoderCommit p l i base size ways gran skip lock) s = .next u ∧ u.tiles = s.tiles ∧ u.ports = s.ports ∧ u.out = s.out ∧
      (∀ j, j ≠ i → (u.ld p l).decoders.getD j Decoder.reset = (s.ld p l).decoders.getD j Decoder.reset) ∧
      (s.decoderFits p l i d = true → (u.ld p l).decoders.getD i Decoder.reset = d) ∧
      (s.decoderFits p l i d = false → (u.ld p l).decoders.getD i Decoder.reset =
        { (s.ld p l).decoders.getD i Decoder.reset with err := true }) := by
  intro d
  have hlen : i < (s.ld p l).decoders.length := hfour ▸ hi
  refine ⟨_, exec_hdmDecoderCommit_of_free p l i base size ways gran skip lock s hld hup hi hfree herase, ?_⟩
  cases hfits : s.decoderFits p l i d with
  | true =>
    rw [if_pos rfl]
    exact ⟨rfl, rfl, rfl, s.modDecoder_others p l i _, fun _ => s.modDecoder_same p l i _ hlen, fun h => absurd h (by decide)⟩
  | false =>
    rw [if_neg Bool.false_ne_true]
    exact ⟨rfl, rfl, rfl, s.modDecoder_others p l i _, fun h => absurd h (by decide), fun _ => s.modDecoder_same p l i _ hlen⟩
theorem hdmDecoderUncommit_frees (p l i : Nat) (s : State) (hld : s.ldExists p l = true) (hup : (s.port p).up = true) (hi : i < 4)
    (hfour : (s.ld p l).decoders.length = 4) (hcommitted : ((s.ld p l).decoders.getD i Decoder.reset).committed = true)
    (hopen : ((s.ld p l).decoders.getD i Decoder.reset).locked = false) :
    ∃ u, exec (.hdmDecoderUncommit p l i) s = .next u ∧ u.tiles = s.tiles ∧ u.ports = s.ports ∧ u.out = s.out ∧
      ((u.ld p l).decoders.getD i Decoder.reset).committed = false ∧
      (∀ j, j ≠ i → (u.ld p l).decoders.getD j Decoder.reset = (s.ld p l).decoders.getD j Decoder.reset) := by
  refine ⟨_, congrArg Host.Outcome.next (if_pos (by rw [hld, hup, hcommitted, hopen, decide_eq_true hi]; rfl)), rfl, rfl, rfl, ?_,
    s.modDecoder_others p l i _⟩
  rw [s.modDecoder_same p l i _ (hfour ▸ hi)]
theorem exec_hdmDecoderUncommit_of_locked (p l i : Nat) (s : State) (hlocked : ((s.ld p l).decoders.getD i Decoder.reset).locked = true) :
    exec (.hdmDecoderUncommit p l i) s = .next s :=
  congrArg Host.Outcome.next (if_neg (by rw [hlocked]; simp))

/-! ### O44 -/

/-- Settles O44: a stream's key is a change of its port; a commit, its failure and an uncommit are each a change of one decoder. -/
theorem streamsAndDecoders : Obligations.StreamsAndDecoders := by
  unfold Obligations.StreamsAndDecoders
  refine ⟨fun p mode session key s hp hs hused hup hsession hmode => ?mem, fun p mode session key s hp hs hused hup hsession => ?io,
    hdmDecoderCommit_reports, hdmDecoderUncommit_frees, fun p l i s _ _ _ hlocked => exec_hdmDecoderUncommit_of_locked p l i s hlocked⟩
  case mem =>
    refine ⟨_, (exec_ideKeyRefresh p 0 mode session key s hused hup hsession).trans (congrArg _ (if_pos ⟨rfl, hmode⟩)), ?_⟩
    rw [State.port_modPort_same _ _ _ (hs.port_listed hp)]
    exact ⟨rfl, rfl, rfl, rfl, rfl, s.modPort_others p _, rfl, rfl⟩
  case io =>
    refine ⟨_, (exec_ideKeyRefresh p 1 mode session key s hused hup hsession).trans
      (congrArg _ ((if_neg (fun h => absurd h.1 (by decide))).trans (if_pos rfl))), ?_⟩
    rw [State.port_modPort_same _ _ _ (hs.port_listed hp)]
    exact ⟨rfl, rfl, rfl, rfl, s.modPort_others p _, rfl, rfl⟩

end Sys2Proof.Machine
end

section
/-! Proofs of 13_host_ports.md: mailbox and FM API commands that only answer (R366, R369, R372, R377, R379 to R385, R432). -/
namespace Sys2Proof.Machine
open Sys2Proof

/-! ### Commands that only answer (R377, R378) -/

/-- A free mailbox whose command leaves the state as it is hands over what the command answers. -/
theorem State.MailboxFree.answers {s : State} {p l : Nat} (h : s.MailboxFree p l) {op : Nat} {n : Needs} {f : State → MbEnd} {rc : Nat} {out : List Nat}
    (hn : s.needsFault n = none) (hf : f s = { st := s, rc := rc, out := out }) :
    (Host.Outcome.next (s.mailbox p l op n f) : Host.Outcome State Fault Refusal) = .next (s.completed p l op rc out) :=
  congrArg Host.Outcome.next ((h.mailbox op n f hn).trans (by rw [hf]))
/-- A device state that answers reads above 0x2FFF gives a read no error (R432). -/
theorem State.needsFault_read {s : State} (h : s.notReady = false) : s.needsFault .read = none := by
  simp only [State.needsFault, h, Bool.false_eq_true, if_false]
/-- The requester that an FM API command runs as: over a mailbox, that mailbox (R366, R377). -/
def fmRequester (q : Requester) (p : Nat) : Requester := if q.transport = 3 then mailboxOf p fmLd else q
/-- An FM API command that is taken runs at once when the device state gives no error (R377, R432). -/
theorem State.FmFree.fm {s : State} {q : Requester} {p : Nat} (h : s.FmFree q p) (op : Nat) (n : Needs) (f : Requester → State → MbEnd)
    (hn : s.needsFault n = none) :
    s.fm q p op n f = (f (fmRequester q p) s).st.fmCompleted q p op (f (fmRequester q p) s).rc (f (fmRequester q p) s).out := by
  by_cases hq : q.transport = 3
  · have hmail : s.MailboxFree p fmLd := (if_pos hq).mp h
    unfold State.fm State.fmCompleted fmRequester
    simp only [if_pos hq]
    exact hmail.mailbox op n _ hn
  · obtain ⟨htransport, hused, hup, hidle⟩ := (if_neg hq).mp h
    have hreach : ¬((q.transport ≠ 1 ∧ q.transport ≠ 2) ∨ (!s.portUsed p) = true ∨ (!s.serverUp) = true) := by
      rw [hused, hup]
      simp only [Bool.not_true, Bool.false_eq_true, or_false]
      omega
    unfold State.fm State.fmCompleted fmRequester
    simp only [if_neg hq, if_neg hreach, hidle, Bool.false_eq_true, if_false, hn]
/-- An FM API command that leaves the state as it is hands over what it answers. -/
theorem State.FmFree.answers {s : State} {q : Requester} {p : Nat} (h : s.FmFree q p) {op : Nat} {n : Needs} {f : Requester → State → MbEnd}
    {rc : Nat} {out : List Nat} (hn : s.needsFault n = none) (hf : ∀ r, f r s = { st := s, rc := rc, out := out }) :
    (Host.Outcome.next (s.fm q p op n f) : Host.Outcome State Fault Refusal) = .next (s.fmCompleted q p op rc out) :=
  congrArg Host.Outcome.next ((h.fm op n f hn).trans (by rw [hf]))

/-! ### In every device state -/

section
variable {p l : Nat} {s : State} (h : s.MailboxFree p l)
include h

theorem State.MailboxFree.getEventRecords (log : Nat) : exec (.getEventRecords p l log) s =
    .next (if 4 < log then s.completed p l 0x0100 Rc.invalidInput [] else
      let x := (s.ld p l).logs.getD log EventLog.reset
      s.completed p l 0x0100 Rc.success ([bitNat (decide (x.overflow ≠ 0)), x.overflow, x.firstLost, x.lastLost, x.records.length] ++
        ((x.records.take 127).map LogRecord.out).flatten)) := by
  by_cases hlog : 4 < log
  · rw [if_pos hlog]
    exact h.answers rfl (if_pos hlog)
  · rw [if_neg hlog]
    exact h.answers rfl (if_neg hlog)
theorem State.MailboxFree.staebLimits : exec (.staebLimits p l) s =
    .next (if s.vendorHere p l then s.completed p l 0xC001 Rc.success (bytesLE 4 16384 ++ bytesLE 2 0x0100)
      else s.completed p l 0xC001 Rc.unsupported []) := by
  by_cases hv : s.vendorHere p l = true
  · rw [if_pos hv]
    exact h.answers rfl (if_pos hv)
  · rw [if_neg hv]
    exact h.answers rfl (if_neg hv)
/-- A mailbox that accepts no vendor opcodes does not support STAEB_EXCHANGE (R380). -/
theorem State.MailboxFree.staebExchange_unsupported (bytes : List Nat) (hv : s.vendorHere p l = false) :
    exec (.staebExchange p l bytes) s = .next (s.completed p l 0xC000 Rc.unsupported []) :=
  (congrArg Host.Outcome.next (if_neg (by simp [hv]))).trans (h.answers rfl (if_neg (ne_true_of_eq_false hv)))
theorem State.MailboxFree.unsupported (q : Requester) (op : Nat) (hop : mailboxOpcodes.contains op = false) :
    exec (.mailboxUnsupported false q p l op) s = .next (s.completed p l op Rc.unsupported []) :=
  (congrArg Host.Outcome.next ((if_neg Bool.false_ne_true).trans (if_neg (ne_true_of_eq_false hop)))).trans (h.answers rfl rfl)

/-! ### In device states that answer reads above 0x2FFF -/

theorem State.MailboxFree.getLsa (hr : s.needsFault .read = none) (offset len : Nat) : exec (.getLsa p l offset len) s =
    .next (if 8192 < offset + len then s.completed p l 0x4102 Rc.invalidInput []
      else s.completed p l 0x4102 Rc.success (((s.lsaOf p l).drop offset).take len)) := by
  by_cases hlen : 8192 < offset + len
  · rw [if_pos hlen]
    exact h.answers hr (if_pos hlen)
  · rw [if_neg hlen]
    exact h.answers hr (if_neg hlen)
theorem State.MailboxFree.getPoisonList (hr : s.needsFault .read = none) (dpa len : Nat) (hin : dpa + len ≤ (s.alloc p l).2) (haligned : dpa % 64 = 0) :
    let found := s.poisonIn ((s.alloc p l).1 + dpa) ((s.alloc p l).1 + dpa + len)
    exec (.getPoisonList p l dpa len) s = .next (s.completed p l 0x4300 Rc.success
      ([bitNat s.poisonOverflow.isSome, s.poisonOverflow.getD 0, found.length] ++ poisonOut (s.alloc p l).1 (found.take 1022))) :=
  h.answers hr (if_neg (by omega))
theorem State.MailboxFree.getScanMediaCapabilities (hr : s.needsFault .read = none) (dpa len : Nat) (hrange : s.scanRange p l dpa len = true) :
    exec (.getScanMediaCapabilities p l dpa len) s = .next (s.completed p l 0x4303 Rc.success
      [ceilDiv len (s.cell Ob.SCRUB_RATE_MBS 1000 * 1000 * max 1 (s.tilesIn ((s.alloc p l).1 + dpa) len))]) :=
  h.answers hr (if_neg (by simp [hrange]))
theorem State.MailboxFree.getScanMediaResults (hr : s.needsFault .read = none) (hoff : s.svc.scrubOn = false) (hsource : s.svc.scrubSource = 1)
    (hby : s.svc.scrubBy = 16 * p + l) :
    let found := s.poisonIn s.svc.scrubDpa (s.svc.scrubDpa + s.svc.scrubLen)
    exec (.getScanMediaResults p l) s = .next (s.completed p l 0x4305 Rc.success
      ([bitNat (decide (s.svc.scrubCounts.getD 10 0 = 3)), found.length] ++ poisonOut (s.alloc p l).1 (found.take 1022))) :=
  h.answers hr ((if_neg (by simp [hoff])).trans (if_neg (by simp [hsource, hby])))

end

/-! ### O45 -/

/-- Settles O45: each command ends with an answer on the state as it stands; the few with a condition, by the branch that it takes. -/
theorem mailboxAnswers : Obligations.MailboxAnswers := by
  unfold Obligations.MailboxAnswers
  refine ⟨fun p l s h => ?always, fun p l s h hready => ?reads, fun q p l op s h hop => ?fmOther, fun q p s h hready => ?fmReads⟩
  case always =>
    exact ⟨h.answers rfl rfl, h.answers rfl rfl, h.getEventRecords, h.answers rfl rfl, h.answers rfl rfl, h.answers rfl rfl, h.answers rfl rfl,
      h.answers rfl rfl, h.answers rfl rfl, h.answers rfl rfl, h.staebLimits, h.staebExchange_unsupported, h.unsupported⟩
  case reads =>
    have hr := State.needsFault_read hready
    exact ⟨h.answers hr rfl, h.answers hr rfl, h.answers hr rfl, h.answers hr rfl, h.getLsa hr, h.answers hr rfl, h.getPoisonList hr,
      h.getScanMediaCapabilities hr, h.getScanMediaResults hr, h.answers hr rfl, h.answers hr rfl⟩
  case fmOther =>
    exact (congrArg Host.Outcome.next ((if_pos rfl).trans (if_neg (ne_true_of_eq_false hop)))).trans (h.answers rfl (fun _ => rfl))
  case fmReads =>
    have hr := State.needsFault_read hready
    exact ⟨h.answers hr (fun _ => rfl), h.answers hr (fun _ => rfl), h.answers hr (fun _ => rfl),
      fun l hl => ⟨h.answers hr (fun _ => if_pos hl), h.answers hr (fun _ => if_pos hl)⟩⟩

end Sys2Proof.Machine
end

section
/-! Proofs of 13_host_ports.md: mailbox commands that change logs, policies, firmware slots, time and shutdown state (R379, R381, R383, R384, R488,
R489, R491). -/
namespace Sys2Proof.Machine
open Sys2Proof

/-! ### How a command that changes the state ends (R377, R378) -/

@[simp] theorem State.completed_part (s : State) (p l op rc : Nat) (out : List Nat) : (s.completed p l op rc out).part = s.part := State.tcount_part ..
@[simp] theorem State.completed_mgmt (s : State) (p l op rc : Nat) (out : List Nat) : (s.completed p l op rc out).mgmt = s.mgmt := State.tcount_mgmt ..
@[simp] theorem State.completed_fw (s : State) (p l op rc : Nat) (out : List Nat) : (s.completed p l op rc out).fw = s.fw := State.tcount_fw ..
@[simp] theorem State.completed_recs (s : State) (p l op rc : Nat) (out : List Nat) : (s.completed p l op rc out).recs = s.recs := State.tcount_recs ..
@[simp] theorem State.completed_ports (s : State) (p l op rc : Nat) (out : List Nat) : (s.completed p l op rc out).ports = s.ports :=
  State.tcount_ports ..
@[simp] theorem State.completed_ld (s : State) (p l op rc : Nat) (out : List Nat) (u v : Nat) : (s.completed p l op rc out).ld u v = s.ld u v :=
  State.tcount_ld ..
@[simp] theorem State.completed_cell (s : State) (p l op rc : Nat) (out : List Nat) (k d : Nat) : (s.completed p l op rc out).cell k d = s.cell k d :=
  State.tcount_cell ..
/-- A free mailbox whose command ends in `d` hands `d` over. -/
theorem State.MailboxFree.ends {s : State} {p l : Nat} (h : s.MailboxFree p l) {op : Nat} {n : Needs} {f : State → MbEnd} {d : MbEnd}
    (hn : s.needsFault n = none) (hf : f s = d) :
    (Host.Outcome.next (s.mailbox p l op n f) : Host.Outcome State Fault Refusal) = .next (d.st.completed p l op d.rc d.out) :=
  congrArg Host.Outcome.next ((h.mailbox op n f hn).trans (by rw [hf]))

/-! ### Event logs (R381) -/

/-- An event log with the records left that a Clear Event Records leaves. -/
def EventLog.leaving (x : EventLog) (left : List LogRecord) : EventLog :=
  if left = [] then { x with records := [], overflow := 0, firstLost := 0, lastLost := 0 } else { x with records := left }
theorem EventLog.leaving_records (x : EventLog) (left : List LogRecord) : (x.leaving left).records = left := by
  unfold EventLog.leaving
  split
  next h => exact h.symm
  next => rfl
/-- Clear Event Records takes every record of a log, or the oldest ones when their handles are given in order. -/
theorem State.MailboxFree.clearEventRecords {s : State} {p l : Nat} (h : s.MailboxFree p l) (log : Nat) (all : Bool) (handles : List Nat)
    (hlog : log ≤ 4) (hold : all = true ∨
      ((((s.ld p l).logs.getD log EventLog.reset).records).take handles.length).map LogRecord.handle = handles) :
    let left := if all then [] else (((s.ld p l).logs.getD log EventLog.reset).records).drop handles.length
    exec (.clearEventRecords p l log all handles) s =
      .next ((s.modLd p l (fun d => { d with logs := modAt d.logs log (fun y => y.leaving left) })).completed p l 0x0101 Rc.success []) := by
  have hgood : ¬(all = false ∧ (((s.ld p l).logs.getD log EventLog.reset).records.take handles.length).map LogRecord.handle ≠ handles) := by
    rintro ⟨hall, hne⟩
    exact hold.elim (fun h => Bool.noConfusion (hall.symm.trans h)) hne
  intro left
  exact h.ends (d := (s.modLd p l (fun d => { d with logs := modAt d.logs log (fun y => y.leaving left) })).mbDone []) rfl
    ((if_neg (show ¬4 < log by omega)).trans (if_neg hgood))

/-! ### Firmware (R488, R489, R491) -/

/-- The slot that a first part of an image leaves (R488). -/
def FwPart.slotAfter (x : FwPart) (good : Bool) : FwSlot :=
  if x.last then { st := if good then 1 else 2, svn := x.svn, compat := x.compat, version := x.version, received := x.bytes }
  else { st := 3, svn := 0, compat := false, version := 0, received := x.bytes }
theorem FwPart.slotAfter_st (x : FwPart) (good : Bool) : (x.slotAfter good).st = if x.last then (if good then 1 else 2) else 3 := by
  unfold FwPart.slotAfter
  split <;> rfl
theorem FwPart.slotAfter_received (x : FwPart) (good : Bool) : (x.slotAfter good).received = x.bytes := by
  unfold FwPart.slotAfter
  split <;> rfl
/-- The first part of an image for the slot that does not run is written (R488). -/
theorem State.MailboxFree.transferFw {s : State} {p l : Nat} (h : s.MailboxFree p l) (x : FwPart) (hslot : x.slot = 1 - s.fw.running)
    (hrun : s.fw.running ≤ 1) (hupdate : s.mgmt.update = 0) (hfirst : x.first = true) (hoff : x.offset = 0) :
    let good := x.signed && decide (s.fw.svnMin ≤ x.svn)
    exec (.transferFw p l x) s =
      .next (({ s with fw := { s.fw with slots := modAt s.fw.slots x.slot (fun _ => x.slotAfter good) } } : State).completed p l 0x0201
        (if x.last && !good then Rc.fwVerifyFailed else Rc.success) []) := by
  intro good
  refine (h.ends rfl ((if_neg (by omega)).trans ((if_neg (by omega)).trans ((if_pos hfirst).trans (if_pos hoff))))).trans ?_
  unfold State.fwPart
  rw [hfirst]
  cases hbad : x.last && !good with
  | false =>
    rw [if_neg (by rw [hbad]; exact Bool.false_ne_true)]
    rfl
  | true =>
    rw [if_pos hbad]
    rfl

/-! ### Time (R384) -/

/-- The offset that Set Timestamp keeps makes up for the timebase. -/
theorem offset_add_now (time now : Nat) : ((time % 2 ^ 64 + 2 ^ 64 - now % 2 ^ 64) % 2 ^ 64 + now) % 2 ^ 64 = time % 2 ^ 64 := by
  omega
theorem State.setCell_coreTile_ne (s : State) (k v : Nat) (h : k ≠ Ob.ACTIVE_CORE_TILE) : (s.setCell k v).coreTile = s.coreTile := by
  simp only [State.coreTile, State.setCell_mgmt, State.cell_setCell_ne _ _ _ _ _ h]
theorem State.completed_pkgNow (s : State) (p l op rc : Nat) (out : List Nat) : (s.completed p l op rc out).pkgNow = s.pkgNow := by
  simp only [State.pkgNow, State.now, State.coreTile, State.completed_tile, State.completed_mgmt, State.completed_cell]

/-! ### Label storage (R379, R468) -/

theorem State.writeLsa_keeps {β : Type} (g : State → β) (s : State) (t p l offset : Nat) (data : List Nat)
    (hc : ∀ s t k, g (State.pageCommit s t k) = g s) (hm : ∀ s t f, g (State.modPs s t f) = g s) : g (s.writeLsa t p l offset data) = g s := by
  unfold State.writeLsa
  extract_lets old new base pages
  rw [hm]
  exact State.each_keeps g _ _ _ (fun _ _ => hc ..)
theorem State.pageCommit_tile_keeps {β : Type} (g : Tile → β) (s : State) (t k v : Nat) (h : ∀ (x : Tile) ps, g { x with ps := ps } = g x) :
    g ((s.pageCommit t k).tile v) = g (s.tile v) := by
  unfold State.pageCommit
  rw [State.count_tile]
  exact State.modTile_keeps g s t v _ (fun _ => h ..)
/-- A label write leaves of every tile what its parameter store does not hold. -/
theorem State.writeLsa_tile_keeps {β : Type} (g : Tile → β) (s : State) (t p l offset : Nat) (data : List Nat) (v : Nat)
    (h : ∀ (x : Tile) ps, g { x with ps := ps } = g x) : g ((s.writeLsa t p l offset data).tile v) = g (s.tile v) :=
  s.writeLsa_keeps (fun s => g (s.tile v)) t p l offset data (fun s t k => s.pageCommit_tile_keeps g t k v h)
    (fun s t _ => State.modTile_keeps g s t v _ (fun _ => h ..))
theorem State.writeLsa_tile_ne (s : State) (t p l offset : Nat) (data : List Nat) (v : Nat) (h : v ≠ t) :
    (s.writeLsa t p l offset data).tile v = s.tile v := by
  unfold State.writeLsa
  extract_lets old new base pages
  rw [State.modPs_eq, State.tile_modTile_ne _ _ _ _ (Ne.symm h)]
  refine State.each_keeps (fun s => s.tile v) _ _ _ (fun u k => ?_)
  simp only [State.pageCommit, State.count_tile]
  exact State.tile_modTile_ne _ _ _ _ (Ne.symm h)
/-- The label storage area as a write makes it. -/
theorem State.writeLsa_lsa (s : State) (t p l offset : Nat) (data : List Nat) (ht : t < s.tiles.length) (d : List Nat) :
    ((s.writeLsa t p l offset data).tile t).ps.lsa.getD (16 * p + l) d =
      let old := (s.tile t).ps.lsa.getD (16 * p + l) (List.replicate 8192 0)
      old.take offset ++ data ++ old.drop (offset + data.length) := by
  unfold State.writeLsa
  extract_lets old new base pages
  rw [State.modPs_eq, State.tile_modTile_same, Sparse.getD_insert_same]
  rw [State.each_keeps (fun s => s.tiles.length) _ _ _ (fun u k => by simp [State.pageCommit])]
  exact ht
theorem State.lsaOf_of_active (s : State) (p l : Nat) (h : s.tileActive (p + l / 8) = true) :
    s.lsaOf p l = (s.tile (p + l / 8)).ps.lsa.getD (16 * p + l) (List.replicate 8192 0) := by
  simp only [State.lsaOf, h, if_true]
/-- A label write into the ACTIVE ones of the port's tile and its mirror copy's. -/
def State.lsaWritten (s : State) (p l offset : Nat) (data : List Nat) : State :=
  s.each ((s.lsaTiles p l).filter s.tileActive) (fun s' t => s'.writeLsa t p l offset data)
theorem State.lsaWritten_keeps {β : Type} (g : State → β) (s : State) (p l offset : Nat) (data : List Nat)
    (hc : ∀ s t k, g (State.pageCommit s t k) = g s) (hm : ∀ s t f, g (State.modPs s t f) = g s) : g (s.lsaWritten p l offset data) = g s :=
  State.each_keeps g _ _ _ (fun u t => u.writeLsa_keeps g t p l offset data hc hm)
theorem State.lsaWritten_tile_keeps {β : Type} (g : Tile → β) (s : State) (p l offset : Nat) (data : List Nat) (v : Nat)
    (h : ∀ (x : Tile) ps, g { x with ps := ps } = g x) : g ((s.lsaWritten p l offset data).tile v) = g (s.tile v) :=
  State.each_keeps (fun s => g (s.tile v)) _ _ _ (fun u t => u.writeLsa_tile_keeps g t p l offset data v h)
/-- The port's tile is written first; its mirror copy's is another one. -/
theorem State.lsaWritten_tile (s : State) (p l offset : Nat) (data : List Nat) (ht : p + l / 8 < s.n) (hact : s.tileActive (p + l / 8) = true) :
    (s.lsaWritten p l offset data).tile (p + l / 8) = (s.writeLsa (p + l / 8) p l offset data).tile (p + l / 8) := by
  have hother : ∀ t ∈ [(p + l / 8 + 1) % s.n].filter s.tileActive, p + l / 8 ≠ t := by
    intro t hmem
    have htwo := s.two_le_n
    rw [List.mem_singleton.1 (List.mem_of_mem_filter hmem)]
    by_cases hlast : p + l / 8 + 1 = s.n
    · rw [hlast, Nat.mod_self]
      omega
    · rw [Nat.mod_eq_of_lt (by omega)]
      omega
  unfold State.lsaWritten State.lsaTiles
  rw [List.filter_cons, if_pos hact, State.each_cons]
  exact State.each_induct (fun u => u.tile (p + l / 8) = (s.writeLsa (p + l / 8) p l offset data).tile (p + l / 8)) _ _ _ rfl
    (fun u t hmem hu => (u.writeLsa_tile_ne t p l offset data _ (hother t hmem)).trans hu)
theorem setLsa_writes (p l offset : Nat) (data : List Nat) (s : State) (h : s.MailboxFree p l) (hin : s.inService = true)
    (hlen : offset + data.length ≤ 8192) (ht : p + l / 8 < s.n) (hs : s.Sized) (hact : s.tileActive (p + l / 8) = true) :
    ∃ u, exec (.setLsa p l offset data) s = .next u ∧ u.out = s.out ++ [Response.mailbox p l 0x4103 Rc.success []] ∧
      u.lsaOf p l = (s.lsaOf p l).take offset ++ data.map (fun b => b % 256) ++ (s.lsaOf p l).drop (offset + data.length) ∧
      u.ports = s.ports ∧ u.obj = s.obj ∧ ∀ v, (u.tile v).med = (s.tile v).med ∧ (u.tile v).res = (s.tile v).res := by
  let w := s.lsaWritten p l offset (data.map (fun b => b % 256))
  have hexec : exec (.setLsa p l offset data) s = .next (w.completed p l 0x4103 Rc.success []) :=
    h.ends (d := w.mbDone []) (State.needsFault_write_of_inService hin) (if_neg (by omega))
  refine ⟨_, hexec, ?out, ?lsa, ?ports, ?obj, fun v => ⟨?med, ?res⟩⟩
  case out => rw [State.completed_out, s.lsaWritten_keeps State.out _ _ _ _ (by simp) (by simp)]
  case lsa =>
    have hst : (w.tile (p + l / 8)).fence = (s.tile (p + l / 8)).fence := s.lsaWritten_tile_keeps Tile.fence _ _ _ _ _ (fun _ _ => rfl)
    have hact' : (w.completed p l 0x4103 Rc.success []).tileActive (p + l / 8) = true := by
      simp only [State.tileActive, State.completed_tile, hst]
      exact hact
    rw [State.lsaOf_of_active _ _ _ hact', State.completed_tile, s.lsaWritten_tile _ _ _ _ ht hact, State.writeLsa_lsa _ _ _ _ _ _ (hs.tile_listed ht),
      s.lsaOf_of_active _ _ hact, List.length_map]
  case ports => rw [State.completed_ports, s.lsaWritten_keeps State.ports _ _ _ _ (by simp) (by simp)]
  case obj => rw [State.completed_obj, s.lsaWritten_keeps State.obj _ _ _ _ (by simp) (by simp)]
  case med =>
    rw [State.completed_tile]
    exact s.lsaWritten_tile_keeps Tile.med _ _ _ _ _ (fun _ _ => rfl)
  case res =>
    rw [State.completed_tile]
    exact s.lsaWritten_tile_keeps Tile.res _ _ _ _ _ (fun _ _ => rfl)

/-! ### Shutdown state (R384) -/

/-- A list of changes of tiles one of which is of tile `t` leaves `t` with what each change of it makes of it. -/
theorem State.tile_each_modTile {P : Tile → Prop} (s : State) (l : List Nat) (f : Tile → Tile) (t : Nat) (hmem : t ∈ l) (ht : t < s.tiles.length)
    (hf : ∀ x, P (f x)) : P ((s.each l (fun s' u => s'.modTile u f)).tile t) := by
  induction l generalizing s with
  | nil => cases hmem
  | cons a l ih =>
    rw [State.each_cons]
    by_cases hlater : t ∈ l
    · exact ih _ hlater (by rw [State.modTile_tiles_length]; exact ht)
    · obtain rfl : t = a := (List.mem_cons.1 hmem).resolve_right hlater
      refine State.each_induct (fun u => P (u.tile t)) _ _ _ ?_ (fun u x hx hu => ?_)
      · rw [State.tile_modTile_same _ _ _ ht]
        exact hf _
      · rw [State.tile_modTile_ne _ _ _ _ (ne_of_mem_of_not_mem hx hlater)]
        exact hu
theorem setShutdownState_keeps (p l v : Nat) (s : State) (h : s.MailboxFree p l) (hin : s.inService = true) (hv : v ≤ 1) :
    ∃ u, exec (.setShutdownState p l v) s = .next u ∧ u.cell Ob.SHUTDOWN_STATE 0 = v ∧
      (∀ t, t < s.n → t < s.tiles.length → (u.tile t).ps.config.getD Ob.SHUTDOWN_STATE 0 = v) ∧
      u.out = s.out ++ [Response.mailbox p l 0x4204 Rc.success []] ∧ u.ports = s.ports := by
  let keep (x : Tile) : Tile := { x with ps := { x.ps with config := x.ps.config.insert Ob.SHUTDOWN_STATE v } }
  let w := (s.setCell Ob.SHUTDOWN_STATE v).each s.tileNumbers (fun s' t => s'.modTile t keep)
  have hexec : exec (.setShutdownState p l v) s = .next (w.completed p l 0x4204 Rc.success []) :=
    h.ends (d := w.mbDone []) (State.needsFault_write_of_inService hin) (if_neg (by omega))
  have hkeeps {β : Type} (g : State → β) (hg : ∀ s t f, g (State.modTile s t f) = g s) : g w = g (s.setCell Ob.SHUTDOWN_STATE v) :=
    State.each_keeps g _ _ _ (fun _ _ => hg ..)
  refine ⟨_, hexec, ?_, fun t ht hlen => ?_, ?_, ?_⟩
  · rw [State.completed_cell, hkeeps (fun s => s.cell Ob.SHUTDOWN_STATE 0) (fun _ _ _ => rfl), State.cell_setCell_same]
  · rw [State.completed_tile]
    exact State.tile_each_modTile (P := fun x => x.ps.config.getD Ob.SHUTDOWN_STATE 0 = v) _ _ keep t ((s.mem_tileNumbers t).2 ht) hlen
      (fun _ => Sparse.getD_insert_same ..)
  · rw [State.completed_out, hkeeps State.out (fun _ _ _ => rfl), State.setCell_out]
  · rw [State.completed_ports, hkeeps State.ports (fun _ _ _ => rfl), State.setCell_ports]

/-! ### O46 -/

/-- Settles O46: each command is the change that its own rule names, before the completion goes out. -/
theorem mailboxChanges : Obligations.MailboxChanges := by
  unfold Obligations.MailboxChanges
  refine fun p l s h => ⟨fun log all handles hlog hlen => ?clear, fun policy hlen => ?policy, fun x hslot htwo hrun hupdate hfirst hoff => ?transfer,
    fun hbg hlive => ?live, fun hother => ?atReset, fun life o w ve pe hlo hhi => ?alerts, fun hin time => ?time,
    fun hin offset data hlen ht hs hact => setLsa_writes p l offset data s h hin hlen ht hs hact,
    fun hin v hv => setShutdownState_keeps p l v s h hin hv⟩
  case clear =>
    intro old hold
    refine ⟨_, h.clearEventRecords log all handles hlog hold, by rw [State.completed_out, State.modLd_out], ?_, fun k hk => ?_, by simp, by simp⟩
    · rw [State.completed_ld, State.ld_modLd_same]
      exact (congrArg EventLog.records (getD_modAt_same _ _ _ _ hlen)).trans (EventLog.leaving_records ..)
    · rw [State.completed_ld, State.ld_modLd_same]
      exact getD_modAt_ne _ _ _ _ _ (Ne.symm hk)
  case policy =>
    refine ⟨_, h.ends rfl (if_neg (not_not_intro hlen)), ?_, State.completed_out .., by simp [State.mbDone], by simp [State.mbDone]⟩
    rw [State.completed_ld]
    exact congrArg LD.intPolicy (State.ld_modLd_same ..)
  case transfer =>
    have hin : x.slot < s.fw.slots.length := by omega
    intro good
    refine ⟨_, x.slotAfter good, h.transferFw x hslot hrun hupdate hfirst hoff, ?_, by rw [State.completed_fw], by rw [State.completed_fw], ?_,
      x.slotAfter_st good, x.slotAfter_received good, State.completed_completes .., State.completed_tiles ..⟩
    · rw [State.completed_fw, getElem?_modAt_same, List.getElem?_eq_getElem hin]
      rfl
    · rw [State.completed_fw]
      exact getElem?_modAt_ne _ _ _ _ (by omega)
  case live =>
    refine ⟨_, h.ends rfl ((if_neg (not_not_intro rfl)).trans ((if_pos rfl).trans ((if_neg (ne_true_of_eq_false hbg)).trans (if_pos hlive)))), ?_⟩
    rw [State.completed_mgmt, State.completed_fw, State.completed_svc, State.completed_out, State.completed_tiles]
    exact ⟨rfl, rfl, rfl, rfl, rfl, rfl⟩
  case atReset =>
    refine ⟨_, h.ends rfl ((if_neg (not_not_intro rfl)).trans ((if_neg Bool.false_ne_true).trans (if_pos hother))), ?_⟩
    rw [State.completed_fw, State.completed_out, State.completed_tiles]
    simp [State.mbDone, State.activateAtReset]
  case alerts =>
    refine ⟨_, h.ends rfl (if_neg (by omega)), ?_, State.completed_out .., State.completed_tiles ..⟩
    rw [State.completed_ld]
    exact congrArg LD.alertCfg (State.ld_modLd_same ..)
  case time =>
    refine ⟨_, h.ends (State.needsFault_write_of_inService hin) rfl, ?_, State.completed_out .., State.completed_tiles ..⟩
    rw [State.completed_pkgNow, State.completed_cell]
    simp only [State.mbDone, State.cell_setCell_same, State.pkgNow, State.setCell_now, State.setCell_coreTile_ne _ Ob.HOST_TIME_OFFSET _ (by decide)]
    exact offset_add_now time _

end Sys2Proof.Machine
end

section
/-! Proofs of 14_supplies_and_holdup.md: the power sequence, its failures and retries, the hold-up measurement (R396 to R400, R406, R407, R475). -/
namespace Sys2Proof.Machine
open Sys2Proof

/-! ### Changes of every tile -/

/-- A part of a tile that a change of every tile keeps. -/
theorem State.tile_map_keeps {β : Type} (g : Tile → β) (s u : State) (f : Tile → Tile) (hu : u.tiles = s.tiles.map f) (hf : ∀ x, g (f x) = g x)
    (t : Nat) : g (u.tile t) = g (s.tile t) := by
  simp only [State.tile, hu, List.getD, List.getElem?_map]
  cases s.tiles[t]? with
  | none => rfl
  | some x => exact hf x
theorem State.tile_map_listed (s u : State) (f : Tile → Tile) (hu : u.tiles = s.tiles.map f) (t : Nat) (ht : t < s.tiles.length) :
    u.tile t = f (s.tile t) := by
  simp [State.tile, hu, List.getD, List.getElem?_map, List.getElem?_eq_getElem ht]

/-! ### The rails go off (R399) -/

@[simp] theorem State.seqOff_part (s : State) : s.seqOff.part = s.part := rfl
@[simp] theorem State.seqOff_recs (s : State) : s.seqOff.recs = s.recs := rfl
@[simp] theorem State.seqOff_cell (s : State) (k d : Nat) : s.seqOff.cell k d = s.cell k d := rfl
@[simp] theorem State.seqOff_dev (s : State) : s.seqOff.dev = { s.dev with mainUp := false } := rfl
theorem State.seqOff_railsUp (s : State) (t : Nat) (ht : t < s.tiles.length) : (s.seqOff.tile t).sup.railsUp = false := by
  rw [State.tile_map_listed s s.seqOff _ rfl t ht]
theorem State.seqOff_med (s : State) (t : Nat) : (s.seqOff.tile t).med = (s.tile t).med :=
  State.tile_map_keeps Tile.med s s.seqOff _ rfl (fun _ => rfl) t

/-! ### A sequence failure (R399) -/

/-- The state that has noted where the sequence failed. -/
def State.seqFailNoted (s : State) (k point : Nat) : State := (s.setCell Ob.SEQ_FAIL_STEP k).setCell Ob.SEQ_FAIL_POINT point
theorem State.seqFailNoted_step (s : State) (k point : Nat) : (s.seqFailNoted k point).cell Ob.SEQ_FAIL_STEP 0 = k :=
  (State.cell_setCell_ne _ _ _ _ _ (by decide)).trans (State.cell_setCell_same ..)
theorem State.seqFailNoted_point (s : State) (k point : Nat) : (s.seqFailNoted k point).cell Ob.SEQ_FAIL_POINT 0 = point :=
  State.cell_setCell_same ..
/-- What a sequence failure leaves: the step and the point are noted, the rails are off, the medium stands. -/
structure State.FailsAt (s u : State) (k point : Nat) : Prop where
  step : u.cell Ob.SEQ_FAIL_STEP 0 = k
  point : u.cell Ob.SEQ_FAIL_POINT 0 = point
  main : u.dev.mainUp = false
  rails : ∀ t, t < s.tiles.length → (u.tile t).sup.railsUp = false
  med : ∀ t, (u.tile t).med = (s.tile t).med
/-- A failure with retries left (R399). -/
def State.seqRetrying (s : State) (k point : Nat) : State :=
  let u := ((s.seqFailNoted k point).pev Ev.SEQ_RETRY k [(1, point), (1, s.sup.attempts)]).seqOff
  { u with sup := { u.sup with retryAt := some (s.pkgNow + 100000000) } }
/-- A failure with no retry left (R399). -/
def State.seqHalted (s : State) (k point : Nat) : State :=
  let u := ((s.seqFailNoted k point).seqOff.goto .halted 4).pev Ev.SEQ_HALTED k [(1, point)]
  { u with sup := { u.sup with step := none, retryAt := none, seqOut := true } }
theorem State.seqFail_eq (s : State) (k point : Nat) :
    s.seqFail k point = if s.sup.attempts ≤ s.cell Ob.SEQ_RETRIES 3 then s.seqRetrying k point else s.seqHalted k point := rfl
theorem State.failsAt_seqRetrying (s : State) (k point : Nat) : s.FailsAt (s.seqRetrying k point) k point where
  step := (State.pev_cell ..).trans (s.seqFailNoted_step k point)
  point := (State.pev_cell ..).trans (s.seqFailNoted_point k point)
  main := rfl
  rails t ht := State.seqOff_railsUp ((s.seqFailNoted k point).pev Ev.SEQ_RETRY k [(1, point), (1, s.sup.attempts)]) t
    (by rw [State.pev_tiles]; exact ht)
  med t := (State.seqOff_med ((s.seqFailNoted k point).pev Ev.SEQ_RETRY k [(1, point), (1, s.sup.attempts)]) t).trans
    (congrArg Tile.med (State.pev_tile ..))
theorem State.seqHalted_cell (s : State) (k point key : Nat) (hs : Ob.ALERT_STATUS ≠ key) (ho : Ob.ALERT_OCC + 0 ≠ key) :
    (s.seqHalted k point).cell key 0 = (s.seqFailNoted k point).cell key 0 :=
  (State.pev_cell ((s.seqFailNoted k point).seqOff.goto .halted 4) Ev.SEQ_HALTED k [(1, point)] key 0).trans
    (State.goto_cell_ne _ _ _ _ _ hs ho)
theorem State.seqHalted_tile (s : State) (k point t : Nat) : (s.seqHalted k point).tile t = (s.seqFailNoted k point).seqOff.tile t :=
  (State.pev_tile ((s.seqFailNoted k point).seqOff.goto .halted 4) Ev.SEQ_HALTED k [(1, point)] t).trans (State.goto_tile ..)
theorem State.seqHalted_dev (s : State) (k point : Nat) : (s.seqHalted k point).dev = { s.dev with st := .halted, mainUp := false } :=
  (State.pev_dev ((s.seqFailNoted k point).seqOff.goto .halted 4) Ev.SEQ_HALTED k [(1, point)]).trans (State.goto_dev _ _ _)
theorem State.failsAt_seqHalted (s : State) (k point : Nat) : s.FailsAt (s.seqHalted k point) k point where
  step := (s.seqHalted_cell k point _ (by decide) (by decide)).trans (s.seqFailNoted_step k point)
  point := (s.seqHalted_cell k point _ (by decide) (by decide)).trans (s.seqFailNoted_point k point)
  main := by rw [s.seqHalted_dev]
  rails t ht := by
    rw [s.seqHalted_tile]
    exact State.seqOff_railsUp _ t ht
  med t := by
    rw [s.seqHalted_tile]
    exact State.seqOff_med _ t
theorem State.failsAt_seqFail (s : State) (k point : Nat) : s.FailsAt (s.seqFail k point) k point := by
  rw [s.seqFail_eq]
  split
  · exact s.failsAt_seqRetrying k point
  · exact s.failsAt_seqHalted k point
theorem State.seqRetrying_reports (s : State) (k point : Nat) (h : 8 < s.recs.length) : (s.seqRetrying k point).pkgReports Ev.SEQ_RETRY :=
  State.reports_of_recs ((s.seqFailNoted k point).pev Ev.SEQ_RETRY k [(1, point), (1, s.sup.attempts)]) _ _ _ rfl (State.pev_reports _ _ _ _ h)
theorem State.goto_recs_length (s : State) (new : DevState) (row : Nat) : (s.goto new row).recs.length = s.recs.length := by
  unfold State.goto State.alert State.raise
  cases new <;> (simp only []; repeat' split) <;> simp [State.setCell]
theorem State.seqHalted_reports (s : State) (k point : Nat) (h : 8 < s.recs.length) : (s.seqHalted k point).pkgReports Ev.SEQ_HALTED :=
  State.reports_of_recs (((s.seqFailNoted k point).seqOff.goto .halted 4).pev Ev.SEQ_HALTED k [(1, point)]) _ _ _ rfl
    (State.pev_reports _ _ _ _ (by rw [State.goto_recs_length]; exact h))
theorem sequenceFailure_fails (k point : Nat) (s : State) (hs : s.Sized) (hst : s.dev.st = .seq) (hstep : s.sup.step = some k)
    (hretry : s.sup.retryAt = none) :
    ∃ u, exec (.sequenceFailure point) s = .next u ∧ u.cell Ob.SEQ_FAIL_STEP 0 = k ∧ u.cell Ob.SEQ_FAIL_POINT 0 = point ∧ u.dev.mainUp = false ∧
      (∀ t, t < s.n → (u.tile t).sup.railsUp = false) ∧ (∀ t, (u.tile t).med = (s.tile t).med) ∧
      (if s.sup.attempts ≤ s.cell Ob.SEQ_RETRIES 3 then u.dev.st = .seq ∧ u.sup.retryAt = some (s.pkgNow + 100000000) ∧ u.pkgReports Ev.SEQ_RETRY
        else u.dev.st = .halted ∧ u.sup.step = none ∧ u.sup.seqOut = true ∧ u.pkgReports Ev.SEQ_HALTED) := by
  have hexec : exec (.sequenceFailure point) s = .next (s.seqFail k point) := by
    show execSequenceFailure point s = _
    simp only [execSequenceFailure, hst, hstep, hretry]
  have hfail := s.failsAt_seqFail k point
  refine ⟨_, hexec, hfail.step, hfail.point, hfail.main, fun t ht => hfail.rails t (hs.tile_listed ht), hfail.med, ?_⟩
  rw [s.seqFail_eq]
  split
  · refine ⟨?_, rfl, s.seqRetrying_reports k point hs.package_recorder⟩
    exact (congrArg Device.st (State.pev_dev (s.seqFailNoted k point) Ev.SEQ_RETRY k [(1, point), (1, s.sup.attempts)])).trans hst
  · exact ⟨by rw [s.seqHalted_dev], rfl, rfl, s.seqHalted_reports k point hs.package_recorder⟩
theorem seqRetry_restarts (at_ : Nat) (s : State) (hst : s.dev.st = .seq) (hretry : s.sup.retryAt = some at_) (hdue : at_ ≤ s.pkgNow) :
    ∃ u, exec .seqRetry s = .next u ∧ u.sup.step = some 0 ∧ u.sup.retryAt = none ∧ u.sup.attempts = s.sup.attempts + 1 ∧
      u.cell Ob.SEQ_ATTEMPTS_LAST 0 = s.sup.attempts + 1 ∧ u.tiles = s.tiles := by
  refine ⟨{ s with sup := { s.sup with step := some 0, retryAt := none, attempts := s.sup.attempts + 1 } }.setCell Ob.SEQ_ATTEMPTS_LAST
    (s.sup.attempts + 1), ?_, rfl, rfl, rfl, State.cell_setCell_same .., rfl⟩
  show execSeqRetry s = _
  simp only [execSeqRetry, hst, hretry, if_pos hdue]

/-! ### The steps of the sequence (R396) -/

/-- What the end of a step leaves: the device is in the sequence still, the medium stands, nothing is handed over. -/
structure State.StepsTo (s u : State) (k : Nat) : Prop where
  step : u.sup.step = some (k + 1)
  st : u.dev.st = s.dev.st
  med : ∀ t, (u.tile t).med = (s.tile t).med
  out : u.out = s.out
theorem State.mainOn_keeps {β : Type} (g : State → β) (s : State) (h : ∀ u t num cls value qs, g (State.tev u t num cls value qs) = g u) :
    g s.mainOn = g { s with dev := { s.dev with mainUp := true },
                            cnt := { s.cnt.cleared with start := s.tiles.map (fun (x : Tile) => x.time.tb) } } :=
  State.each_keeps g _ _ _ (fun _ _ => h ..)
theorem State.mainOn_dev (s : State) : s.mainOn.dev = { s.dev with mainUp := true } := s.mainOn_keeps State.dev (fun _ _ _ _ _ _ => State.tev_dev ..)
theorem State.mainOn_tiles (s : State) : s.mainOn.tiles = s.tiles := s.mainOn_keeps State.tiles (fun _ _ _ _ _ _ => State.tev_tiles ..)
theorem State.mainOn_out (s : State) : s.mainOn.out = s.out := s.mainOn_keeps State.out (fun _ _ _ _ _ _ => State.tev_out ..)
/-- The steps up to P8 end in the next step. -/
theorem State.stepsTo_seqStep (s : State) (k : Nat) (h : k < 8 ∨ (k = 8 ∧ s.sup.p8Done = true)) : s.StepsTo (s.seqStep k) k := by
  have plain : s.StepsTo { s with sup := { s.sup with step := some (k + 1) } } k := ⟨rfl, rfl, fun _ => rfl, rfl⟩
  match k, h with
  | 0, _ => exact ⟨rfl, rfl, fun _ => rfl, rfl⟩
  | 1, _ => exact ⟨rfl, rfl, State.tile_map_keeps Tile.med s (s.seqStep 1) _ rfl (fun _ => rfl), rfl⟩
  | 2, _ => exact plain
  | 3, _ => exact ⟨rfl, rfl, State.tile_map_keeps Tile.med s (s.seqStep 3) _ rfl (fun _ => rfl), rfl⟩
  | 4, _ => exact ⟨rfl, rfl, fun _ => rfl, rfl⟩
  | 5, _ =>
    refine ⟨rfl, (show (s.seqStep 5).dev.st = s.mainOn.dev.st from rfl).trans (by rw [s.mainOn_dev]), fun t => ?_, s.mainOn_out⟩
    exact congrArg (fun l : List Tile => (l.getD t (Tile.reset 8 t)).med) s.mainOn_tiles
  | 6, _ => exact plain
  | 7, _ => exact plain
  | 8, h =>
    have hdone : s.sup.p8Done = true := h.elim (fun hlt => absurd hlt (by decide)) And.right
    have hstep : s.seqStep 8 = { s with sup := { s.sup with step := some (8 + 1) } } := if_pos hdone
    rw [hstep]
    exact plain
  | k + 9, h => exact absurd h (by omega)
theorem exec_seqStepDone (k : Nat) (s : State) (hst : s.dev.st = .seq) (hstep : s.sup.step = some k) (hretry : s.sup.retryAt = none) :
    exec .seqStepDone s = .next (s.seqStep k) := by
  show execSeqStepDone s = _
  simp only [execSeqStepDone, hst, hstep, hretry]

/-! ### TEST (R396 P9, R478) -/

/-- From `s` to `u` tiles have been made ready for TEST: the device and the medium stand, nothing is handed over. -/
structure State.Prepares (s u : State) : Prop where
  dev : u.dev = s.dev
  sup : u.sup = s.sup
  out : u.out = s.out
  med : ∀ t, (u.tile t).med = (s.tile t).med
theorem State.Prepares.refl (s : State) : s.Prepares s := ⟨rfl, rfl, rfl, fun _ => rfl⟩
theorem State.Prepares.trans {s t u : State} (a : s.Prepares t) (b : t.Prepares u) : s.Prepares u :=
  ⟨b.dev.trans a.dev, b.sup.trans a.sup, b.out.trans a.out, fun v => (b.med v).trans (a.med v)⟩
theorem State.prepares_each {α : Type} (s : State) (l : List α) (f : State → α → State) (h : ∀ u x, State.Prepares u (f u x)) :
    s.Prepares (s.each l f) :=
  State.each_induct s.Prepares s l f (.refl s) (fun u x _ hu => hu.trans (h u x))
theorem State.prepares_modTile (s : State) (t : Nat) (f : Tile → Tile) (hf : ∀ x, (f x).med = x.med) : s.Prepares (s.modTile t f) :=
  ⟨rfl, rfl, rfl, fun v => State.modTile_keeps Tile.med s t v f hf⟩
theorem State.prepares_bumpFree (s : State) : s.Prepares s.bumpFree := ⟨rfl, rfl, rfl, fun _ => rfl⟩
theorem State.prepares_wakeTile (s : State) (t : Nat) :
    s.Prepares (((s.modRes t (fun r => { r with hashKey := Config.freeNat (s.freeCtr) })).bumpFree).modTime t
      (fun x => { x with linkE := true, linkW := true })) :=
  ((s.prepares_modTile t (fun x => { x with res := { x.res with hashKey := Config.freeNat (s.freeCtr) } }) (fun _ => rfl)).trans
    (State.prepares_bumpFree _)).trans (State.prepares_modTile _ t (fun x => { x with time := { x.time with linkE := true, linkW := true } })
      (fun _ => rfl))
/-- The state that has taken TEST, before its tiles are made ready. -/
def State.testTaken (s : State) : State :=
  let s1 := (s.goto .test 3).setCell Ob.POWERUP_TIME_US (((s.pkgNow - s.sup.t0) / 1000) % 2 ^ 32)
  let s2 := { s1 with sup := { s1.sup with step := none, scanTiles := [] },
                      dev := { s1.dev with bringup := 1, portsMode := s1.cell Ob.PAIR_PORT_MODE 0 } }
  { s2 with queues := s2.queues.map (fun (x : Nat × Queue) =>
    (x.1, if s2.cell (Ob.inst Ob.SQ_ENABLE x.1) 0 = 1 then { x.2 with st := 1 } else x.2)) }
theorem State.prepares_enterTest (s : State) : s.testTaken.Prepares s.enterTest :=
  (s.testTaken.prepares_each s.testTaken.tileNumbers
    (fun s' t => ((s'.modRes t (fun r => { r with hashKey := Config.freeNat (s'.freeCtr) })).bumpFree).modTime t
      (fun x => { x with linkE := true, linkW := true }))
    (fun u t => u.prepares_wakeTile t)).trans (State.prepares_each _ _ _ (fun u t => u.prepares_modTile t _ (fun _ => rfl)))
theorem State.testTaken_dev (s : State) :
    s.testTaken.dev = { s.dev with st := .test, bringup := 1, portsMode := s.cell Ob.PAIR_PORT_MODE 0 } := by
  have hcell (v : Nat) : ((s.goto .test 3).setCell Ob.POWERUP_TIME_US v).cell Ob.PAIR_PORT_MODE 0 = s.cell Ob.PAIR_PORT_MODE 0 :=
    (State.cell_setCell_ne _ _ _ _ _ (by decide)).trans (State.goto_cell_ne _ _ _ _ _ (by decide) (by decide))
  unfold State.testTaken
  simp only [hcell, State.setCell_dev, State.goto_dev]

/-- A step of the sequence that is done. -/
theorem seqStepDone_steps (k : Nat) (s : State) (hs : s.Sized) (hst : s.dev.st = .seq) (hstep : s.sup.step = some k) (hretry : s.sup.retryAt = none)
    (h : k < 8 ∨ (k = 8 ∧ s.sup.p8Done = true)) :
    ∃ u, exec .seqStepDone s = .next u ∧ u.sup.step = some (k + 1) ∧ u.dev.st = .seq ∧
      (k = 3 → ∀ t, t < s.n → (u.tile t).sup.railsUp = true) ∧ (k = 4 → u.sup.seqOut = true) ∧ (k = 5 → u.dev.mainUp = true) ∧
      (∀ t, (u.tile t).med = (s.tile t).med) ∧ u.out = s.out := by
  have hgo := s.stepsTo_seqStep k h
  refine ⟨_, exec_seqStepDone k s hst hstep hretry, hgo.step, hgo.st.trans hst, ?_, ?_, ?_, hgo.med, hgo.out⟩
  · rintro rfl t ht
    rw [State.tile_map_listed s (s.seqStep 3) _ rfl t (hs.tile_listed ht)]
  · rintro rfl
    rfl
  · rintro rfl
    exact (congrArg Device.mainUp (show (s.seqStep 5).dev = s.mainOn.dev from rfl)).trans (by rw [s.mainOn_dev])
theorem seqStepDone_test (s : State) (hst : s.dev.st = .seq) (hstep : s.sup.step = some 9) (hretry : s.sup.retryAt = none) :
    ∃ u, exec .seqStepDone s = .next u ∧ u.dev.st = .test ∧ u.dev.bringup = 1 ∧ u.sup.step = none ∧
      u.dev.portsMode = s.cell Ob.PAIR_PORT_MODE 0 ∧ (∀ t, (u.tile t).med = (s.tile t).med) ∧ u.out = s.out := by
  have hp := s.prepares_enterTest
  have hdev : s.enterTest.dev = _ := hp.dev.trans s.testTaken_dev
  refine ⟨s.enterTest, exec_seqStepDone 9 s hst hstep hretry, by rw [hdev], by rw [hdev], by rw [hp.sup]; rfl, by rw [hdev],
    fun t => (hp.med t).trans ?_, hp.out.trans (State.goto_out ..)⟩
  exact congrArg Tile.med (State.goto_tile ..)

/-! ### The ends of a power-up (R399, R400, R475) -/

theorem State.powerUpRoles_sup (s : State) : s.powerUpRoles.sup = s.sup := by
  unfold State.powerUpRoles
  split <;> rfl
theorem State.beginSeq_seqIn (s : State) (row : Nat) : (s.beginSeq row).sup.seqIn = s.sup.seqIn :=
  (congrArg Supply.seqIn (State.powerUpRoles_sup _)).trans
    ((rfl : _ = (s.freshCells.goto .seq row).sup.seqIn).trans (congrArg Supply.seqIn (State.goto_sup s.freshCells .seq row)))
theorem seqInAccepted_begins (s : State) (hst : s.dev.st = .aux) (hup : s.mgmt.booted = true) :
    ∃ u, exec .seqInAccepted s = .next u ∧ u.dev.st = .seq ∧ u.sup.step = some 0 ∧ u.sup.attempts = 1 ∧ u.sup.seqIn = true ∧
      u.tiles = s.tiles ∧ u.keys = s.keys ∧ u.out = s.out := by
  let s1 : State := { s with sup := { s.sup with seqIn := true, pwrfailN := true, resetN := true } }
  have h := s1.begins_beginSeq 1
  exact ⟨s1.beginSeq 1, congrArg Host.Outcome.next (if_pos ⟨hst, hup⟩), h.st, h.step, h.attempts, s1.beginSeq_seqIn 1, h.tiles, h.keys, h.out⟩
theorem vauxOn_enters (s : State) (hst : s.dev.st = .unpowered) :
    ∃ u, exec .vauxOn s = .next u ∧ u.dev.st = .aux ∧ u.tiles = s.tiles ∧ u.keys = s.keys :=
  ⟨({ s with sup := { s.sup with vauxGone := false } } : State).goto .aux 0, congrArg Host.Outcome.next (if_pos hst), by rw [State.goto_dev],
    State.goto_tiles .., State.goto_keys ..⟩
theorem haltedExit_enters (s : State) (hst : s.dev.st = .halted) (hup : s.mgmt.booted = true) :
    ∃ u, exec .haltedExit s = .next u ∧ u.dev.st = .aux ∧ u.sup.seqIn = true ∧ u.tiles = s.tiles :=
  ⟨({ s with sup := { s.sup with seqIn := true } } : State).goto .aux 16, congrArg Host.Outcome.next (if_pos ⟨hst, hup⟩), by rw [State.goto_dev],
    congrArg Supply.seqIn (State.goto_sup _ _ _), State.goto_tiles ..⟩
/-- What the breaking off of a power-up leaves (R400). -/
structure State.BreaksOff (s u : State) : Prop where
  st : u.dev.st = .aux
  step : u.sup.step = none
  seqOut : u.sup.seqOut = false
  main : u.dev.mainUp = false
  rails : ∀ t, t < s.tiles.length → (u.tile t).sup.railsUp = false
  med : ∀ t, (u.tile t).med = (s.tile t).med
/-- The state with its rails off and the sequence left. -/
def State.seqLeft (s : State) : State := { s.seqOff with sup := { s.seqOff.sup with step := none, retryAt := none, seqOut := false } }
theorem State.seqAbort_eq (s : State) : s.seqAbort = s.seqLeft.goto .aux 5 := rfl
theorem State.breaksOff_seqAbort (s : State) : s.BreaksOff s.seqAbort where
  st := by rw [s.seqAbort_eq, State.goto_dev]
  step := by
    rw [s.seqAbort_eq, State.goto_sup]
    rfl
  seqOut := by
    rw [s.seqAbort_eq, State.goto_sup]
    rfl
  main := by
    rw [s.seqAbort_eq, State.goto_dev]
    rfl
  rails t ht := by
    rw [s.seqAbort_eq, State.goto_tile]
    exact s.seqOff_railsUp t ht
  med t := by
    rw [s.seqAbort_eq, State.goto_tile]
    exact s.seqOff_med t
theorem seqInFallInSeq_breaksOff (s : State) (hs : s.Sized) (hst : s.dev.st = .seq) :
    ∃ u, exec .seqInFallInSeq s = .next u ∧ u.dev.st = .aux ∧ u.sup.step = none ∧ u.sup.seqOut = false ∧ u.dev.mainUp = false ∧
      (∀ t, t < s.n → (u.tile t).sup.railsUp = false) ∧ ∀ t, (u.tile t).med = (s.tile t).med := by
  let s1 : State := { s with sup := { s.sup with seqIn := false } }
  have h := s1.breaksOff_seqAbort
  exact ⟨s1.seqAbort, congrArg Host.Outcome.next (if_pos hst), h.st, h.step, h.seqOut, h.main, fun t ht => h.rails t (hs.tile_listed ht), h.med⟩

/-! ### The hold-up measurement (R406, R407) -/

/-- The bank that is out of its limits: the supply as the fault leaves it, and its record. -/
theorem State.holdupFault_faults (s : State) (hs : s.Sized) (reason esr : Nat) :
    (s.holdupFault reason esr).sup = { s.sup with
        cap := 0, esr := esr, measured := decide (reason ≠ 1), capLow := decide (reason ≠ 3), esrHigh := decide (reason = 3) } ∧
      (s.holdupFault reason esr).pkgReports Ev.HOLDUP_FAULT ∧ (s.holdupFault reason esr).tiles = s.tiles :=
  ⟨State.pev_sup .., State.pev_reports _ _ _ _ hs.package_recorder, State.pev_tiles ..⟩
theorem holdupMeasured_measures (dt step : Nat) (s : State) (hs : s.Sized) (hst : s.dev.st = .seq) (hstep : s.sup.step = some 8)
    (hopen : s.sup.p8Done = false) :
    ∃ u, exec (.holdupMeasured dt step) s = .next u ∧ u.sup.p8Done = true ∧ u.tiles = s.tiles ∧
      (if 1000 * s.part.esrLimit < step * 2 then u.sup.cap = 0 ∧ u.sup.esrHigh = true ∧ u.pkgReports Ev.HOLDUP_FAULT
        else if dt < 4120000 then u.sup.cap = 0 ∧ u.sup.capLow = true ∧ u.pkgReports Ev.HOLDUP_FAULT
        else u.sup.cap = min (2425 * dt) (22 * 10 ^ 10) ∧ u.sup.esr = step * 2 / 1000 ∧ u.pkgReports Ev.HOLDUP_MEASURED) := by
  have hrun : s.dev.st = .seq ∧ s.sup.step = some 8 ∧ (!s.sup.p8Done) = true := ⟨hst, hstep, by rw [hopen]; rfl⟩
  by_cases hesr : 1000 * s.part.esrLimit < step * 2
  · obtain ⟨hsup, hrep, htiles⟩ := s.holdupFault_faults hs 3 (step * 2 / 1000)
    refine ⟨_, congrArg Host.Outcome.next ((if_pos hrun).trans (if_pos hesr)), by rw [hsup]; rfl, htiles, ?_⟩
    rw [if_pos hesr, hsup]
    exact ⟨rfl, rfl, hrep⟩
  · by_cases hdt : dt < 4120000
    · obtain ⟨hsup, hrep, htiles⟩ := s.holdupFault_faults hs 2 (step * 2 / 1000)
      refine ⟨_, congrArg Host.Outcome.next ((if_pos hrun).trans ((if_neg hesr).trans (if_pos hdt))), by rw [hsup]; rfl, htiles, ?_⟩
      rw [if_neg hesr, if_pos hdt, hsup]
      exact ⟨rfl, rfl, hrep⟩
    · refine ⟨_, congrArg Host.Outcome.next ((if_pos hrun).trans ((if_neg hesr).trans (if_neg hdt))), congrArg Supply.p8Done (State.pev_sup ..),
        State.pev_tiles .., ?_⟩
      rw [if_neg hesr, if_neg hdt]
      exact ⟨congrArg Supply.cap (State.pev_sup ..), congrArg Supply.esr (State.pev_sup ..), State.pev_reports _ _ _ _ hs.package_recorder⟩
theorem holdupFault_faults (reason esr : Nat) (s : State) (hs : s.Sized) (hst : s.dev.st = .seq) (hstep : s.sup.step = some 8)
    (hopen : s.sup.p8Done = false) (hreason : (reason = 1 ∧ s.sup.p4At + 650000000 ≤ s.pkgNow) ∨ reason = 2 ∨ reason = 3) :
    ∃ u, exec (.holdupFault reason esr) s = .next u ∧ u.sup.cap = 0 ∧ u.sup.p8Done = true ∧ u.pkgReports Ev.HOLDUP_FAULT ∧ u.tiles = s.tiles := by
  obtain ⟨hsup, hrep, htiles⟩ := s.holdupFault_faults hs reason esr
  refine ⟨_, congrArg Host.Outcome.next (if_pos ⟨hst, hstep, by rw [hopen]; rfl, hreason⟩), by rw [hsup], ?_, hrep, htiles⟩
  rw [hsup]
  obtain ⟨rfl, -⟩ | rfl | rfl := hreason <;> rfl

/-! ### O57 -/

/-- Settles O57: a clause for each way into, through and out of the power sequence. -/
theorem powerSequence : Obligations.PowerSequence := by
  unfold Obligations.PowerSequence
  refine ⟨vauxOn_enters, seqInAccepted_begins, fun k s hs hst hstep hretry => ⟨seqStepDone_steps k s hs hst hstep hretry, ?_⟩,
    sequenceFailure_fails, seqRetry_restarts, haltedExit_enters, seqInFallInSeq_breaksOff, holdupMeasured_measures, holdupFault_faults⟩
  rintro rfl
  exact seqStepDone_test s hst hstep hretry

end Sys2Proof.Machine
end

section
/-! Proofs of 14_supplies_and_holdup.md: what the entry into DRAIN stops and what it keeps (R149, R404, R409, R480, R482). -/
namespace Sys2Proof.Machine
open Sys2Proof

/-! ### What a stop keeps -/

/-- What the writes that a tile has accepted rest on: its medium's slots, its reservoir's entries, and the migrations under way. -/
def Tile.written (x : Tile) : Sparse Codeword × List Entry × List Migration := (x.med.slots, x.res.entries, x.map.migs)
/-- What a DRAIN holds of the device beside its health: state, cause, memory, main domain, the tiles done and stopped. -/
def Device.course (d : Device) : DevState × Nat × Bool × Bool × List Nat × List Nat :=
  (d.st, d.drainCause, d.memActive, d.mainUp, d.flushDone, d.flushStop)
/-- From `s` to `u` things stop: no link comes up, no session opens, an ACTIVE tile stays so, no recorded event is lost; the tiles that `W` names keep
what their writes rest on. -/
structure State.Calms (W : Nat → Prop) (s u : State) : Prop where
  part : u.part = s.part
  course : u.dev.course = s.dev.course
  down : ∀ p, (s.port p).up = false → (u.port p).up = false
  active : ∀ v, (s.tile v).fence.st = .active → (u.tile v).fence.st = .active
  silent : s.mgmt.sessions = [] → u.mgmt.sessions = []
  reports : ∀ r c, s.reports r c → u.reports r c
  writes : ∀ v, W v → (u.tile v).written = (s.tile v).written

section
variable {W : Nat → Prop}

theorem State.Calms.refl (s : State) : s.Calms W s := ⟨rfl, rfl, fun _ h => h, fun _ h => h, fun h => h, fun _ _ h => h, fun _ _ => rfl⟩
theorem State.Calms.trans {s t u : State} (a : s.Calms W t) (b : t.Calms W u) : s.Calms W u :=
  ⟨b.part.trans a.part, b.course.trans a.course, fun p h => b.down p (a.down p h), fun v h => b.active v (a.active v h), fun h => b.silent (a.silent h),
    fun r c h => b.reports r c (a.reports r c h), fun v h => (b.writes v h).trans (a.writes v h)⟩
theorem State.Calms.ite {s u v : State} {c : Prop} [Decidable c] (a : s.Calms W u) (b : s.Calms W v) : s.Calms W (if c then u else v) := by
  split
  · exact a
  · exact b
theorem State.calms_each {α : Type} (s : State) (l : List α) (f : State → α → State) (h : ∀ u x, State.Calms W u (f u x)) : s.Calms W (s.each l f) :=
  State.each_induct (s.Calms W) s l f (State.Calms.refl s) (fun u x _ hu => hu.trans (h u x))
/-- What leaves tiles, ports, recorders and the course of the device alone, and opens no session. -/
theorem State.Calms.of_eq {s u : State} (part : u.part = s.part := by simp) (course : u.dev.course = s.dev.course := by simp)
    (ports : u.ports = s.ports := by simp) (tiles : u.tiles = s.tiles := by simp) (silent : s.mgmt.sessions = [] → u.mgmt.sessions = [] := by simp)
    (reports : ∀ r c, s.reports r c → u.reports r c) : s.Calms W u :=
  ⟨part, course, fun _ h => by simpa only [State.port, ports] using h, fun _ h => by simpa only [State.tile, tiles] using h, silent, reports,
    fun _ _ => by simp only [State.tile, tiles]⟩
/-- A change of neither tiles, ports, device nor sessions. -/
theorem State.Calms.of_rest {s u : State} (part : u.part = s.part) (dev : u.dev = s.dev) (ports : u.ports = s.ports) (tiles : u.tiles = s.tiles)
    (sessions : u.mgmt.sessions = s.mgmt.sessions) (recs : u.recs = s.recs) : s.Calms W u :=
  .of_eq part (by rw [dev]) ports tiles (fun h => sessions.trans h) (fun r c => State.reports_of_recs s u r c recs)
theorem State.calms_modTile (s : State) (t : Nat) (f : Tile → Tile) (hfence : ∀ x, (f x).fence = x.fence) (hw : W t → ∀ x, (f x).written = x.written) :
    s.Calms W (s.modTile t f) := by
  refine ⟨rfl, rfl, fun _ h => h, fun v h => ?_, fun h => h, fun r c => State.reports_of_recs s _ r c rfl, fun v hv => ?_⟩
  · rw [State.modTile_keeps Tile.fence s t v f hfence]
    exact h
  · by_cases htv : t = v
    · exact State.modTile_keeps Tile.written s t v f (hw (htv ▸ hv))
    · rw [State.tile_modTile_ne _ _ _ _ htv]
theorem State.calms_modRd (s : State) (t : Nat) (f : TileRead → TileRead) : s.Calms W (s.modRd t f) := s.calms_modTile t _ (fun _ => rfl) (fun _ _ => rfl)
theorem State.calms_modPs (s : State) (t : Nat) (f : PStore → PStore) : s.Calms W (s.modPs t f) := s.calms_modTile t _ (fun _ => rfl) (fun _ _ => rfl)
theorem State.calms_modRes (s : State) (t : Nat) (f : TileRes → TileRes) (h : W t → ∀ r, (f r).entries = r.entries) : s.Calms W (s.modRes t f) :=
  s.calms_modTile t _ (fun _ => rfl) (fun hw x => by simp only [Tile.written, h hw])
theorem State.calms_modPort (s : State) (p : Nat) (f : Port → Port) (h : ∀ x, x.up = false → (f x).up = false) : s.Calms W (s.modPort p f) := by
  refine ⟨rfl, rfl, fun q hq => ?_, fun _ h => h, fun h => h, fun r c => State.reports_of_recs s _ r c rfl, fun _ _ => rfl⟩
  by_cases hpq : p = q
  · subst hpq
    by_cases hl : p < s.ports.length
    · rw [State.port_modPort_same _ _ _ hl]
      exact h _ hq
    · simpa [State.port, State.modPort, List.getD, getElem?_modAt_same, List.getElem?_eq_none (Nat.le_of_not_lt hl)] using hq
  · rwa [State.port_modPort_ne _ _ _ _ hpq]
theorem State.calms_tcount (s : State) (t num k : Nat) : s.Calms W (s.tcount t num k) := .of_eq (reports := fun r c => s.reports_tcount r c t num k)
theorem State.calms_tev (s : State) (t num cls value : Nat) (qs : List (Nat × Nat)) : s.Calms W (s.tev t num cls value qs) :=
  .of_eq (reports := fun r c => s.reports_tev r c t num cls value qs)
theorem State.calms_pev (s : State) (code value : Nat) (qs : List (Nat × Nat)) : s.Calms W (s.pev code value qs) :=
  .of_eq (reports := fun r c => s.reports_pev r c code value qs)
theorem State.calms_raise (s : State) (a b c : Nat) : s.Calms W (s.raise a b c) := .of_eq (reports := fun r d => s.reports_raise r d a b c)
theorem State.calms_alert (s : State) (b : Nat) : s.Calms W (s.alert b) := .of_eq (reports := fun r c => s.reports_alert r c b)

/-! ### Links, sessions and queues (R154, R286, R330, R387, R433) -/

theorem State.calms_discardReads (s : State) (t p : Nat) (l : Option Nat) : s.Calms W (s.discardReads t p l) := by
  have hnib (u : State) (id : Nat) : u.Calms W (u.endNib t id) := by
    unfold State.endNib
    split
    · exact .refl u
    · split
      · exact .refl u
      · exact u.calms_modRd t _
  have hretire (u : State) (id : Nat) : u.Calms W (u.retireRd t id) := .ite (.refl u) (u.calms_modRd t _)
  unfold State.discardReads
  extract_lets x rds waits s1 s2
  have h1 : s.Calms W s1 := s.calms_each _ _ (fun u r => ((hnib u r.id).trans (State.calms_modRd _ t _)).trans (hretire _ _))
  have h2 : s1.Calms W s2 := s1.calms_each _ _ (fun u _ => u.calms_modRd t _)
  exact (h1.trans h2).trans (s2.calms_modRes t _ (by exact fun _ _ => rfl))
theorem State.calms_discard (s : State) (p : Nat) (l : Option Nat) : s.Calms W (s.discard p l) := by
  unfold State.discard
  extract_lets lost lds s1 s2
  have hwords : s.Calms W (s.flushOwned p l) := .of_rest rfl rfl rfl rfl rfl rfl
  have h1 : s.Calms W s1 := hwords.trans (State.calms_each _ _ _ (fun u t => u.calms_discardReads t p l))
  have h2 : s1.Calms W s2 := s1.calms_modPort p _ (by exact fun _ h => h)
  exact (h1.trans h2).trans (s2.calms_each _ _ (fun u _ => u.calms_tev _ _ _ _ _))
/-- An armed flip mask is of no slot. -/
theorem State.calms_discardFlip (s : State) (t cause : Nat) : s.Calms W (s.discardFlip t cause) :=
  .ite (((s.calms_modTile t _ (by exact fun _ => rfl) (by exact fun _ _ => rfl)).trans (State.calms_raise ..)).trans (State.calms_tev ..)) (.refl s)
theorem State.calms_relock (s : State) (cause : Nat) : s.Calms W (s.relock cause) := by
  have hpermit (u : State) (on : Bool) : u.Calms W (u.permitTest on) := by
    have h1 : u.Calms W { u with svc := { u.svc with testPermitted := on } } := .of_rest rfl rfl rfl rfl rfl rfl
    exact .ite (h1.trans (State.calms_each _ _ _ (fun v t => v.calms_discardFlip t 2))) h1
  have hunlock (svc : Service) (obj : Sparse Nat) : s.Calms W { s with svc := svc, obj := obj } := .of_rest rfl rfl rfl rfl rfl rfl
  unfold State.relock
  split
  · exact .refl s
  · exact ((hunlock _ _).trans (hpermit _ false)).trans (State.calms_pev ..)
/-- What only filters the sessions opens none. -/
theorem State.calms_filterSessions (s : State) (f : Session → Bool) (m : Mgmt) (h : m.sessions = s.mgmt.sessions.filter f) :
    s.Calms W { s with mgmt := m } :=
  .of_eq rfl rfl rfl rfl (fun hs => h.trans (by rw [hs]; rfl)) (fun r c => State.reports_of_recs s _ r c rfl)
theorem State.calms_endSession (s : State) (id : Nat) : s.Calms W (s.endSession id) := by
  have hended (m : Mgmt) (h : m.sessions = s.mgmt.sessions.filter (fun x => decide (x.id ≠ id))) : s.Calms W { s with mgmt := m } :=
    s.calms_filterSessions _ m h
  exact .ite ((hended _ rfl).trans (State.calms_relock ..)) (hended _ rfl)
theorem State.calms_linkDown (s : State) (p cause : Nat) : s.Calms W (s.linkDown p cause) := by
  unfold State.linkDown
  extract_lets s1 s2 s3
  have h1 : s.Calms W s1 := (s.calms_modPort p _ (by exact fun _ _ => rfl)).trans (State.calms_discard ..)
  have h2 : s1.Calms W s2 := .of_rest rfl rfl rfl rfl rfl rfl
  have h3 : s2.Calms W s3 := s2.calms_each _ _ (fun u id => u.calms_endSession id)
  exact .ite (((h1.trans h2).trans h3).trans ((State.calms_raise ..).trans (State.calms_tev ..))) (.refl s)
theorem State.calms_abandonQueues (s : State) (t : Nat) : s.Calms W (s.abandonQueues t) := by
  unfold State.abandonQueues
  extract_lets s1
  have h1 : s.Calms W s1 := .of_rest rfl rfl rfl rfl rfl rfl
  exact h1.trans (s1.calms_modRd t _)
theorem State.calms_stopQueues (s : State) : s.Calms W s.stopQueues := s.calms_each _ _ (fun u t => u.calms_abandonQueues t)
theorem State.calms_endSessions (s : State) (cause : Nat) : s.Calms W (s.endSessions cause) := by
  have hended (m : Mgmt) (h : m.sessions = []) : s.Calms W { s with mgmt := m } :=
    .of_eq rfl rfl rfl rfl (fun _ => h) (fun r c => State.reports_of_recs s _ r c rfl)
  exact (hended _ rfl).trans (State.calms_relock ..)

/-! ### A pass, an update, an erase and a key change (R238, R490, R497) -/

theorem State.calms_abortScrub (s : State) (cause : Nat) : s.Calms W (s.abortScrub cause) := by
  have hend (status : Nat) (counts : List Nat) : s.Calms W (s.endScrub status counts) := .of_rest rfl rfl rfl rfl rfl rfl
  exact .ite ((hend _ _).trans (State.calms_pev ..)) (.refl s)
theorem State.calms_abandonUpdate (s : State) : s.Calms W s.abandonUpdate := by
  have hdropped (m : Mgmt) (fw : Firmware) (h : m.sessions = s.mgmt.sessions) : s.Calms W { s with mgmt := m, fw := fw } :=
    .of_rest rfl rfl rfl rfl h rfl
  have hended := hdropped { s.mgmt with update := 0, takeover := false } { s.fw with activation := 4 } rfl
  exact .ite ((hended.trans (State.calms_alert _ 4)).trans (State.calms_pev ..)) (hdropped _ _ rfl)
theorem State.calms_keepErase (s : State) : s.Calms W s.keepErase := by
  have hsvc (svc : Service) : s.Calms W { s with svc := svc } := .of_rest rfl rfl rfl rfl rfl rfl
  exact .ite ((hsvc _).trans (State.calms_each _ _ _ (fun u t => u.calms_modPs t _))) (hsvc _)
theorem State.calms_dropKeyChange (s : State) : s.Calms W s.dropKeyChange := by
  unfold State.dropKeyChange
  split
  · exact .refl s
  · exact .of_rest rfl rfl rfl rfl rfl rfl

/-! ### Migrations (R140, R202) -/

theorem State.calms_shadowFor (s : State) (t owner : Nat) (add : Bool) (kind addr : Nat) : s.Calms W (s.shadowFor t owner add kind addr) := by
  have hsend (u : State) (a d k : Nat) : u.Calms W (u.ringSend a d k) := u.calms_each _ _ (fun u _ => u.calms_tcount _ _ _)
  unfold State.shadowFor
  extract_lets m e
  exact .ite (.refl s) (.ite (s.calms_modRes t _ (by exact fun _ _ => rfl)) ((s.calms_modRes m _ (by exact fun _ _ => rfl)).trans (hsend _ _ _ _)))
theorem State.calms_evalHealth (s : State) : s.Calms W s.evalHealth := by
  have judged : s.Calms W { s with dev := { s.dev with health := healthOf s.healthCause, causes := s.healthCause } } :=
    .of_eq rfl rfl rfl rfl (fun h => h) (fun r c => State.reports_of_recs s _ r c rfl)
  exact .ite judged (judged.trans ((State.calms_pev ..).trans (State.calms_alert ..)))
theorem State.calms_noteSpares (s : State) (t before : Nat) : s.Calms W (s.noteSpares t before) := by
  have noted (u : State) (b num cls : Nat) (c : Prop) [Decidable c] : u.Calms W (if c then (u.xlateBit t b).tev t num cls 0 [] else u) :=
    .ite ((u.calms_raise _ _ _).trans (State.calms_tev ..)) (.refl u)
  unfold State.noteSpares
  extract_lets n s1 s2
  have both : s.Calms W s2 := (noted s 0 _ _ _).trans (noted s1 1 _ _ _)
  exact .ite both (both.trans s2.calms_evalHealth)

section
variable {t : Nat} (ht : ¬W t)
include ht

theorem State.calms_lineLanded (s : State) (owner lla : Nat) : s.Calms W (s.lineLanded t owner lla) := by
  have hres (u : State) (f : TileRes → TileRes) : u.Calms W (u.modRes t f) := u.calms_modRes t f (fun h => absurd h ht)
  unfold State.lineLanded
  extract_lets r gone s0
  have hgone (u : State) : u.Calms W (gone u) := u.calms_shadowFor ..
  split
  · exact hgone s
  · extract_lets s1 rival s2
    have h2 : s1.Calms W s2 := (hres s1 _).trans (hgone _)
    exact (hres s _).trans (.ite (hres s1 _) (.ite (hres s1 _) (h2.trans (.ite (hres s2 _) (.refl s2)))))
theorem State.calms_completeEvicts (s : State) : s.Calms W (s.completeEvicts t) := by
  have hres (u : State) (f : TileRes → TileRes) : u.Calms W (u.modRes t f) := u.calms_modRes t f (fun h => absurd h ht)
  have hclose (u : State) (S : Nat) : u.Calms W (u.closeStripe t S) :=
    .ite (.refl u) (.ite ((hres u _).trans (State.calms_shadowFor ..)) (.refl u))
  refine s.calms_each _ _ (fun u e => ?_)
  extract_lets s1 s2 s3 s4
  have h3 : u.Calms W s3 := ((hres u _).trans (hres s1 _)).trans (s2.calms_lineLanded ht e.owner e.addr)
  exact (h3.trans (.ite (hres s3 _) (.refl s3))).trans (hclose s4 _)
theorem State.calms_abandonMigration (s : State) (lseg : Nat) : s.Calms W (s.abandonMigration t lseg 1) := by
  have hother (u : State) (f : Tile → Tile) (hf : ∀ x, (f x).fence = x.fence) : u.Calms W (u.modTile t f) :=
    u.calms_modTile t f hf (fun h => absurd h ht)
  unfold State.abandonMigration
  split
  · exact .refl s
  · extract_lets before s1 s2 s3 s4
    have h3 : s.Calms W s3 := ((hother s _ (by exact fun _ => rfl)).trans (hother s1 _ (by exact fun _ => rfl))).trans (s2.calms_tev _ _ _ _ _)
    exact (h3.trans (s3.calms_completeEvicts ht)).trans (State.calms_noteSpares ..)

end

/-! ### A tile and a port at DRAIN entry (R149, R404, R409) -/

theorem State.calms_drainTile (s : State) (t : Nat) (h : W t → (s.tile t).map.migs = []) : s.Calms W (s.drainTile t) := by
  have hmigs : s.Calms W ((s.discardFlip t 3).each ((s.tile t).map.migs.map Migration.lseg) (fun s' l => s'.abandonMigration t l 1)) := by
    by_cases ht : W t
    · rw [h ht]
      exact s.calms_discardFlip t 3
    · exact (s.calms_discardFlip t 3).trans (State.calms_each _ _ _ (fun u l => u.calms_abandonMigration ht l))
  unfold State.drainTile
  extract_lets s1 kept has s2
  have h2 : s.Calms W s2 := hmigs.trans (s1.calms_modRd t _)
  exact (h2.trans (s2.calms_modTile t _ (by exact fun _ => rfl) (by exact fun _ _ => rfl))).trans (State.calms_modRes _ t _ (by exact fun _ _ => rfl))
theorem State.calms_idlePort (s : State) (cause p : Nat) : s.Calms W (s.idlePort cause p) :=
  .ite (s.calms_linkDown p 6)
    (.ite (((s.calms_modPort p _ (by exact fun _ _ => rfl)).trans (State.calms_discard ..)).trans (State.calms_raise ..)) (.refl s))
theorem State.port_down (s : State) (p : Nat) : ((s.modPort p Port.down).port p).up = false := by
  by_cases hl : p < s.ports.length
  · rw [State.port_modPort_same _ _ _ hl]
    rfl
  · simp [State.port, State.modPort, List.getD, getElem?_modAt_same, List.getElem?_eq_none (Nat.le_of_not_lt hl), Port.reset]

end

theorem State.idlePort_down (s : State) (cause p : Nat) : ((s.idlePort cause p).port p).up = false := by
  by_cases hup : (s.port p).up = true
  · have hdown := s.port_down p
    have hdiscard : (((s.modPort p Port.down).discard p none).port p).up = false := ((s.modPort p Port.down).drops_discard p none).up p ▸ hdown
    unfold State.idlePort
    split
    · rw [(s.drops_linkDown p 6 hup).up]
      exact hdown
    · rw [State.raise_port]
      exact hdiscard
  · exact (s.calms_idlePort (W := fun _ => False) cause p).down p (Bool.eq_false_of_not_eq_true hup)
/-- What a step brings about for its element, and keeps for all others, holds for every element of the list. -/
theorem State.each_all (P : State → Nat → Prop) (F : State → Nat → State) (hF : ∀ s x, P (F s x) x) (hkeep : ∀ s x y, P s y → P (F s x) y)
    (l : List Nat) (s : State) : ∀ y ∈ l, P (s.each l F) y := by
  induction l generalizing s with
  | nil => exact fun y hy => absurd hy List.not_mem_nil
  | cons a l ih =>
    intro y hy
    rw [State.each_cons]
    obtain rfl | hy := List.mem_cons.1 hy
    · exact State.each_induct (fun u => P u y) _ l F (hF s y) (fun u x _ hu => hkeep u x y hu)
    · exact ih (F s a) y hy

end Sys2Proof.Machine
end

section
/-! Proofs of 14_supplies_and_holdup.md: DRAIN entry, its triggers, a reboot of the cores, a loss of VAUX (R404, R409, R414, R475, R484). -/
namespace Sys2Proof.Machine
open Sys2Proof

/-! ### The entry (R149 step 1, R409) -/

/-- The device as a DRAIN with cause `c` begins. -/
def State.drainBegun (s : State) (c : Nat) : Device := { s.dev with
  st := .drain, drainCause := c, drainSeen := 2 ^ (c - 1), drainAt := s.pkgNow, inputReturned := false, flushDone := [], flushStop := [],
  recordsDue := [], memActive := false }
/-- The state that has recorded the DRAIN's begin. -/
def State.drainNoted (s : State) (c : Nat) : State :=
  let s0 := if s.inService then s.count Cn.DRAIN_ENTRIES 1 else s
  ({ s0 with dev := { s0.dev with
    drainCause := c, drainSeen := 2 ^ (c - 1), drainAt := s.pkgNow, inputReturned := false, flushDone := [], flushStop := [],
    recordsDue := [], memActive := false } }.goto .drain (if s.inService then 12 else 8)).pev Ev.DRAIN_ENTERED c
      [(1, Config.eventCode (bitNat (fromHold c)))]
/-- The state in which the sessions have ended and the queues stopped. -/
def State.drainServed (s : State) (c : Nat) : State :=
  (((((s.drainNoted c).abortScrub 2).abandonUpdate).keepErase.stopQueues).dropKeyChange).endSessions 4
/-- The state in which the ports are idle. -/
def State.drainIdle (s : State) (c : Nat) : State := (s.drainServed c).each (List.range 8) (fun s' p => s'.idlePort c p)
/-- What DRAIN entry does in one tile. -/
def State.drainOne (s : State) (t : Nat) : State :=
  if (s.tile t).fence.st = .rejoining then s.modFence t (fun f => { f with st := .fenced, rejoinStep := 0 })
  else if s.tileActive t ∨ (s.tile t).fence.st = .fencing then s.drainTile t else s
/-- The state in which every tile is in DRAIN. -/
def State.drainTiles (s : State) (c : Nat) : State := (s.drainIdle c).each (s.drainIdle c).tileNumbers State.drainOne
theorem State.enterDrain_eq (s : State) (c : Nat) : s.enterDrain c =
    let u : State := { s.drainTiles c with sup := { (s.drainTiles c).sup with onHold := (s.drainTiles c).sup.onHold || fromHold c } }
    if cutsMain c then u.cutMain else u := rfl

theorem State.count_part_dev_tiles (s : State) (num k : Nat) (b : Bool) :
    (if b then s.count num k else s).part = s.part ∧ (if b then s.count num k else s).dev = s.dev ∧
      (if b then s.count num k else s).tiles = s.tiles ∧ (if b then s.count num k else s).recs = s.recs := by
  cases b with
  | false => exact ⟨rfl, rfl, rfl, rfl⟩
  | true => exact ⟨State.count_part .., State.count_dev .., State.count_tiles .., State.count_recs ..⟩
theorem State.drainNoted_part (s : State) (c : Nat) : (s.drainNoted c).part = s.part :=
  (State.pev_part ..).trans ((State.goto_part ..).trans (s.count_part_dev_tiles Cn.DRAIN_ENTRIES 1 _).1)
theorem State.drainNoted_dev (s : State) (c : Nat) : (s.drainNoted c).dev = s.drainBegun c := by
  unfold State.drainNoted State.drainBegun
  rw [State.pev_dev, State.goto_dev]
  simp only [(s.count_part_dev_tiles Cn.DRAIN_ENTRIES 1 s.inService).2.1]
theorem State.drainNoted_tile (s : State) (c v : Nat) : (s.drainNoted c).tile v = s.tile v := by
  have htiles : (s.drainNoted c).tiles = s.tiles :=
    (State.pev_tiles ..).trans ((State.goto_tiles ..).trans (s.count_part_dev_tiles Cn.DRAIN_ENTRIES 1 _).2.2.1)
  simp only [State.tile, htiles]
theorem State.drainNoted_reports (s : State) (c : Nat) (h : 8 < s.recs.length) : (s.drainNoted c).pkgReports Ev.DRAIN_ENTERED := by
  refine State.pev_reports _ _ _ _ ?_
  rw [State.goto_recs_length]
  exact (congrArg List.length (s.count_part_dev_tiles Cn.DRAIN_ENTRIES 1 s.inService).2.2.2) ▸ h

section
variable {W : Nat → Prop}

theorem State.calms_drainServed (s : State) (c : Nat) : (s.drainNoted c).Calms W (s.drainServed c) :=
  (((((State.calms_abortScrub _ 2).trans (State.calms_abandonUpdate _)).trans (State.calms_keepErase _)).trans (State.calms_stopQueues _)).trans
    (State.calms_dropKeyChange _)).trans (State.calms_endSessions _ 4)
theorem State.drainServed_sessions (s : State) (c : Nat) : (s.drainServed c).mgmt.sessions = [] := congrArg Mgmt.sessions (State.endSessions_mgmt _ 4)
theorem State.calms_drainIdle (s : State) (c : Nat) : (s.drainServed c).Calms W (s.drainIdle c) :=
  State.calms_each _ _ _ (fun u p => u.calms_idlePort c p)
theorem State.drainIdle_down (s : State) (c p : Nat) (hp : p < 8) : ((s.drainIdle c).port p).up = false :=
  State.each_all (fun u p => (u.port p).up = false) (fun s' p => s'.idlePort c p) (fun u p => u.idlePort_down c p)
    (fun u x y h => (u.calms_idlePort (W := fun _ => False) c x).down y h) _ _ p (List.mem_range.2 hp)
theorem State.calms_drainOne (s : State) (t : Nat) (h : W t → (s.tile t).map.migs = []) : s.Calms W (s.drainOne t) := by
  unfold State.drainOne
  split
  case isTrue hrejoin =>
    refine ⟨rfl, rfl, fun _ h => h, fun v hv => ?_, fun h => h, fun r c => State.reports_of_recs s _ r c rfl,
      fun v _ => State.modTile_keeps Tile.written s t v _ (fun _ => rfl)⟩
    by_cases htv : t = v
    · rw [htv, hv] at hrejoin
      exact TileState.noConfusion hrejoin
    · rwa [State.modFence_eq, State.tile_modTile_ne _ _ _ _ htv]
  case isFalse => exact .ite (s.calms_drainTile t h) (.refl s)
theorem Tile.migs_of_written {x y : Tile} (h : x.written = y.written) : x.map.migs = y.map.migs := congrArg (fun w => w.2.2) h
/-- Tiles with no migration under way keep what their writes rest on. -/
theorem State.calms_drainTiles (s : State) (c : Nat) (h : ∀ t, W t → t < s.n → (s.tile t).map.migs = []) :
    (s.drainNoted c).Calms W (s.drainTiles c) := by
  have hidle : (s.drainNoted c).Calms W (s.drainIdle c) := (s.calms_drainServed c).trans (s.calms_drainIdle c)
  refine hidle.trans (State.each_induct ((s.drainIdle c).Calms W) _ _ _ (.refl _) (fun u t ht hu => hu.trans (u.calms_drainOne t (fun hw => ?_))))
  have htn : t < s.n := by
    have hlt := (State.mem_tileNumbers _ t).1 ht
    rwa [State.n, hidle.part, s.drainNoted_part] at hlt
  rw [Tile.migs_of_written ((hidle.trans hu).writes t hw), s.drainNoted_tile]
  exact h t hw htn

/-- What the begin of a DRAIN with cause `c` makes of a state. -/
structure State.Drains (W : Nat → Prop) (s u : State) (c : Nat) : Prop where
  st : u.dev.st = .drain
  cause : u.dev.drainCause = c
  memory : u.dev.memActive = false
  main : u.dev.mainUp = (s.dev.mainUp && !cutsMain c)
  sessions : u.mgmt.sessions = []
  reports : u.pkgReports Ev.DRAIN_ENTERED
  down : ∀ p, p < 8 → (u.port p).up = false
  writes : ∀ v, W v → (u.tile v).written = (s.tile v).written

theorem State.enterDrain_drains (s : State) (c : Nat) (hr : 8 < s.recs.length) (h : ∀ t, W t → t < s.n → (s.tile t).map.migs = []) :
    State.Drains W s (s.enterDrain c) c ∧ ∀ t, t < s.n → s.tileActive t = true → t ∈ (s.enterDrain c).flushOpen := by
  have hall := s.calms_drainTiles c h
  have hcourse : (s.drainTiles c).dev.course = (s.drainBegun c).course := by rw [hall.course, s.drainNoted_dev]
  have hdown (p : Nat) (hp : p < 8) : ((s.drainTiles c).port p).up = false :=
    (State.calms_each (W := fun _ => False) (s.drainIdle c) _ State.drainOne (fun u t => u.calms_drainOne t False.elim)).down p
      (s.drainIdle_down c p hp)
  have hsilent : (s.drainTiles c).mgmt.sessions = [] :=
    (State.calms_each (W := fun _ => False) (s.drainIdle c) _ State.drainOne (fun u t => u.calms_drainOne t False.elim)).silent
      ((s.calms_drainIdle (W := fun _ => False) c).silent (s.drainServed_sessions c))
  have hwrites (v : Nat) (hv : W v) : ((s.drainTiles c).tile v).written = (s.tile v).written := by rw [hall.writes v hv, s.drainNoted_tile]
  obtain ⟨hst, hcause, hmem, hmain, hdone, hstop⟩ := by simpa only [Device.course, State.drainBegun, Prod.mk.injEq] using hcourse
  have hopen (t : Nat) (ht : t < s.n) (ha : s.tileActive t = true) (u : State) (hpart : u.part = (s.drainTiles c).part)
      (htiles : u.tiles = (s.drainTiles c).tiles) (hud : u.dev.flushDone = (s.drainTiles c).dev.flushDone)
      (hus : u.dev.flushStop = (s.drainTiles c).dev.flushStop) : t ∈ u.flushOpen := by
    refine (State.mem_flushOpen u t).2 ⟨?_, .inl ?_, by rw [hud, hdone]; exact List.not_mem_nil, by rw [hus, hstop]; exact List.not_mem_nil⟩
    · rw [State.n, hpart, hall.part, s.drainNoted_part]
      exact ht
    · have hkept := hall.active t (by rw [s.drainNoted_tile]; exact of_decide_eq_true ha)
      simpa only [State.tile, htiles] using hkept
  rw [s.enterDrain_eq]
  cases hcut : cutsMain c with
  | false => exact ⟨⟨hst, hcause, hmem, by rw [hcut, Bool.not_false, Bool.and_true]; exact hmain, hsilent,
      hall.reports _ _ (s.drainNoted_reports c hr), hdown, hwrites⟩, fun t ht ha => hopen t ht ha _ rfl rfl rfl rfl⟩
  | true => exact ⟨⟨hst, hcause, hmem, by rw [hcut, Bool.not_true, Bool.and_false]; rfl, hsilent,
      hall.reports _ _ (s.drainNoted_reports c hr), hdown, hwrites⟩, fun t ht ha => hopen t ht ha _ rfl rfl rfl rfl⟩
/-- A trigger in a state in which tiles are fenced begins a DRAIN; it goes on while a tile has its flush to do. -/
theorem State.drainTrigger_drains (s : State) (c : Nat) (hf : s.fenceStates = true) (hs : s.Sized) (hact : ∃ t, t < s.n ∧ s.tileActive t = true)
    (h : ∀ t, W t → t < s.n → (s.tile t).map.migs = []) : State.Drains W s (s.drainTrigger c) c := by
  obtain ⟨t, ht, ha⟩ := hact
  obtain ⟨hdrains, hopen⟩ := s.enterDrain_drains c hs.package_recorder h
  have hgo : s.drainTrigger c = s.enterDrain c := (if_pos hf).trans (State.settleDrain_of_mem _ t (hopen t ht ha))
  rw [hgo]
  exact hdrains

end

theorem State.fenceStates_of_inService {s : State} (h : s.inService = true) : s.fenceStates = true := by
  obtain hst | hst := of_decide_eq_true h <;> simp [State.fenceStates, hst]

/-! ### The triggers (R409, R414, R484) -/

/-- What O55 asks of a DRAIN that begins. -/
def State.DrainBegins (s u : State) (c : Nat) : Prop :=
  u.dev.st = .drain ∧ u.dev.drainCause = c ∧ u.dev.memActive = false ∧ u.mgmt.sessions = [] ∧
    u.dev.mainUp = (s.dev.mainUp && !cutsMain c) ∧ u.pkgReports Ev.DRAIN_ENTERED ∧ (∀ p, p < 8 → (u.port p).up = false) ∧
    (∀ t, (u.tile t).med.slots = (s.tile t).med.slots ∧ (u.tile t).res.entries = (s.tile t).res.entries)
theorem State.Drains.begins {s s1 u : State} {c : Nat} (h : State.Drains (fun _ => True) s1 u c) (hmain : s1.dev.mainUp = s.dev.mainUp)
    (htiles : s1.tiles = s.tiles) : s.DrainBegins u c := by
  refine ⟨h.st, h.cause, h.memory, h.sessions, hmain ▸ h.main, h.reports, h.down, fun t => ?_⟩
  have hw : (u.tile t).written = (s.tile t).written := (h.writes t trivial).trans (by simp only [State.tile, htiles])
  exact ⟨congrArg (fun w => w.1) hw, congrArg (fun w => w.2.1) hw⟩
/-- A trigger after changes of pins, status bits and events only. -/
theorem State.drainTrigger_begins (s s1 : State) (c : Nat) (hs : s.Sized) (hin : s.inService = true) (hact : ∃ t, t < s.n ∧ s.tileActive t = true)
    (hmigs : ∀ t, t < s.n → (s.tile t).map.migs = []) (hpart : s1.part = s.part) (hdev : s1.dev = s.dev) (htiles : s1.tiles = s.tiles)
    (hports : s1.ports = s.ports) (hrecs : s1.recs.length = s.recs.length) : s.DrainBegins (s1.drainTrigger c) c := by
  have hn : s1.n = s.n := by simp only [State.n, hpart]
  have hf : s1.fenceStates = true := by
    rw [State.fenceStates, hdev]
    exact State.fenceStates_of_inService hin
  have hs1 : s1.Sized := ⟨by rw [hn, htiles]; exact hs.tiles, by rw [hn, hports]; exact hs.ports, hrecs.trans hs.recs⟩
  refine (s1.drainTrigger_drains c hf hs1 ?_ (fun t _ ht => ?_)).begins (by rw [hdev]) htiles
  · obtain ⟨t, ht, ha⟩ := hact
    have htile : s1.tile t = s.tile t := by simp only [State.tile, htiles]
    exact ⟨t, hn ▸ ht, decide_eq_true (htile ▸ of_decide_eq_true ha)⟩
  · rw [hn] at ht
    simpa only [State.tile, htiles] using hmigs t ht

/-- Where the object POWER_DOWN lies. -/
def powerDownPlace : ObPlace := { row := obRow Ob.POWER_DOWN 0 .one 4 .cmd (.between 1 1), i := 0, off := 0 }
theorem permits_powerDown (s : State) (q : Requester) : s.Permits q powerDownPlace 1 where
  here := s.findOb_cell powerDownPlace.row 0 (by decide) (by decide) rfl (by decide)
  command := .inl rfl
  path := rfl
  role := rfl
  range := rfl
  mask := rfl
  fits := by decide
  unlocked := rfl
  recorder := rfl
theorem State.command_powerDown (s : State) (q : Requester) (hin : s.inService = true) :
    s.command q powerDownPlace 1 = .now ((s.pev Ev.POWER_DOWN_REQUESTED q.code []).drainTrigger 2).ok := by
  have hgo : s.powerDown q 1 = ((s.pev Ev.POWER_DOWN_REQUESTED q.code []).drainTrigger 2).ok :=
    (if_neg (by decide)).trans (if_neg (by simp [hin]))
  exact congrArg _ hgo
/-- The answer to a command leaves what it has brought about but for the messages and the counters. -/
theorem State.Permits.write_answers {s u : State} {q : Requester} {p : ObPlace} {v : Nat} (ht : s.Takes q) (hin : s.inService = true)
    (h : s.Permits q p v) (hc : s.command q p v = .now u.ok) : ∃ out cnt, s.writeOb q p.cell p.row.size v = { u with out := out, cnt := cnt } := by
  obtain ⟨out, cnt, hanswer, -⟩ := u.answer_frame_one q (p.write v) p.cell 0 0 rfl rfl
  exact ⟨out, cnt, (s.oneOp_now q 2 _ _ _ _ ht ((h.runOp hin).trans hc)).trans hanswer⟩

section
variable (s : State) (hs : s.Sized) (hin : s.inService = true) (hact : ∃ t, t < s.n ∧ s.tileActive t = true)
  (hmigs : ∀ t, t < s.n → (s.tile t).map.migs = [])
include hs hin hact hmigs

theorem resetNLow_drains : ∃ u, exec .resetNLow s = .next u ∧ s.DrainBegins u 1 := by
  refine ⟨({ s with sup := { s.sup with resetN := false } } : State).drainTrigger 1, ?_,
    s.drainTrigger_begins _ 1 hs hin hact hmigs rfl rfl rfl rfl rfl⟩
  obtain hst | hst := of_decide_eq_true hin <;> (show execResetNLow s = _; simp only [execResetNLow, hst])
theorem seqInLow_drains : ∃ u, exec .seqInLow s = .next u ∧ s.DrainBegins u 3 := by
  refine ⟨({ s with sup := { s.sup with seqIn := false } } : State).drainTrigger 3, ?_,
    s.drainTrigger_begins _ 3 hs hin hact hmigs rfl rfl rfl rfl rfl⟩
  obtain hst | hst := of_decide_eq_true hin <;> (show execSeqInLow s = _; simp only [execSeqInLow, hst])
theorem pwrfailNLow_drains : ∃ u, exec .pwrfailNLow s = .next u ∧ s.DrainBegins u 4 := by
  refine ⟨(({ s with sup := { s.sup with pwrfailN := false } } : State).supplyBit 3).drainTrigger 4, ?_,
    s.drainTrigger_begins _ 4 hs hin hact hmigs (State.raise_part ..) (State.raise_dev ..) (State.raise_tiles ..) (State.raise_ports ..)
      (congrArg List.length (State.raise_recs ..))⟩
  obtain hst | hst := of_decide_eq_true hin <;> (show execPwrfailNLow s = _; simp only [execPwrfailNLow, hst])
theorem vinComparatorTrip_drains : ∃ u, exec .vinComparatorTrip s = .next u ∧ s.DrainBegins u 5 := by
  have hpowered : s.dev.st ≠ .unpowered := by obtain hst | hst := of_decide_eq_true hin <;> simp [hst]
  exact ⟨_, congrArg Host.Outcome.next (if_pos hpowered), s.drainTrigger_begins _ 5 hs hin hact hmigs (State.raise_part ..) (State.raise_dev ..)
    (State.raise_tiles ..) (State.raise_ports ..) (congrArg List.length (State.raise_recs ..))⟩
theorem vauxRemoved_drains : ∃ u, exec .vauxRemoved s = .next u ∧ s.DrainBegins u 6 := by
  let s1 : State := { s with sup := { s.sup with vauxGone := true } }
  refine ⟨((s1.railEvent (6 * s.n + 2) 0 3).supplyBit 1).drainTrigger 6,
    congrArg Host.Outcome.next (if_pos (show s1.fenceStates = true from State.fenceStates_of_inService hin)),
    s.drainTrigger_begins _ 6 hs hin hact hmigs ((State.raise_part ..).trans (State.pev_part ..)) ((State.raise_dev ..).trans (State.pev_dev ..))
      ((State.raise_tiles ..).trans (State.pev_tiles ..)) ((State.raise_ports ..).trans (State.pev_ports ..)) ?_⟩
  exact (congrArg List.length (State.raise_recs ..)).trans (State.pev_recs_length ..)
theorem powerDown_drains (q : Requester) (ht : s.Takes q) : ∃ u, exec (.powerDown q 1) s = .next u ∧ s.DrainBegins u 2 := by
  obtain ⟨out, cnt, hwrite⟩ := (permits_powerDown s q).write_answers ht hin (s.command_powerDown q hin)
  refine ⟨_, congrArg Host.Outcome.next hwrite, ?_⟩
  exact s.drainTrigger_begins (s.pev Ev.POWER_DOWN_REQUESTED q.code []) 2 hs hin hact hmigs (State.pev_part ..) (State.pev_dev ..)
    (State.pev_tiles ..) (State.pev_ports ..) (State.pev_recs_length ..)

end

/-! ### RESET_N in SAFE, VAUX out of service (R475, R484) -/

theorem resetNLow_reboots (s : State) (hst : s.dev.st = .safe) : ∃ u, exec .resetNLow s = .next u ∧ u.dev.st = .aux ∧ u.mgmt.booted = false ∧
    u.mgmt.sessions = [] ∧ u.keys = s.keys ∧ ∀ t, (u.tile t).med.slots = (s.tile t).med.slots := by
  let s1 : State := { s with sup := { s.sup with resetN := false } }
  have hkeys : (s1.endSessions 3).keys = s.keys := State.relock_keeps State.keys _ 3 (fun _ _ => rfl) (fun _ _ => rfl)
    (fun u t c => u.discardFlip_keeps State.keys t c (by simp) (by simp) (by simp)) (by simp)
  refine ⟨s1.rebootCores, ?_, ?_, rfl, ?_, ?_, fun t => ?_⟩
  · show execResetNLow s = _
    simp only [execResetNLow, hst, s1]
  · exact congrArg Device.st (State.goto_dev ((s1.endSessions 3).freeMailboxes none) .aux 15)
  · exact (congrArg Mgmt.sessions (State.goto_mgmt ((s1.endSessions 3).freeMailboxes none) .aux 15)).trans
      (congrArg Mgmt.sessions (s1.endSessions_mgmt 3))
  · exact (State.goto_keys ((s1.endSessions 3).freeMailboxes none) .aux 15).trans hkeys
  · exact (congrArg (fun x => x.med.slots) (State.goto_tile ((s1.endSessions 3).freeMailboxes none) .aux 15 t)).trans (State.relock_slots _ 3 t)
theorem vauxRemoved_unpowers (s : State) (hst : s.dev.st = .aux ∨ s.dev.st = .safe ∨ s.dev.st = .halted) :
    ∃ u, exec .vauxRemoved s = .next u ∧ u.dev.st = .unpowered ∧ u.keys.slots = s.keys.slots ∧ u.parts = s.parts ∧ u.mgmt.sessions = [] ∧
      u.fw.svnMin = s.fw.svnMin ∧ u.svc.owner = s.svc.owner ∧ u.out = s.out ∧
      ∀ t, t < s.tiles.length → (u.tile t).med.slots = (s.tile t).med.slots ∧ (u.tile t).map = (s.tile t).map ∧ (u.tile t).ps = (s.tile t).ps := by
  have hout : ¬s.fenceStates = true := by obtain h | h | h := hst <;> simp [State.fenceStates, h]
  have hdrain : s.dev.st ≠ .drain := by obtain h | h | h := hst <;> simp [h]
  refine ⟨s.unpower, congrArg Host.Outcome.next ((if_neg hout).trans (if_neg hdrain)), rfl, rfl, rfl, rfl, rfl, rfl, rfl, fun t ht => ?_⟩
  simp [State.unpower, State.tile, List.getD, List.getElem?_map, List.getElem?_zipIdx, List.getElem?_eq_getElem ht]

/-! ### O55 -/

/-- Settles O55: each cause comes to a trigger of R409 in a state that differs from the first in pins, status bits and events only. -/
theorem drainBegins : Obligations.DrainBegins := by
  unfold Obligations.DrainBegins
  refine ⟨fun s q c i hs hin hact hmigs hcause => ?_, fun s _ hst => resetNLow_reboots s hst, vauxRemoved_unpowers⟩
  obtain ⟨rfl, rfl⟩ | ⟨rfl, rfl, ht⟩ | ⟨rfl, rfl⟩ | ⟨rfl, rfl⟩ | ⟨rfl, rfl⟩ | ⟨rfl, rfl⟩ := hcause
  · exact resetNLow_drains s hs hin hact hmigs
  · exact powerDown_drains s hs hin hact hmigs q ht
  · exact seqInLow_drains s hs hin hact hmigs
  · exact pwrfailNLow_drains s hs hin hact hmigs
  · exact vinComparatorTrip_drains s hs hin hact hmigs
  · exact vauxRemoved_drains s hs hin hact hmigs

end Sys2Proof.Machine
end

section
/-! Proofs of 14_supplies_and_holdup.md: the rail scan and its reactions, VDDK, VDDC, the AVS link (R392 to R394, R401 to R404, R345). -/
namespace Sys2Proof.Machine
open Sys2Proof

/-! ### The scan (R401, R345) -/

/-- The state that has taken sample `mv` of the next sense point. -/
def State.sampled (s : State) (mv : Nat) : State := { s with sup := { s.sup with sense := modAt s.sup.sense s.sup.nextPoint (fun _ => mv) } }
/-- The state whose scan has gone on from a sample. -/
def State.scanned (s : State) (mv mw : Nat) : State := ((s.sampled mv).scanPower s.sup.nextPoint mw).scanOn
/-- A window that VHOLD's does not share rests on no earlier sample. -/
theorem State.inWindow_sampled (s : State) (r : Rail) (x mv : Nat) (h : r ≠ .vhold) : (s.sampled x).inWindow r mv = s.inWindow r mv := by
  cases r with
  | vhold => exact absurd rfl h
  | _ => rfl

/-- What a move of the scan keeps of a state. -/
structure State.Scans (s u : State) : Prop where
  part : u.part = s.part
  dev : u.dev = s.dev
  tiles : u.tiles = s.tiles
  ports : u.ports = s.ports
  recs : u.recs = s.recs
  sense : u.sup.sense = s.sup.sense
  suspects : s.sup.scanTiles = [] → u.sup.scanTiles = []
  power : u.feed.powerNow = s.feed.powerNow
theorem State.scans_scanOn (s : State) :
    s.Scans s.scanOn ∧ s.scanOn.sup.nextPoint = if s.sup.nextPoint + 1 < s.points then s.sup.nextPoint + 1 else 0 := by
  unfold State.scanOn
  split
  · exact ⟨⟨rfl, rfl, rfl, rfl, rfl, rfl, fun h => h, rfl⟩, rfl⟩
  · refine ⟨⟨State.count_part .., State.count_dev .., State.count_tiles .., State.count_ports .., State.count_recs .., ?_, fun _ => ?_,
      congrArg Feed.powerNow (State.count_feed ..)⟩, ?_⟩ <;> rw [State.count_sup] <;> rfl
/-- The reading of the VIN power moves with the last sample alone. -/
theorem State.scanPower_frame (s : State) (k mw : Nat) :
    ∃ feed, s.scanPower k mw = { s with feed := feed } ∧ feed.powerNow = if k + 1 < s.points then s.feed.powerNow else mw := by
  unfold State.scanPower
  split
  · exact ⟨_, rfl, rfl⟩
  · exact ⟨_, rfl, rfl⟩
theorem State.scanned_scans (s : State) (mv mw : Nat) :
    (s.scanned mv mw).part = s.part ∧ (s.scanned mv mw).dev = s.dev ∧ (s.scanned mv mw).tiles = s.tiles ∧ (s.scanned mv mw).ports = s.ports ∧
      (s.scanned mv mw).recs = s.recs ∧ (s.sup.scanTiles = [] → (s.scanned mv mw).sup.scanTiles = []) := by
  obtain ⟨feed, hfeed, -⟩ := (s.sampled mv).scanPower_frame s.sup.nextPoint mw
  obtain ⟨h, -⟩ := ((s.sampled mv).scanPower s.sup.nextPoint mw).scans_scanOn
  rw [hfeed] at h
  rw [State.scanned, hfeed]
  exact ⟨h.part, h.dev, h.tiles, h.ports, h.recs, h.suspects⟩
theorem State.Sized.scanned {s : State} (hs : s.Sized) (mv mw : Nat) : (s.scanned mv mw).Sized := by
  obtain ⟨hpart, -, htiles, hports, hrecs, -⟩ := s.scanned_scans mv mw
  exact ⟨by rw [State.n, hpart, htiles]; exact hs.tiles, by rw [State.n, hpart, hports]; exact hs.ports, by rw [hrecs]; exact hs.recs⟩

/-- Rails that a sample shows nothing else of than their window. -/
def Rail.plain : Rail → Bool
  | .vin => false
  | .vhold => false
  | .refLo => false
  | .refHi => false
  | _ => true
theorem State.seeRail_plain (s : State) (r : Rail) (mv : Nat) (h : r ≠ .vin) (h' : r ≠ .vhold) : s.seeRail r mv = s := by
  cases r with
  | vin => exact absurd rfl h
  | vhold => exact absurd rfl h'
  | _ => rfl
theorem State.scanPast_plain (s : State) (r : Rail) (mv : Nat) (h : r ≠ .vhold) : s.scanPast r mv = s.scanOn := if_neg fun hc => h hc.1
theorem Rail.plain_ne {r : Rail} (h : r.plain = true) : r ≠ .vin ∧ r ≠ .vhold ∧ ¬(r = .refLo ∨ r = .refHi) := by
  cases r with
  | vin => exact Bool.noConfusion h
  | vhold => exact Bool.noConfusion h
  | refLo => exact Bool.noConfusion h
  | refHi => exact Bool.noConfusion h
  | _ => simp
theorem exec_railSample_in (mv mw : Nat) (s : State) (hst : s.dev.st ≠ .unpowered) (hvin : railOf s.n s.sup.nextPoint ≠ .vin)
    (hhold : railOf s.n s.sup.nextPoint ≠ .vhold) (hok : s.inWindow (railOf s.n s.sup.nextPoint) mv = true) :
    exec (.railSample mv mw) s = .next (s.scanned mv mw) := by
  have hsee := (s.sampled mv).seeRail_plain (railOf s.n s.sup.nextPoint) mv hvin hhold
  have hpast := ((s.sampled mv).scanPower s.sup.nextPoint mw).scanPast_plain (railOf s.n s.sup.nextPoint) mv hhold
  have hin := (s.inWindow_sampled (railOf s.n s.sup.nextPoint) mv mv hhold).trans hok
  unfold State.sampled at hsee hpast hin
  refine congrArg Host.Outcome.next ((if_pos hst).trans ?_)
  simp only [hsee, hpast, hin, if_true]
  rfl
theorem exec_railSample_out (mv mw : Nat) (s : State) (hst : s.dev.st ≠ .unpowered) (hr : (railOf s.n s.sup.nextPoint).plain = true)
    (hout : s.inWindow (railOf s.n s.sup.nextPoint) mv = false) :
    exec (.railSample mv mw) s = .next ((s.scanned mv mw).badRail (railOf s.n s.sup.nextPoint) s.sup.nextPoint mv) := by
  obtain ⟨hvin, hhold, href⟩ := Rail.plain_ne hr
  have hsee := (s.sampled mv).seeRail_plain (railOf s.n s.sup.nextPoint) mv hvin hhold
  have hpast := ((s.sampled mv).scanPower s.sup.nextPoint mw).scanPast_plain (railOf s.n s.sup.nextPoint) mv hhold
  have hin := (s.inWindow_sampled (railOf s.n s.sup.nextPoint) mv mv hhold).trans hout
  unfold State.sampled at hsee hpast hin
  refine congrArg Host.Outcome.next ((if_pos hst).trans ?_)
  simp only [hsee, hpast, hin, href, Bool.false_eq_true, if_false]
  rfl
theorem railSample_scans (mv mw : Nat) (s : State) (hst : s.dev.st ≠ .unpowered) (hpoint : s.sup.nextPoint < s.sup.sense.length)
    (hvin : railOf s.n s.sup.nextPoint ≠ .vin) (hhold : railOf s.n s.sup.nextPoint ≠ .vhold)
    (hok : s.inWindow (railOf s.n s.sup.nextPoint) mv = true) :
    ∃ u, exec (.railSample mv mw) s = .next u ∧ u.sup.sense.getD s.sup.nextPoint 0 = mv ∧
      u.sup.nextPoint = (if s.sup.nextPoint + 1 < s.points then s.sup.nextPoint + 1 else 0) ∧ u.dev = s.dev ∧ u.tiles = s.tiles ∧ u.ports = s.ports ∧
      u.feed.powerNow = (if s.sup.nextPoint + 1 < s.points then s.feed.powerNow else mw) := by
  obtain ⟨feed, hfeed, hpower⟩ := (s.sampled mv).scanPower_frame s.sup.nextPoint mw
  obtain ⟨h, hnext⟩ := ((s.sampled mv).scanPower s.sup.nextPoint mw).scans_scanOn
  rw [hfeed] at h hnext
  refine ⟨_, exec_railSample_in mv mw s hst hvin hhold hok, ?_⟩
  rw [State.scanned, hfeed]
  refine ⟨?_, hnext, h.dev, h.tiles, h.ports, h.power.trans hpower⟩
  rw [h.sense]
  exact getD_modAt_same _ _ _ _ hpoint

/-! ### Rails out of their windows (R403, R404) -/

theorem Rail.plain_of_persistence {r : Rail} {t : Nat} (h : r.persistence = some t) : r.plain = true := by
  cases r with
  | vddk => rfl
  | vddq => rfl
  | vpgm => rfl
  | _ => cases h
theorem State.not_unpowered_of_fenceStates {s : State} (h : s.fenceStates = true) : s.dev.st ≠ .unpowered := by
  intro hst
  rw [State.fenceStates, hst] at h
  exact absurd h (by decide)
/-- The first persistence rail of a scan that is out of its window makes its tile a suspect. -/
theorem State.railFault_suspects (s : State) (r : Rail) (k mv t : Nat) (hr : r.persistence = some t) (ha : s.tileActive t = true)
    (hscan : s.sup.scanTiles = []) : s.railFault r k mv =
      (((({ s with sup := { s.sup with scanTiles := [t] } } : State).railEvent k mv 2).tev t Ev.TILE_RAIL_FAULT 0xFF k [(2, mv)]).supplyBit 0).suspect
        t 2 := by
  have hst : (s.tile t).fence.st = .active := of_decide_eq_true ha
  simp [State.railFault, hr, hst, hscan]
theorem railSample_fences (mv mw t : Nat) (s : State) (hs : s.Sized) (hf : s.fenceStates = true)
    (hr : (railOf s.n s.sup.nextPoint).persistence = some t) (ht : t < s.n) (hout : s.inWindow (railOf s.n s.sup.nextPoint) mv = false)
    (ha : s.tileActive t = true) (hscan : s.sup.scanTiles = []) :
    ∃ u, exec (.railSample mv mw) s = .next u ∧ (u.tile t).fence.st = .fencing ∧ (u.tile t).fence.cause = 2 ∧ u.tileReports t Ev.TILE_RAIL_FAULT ∧
      u.pkgReports Ev.RAIL_FAULT := by
  obtain ⟨hpart, hdev, htiles, hports, hrecs, hsus⟩ := s.scanned_scans mv mw
  have htile (v : Nat) : (s.scanned mv mw).tile v = s.tile v := by simp only [State.tile, htiles]
  have hf1 : (s.scanned mv mw).fenceStates = true := by rw [State.fenceStates, hdev]; exact hf
  have ha1 : (s.scanned mv mw).tileActive t = true := by rw [State.tileActive, htile]; exact ha
  have hexec := exec_railSample_out mv mw s (State.not_unpowered_of_fenceStates hf) (Rail.plain_of_persistence hr) hout
  rw [State.badRail, if_pos hf1, State.railFault_suspects _ _ _ _ t hr ha1 (hsus hscan)] at hexec
  have hsized := hs.scanned mv mw
  generalize s.scanned mv mw = c at hexec hpart hf1 ha1 hsized
  let c1 : State := { c with sup := { c.sup with scanTiles := [t] } }
  let c2 := (c1.railEvent s.sup.nextPoint mv 2).tev t Ev.TILE_RAIL_FAULT 0xFF s.sup.nextPoint [(2, mv)]
  have hcalm : (c2.supplyBit 0).part = c.part ∧ (c2.supplyBit 0).dev = c.dev ∧ (c2.supplyBit 0).tiles = c.tiles ∧ (c2.supplyBit 0).ports = c.ports ∧
      (c2.supplyBit 0).recs.length = c.recs.length := by
    refine ⟨?_, ?_, ?_, ?_, ?_⟩ <;> simp [c2, c1, State.supplyBit, State.railEvent]
  obtain ⟨h2part, h2dev, h2tiles, h2ports, h2recs⟩ := hcalm
  have hn : (c2.supplyBit 0).n = s.n := by rw [State.n, h2part, hpart, State.n]
  have hcn : c.n = s.n := by rw [State.n, hpart, State.n]
  have hs2 : (c2.supplyBit 0).Sized := ⟨by rw [hn, h2tiles, ← hcn]; exact hsized.tiles, by rw [hn, h2ports, ← hcn]; exact hsized.ports,
    h2recs.trans hsized.recs⟩
  have hsuspects := (c2.supplyBit 0).suspect_suspects t 2 (by rw [hn]; exact ht) hs2 (by rw [State.fenceStates, h2dev]; exact hf1)
    (by rw [State.tileActive, State.tile, h2tiles]; exact ha1)
  have hrec : 8 < c1.recs.length := hsized.package_recorder
  refine ⟨_, hexec, hsuspects.st, hsuspects.cause, hsuspects.reports _ _ (State.reports_raise _ _ _ _ _ _ (State.tev_reports _ _ _ _ _ _ ?_)),
    hsuspects.reports _ _ (State.reports_raise _ _ _ _ _ _ (State.reports_tev _ _ _ _ _ _ _ _ (State.pev_reports _ _ _ _ hrec)))⟩
  rw [State.railEvent, State.pev_recs_length]
  exact hsized.tile_recorder (hcn ▸ ht)

/-- Rails whose fault in service starts a DRAIN with cause 6. -/
def Rail.running : Rail → Bool
  | .vddp _ => true
  | .vdda _ => true
  | .vddc _ => true
  | .vddio => true
  | _ => false
theorem State.railFault_running (s : State) (r : Rail) (k mv : Nat) (h : r.running = true) :
    s.railFault r k mv = ((s.railEvent k mv 3).supplyBit 1).drainTrigger 6 := by
  cases r with
  | vddp => rfl
  | vdda => rfl
  | vddc => rfl
  | vddio => rfl
  | _ => exact Bool.noConfusion h
theorem Rail.plain_of_running {r : Rail} (h : r.running = true) : r.plain = true := by
  cases r with
  | vddp => rfl
  | vdda => rfl
  | vddc => rfl
  | vddio => rfl
  | _ => exact Bool.noConfusion h
theorem railSample_drains (mv mw t : Nat) (s : State) (hs : s.Sized) (hin : s.inService = true)
    (hr : railOf s.n s.sup.nextPoint = .vddp t ∨ railOf s.n s.sup.nextPoint = .vdda t ∨ railOf s.n s.sup.nextPoint = .vddc t ∨
      railOf s.n s.sup.nextPoint = .vddio)
    (hout : s.inWindow (railOf s.n s.sup.nextPoint) mv = false) (hact : ∃ v, v < s.n ∧ s.tileActive v = true) :
    ∃ u, exec (.railSample mv mw) s = .next u ∧ u.dev.st = .drain ∧ u.dev.drainCause = 6 ∧ u.dev.memActive = false ∧
      u.pkgReports Ev.DRAIN_ENTERED := by
  have hrun : (railOf s.n s.sup.nextPoint).running = true := by obtain h | h | h | h := hr <;> rw [h] <;> rfl
  have hf := State.fenceStates_of_inService hin
  obtain ⟨hpart, hdev, htiles, hports, hrecs, -⟩ := s.scanned_scans mv mw
  have hexec := exec_railSample_out mv mw s (State.not_unpowered_of_fenceStates hf) (Rail.plain_of_running hrun) hout
  rw [State.badRail, if_pos (by rw [State.fenceStates, hdev]; exact hf), State.railFault_running _ _ _ _ hrun] at hexec
  have hcalm : (s.scanned mv mw).Calms (fun _ => False) (((s.scanned mv mw).railEvent s.sup.nextPoint mv 3).supplyBit 1) :=
    (State.calms_pev ..).trans (State.calms_raise ..)
  have hsized := hs.scanned mv mw
  have hn : (((s.scanned mv mw).railEvent s.sup.nextPoint mv 3).supplyBit 1).n = s.n := by rw [State.n, hcalm.part, hpart, State.n]
  have hsn : (s.scanned mv mw).n = s.n := by rw [State.n, hpart, State.n]
  have hs2 : (((s.scanned mv mw).railEvent s.sup.nextPoint mv 3).supplyBit 1).Sized := by
    refine ⟨?_, ?_, ?_⟩ <;> simp [State.supplyBit, State.railEvent, hsized.tiles, hsized.ports, hsized.recs]
  have hdrains := State.drainTrigger_drains (W := fun _ => False) _ 6 (by
    have hst := congrArg (fun c => c.1) hcalm.course
    rw [State.fenceStates, show (((s.scanned mv mw).railEvent s.sup.nextPoint mv 3).supplyBit 1).dev.st = s.dev.st from hst.trans (by rw [← hdev]; rfl)]
    exact hf) hs2 (by
    obtain ⟨v, hv, ha⟩ := hact
    refine ⟨v, hn ▸ hv, decide_eq_true (hcalm.active v ?_)⟩
    rw [State.tile, htiles]
    exact of_decide_eq_true ha) (fun _ => False.elim)
  exact ⟨_, hexec, hdrains.st, hdrains.cause, hdrains.memory, hdrains.reports⟩

theorem railSample_converts (mv mw : Nat) (s : State) (hs : s.Sized) (hst : s.dev.st ≠ .unpowered)
    (hr : railOf s.n s.sup.nextPoint = .refLo ∨ railOf s.n s.sup.nextPoint = .refHi) (hout : s.inWindow (railOf s.n s.sup.nextPoint) mv = false) :
    ∃ u, exec (.railSample mv mw) s = .next u ∧ u.sup.converter = 1 - s.sup.converter ∧ u.sup.convFault = true ∧ u.sup.nextPoint = 0 ∧
      u.pkgReports Ev.CONVERTER_FAULT ∧ u.tiles = s.tiles := by
  have hvin : railOf s.n s.sup.nextPoint ≠ .vin := by obtain h | h := hr <;> rw [h] <;> exact Rail.noConfusion
  have hhold : railOf s.n s.sup.nextPoint ≠ .vhold := by obtain h | h := hr <;> rw [h] <;> exact Rail.noConfusion
  have hexec : exec (.railSample mv mw) s = .next ((s.sampled mv).converterFault mv) := by
    have hsee := (s.sampled mv).seeRail_plain (railOf s.n s.sup.nextPoint) mv hvin hhold
    have hin := (s.inWindow_sampled (railOf s.n s.sup.nextPoint) mv mv hhold).trans hout
    unfold State.sampled at hsee hin
    refine congrArg Host.Outcome.next ((if_pos hst).trans ?_)
    simp only [hsee, hin, hr, Bool.false_eq_true, if_false, if_true]
    rfl
  refine ⟨_, hexec, ?_, ?_, ?_, State.reports_degrade _ _ _ (State.pev_reports _ _ _ _ ?_), ?_⟩
  · rw [State.converterFault, State.degrade_sup, State.pev_sup, State.supplyBit, State.raise_sup]
    rfl
  · rw [State.converterFault, State.degrade_sup, State.pev_sup, State.supplyBit, State.raise_sup]
  · rw [State.converterFault, State.degrade_sup, State.pev_sup, State.supplyBit, State.raise_sup]
  · rw [State.supplyBit, State.raise_recs]
    exact hs.package_recorder
  · rw [State.converterFault, State.degrade_tiles, State.pev_tiles, State.supplyBit, State.raise_tiles]
    rfl

/-! ### VDDK (R392, R395) -/

/-- From `s` to `u` the supply of tile `t` may change but for its command, its margin and its need; the medium and the other tiles stand. -/
structure State.Tracks (t : Nat) (s u : State) : Prop where
  listed : u.tiles.length = s.tiles.length
  vddk : (u.tile t).sup.vddk = (s.tile t).sup.vddk
  margin : (u.tile t).sup.margin = (s.tile t).sup.margin
  need : (u.tile t).sup.need = (s.tile t).sup.need
  med : (u.tile t).med = (s.tile t).med
  others : ∀ v, v ≠ t → u.tile v = s.tile v
theorem State.Tracks.refl (t : Nat) (s : State) : s.Tracks t s := ⟨rfl, rfl, rfl, rfl, rfl, fun _ _ => rfl⟩
theorem State.Tracks.trans {t : Nat} {s u v : State} (a : s.Tracks t u) (b : u.Tracks t v) : s.Tracks t v :=
  ⟨b.listed.trans a.listed, b.vddk.trans a.vddk, b.margin.trans a.margin, b.need.trans a.need, b.med.trans a.med,
    fun w h => (b.others w h).trans (a.others w h)⟩
theorem State.Tracks.ite {t : Nat} {s u v : State} {c : Prop} [Decidable c] (a : s.Tracks t u) (b : s.Tracks t v) :
    s.Tracks t (if c then u else v) := by
  split
  · exact a
  · exact b
theorem State.Tracks.of_tiles {t : Nat} {s u : State} (h : u.tiles = s.tiles) : s.Tracks t u := by
  have htile (v : Nat) : u.tile v = s.tile v := by simp only [State.tile, h]
  exact ⟨congrArg _ h, by rw [htile], by rw [htile], by rw [htile], by rw [htile], fun v _ => htile v⟩
theorem State.tracks_btLimit (s : State) (t : Nat) (b : Bool) : s.Tracks t (s.modSup t (fun y => { y with btLimit := b })) :=
  ⟨State.modTile_tiles_length .., State.modTile_keeps (fun x => x.sup.vddk) s t t _ (fun _ => rfl),
    State.modTile_keeps (fun x => x.sup.margin) s t t _ (fun _ => rfl), State.modTile_keeps (fun x => x.sup.need) s t t _ (fun _ => rfl),
    State.modTile_keeps Tile.med s t t _ (fun _ => rfl), fun v h => State.tile_modTile_ne s t v _ h.symm⟩
/-- The supply of a tile as a measurement leaves it, before its limit is judged. -/
def TileSup.measured (x : TileSup) (now : Nat) (margin : Int) (need : Nat) : TileSup := { x.track now margin with
  margin := margin, need := need, vddkFloor := min x.vddkFloor (x.track now margin).vddk,
  okSince := if margin < 200 then none else some (x.okSince.getD now) }
theorem exec_replicaMeasure (t : Nat) (margin : Int) (need : Nat) (s : State) (ht : t < s.n) (hup : (s.tile t).sup.railsUp = true) :
    ∃ u, exec (.replicaMeasure t margin need) s = .next u ∧
      (s.modSup t (fun _ => (s.tile t).sup.measured (s.now t) margin need)).Tracks t u := by
  refine ⟨_, congrArg Host.Outcome.next (if_pos ⟨ht, hup⟩), ?_⟩
  extract_lets now old new s1 s2
  have h2 : s1.Tracks t s2 := .ite (.of_tiles (State.tcount_tiles ..)) (.ite (.of_tiles (State.tcount_tiles ..)) (.refl t s1))
  refine h2.trans (.ite (.ite (.refl t s2) ((s2.tracks_btLimit t true).trans (.of_tiles ?_))) (.ite (s2.tracks_btLimit t false) (.refl t s2)))
  rw [State.degrade_tiles, State.supplyBit, State.raise_tiles, State.tev_tiles]
theorem TileSup.track_low (x : TileSup) (now : Nat) (margin : Int) (h : margin < 200) : (x.track now margin).vddk = min 850 (x.vddk + 5) := by
  rw [TileSup.track, if_pos h]
theorem TileSup.track_within (x : TileSup) (now : Nat) (margin : Int) (h : 200 ≤ margin) (h' : margin ≤ 600) : (x.track now margin).vddk = x.vddk := by
  rw [TileSup.track, if_neg (by omega), if_neg (by omega)]
theorem TileSup.track_high (x : TileSup) (now a : Nat) (margin : Int) (h : 600 < margin) (ha : x.above6 = some a) (hdue : a + 100000 ≤ now) :
    (x.track now margin).vddk = max 600 (x.vddk - 5) := by
  rw [TileSup.track, if_neg (by omega), if_pos h, ha]
  simp only [if_pos hdue]
theorem replicaMeasure_tracks (t : Nat) (margin : Int) (need : Nat) (s : State) (hs : s.Sized) (ht : t < s.n) (hup : (s.tile t).sup.railsUp = true) :
    ∃ u, exec (.replicaMeasure t margin need) s = .next u ∧ (u.tile t).sup.margin = margin ∧ (u.tile t).sup.need = need ∧
      (margin < 200 → (u.tile t).sup.vddk = min 850 ((s.tile t).sup.vddk + 5)) ∧
      (200 ≤ margin → margin ≤ 600 → (u.tile t).sup.vddk = (s.tile t).sup.vddk) ∧
      (∀ a, 600 < margin → (s.tile t).sup.above6 = some a → a + 100000 ≤ s.now t →
        (u.tile t).sup.vddk = max 600 ((s.tile t).sup.vddk - 5)) ∧
      (∀ v, v ≠ t → u.tile v = s.tile v) ∧ (u.tile t).med = (s.tile t).med := by
  obtain ⟨u, hexec, h⟩ := exec_replicaMeasure t margin need s ht hup
  have hsup : ((s.modSup t (fun _ => (s.tile t).sup.measured (s.now t) margin need)).tile t).sup =
      (s.tile t).sup.measured (s.now t) margin need := by
    rw [State.modSup_eq, State.tile_modTile_same _ _ _ (hs.tile_listed ht)]
  have hvddk : (u.tile t).sup.vddk = ((s.tile t).sup.track (s.now t) margin).vddk := by
    rw [h.vddk, hsup]
    rfl
  refine ⟨u, hexec, by rw [h.margin, hsup]; rfl, by rw [h.need, hsup]; rfl, fun hlow => ?_, fun hlow hhigh => ?_, fun a hhigh ha hdue => ?_,
    fun v hv => (h.others v hv).trans (State.tile_modTile_ne _ _ _ _ hv.symm), h.med.trans (State.modTile_keeps Tile.med s t t _ (fun _ => rfl))⟩
  · rw [hvddk, TileSup.track_low _ _ _ hlow]
  · rw [hvddk, TileSup.track_within _ _ _ hlow hhigh]
  · rw [hvddk, TileSup.track_high _ _ a _ hhigh ha hdue]

/-! ### VDDC and the AVS link (R393, R394) -/

theorem avsCommand_follows (s : State) (hmain : s.dev.mainUp = true) (hlost : s.sup.avsLost = false) (hon : s.sup.vddcCmd ≠ 0)
    (hdue : s.sup.vddcAt + 100000 ≤ s.pkgNow) :
    let want := min 900 (max 650 ((s.activeTiles.map (fun t => (s.tile t).sup.need)).foldl max 0 + 10))
    want ≠ s.sup.vddcCmd →
    ∃ u, exec .avsCommand s = .next u ∧ u.sup.vddcCmd = want ∧ u.sup.vddcAt = s.pkgNow ∧ u.tiles = s.tiles ∧
      u.counter Cn.AVS_COMMANDS = (s.counter Cn.AVS_COMMANDS + 1) % 2 ^ 48 := by
  intro want hwant
  let s1 : State := { s with sup := { s.sup with vddcCmd := want, vddcFrom := s.vddcNow, vddcAt := s.pkgNow } }
  exact ⟨s1.count Cn.AVS_COMMANDS 1, congrArg Host.Outcome.next (if_pos ⟨hmain, by rw [hlost]; rfl, hon, hwant, hdue⟩),
    congrArg Supply.vddcCmd (State.count_sup ..), congrArg Supply.vddcAt (State.count_sup ..), State.count_tiles ..,
    State.counter_count_same s1 Cn.AVS_COMMANDS 1 hmain⟩
theorem avsLinkLost_degrades (s : State) (hs : s.Sized) (hmain : s.dev.mainUp = true) (hlost : s.sup.avsLost = false) :
    ∃ u, exec .avsLinkLost s = .next u ∧ u.sup.avsLost = true ∧ u.pkgReports Ev.AVS_LINK_LOST ∧
      (s.dev.st = .ready → u.dev.st = .degraded) ∧ u.tiles = s.tiles := by
  let s1 : State := { s with sup := { s.sup with avsLost := true } }
  have hsup : ((s1.supplyBit 5).pev Ev.AVS_LINK_LOST 0 []).sup = s1.sup := (State.pev_sup ..).trans (State.raise_sup ..)
  refine ⟨_, congrArg Host.Outcome.next (if_pos ⟨hmain, by rw [hlost]; rfl⟩), ?_, State.reports_degrade _ _ _ (State.pev_reports _ _ _ _ ?_),
    fun hst => State.degrade_st_of_ready _ ?_ ?_, ?_⟩
  · rw [State.degrade_sup, hsup]
  · rw [State.supplyBit, State.raise_recs]
    exact hs.package_recorder
  · rw [State.pev_dev, State.supplyBit, State.raise_dev]
    exact hst
  · simp only [State.degradedCondition, hsup, s1, Bool.or_true, Bool.true_or]
  · rw [State.degrade_tiles, State.pev_tiles, State.supplyBit, State.raise_tiles]

/-! ### O58 -/

/-- Settles O58: a clause for each kind of sample, one for the measurement of a tile's margin, two for the AVS link. -/
theorem supplyIsWatched : Obligations.SupplyIsWatched := by
  unfold Obligations.SupplyIsWatched
  exact ⟨fun mv mw s hst _ hpoint hvin hhold hok => railSample_scans mv mw s hst hpoint hvin hhold hok, railSample_fences, railSample_drains,
    railSample_converts, replicaMeasure_tracks, avsCommand_follows, avsLinkLost_degrades⟩

end Sys2Proof.Machine
end

section
/-! Proofs of 15_object_dictionary.md: how an operation of the dictionary ends, and the commands that nothing bars (R421, R425, R428, R429, R432). -/
namespace Sys2Proof.Machine
open Sys2Proof

/-! ### The end of an operation (R425, R429) -/

/-- A message that holds one operation is handed its answer; beside the messages and the counts of the server nothing follows. -/
theorem State.answer_ends (s : State) (q : Requester) (o : StaebOp) (code detail : Nat) (data : List Nat) (hsub : o.sub < 256) :
    ∃ out cnt, s.answer q 0 false [respRecord code o s.dev.st.code detail data] = { s with out := out, cnt := cnt } ∧
      s.Replies { s with out := out, cnt := cnt } q (o.index * 256 + o.sub) code detail data := by
  obtain ⟨out, cnt, h⟩ := s.answer_frame q 0 false [respRecord code o s.dev.st.code detail data]
  have hone : respRecord code o s.dev.st.code detail data =
      respRecord code { op := 0, sub := (o.index * 256 + o.sub) % 256, index := (o.index * 256 + o.sub) / 256, value := [] } s.dev.st.code detail
        data := by
    have hs : (o.index * 256 + o.sub) % 256 = o.sub := by omega
    have hi : (o.index * 256 + o.sub) / 256 = o.index := by omega
    simp only [respRecord, hs, hi]
  refine ⟨out, cnt, h, ?_⟩
  rw [← h, State.Replies, hone, State.answer_one]
  simp only [oneRecord, State.answer_dev]
/-- What the log of an error leaves is all that an operation's end adds to its result. -/
theorem finishOp_frame (q : Requester) (o : StaebOp) (r : Result) : ∃ obj cnt recs,
    (finishOp q o r).1 = { r.st with obj := obj, cnt := cnt, recs := recs } ∧
    (r.code = 0 → (finishOp q o r).1 = r.st) := by
  by_cases hcode : r.code = 0
  · exact ⟨r.st.obj, r.st.cnt, r.st.recs, by rw [finishOp_ok q o r hcode], fun _ => by rw [finishOp_ok q o r hcode]⟩
  · obtain ⟨obj, cnt, recs, hlog⟩ := r.st.logError_frame q r.code r.detail (r.named.getD (o.index % 65536 * 256 + o.sub % 256))
    refine ⟨obj, cnt, recs, ?_, fun h => absurd h hcode⟩
    simp only [finishOp, if_neg hcode, hlog]
/-- An operation that ends at once: its result, the log of its error if it has one, and its answer. -/
theorem State.Takes.oneOp_ends {s : State} {q : Requester} (ht : s.Takes q) {op index sub : Nat} {value : List Nat} {r : Result} (hsub : sub < 256)
    (hr : s.runOp q { op := op, sub := sub, index := index, value := value } = .now r) (hout : r.st.out = s.out) :
    ∃ out cnt, s.oneOp q op index sub value =
        { (finishOp q { op := op, sub := sub, index := index, value := value } r).1 with out := out, cnt := cnt } ∧
      s.Replies { (finishOp q { op := op, sub := sub, index := index, value := value } r).1 with out := out, cnt := cnt } q (index * 256 + sub) r.code
        r.detail r.data := by
  obtain ⟨out, cnt, hanswer, hreply⟩ := State.answer_ends (finishOp q { op := op, sub := sub, index := index, value := value } r).1 q
    { op := op, sub := sub, index := index, value := value } r.code r.detail r.data hsub
  obtain ⟨obj, cnt', recs, hframe, -⟩ := finishOp_frame q { op := op, sub := sub, index := index, value := value } r
  refine ⟨out, cnt, (s.oneOp_now q op index sub value r ht hr).trans hanswer, ?_⟩
  rw [State.Replies, ← hout]
  refine hreply.trans ?_
  rw [hframe]
/-- A successful operation leaves what it has brought about. -/
theorem State.Takes.oneOp_done {s u : State} {q : Requester} (ht : s.Takes q) {op index sub : Nat} {value data : List Nat} (hsub : sub < 256)
    (hr : s.runOp q { op := op, sub := sub, index := index, value := value } = .now (u.done data)) (hout : u.out = s.out) :
    ∃ out cnt, s.oneOp q op index sub value = { u with out := out, cnt := cnt } ∧
      s.Replies { u with out := out, cnt := cnt } q (index * 256 + sub) 0 0 data := by
  have h := ht.oneOp_ends hsub hr hout
  rwa [finishOp_ok _ _ _ rfl] at h

/-! ### Commands (R421, R427, R432) -/

section
variable {s u : State} {q : Requester} {p : ObPlace} {v : Nat}

/-- In service, and below 0x3000 at any time, the write of a permitted command runs it. -/
theorem State.Permits.runOp_open (h : s.Permits q p v) (ho : s.inService = true ∨ p.cell / 256 < 0x3000) : s.runOp q (p.write v) = s.command q p v := by
  obtain hin | hlow := ho
  · exact h.runOp hin
  · have hv : s.writeMask p (ofBytesLE (bytesLE p.row.size v)) = v := by rw [ofBytesLE_bytesLE_of_lt _ _ h.fits, h.mask]
    have hconfig : p.isConfig = false := by obtain hc | hc := h.command <;> simp [ObPlace.isConfig, hc]
    have haccess : ¬(p.access = .ro ∨ s.pathFor q p = false) := by
      rw [h.path]
      obtain hc | hc := h.command <;> simp [hc]
    have hfault : s.writeFault q (p.cell / 256) p (bytesLE p.row.size v) v = none := by
      unfold State.writeFault
      rw [if_neg haccess]
      simp only [h.role, h.range, h.unlocked, h.recorder, bytesLE_length, ne_eq, not_true_eq_false, Bool.not_true, Bool.false_eq_true, if_false,
        if_neg (show ¬(0x3000 ≤ p.cell / 256 ∧ s.shutting = true) by omega)]
    have hwrite := s.writeOp_command q (p.cell / 256) p (bytesLE p.row.size v) (by rw [hv]; exact hfault) hconfig h.command
    rw [hv] at hwrite
    rw [← hwrite]
    unfold State.runOp ObPlace.write
    rw [if_neg (by simp only []; omega), h.here]
    rfl
theorem ObPlace.cell_parts (p : ObPlace) : p.cell / 256 * 256 + p.cell % 256 = p.cell := by omega
/-- A command that ends at once, by its result. -/
theorem State.Permits.write_ends (ht : s.Takes q) (h : s.Permits q p v) (ho : s.inService = true ∨ p.cell / 256 < 0x3000) {r : Result}
    (hc : s.command q p v = .now r) (hout : r.st.out = s.out) :
    ∃ out cnt, s.writeOb q p.cell p.row.size v = { (finishOp q (p.write v) r).1 with out := out, cnt := cnt } ∧
      s.Replies { (finishOp q (p.write v) r).1 with out := out, cnt := cnt } q p.cell r.code r.detail r.data := by
  have hends := ht.oneOp_ends (Nat.mod_lt _ (by decide)) ((h.runOp_open ho).trans hc) hout
  rwa [p.cell_parts] at hends
/-- A command that returns data. -/
theorem State.Permits.write_returns (ht : s.Takes q) (h : s.Permits q p v) (ho : s.inService = true ∨ p.cell / 256 < 0x3000) {data : List Nat}
    (hc : s.command q p v = .now (u.done data)) (hout : u.out = s.out) :
    ∃ out cnt, s.writeOb q p.cell p.row.size v = { u with out := out, cnt := cnt } ∧ s.Replies { u with out := out, cnt := cnt } q p.cell 0 0 data := by
  have hends := h.write_ends ht ho hc hout
  rwa [finishOp_ok _ _ _ rfl] at hends

end

/-! ### Commands that nothing bars but their range -/

/-- Objects whose write is masked, locked or open to some requesters only. -/
def barredObs : List Nat := ownerObs ++ installedObs ++ [Ob.KEY_LOAD, Ob.KEY_ERASE, Ob.FLIP_MASK, Ob.FLIP_PARTITION, Ob.FLIP_ARM, Ob.PAIR_PORT_MODE,
  Ob.PART_TILE_SET, Ob.CLASS_TILES, Ob.HDM_KX_CFG, Ob.DCR_CFG, Ob.CNT_WINDOW_GRANT, Ob.ALERT_MASK, Ob.REC_SUMMARY, Ob.PART_SEG_BASE]
/-- Whether a row is one of a command that nothing bars but its range. -/
def ObRow.free (r : ObRow) : Bool := decide (r.acc = .cmd) && !barredObs.contains r.key && decide (r ∈ obRows)
theorem permits_free (s : State) (q : Requester) (row : ObRow) (i v : Nat) (hfree : row.free = true) (hi : i < row.inst.span)
    (hh : s.instHere row i = true) (hrange : s.inRange ⟨row, i, 0⟩ v = true) (hfits : v < 256 ^ row.size)
    (hrec : row.inst = .tile → (s.tile i).fence.st ≠ .fenced) : s.Permits q ⟨row, i, 0⟩ v := by
  simp only [ObRow.free, Bool.and_eq_true, decide_eq_true_eq, Bool.not_eq_true', barredObs, ownerObs, installedObs, List.cons_append, List.nil_append,
    List.contains_cons, List.contains_nil, Bool.or_eq_false_iff, beq_eq_false_iff_ne] at hfree
  obtain ⟨⟨hcmd, hkeys⟩, hlisted⟩ := hfree
  obtain ⟨k1, k2, k3, k4, k5, k6, k7, k8, k9, k10, k11, k12, k13, k14, k15, k16, k17, k18, k19, k20, k21, k22, k23, k24, -⟩ := hkeys
  have haccess : ObPlace.access ⟨row, i, 0⟩ = .cmd := by simp [ObPlace.access, ObPlace.key, k1, hcmd]
  refine ⟨s.findOb_cell row i hlisted hi hh k24, .inl haccess, ?_, ?_, hrange, ?_, hfits, ?_, ?_⟩
  · simp [State.pathFor, k8, k11, k12]
  · simp [State.rightsFor, ownerObs, installedObs, k1, k2, k3, k4, k5, k6, k7, k8, k9, k10]
  · simp [State.writeMask, k16, k17, k18, k19, k20, k21, k22]
  · simp [State.locked, k13, k14, k15]
  · unfold State.recorderGone ObPlace.recorderOf
    simp only [if_neg k23]
    by_cases hown : row.inst = .tile ∧ row.key / 256 = 0xA010
    · rw [if_pos hown]
      exact decide_eq_false (hrec hown.1)
    · rw [if_neg hown]

end Sys2Proof.Machine
end

section
/-! Proofs of 16_counters.md: snapshots (R450). -/
namespace Sys2Proof.Machine
open Sys2Proof

/-! ### What counting leaves of the counters' other state -/

/-- What neither the live counters nor the corrected lines hold, a count leaves. -/
theorem State.count_cnt_keeps {β : Type} (g : Counters → β) (s : State) (num k : Nat)
    (h : ∀ (c : Counters) live corrected, g { c with live := live, corrected := corrected } = g c) : g (s.count num k).cnt = g s.cnt := by
  unfold State.count
  split
  · exact h _ _ _
  · rfl
theorem State.answer_cnt_keeps {β : Type} (g : Counters → β) (s : State) (q : Requester) (tag : Nat) (stop : Bool) (recs : List (List Nat))
    (h : ∀ (c : Counters) live corrected, g { c with live := live, corrected := corrected } = g c) : g (s.answer q tag stop recs).cnt = g s.cnt := by
  unfold State.answer
  split
  · exact (State.count_cnt_keeps g _ _ _ h).trans (State.count_cnt_keeps g s _ _ h)
  · exact State.count_cnt_keeps g s _ _ h

/-! ### A message that waits alone goes on (R426, R427) -/

/-- The state without its messages. -/
def State.unwaited (s : State) : State := { s with mgmt := { s.mgmt with messages := [] } }
/-- The one message, whose operation was its last, is answered. -/
theorem State.resumeAll_of_only {s : State} {q : Requester} {key : Nat} {w : Wait} (h : s.OnlyWaits q key w) (f : Message → Bool)
    (hf : ∀ m : Message, m.waiting = w → f m = true) : ∃ recs, s.resumeAll f = s.unwaited.answer q 0 false recs ∧
      s.Replies (s.unwaited.answer q 0 false recs) q key 0 0 [] := by
  obtain ⟨m, hm, hq, hw, hi, hs, hrest, hdone, htag, hstop⟩ := h
  have hrecs : m.done ++ [respRecord 0 m.cur s.dev.st.code 0 []] =
      [respRecord 0 { op := 0, sub := key % 256, index := key / 256, value := [] } s.unwaited.dev.st.code 0 []] := by
    rw [hdone]
    simp only [respRecord, hi, hs, List.nil_append]
    rfl
  refine ⟨_, ?_, (s.unwaited.answer_one q key 0 0 []).trans (by simp only [oneRecord, State.answer_dev]; rfl)⟩
  rw [State.resumeAll, hm, List.filter_cons_of_pos (hf m hw), List.filter_nil, State.each_cons, State.each_nil, State.resume, hm]
  have hgone : [m].erase m = [] := by simp
  have hproceed : State.proceed s.unwaited m.req m.tag m.stop m.rest m.failed (m.done ++ [respRecord 0 m.cur s.dev.st.code 0 []]) =
      s.unwaited.answer q 0 false
        [respRecord 0 { op := 0, sub := key % 256, index := key / 256, value := [] } s.unwaited.dev.st.code 0 []] := by
    rw [hrecs, hrest, hq, htag, hstop]
    rfl
  have hturn (u : State) (hu : u.mgmt.messages = []) : u.runTurns 1 = u := by
    simp [State.runTurns, State.nextTurn, hu]
  simp only [hgone, List.length_singleton]
  rw [show ({ s with mgmt := { s.mgmt with messages := [] } } : State) = s.unwaited from rfl, hproceed]
  exact hturn _ (by rw [State.answer_mgmt]; rfl)

/-! ### A snapshot (R450) -/

/-- The row of CNT_SNAPSHOT. -/
def cntSnapshotRow : ObRow := obRow Ob.CNT_SNAPSHOT 0 .one 4 .cmd (.orValue 0 7 0xFF)
theorem cntSnapshot_opens (q : Requester) (v : Nat) (s : State) (ht : s.Takes q) (hin : s.inService = true)
    (hv : (v < s.n ∧ s.tileActive v = true) ∨ v = 0xFF) (hnone : s.cnt.snapArg = none) :
    ∃ u, exec (.cntSnapshot q v) s = .next u ∧ u.cnt.snapSeq = s.cnt.snapSeq + 1 ∧ u.cnt.snapArg = some v ∧
      u.cnt.snapAt = s.pkgNow + 10000 ∧ s.Waits u q Ob.CNT_SNAPSHOT .snapshot ∧ u.tiles = s.tiles := by
  have height := s.n_le_eight
  have hrange : v < 8 ∨ v = 0xFF := hv.imp_left (fun h => by omega)
  have hp : s.Permits q ⟨cntSnapshotRow, 0, 0⟩ v := permits_free s q cntSnapshotRow 0 v (by decide +kernel) (by decide) rfl
    (by simp only [State.inRange, cntSnapshotRow, obRow, Bool.or_eq_true, decide_eq_true_eq]; omega)
    (show v < 256 ^ 4 by omega) (fun h => ObInst.noConfusion h)
  have hthere : ¬(v ≠ 0xFF ∧ ¬(v < s.n ∧ s.tileActive v = true)) := fun h => hv.elim h.2 h.1
  have hcommand : s.command q ⟨cntSnapshotRow, 0, 0⟩ v = s.cntSnapshot v := rfl
  rw [State.cntSnapshot, if_neg (not_not_intro hrange), if_neg hthere, hnone] at hcommand
  obtain ⟨m, hwrite, hwaits⟩ := hp.write_waits ht hin hcommand rfl rfl
  exact ⟨_, congrArg Host.Outcome.next hwrite, rfl, rfl, rfl, hwaits, rfl⟩

/-- No key of a rising list is below its bound. -/
theorem Sparse.le_of_mem_rising {α : Type} (m : Sparse α) (lo : Nat) (h : Sparse.risingFrom lo m = true) (x : Nat × α) (hx : x ∈ m) : lo ≤ x.1 := by
  induction m generalizing lo with
  | nil => exact absurd hx List.not_mem_nil
  | cons a m ih =>
    simp only [Sparse.risingFrom, Bool.and_eq_true, decide_eq_true_eq] at h
    obtain rfl | hx := List.mem_cons.1 hx
    · exact h.1
    · have hbelow := ih _ h.2 hx
      omega
theorem Sparse.getD_of_mem_rising {α : Type} (m : Sparse α) (lo : Nat) (h : Sparse.risingFrom lo m = true) (x : Nat × α) (hx : x ∈ m) (d : α) :
    m.getD x.1 d = x.2 := by
  induction m generalizing lo with
  | nil => exact absurd hx List.not_mem_nil
  | cons a m ih =>
    obtain ⟨k, v⟩ := a
    simp only [Sparse.risingFrom, Bool.and_eq_true, decide_eq_true_eq] at h
    obtain rfl | hx := List.mem_cons.1 hx
    · simp [Sparse.getD, Sparse.find]
    · have hbelow : k + 1 ≤ x.1 := Sparse.le_of_mem_rising m _ h.2 x hx
      simp only [Sparse.getD, Sparse.find, if_neg (show k ≠ x.1 by omega)]
      exact ih _ h.2 hx
theorem Sparse.getD_of_not_mem {α : Type} (m : Sparse α) (k : Nat) (d : α) (h : k ∉ m.map Prod.fst) : m.getD k d = d := by
  induction m with
  | nil => rfl
  | cons a m ih =>
    simp only [List.map_cons, List.mem_cons, not_or] at h
    simp only [Sparse.getD, Sparse.find, if_neg (Ne.symm h.1)]
    exact ih h.2
/-- A group that latches has the values of its live counters in its bank. -/
theorem Counters.latch_getD (c : Counters) (g k : Nat) (hwf : c.live.wf = true) (hk : counterGroup k = g) :
    (c.latch g).snap.getD k 0 = c.live.getD k 0 := by
  have hvalue : ∀ x ∈ c.live.filter (fun x => decide (counterGroup x.1 = g)), x.1 = k → x.2 = c.live.getD k 0 := by
    rintro x hx rfl
    exact (Sparse.getD_of_mem_rising _ 0 hwf x (List.mem_of_mem_filter hx) 0).symm
  refine (getD_foldl_insert _ _ k _ 0 hvalue).trans ?_
  split
  · rfl
  next hnot =>
    have hkept : k ∉ (c.snap.filter (fun x => decide (counterGroup x.1 ≠ g))).map Prod.fst := by
      rintro hmem
      obtain ⟨x, hx, rfl⟩ := List.mem_map.1 hmem
      exact of_decide_eq_true (List.mem_filter.1 hx).2 hk
    have hlive : k ∉ c.live.map Prod.fst := by
      rintro hmem
      obtain ⟨x, hx, rfl⟩ := List.mem_map.1 hmem
      exact hnot (List.mem_map.2 ⟨x, List.mem_filter.2 ⟨hx, decide_eq_true hk⟩, rfl⟩)
    rw [Sparse.getD_of_not_mem _ _ _ hkept, Sparse.getD_of_not_mem _ _ _ hlive]

/-- The counters as the snapshot of tile `t` leaves them. -/
def Counters.closed (c : Counters) (t : Nat) : Counters :=
  { c.latch t with snapSeq := c.snapSeq + 1, snapTime := c.snapAt, snapArg := none, snapDone := [] }
theorem State.latchReached_one (s : State) (t : Nat) (ht : t < s.n) (ha : s.tileActive t = true) (harg : s.cnt.snapArg = some t)
    (hdone : s.cnt.snapDone = []) (hat : s.cnt.snapAt ≤ s.now t) :
    s.latchReached = (({ s with cnt := s.cnt.closed t } : State).count Cn.CNT_SNAPSHOTS 1, true) := by
  have height := s.n_le_eight
  have hgroups (u : State) (hu : u.cnt.snapArg = some t) (hua : u.tileActive t = true) : u.snapGroups = [t] := by
    unfold State.snapGroups
    rw [hu]
    simp only [if_neg (show t ≠ 0xFF by omega), hua, if_true]
  have hreached : s.snapReached = [t] := by
    rw [State.snapReached, hgroups s harg ha, hdone]
    simp [show t ≠ 8 by omega, hat]
  have hlatched : s.each s.snapReached (fun s' g => { s' with cnt := s'.cnt.latch g }) = { s with cnt := s.cnt.latch t } := by rw [hreached]; rfl
  unfold State.latchReached
  simp only [hlatched]
  rw [hgroups { s with cnt := s.cnt.latch t } harg ha, if_pos]
  · rfl
  · simp [harg, hdone, Counters.latch]
theorem cntSnapshotLatch_closes (q : Requester) (t : Nat) (s : State) (ht : t < s.n) (ha : s.tileActive t = true) (harg : s.cnt.snapArg = some t)
    (hdone : s.cnt.snapDone = []) (hat : s.cnt.snapAt ≤ s.now t) (hwf : s.cnt.live.wf = true) (hw : s.OnlyWaits q Ob.CNT_SNAPSHOT .snapshot) :
    ∃ u, exec .cntSnapshotLatch s = .next u ∧ u.cnt.snapArg = none ∧ u.cnt.snapSeq = s.cnt.snapSeq + 1 ∧ u.cnt.snapTime = s.cnt.snapAt ∧
      (∀ c, counterGroup c = t → u.cnt.snap.getD c 0 = s.cnt.live.getD c 0) ∧ s.Replies u q Ob.CNT_SNAPSHOT 0 0 [] ∧
      u.mgmt.messages = [] ∧ u.tiles = s.tiles := by
  let s1 : State := ({ s with cnt := s.cnt.closed t } : State).count Cn.CNT_SNAPSHOTS 1
  have hw1 : s1.OnlyWaits q Ob.CNT_SNAPSHOT .snapshot := by
    simpa only [State.OnlyWaits, s1, State.count_mgmt] using hw
  obtain ⟨recs, hresume, hreply⟩ := State.resumeAll_of_only hw1 (fun m => decide (m.waiting = .snapshot)) (fun m hm => decide_eq_true hm)
  have hkeep {β : Type} (g : Counters → β) (h : ∀ (c : Counters) live corrected, g { c with live := live, corrected := corrected } = g c) :
      g (s1.unwaited.answer q 0 false recs).cnt = g (s.cnt.closed t) :=
    (State.answer_cnt_keeps g _ _ _ _ _ h).trans (State.count_cnt_keeps g _ _ _ h)
  have hexec : exec .cntSnapshotLatch s = .next (s1.resumeAll (fun m => decide (m.waiting = .snapshot))) := by
    show execCntSnapshotLatch s = _
    unfold execCntSnapshotLatch
    rw [s.latchReached_one t ht ha harg hdone hat]
    rfl
  rw [hresume] at hexec
  have hout : s1.out = s.out := State.count_out ..
  refine ⟨_, hexec, hkeep Counters.snapArg (fun _ _ _ => rfl), hkeep Counters.snapSeq (fun _ _ _ => rfl),
    hkeep Counters.snapTime (fun _ _ _ => rfl), fun c hc => ?_, ?_, ?_, ?_⟩
  · exact (congrArg (fun m => Sparse.getD m c 0) (hkeep Counters.snap (fun _ _ _ => rfl))).trans (s.cnt.latch_getD t c hwf hc)
  · rw [State.Replies, ← hout]
    exact hreply
  · rw [State.answer_mgmt]
    rfl
  · rw [State.answer_tiles]
    exact State.count_tiles ..

end Sys2Proof.Machine
end

section
/-! Proofs of 17_recorder_and_parameter_store.md: commands of the recorders, publishing, saving (R456 to R465, R470, R471). -/
namespace Sys2Proof.Machine
open Sys2Proof

/-! ### Recorders -/

theorem State.rec_modRec_same (s : State) (r : Nat) (f : Recorder → Recorder) (h : r < s.recs.length) : (s.modRec r f).rec_ r = f (s.rec_ r) :=
  getD_modAt_same _ _ _ _ h
theorem State.rec_modRec_ne (s : State) (r v : Nat) (f : Recorder → Recorder) (h : r ≠ v) : (s.modRec r f).rec_ v = s.rec_ v :=
  getD_modAt_ne _ _ _ _ _ h
/-- What a change of a recorder does not touch in it, no recorder loses. -/
theorem State.rec_modRec_keeps {β : Type} (g : Recorder → β) (s : State) (r v : Nat) (f : Recorder → Recorder) (h : ∀ x, g (f x) = g x) :
    g ((s.modRec r f).rec_ v) = g (s.rec_ v) := by
  by_cases hr : r = v
  · subst hr
    by_cases hl : r < s.recs.length
    · rw [s.rec_modRec_same r f hl, h]
    · simp [State.rec_, State.modRec, List.getD, getElem?_modAt_same, List.getElem?_eq_none (Nat.le_of_not_lt hl)]
  · rw [s.rec_modRec_ne r v f hr]
theorem State.pev_rec_keeps {β : Type} (g : Recorder → β) (s : State) (code value : Nat) (qs : List (Nat × Nat)) (v : Nat)
    (h : ∀ (x : Recorder) l, g { x with staged := l } = g x) : g ((s.pev code value qs).rec_ v) = g (s.rec_ v) := by
  unfold State.pev State.pevAt State.stage State.rec_
  rw [State.count_recs]
  exact State.rec_modRec_keeps g s 8 v _ (fun _ => h ..)
theorem State.Sized.recorder {s : State} (hs : s.Sized) {r : Nat} (h : r ≤ 8) : r < s.recs.length := by
  rw [hs.recs]
  omega

/-! ### Commands (R460, R463, R464) -/

/-- The row of REC_NEXT. -/
def recNextRow : ObRow := obRow Ob.REC_NEXT 0 .tile 4 .cmd .any
/-- The row of REC_PKG_NEXT. -/
def recPkgNextRow : ObRow := obRow Ob.REC_PKG_NEXT 0 .one 4 .cmd .any
/-- The row of REC_RELEASE. -/
def recReleaseRow : ObRow := obRow Ob.REC_RELEASE 0 .tile 4 .cmd .any
/-- The row of REC_PKG_RELEASE. -/
def recPkgReleaseRow : ObRow := obRow Ob.REC_PKG_RELEASE 0 .one 4 .cmd .any
/-- The row of REC_CLEAR. -/
def recClearRow : ObRow := obRow Ob.REC_CLEAR 0 .one 4 .cmd (.orTwo 0 7 0x10 0xFF)
/-- The argument of a command of a tile's recorder is taken while the tile is not FENCED. -/
theorem permits_tileRecorder (s : State) (q : Requester) (row : ObRow) (t v : Nat) (hfree : row.free = true) (htile : row.inst = .tile)
    (hsize : row.size = 4) (hany : row.range = .any) (ht : t < s.n) (hf : (s.tile t).fence.st ≠ .fenced) (hv : v < 2 ^ 32) :
    s.Permits q ⟨row, t, 0⟩ v := by
  have height := s.n_le_eight
  refine permits_free s q row t v hfree ?_ ?_ (by simp [State.inRange, hany]) (by rw [hsize]; exact hv) (fun _ => hf)
  · rw [htile]
    show t < 8
    omega
  · simp [State.instHere, htile, ht]
theorem permits_package (s : State) (q : Requester) (row : ObRow) (v : Nat) (hfree : row.free = true) (hone : row.inst = .one)
    (hsize : row.size = 4) (hany : row.range = .any) (hv : v < 2 ^ 32) : s.Permits q ⟨row, 0, 0⟩ v :=
  permits_free s q row 0 v hfree (by rw [hone]; decide) (by simp [State.instHere, hone]) (by simp [State.inRange, hany]) (by rw [hsize]; exact hv)
    (fun h => absurd (hone.symm.trans h) (by decide))
theorem recNext_returns (q : Requester) (t seq : Nat) (s : State) (hq : s.Takes q) (hin : s.inService = true) (ht : t < s.n)
    (hf : (s.tile t).fence.st ≠ .fenced) (hseq : seq < 2 ^ 32) :
    ∃ u, exec (.recNext q t seq) s = .next u ∧ s.Replies u q (Ob.inst Ob.REC_NEXT t) 0 0 (s.recNext t seq) ∧ u.recs = s.recs ∧ u.tiles = s.tiles := by
  obtain ⟨out, cnt, hwrite, hreply⟩ := (permits_tileRecorder s q recNextRow t seq (by decide +kernel) rfl rfl rfl ht hf hseq).write_returns hq (.inl hin)
    (u := s) (data := s.recNext t seq) rfl rfl
  exact ⟨_, congrArg Host.Outcome.next hwrite, hreply, rfl, rfl⟩
theorem recPkgNext_returns (q : Requester) (seq : Nat) (s : State) (hq : s.Takes q) (hin : s.inService = true) (hseq : seq < 2 ^ 32) :
    ∃ u, exec (.recPkgNext q seq) s = .next u ∧ s.Replies u q Ob.REC_PKG_NEXT 0 0 (s.recNext 8 seq) ∧ u.recs = s.recs ∧ u.tiles = s.tiles := by
  obtain ⟨out, cnt, hwrite, hreply⟩ := (permits_package s q recPkgNextRow seq (by decide +kernel) rfl rfl rfl hseq).write_returns hq (.inl hin)
    (u := s) (data := s.recNext 8 seq) rfl rfl
  exact ⟨_, congrArg Host.Outcome.next hwrite, hreply, rfl, rfl⟩
/-- The state in which recorder `r` has a release waiting for its publish. -/
def State.releasing (s : State) (r v : Nat) : State := s.modRec r (fun x => { x with releaseTo := x.releaseTo ++ [v] })
theorem State.recRelease_later (s : State) (r v : Nat) (h : v ≤ (s.rec_ r).head) : s.recRelease r v = .later (s.releasing r v) (.publish [r]) :=
  if_neg (by omega)
theorem recRelease_waits (q : Requester) (t seq : Nat) (s : State) (hq : s.Takes q) (hin : s.inService = true) (hs : s.Sized) (ht : t < s.n)
    (hf : (s.tile t).fence.st ≠ .fenced) (hhead : seq ≤ (s.rec_ t).head) (hseq : seq < 2 ^ 32) :
    ∃ u, exec (.recRelease q t seq) s = .next u ∧ (u.rec_ t).releaseTo = (s.rec_ t).releaseTo ++ [seq] ∧ (u.rec_ t).ring = (s.rec_ t).ring ∧
      s.Waits u q (Ob.inst Ob.REC_RELEASE t) (.publish [t]) ∧ u.tiles = s.tiles := by
  have hrec := s.rec_modRec_same t (fun x => { x with releaseTo := x.releaseTo ++ [seq] }) (hs.tile_recorder ht)
  obtain ⟨m, hwrite, hwaits⟩ := (permits_tileRecorder s q recReleaseRow t seq (by decide +kernel) rfl rfl rfl ht hf hseq).write_waits hq hin
    (s.recRelease_later t seq hhead) rfl rfl
  exact ⟨_, congrArg Host.Outcome.next hwrite, (congrArg Recorder.releaseTo hrec :), (congrArg Recorder.ring hrec :), hwaits, rfl⟩
theorem recPkgRelease_waits (q : Requester) (seq : Nat) (s : State) (hq : s.Takes q) (hin : s.inService = true) (hs : s.Sized)
    (hhead : seq ≤ (s.rec_ 8).head) (hseq : seq < 2 ^ 32) :
    ∃ u, exec (.recPkgRelease q seq) s = .next u ∧ (u.rec_ 8).releaseTo = (s.rec_ 8).releaseTo ++ [seq] ∧ (u.rec_ 8).ring = (s.rec_ 8).ring ∧
      s.Waits u q Ob.REC_PKG_RELEASE (.publish [8]) ∧ u.tiles = s.tiles := by
  have hrec := s.rec_modRec_same 8 (fun x => { x with releaseTo := x.releaseTo ++ [seq] }) hs.package_recorder
  obtain ⟨m, hwrite, hwaits⟩ := (permits_package s q recPkgReleaseRow seq (by decide +kernel) rfl rfl rfl hseq).write_waits hq hin
    (s.recRelease_later 8 seq hhead) rfl rfl
  exact ⟨_, congrArg Host.Outcome.next hwrite, (congrArg Recorder.releaseTo hrec :), (congrArg Recorder.ring hrec :), hwaits, rfl⟩
theorem recClear_waits (q : Requester) (s : State) (hq : s.Takes q) (hin : s.inService = true) (hs : s.Sized) :
    ∃ u, exec (.recClear q 0x10) s = .next u ∧ (u.rec_ 8).clears = (s.rec_ 8).clears ++ [0x10] ∧ (u.rec_ 8).sums = (s.rec_ 8).sums ∧
      u.pkgReports Ev.REC_CLEARED ∧ s.Waits u q Ob.REC_CLEAR (.publish [8]) ∧ u.tiles = s.tiles := by
  let s1 := s.modRec 8 (fun x => { x with clears := x.clears ++ [0x10] })
  have hp : s.Permits q ⟨recClearRow, 0, 0⟩ 0x10 := permits_free s q recClearRow 0 0x10 (by decide +kernel) (by decide) rfl rfl (by decide)
    (fun h => ObInst.noConfusion h)
  have hrec : s1.rec_ 8 = _ := s.rec_modRec_same 8 (fun x => { x with clears := x.clears ++ [0x10] }) hs.package_recorder
  obtain ⟨m, hwrite, hwaits⟩ := hp.write_waits hq hin (u := s1.pev Ev.REC_CLEARED 0x10 []) (w := .publish [8]) rfl (State.pev_out ..)
    (State.pev_mgmt ..)
  refine ⟨_, congrArg Host.Outcome.next hwrite, ?_, ?_, ?_, hwaits, State.pev_tiles ..⟩
  · exact (s1.pev_rec_keeps Recorder.clears _ _ _ 8 (fun _ _ => rfl)).trans (congrArg Recorder.clears hrec :)
  · exact (s1.pev_rec_keeps Recorder.sums _ _ _ 8 (fun _ _ => rfl)).trans (congrArg Recorder.sums hrec :)
  · refine State.reports_of_recs (s1.pev Ev.REC_CLEARED 0x10 []) _ 8 _ rfl (State.pev_reports _ _ _ _ ?_)
    exact (length_modAt _ _ _).symm ▸ hs.package_recorder

/-! ### A publish (R458, R460, R462) -/

/-- Recorder `r` as its publish begins: clears and releases have taken effect, nothing is staged. -/
def State.publishBegun (s : State) (r : Nat) : State := s.modRec r (fun x => { x.applyWrites r (s.now (s.recTile r)) with
  staged := [], seq := (x.seq + 2) % 2 ^ 32, nextPublish := s.now (s.recTile r) + s.publishTicks })
theorem State.wantSave_frame (s : State) (r : Nat) (grave : Bool) : ∃ recs, s.wantSave r grave = { s with recs := recs } := by
  unfold State.wantSave
  split
  · exact ⟨_, rfl⟩
  · exact ⟨_, rfl⟩
/-- A wish to save changes nothing else of a recorder. -/
theorem State.wantSave_keeps {β : Type} (g : Recorder → β) (s : State) (r v : Nat) (grave : Bool)
    (h : ∀ (x : Recorder) c w, g { x with changed := c, saveWanted := w } = g x) : g ((s.wantSave r grave).rec_ v) = g (s.rec_ v) := by
  have hone (u : State) (t : Nat) : g ((u.modRec t (fun y => { y with changed := true, saveWanted := y.saveWanted || grave })).rec_ v) = g (u.rec_ v) :=
    u.rec_modRec_keeps g t v _ (fun _ => h ..)
  unfold State.wantSave
  split
  · exact hone s r
  · exact (hone _ 1).trans (hone s 0)
theorem State.wantSave_changed (s : State) (r : Nat) (grave : Bool) (hl : s.recs.length = 9) :
    ((s.wantSave r grave).rec_ (if r < 8 then r else 0)).changed = true := by
  unfold State.wantSave
  split
  · exact congrArg Recorder.changed (s.rec_modRec_same r _ (by omega))
  · exact (congrArg Recorder.changed (State.rec_modRec_ne _ 1 0 _ (by decide))).trans
      (congrArg Recorder.changed (s.rec_modRec_same 0 _ (by omega)))
theorem State.publishLeft_done {s : State} {r : Nat} {m : Message} (h : m.waiting = .publish [r]) :
    s.publishLeft r m = { m with waiting := .publish [] } := by
  simp [State.publishLeft, h]
theorem exec_recPublish (r : Nat) (s : State) (h : s.publishDue r = true) : exec (.recPublish r) s =
    .next (({ s.publish r with mgmt := { (s.publish r).mgmt with
      messages := (s.publish r).mgmt.messages.map ((s.publish r).publishLeft r) } } : State).resumeAll (fun m => decide (m.waiting = .publish []))) :=
  congrArg Host.Outcome.next (if_pos h)
theorem Recorder.applyWrites_cleared (x : Recorder) (r now : Nat) (h : x.clears ≠ []) : ∀ y ∈ (x.applyWrites r now).sums, y.2.count = 0 := by
  intro y hy
  have hsums : (x.applyWrites r now).sums =
      (recCodes r).map (fun c => (c, { Summary.empty now with tile := (x.sums.getD c (Summary.empty 0)).tile })) :=
    if_neg (fun hc => h (List.isEmpty_iff.1 hc))
  rw [hsums] at hy
  obtain ⟨c, -, rfl⟩ := List.mem_map.1 hy
  rfl
theorem State.publish_cleared (s : State) (r : Nat) (hst : (s.rec_ r).staged = []) (hcl : (s.rec_ r).clears ≠ []) :
    s.publish r = (s.publishBegun r).wantSave r false := by
  unfold State.publish
  simp only [hst, List.isEmpty_nil, List.any_nil, State.each_nil, List.isEmpty_eq_false_iff.2 hcl]
  rfl
theorem recPublish_clears (q : Requester) (r : Nat) (s : State) (hr : r ≤ 8) (hs : s.Sized) (hdue : s.publishDue r = true)
    (hst : (s.rec_ r).staged = []) (hcl : (s.rec_ r).clears ≠ []) (hw : s.OnlyWaits q Ob.REC_CLEAR (.publish [r])) :
    ∃ u, exec (.recPublish r) s = .next u ∧ s.Replies u q Ob.REC_CLEAR 0 0 [] ∧ u.mgmt.messages = [] ∧ (u.rec_ r).clears = [] ∧
      (∀ x ∈ (u.rec_ r).sums, x.2.count = 0) ∧ (u.rec_ r).head = (s.rec_ r).head ∧ u.tiles = s.tiles := by
  obtain ⟨recs, hframe⟩ := (s.publishBegun r).wantSave_frame r false
  have hrec : (s.publishBegun r).rec_ r = _ := s.rec_modRec_same r _ (hs.recorder hr)
  have hkeep {β : Type} (g : Recorder → β) (h : ∀ (x : Recorder) c w, g { x with changed := c, saveWanted := w } = g x) :
      g ((s.publish r).rec_ r) = g ((s.publishBegun r).rec_ r) := by
    rw [s.publish_cleared r hst hcl]
    exact (s.publishBegun r).wantSave_keeps g r r false h
  have hpub : s.publish r = { s.publishBegun r with recs := recs } := (s.publish_cleared r hst hcl).trans hframe
  let s2 : State := { s.publish r with mgmt := { (s.publish r).mgmt with messages := (s.publish r).mgmt.messages.map ((s.publish r).publishLeft r) } }
  have hw2 : s2.OnlyWaits q Ob.REC_CLEAR (.publish []) := by
    obtain ⟨m, hm, hq, hwait, hi, hsub, hrest, hdone, htag, hstop⟩ := hw
    refine ⟨{ m with waiting := .publish [] }, ?_, hq, rfl, hi, hsub, hrest, hdone, htag, hstop⟩
    have hmessages : (s.publish r).mgmt.messages = [m] := by rw [hpub]; exact hm
    show (s.publish r).mgmt.messages.map ((s.publish r).publishLeft r) = _
    rw [hmessages, List.map_singleton, State.publishLeft_done hwait]
  obtain ⟨recs', hresume, hreply⟩ := State.resumeAll_of_only hw2 (fun m => decide (m.waiting = .publish [])) (fun m hm => decide_eq_true hm)
  have hexec := exec_recPublish r s hdue
  rw [show _ = _ from hresume] at hexec
  have hrecs : ((s2.unwaited.answer q 0 false recs').rec_ r) = (s.publish r).rec_ r := by rw [State.rec_, State.answer_recs]; rfl
  refine ⟨_, hexec, ?_, by rw [State.answer_mgmt]; rfl, ?_, ?_, ?_, ?_⟩
  · have hout : s2.out = s.out := by rw [show s2.out = (s.publish r).out from rfl, hpub]; rfl
    rw [State.Replies, ← hout]
    exact hreply
  · rw [hrecs, hkeep Recorder.clears (fun _ _ _ => rfl), hrec]
    rfl
  · rw [hrecs, hkeep Recorder.sums (fun _ _ _ => rfl), hrec]
    exact Recorder.applyWrites_cleared _ _ _ hcl
  · rw [hrecs, hkeep Recorder.head (fun _ _ _ => rfl), hrec]
    rfl
  · rw [State.answer_tiles, show s2.unwaited.tiles = (s.publish r).tiles from rfl, hpub]
    rfl

/-! ### An occurrence becomes an entry (R456, R457, R461, R462) -/

/-- Recorder `y` once occurrence `o` has taken a token and its entry a place of the ring. -/
def Recorder.merged (y : Recorder) (o : Occ) (b : RateBucket) (ring : List RecEntry) : Recorder :=
  { y with sums := y.sums.insert o.code ((y.sums.getD o.code (Summary.empty 0)).add o), head := y.head + 1, ring := ring,
           buckets := y.buckets.insert o.code { b with level := b.level - 10 ^ 9 },
           supprSince := y.supprSince.filter (fun c => decide (c ≠ o.code)) }
theorem State.mergeOcc_takes (s : State) (r : Nat) (o : Occ) (ring : List RecEntry) (hr : r < s.recs.length)
    (hlevel : 10 ^ 9 ≤ (s.bucketAt (s.rec_ r) o.code o.ts).level)
    (hplace : placeEntry (recRingSize r) (s.rec_ r).ring ((s.rec_ r).entryOf o) = some ring) :
    (s.mergeOcc r o).2 = true ∧ (s.mergeOcc r o).1.rec_ r = (s.rec_ r).merged o (s.bucketAt (s.rec_ r) o.code o.ts) ring ∧
      ∃ recs, (s.mergeOcc r o).1 = { s with recs := recs } ∧ recs.length = s.recs.length := by
  unfold State.mergeOcc
  extract_lets x b sum e took
  rw [if_neg (Nat.not_lt.2 hlevel), show placeEntry (recRingSize r) x.ring e = some ring from hplace]
  exact ⟨rfl, s.rec_modRec_same r _ hr, _, rfl, length_modAt _ _ _⟩
/-- Posting an occurrence is about the logs of the logical devices and the messages. -/
theorem State.post_keeps {β : Type} (g : State → β) (s : State) (o : Occ) (bytes : List Nat) (hl : ∀ u p l f, g (State.modLd u p l f) = g u)
    (ho : ∀ (u : State) ms, g { u with out := ms } = g u) : g (s.post o bytes) = g s := by
  have hlog (u : State) (k log kind code ts b : Nat) : g (u.postLog k log kind code ts b) = g u := by
    unfold State.postLog
    extract_lets x p was s1
    split
    · rw [ho]
      exact hl ..
    · exact hl ..
  unfold State.post
  extract_lets sev vendor fatal all s1
  have hall (u : State) (log kind b : Nat) : g (all u log kind b) = g u := State.each_keeps g _ _ _ (fun _ _ => hlog ..)
  have h1 : g s1 = g s := by
    show g (if fatal = true then all s 3 0 vendor else s) = g s
    split
    · exact hall ..
    · rfl
  rw [← h1]
  split
  · rfl
  · split
    · exact hall ..
    · split
      · exact hlog ..
      · split
        · exact State.each_keeps g _ _ _ (fun _ _ => hlog ..)
        · exact hall ..
theorem State.alert_rec_ne (s : State) (b v : Nat) (h : 8 ≠ v) : (s.alert b).rec_ v = s.rec_ v := by
  unfold State.alert
  extract_lets mask was s1 is
  have h1 : s1.rec_ v = s.rec_ v := by simp only [State.rec_, s1, State.raise_recs]
  split
  · unfold State.pev State.pevAt State.stage State.rec_
    rw [State.count_recs]
    exact (s1.rec_modRec_ne 8 v _ h).trans h1
  · exact h1
theorem Recorder.applyWrites_none (x : Recorder) (r now : Nat) (hc : x.clears = []) (hrel : x.releaseTo = []) (hring : ∀ e ∈ x.ring, e.seq ≠ 0) :
    (x.applyWrites r now).sums = x.sums ∧ (x.applyWrites r now).ring = x.ring := by
  refine ⟨if_pos (by rw [hc]; rfl), ?_⟩
  have hmap : ∀ e ∈ x.ring, (if e.seq ≤ x.releaseTo.foldl Nat.max 0 then { e with released := true } else e) = e := by
    intro e he
    have hpos := hring e he
    rw [hrel, if_neg (by simp only [List.foldl_nil]; omega)]
  exact (List.map_congr_left hmap).trans (List.map_id' _)
/-- The publish of one occurrence. -/
theorem State.publish_one (s : State) (r : Nat) (o : Occ) (hst : (s.rec_ r).staged = [o]) : s.publish r =
    (let m := (s.publishBegun r).mergeOcc r o
     let s2 := if m.2 then m.1.post o (((s.publishBegun r).rec_ r).entryOf o).bytes else m.1
     (if decide (severity o.code = 3) then s2.alert 2 else s2).wantSave r (decide (2 ≤ severity o.code))) := by
  unfold State.publish
  simp only [hst, List.isEmpty_cons, List.any_cons, List.any_nil, Bool.or_false, Bool.not_false, Bool.true_or, if_true]
  rfl
theorem recPublish_places (r : Nat) (o : Occ) (ring : List RecEntry) (s : State) (hr : r ≤ 8) (hs : s.Sized) (hdue : s.publishDue r = true)
    (hm : s.mgmt.messages = []) (hst : (s.rec_ r).staged = [o]) (hcl : (s.rec_ r).clears = []) (hrel : (s.rec_ r).releaseTo = [])
    (hring : ∀ e ∈ (s.rec_ r).ring, e.seq ≠ 0) (hsev : r < 8 ∨ severity o.code < 3)
    (hlevel : 10 ^ 9 ≤ (s.bucketAt (s.rec_ r) o.code o.ts).level)
    (hplace : placeEntry (recRingSize r) (s.rec_ r).ring ((s.rec_ r).entryOf o) = some ring) :
    ∃ u, exec (.recPublish r) s = .next u ∧ (u.rec_ r).ring = ring ∧ (u.rec_ r).staged = [] ∧ (u.rec_ r).head = (s.rec_ r).head + 1 ∧
      (u.rec_ r).sums.getD o.code (Summary.empty 0) = ((s.rec_ r).sums.getD o.code (Summary.empty 0)).add o ∧
      (u.rec_ (if r < 8 then r else 0)).changed = true ∧ u.tiles = s.tiles := by
  have hbegun : (s.publishBegun r).rec_ r = _ := s.rec_modRec_same r _ (hs.recorder hr)
  obtain ⟨hsums, hkept⟩ := (s.rec_ r).applyWrites_none r (s.now (s.recTile r)) hcl hrel hring
  have hlen : (s.publishBegun r).recs.length = 9 := (length_modAt _ _ _).trans hs.recs
  obtain ⟨htook, hmerged, recs, hmerge, hrecs⟩ := (s.publishBegun r).mergeOcc_takes r o ring (by omega)
    (by rw [hbegun]; exact hlevel) (by rw [hbegun]; simp only [hkept]; exact hplace)
  let e := ((s.publishBegun r).rec_ r).entryOf o
  let s2 := ((s.publishBegun r).mergeOcc r o).1.post o e.bytes
  let s3 := if decide (severity o.code = 3) then s2.alert 2 else s2
  have hpub : s.publish r = s3.wantSave r (decide (2 ≤ severity o.code)) := by
    rw [s.publish_one r o hst]
    simp only [htook, if_true]
    rfl
  have h2 : s2.rec_ r = ((s.publishBegun r).mergeOcc r o).1.rec_ r :=
    State.post_keeps (fun u => u.rec_ r) _ o e.bytes (fun _ _ _ _ => rfl) (fun _ _ => rfl)
  have h3 : s3.rec_ r = s2.rec_ r := by
    show State.rec_ (if decide (severity o.code = 3) then s2.alert 2 else s2) r = _
    split
    next hcrit =>
      have h8 : 8 ≠ r := by
        have hcode := of_decide_eq_true hcrit
        omega
      exact s2.alert_rec_ne 2 r h8
    · rfl
  have h2len : s2.recs.length = 9 := by
    rw [show s2.recs = ((s.publishBegun r).mergeOcc r o).1.recs from
      State.post_keeps State.recs _ o e.bytes (fun _ _ _ _ => rfl) (fun _ _ => rfl), hmerge]
    exact hrecs.trans hlen
  have hrest : s3.tiles = s.tiles ∧ s3.mgmt.messages = s.mgmt.messages ∧ s3.recs.length = 9 := by
    have hpost {β : Type} (g : State → β) (hl : ∀ u p l f, g (State.modLd u p l f) = g u) (ho : ∀ (u : State) ms, g { u with out := ms } = g u) :
        g s2 = g ((s.publishBegun r).mergeOcc r o).1 := State.post_keeps g _ o e.bytes hl ho
    have h2tiles : s2.tiles = s.tiles := (hpost State.tiles (fun _ _ _ _ => rfl) (fun _ _ => rfl)).trans (by rw [hmerge]; rfl)
    have h2mgmt : s2.mgmt = s.mgmt := (hpost State.mgmt (fun _ _ _ _ => rfl) (fun _ _ => rfl)).trans (by rw [hmerge]; rfl)
    show State.tiles (if decide (severity o.code = 3) then s2.alert 2 else s2) = _ ∧ (State.mgmt (if _ then _ else _)).messages = _ ∧
      (State.recs (if _ then _ else _)).length = 9
    split
    · exact ⟨(State.alert_tiles ..).trans h2tiles, by rw [State.alert_mgmt, h2mgmt], by rw [State.alert_recs_length, h2len]⟩
    · exact ⟨h2tiles, by rw [h2mgmt], h2len⟩
  obtain ⟨htiles, hmessages, hlen3⟩ := hrest
  obtain ⟨recs', hframe⟩ := s3.wantSave_frame r (decide (2 ≤ severity o.code))
  have hnone : (s.publish r).mgmt.messages = [] := by rw [hpub, hframe]; exact hmessages.trans hm
  have hexec := exec_recPublish r s hdue
  rw [State.resumeAll_of_none _ _ (fun m hmem => by simp [hnone] at hmem)] at hexec
  have hkeep {β : Type} (g : Recorder → β) (h : ∀ (x : Recorder) c w, g { x with changed := c, saveWanted := w } = g x) :
      g ((s.publish r).rec_ r) = g (((s.publishBegun r).rec_ r).merged o ((s.publishBegun r).bucketAt ((s.publishBegun r).rec_ r) o.code o.ts) ring) := by
    rw [hpub, s3.wantSave_keeps g r r _ h, h3, h2, hmerged]
  refine ⟨_, hexec, hkeep Recorder.ring (fun _ _ _ => rfl), ?_, ?_, ?_, ?_, ?_⟩
  · exact (hkeep Recorder.staged (fun _ _ _ => rfl)).trans (congrArg Recorder.staged hbegun)
  · exact (hkeep Recorder.head (fun _ _ _ => rfl)).trans (congrArg (fun x => x.head + 1) hbegun)
  · refine (congrArg (fun m => Sparse.getD m o.code (Summary.empty 0)) (hkeep Recorder.sums (fun _ _ _ => rfl))).trans ?_
    refine (Sparse.getD_insert_same _ _ _ _).trans ?_
    rw [hbegun]
    simp only [hsums]
  · show ((s.publish r).rec_ _).changed = true
    rw [hpub]
    exact s3.wantSave_changed r _ hlen3
  · show (s.publish r).tiles = _
    rw [hpub, hframe]
    exact htiles

/-! ### Saves (R465, R470, R471) -/

theorem recSave_saves (t : Nat) (s : State) (hs : s.Sized) (h : s.saveDue t = true) :
    ∃ u, exec (.recSave t) s = .next u ∧ (u.tile t).ps.recImage = some (s.recImages t).1 ∧
      (t < 2 → (u.tile t).ps.pkgImage = some (s.recImages t).2) ∧ (u.rec_ t).changed = false ∧
      (u.rec_ t).lastSave = some (s.now t) ∧ (u.rec_ t).ring = (s.rec_ t).ring ∧ (∀ v, v ≠ t → u.tile v = s.tile v) ∧ u.out = s.out := by
  have ht : t < s.n := by
    simp only [State.saveDue, Bool.and_eq_true, decide_eq_true_eq] at h
    obtain ⟨⟨⟨⟨⟨ht, -⟩, -⟩, -⟩, -⟩, -⟩ := h
    exact ht
  let s1 := s.modPs t (fun p => { p with recImage := some (s.recImages t).1, pkgImage := if t < 2 then some (s.recImages t).2 else p.pkgImage })
  let s2 := s1.modRec t (fun x => { x with changed := false, saveWanted := false, lastSave := some (s.now t) })
  have htile (v : Nat) : ((s.saveRecorder t).modRec t (fun x => { x with fwSave := some (s.now t) })).tile v = s1.tile v :=
    State.count_tile s2 Cn.REC_SAVES 1 v
  have hps : (s1.tile t).ps = _ := congrArg Tile.ps (State.tile_modTile_same s t _ (hs.tile_listed ht))
  have hrec : s2.rec_ t = _ := s1.rec_modRec_same t _ (hs.tile_recorder ht)
  have hsaved {β : Type} (g : Recorder → β) (hg : ∀ (x : Recorder) w, g { x with fwSave := w } = g x) :
      g (((s.saveRecorder t).modRec t (fun x => { x with fwSave := some (s.now t) })).rec_ t) = g (s2.rec_ t) := by
    refine (State.rec_modRec_keeps g _ t t _ (fun _ => hg ..)).trans (congrArg g ?_)
    simp only [State.rec_]
    exact congrArg (fun l => l.getD t Recorder.empty) (State.count_recs s2 Cn.REC_SAVES 1)
  refine ⟨_, congrArg Host.Outcome.next (if_pos h), ?_, fun htwo => ?_, ?_, ?_, ?_, fun v hv => ?_, State.count_out s2 Cn.REC_SAVES 1⟩
  · rw [htile, hps]
  · rw [htile, hps]
    exact if_pos htwo
  · rw [hsaved Recorder.changed (fun _ _ => rfl), hrec]
  · rw [hsaved Recorder.lastSave (fun _ _ => rfl), hrec]
  · rw [hsaved Recorder.ring (fun _ _ => rfl), hrec]
    rfl
  · rw [htile]
    exact State.tile_modTile_ne _ _ _ _ hv.symm
theorem pstoreRingSave_saves (t : Nat) (s : State) (ht : t < s.n) (hs : s.Sized) (hup : (s.tile t).sup.railsUp = true) :
    (∃ u, exec (.pstoreRingSave t 2) s = .next u ∧ (u.tile t).ps = (s.tile t).ps.saveRing 2 (s.tile t).pat.drift ∧
      (∀ v, v ≠ t → u.tile v = s.tile v) ∧ u.out = s.out) ∧
    (∃ u, exec (.pstoreRingSave t 4) s = .next u ∧ (u.tile t).ps = (s.tile t).ps.saveRing 4 (s.tile t).med.strokes ∧ u.out = s.out) ∧
    (∃ u, exec (.pstoreRingSave t 5) s = .next u ∧ (u.tile t).ps = (s.tile t).ps.saveRing 5 ((s.tile t).time.onNs / 10 ^ 9) ∧ u.out = s.out) ∧
    (∃ u, exec (.pstoreRingSave t 6) s = .next u ∧
      (∀ v, v < s.n → s.tileActive v = true → (u.tile v).ps = (s.tile v).ps.saveRing 6 (s.cell Ob.TEMP_MAX_LIFE_C 0)) ∧ u.out = s.out) := by
  have hsave (ring v : Nat) : ((s.modPs t (fun p => p.saveRing ring v)).tile t).ps = (s.tile t).ps.saveRing ring v :=
    congrArg Tile.ps (State.tile_modTile_same s t _ (hs.tile_listed ht))
  refine ⟨⟨_, congrArg Host.Outcome.next (if_pos ⟨ht, hup⟩), hsave 2 _, fun v hv => State.tile_modTile_ne _ _ _ _ hv.symm, rfl⟩,
    ⟨_, congrArg Host.Outcome.next (if_pos ⟨ht, hup⟩), hsave 4 _, rfl⟩, ⟨_, congrArg Host.Outcome.next (if_pos ⟨ht, hup⟩), hsave 5 _, rfl⟩,
    ⟨_, congrArg Host.Outcome.next (if_pos ⟨ht, hup⟩), fun v hv ha => ?_, State.each_keeps State.out _ _ _ (fun _ _ => rfl)⟩⟩
  refine congrArg Tile.ps ((State.tile_each s s.activeTiles _ (fun _ x => { x with ps := x.ps.saveRing 6 (s.cell Ob.TEMP_MAX_LIFE_C 0) })
    s.activeTiles_nodup (fun w hw => hs.tile_listed ((s.mem_activeTiles w).1 hw).1) (fun u w x hne => State.tile_modTile_ne _ _ _ _ hne.symm)
    (fun u w hw => State.tile_modTile_same _ _ _ hw) (fun u w => State.modTile_tiles_length ..) v).trans (if_pos ((s.mem_activeTiles v).2 ⟨hv, ha⟩)))

/-! ### O53 -/

/-- Settles O53: a clause for each command, the latch, the publish, the saves. -/
theorem countersAndRecorders : Obligations.CountersAndRecorders := by
  unfold Obligations.CountersAndRecorders
  refine ⟨fun q s hq hin hs => ⟨fun v hv => cntSnapshot_opens q v s hq hin hv, fun t seq ht hf => recNext_returns q t seq s hq hin ht hf,
    fun seq => recPkgNext_returns q seq s hq hin, fun t seq ht hf => recRelease_waits q t seq s hq hin hs ht hf,
    fun seq => recPkgRelease_waits q seq s hq hin hs, recClear_waits q s hq hin hs⟩, ?_, recPublish_clears, recPublish_places, recSave_saves,
    pstoreRingSave_saves⟩
  exact fun q t s ht _ ha harg hdone hat hwf hw => cntSnapshotLatch_closes q t s ht ha harg hdone hat hwf hw

end Sys2Proof.Machine
end

section
/-! Proofs of 15_object_dictionary.md: what the application of a set leaves, and what a COMMIT writes (R65, R143, R434, R436). -/
namespace Sys2Proof.Machine
open Sys2Proof

/-! ### What applying leaves -/

/-- Objects that no step of an application writes but as the values of the set. -/
def appliedObs : List Nat := [Ob.CONFIG_GENERATION, Ob.PATROL_INTERVAL]
theorem not_appliedObs {k : Nat} (h : k ≠ 0x1F0003 ∧ k ≠ 0x431002) : k ∉ appliedObs := by
  simp only [appliedObs, List.mem_cons, List.not_mem_nil, or_false, not_or]
  exact h
/-- From `s` to `u` values take effect: nothing is handed to anyone, no recorder and no tile goes, an erasure under way stays so. -/
structure State.Applies (s u : State) : Prop where
  out : u.out = s.out
  erase : u.svc.eraseState = s.svc.eraseState
  recs : u.recs.length = s.recs.length
  cells : ∀ k d, k ∈ appliedObs → u.cell k d = s.cell k d

theorem State.Applies.refl (s : State) : s.Applies s := ⟨rfl, rfl, rfl, fun _ _ _ => rfl⟩
theorem State.Applies.trans {s t u : State} (a : s.Applies t) (b : t.Applies u) : s.Applies u :=
  ⟨b.out.trans a.out, b.erase.trans a.erase, b.recs.trans a.recs,
    fun k d h => (b.cells k d h).trans (a.cells k d h)⟩
theorem State.Applies.ite {s u v : State} {c : Prop} [Decidable c] (a : s.Applies u) (b : s.Applies v) : s.Applies (if c then u else v) := by
  split
  · exact a
  · exact b
theorem State.applies_each {α : Type} (s : State) (l : List α) (f : State → α → State) (h : ∀ u x, State.Applies u (f u x)) : s.Applies (s.each l f) :=
  State.each_induct s.Applies s l f (State.Applies.refl s) (fun u x _ hu => hu.trans (h u x))
/-- What writes no object. -/
theorem State.Applies.of_eq {s u : State} (out : u.out = s.out := by simp) (svc : u.svc = s.svc := by simp)
    (recs : u.recs.length = s.recs.length := by simp) (obj : u.obj = s.obj := by simp) : s.Applies u :=
  ⟨out, by rw [svc], recs, fun _ _ _ => by simp only [State.cell, obj]⟩
theorem State.applies_setCell (s : State) (k v : Nat) (hk : k ∉ appliedObs) : s.Applies (s.setCell k v) :=
  ⟨rfl, rfl, rfl, fun x d hx => s.cell_setCell_ne k x v d (fun h => hk (h ▸ hx))⟩
theorem State.applies_raise (s : State) (a b c : Nat) (ha : a ∉ appliedObs) (hc : c ∉ appliedObs) : s.Applies (s.raise a b c) :=
  (s.applies_setCell a _ ha).trans (State.applies_setCell _ c _ hc)
theorem State.applies_modTile (s : State) (t : Nat) (f : Tile → Tile) : s.Applies (s.modTile t f) := .of_eq
theorem State.applies_modRes (s : State) (t : Nat) (f : TileRes → TileRes) : s.Applies (s.modRes t f) := s.applies_modTile t _
theorem State.applies_modMap (s : State) (t : Nat) (f : TileMap → TileMap) : s.Applies (s.modMap t f) := s.applies_modTile t _
theorem State.applies_tev (s : State) (t num cls value : Nat) (qs : List (Nat × Nat)) : s.Applies (s.tev t num cls value qs) :=
  .of_eq (recs := by simp [State.tev, State.stage, length_modAt])
theorem State.applies_pev (s : State) (code value : Nat) (qs : List (Nat × Nat)) : s.Applies (s.pev code value qs) :=
  .of_eq (recs := State.pev_recs_length ..)
theorem State.applies_alert (s : State) (b : Nat) (hb : b ≤ 8) : s.Applies (s.alert b) := by
  have hocc : Ob.ALERT_OCC + b ∉ appliedObs := not_appliedObs (by show 0x204003 + b ≠ 0x1F0003 ∧ 0x204003 + b ≠ 0x431002; omega)
  unfold State.alert
  extract_lets mask was s1 is
  have hraise : s.Applies s1 := s.applies_raise _ _ _ (by decide) hocc
  exact .ite (hraise.trans (s1.applies_pev _ _ _)) hraise
/-- The objects of the tiles that a set's application can write besides are of other keys. -/
theorem not_appliedObs_inst (key i : Nat) (hlow : key % 256 ≠ 2 ∧ key % 256 ≠ 3) : Ob.inst key i ∉ appliedObs :=
  not_appliedObs (by simp only [Ob.inst]; omega)

/-! ### A partition is disabled or enabled (R62, R65) -/

theorem State.applies_shadowFor (s : State) (t owner : Nat) (add : Bool) (kind addr : Nat) : s.Applies (s.shadowFor t owner add kind addr) := by
  have hsend (u : State) (a d k : Nat) : u.Applies (u.ringSend a d k) := u.applies_each _ _ (fun _ _ => .of_eq)
  exact .ite (.refl s) (.ite (s.applies_modRes t _) ((s.applies_modRes _ _).trans (hsend _ _ _ _)))
theorem State.applies_lineLanded (s : State) (t owner lla : Nat) : s.Applies (s.lineLanded t owner lla) := by
  unfold State.lineLanded
  extract_lets r gone s0
  have hgone (u : State) : u.Applies (gone u) := u.applies_shadowFor ..
  split
  · exact hgone s
  · extract_lets s1 rival s2
    have h2 : s1.Applies s2 := (s1.applies_modRes t _).trans (hgone _)
    exact (s.applies_modRes t _).trans (.ite (s1.applies_modRes t _) (.ite (s1.applies_modRes t _) (h2.trans (.ite (s2.applies_modRes t _) (.refl s2)))))
theorem State.applies_completeEvicts (s : State) (t : Nat) : s.Applies (s.completeEvicts t) := by
  have hclose (u : State) (S : Nat) : u.Applies (u.closeStripe t S) :=
    .ite (.refl u) (.ite ((u.applies_modRes t _).trans (State.applies_shadowFor ..)) (.refl u))
  refine s.applies_each _ _ (fun u e => ?_)
  extract_lets s1 s2 s3 s4
  have h3 : u.Applies s3 := ((u.applies_modRes t _).trans (s1.applies_modRes t _)).trans (s2.applies_lineLanded t e.owner e.addr)
  exact (h3.trans (.ite (s3.applies_modRes t _) (.refl s3))).trans (hclose s4 _)
theorem State.applies_evalHealth (s : State) : s.Applies s.evalHealth := by
  have judged : s.Applies { s with dev := { s.dev with health := healthOf s.healthCause, causes := s.healthCause } } := .of_eq rfl rfl rfl rfl
  exact .ite judged (judged.trans ((State.applies_pev ..).trans (State.applies_alert _ 1 (by decide))))
theorem State.applies_noteSpares (s : State) (t before : Nat) : s.Applies (s.noteSpares t before) := by
  have hbit (u : State) (b : Nat) (hb : b ≤ 1) : u.Applies (u.xlateBit t b) := by
    refine u.applies_raise _ _ _ (not_appliedObs_inst _ t (by decide)) (not_appliedObs ?_)
    show 0x41100E + 256 * t + b ≠ 0x1F0003 ∧ 0x41100E + 256 * t + b ≠ 0x431002
    omega
  have noted (u : State) (b num cls : Nat) (hb : b ≤ 1) (c : Prop) [Decidable c] :
      u.Applies (if c then (u.xlateBit t b).tev t num cls 0 [] else u) := .ite ((hbit u b hb).trans (State.applies_tev ..)) (.refl u)
  unfold State.noteSpares
  extract_lets n s1 s2
  have both : s.Applies s2 := (noted s 0 _ _ (by decide) _).trans (noted s1 1 _ _ (by decide) _)
  exact .ite both (both.trans s2.applies_evalHealth)
theorem State.applies_abandonMigration (s : State) (t lseg : Nat) : s.Applies (s.abandonMigration t lseg 2) := by
  unfold State.abandonMigration
  split
  · exact .refl s
  · extract_lets before s1 s2 s3 s4
    have h3 : s.Applies s3 := ((s.applies_modMap t _).trans (s1.applies_modRes t _)).trans (s2.applies_tev _ _ _ _ _)
    exact (h3.trans (s3.applies_completeEvicts t)).trans (State.applies_noteSpares ..)
theorem State.applies_discardFlip (s : State) (t cause : Nat) : s.Applies (s.discardFlip t cause) :=
  .ite (((s.applies_modTile t _).trans (State.applies_raise _ _ _ _ (not_appliedObs_inst _ t (by decide)) (not_appliedObs_inst _ t (by decide)))).trans
    (State.applies_tev ..)) (.refl s)
theorem State.applies_dropPart (s : State) (t p : Nat) (x : PartInfo) : s.Applies (s.dropPart t p x) := by
  unfold State.dropPart
  extract_lets r goes gone mig s1 s2 s3 s4
  have h1 : s.Applies s1 := s.applies_each _ _ (fun u e => (u.applies_shadowFor ..).trans (State.applies_shadowFor ..))
  have h3 : s.Applies s3 := (h1.trans (s1.applies_modRes t _)).trans (s2.applies_each _ _ (fun u l => u.applies_abandonMigration t l))
  have h4 : s.Applies s4 := h3.trans (s3.applies_modMap t _)
  exact .ite (h4.trans (s4.applies_discardFlip t 1)) h4
theorem State.applies_abortScrub (s : State) (cause : Nat) : s.Applies (s.abortScrub cause) := by
  have hend (status : Nat) (counts : List Nat) : s.Applies (s.endScrub status counts) := ⟨rfl, rfl, rfl, fun _ _ _ => rfl⟩
  exact .ite ((hend _ _).trans (State.applies_pev ..)) (.refl s)
theorem State.applies_disablePart (s : State) (p : Nat) : s.Applies (s.disablePart p) := by
  have hgoing (l : Sparse PartInfo) : s.Applies { s with parts := l } := .of_eq rfl rfl rfl rfl
  unfold State.disablePart
  extract_lets was x s1 s2
  have h2 : s.Applies s2 := (hgoing _).trans (s1.applies_each _ _ (fun u t => u.applies_dropPart t p x))
  exact .ite (h2.trans (s2.applies_abortScrub 3)) h2
theorem State.applies_enablePart (s : State) (p : Nat) (x : PartInfo) : s.Applies (s.enablePart p x) := by
  have hnew (l : Sparse PartInfo) : s.Applies { s with parts := l } := .of_eq rfl rfl rfl rfl
  unfold State.enablePart
  extract_lets s1 s2
  have h2 : s.Applies s2 := .ite ((hnew _).trans (s1.applies_each _ _ (fun u t => u.applies_modTile t _))) (hnew _)
  exact h2.trans (s2.applies_pev _ _ _)

/-! ### Queues, classes, limits, the saved values (R143, R313, R386, R436) -/

theorem State.applies_applyQueue (s : State) (i v : Nat) : s.Applies (s.applyQueue i v) := .ite .of_eq .of_eq
theorem State.applies_noteGate (s : State) (t : Nat) : s.Applies (s.noteGate t) :=
  .ite ((s.applies_modRes t _).trans (State.applies_tev ..)) (s.applies_modRes t _)
theorem State.applies_degrade (s : State) : s.Applies s.degrade := by
  have hmoved (d : Device) : s.Applies { s with dev := d } := .of_eq rfl rfl rfl rfl
  have hcounted (u : State) : u.Applies (u.count Cn.STATE_CHANGES 1) := .of_eq
  exact .ite (((hmoved _).trans (hcounted _)).trans ((State.applies_pev ..).trans (State.applies_alert _ 0 (by decide)))) (.refl s)
theorem State.applies_setLimits (s : State) : s.Applies s.setLimits := by
  unfold State.setLimits
  extract_lets want l s1
  have h1 : s.Applies s1 := by
    refine s.applies_each _ _ (fun u t => ?_)
    extract_lets s2 s3
    have h3 : u.Applies s3 := (u.applies_modRes t _).trans (.ite (s2.applies_tev _ _ _ _ _) (.refl s2))
    exact h3.trans (s3.applies_noteGate t)
  exact h1.trans s1.applies_degrade
theorem State.applies_pageCommit (s : State) (t page : Nat) : s.Applies (s.pageCommit t page) := .of_eq
theorem State.applies_saveConfig (s : State) (t : Nat) (items : Items) : s.Applies (s.saveConfig t items) :=
  (s.applies_pageCommit t 1440).trans (State.applies_modTile ..)
theorem State.applies_noteCdat (s before : State) : s.Applies (s.noteCdat before) := .ite (.refl s) (s.applies_setCell _ _ (by decide))
/-- Laid over the configuration, a set takes effect and leaves the rest. -/
theorem State.applies_applySet (s : State) (items : Items) : (s.overlay items).Applies (s.applySet items) := by
  unfold State.applySet
  extract_lets ch c placed s1 s2 queues s3 classes full s4 s5 s6
  have h2 : c.Applies s2 := (c.applies_each _ _ (fun u p => u.applies_disablePart p)).trans (s1.applies_each _ _ (fun u x => u.applies_enablePart x.1 x.2))
  have h4 : s2.Applies s4 := (s2.applies_each _ _ (fun u x => u.applies_applyQueue _ _)).trans (s3.applies_each _ _ (fun _ _ => .of_eq))
  have h5 : s4.Applies s5 := .ite s4.applies_setLimits (.refl s4)
  have h6 : s5.Applies s6 := s5.applies_each _ _ (fun u t => u.applies_saveConfig t items)
  exact (((h2.trans h4).trans h5).trans h6).trans (s6.applies_noteCdat s)

/-! ### A COMMIT (R434, R436) -/

/-- The status of a COMMIT goes to its object and to the stores of tiles 0 and 1. -/
theorem State.setCommitStatus_eq (s : State) (result : Nat) (q : Requester) : ∃ f : Nat → PStore → PStore,
    s.setCommitStatus result q =
      (s.setCell Ob.COMMIT_STATUS (s.cell Ob.CONFIG_GENERATION 0 * 2 ^ 32 + result * 2 ^ 24 + q.code * 2 ^ 8)).each
        (s.activeTiles.filter (fun t => decide (t < 2))) (fun u t => u.modPs t (f t)) := ⟨_, rfl⟩
/-- What neither the objects nor the parameter stores hold, the status of a COMMIT leaves. -/
theorem State.setCommitStatus_keeps {β : Type} (g : State → β) (s : State) (result : Nat) (q : Requester) (hset : ∀ u k v, g (State.setCell u k v) = g u)
    (hps : ∀ u t f, g (State.modPs u t f) = g u) : g (s.setCommitStatus result q) = g s := by
  obtain ⟨f, heq⟩ := s.setCommitStatus_eq result q
  rw [heq]
  exact (State.each_keeps g _ _ _ (fun u t => hps u t (f t))).trans (hset s _ _)
theorem State.setCommitStatus_cell_ne (s : State) (result k d : Nat) (q : Requester) (hk : k ≠ Ob.COMMIT_STATUS) :
    (s.setCommitStatus result q).cell k d = s.cell k d := by
  obtain ⟨f, heq⟩ := s.setCommitStatus_eq result q
  rw [heq]
  exact (State.each_keeps (fun u => State.cell u k d) _ _ (fun u t => u.modPs t (f t)) (fun _ _ => rfl)).trans (s.cell_setCell_ne _ _ _ _ hk.symm)
theorem State.applies_setCommitStatus (s : State) (result : Nat) (q : Requester) : s.Applies (s.setCommitStatus result q) := by
  obtain ⟨f, heq⟩ := s.setCommitStatus_eq result q
  rw [heq]
  exact (s.applies_setCell _ _ (by decide)).trans (State.applies_each _ _ _ (fun u t => u.applies_modTile t _))
theorem Sparse.getD_foldl_insert_ne (items : Items) (m : Sparse Nat) (k d : Nat) (h : ∀ v, (k, v) ∉ items) :
    (items.foldl (fun m x => m.insert x.1 x.2) m).getD k d = m.getD k d := by
  induction items generalizing m with
  | nil => rfl
  | cons x items ih =>
    obtain ⟨j, w⟩ := x
    have hne : j ≠ k := fun hj => h w (hj ▸ List.mem_cons_self)
    rw [List.foldl_cons, ih _ (fun v hv => h v (List.mem_cons_of_mem _ hv)), Sparse.getD_insert_ne _ _ _ _ _ hne]
/-- What the COMMIT of a set that breaks no rule leaves. -/
structure State.Committed (s : State) (items : Items) (u : State) : Prop where
  out : u.out = s.out
  erase : u.svc.eraseState = s.svc.eraseState
  recs : u.recs.length = s.recs.length
  generation : (∀ v, (Ob.CONFIG_GENERATION, v) ∉ items) → u.cell Ob.CONFIG_GENERATION 0 = min 0xFFFFFFFE (s.cell Ob.CONFIG_GENERATION 0 + 1)
  patrol : ∀ d, u.cell Ob.PATROL_INTERVAL d = (s.overlay items).cell Ob.PATROL_INTERVAL d
  reports : 8 < s.recs.length → u.pkgReports Ev.COMMIT_APPLIED
theorem State.commitWhole_commits (s : State) (q : Requester) (items : Items) : s.Committed items (s.commitWhole q items) := by
  unfold State.commitWhole
  extract_lets s1 s2 gen s3
  have h1 : s.Applies s1 := s.applies_each _ _ (fun u t => u.applies_pageCommit t 3400)
  have hobj : s1.obj = s.obj := State.each_keeps State.obj _ _ _ (fun u t => State.pageCommit_obj ..)
  have h2 : (s1.overlay items).Applies s2 := s1.applies_applySet items
  have h3 : (s2.setCell Ob.CONFIG_GENERATION gen).Applies s3 := State.applies_setCommitStatus ..
  have hcounted : s3.Applies (s3.count Cn.COMMITS_APPLIED 1) := .of_eq
  have hend := (h3.trans hcounted).trans (State.applies_pev (s3.count Cn.COMMITS_APPLIED 1) Ev.COMMIT_APPLIED gen [(2, q.code), (4, items.length)])
  have hover (k d : Nat) : (s1.overlay items).cell k d = (s.overlay items).cell k d := by simp only [State.overlay, State.cell, hobj]
  refine ⟨hend.out.trans (h2.out.trans h1.out),
    hend.erase.trans (h2.erase.trans h1.erase), hend.recs.trans (h2.recs.trans h1.recs), fun hnot => ?_, fun d => ?_, fun h8 => ?_⟩
  · have hold : s2.cell Ob.CONFIG_GENERATION 0 = s.cell Ob.CONFIG_GENERATION 0 :=
      (h2.cells _ 0 (by decide)).trans ((hover _ 0).trans (Sparse.getD_foldl_insert_ne items s.obj _ 0 hnot))
    refine (hend.cells _ 0 (by decide)).trans ((State.cell_setCell_same ..).trans ?_)
    rw [← hold]
  · refine (hend.cells _ d (by decide)).trans ((State.cell_setCell_ne _ _ _ _ _ (by decide)).trans ?_)
    exact (h2.cells _ d (by decide)).trans (hover _ d)
  · exact State.pev_reports _ _ _ _ (((h3.trans hcounted).recs.trans (h2.recs.trans h1.recs)).symm ▸ h8)

end Sys2Proof.Machine
end

section
/-! Proofs of 18_lifecycle.md: boot, live update, rollback floor, owner, decommission (R477, R489 to R491, R494, R498). -/
namespace Sys2Proof.Machine
open Sys2Proof

/-! ### Commands of the firmware and of the owner -/

/-- Where the object FW_ACTIVATE lies. -/
def fwActivatePlace : ObPlace := { row := obRow Ob.FW_ACTIVATE 0 .one 4 .cmd (.between 1 2), i := 0, off := 0 }
/-- Where the object FW_SVN_COMMIT lies. -/
def svnCommitPlace : ObPlace := { row := obRow Ob.FW_SVN_COMMIT 0 .one 4 .cmd (.between 1 1), i := 0, off := 0 }
/-- Where the object OWNER_INSTALL lies. -/
def ownerInstallPlace : ObPlace := { row := obRow Ob.OWNER_INSTALL 0 .one 1024 .wo .any, i := 0, off := 0 }
/-- Where the object DECOMMISSION lies. -/
def decommissionPlace : ObPlace := { row := obRow Ob.DECOMMISSION 0 .one 4 .cmd (.between 1 1), i := 0, off := 0 }

section
variable (s : State) (q : Requester)

theorem permits_fwActivate {v : Nat} (hv : 1 ≤ v ∧ v ≤ 2) : s.Permits q fwActivatePlace v :=
  permits_free s q fwActivatePlace.row 0 v (by decide +kernel) (by decide) rfl (decide_eq_true hv)
    (Nat.lt_of_le_of_lt hv.2 (by decide)) (fun h => ObInst.noConfusion h)
theorem permits_svnCommit (hrights : s.ownerRights q = true) : s.Permits q svnCommitPlace 1 where
  here := s.findOb_cell svnCommitPlace.row 0 (by decide) (by decide) rfl (by decide)
  command := .inl rfl
  path := rfl
  role := hrights
  range := rfl
  mask := rfl
  fits := by decide
  unlocked := rfl
  recorder := rfl
theorem permits_decommission (hrights : s.ownerRights q = true) : s.Permits q decommissionPlace 1 where
  here := s.findOb_cell decommissionPlace.row 0 (by decide) (by decide) rfl (by decide)
  command := .inl rfl
  path := rfl
  role := hrights
  range := rfl
  mask := rfl
  fits := by decide
  unlocked := rfl
  recorder := rfl
theorem ownerInstallPlace_size : ownerInstallPlace.row.size = 1024 := rfl
theorem permits_ownerInstall {cert : Nat} (hsession : (s.sessionOf q).isSome = true) (hrights : s.ownerRights q = true) (hv : cert < 256 ^ 1024) :
    s.Permits q ownerInstallPlace cert where
  here := s.findOb_cell ownerInstallPlace.row 0 (by decide) (by decide) rfl (by decide)
  command := .inr rfl
  path := hsession
  role := hrights
  range := rfl
  mask := rfl
  fits := by
    rw [ownerInstallPlace_size]
    exact hv
  unlocked := rfl
  recorder := rfl

end

section
variable (q : Requester) (s : State) (ht : s.Takes q)
include ht

theorem fwActivateLive_starts (h : s.liveReady = true) : ∃ u, exec (.fwActivateLive q) s = .next u ∧ s.Replies u q Ob.FW_ACTIVATE 0 0 [] ∧
    u.mgmt.update = 1 ∧ u.mgmt.standbySync = false ∧ u.fw.activation = 1 ∧ u.fw.running = s.fw.running ∧ u.tiles = s.tiles := by
  have hgo : s.fwActivate 1 = s.startUpdate.done [] := (if_pos rfl).trans (if_pos h)
  obtain ⟨out, cnt, hwrite, hreply⟩ := (permits_fwActivate s q (v := 1) (by decide)).write_returns ht (.inr (by decide)) (congrArg OpEnd.now hgo) rfl
  exact ⟨_, congrArg Host.Outcome.next hwrite, hreply, rfl, rfl, rfl, rfl, rfl⟩
theorem fwActivateAtReset_names (hs : s.Sized) (h : s.otherReady = true) : ∃ u, exec (.fwActivateAtReset q) s = .next u ∧
    s.Replies u q Ob.FW_ACTIVATE 0 0 [] ∧ u.fw.nextBoot = 1 - s.fw.running ∧ u.fw.running = s.fw.running ∧ u.pkgReports Ev.FW_ACTIVATED ∧
    u.tiles = s.tiles := by
  have hgo : s.fwActivate 2 = s.activateAtReset.done [] := (if_neg (by decide)).trans ((if_pos rfl).trans (if_pos h))
  obtain ⟨out, cnt, hwrite, hreply⟩ := (permits_fwActivate s q (v := 2) (by decide)).write_returns ht (.inr (by decide)) (congrArg OpEnd.now hgo)
    (State.pev_out ..)
  have hfw : s.activateAtReset.fw = { s.fw with nextBoot := 1 - s.fw.running, activation := 2 } := State.pev_fw ..
  refine ⟨_, congrArg Host.Outcome.next hwrite, hreply, (congrArg Firmware.nextBoot hfw :), (congrArg Firmware.running hfw :), ?_, State.pev_tiles ..⟩
  exact State.reports_of_recs s.activateAtReset _ 8 _ rfl (State.pev_reports _ _ _ _ hs.package_recorder)
theorem fwSvnCommit_raises (hs : s.Sized) (hrights : s.ownerRights q = true) (h : s.fw.svnMin < s.runningSlot.svn) :
    ∃ u, exec (.fwSvnCommit q 1) s = .next u ∧ s.Replies u q Ob.FW_SVN_COMMIT 0 0 [] ∧ u.fw.svnMin = s.runningSlot.svn ∧
      u.fw.slots = s.fw.slots ∧ u.pkgReports Ev.FW_SVN_COMMITTED ∧ u.tiles = s.tiles := by
  let s1 := ({ s with fw := { s.fw with svnMin := s.runningSlot.svn } } : State).pev Ev.FW_SVN_COMMITTED s.runningSlot.svn []
  have hgo : s.fwSvnCommit q 1 = s1.done [] := by
    unfold State.fwSvnCommit
    rw [if_neg (by simp [hrights]), if_neg (by decide), if_neg (by omega)]
    rfl
  obtain ⟨out, cnt, hwrite, hreply⟩ := (permits_svnCommit s q hrights).write_returns ht (.inr (by decide)) (congrArg OpEnd.now hgo) (State.pev_out ..)
  have hfw : s1.fw = { s.fw with svnMin := s.runningSlot.svn } := State.pev_fw ..
  refine ⟨_, congrArg Host.Outcome.next hwrite, hreply, (congrArg Firmware.svnMin hfw :), (congrArg Firmware.slots hfw :), ?_, State.pev_tiles ..⟩
  exact State.reports_of_recs s1 _ 8 _ rfl (State.pev_reports _ _ _ _ hs.package_recorder)

/-- Who holds the role of the owner loses it as the certificate is installed. -/
def State.ownerInstalled (s : State) (cert : Nat) : State :=
  ({ s with svc := { s.svc with owner := some cert },
            mgmt := { s.mgmt with sessions := s.mgmt.sessions.map (fun (x : Session) => { x with owner := false }) } } : State).pev Ev.OWNER_INSTALLED
    (bitNat s.svc.owner.isSome) []
theorem ownerInstall_installs (hs : s.Sized) (cert : Nat) (hv : cert < 256 ^ 1024) (hsession : (s.sessionOf q).isSome = true)
    (hrights : s.ownerRights q = true) (hok : Config.certOk cert = true) :
    ∃ u, exec (.ownerInstall q cert) s = .next u ∧ u.tiles = s.tiles ∧ u.keys = s.keys ∧ s.Replies u q Ob.OWNER_INSTALL 0 0 [] ∧
      u.svc.owner = some cert ∧ (∀ x ∈ u.mgmt.sessions, x.owner = false) ∧ u.pkgReports Ev.OWNER_INSTALLED := by
  have hgo : s.ownerInstall q cert = (s.ownerInstalled cert).done [] := by
    unfold State.ownerInstall
    rw [if_neg (by simpa [Option.isSome_iff_ne_none] using hsession), if_neg (by simp [hrights]), if_neg (by simp [hok])]
    rfl
  obtain ⟨out, cnt, hwrite, hreply⟩ := (permits_ownerInstall s q hsession hrights hv).write_returns ht (.inr (by decide)) (congrArg OpEnd.now hgo)
    (State.pev_out ..)
  have hsvc : (s.ownerInstalled cert).svc = { s.svc with owner := some cert } := State.pev_svc ..
  have hsessions : (s.ownerInstalled cert).mgmt.sessions = s.mgmt.sessions.map (fun (x : Session) => { x with owner := false }) :=
    congrArg Mgmt.sessions (State.pev_mgmt ..)
  refine ⟨_, congrArg Host.Outcome.next hwrite, State.pev_tiles .., State.pev_keys .., hreply, congrArg Service.owner hsvc, fun x hx => ?_, ?_⟩
  · have hx' : x ∈ s.mgmt.sessions.map (fun (x : Session) => { x with owner := false }) := hsessions ▸ hx
    obtain ⟨y, -, rfl⟩ := List.mem_map.1 hx'
    rfl
  · exact State.reports_of_recs (s.ownerInstalled cert) _ 8 _ rfl (State.pev_reports _ _ _ _ hs.package_recorder)
theorem ownerInstall_refuses (cert : Nat) (hv : cert < 256 ^ 1024) (hsession : (s.sessionOf q).isSome = true)
    (hrights : s.ownerRights q = true) (hbad : ¬Config.certOk cert = true) :
    ∃ u, exec (.ownerInstall q cert) s = .next u ∧ u.tiles = s.tiles ∧ u.keys = s.keys ∧ s.Replies u q Ob.OWNER_INSTALL Err.range 0 [] ∧
      u.svc = s.svc := by
  have hgo : s.ownerInstall q cert = s.refused Err.range 0 := by
    unfold State.ownerInstall
    rw [if_neg (by simpa [Option.isSome_iff_ne_none] using hsession), if_neg (by simp [hrights]), if_pos (by simp [hbad])]
  obtain ⟨out, cnt, hwrite, hreply⟩ := (permits_ownerInstall s q hsession hrights hv).write_ends ht (.inr (by decide)) (congrArg OpEnd.now hgo) rfl
  obtain ⟨obj, cnt', recs, hframe, -⟩ := finishOp_frame q (ownerInstallPlace.write cert) (s.refused Err.range 0)
  refine ⟨_, congrArg Host.Outcome.next hwrite, ?_, ?_, hreply, ?_⟩ <;> rw [hframe] <;> rfl
theorem decommission_starts (hs : s.Sized) (hrights : s.ownerRights q = true) (hlegal : s.eraseLegal = true) (hst : s.svc.eraseState ≠ 1) :
    ∃ u, exec (.decommission q 1) s = .next u ∧ s.Replies u q Ob.DECOMMISSION 0 0 [] ∧ u.svc.eraseState = 1 ∧ u.svc.eraseKind = 3 ∧
      ∀ t, t < s.n → (u.tile t).res.entries = [] ∧ (u.tile t).map.poison = [] := by
  have hgo : s.decommissionCmd q 1 = (s.startErase 3).done [] := by
    unfold State.decommissionCmd
    rw [if_neg (by simp [hrights]), if_neg (by decide), if_neg (by simp [hlegal]), if_neg hst]
    rfl
  have hout : (s.startErase 3).out = s.out := s.secureErase_keeps State.out (fun _ _ _ h => h.out)
  obtain ⟨out, cnt, hwrite, hreply⟩ := (permits_decommission s q hrights).write_returns ht (.inr (by decide)) (congrArg OpEnd.now hgo) hout
  exact ⟨_, congrArg Host.Outcome.next hwrite, hreply, rfl, rfl, fun t htile => ⟨(s.secureErase_erased hs t htile).entries,
    (s.secureErase_erased hs t htile).poison⟩⟩

end

/-! ### The end of a decommission (R498) -/

theorem exec_eraseDone_of_decommission {s : State} (hin : s.inService = true) (hst : s.svc.eraseState = 1) (hkind : s.svc.eraseKind = 3) :
    exec .eraseDone s = .next (s.eraseEnded s.tilesSanitized).decommission := by
  refine congrArg Host.Outcome.next ((if_pos ⟨hin, hst⟩).trans ?_)
  simp only [hkind, if_true, OfNat.ofNat_ne_one, if_false]
  rw [State.eraseEnded, hkind]
  rfl
theorem State.eraseEnded_recs_length (s u : State) : (s.eraseEnded u).recs.length = u.recs.length :=
  (State.pev_recs_length ..).trans (State.each_keeps (fun v => v.recs.length) u _ _ (fun _ _ => rfl))
theorem State.pev_rec_blank (s : State) (code value : Nat) (qs : List (Nat × Nat)) (r : Nat) :
    ((s.pev code value qs).rec_ r).sums = (s.rec_ r).sums ∧ ((s.pev code value qs).rec_ r).ring = (s.rec_ r).ring :=
  ⟨s.pev_rec_keeps Recorder.sums _ _ _ r (fun _ _ => rfl), s.pev_rec_keeps Recorder.ring _ _ _ r (fun _ _ => rfl)⟩
theorem State.decommission_ends (s : State) (h : s.recs.length = 9) : s.decommission.svc.owner = none ∧
    s.decommission.svc.eraseState = s.svc.eraseState ∧ s.decommission.pkgReports Ev.DECOMMISSIONED ∧
    ∀ r, (s.decommission.rec_ r).sums = [] ∧ (s.decommission.rec_ r).ring = [] := by
  have hcommit := s.commitWhole_commits { transport := 0, src := 0 } s.defaultsSet
  unfold State.decommission
  extract_lets s1 cores owned blank s2
  refine ⟨by rw [State.pev_svc], ?_, State.pev_reports _ _ _ _ ?_, fun r => ?_⟩
  · rw [State.pev_svc]
    exact hcommit.erase
  · show 8 < (s1.recs.map _).length
    rw [List.length_map, hcommit.recs, h]
    decide
  · have hblank : (s2.rec_ r).sums = [] ∧ (s2.rec_ r).ring = [] := by
      show ((s1.recs.map _).getD r Recorder.empty).sums = [] ∧ ((s1.recs.map _).getD r Recorder.empty).ring = []
      rw [List.getD_eq_getElem?_getD, List.getElem?_map]
      cases s1.recs[r]? <;> exact ⟨rfl, rfl⟩
    obtain ⟨hsums, hring⟩ := s2.pev_rec_blank Ev.DECOMMISSIONED 0 [] r
    exact ⟨hsums.trans hblank.1, hring.trans hblank.2⟩
theorem eraseDone_decommissions (s : State) (hin : s.inService = true) (hst : s.svc.eraseState = 1) (hkind : s.svc.eraseKind = 3) (hs : s.Sized) :
    ∃ u, exec .eraseDone s = .next u ∧ u.svc.owner = none ∧ u.svc.eraseState = 2 ∧ u.pkgReports Ev.DECOMMISSIONED ∧
      ∀ r, r < 9 → (u.rec_ r).sums = [] ∧ (u.rec_ r).ring = [] := by
  have hlen : (s.eraseEnded s.tilesSanitized).recs.length = 9 := by
    rw [State.eraseEnded_recs_length, s.tilesSanitized_recs_length]
    exact hs.recs
  obtain ⟨howner, hstate, hreports, hblank⟩ := (s.eraseEnded s.tilesSanitized).decommission_ends hlen
  refine ⟨_, exec_eraseDone_of_decommission hin hst hkind, howner, ?_, hreports, fun r _ => hblank r⟩
  rw [hstate, State.eraseEnded_svc]

/-! ### A live update (R489, R490) -/

theorem State.takeOver_fw (s : State) (o : Nat) : (s.takeOver o).fw = s.fw := by
  have hended : (s.endSessions 2).fw = s.fw := State.relock_keeps State.fw _ 2 (fun _ _ => rfl) (fun _ _ => rfl)
    (fun u t c => u.discardFlip_keeps State.fw t c (by simp) (by simp) (by simp)) (by simp)
  rw [State.takeOver, State.pev_fw, State.count_fw]
  exact hended
/-- The update fails in its first two steps: the standby is in step with the running image again. -/
def State.updateFailed (s : State) : State :=
  (({ s with mgmt := { s.mgmt with standbySync := true, update := 0 }, fw := { s.fw with activation := 4 } } : State).alert 4).pev
    Ev.FW_ACTIVATION_FAILED s.mgmt.update []
theorem exec_liveUpdateStep_fails (s : State) (h : s.mgmt.update = 1 ∨ s.mgmt.update = 2) :
    exec (.liveUpdateStepDone false) s = .next s.updateFailed := by
  show execLiveUpdateStepDone false s = _
  obtain h | h := h <;>
  · unfold execLiveUpdateStepDone State.updateFailed
    simp only [h]
    rfl
theorem liveUpdate_fails (s : State) (hs : s.Sized) (h : s.mgmt.update = 1 ∨ s.mgmt.update = 2) :
    ∃ u, exec (.liveUpdateStepDone false) s = .next u ∧ u.mgmt.update = 0 ∧ u.fw.activation = 4 ∧ u.fw.running = s.fw.running ∧
      u.fw.nextBoot = s.fw.nextBoot ∧ u.pkgReports Ev.FW_ACTIVATION_FAILED ∧ u.tiles = s.tiles := by
  have hfw : s.updateFailed.fw = { s.fw with activation := 4 } := (State.pev_fw ..).trans (State.alert_fw ..)
  refine ⟨_, exec_liveUpdateStep_fails s h, ?_, (congrArg Firmware.activation hfw :), (congrArg Firmware.running hfw :),
    (congrArg Firmware.nextBoot hfw :), ?_,
    (State.pev_tiles ..).trans (State.alert_tiles ..)⟩
  · rw [State.updateFailed, State.pev_mgmt, State.alert_mgmt]
  · exact State.pev_reports _ _ _ _ ((State.alert_recs_length ..).symm ▸ hs.package_recorder)
theorem liveUpdate_boots (s : State) (h : s.mgmt.update = 1) :
    ∃ u, exec (.liveUpdateStepDone true) s = .next u ∧ u.mgmt.update = 2 ∧ u.fw = s.fw ∧ u.tiles = s.tiles := by
  refine ⟨{ s with mgmt := { s.mgmt with update := 2 } }, ?_, rfl, rfl, rfl⟩
  show execLiveUpdateStepDone true s = _
  unfold execLiveUpdateStepDone
  simp only [h]
  rfl
theorem liveUpdate_syncs (s : State) (h : s.mgmt.update = 2) :
    ∃ u, exec (.liveUpdateStepDone true) s = .next u ∧ u.mgmt.update = 3 ∧ u.mgmt.standbySync = true ∧ u.fw = s.fw ∧ u.tiles = s.tiles := by
  refine ⟨{ s with mgmt := { s.mgmt with standbySync := true, update := 3 } }, ?_, rfl, rfl, rfl, rfl⟩
  show execLiveUpdateStepDone true s = _
  unfold execLiveUpdateStepDone
  simp only [h]
  rfl
theorem liveUpdate_takesOver (s : State) (hs : s.Sized) (a : Nat) (h : s.mgmt.update = 3) (ha : s.mgmt.active = some a) :
    ∃ u, exec (.liveUpdateStepDone true) s = .next u ∧ u.mgmt.update = 4 ∧ u.mgmt.active = some (1 - a) ∧ u.mgmt.sessions = [] ∧
      u.fw.running = 1 - s.fw.running ∧ u.fw.slots = s.fw.slots ∧ u.pkgReports Ev.CORE_TAKEOVER := by
  let s1 : State := ({ s with mgmt := { s.mgmt with update := 4 } } : State).takeOver (1 - a)
  have hmgmt := State.takeOver_mgmt { s with mgmt := { s.mgmt with update := 4 } } (1 - a)
  have hfw : s1.fw = s.fw := State.takeOver_fw ..
  refine ⟨{ s1 with fw := { s1.fw with running := 1 - s1.fw.running } }, ?_, (congrArg Mgmt.update hmgmt :), (congrArg Mgmt.active hmgmt :),
    (congrArg Mgmt.sessions hmgmt :), (congrArg (fun x => 1 - Firmware.running x) hfw :), (congrArg Firmware.slots hfw :), ?_⟩
  · show execLiveUpdateStepDone true s = _
    unfold execLiveUpdateStepDone
    simp only [h]
    split
    next o ho =>
      obtain rfl : o = a := Option.some.inj (ho.symm.trans ha)
      rfl
    next ho => cases ho.symm.trans ha
  · exact State.reports_of_recs s1 _ 8 _ rfl (State.takeOver_reports _ _ hs.package_recorder)
theorem liveUpdate_names (s : State) (hs : s.Sized) (h : s.mgmt.update = 4) :
    ∃ u, exec (.liveUpdateStepDone true) s = .next u ∧ u.mgmt.update = 5 ∧ u.fw.nextBoot = s.fw.running ∧ u.fw.running = s.fw.running ∧
      u.pkgReports Ev.FW_ACTIVATED ∧ u.tiles = s.tiles := by
  let s1 : State := { s with fw := { s.fw with nextBoot := s.fw.running }, mgmt := { s.mgmt with update := 5 } }
  have hfw := s1.pev_fw Ev.FW_ACTIVATED s.fw.running [(2, s.runningSlot.svn)]
  refine ⟨s1.pev Ev.FW_ACTIVATED s.fw.running [(2, s.runningSlot.svn)], ?_, congrArg Mgmt.update (State.pev_mgmt ..), (congrArg Firmware.nextBoot hfw :),
    (congrArg Firmware.running hfw :), State.pev_reports _ _ _ _ hs.package_recorder, State.pev_tiles ..⟩
  show execLiveUpdateStepDone true s = _
  unfold execLiveUpdateStepDone
  simp only [h]
  rfl
theorem liveUpdate_ends (s : State) (h : s.mgmt.update = 5) :
    ∃ u, exec (.liveUpdateStepDone true) s = .next u ∧ u.mgmt.update = 0 ∧ u.mgmt.standbySync = true ∧ u.fw.activation = 3 ∧ u.tiles = s.tiles := by
  refine ⟨{ s with mgmt := { s.mgmt with standbySync := true, standbyLost := false, update := 0 }, fw := { s.fw with activation := 3 } }, ?_,
    rfl, rfl, rfl, rfl⟩
  show execLiveUpdateStepDone true s = _
  unfold execLiveUpdateStepDone
  simp only [h]

/-! ### Boot (R477) -/

section
variable (a b : Bool) (s : State) (hst : s.dev.st = .aux) (hboot : s.mgmt.booted = false)
include hst hboot

theorem firmwareBootDone_named (h : s.bootable s.fw.nextBoot (if s.fw.nextBoot = 0 then a else b) = true) :
    ∃ u, exec (.firmwareBootDone a b) s = .next u ∧ u.mgmt.booted = true ∧ u.fw.running = s.fw.nextBoot ∧ u.mgmt.active = some 0 ∧
      u.dev.st = .aux ∧ u.tiles = s.tiles :=
  ⟨_, congrArg Host.Outcome.next ((if_pos ⟨hst, by simp [hboot]⟩).trans (if_pos h)), rfl, rfl, rfl, hst, rfl⟩
theorem firmwareBootDone_other (hs : s.Sized) (h : s.bootable s.fw.nextBoot (if s.fw.nextBoot = 0 then a else b) = false)
    (hother : s.bootable (1 - s.fw.nextBoot) (if 1 - s.fw.nextBoot = 0 then a else b) = true) :
    ∃ u, exec (.firmwareBootDone a b) s = .next u ∧ u.mgmt.booted = true ∧ u.fw.running = 1 - s.fw.nextBoot ∧ u.dev.st = .aux ∧
      u.pkgReports Ev.FW_IMAGE_FALLBACK ∧ u.tiles = s.tiles := by
  let s1 : State := { s with fw := s.fw.invalid s.fw.nextBoot }.boot (1 - s.fw.nextBoot)
  have hmgmt := ((s1.alert 4).pev_mgmt Ev.FW_IMAGE_FALLBACK s.fw.nextBoot []).trans (s1.alert_mgmt 4)
  have hfw := ((s1.alert 4).pev_fw Ev.FW_IMAGE_FALLBACK s.fw.nextBoot []).trans (s1.alert_fw 4)
  have hdev := ((s1.alert 4).pev_dev Ev.FW_IMAGE_FALLBACK s.fw.nextBoot []).trans (s1.alert_dev 4)
  refine ⟨_, congrArg Host.Outcome.next ((if_pos ⟨hst, by simp [hboot]⟩).trans ((if_neg (by rw [h]; decide)).trans (if_pos hother))),
    (congrArg Mgmt.booted hmgmt :), (congrArg Firmware.running hfw :), (congrArg Device.st hdev).trans hst, State.pev_reports _ _ _ _ ?_,
    (State.pev_tiles ..).trans (State.alert_tiles ..)⟩
  exact (State.alert_recs_length s1 4).symm ▸ hs.package_recorder
theorem firmwareBootDone_halts (hnext : s.fw.nextBoot ≤ 1) (h0 : s.bootable 0 a = false) (h1 : s.bootable 1 b = false) :
    ∃ u, exec (.firmwareBootDone a b) s = .next u ∧ u.dev.st = .halted ∧ u.mgmt.booted = false ∧ u.tiles = s.tiles := by
  have hnone (i : Nat) (hi : i ≤ 1) : ¬s.bootable i (if i = 0 then a else b) = true := by
    obtain rfl | rfl : i = 0 ∨ i = 1 := by omega
    · simp [h0]
    · simp [h1]
  refine ⟨_, congrArg Host.Outcome.next ((if_pos ⟨hst, by simp [hboot]⟩).trans ((if_neg (hnone _ hnext)).trans (if_neg (hnone _ (Nat.sub_le ..))))),
    congrArg Device.st (State.goto_dev ..), ?_, State.goto_tiles ..⟩
  rw [State.goto_mgmt]
  exact hboot

end

/-! ### O54 -/

/-- Settles O54: the commands one by one, the decommission by what a COMMIT of the defaults leaves, the update step by step, the boot by the image
that may run. -/
theorem firmwareAndOwner : Obligations.FirmwareAndOwner := by
  unfold Obligations.FirmwareAndOwner
  refine ⟨fun q s ht hs => ⟨fwActivateLive_starts q s ht, fwActivateAtReset_names q s ht hs, fwSvnCommit_raises q s ht hs,
    fun cert hv hsession hrights => ?install, decommission_starts q s ht hs⟩, eraseDone_decommissions, fun s hs => ⟨liveUpdate_boots s,
    liveUpdate_syncs s, liveUpdate_takesOver s hs, liveUpdate_names s hs, liveUpdate_ends s, liveUpdate_fails s hs⟩, fun a b s hs hst hboot hnext =>
    ⟨firmwareBootDone_named a b s hst hboot, firmwareBootDone_other a b s hst hboot hs, firmwareBootDone_halts a b s hst hboot hnext⟩⟩
  case install =>
    by_cases hok : Config.certOk cert = true
    · obtain ⟨u, hexec, htiles, hkeys, hrest⟩ := ownerInstall_installs q s ht hs cert hv hsession hrights hok
      exact ⟨u, hexec, htiles, hkeys, by rwa [if_pos hok]⟩
    · obtain ⟨u, hexec, htiles, hkeys, hrest⟩ := ownerInstall_refuses q s ht cert hv hsession hrights hok
      exact ⟨u, hexec, htiles, hkeys, by rwa [if_neg hok]⟩

end Sys2Proof.Machine
end

section
/-! Proofs of 15_object_dictionary.md: errors that are logged, COMMIT as a command, partitions released (R65, R429, R433 to R436). -/
namespace Sys2Proof.Machine
open Sys2Proof

/-! ### An error is logged (R429) -/

/-- Objects of the log of errors. -/
def errorObs : List Nat := [Ob.DICT_LAST_ERROR, Ob.DICT_STATUS, Ob.DICT_OCC]
theorem State.logError_cell_ne (s : State) (q : Requester) (code detail key k d : Nat) (hk : k ∉ errorObs) :
    (s.logError q code detail key).cell k d = s.cell k d := by
  simp only [errorObs, List.mem_cons, List.not_mem_nil, or_false, not_or] at hk
  obtain ⟨hlast, hstatus, hocc⟩ := hk
  unfold State.logError
  rw [State.pev_cell, State.count_cell, State.raise_cell_ne _ _ _ _ _ _ (Ne.symm hstatus) (Ne.symm hocc), State.cell_setCell_ne _ _ _ _ _ (Ne.symm hlast)]
theorem State.logError_reports (s : State) (q : Requester) (code detail key : Nat) (h : 8 < s.recs.length) :
    (s.logError q code detail key).pkgReports Ev.DICT_ERROR := by
  refine State.pev_reports _ _ _ _ ?_
  rw [State.count_recs, State.raise_recs]
  exact h
theorem finishOp_error (q : Requester) (o : StaebOp) (r : Result) (hcode : r.code ≠ 0) : ∃ key, (finishOp q o r).1 = r.st.logError q r.code r.detail key :=
  ⟨_, if_neg hcode⟩

/-! ### Items in order (R435) -/

theorem mem_sortItems_put (x y : Nat × Nat) (l : Items) : x ∈ sortItems.put y l ↔ x = y ∨ x ∈ l := by
  induction l with
  | nil => simp [sortItems.put]
  | cons z l ih =>
    unfold sortItems.put
    split
    · simp
    · simp only [List.mem_cons, ih]
      tauto
theorem mem_sortItems (x : Nat × Nat) (l : Items) : x ∈ sortItems l ↔ x ∈ l := by
  induction l with
  | nil => rfl
  | cons y l ih => rw [sortItems, mem_sortItems_put, ih, List.mem_cons]
theorem sortItems_ne_nil {l : Items} (h : l ≠ []) : sortItems l ≠ [] := by
  obtain ⟨x, hx⟩ := List.exists_mem_of_ne_nil l h
  exact List.ne_nil_of_mem ((mem_sortItems x l).2 hx)

/-! ### A set is committed or refused (R434, R436) -/

theorem State.commitSet_applies (s : State) (q : Requester) (expected : Nat) (set : Items)
    (hgen : expected = 0xFFFFFFFF ∨ expected = s.cell Ob.CONFIG_GENERATION 0) (hset : set ≠ []) (hvalid : s.validate (sortItems set) = none) :
    s.commitSet q expected set = (s.commitWhole q (sortItems set), none) := by
  unfold State.commitSet
  extract_lets items
  rw [if_neg (by tauto), if_neg (by simpa using sortItems_ne_nil hset), hvalid]
/-- What a refused COMMIT leaves: its status is written, the refusal counted and reported. -/
structure State.Declines (s u : State) : Prop where
  parts : u.parts = s.parts
  queues : u.queues = s.queues
  feed : u.feed = s.feed
  out : u.out = s.out
  medium : s.SameMedium u
  cells : ∀ k d, k ≠ Ob.COMMIT_STATUS → u.cell k d = s.cell k d
theorem State.declines_setCommitStatus (s : State) (result : Nat) (q : Requester) : s.Declines (s.setCommitStatus result q) where
  parts := s.setCommitStatus_keeps State.parts result q (fun _ _ _ => rfl) (fun _ _ _ => rfl)
  queues := s.setCommitStatus_keeps State.queues result q (fun _ _ _ => rfl) (fun _ _ _ => rfl)
  feed := s.setCommitStatus_keeps State.feed result q (fun _ _ _ => rfl) (fun _ _ _ => rfl)
  out := s.setCommitStatus_keeps State.out result q (fun _ _ _ => rfl) (fun _ _ _ => rfl)
  medium v := ⟨s.setCommitStatus_keeps (fun u => (u.tile v).med) result q (fun _ _ _ => rfl)
      (fun u t _ => State.modTile_keeps Tile.med u t v _ (fun _ => rfl)),
    s.setCommitStatus_keeps (fun u => (u.tile v).map) result q (fun _ _ _ => rfl) (fun u t _ => State.modTile_keeps Tile.map u t v _ (fun _ => rfl))⟩
  cells k d hk := s.setCommitStatus_cell_ne result k d q hk
theorem State.Declines.count {s u : State} (h : s.Declines u) (num k : Nat) : s.Declines (u.count num k) where
  parts := (State.count_parts ..).trans h.parts
  queues := (State.count_queues ..).trans h.queues
  feed := (State.count_feed ..).trans h.feed
  out := (State.count_out ..).trans h.out
  medium v := by
    rw [State.count_tile]
    exact h.medium v
  cells x d hx := (State.count_cell ..).trans (h.cells x d hx)
theorem State.Declines.pev {s u : State} (h : s.Declines u) (code value : Nat) (qs : List (Nat × Nat)) : s.Declines (u.pev code value qs) where
  parts := (State.pev_parts ..).trans h.parts
  queues := (State.pev_queues ..).trans h.queues
  feed := (State.pev_feed ..).trans h.feed
  out := (State.pev_out ..).trans h.out
  medium v := by
    rw [State.pev_tile]
    exact h.medium v
  cells x d hx := (State.pev_cell ..).trans (h.cells x d hx)
/-- A set that breaks a rule is refused whole. -/
theorem State.commitSet_refuses (s : State) (q : Requester) (expected : Nat) (set : Items) (e : Refused)
    (hgen : expected = 0xFFFFFFFF ∨ expected = s.cell Ob.CONFIG_GENERATION 0) (hset : set ≠ []) (hvalid : s.validate (sortItems set) = some e) :
    ∃ u, s.commitSet q expected set = (u, some e) ∧ s.Declines u := by
  have hrefused := (s.declines_setCommitStatus e.code q).count Cn.COMMITS_REFUSED 1
  unfold State.commitSet
  extract_lets items
  rw [if_neg (by tauto), if_neg (by simpa using sortItems_ne_nil hset), hvalid]
  refine ⟨_, rfl, ?_⟩
  split
  · exact hrefused.pev _ _ _
  · exact hrefused
/-- So is a set for another generation. -/
theorem State.commitSet_generation (s : State) (q : Requester) (expected : Nat) (set : Items) (hany : expected ≠ 0xFFFFFFFF)
    (hgen : expected ≠ s.cell Ob.CONFIG_GENERATION 0) : ∃ u, s.commitSet q expected set =
      (u, some { code := Err.state, detail := Detail.generation, key := Ob.COMMIT }) ∧ s.Declines u :=
  ⟨_, if_pos ⟨hany, hgen⟩, (s.declines_setCommitStatus Err.state q).count Cn.COMMITS_REFUSED 1⟩

/-! ### COMMIT as a command (R433, R434, R436) -/

theorem State.setOf_dropSet (s : State) (q : Requester) : (s.dropSet q).setOf q = none := by
  refine List.find?_eq_none.2 (fun x hx => ?_)
  have hne := (List.mem_filter.1 hx).2
  simpa using hne
/-- The items that a requester has staged. -/
def State.stagedItems (s : State) (q : Requester) : Items :=
  match s.setOf q with
  | some x => x.items
  | none => []
theorem State.stagedItems_of_set {s : State} {q : Requester} {x : StagedSet} (h : s.setOf q = some x) : s.stagedItems q = x.items := by
  unfold State.stagedItems
  rw [h]
/-- How a COMMIT ends by what has become of its set. -/
def commitEnd (q : Requester) (c : State × Option Refused) : Result :=
  match c.2 with
  | none => (c.1.dropSet q).done (bytesLE 8 (c.1.cell Ob.COMMIT_STATUS 0))
  | some e => { (c.1.dropSet q).refused e.code e.detail with named := some e.key }
theorem State.commitOp_eq (s : State) (q : Requester) (expected : Nat) (hin : s.inService = true) :
    s.commitOp q expected = commitEnd q (s.commitSet q expected (s.stagedItems q)) := by
  refine (if_neg (by simp [hin])).trans ?_
  show (match s.commitSet q expected (s.stagedItems q) with
    | (s1, none) => (s1.dropSet q).done (bytesLE 8 (s1.cell Ob.COMMIT_STATUS 0))
    | (s1, some e) => { (s1.dropSet q).refused e.code e.detail with named := some e.key }) = _
  obtain ⟨u, e⟩ := s.commitSet q expected (s.stagedItems q)
  cases e <;> rfl
/-- The row of COMMIT. -/
def commitRow : ObRow := obRow Ob.COMMIT 0 .one 4 .cmd .any
theorem permits_commit (s : State) (q : Requester) (v : Nat) (hv : v < 2 ^ 32) : s.Permits q ⟨commitRow, 0, 0⟩ v :=
  permits_package s q commitRow v (by decide +kernel) rfl rfl rfl hv
theorem exec_commit (q : Requester) (expected : Nat) (s : State) : exec (.commit q expected 0) s = .next (s.writeOb q Ob.COMMIT 4 expected) :=
  congrArg Host.Outcome.next (if_pos (.inl rfl))

section
variable {s : State} {q : Requester} {expected : Nat} (ht : s.Takes q) (hin : s.inService = true) (hv : expected < 2 ^ 32)
include ht hin hv

/-- A COMMIT whose set is refused. -/
theorem commit_refuses {e : Refused} {u : State} (hcode : e.code ≠ 0)
    (hcommit : s.commitSet q expected (s.stagedItems q) = (u, some e)) (hrefused : s.Declines u) :
    ∃ w, exec (.commit q expected 0) s = .next w ∧ w.setOf q = none ∧ s.Replies w q Ob.COMMIT e.code e.detail [] ∧ w.parts = s.parts ∧
      w.queues = s.queues ∧ w.feed = s.feed ∧ s.SameMedium w ∧ (∀ k d, k ≠ Ob.COMMIT_STATUS → k ∉ errorObs → w.cell k d = s.cell k d) := by
  let r : Result := { (u.dropSet q).refused e.code e.detail with named := some e.key }
  have hgo : s.commitOp q expected = r := (s.commitOp_eq q expected hin).trans (by rw [hcommit]; rfl)
  obtain ⟨out, cnt, hwrite, hreply⟩ := (permits_commit s q expected hv).write_ends ht (.inl hin) (congrArg OpEnd.now hgo) (r := r) hrefused.out
  obtain ⟨key, hlog⟩ := finishOp_error q (ObPlace.write ⟨commitRow, 0, 0⟩ expected) r hcode
  have hcell (k d : Nat) (hk : k ≠ Ob.COMMIT_STATUS) (herr : k ∉ errorObs) :
      (finishOp q (ObPlace.write ⟨commitRow, 0, 0⟩ expected) r).1.cell k d = s.cell k d := by
    rw [hlog, State.logError_cell_ne _ _ _ _ _ _ _ herr]
    exact hrefused.cells k d hk
  obtain ⟨obj, cnt', recs, hframe, -⟩ := finishOp_frame q (ObPlace.write ⟨commitRow, 0, 0⟩ expected) r
  refine ⟨_, (exec_commit q expected s).trans (congrArg Host.Outcome.next hwrite), ?_, hreply, ?_, ?_, ?_, ?_, hcell⟩ <;> rw [hframe]
  · exact u.setOf_dropSet q
  · exact hrefused.parts
  · exact hrefused.queues
  · exact hrefused.feed
  · exact hrefused.medium
/-- A COMMIT whose set takes effect. -/
theorem commit_ends {u : State} (hcommit : s.commitSet q expected (s.stagedItems q) = (u, none)) (hout : u.out = s.out) :
    ∃ out cnt, exec (.commit q expected 0) s = .next { u.dropSet q with out := out, cnt := cnt } ∧
      s.Replies { u.dropSet q with out := out, cnt := cnt } q Ob.COMMIT 0 0 (bytesLE 8 (u.cell Ob.COMMIT_STATUS 0)) := by
  have hgo : s.commitOp q expected = (u.dropSet q).done (bytesLE 8 (u.cell Ob.COMMIT_STATUS 0)) :=
    (s.commitOp_eq q expected hin).trans (by rw [hcommit]; rfl)
  obtain ⟨out, cnt, hwrite, hreply⟩ := (permits_commit s q expected hv).write_returns ht (.inl hin) (congrArg OpEnd.now hgo) hout
  exact ⟨out, cnt, (exec_commit q expected s).trans (congrArg Host.Outcome.next hwrite), hreply⟩
theorem commit_applies (hs : s.Sized) {x : StagedSet} (hx : s.setOf q = some x) (hitems : x.items ≠ [])
    (hgen : expected = 0xFFFFFFFF ∨ expected = s.cell Ob.CONFIG_GENERATION 0) (hvalid : s.validate (sortItems x.items) = none)
    (hnot : ∀ v, (Ob.CONFIG_GENERATION, v) ∉ x.items) :
    ∃ u data, exec (.commit q expected 0) s = .next u ∧ u.setOf q = none ∧ s.Replies u q Ob.COMMIT 0 0 data ∧
      u.cell Ob.CONFIG_GENERATION 0 = min 0xFFFFFFFE (s.cell Ob.CONFIG_GENERATION 0 + 1) ∧ data = bytesLE 8 (u.cell Ob.COMMIT_STATUS 0) ∧
      u.pkgReports Ev.COMMIT_APPLIED ∧ (∀ v, x.items = [(Ob.PATROL_INTERVAL, v)] → u.cell Ob.PATROL_INTERVAL 96 = v) := by
  have hcommit := s.commitSet_applies q expected x.items hgen hitems hvalid
  rw [← State.stagedItems_of_set hx] at hcommit
  have hdone := s.commitWhole_commits q (sortItems (s.stagedItems q))
  generalize s.commitWhole q (sortItems (s.stagedItems q)) = u at hcommit hdone
  obtain ⟨out, cnt, hexec, hreply⟩ := commit_ends ht hin hv hcommit hdone.out
  rw [State.stagedItems_of_set hx] at hdone
  refine ⟨_, _, hexec, u.setOf_dropSet q, hreply, hdone.generation (fun v hmem => hnot v ((mem_sortItems _ _).1 hmem)), rfl, ?_, fun v hone => ?_⟩
  · exact State.reports_of_recs u _ 8 _ rfl (hdone.reports hs.package_recorder)
  · refine (hdone.patrol 96).trans ?_
    rw [hone]
    exact Sparse.getD_insert_same _ _ _ _

end

/-! ### A partition is released (R65) -/

theorem State.within_releaseIn (s : State) (t p : Nat) : State.Within t s (s.releaseIn t p) := by
  unfold State.releaseIn
  extract_lets x before own s1 s2 s3 s4
  have h1 : State.Within t s s1 := State.within_each t s own _ (fun u e => by
    split
    · exact u.within_release t _
    · exact State.Within.refl t u)
  have h4 : State.Within t s1 s4 := (State.within_modTile s1 t _).trans ((State.within_modTile s2 t _).trans (State.within_modTile s3 t _))
  exact ((h1.trans h4).trans (State.within_modTile s4 t _)).trans (State.within_noteSpares _ t before)
theorem partitionReleased_frees (p : Nat) (s : State) (hp : p < 64) (hs : s.Sized) (hst : (s.partn p).st = 2)
    (hidle : s.activeTiles.all (fun t => !s.partBusy t p) = true) :
    ∃ u, exec (.partitionReleased p) s = .next u ∧ (u.partn p).st = 0 ∧ u.pkgReports Ev.PARTITION_RELEASED ∧
      (∀ k, k ≠ p → u.partn k = s.partn k) ∧ u.out = s.out := by
  let s1 := s.each s.activeTiles (fun u t => u.releaseIn t p)
  have hkeeps {β : Type} (g : State → β) (h : ∀ t u v, State.Within t u v → g v = g u) : g s1 = g s :=
    State.each_keeps g _ _ _ (fun u t => h t _ _ (u.within_releaseIn t p))
  have hparts : s1.parts = s.parts := hkeeps State.parts (fun _ _ _ h => h.parts)
  have hpartn (k : Nat) : (State.partn (({ s1 with parts := s1.parts.insert p PartInfo.free } : State).pev Ev.PARTITION_RELEASED p
      [(4, (s.partn p).total * (tilesOf (s.partn p).tileSet).length)]) k) = (s.parts.insert p PartInfo.free).getD k PartInfo.free := by
    rw [State.partn, State.pev_parts, ← hparts]
  refine ⟨_, congrArg Host.Outcome.next (if_pos ⟨hp, hst, hidle⟩), ?_, State.pev_reports _ _ _ _ ?_, fun k hk => ?_, ?_⟩
  · refine (congrArg PartInfo.st (hpartn p)).trans ?_
    rw [Sparse.getD_insert_same]
    rfl
  · show 8 < s1.recs.length
    rw [hkeeps (fun u => u.recs.length) (fun _ _ _ h => h.recs)]
    exact hs.package_recorder
  · refine (hpartn k).trans ?_
    rw [Sparse.getD_insert_ne _ _ _ _ _ hk.symm]
    rfl
  · exact (State.pev_out ..).trans (hkeeps State.out (fun _ _ _ h => h.out))

/-! ### O50 -/

/-- Settles O50: a set that breaks no rule by what an application leaves, a refused one by what the status of a COMMIT writes. -/
theorem commitIsWhole : Obligations.CommitIsWhole := by
  unfold Obligations.CommitIsWhole
  refine ⟨fun q expected x s ht hin hs hv hx hitems hgen hvalid hnot => commit_applies ht hin hv hs hx hitems hgen hvalid hnot,
    fun q expected x e s ht hin hs hv hx hitems hgen hvalid hcode => ?refused, fun q expected s ht hin hs hv hany hgen => ?generation,
    partitionReleased_frees⟩
  case refused =>
    obtain ⟨u, hcommit, hrefused⟩ := s.commitSet_refuses q expected x.items e hgen hitems hvalid
    obtain ⟨w, hexec, hset, hreply, hparts, hqueues, hfeed, hmedium, hcells⟩ := commit_refuses ht hin hv hcode
      (by rw [State.stagedItems_of_set hx]; exact hcommit) hrefused
    refine ⟨w, hexec, hset, hreply, hparts, hqueues, hfeed, hmedium, hcells _ 0 (by decide) (by decide), fun k d hk hlast hstatus hocc => ?_⟩
    exact hcells k d hk (by simp [errorObs, hlast, hstatus, hocc])
  case generation =>
    obtain ⟨u, hcommit, hrefused⟩ := s.commitSet_generation q expected (s.stagedItems q) hany hgen
    obtain ⟨w, hexec, hset, hreply, hparts, hqueues, -, -, hcells⟩ := commit_refuses ht hin hv
      (e := { code := Err.state, detail := Detail.generation, key := Ob.COMMIT }) (by show Err.state ≠ 0; decide) hcommit hrefused
    exact ⟨w, hexec, hset, hreply, hparts, hqueues, hcells _ 0 (by decide) (by decide)⟩

end Sys2Proof.Machine
end

section
/-! Proofs of 05_write_path.md: the zeros that the device writes leave blocks and recorders (R323, R373). -/
namespace Sys2Proof.Machine
open Sys2Proof

/-! ### What the device's own write of a line leaves of the services -/

/-- From `s` to `u` the services stand, and no recorder goes. -/
structure State.Zeroes (s u : State) : Prop where
  svc : u.svc = s.svc
  recs : u.recs.length = s.recs.length

theorem State.Zeroes.refl (s : State) : s.Zeroes s := ⟨rfl, rfl⟩
theorem State.Zeroes.trans {s t u : State} (a : s.Zeroes t) (b : t.Zeroes u) : s.Zeroes u := ⟨b.svc.trans a.svc, b.recs.trans a.recs⟩
theorem State.Zeroes.ite {s u v : State} {c : Prop} [Decidable c] (a : s.Zeroes u) (b : s.Zeroes v) : s.Zeroes (if c then u else v) := by
  split
  · exact a
  · exact b
theorem State.zeroes_each {α : Type} (s : State) (l : List α) (f : State → α → State) (h : ∀ u x, State.Zeroes u (f u x)) : s.Zeroes (s.each l f) :=
  State.each_induct s.Zeroes s l f (State.Zeroes.refl s) (fun u x _ hu => hu.trans (h u x))
theorem State.zeroes_modRes (s : State) (t : Nat) (f : TileRes → TileRes) : s.Zeroes (s.modRes t f) := ⟨rfl, rfl⟩
theorem State.zeroes_modRd (s : State) (t : Nat) (f : TileRead → TileRead) : s.Zeroes (s.modRd t f) := ⟨rfl, rfl⟩
theorem State.zeroes_tcount (s : State) (t num k : Nat) : s.Zeroes (s.tcount t num k) := ⟨by simp, by simp⟩
theorem State.zeroes_tev (s : State) (t num cls value : Nat) (qs : List (Nat × Nat)) : s.Zeroes (s.tev t num cls value qs) :=
  ⟨by simp, by simp [State.tev, State.stage, length_modAt]⟩
theorem State.zeroes_raise (s : State) (a b c : Nat) : s.Zeroes (s.raise a b c) := ⟨rfl, rfl⟩
theorem State.zeroes_setCell (s : State) (k v : Nat) : s.Zeroes (s.setCell k v) := ⟨rfl, rfl⟩
theorem State.zeroes_shadowFor (s : State) (t owner : Nat) (add : Bool) (kind addr : Nat) : s.Zeroes (s.shadowFor t owner add kind addr) := by
  have hsend (u : State) (a d k : Nat) : u.Zeroes (u.ringSend a d k) := u.zeroes_each _ _ (fun v _ => v.zeroes_tcount _ _ _)
  exact .ite (.refl s) (.ite (s.zeroes_modRes t _) ((s.zeroes_modRes _ _).trans (hsend _ _ _ _)))
theorem State.zeroes_noteGate (s : State) (t : Nat) : s.Zeroes (s.noteGate t) :=
  .ite ((s.zeroes_modRes t _).trans (State.zeroes_tev ..)) (s.zeroes_modRes t _)
theorem State.zeroes_giveNibs (s : State) (t : Nat) (r : Req) : s.Zeroes (s.giveNibs t r) := .ite (s.zeroes_modRd t _) (.refl s)
theorem State.zeroes_countMerge (s : State) (t : Nat) (e : Entry) (full : Bool) : s.Zeroes (s.countMerge t e full) := by
  unfold State.countMerge
  extract_lets s1 s2
  have h1 : s.Zeroes s1 := .ite (s.zeroes_tcount _ _ _) (.refl s)
  have h2 : s1.Zeroes s2 := .ite (s1.zeroes_tcount _ _ _) (.refl s1)
  exact (h1.trans h2).trans (.ite (.refl s2) (s2.zeroes_tcount _ _ _))
theorem State.zeroes_violateReq (s : State) (t : Nat) (r : Req) : s.Zeroes (s.violateReq t r 5) := by
  have hviolated (cls iface dpa q : Nat) : s.Zeroes (s.violate t cls iface 5 dpa q) :=
    (((s.zeroes_raise _ _ _).trans (State.zeroes_setCell ..)).trans (State.zeroes_tev ..))
  exact (hviolated _ _ _ _).trans (State.zeroes_tcount ..)

section
variable {r : Req} (hr : r.iface = .maint)
include hr

theorem State.zeroes_leaveIngress (s : State) : s.Zeroes (s.leaveIngress r) := by
  rw [State.leaveIngress, if_neg (by rw [hr]; decide)]
  exact .refl s
theorem State.zeroes_violateAt (s : State) (t : Nat) : s.Zeroes (s.violateAt t r 5) := by
  have hanswer (u : State) : u.answerViolation r 5 = u := by simp only [State.answerViolation, hr]
  unfold State.violateAt
  rw [hanswer]
  exact ((s.zeroes_violateReq t r).trans (State.zeroes_modRd ..)).trans (State.zeroes_leaveIngress hr _)
theorem State.zeroes_accepted (s : State) (t : Nat) (new : Req) (created : Bool) : s.Zeroes (s.accepted t r new created) := by
  have hack (u : State) : u.Zeroes (u.ackWrite t r) := by
    simp only [State.ackWrite, hr]
    exact (u.zeroes_modRd t _).trans (State.zeroes_leaveIngress hr _)
  unfold State.accepted
  extract_lets m spanned s1
  have h1 : s.Zeroes s1 := (s.zeroes_modRes t _).trans (State.zeroes_tcount ..)
  exact .ite (s.zeroes_modRes t _) (.ite (h1.trans (s1.zeroes_modRes t _)) (h1.trans (hack s1)))
theorem State.zeroes_mergeInto (s : State) (t : Nat) (e : Entry) (hp : r.poison = false) : s.Zeroes (s.mergeInto t e r) := by
  unfold State.mergeInto
  extract_lets old base created s1 s2 s3
  have h2 : s1.Zeroes s2 := .ite (s1.zeroes_shadowFor ..) (.refl s1)
  have h3 : s3 = s2 := if_neg (by simp [hp])
  rw [h3]
  exact ((((s.zeroes_modRes t _).trans h2).trans (s2.zeroes_countMerge ..)).trans (State.zeroes_accepted hr ..)).trans (State.zeroes_noteGate ..)
theorem State.zeroes_mergeNew (s : State) (t : Nat) (hp : r.poison = false) : s.Zeroes (s.mergeNew t r) := by
  unfold State.mergeNew
  extract_lets blank e beyond s1 s2 s3 s4
  have h2 : s1.Zeroes s2 := .ite (s1.zeroes_tcount _ _ _) (.refl s1)
  have h3 : s2.Zeroes s3 := s2.zeroes_shadowFor ..
  have h4 : s4 = s3 := if_neg (by simp [hp])
  rw [h4]
  exact ((((s.zeroes_modRes t _).trans h2).trans h3).trans (State.zeroes_accepted hr ..)).trans (State.zeroes_noteGate ..)

end

theorem State.zeroes_mailboxAccept (s : State) (t : Nat) {r : Req} (hr : r.OwnWrite) (hp : r.poison = false) : s.Zeroes (s.mailboxAccept t r) := by
  have hlookup (u : State) : u.Zeroes (u.lookupWrite t r 0) := by
    unfold State.lookupWrite
    simp only [hp, hr.single, hr.whole, Bool.false_eq_true, ne_eq, not_true_eq_false, true_or, if_false, if_true]
    refine .ite ((u.zeroes_giveNibs t r).trans (State.zeroes_violateAt hr.iface _ t)) ?_
    split
    · exact (u.zeroes_giveNibs t r).trans (State.zeroes_mergeInto hr.iface _ t _ hp)
    · exact (u.zeroes_giveNibs t r).trans (State.zeroes_mergeNew hr.iface _ t hp)
  unfold State.mailboxAccept State.lookup
  rw [if_pos hr.write]
  exact ((s.zeroes_modRd t _).trans (hlookup _)).trans (State.zeroes_noteGate ..)
theorem State.zeroes_zeroLine (s : State) (dpa : Nat) : s.Zeroes (s.zeroLine dpa) := by
  unfold State.zeroLine
  split
  · exact .refl s
  · split
    split
    · exact .refl s
    · extract_lets x kx none r
      have hown : r.OwnWrite := ⟨rfl, rfl, rfl, rfl, fun _ => rfl⟩
      exact .ite (.refl s) (s.zeroes_mailboxAccept _ hown rfl)
theorem State.zeroes_zeroLines (s : State) (dpa k : Nat) : s.Zeroes (s.zeroLines dpa k) := s.zeroes_each _ _ (fun u _ => u.zeroes_zeroLine _)

end Sys2Proof.Machine
end

section
/-! Proofs of 13_host_ports.md: dynamic capacity, commands that commit configuration (R367, R369, R371 to R373, R385, R436). -/
namespace Sys2Proof.Machine
open Sys2Proof

/-! ### How a command ends -/

/-- A completion leaves everything but the messages and the counters. -/
theorem State.completed_frame (s : State) (p l op rc : Nat) (out : List Nat) : ∃ ms cnt, s.completed p l op rc out = { s with out := ms, cnt := cnt } ∧
    State.Completes { s with out := ms, cnt := cnt } p l op rc out := by
  obtain ⟨cnt, h⟩ := ({ s with out := s.out ++ [Response.mailbox p l op rc out] } : State).count_frame (p * 0x400 + Cn.MAILBOX_COMMANDS) 1
  exact ⟨_, cnt, h, s.out, rfl⟩
theorem State.fmCompleted_frame (s : State) (q : Requester) (p op rc : Nat) (out : List Nat) : ∃ ms cnt,
    s.fmCompleted q p op rc out = { s with out := ms, cnt := cnt } ∧ State.Completes { s with out := ms, cnt := cnt } p fmLd op rc out := by
  unfold State.fmCompleted
  split
  · exact s.completed_frame p fmLd op rc out
  · exact ⟨_, s.cnt, rfl, s.out, rfl⟩
/-- A free mailbox whose command succeeds in `u`. -/
theorem State.MailboxFree.succeeds {s u : State} {p l : Nat} (h : s.MailboxFree p l) {i : Instr} {op : Nat} {f : State → MbEnd}
    (hi : exec i s = .next (s.mailbox p l op .write f)) (hin : s.inService = true) (hf : f s = u.mbDone []) : ∃ ms cnt,
      exec i s = .next { u with out := ms, cnt := cnt } ∧ State.Completes { u with out := ms, cnt := cnt } p l op Rc.success [] := by
  obtain ⟨ms, cnt, hframe, hdone⟩ := u.completed_frame p l op Rc.success []
  exact ⟨ms, cnt, hi.trans ((h.ends (State.needsFault_write_of_inService hin) hf).trans (congrArg Host.Outcome.next hframe)), hdone⟩
/-- An FM API command that succeeds in `u`. -/
theorem State.FmFree.succeeds {s u : State} {q : Requester} {p : Nat} (h : s.FmFree q p) {i : Instr} {op : Nat} {f : Requester → State → MbEnd}
    (hi : exec i s = .next (s.fm q p op .write f)) (hin : s.inService = true) (hf : f (fmRequester q p) s = u.mbDone []) : ∃ ms cnt,
      exec i s = .next { u with out := ms, cnt := cnt } ∧ State.Completes { u with out := ms, cnt := cnt } p fmLd op Rc.success [] := by
  obtain ⟨ms, cnt, hframe, hdone⟩ := u.fmCompleted_frame q p op Rc.success []
  refine ⟨ms, cnt, hi.trans (congrArg Host.Outcome.next ((h.fm op .write f (State.needsFault_write_of_inService hin)).trans ?_)), hdone⟩
  rw [hf]
  exact hframe

/-! ### Blocks are added and released (R371, R372) -/

theorem State.acceptDc_adds (s : State) (p l : Nat) (gibs : List Nat) (hs : s.Sized) (hgibs : gibs ≠ []) :
    ((s.acceptDc p l gibs).ld p l).pendingAdd = [] ∧
    ((s.acceptDc p l gibs).ld p l).blocks = (s.ld p l).blocks ++ (s.ld p l).pendingAdd.filter (fun b => gibs.contains (s.gibOf p l b)) ∧
    (s.acceptDc p l gibs).cell Ob.DC_GENERATION 0 = (s.cell Ob.DC_GENERATION 0 + 1) % 2 ^ 32 ∧
    (s.acceptDc p l gibs).pkgReports Ev.DC_EXTENT_ADDED ∧ (s.acceptDc p l gibs).tiles = s.tiles := by
  unfold State.acceptDc
  extract_lets s1
  rw [if_neg hgibs, State.pev_ld, State.count_ld, State.pev_cell, State.count_cell, State.pev_tiles, State.count_tiles]
  have hld := s.ld_modLd_same p l (fun d => { d with
    blocks := d.blocks ++ d.pendingAdd.filter (fun b => gibs.contains (s.gibOf p l b)), pendingAdd := [] })
  refine ⟨(congrArg LD.pendingAdd hld :), (congrArg LD.blocks hld :), State.cell_setCell_same .., State.pev_reports _ _ _ _ ?_, rfl⟩
  rw [State.count_recs]
  exact hs.package_recorder
theorem State.releaseDc_releases (s : State) (p l : Nat) (gibs : List Nat) (forced : Bool) (hs : s.Sized) :
    ((s.releaseDc p l gibs forced).ld p l).blocks = (s.ld p l).blocks.filter (fun b => !gibs.contains (s.gibOf p l b)) ∧
    (s.releaseDc p l gibs forced).cell Ob.DC_GENERATION 0 = (s.cell Ob.DC_GENERATION 0 + 1) % 2 ^ 32 ∧
    (s.releaseDc p l gibs forced).pkgReports Ev.DC_EXTENT_RELEASED ∧ (s.releaseDc p l gibs forced).tiles = s.tiles := by
  unfold State.releaseDc
  extract_lets x zero gone n s1 s2
  rw [State.pev_ld, State.count_ld, State.pev_cell, State.count_cell, State.pev_tiles, State.count_tiles]
  have hld : s1.ld p l = _ := s.ld_modLd_same p l _
  refine ⟨(congrArg LD.blocks hld :), State.cell_setCell_same .., State.pev_reports _ _ _ _ ?_, rfl⟩
  rw [State.count_recs]
  exact hs.package_recorder
theorem addDynamicCapacityResponse_adds (p l : Nat) (extents : Extents) (s : State) (hfree : s.MailboxFree p l) (hin : s.inService = true)
    (hs : s.Sized) : let gibs := (gibsOf extents).eraseDups
    gibs ≠ [] → gibs.all (fun g => (s.gibsIn p l (s.ld p l).pendingAdd).contains g) = true →
    ∃ u, exec (.addDynamicCapacityResponse p l extents) s = .next u ∧ u.Completes p l 0x4802 Rc.success [] ∧ (u.ld p l).pendingAdd = [] ∧
      (u.ld p l).blocks = (s.ld p l).blocks ++ (s.ld p l).pendingAdd.filter (fun b => gibs.contains (s.gibOf p l b)) ∧
      u.cell Ob.DC_GENERATION 0 = (s.cell Ob.DC_GENERATION 0 + 1) % 2 ^ 32 ∧ u.pkgReports Ev.DC_EXTENT_ADDED ∧ u.tiles = s.tiles := by
  intro gibs hgibs hall
  obtain ⟨hpending, hblocks, hgen, hreports, htiles⟩ := s.acceptDc_adds p l gibs hs hgibs
  obtain ⟨ms, cnt, hexec, hdone⟩ := hfree.succeeds (u := s.acceptDc p l gibs) (i := .addDynamicCapacityResponse p l extents) rfl hin (if_pos hall)
  exact ⟨_, hexec, hdone, hpending, hblocks, hgen, State.reports_of_recs (s.acceptDc p l gibs) _ 8 _ rfl hreports, htiles⟩
theorem releaseDynamicCapacity_releases (p l : Nat) (extents : Extents) (s : State) (hfree : s.MailboxFree p l) (hin : s.inService = true)
    (hs : s.Sized) : let gibs := (gibsOf extents).eraseDups
    gibs ≠ [] → gibs.all (fun g => (s.gibsIn p l (s.ld p l).blocks).contains g) = true →
    ∃ u, exec (.releaseDynamicCapacity p l extents) s = .next u ∧ u.Completes p l 0x4803 Rc.success [] ∧
      (u.ld p l).blocks = (s.ld p l).blocks.filter (fun b => !gibs.contains (s.gibOf p l b)) ∧
      u.cell Ob.DC_GENERATION 0 = (s.cell Ob.DC_GENERATION 0 + 1) % 2 ^ 32 ∧ u.pkgReports Ev.DC_EXTENT_RELEASED ∧ u.tiles = s.tiles := by
  intro gibs hgibs hall
  obtain ⟨hblocks, hgen, hreports, htiles⟩ := s.releaseDc_releases p l gibs false hs
  obtain ⟨ms, cnt, hexec, hdone⟩ := hfree.succeeds (u := s.releaseDc p l gibs false) (i := .releaseDynamicCapacity p l extents) rfl hin
    (if_pos ⟨hgibs, hall⟩)
  exact ⟨_, hexec, hdone, hblocks, hgen, State.reports_of_recs (s.releaseDc p l gibs false) _ 8 _ rfl hreports, htiles⟩
theorem State.postLog_keeps {β : Type} (g : State → β) (s : State) (k log kind code ts bytes : Nat)
    (hl : ∀ (u : State) f, (∀ d, (f d).blocks = d.blocks ∧ (f d).pendingAdd = d.pendingAdd) → g (u.modLd (k / 16) (k % 16) f) = g u)
    (ho : ∀ (u : State) ms, g { u with out := ms } = g u) : g (s.postLog k log kind code ts bytes) = g s := by
  unfold State.postLog
  extract_lets x p was s1
  have h1 : g s1 = g s := hl s _ (by exact fun _ => ⟨rfl, rfl⟩)
  split
  · exact (ho s1 _).trans h1
  · exact h1
theorem initiateDynamicCapacityAdd_pends (q : Requester) (p l tag : Nat) (extents : Extents) (s : State) (hfree : s.FmFree q p)
    (hin : s.inService = true) (hl : l < 16) : let gibs := (gibsOf extents).eraseDups
    s.addBarred p l gibs = false → gibs.any (fun g => s.svc.sanitizing.contains (s.dpaGib p l g)) = false →
    ∃ u, exec (.initiateDynamicCapacityAdd q p l tag extents) s = .next u ∧ u.Completes p fmLd 0x5604 Rc.success [] ∧
      (u.ld p l).pendingAdd = (s.ld p l).pendingAdd ++ gibs.filterMap (s.blockAt p l tag) ∧ (u.ld p l).blocks = (s.ld p l).blocks ∧
      u.tiles = s.tiles := by
  intro gibs hbarred hzeroing
  let s1 := s.modLd p l (fun d => { d with pendingAdd := d.pendingAdd ++ gibs.filterMap (s.blockAt p l tag) })
  obtain ⟨ms, cnt, hexec, hdone⟩ := hfree.succeeds (u := s1.postDc p l 3 tag (mergeGibs gibs)) (i := .initiateDynamicCapacityAdd q p l tag extents) rfl
    hin ((if_neg (ne_true_of_eq_false hbarred)).trans (if_neg (ne_true_of_eq_false hzeroing)))
  have hkeeps (g : LD → List DcBlock)
      (hg : ∀ f : LD → LD, (∀ d, (f d).blocks = d.blocks ∧ (f d).pendingAdd = d.pendingAdd) → ∀ d, g (f d) = g d) :
      g ((s1.postDc p l 3 tag (mergeGibs gibs)).ld p l) = g (s1.ld p l) := by
    refine s1.postLog_keeps (fun u => g (u.ld p l)) _ _ _ _ _ _ (fun u f hf => ?_) (fun _ _ => rfl)
    rw [show (16 * p + l) / 16 = p by omega, show (16 * p + l) % 16 = l by omega, State.ld_modLd_same]
    exact hg f hf _
  have hld : s1.ld p l = _ := s.ld_modLd_same p l _
  refine ⟨_, hexec, hdone, (hkeeps LD.pendingAdd (fun f hf d => (hf d).2)).trans (congrArg LD.pendingAdd hld :),
    (hkeeps LD.blocks (fun f hf d => (hf d).1)).trans (congrArg LD.blocks hld :), ?_⟩
  exact s1.postLog_keeps State.tiles _ _ _ _ _ _ (fun _ _ _ => rfl) (fun _ _ => rfl)
theorem initiateDynamicCapacityRelease_releases (q : Requester) (p l : Nat) (extents : Extents) (s : State) (hfree : s.FmFree q p)
    (hin : s.inService = true) (hex : s.ldExists p l = true) (hs : s.Sized) : let gibs := (gibsOf extents).eraseDups
    gibs ≠ [] → gibs.all (fun g => (s.gibsIn p l (s.ld p l).blocks).contains g) = true →
    ∃ u, exec (.initiateDynamicCapacityRelease q p l extents true) s = .next u ∧ u.Completes p fmLd 0x5605 Rc.success [] ∧
      (u.ld p l).blocks = (s.ld p l).blocks.filter (fun b => !gibs.contains (s.gibOf p l b)) ∧
      u.cell Ob.DC_GENERATION 0 = (s.cell Ob.DC_GENERATION 0 + 1) % 2 ^ 32 ∧ u.tiles = s.tiles := by
  intro gibs hgibs hall
  have hadded : gibs.all (fun g => (s.gibsIn p l ((s.ld p l).blocks ++ (s.ld p l).pendingAdd)).contains g) = true := by
    refine List.all_eq_true.2 (fun g hg => ?_)
    have hmem := List.all_eq_true.1 hall g hg
    simp only [State.gibsIn, List.contains_eq_mem, List.map_append, List.mem_append, decide_eq_true_eq] at hmem ⊢
    exact .inl hmem
  have hlegal : ¬((!s.ldExists p l) = true ∨ gibs = [] ∨
      (!gibs.all (fun g => (s.gibsIn p l ((s.ld p l).blocks ++ (s.ld p l).pendingAdd)).contains g)) = true) := by
    rw [hex, hadded]
    simpa using hgibs
  obtain ⟨hblocks, hgen, -, htiles⟩ := s.releaseDc_releases p l gibs true hs
  obtain ⟨ms, cnt, hexec, hdone⟩ := hfree.succeeds (u := s.releaseDc p l gibs true)
    (i := .initiateDynamicCapacityRelease q p l extents true) rfl hin
    ((if_neg hlegal).trans (if_pos rfl))
  exact ⟨_, hexec, hdone, hblocks, hgen, htiles⟩
theorem State.Zeroes.zeroed {s z : State} (h : s.Zeroes z) (gib : Nat) (hs : s.Sized) :
    ((z.zeroed gib).pev Ev.DC_SANITIZE_DONE gib [(4, 1)]).svc.sanitizing = s.svc.sanitizing.filter (fun g => decide (g ≠ gib)) ∧
    ((z.zeroed gib).pev Ev.DC_SANITIZE_DONE gib [(4, 1)]).pkgReports Ev.DC_SANITIZE_DONE := by
  refine ⟨?_, State.pev_reports _ _ _ _ (h.recs.symm ▸ hs.package_recorder)⟩
  rw [State.pev_svc]
  exact congrArg (fun v => v.sanitizing.filter (fun g => decide (g ≠ gib))) h.svc
theorem execDcSanitizeDone_zeroes (gib : Nat) (s : State) (hin : s.inService = true) (hz : s.svc.sanitizing.contains gib = true) :
    execDcSanitizeDone gib s = .next (((s.zeroLines (gib * 2 ^ 30) blockLines).zeroed gib).pev Ev.DC_SANITIZE_DONE gib [(4, 1)]) := by
  unfold execDcSanitizeDone
  rw [if_pos ⟨hin, hz⟩]
theorem dcSanitizeDone_ends (gib : Nat) (s : State) (hin : s.inService = true) (hs : s.Sized) (hz : s.svc.sanitizing.contains gib = true) :
    ∃ u, exec (.dcSanitizeDone gib) s = .next u ∧ u.svc.sanitizing = s.svc.sanitizing.filter (fun g => decide (g ≠ gib)) ∧
      u.pkgReports Ev.DC_SANITIZE_DONE :=
  ⟨_, execDcSanitizeDone_zeroes gib s hin hz, (s.zeroes_zeroLines (gib * 2 ^ 30) blockLines).zeroed gib hs⟩

/-! ### Commands that commit configuration (R367, R369, R385, R436) -/

theorem State.mbCommit_applies (s : State) (q : Requester) (items : Items) (hfault : items.findSome? s.itemFault = none) (hin : s.inService = true)
    (hroom : s.mgmt.sets.length < 8) (hitems : items ≠ []) (hvalid : s.validate (sortItems items) = none) :
    s.mbCommit q items = (s.commitWhole q (sortItems items)).mbDone [] := by
  unfold State.mbCommit
  rw [hfault, if_neg (by simp [hin]), if_neg (by omega), s.commitSet_applies q 0xFFFFFFFF items (.inl rfl) hitems hvalid]
/-- Where the object PATROL_INTERVAL lies. -/
def patrolIntervalPlace : ObPlace := { row := obRow Ob.PATROL_INTERVAL 0 .one 1 .rws (.between 6 96), i := 0, off := 0 }
theorem State.itemFault_patrolInterval (s : State) (v : Nat) (hv : 6 ≤ v ∧ v ≤ 96) : s.itemFault (Ob.PATROL_INTERVAL, v) = none := by
  have hhere : s.findOb (Ob.PATROL_INTERVAL / 256) (Ob.PATROL_INTERVAL % 256) = some patrolIntervalPlace :=
    s.findOb_cell patrolIntervalPlace.row 0 (by decide) (by decide) rfl (by decide)
  have hrange : s.inRange patrolIntervalPlace v = true := decide_eq_true hv
  unfold State.itemFault
  simp only [hhere, hrange, if_true]
theorem setFeature_commits (p l cycle : Nat) (s : State) (hfree : s.MailboxFree p l) (hin : s.inService = true) (hs : s.Sized) (hlo : 6 ≤ cycle)
    (hhi : cycle ≤ 96) (hroom : s.mgmt.sets.length < 8) (hvalid : s.validate (sortItems [(Ob.PATROL_INTERVAL, cycle)]) = none) :
    ∃ u, exec (.setFeature p l 0 cycle true) s = .next u ∧ u.Completes p l 0x0502 Rc.success [] ∧ u.cell Ob.PATROL_INTERVAL 96 = cycle ∧
      u.cell Ob.CONFIG_GENERATION 0 = min 0xFFFFFFFE (s.cell Ob.CONFIG_GENERATION 0 + 1) ∧ u.pkgReports Ev.COMMIT_APPLIED := by
  have hcommit := s.mbCommit_applies (mailboxOf p l) [(Ob.PATROL_INTERVAL, cycle)]
    (by simp [s.itemFault_patrolInterval cycle ⟨hlo, hhi⟩]) hin hroom (by simp) hvalid
  have hdone := s.commitWhole_commits (mailboxOf p l) (sortItems [(Ob.PATROL_INTERVAL, cycle)])
  generalize s.commitWhole (mailboxOf p l) (sortItems [(Ob.PATROL_INTERVAL, cycle)]) = u at hcommit hdone
  obtain ⟨ms, cnt, hexec, hreply⟩ := hfree.succeeds (u := u) (i := .setFeature p l 0 cycle true) rfl hin
    ((if_neg (not_not_intro rfl)).trans ((if_neg (by decide)).trans ((if_neg (by omega)).trans hcommit)))
  refine ⟨_, hexec, hreply, (hdone.patrol 96).trans (Sparse.getD_insert_same ..), hdone.generation (fun v hmem => ?_),
    State.reports_of_recs u _ 8 _ rfl (hdone.reports hs.package_recorder)⟩
  exact absurd (congrArg Prod.fst (List.mem_singleton.1 ((mem_sortItems _ _).1 hmem))) (by show ¬Ob.CONFIG_GENERATION = Ob.PATROL_INTERVAL; decide)
/-- An FM API command that commits configuration. -/
theorem State.FmFree.commits {s : State} {q : Requester} {p : Nat} (hfree : s.FmFree q p) {i : Instr} {op : Nat} {f : Requester → State → MbEnd}
    {items : Items} (hi : exec i s = .next (s.fm q p op .write f)) (hin : s.inService = true) (hf : ∀ r, f r s = s.mbCommit r items)
    (hfault : items.findSome? s.itemFault = none) (hroom : s.mgmt.sets.length < 8) (hitems : items ≠ [])
    (hvalid : s.validate (sortItems items) = none) (hnot : ∀ v, (Ob.CONFIG_GENERATION, v) ∉ items) :
    ∃ u, exec i s = .next u ∧ u.Completes p fmLd op Rc.success [] ∧
      u.cell Ob.CONFIG_GENERATION 0 = min 0xFFFFFFFE (s.cell Ob.CONFIG_GENERATION 0 + 1) := by
  have hcommit := s.mbCommit_applies (fmRequester q p) items hfault hin hroom hitems hvalid
  have hdone := s.commitWhole_commits (fmRequester q p) (sortItems items)
  generalize s.commitWhole (fmRequester q p) (sortItems items) = u at hcommit hdone
  obtain ⟨ms, cnt, hexec, hreply⟩ := hfree.succeeds (u := u) hi hin ((hf _).trans hcommit)
  exact ⟨_, hexec, hreply, hdone.generation (fun v hmem => hnot v ((mem_sortItems _ _).1 hmem))⟩
theorem generation_ne_ldKey (key p l r : Nat) (h : Ob.CONFIG_GENERATION < key) : Ob.CONFIG_GENERATION ≠ ldKey key p l + r := by
  simp only [ldKey, Ob.inst]
  omega
theorem setLdAllocations_commits (q : Requester) (p first : Nat) (allocs : List (Nat × Nat)) (s : State) (hfree : s.FmFree q p)
    (hin : s.inService = true) (hroom : s.mgmt.sets.length < 8) (hfit : first + allocs.length ≤ 16) (hsome : allocs ≠ []) :
    let items : Items := (allocs.zipIdx.map (fun x =>
      [(ldKey Ob.LD_ALLOC_BASE p (first + x.2), x.1.1), (ldKey Ob.LD_ALLOC_SIZE p (first + x.2), x.1.2)])).flatten
    items.findSome? s.itemFault = none → s.validate (sortItems items) = none →
    ∃ u, exec (.setLdAllocations q p first allocs) s = .next u ∧ u.Completes p fmLd 0x5402 Rc.success [] ∧
      u.cell Ob.CONFIG_GENERATION 0 = min 0xFFFFFFFE (s.cell Ob.CONFIG_GENERATION 0 + 1) := by
  intro items hfault hvalid
  refine hfree.commits (items := items) rfl hin (fun r => if_neg (by omega)) hfault hroom ?_ hvalid (fun v hmem => ?_)
  · obtain ⟨x, rest, rfl⟩ := List.exists_cons_of_ne_nil hsome
    simp [items, List.zipIdx_cons]
  · obtain ⟨l, hl, hx⟩ := List.mem_flatten.1 hmem
    obtain ⟨x, -, rfl⟩ := List.mem_map.1 hl
    simp only [List.mem_cons, List.not_mem_nil, or_false, Prod.mk.injEq] at hx
    obtain ⟨h, -⟩ | ⟨h, -⟩ := hx
    · exact generation_ne_ldKey Ob.LD_ALLOC_BASE p _ 0 (by decide) h
    · exact generation_ne_ldKey Ob.LD_ALLOC_SIZE p _ 0 (by decide) h
theorem setDcRegionConfiguration_commits (q : Requester) (p l region : Nat) (cfg : Region) (s : State) (hfree : s.FmFree q p)
    (hin : s.inService = true) (hroom : s.mgmt.sets.length < 8) (hregion : region < 8) (hl : l < 16) (hsize : cfg.size < 2 ^ 14)
    (hoff : cfg.off < 2 ^ 14) (hfault : s.itemFault (ldKey Ob.DCR_CFG p l + region, cfg.cfg) = none)
    (hvalid : s.validate [(ldKey Ob.DCR_CFG p l + region, cfg.cfg)] = none) :
    ∃ u, exec (.setDcRegionConfiguration q p l region cfg) s = .next u ∧ u.Completes p fmLd 0x5602 Rc.success [] ∧
      u.cell Ob.CONFIG_GENERATION 0 = min 0xFFFFFFFE (s.cell Ob.CONFIG_GENERATION 0 + 1) := by
  refine hfree.commits (items := [(ldKey Ob.DCR_CFG p l + region, cfg.cfg)]) rfl hin (fun r => (if_neg (by omega)).trans (if_neg (by omega)))
    (by simp [hfault]) hroom (by simp) hvalid (fun v hmem => ?_)
  exact generation_ne_ldKey Ob.DCR_CFG p l region (by decide) (congrArg Prod.fst (List.mem_singleton.1 hmem))

/-! ### O48 -/

/-- Settles O48: blocks by what their release and acceptance write, the zeros of a block by what each line's write leaves, the commands that commit by
what a COMMIT leaves. -/
theorem capacityCommands : Obligations.CapacityCommands := by
  unfold Obligations.CapacityCommands
  exact ⟨addDynamicCapacityResponse_adds, releaseDynamicCapacity_releases, initiateDynamicCapacityAdd_pends, initiateDynamicCapacityRelease_releases,
    dcSanitizeDone_ends, setFeature_commits,
    fun q p first allocs s hfree hin _ hroom hfit hsome => setLdAllocations_commits q p first allocs s hfree hin hroom hfit hsome,
    fun q p l region cfg s hfree hin _ hroom => setDcRegionConfiguration_commits q p l region cfg s hfree hin hroom⟩

end Sys2Proof.Machine
end

section
/-! Proofs of 15_object_dictionary.md: objects written and read, staged sets, messages (R420 to R439, R442). -/
namespace Sys2Proof.Machine
open Sys2Proof

/-! ### Operations on an object that is there (R421, R422, R425) -/

theorem State.notReady_of_inService {s : State} (h : s.inService = true) : s.notReady = false := by simp [State.notReady, h]

section
variable {s : State} {q : Requester} {index sub : Nat} {p : ObPlace} (hin : s.inService = true) (hp : s.findOb index sub = some p)
include hin hp

theorem State.runOp_read (value : List Nat) : s.runOp q { op := 1, sub := sub, index := index, value := value } = .now (s.readOp q p value) := by
  simp [State.runOp, State.notReady_of_inService hin, hp]
theorem State.runOp_readStaged (value : List Nat) :
    s.runOp q { op := 3, sub := sub, index := index, value := value } = .now (s.readStagedOp q p value) := by
  simp [State.runOp, State.notReady_of_inService hin, hp]
theorem State.runOp_refused {value : List Nat} {code detail : Nat}
    (hf : s.writeFault q index p value (s.writeMask p (ofBytesLE value)) = some (code, detail)) :
    s.runOp q { op := 2, sub := sub, index := index, value := value } = .now (s.refused code detail) := by
  rw [s.runOp_write q index sub value p hin hp, State.writeOp]
  simp only [hf]
theorem State.runOp_now {value : List Nat} (ha : p.access = .rw)
    (hf : s.writeFault q index p value (s.writeMask p (ofBytesLE value)) = none) :
    s.runOp q { op := 2, sub := sub, index := index, value := value } =
      .now ((s.setCell p.cell (s.writeMask p (ofBytesLE value))).done []) := by
  rw [s.runOp_write q index sub value p hin hp, State.writeOp]
  have hconfig : p.isConfig = false := by simp [ObPlace.isConfig, ha]
  simp only [hf, hconfig, Bool.false_eq_true, if_false, ha, State.writeNow, reduceCtorEq]
  rfl
theorem State.runOp_stage {value : List Nat} (hc : p.isConfig = true)
    (hf : s.writeFault q index p value (s.writeMask p (ofBytesLE value)) = none) :
    s.runOp q { op := 2, sub := sub, index := index, value := value } = .now (s.stageWrite q p (s.writeMask p (ofBytesLE value))) := by
  rw [s.runOp_write q index sub value p hin hp, State.writeOp]
  simp only [hf, hc, if_true]
theorem State.runOp_w1c {value : List Nat} (ha : p.access = .w1c)
    (hf : s.writeFault q index p value (s.writeMask p (ofBytesLE value)) = none) :
    s.runOp q { op := 2, sub := sub, index := index, value := value } = .now (s.w1cWrite p (s.writeMask p (ofBytesLE value))) := by
  rw [s.runOp_write q index sub value p hin hp, State.writeOp]
  have hconfig : p.isConfig = false := by simp [ObPlace.isConfig, ha]
  simp only [hf, hconfig, Bool.false_eq_true, if_false, ha]

end

/-- A write is refused with a code of its own (R428). -/
theorem State.writeFault_code {s : State} {q : Requester} {index v code detail : Nat} {p : ObPlace} {value : List Nat}
    (h : s.writeFault q index p value v = some (code, detail)) : code ≠ 0 := by
  have hcodes : s.writeFault q index p value v = none ∨ ∃ e ∈ [(Err.access, 0), (Err.rights, 0), (Err.type, 0), (Err.range, 0), (Err.locked, 0),
      (Err.state, Detail.device), (Err.state, Detail.tile)], s.writeFault q index p value v = some e := by
    unfold State.writeFault
    (repeat' split) <;> simp
  obtain hnone | ⟨e, he, hsome⟩ := hcodes
  · cases hnone.symm.trans h
  · obtain rfl : e = (code, detail) := Option.some.inj (hsome.symm.trans h)
    rintro rfl
    have hall : ∀ e ∈ [(Err.access, 0), (Err.rights, 0), (Err.type, 0), (Err.range, 0), (Err.locked, 0), (Err.state, Detail.device),
        (Err.state, Detail.tile)], e.1 ≠ 0 := by decide
    exact hall _ he rfl

/-! ### Staged sets (R433) -/

theorem State.setOf_dropSet_ne (s : State) (q r : Requester) (h : r ≠ q) : (s.dropSet q).setOf r = s.setOf r := by
  show (s.mgmt.sets.filter (fun x => decide (x.req ≠ q))).find? (fun x => decide (x.req = r)) = _
  rw [List.find?_filter]
  refine List.find?_congr (fun x _ => ?_)
  by_cases hx : x.req = r <;> simp [hx, h]
theorem State.setOf_modSet (s : State) (q : Requester) (f : StagedSet → StagedSet) (hf : ∀ x, (f x).req = x.req) :
    (s.modSet q f).setOf q = (s.setOf q).map f := by
  show (s.mgmt.sets.map (fun x => if x.req = q then f x else x)).find? (fun x => decide (x.req = q)) = _
  unfold State.setOf
  induction s.mgmt.sets with
  | nil => rfl
  | cons x l ih =>
    by_cases hx : x.req = q
    · simp [hx, hf]
    · simpa [hx] using ih

/-! ### Status bits (R437) -/

/-- Above and below a bit that is set, the number is that of the bits there. -/
theorem two_pow_split (v b : Nat) (hb : v.testBit b = true) : v = 2 ^ (b + 1) * (v / 2 ^ (b + 1)) + (2 ^ b + v % 2 ^ b) := by
  have hbit : v / 2 ^ b % 2 = 1 := by simpa [Nat.testBit, Nat.shiftRight_eq_div_pow, Nat.one_and_eq_mod_two] using hb
  have hlow := Nat.div_add_mod v (2 ^ b)
  have hhigh := Nat.div_add_mod (v / 2 ^ b) 2
  rw [hbit, Nat.div_div_eq_div_mul, ← Nat.pow_succ] at hhigh
  calc v = 2 ^ b * (v / 2 ^ b) + v % 2 ^ b := hlow.symm
    _ = 2 ^ b * (2 * (v / 2 ^ (b + 1)) + 1) + v % 2 ^ b := by rw [hhigh]
    _ = 2 ^ (b + 1) * (v / 2 ^ (b + 1)) + (2 ^ b + v % 2 ^ b) := by ring
theorem testBit_clearBit (v b i : Nat) : (clearBit v b).testBit i = (v.testBit i && !decide (i = b)) := by
  unfold clearBit
  split
  next hb =>
    have hsplit := two_pow_split v b hb
    have hlow : v % 2 ^ b < 2 ^ b := Nat.mod_lt _ (Nat.two_pow_pos b)
    have hdouble : 2 ^ (b + 1) = 2 ^ b + 2 ^ b := by ring
    have hwith := Nat.testBit_two_pow_mul_add (v / 2 ^ (b + 1)) (show 2 ^ b + v % 2 ^ b < 2 ^ (b + 1) by omega) i
    have hless : v - 2 ^ b = 2 ^ (b + 1) * (v / 2 ^ (b + 1)) + v % 2 ^ b := by omega
    rw [← hsplit] at hwith
    rw [hless, hwith, Nat.testBit_two_pow_mul_add _ (by omega)]
    obtain hi | rfl | hi := Nat.lt_trichotomy i b
    · rw [if_pos (by omega), if_pos (by omega), Nat.testBit_two_pow_add_gt hi]
      simp [Nat.ne_of_lt hi]
    · rw [if_pos (Nat.lt_succ_self i), Nat.testBit_lt_two_pow hlow]
      simp
    · rw [if_neg (by omega), if_neg (by omega)]
      simp [Nat.ne_of_gt hi]
  next hb =>
    by_cases hi : i = b
    · subst hi
      simp [Bool.eq_false_of_not_eq_true hb]
    · simp [hi]
theorem testBit_foldl_clearBit (l : List Nat) (lo v i : Nat) :
    (l.foldl (fun m k => clearBit m (lo + k)) v).testBit i = (v.testBit i && !l.any (fun k => decide (i = lo + k))) := by
  induction l generalizing v with
  | nil => simp
  | cons k l ih => rw [List.foldl_cons, ih, testBit_clearBit, List.any_cons, Bool.not_or, Bool.and_assoc]
/-- A write clears the bits of its row that it names. -/
theorem named_any (v lo count i : Nat) :
    ((List.range count).filter (fun k => v.testBit (lo + k))).any (fun k => decide (i = lo + k)) =
      (v.testBit i && decide (lo ≤ i ∧ i < lo + count)) := by
  rw [Bool.eq_iff_iff]
  simp only [List.any_eq_true, List.mem_filter, List.mem_range, decide_eq_true_eq, Bool.and_eq_true]
  constructor
  · rintro ⟨k, ⟨hk, hbit⟩, rfl⟩
    exact ⟨hbit, by omega⟩
  · rintro ⟨hbit, hlo, hhi⟩
    have hi : lo + (i - lo) = i := by omega
    exact ⟨i - lo, ⟨by omega, by rw [hi]; exact hbit⟩, hi.symm⟩
/-- What the write of a row of status bits leaves and returns. -/
theorem State.w1cWrite_done (s : State) (p : ObPlace) (v lo count occ : Nat)
    (hrow : w1cRows.find? (fun x => decide (x.1 = p.row.key)) = some (p.row.key, lo, count, occ)) : ∃ left rest,
      s.w1cWrite p v = (s.setCell p.cell left).done (bytesLE 4 (s.applied p ||| s.liveBits p) ++ rest) ∧
      ∀ b, left.testBit b = ((s.applied p).testBit b && !(v.testBit b && decide (lo ≤ b ∧ b < lo + count))) := by
  unfold State.w1cWrite
  simp only [hrow]
  exact ⟨_, _, rfl, fun b => by rw [testBit_foldl_clearBit, named_any]⟩

/-! ### Each operation as a message (R425, R426) -/

section
variable {q : Requester} {s : State} (ht : s.Takes q) (hin : s.inService = true) {index sub : Nat} {p : ObPlace} (hsub : sub < 256)
  (hp : s.findOb index sub = some p)
include ht hin hsub hp

theorem objectWrite_acts (value : List Nat) (ha : p.access = .rw) (hf : s.writeFault q index p value (s.writeMask p (ofBytesLE value)) = none) :
    ∃ u, exec (.objectWrite q index sub value) s = .next u ∧ u.cell p.cell 0 = s.writeMask p (ofBytesLE value) ∧
      s.Replies u q (index * 256 + sub) 0 0 [] ∧ (∀ k d, k ≠ p.cell → u.cell k d = s.cell k d) ∧ u.tiles = s.tiles ∧ u.ports = s.ports ∧
      u.parts = s.parts ∧ u.mgmt = s.mgmt := by
  obtain ⟨out, cnt, hone, hreply⟩ := ht.oneOp_done hsub (State.runOp_now hin hp ha hf) rfl
  exact ⟨_, congrArg Host.Outcome.next hone, State.cell_setCell_same .., hreply, fun k d hk => State.cell_setCell_ne _ _ _ _ _ hk.symm, rfl, rfl, rfl, rfl⟩
theorem objectWrite_stages (value : List Nat) (x : StagedSet) (hc : p.isConfig = true)
    (hf : s.writeFault q index p value (s.writeMask p (ofBytesLE value)) = none) (hx : s.setOf q = some x) (hroom : x.items.length < 1024) :
    ∃ u y, exec (.objectWrite q index sub value) s = .next u ∧ u.setOf q = some y ∧
      Sparse.find y.items p.cell = some (s.writeMask p (ofBytesLE value)) ∧ (∀ k, k ≠ p.cell → Sparse.find y.items k = Sparse.find x.items k) ∧
      s.Replies u q (index * 256 + sub) 0 0 [] ∧ u.obj = s.obj ∧ u.tiles = s.tiles ∧ u.parts = s.parts := by
  let v := s.writeMask p (ofBytesLE value)
  let f : StagedSet → StagedSet := fun y => { y with items := Sparse.insert y.items p.cell v, touched := s.pkgNow }
  have hstage : s.stageWrite q p v = (s.modSet q f).done [] := by
    unfold State.stageWrite
    simp only [hx]
    exact if_neg (by omega)
  obtain ⟨out, cnt, hone, hreply⟩ := ht.oneOp_done hsub ((State.runOp_stage hin hp hc hf).trans (congrArg OpEnd.now hstage)) rfl
  refine ⟨_, f x, congrArg Host.Outcome.next hone, ?_, Sparse.find_insert_same .., fun k hk => Sparse.find_insert_ne _ _ _ _ hk.symm, hreply, rfl, rfl,
    rfl⟩
  refine (s.setOf_modSet q f (fun _ => rfl)).trans ?_
  rw [hx]
  rfl
theorem readStaged_returns (v : Nat) (x : StagedSet) (hc : p.isConfig = true) (hx : s.setOf q = some x) (hv : Sparse.find x.items p.cell = some v) :
    ∃ u, exec (.readStaged q index sub) s = .next u ∧ s.Replies u q (index * 256 + sub) 0 0 (bytesLE p.row.size v) ∧ u.obj = s.obj ∧
      u.tiles = s.tiles := by
  have hread : s.readStagedOp q p [] = (s.modSet q (fun x => { x with touched := s.pkgNow })).done (bytesLE p.row.size v) := by
    unfold State.readStagedOp
    rw [if_neg (by simp [hc]), if_neg (not_not_intro rfl), hx]
    simp only [Option.bind_some, hv, Option.getD_some]
  obtain ⟨out, cnt, hone, hreply⟩ := ht.oneOp_done hsub ((State.runOp_readStaged hin hp []).trans (congrArg OpEnd.now hread)) rfl
  exact ⟨_, congrArg Host.Outcome.next hone, hreply, rfl, rfl⟩
theorem objectWrite_refuses (hs : s.Sized) (value : List Nat) (code detail : Nat)
    (hf : s.writeFault q index p value (s.writeMask p (ofBytesLE value)) = some (code, detail)) :
    ∃ u, exec (.objectWrite q index sub value) s = .next u ∧ s.Replies u q (index * 256 + sub) code detail [] ∧ u.tiles = s.tiles ∧
      u.parts = s.parts ∧ u.mgmt = s.mgmt ∧ u.keys = s.keys ∧ u.pkgReports Ev.DICT_ERROR ∧ (∀ k d, k ∉ errorObs → u.cell k d = s.cell k d) := by
  obtain ⟨out, cnt, hone, hreply⟩ := ht.oneOp_ends hsub (State.runOp_refused hin hp hf) rfl
  obtain ⟨key, hlog⟩ := finishOp_error q { op := 2, sub := sub, index := index, value := value } (s.refused code detail) (State.writeFault_code hf)
  obtain ⟨obj, cnt', recs, hframe⟩ := s.logError_frame q code detail key
  have hreports := s.logError_reports q code detail key hs.package_recorder
  have hcells := fun k d hk => s.logError_cell_ne q code detail key k d hk
  rw [hlog] at hone hreply
  rw [show (s.refused code detail).st.logError q (s.refused code detail).code (s.refused code detail).detail key =
    s.logError q code detail key from rfl] at hone hreply
  rw [hframe] at hone hreply hreports hcells
  exact ⟨_, congrArg Host.Outcome.next hone, hreply, rfl, rfl, rfl, rfl, State.reports_of_recs { s with obj := obj, cnt := cnt', recs := recs } _ 8 _ rfl
    hreports, hcells⟩
theorem w1cWrite_clears (v lo count occ : Nat) (hv : v < 2 ^ 32) (ha : p.access = .w1c)
    (hf : s.writeFault q index p (bytesLE 4 v) (s.writeMask p v) = none) (hmask : s.writeMask p v = v)
    (hrow : w1cRows.find? (fun x => decide (x.1 = p.row.key)) = some (p.row.key, lo, count, occ)) :
    ∃ u data, exec (.w1cWrite q index sub v) s = .next u ∧ s.Replies u q (index * 256 + sub) 0 0 data ∧
      data.take 4 = bytesLE 4 (s.applied p ||| s.liveBits p) ∧
      (∀ b, (u.cell p.cell 0).testBit b = ((s.applied p).testBit b && !(v.testBit b && decide (lo ≤ b ∧ b < lo + count)))) ∧
      (∀ k d, k ≠ p.cell → u.cell k d = s.cell k d) ∧ u.tiles = s.tiles := by
  have hvalue : ofBytesLE (bytesLE 4 v) = v := ofBytesLE_bytesLE_of_lt 4 v hv
  obtain ⟨left, rest, hdone, hleft⟩ := s.w1cWrite_done p v lo count occ hrow
  have hrun := State.runOp_w1c hin hp ha (value := bytesLE 4 v) (by rw [hvalue]; exact hf)
  rw [hvalue, hmask, hdone] at hrun
  obtain ⟨out, cnt, hone, hreply⟩ := ht.oneOp_done hsub hrun rfl
  refine ⟨_, _, congrArg Host.Outcome.next hone, hreply, ?_, fun b => ?_, fun k d hk => State.cell_setCell_ne _ _ _ _ _ hk.symm, rfl⟩
  · exact List.take_left' (bytesLE_length 4 _)
  · rw [← hleft b]
    exact congrArg (fun c => Nat.testBit c b) (State.cell_setCell_same ..)
/-- A message of one READ (R425). -/
theorem State.Takes.oneRead (hr : p.access.readable = true) (hrec : s.recorderGone p = false) (hcnt : s.counterGone p = false) :
    ∃ u, s.oneOp q 1 index sub [] = u ∧ s.Replies u q (index * 256 + sub) 0 0 (s.readOb q p) ∧ u.obj = s.obj ∧ u.tiles = s.tiles := by
  have hread : s.readOp q p [] = s.done (s.readOb q p) := by
    unfold State.readOp
    rw [if_neg (by simp [hr]), if_neg (not_not_intro rfl), if_neg (by simp [hrec, hcnt])]
  obtain ⟨out, cnt, hone, hreply⟩ := ht.oneOp_done hsub ((State.runOp_read hin hp []).trans (congrArg OpEnd.now hread)) rfl
  exact ⟨_, hone, hreply, rfl, rfl⟩

end

/-! ### Sets discarded and expired (R433) -/

/-- The row of STAGE_DISCARD. -/
def stageDiscardRow : ObRow := obRow Ob.STAGE_DISCARD 0 .one 4 .cmd (.between 1 1)
theorem stageDiscard_drops (q : Requester) (x : StagedSet) (s : State) (ht : s.Takes q) (hin : s.inService = true) (hx : s.setOf q = some x) :
    ∃ u, exec (.stageDiscard q 1) s = .next u ∧ u.setOf q = none ∧ (∀ r, r ≠ q → u.setOf r = s.setOf r) ∧
      s.Replies u q Ob.STAGE_DISCARD 0 0 [] ∧ u.obj = s.obj ∧ u.tiles = s.tiles := by
  have hp : s.Permits q ⟨stageDiscardRow, 0, 0⟩ 1 :=
    permits_free s q stageDiscardRow 0 1 (by decide +kernel) (by decide) rfl rfl (by decide) (fun h => ObInst.noConfusion h)
  have hgo : s.dropOwnSet q = (s.dropSet q).done [] := if_pos (by rw [hx]; rfl)
  obtain ⟨out, cnt, hwrite, hreply⟩ := hp.write_returns ht (.inl hin) (congrArg OpEnd.now hgo) rfl
  exact ⟨_, congrArg Host.Outcome.next hwrite, s.setOf_dropSet q, fun r hr => s.setOf_dropSet_ne q r hr, hreply, rfl, rfl⟩
theorem stageExpired_drops (q : Requester) (x : StagedSet) (s : State) (hx : s.setOf q = some x) (hup : s.serverUp = true)
    (hlate : x.touched + 600 * 10 ^ 9 ≤ s.pkgNow) (hs : s.Sized) :
    ∃ u, exec (.stageExpired q) s = .next u ∧ u.setOf q = none ∧ (∀ r, r ≠ q → u.setOf r = s.setOf r) ∧ u.pkgReports Ev.STAGE_EXPIRED ∧
      (u.cell Ob.DICT_STATUS 0).testBit 2 = true ∧ u.tiles = s.tiles ∧ u.out = s.out := by
  let s1 := (s.dropSet q).raise Ob.DICT_STATUS 2 (Ob.DICT_OCC + 2)
  have hexec : exec (.stageExpired q) s = .next (s1.pev Ev.STAGE_EXPIRED q.code [(4, x.items.length)]) := by
    show execStageExpired q s = _
    unfold execStageExpired
    simp only [hx]
    rw [if_pos ⟨hup, hlate⟩]
  have hset (r : Requester) : (s1.pev Ev.STAGE_EXPIRED q.code [(4, x.items.length)]).setOf r = (s.dropSet q).setOf r := by
    simp only [State.setOf, State.pev_mgmt]
    rfl
  refine ⟨_, hexec, (hset q).trans (s.setOf_dropSet q), fun r hr => (hset r).trans (s.setOf_dropSet_ne q r hr),
    State.pev_reports _ _ _ _ hs.package_recorder, ?_, State.pev_tiles .., State.pev_out ..⟩
  rw [State.pev_cell, State.raise_status _ _ _ _ (by decide)]
  exact testBit_setBit_same ..

/-! ### Messages (R424 to R426) -/

section
variable {q : Requester} {s : State} {bytes : List Nat} (hlen : bytes.length ≤ 16384) (htag : byteField bytes 4 2 = 0) (hstop : byteField bytes 3 1 = 0)
include hlen htag hstop

/-- A message of one operation is that operation. -/
theorem State.message_one {op index sub : Nat} {value : List Nat}
    (hops : requestOps bytes = some [{ op := op, sub := sub, index := index, value := value }]) : s.message q bytes = s.oneOp q op index sub value := by
  unfold State.message
  rw [if_neg (by omega), hops, htag, hstop]
  rfl
theorem staebMessage_malformed (hq : q.transport ≠ 3) (ht : s.Takes q) (hops : requestOps bytes = none) :
    ∃ u, exec (.staebMessage q bytes) s = .next u ∧ s.Replies u q 0 Err.type 0 [] ∧ u.tiles = s.tiles ∧ u.mgmt = s.mgmt := by
  obtain ⟨obj, cnt, recs, hlog⟩ := s.logError_frame q Err.type 0 0
  obtain ⟨out, cnt', hanswer, hreply⟩ := (s.logError q Err.type 0 0).answer_ends q { op := 0, sub := 0, index := 0, value := [] } Err.type 0 [] (by decide)
  rw [hlog] at hanswer hreply
  have hmessage : s.message q bytes =
      (s.logError q Err.type 0 0).answer q 0 false [respRecord Err.type { op := 0, sub := 0, index := 0, value := [] } s.dev.st.code 0 []] := by
    have hroom := ht.room
    unfold State.message State.malformed
    rw [if_neg (by omega), hops, htag, hstop]
    simp only [ht.up, ht.reach, ht.idle, Bool.not_true, Bool.or_self, Bool.false_eq_true, if_false, Bool.false_or, decide_eq_true_eq]
    exact if_neg (by omega)
  rw [hlog] at hmessage
  exact ⟨_, congrArg Host.Outcome.next ((if_neg hq).trans (hmessage.trans hanswer)), hreply, rfl, rfl⟩

end

theorem exec_staebExchange {port l : Nat} {bytes : List Nat} {s : State} (hfree : s.MailboxFree port l) (hvendor : s.vendorHere port l = true)
    (hlen : bytes.length ≤ 16384) (hops : (requestOps bytes).isSome = true) :
    exec (.staebExchange port l bytes) s = .next (s.message (mailboxOf port l) bytes) := by
  obtain ⟨hhere, hidle, hpowered, hcore, -⟩ := hfree
  exact congrArg Host.Outcome.next (if_pos (by simp [hhere, hidle, hpowered, hcore, hvendor, hlen, hops]))

/-! ### O49 -/

/-- Settles O49: each write by what its operation writes, a refused one by what the log of an error writes, the messages as the one operation that they
hold. -/
theorem objectsAreWritten : Obligations.ObjectsAreWritten := by
  unfold Obligations.ObjectsAreWritten
  refine ⟨fun q index sub value p s ht hin hsub hp ha hf => objectWrite_acts ht hin hsub hp value ha hf,
    fun q index sub value p x s ht hin hsub hp hc hf hx hroom => objectWrite_stages ht hin hsub hp value x hc hf hx hroom,
    fun q index sub v p x s ht hin hsub hp hc hx hv => readStaged_returns ht hin hsub hp v x hc hx hv,
    fun q index sub code detail value p s ht hin hs hsub hp hf => ?refused,
    fun q index sub v lo count occ p s ht hin hsub hv hp ha hf hmask hrow => w1cWrite_clears ht hin hsub hp v lo count occ hv ha hf hmask hrow,
    stageDiscard_drops, stageExpired_drops, fun q index sub bytes p s hq ht hin hsub hlen hops htag hstop hp hr hrec hcnt => ?message,
    fun port l index sub bytes p s hfree ht hvendor hin hsub hlen hops htag hstop hp hr hrec hcnt => ?exchange,
    fun q bytes s hq ht hlen hops htag hstop => staebMessage_malformed hlen htag hstop hq ht hops⟩
  case refused =>
    obtain ⟨u, hexec, hreply, htiles, hparts, hmgmt, hkeys, hreports, hcells⟩ := objectWrite_refuses ht hin hsub hp hs value code detail hf
    exact ⟨u, hexec, hreply, htiles, hparts, hmgmt, hkeys, hreports, fun k d hlast hstatus hocc =>
      hcells k d (by simp [errorObs, hlast, hstatus, hocc])⟩
  case message =>
    obtain ⟨u, hone, hrest⟩ := ht.oneRead hin hsub hp hr hrec hcnt
    exact ⟨u, congrArg Host.Outcome.next ((if_neg hq).trans ((State.message_one hlen htag hstop hops).trans hone)), hrest⟩
  case exchange =>
    obtain ⟨u, hone, hrest⟩ := ht.oneRead hin hsub hp hr hrec hcnt
    have hexec := exec_staebExchange hfree hvendor hlen (by rw [hops]; rfl)
    exact ⟨u, hexec.trans (congrArg Host.Outcome.next ((State.message_one hlen htag hstop hops).trans hone)), hrest⟩

end Sys2Proof.Machine
end
